-- ==== Sys2Proof/Word.lean ====
section
/-! DEFINITION. The plain words of the model: bytes, the widths of register fields, saturating counters and
sparse tables. Everything the spec could show wrong about bytes, fields and tables stands in Machine/Ops.lean. -/

namespace Sys2Proof

/-- One byte (R7). -/
abbrev Byte := BitVec 8

/-- A 32-bit register or field (R35). -/
abbrev U32 := BitVec 32

/-- A 64-bit Kertor general register or a 64-bit register access (R35, R366). -/
abbrev U64 := BitVec 64

/-- A sparse table: key and value pairs, keys strictly rising, no entry equal to the table's default. -/
abbrev Tbl (α : Type) := List (Nat × α)

/-- The value 2^32 - 1, at which the 32-bit counters of the spec saturate. -/
def max32 : Nat := 0xFFFFFFFF

/-- The value 2^64 - 1. -/
def max64 : Nat := 0xFFFFFFFFFFFFFFFF

end Sys2Proof
end

