-- ==== Sys2Proof/Machine/Parts/Kertor.lean ====
section
/-! DEFINITION. The state of Kertor cores (R359-R390) and of control stores, customer packages and customer routines
(R391-R407). -/

namespace Sys2Proof.Machine

/-- The cores that run Kertor code (R359): cells by region and cell number, pan controllers by region and pan, region
stewards, and the Skanel pair. -/
inductive CoreId where
  | lattice (r n : Nat)
  | number (r n : Nat)
  | hash (r n : Nat)
  | panCtl (r p : Nat)
  | steward (r : Nat)
  | skanel
deriving DecidableEq, Repr

/-- A product in flight (R374): the cycle from which it is readable, and PH:PL after it lands. -/
structure Flight where
  due : Nat
  value : Nat
deriving DecidableEq, Repr

/-- A Kertor core. `v` holds the f and v registers, f_n in the low 64 bits of v_n (R368); `ctl` the read-write control
registers by number but for STATUS; `lbase` is none where an unlisted byte of local memory is zero, and otherwise the
counter of the free values that a datapath command left there; `pair` the MATCH and MATCH_N outputs of the last
comparison command. -/
structure Core where
  pc : Nat
  g : Tbl U64 := []
  v : Tbl Nat := []
  ctl : Tbl U64 := []
  ie : Bool := false
  inh : Bool := false
  cust : Bool := false
  cycle : Nat := 0
  vl : Nat := 0
  ew : Nat := 4
  flight : List Flight := []
  lmem : Tbl Byte := []
  lbase : Option Nat := none
  pending : List Nat := []
  /-- WFI waits for an interrupt. -/
  waiting : Bool := false
  /-- Halted by a double fault (R387). -/
  halted : Bool := false
  pair : Bool × Bool := (false, true)
deriving DecidableEq, Repr

/-- A routine record of a customer package (R400). -/
structure Routine where
  number : Nat
  entry : Nat
  poll : Bool
  cell : Nat
  scratchKib : Nat
  saveKib : Nat
  maxUs : Nat
  nin : Nat
  nout : Nat
deriving DecidableEq, Repr

/-- A customer package (R400): its words as 160-bit numbers, from BASE on, and the whole package. -/
structure CustPkg where
  id : Nat
  version : Nat
  base : Nat
  instMask : Nat
  routines : List Routine
  words : List Nat
  bytes : List Byte
deriving DecidableEq, Repr

/-- A CUST.RUN job on its cell (R394, R396-R399, R403, R404). `inRun`: the Kertor core runs from a RUN word.
`asked`: a YIELD waits for the point its policy allows. `saved`: the state a yielded POLL routine keeps in its slots. -/
structure CustRun where
  /-- The CUST.RUN command; none for a run of DBG_RUN (R489). -/
  job : Option Nat
  core : CoreId
  pkg : CustPkg
  rt : Routine
  pc : Nat
  counter : Nat := 0
  stack : List Nat := []
  exitVal : U64 := 0
  inRun : Bool := false
  committed : Bool := false
  asked : Bool := false
  saved : Option Core := none
  opnds : Tbl (Tbl Byte) := []
  lens : Tbl Nat := []
  /-- The core's cycle at the last safe point of a POLL routine, or at the COMMIT of a RESTART routine (R396, R398). -/
  mark : Nat := 0
  /-- The tick since which it has its cell, and the nanoseconds it ran before (MAX_US, R398). -/
  since : Nat := 0
  ran : Nat := 0
deriving DecidableEq, Repr

/-- RGN_CUST_ registers and the packages a region holds (R401, R407): package places 0 to 7 by PKG_ID. -/
structure CustReg where
  quantumUs : Nat := 20
  runEn : Bool := true
  runs : Nat := 0
  errs : Nat := 0
  wdog : Nat := 0
  /-- Places whose current package the region holds (RGN_CUST_PKGS.CURRENT). -/
  held : List Nat := []
deriving DecidableEq, Repr

/-- The control store of a pan (PAN_CS_ registers, R406, R407). -/
structure Cs where
  reloading : Bool := false
  eccCorr : Nat := 0
  eccUnc : Nat := 0
deriving DecidableEq, Repr

/-- The customer side of the package: packages in their places, CUST.RUN jobs on cells, and jobs of CUST.LOAD and
CUST.UNLOAD whose effect is not yet DONE. -/
structure Cust where
  pkgs : Tbl CustPkg := []
  runs : List CustRun := []
deriving DecidableEq, Repr

end Sys2Proof.Machine
end

