-- ==== Sys2Proof/Machine/Parts/Manage.lean ====
section
/-! DEFINITION. The state of Skanel management and firmware updates (R458-R473), of the life cycle and the fuse map
(R474-R492), of the tamper and backup domain (R493-R510) and of the custody card port (R511-R523). -/

namespace Sys2Proof.Machine

/-- One bank of one image kind in boot flash (R460, R462): its bytes and its validity flag. -/
structure Bank where
  data : List Byte := []
  valid : Bool := false
deriving DecidableEq, Repr

/-- An image kind (R464, R473): its banks, which one is active (false: A), and its OTP rollback counter. -/
structure FwKind where
  bankA : Bank := {}
  bankB : Bank := {}
  active : Bool := false
  trial : Bool := false
  fallback : Bool := false
  counter : Nat := 0
deriving DecidableEq, Repr

/-- Who holds the role of update agent (R469), in the order of MGT_STATUS.AGENT. -/
inductive Agent where
  | mailbox | pldm
deriving DecidableEq, Repr

/-- A record of the management log (R461). -/
structure LogRec where
  seq : Nat
  type : Nat
  content : List Byte
deriving DecidableEq, Repr

/-- The state of a PLDM firmware update (R470, DSP0267). -/
inductive PldmState where
  | idle | learn | ready | download | verify | apply
deriving DecidableEq, Repr

/-- A PLDM firmware update: its state, the component of the present transfer, its size and the bytes in hand, and the
components applied. -/
structure Pldm where
  st : PldmState := .idle
  kind : Nat := 0
  size : Nat := 0
  got : Nat := 0
  applied : List Nat := []
deriving DecidableEq, Repr

/-- An SPDM session (R471): the requester's certificate slot, 0 where it has none of slots 1 to 3, and whether it runs over
DOE. -/
structure Spdm where
  slot : Nat
  doe : Bool
deriving DecidableEq, Repr

/-- An SPDM request (R471): a session opens with a requester of certificate slot `slot` (0: none of slots 1 to 3), over DOE or
MCTP; session `n` ends; SET_CERTIFICATE of an owner chain; IDE_KM makes the keys of a stream active in session `n`; any other
request, by its bytes. -/
inductive SpdmReq where
  | openSession (slot : Nat) (doe : Bool)
  | endSession (n : Nat)
  | setCertificate (slot : Nat) (chain : List Byte)
  | ideKm (n stream : Nat)
  | other (bytes : List Byte)
deriving DecidableEq, Repr

/-- A roll of R467 under way: its kind, the regions still to do, and whether the present one has been taken out. -/
structure Roll where
  kind : Nat
  todo : List Nat
  out : Option Nat := none
deriving DecidableEq, Repr

/-- The management subsystem (R458-R473). -/
structure Mgmt where
  kinds : Tbl FwKind := []
  agent : Option Agent := none
  /-- The tick of the agent's last update traffic (R469). -/
  agentTick : Nat := 0
  recovery : Bool := false
  /-- Firmware runs: its first heartbeat has come; and the tick of the newest heartbeat. -/
  running : Bool := false
  alive : Bool := false
  beat : Nat := 0
  /-- The Skanel pair is held in reset by the watchdog or a lockstep mismatch. -/
  held : Bool := false
  log : List LogRec := []
  logSeq : Nat := 0
  roll : Option Roll := none
  /-- An activation of management firmware under way (R61, R468): the activating request, none where PLDM started it, and the
  tick of entry to UPDATE. -/
  activating : Option (Option Nat × Nat) := none
  /-- The management firmware image that runs (R468). -/
  image : List Byte := []
  sensorSel : Nat := 0
  sbAddr : Nat := 0x64
  i3c : Bool := false
  eid : Nat := 0
  pldm : Pldm := {}
  spdm : List Spdm := []
  /-- Owner certificate chains of SPDM slots 1 to 3. -/
  chains : Tbl (List Byte) := []
  /-- SPDM requests over DOE that UPDATE holds (R471), oldest first. -/
  doeHeld : List SpdmReq := []
deriving DecidableEq, Repr

/-- The OTP of the life cycle (R475). `stage` is the number of LC_STAGE bits burned; the epoch and key-update counters stand
in the vault, the rollback counters with their image kinds, UNIT and REGION_EN among the fuses. -/
structure Otp where
  stage : Nat := 3
  lcCount : Nat := 0
  progress : Tbl Nat := []
  pufHelper : Bool := true
  vendorLc : List Byte := []
  vendorImg : List Byte := []
  imgPolicy : Nat := 3
  voucher : Bool := false
  authHash : List Byte := []
  ownerCfg : List Byte := []
  dbgCount : Nat := 0
  evidence : List Nat := [0, 0, 0, 0, 0, 0, 0, 0]
deriving DecidableEq, Repr

/-- An open debug session (R487-R490). -/
structure DebugSession where
  byCert : Bool
  rights : Nat
  held : Nat
  notAfter : Nat
deriving DecidableEq, Repr

/-- A debug session or a transition that waits for its regions to be diked, with the request that opened it; `none` is the
TAP. -/
structure DebugOpening where
  job : Option Nat
  session : DebugSession
deriving DecidableEq, Repr

/-- The life-cycle registers (R492), the TAP and the debug session. -/
structure Life where
  otp : Otp := {}
  resumed : Bool := false
  inTransition : Bool := false
  session : Option DebugSession := none
  opening : Option DebugOpening := none
  /-- PWRGD_MAIN to the first service mode, in us, at the last boot; and the tick at which the boot began. -/
  bootUs : Nat := 0
  bootTick : Nat := 0
  quick : Bool := false
  evidenceBurned : Bool := false
  kumApplied : Bool := false
  otpFail : Bool := false
  pufFail : Bool := false
  extestDenied : Bool := false
  dbgDenied : Bool := false
  /-- Status of the last DBG_AUTH (R491). -/
  dbgAuth : Nat := 0
  /-- The instruction in force in the TAP, and the boundary register (R491). -/
  tapIr : Nat := 0x02
  boundary : List Byte := []
  /-- Cells and pan controllers of held regions that are halted (R489). -/
  halted : List CoreId := []
  /-- Halted cores that are let through one word (DBG_HALT). -/
  steps : List CoreId := []
  testEn : Bool := false
deriving DecidableEq, Repr

/-- What the boot ROM finds (R485, R486): whether the OTP readings agree and the PUF reconstructs; for image kind k, bits [2k-2] and
[2k-1] of `banks` say whether its active bank and its other bank verify; the first setpoints in mV of the region rails and of
VDD_APX; and the monitors of the backup domain that do not respond (R504). -/
structure BootIn where
  otpOk : Bool
  pufOk : Bool
  banks : Nat
  rgnMv : Nat
  apxMv : Nat
  dead : List Nat := []
deriving DecidableEq, Repr

/-- A monitor under stimulation (R504): its UNIT and the end of its suppression window. -/
structure Stim where
  unit : Nat
  till : Nat
deriving DecidableEq, Repr

/-- A disturbance still in force (R497): the monitor's UNIT, the region of its domain (none: the package), the FSEQ of its
record, and whether secret-bearing dispatch has resumed. -/
structure Disturb where
  unit : Nat
  region : Option Nat
  fseq : Nat
  resumed : Bool := false
deriving DecidableEq, Repr

/-- The tamper registers and the backup domain (R498-R510). -/
structure Tamper where
  /-- The pending-evidence latch: classes that await their burn, and the tick of the first alarm (R506). -/
  latched : List Nat := []
  latchTick : Nat := 0
  /-- ERASE has run and its burns are due (R499 step 4); `epochDue` where the epoch bit is among them. -/
  burnDue : Bool := false
  epochDue : Bool := false
  /-- Classes that have burned since ZEROIZED was entered (R502). -/
  burned : List Nat := []
  vbatLow : Bool := false
  monFail : Bool := false
  disturb : List Nat := [0, 0, 0]
  testS : Nat := 60
  lastTick : Nat := 0
  lastUnit : Nat := 0
  vbatMv : Nat := 0
  inputs : Nat := 0
  zeroizeN : Bool := true
  /-- The backup domain lost its contents: the next BOOT burns BACKUP_LOSS (R507). -/
  backupLost : Bool := false
  /-- The next monitor of the rotation (R504). -/
  rotation : Nat := 0
  /-- The tick from which the next stimulation of the rotation is due (R504). -/
  stimAt : Nat := 0
  stims : List Stim := []
  disturbs : List Disturb := []
deriving DecidableEq, Repr

/-- A committed record on the seated card (R517, R518). -/
structure CardRec where
  lba : Nat
  header : List Byte
  body : List Byte
deriving DecidableEq, Repr

/-- What a card operation writes or reads next (R517, R521, R522). -/
inductive CardPhase where
  | header0 | header1 | zero | data | commit | read
deriving DecidableEq, Repr

/-- The card operation that runs (R513, R517): the command that started it, its phase, whether the busy phase has begun,
when, what is written, and whether a retry has been used (R512). -/
structure CardOp where
  job : Nat
  phase : CardPhase
  lba : Nat
  header : List Byte := []
  body : List Byte := []
  busy : Bool := false
  busySince : Nat := 0
  retried : Bool := false
  /-- The commit point has passed (R517, R522). -/
  committed : Bool := false
deriving DecidableEq, Repr

/-- The custody card port (R511-R523). `blocks` is the capacity of the seated card; its header, and its committed records in
order. -/
structure Card where
  detLow : Bool := false
  lowSince : Nat := 0
  present : Bool := false
  powered : Bool := false
  discharge : Bool := false
  /-- The tick from which the port may power a card again (R514). -/
  notBefore : Nat := 0
  mode : Nat := 0
  phase : Nat := 0
  v18 : Bool := false
  railOk : Bool := true
  maxMode : Nat := 3
  blocks : Nat := 0
  cardId : Nat := 0
  formatUnit : Nat := 0
  formatted : Bool := false
  recs : List CardRec := []
  op : Option CardOp := none
  ejecting : Bool := false
  inserts : Nat := 0
  removedOp : Nat := 0
  errors : Nat := 0
deriving DecidableEq, Repr

/-- The port powers the card down at tick `t` in the order of R514: the clock stops, CARD_PWR_EN falls, CARD_DISCH rises; no
card is powered until 10 ms later. -/
def Card.off (c : Card) (t : Nat) : Card :=
  { c with powered := false, discharge := true, notBefore := t + 10008000, mode := 0, phase := 0, formatted := false, op := none,
           ejecting := false }

end Sys2Proof.Machine
end

