-- ==== Sys2Proof/Machine/Parts/Keys.lean ====
section
/-! DEFINITION. The state of keys, the vault and the shelves (R330-R358) and of LMS keys (R190-R194). -/

namespace Sys2Proof.Machine

/-- A key's policy (R338). -/
structure Policy where
  attr : Nat := 0
  uses : Nat := 0
  validFrom : Nat := 0
  validTo : Nat := 0xFFFFFFFFFFFFFFFF
  usageLimit : Nat := 0
  minOrder : Nat := 0
  reserveLog2 : Nat := 0
  keyId : Nat := 0
deriving DecidableEq, Repr

/-- A record of the handle table (R335). `pinned` is the mark of KEY.PIN_PUBLIC, which follows a key to a new home
(R131). -/
structure KeyRec where
  inst : Nat
  cls : Nat
  gen : Nat
  idx : Nat
  keyId : Nat
  alg : Nat
  pol : Policy
  home : Nat
  blobAddr : Nat
  blobLen : Nat
  pubAddr : Nat := 0
  pubLen : Nat := 0
  /-- Entries the key takes in a shelf (R344). -/
  entries : Nat := 1
  usage : Nat := 0
  /-- A job has met the limit: every later one gives ST_KEY_LIMIT (R240). -/
  spent : Bool := false
  lmsId : Nat := 0
  /-- RSA modulus bits, or the SIZE of the key. -/
  size : Nat := 0
  pinned : Bool := false
  /-- The region in which the pin was last established (R131). -/
  pinAt : Nat := 0
  /-- The digest that tags the key's crystallizer entries (R129); empty where it has no lattice part. -/
  digest : List Byte := []
  /-- KEY.DELETE has freed the handle: the record stands for the commands of `keep` alone, which were dispatched before it (R350). -/
  dead : Bool := false
  keep : List Nat := []
deriving DecidableEq, Repr

/-- A key in a region's shelf (R116, R344): its lattice part as MIN_ORDER + 1 shares, its other secret part as 2, and its public
part. The shares of a part combine to its value by exclusive or (log 81). After KEY.EVICT or KEY.DELETE an entry stands for the
running commands of `kept` alone, and is zero-written when they end (R350); `kept` is empty before. -/
structure ShelfKey where
  inst : Nat
  keyId : Nat
  entries : Nat
  lru : Nat
  lattice : List (List Byte)
  other : List (List Byte)
  pub : List Byte
  kept : List Nat := []
deriving DecidableEq, Repr

/-- A state record of an LMS key (R190-R194): the next leaf, the raised limit RL and the block B, whether a raising
record is being written, and whether the next tree of a lower level is ready. -/
structure LmsRec where
  id : Nat
  inst : Nat
  keyId : Nat
  q : Nat := 0
  rl : Nat := 0
  b : Nat := 1024
  raising : Bool := false
  treeReady : Bool := true
  /-- Leaves of the whole HSS key, and of one tree of its lowest level. -/
  leaves : Nat := 0
  tree : Nat := 0
deriving DecidableEq, Repr

/-- A key update message in the pending slot of the owner area (R354). -/
structure KumSlot where
  counter : Nat
  op : Nat
  target : Nat
  payload : List Byte
  applied : Bool
deriving DecidableEq, Repr

/-- The vault on the apex (R330-R357) with the owner area of boot flash. -/
structure Vault where
  handles : List KeyRec := []
  rootReady : Bool := false
  /-- The star seed key of this boot, under which regions lend seeds, is held (R325). -/
  starKey : Bool := false
  cfgErr : Bool := false
  epoch : Nat := 0
  kum : Nat := 0
  plainImport : Bool := false
  hsel : Nat := 0
  blobFail : Nat := 0
  /-- The KEY_ID counter of the owner area (R341). -/
  nextKeyId : Nat := 1
  /-- The identifier of the next LMS state record: none is used twice, so that the blob of a deleted key meets no record (R190). -/
  nextLms : Nat := 1
  ownerSeed : Option (List Byte) := none
  /-- A replaced authority key: ALG and key (R353). -/
  authority : Option (Nat × List Byte) := none
  domainRoot : Tbl (List Byte) := []
  domainVer : Tbl Nat := []
  kumSlot : Option KumSlot := none
  lms : List LmsRec := []
deriving DecidableEq, Repr

end Sys2Proof.Machine
end

