-- ==== Sys2Proof/Machine/Parts/Queue.lean ====
section
/-! DEFINITION. The parts of State that carry commands: status codes (R68), submission entries and jobs (R74-R77,
R83), submission queues and completion rings (R70-R87), mailboxes (R54-R60) and instances (R92-R108). -/

namespace Sys2Proof.Machine

/-- The status codes of R68. -/
inductive Status where
  | ok | okAlready
  | malformed | lengthMismatch | badOpcode | badPath | badFragment
  | addrFault | outputShort
  | badHandle | handleStale | keyPolicy | blobInvalid | keyLimit | keyPeriod | algDisabled | maskFloor | leafExhausted
  | tagFail | rejectLimit | sigInvalid | paramUnsupported | decodeFail | contextTooLong
  | entropyUnavailable | busyOwned | noRegion | quota | mbxClosed | deferred
  | staleGeneration | foreignObject | instanceReset
  | abortedFault | retryTransient | releaseCheckFail
  | notPermitted | lifecycle | authFail | counter
  | timeQuality | portState | streamUnknown
  | cardRemoved | cardAbsent | cardFormat | cardIo | cardFull
deriving DecidableEq, Repr

/-- TYPE of a fragment descriptor (R76). -/
inductive FragKind where
  | input | output | inline
deriving DecidableEq, Repr

/-- A fragment descriptor (R76). -/
structure Frag where
  addr : Nat
  len : Nat
  kind : FragKind
  operand : Nat
  noSnoop : Bool
deriving DecidableEq, Repr

/-- Where a command came from: a submission queue or the instance's mailbox. -/
inductive Src where
  | sq (q : Nat)
  | mbx
deriving DecidableEq, Repr

/-- What a verb leaves when its work ends: the status, the output by operand, the bytes of a mailbox response, and
the length needed of ST_OUTPUT_SHORT (R69). -/
structure Res where
  status : Status
  outs : List (Nat × List Byte) := []
  resp : List Byte := []
  need : Nat := 0
  /-- The handle record that a creating verb enters when its output is written (R350), the key it leaves in the shelf,
  and the LMS state record. -/
  key : Option KeyRec := none
  shelf : Option ShelfKey := none
  lms : Option LmsRec := none
  /-- The energy of the whole operation, where the spec fixes it (R160). -/
  nj : Option Nat := none
deriving DecidableEq, Repr

/-- How far a command has come on its path (chapter 01, the path of a command). `fetching`: host reads of its input
are outstanding; `ready`: its inputs are at the apex; `sent` over the die link; `acked` by the region (R22); `running`
on a unit; `yielded` at a yield point; `checking`: its release check runs (R124); `returned`: its result is in apex
staging. -/
inductive Phase where
  | fetching | ready | sent | acked | running | yielded | checking | returned
deriving DecidableEq, Repr

/-- The kinds of unit a job of a region runs on. -/
inductive UnitKind where
  | lattice | number | hash | sponge | sym | vault | random
deriving DecidableEq, Repr

/-- Why an acknowledged job waits (R201, R202, R246, R319, R345, R119). -/
inductive Wait where
  | slots | pond | shelf | random | mask | leaf | object | cell
deriving DecidableEq, Repr

/-- An accepted command, from acceptance until its completion or response is posted. -/
structure Job where
  id : Nat
  src : Src
  inst : Nat
  gen : Nat
  opcode : Nat
  tag : Nat := 0
  cls : Nat := 1
  handle : U32
  param : U32
  reqId : Nat := 0
  target : Nat := 0
  frags : List Frag := []
  args : List Byte := []
  /-- Bytes of each input fragment that has arrived, by its index in `frags`. -/
  parts : Tbl (List Byte) := []
  /-- Indices of the input fragments whose host reads are outstanding. -/
  missing : List Nat := []
  order : Bool := false
  fence : Bool := false
  jfull : Bool := false
  notify : Bool := false
  jseq : Nat := 0
  acceptTick : Nat := 0
  acceptTq : Nat := 0
  deriving DecidableEq, Repr

/-- The classical part of a composite or hybrid job beside its lattice part (R157, R164). -/
structure Pair where
  /-- The pan and number cell that the part holds beside the unit. -/
  cell : Option (Nat × Nat) := none
  /-- The pans and cells on which the lattice and the classical part were signed. -/
  lat : Option (Nat × Nat) := none
  num : Option (Nat × Nat) := none
  /-- The region and number cell of its release check. -/
  check : Option (Nat × Nat) := none
  /-- The check of the classical part, and that of the lattice part, has passed. -/
  passed : Bool := false
  latPassed : Bool := false
  /-- The part that is signed again alone, true for the classical one; which parts have been; and the composite as it stands. -/
  again : Option Bool := none
  redone : Bool := false
  latRedone : Bool := false
  kept : List Byte := []
  deriving DecidableEq, Repr

/-- The progress of a command: the part of it that its path writes. -/
structure Prog where
  phase : Phase := .fetching
  region : Option Nat := none
  /-- The unit that runs it: kind, pan and number in the region. -/
  unit : Option (UnitKind × Nat × Nat) := none
  wait : Option Wait := none
  demoted : Bool := false
  reissued : Bool := false
  reruns : Nat := 0
  /-- It was re-issued, its inputs fetched again (R416, R419, R427). -/
  moved : Bool := false
  committed : Bool := false
  aux : Nat := 0
  energy : Nat := 0
  startTick : Nat := 0
  /-- The tick since which it holds its unit (quantum of R175, R205, R246). -/
  quantumTick : Nat := 0
  /-- Operand slots held as (pan, slot), and pond units held. -/
  slots : List (Nat × Nat) := []
  pond : Nat := 0
  /-- The region and lattice cell where its release check runs (R125). -/
  check : Option (Nat × Nat) := none
  /-- Random bytes the region has granted to its draw (R319). -/
  granted : Nat := 0
  /-- Bytes of the draw it waits for, and its use of its key counted (R319, R544). -/
  need : Nat := 0
  /-- The tick since which it waits. -/
  since : Nat := 0
  counted : Bool := false
  /-- Its key missed the shelf and was fetched for it (R345). -/
  missed : Bool := false
  /-- It runs on after a yield (CELL_NUM_STATUS.RESUMED). -/
  resumed : Bool := false
  /-- The unit it failed on, which its re-run avoids; with `avoidPan` the whole pan (R122, R127, R208, R428). -/
  avoid : Option (UnitKind × Nat × Nat) := none
  avoidPan : Bool := false
  /-- The effective masking order of a secret-bearing job, set at dispatch (R115); 0 for any other. -/
  order : Nat := 0
  pair : Pair := {}
  /-- Its release check has been run again after a fault pattern (R177). -/
  rechecked : Bool := false
  /-- A symmetric job runs unchecked; none until it is dispatched (R232). -/
  unchecked : Option Bool := none
  /-- The parameter set and key digest it probes the crystallizer with (R129). -/
  tag : Option (Nat × List Byte) := none
  /-- Mask bytes it has drawn (R119), and the energy of the stretch of work under way, which `energy` includes. -/
  masked : Nat := 0
  stretch : Nat := 0
  res : Option Res := none
  deriving DecidableEq, Repr

/-- A command with its progress. -/
structure Cmd where
  job : Job
  prog : Prog := {}
  deriving DecidableEq, Repr

/-- A submission queue's registers (R71) and its tail (R78). -/
structure Sq where
  base : Nat := 0
  log2 : Nat := 12
  cq : Nat := 0
  jclass : Nat := 0
  enable : Bool := false
  errCfg : Bool := false
  head : Nat := 0
  tail : Nat := 0
  dbRange : Bool := false
  skipped : Bool := false
  badEntry : Bool := false
  fetchFault : Bool := false
  /-- The units of a long entry at the fetch position that earlier turns have read into apex staging (R81). -/
  buf : List Byte := []
  /-- The read is tried again only at the next doorbell (R82). -/
  fetchStopped : Bool := false
deriving DecidableEq, Repr

/-- A completion ring's registers (R71), its head, its unreleased count W, and the ages of unsignalled completions
(R78, R84, R87). -/
structure Cq where
  base : Nat := 0
  log2 : Nat := 12
  vector : Nat := 0
  ien : Bool := false
  count : Nat := 1
  timeUs : Nat := 0
  enable : Bool := false
  errCfg : Bool := false
  dbRange : Bool := false
  writeFault : Bool := false
  /-- Posting is tried again only at the next head doorbell (R82). -/
  writeStopped : Bool := false
  tail : Nat := 0
  phase : Bool := true
  head : Nat := 0
  /-- Completions written and not released by a head doorbell. -/
  w : Nat := 0
  unsignalled : List Nat := []
deriving DecidableEq, Repr

/-- STATE of a mailbox (R57). CLOSED is never stored: a mailbox reads CLOSED by the package's mode and HALTED, over the
state it held before (R58, R61, R62). -/
inductive MbxState where
  | idle | busy | done | closed
deriving DecidableEq, Repr

/-- A mailbox (R54-R62): buffers as sparse bytes, control registers, the request served. -/
structure Mbx where
  req : Tbl Byte := []
  resp : Tbl Byte := []
  state : MbxState := .idle
  overrun : Bool := false
  refused : Bool := false
  reopened : Bool := false
  seq : Nat := 0
  vector : Nat := 0
  vecEn : Bool := false
  cur : Option Nat := none
deriving DecidableEq, Repr

/-- A frame ring of an instance (R283, R284). -/
structure FrameRing where
  base : Nat := 0
  log2 : Nat := 16
  vector : Nat := 0
  ien : Bool := false
  count : Nat := 1
  timeUs : Nat := 0
  enable : Bool := false
  errCfg : Bool := false
  dbRange : Bool := false
  writeFault : Bool := false
  /-- A write failed and no head doorbell has been accepted since (R285). -/
  stopped : Bool := false
  tail : Nat := 0
  phase : Bool := true
  head : Nat := 0
  drops : Nat := 0
  seq : Nat := 0
  /-- Tick and units of each entry written and not signalled (R87). -/
  unsignalled : List (Nat × Nat) := []
deriving DecidableEq, Repr

/-- INST_ADM_CFG and the quotas of an instance (R98). -/
structure InstCfg where
  pasid : Nat := 0
  pasidEn : Bool := false
  ideRequired : Bool := false
  ideBind : Bool := false
  ideStream : Nat := 0
  maxQp : Nat := 0
  pins : Nat := 0
  shelf : Nat := 0
  cryst : Nat := 0
  slotKib : Nat := 0
  affRegion : Nat := 0
  affEnable : Bool := false
  affThreshold : Nat := 64
  /-- VLT_HCAP: the cap on the instance's handles (R335). -/
  hcap : Nat := 0
deriving DecidableEq, Repr

/-- An entry of a function's MSI-X table (R34, R87): the message's address and data, and the mask bit, which the PCI Express
Base Specification sets at reset (log 69). -/
structure MsixEntry where
  addr : Nat := 0
  data : Nat := 0
  masked : Bool := true
deriving DecidableEq, Repr

/-- An instance (chapter 04): views, generation, queues, mailbox, kept REQ_IDs. -/
structure Inst where
  gen : Nat := 0
  handlePtr : Nat := 0
  energy : Nat := 0
  xlatAddr : Nat := 0
  xlatAccess : Nat := 0
  xlatCause : Nat := 0
  xlatCount : Nat := 0
  stale : Nat := 0
  demoted : Nat := 0
  cfg : InstCfg := {}
  resetting : Bool := false
  wrapDrain : Bool := false
  cfgErr : Bool := false
  ideFail : Bool := false
  mbx : Mbx := {}
  sqs : Tbl Sq := []
  cqs : Tbl Cq := []
  frings : Tbl FrameRing := []
  /-- The last 256 committed REQ_IDs with their opcodes, newest first (R67). -/
  kept : List (Nat × Nat) := []
  /-- Regions that have not reported a generation change (R103), and the tick of the notice. -/
  awaited : List Nat := []
  noticeTick : Nat := 0
  /-- The MSI-X table and the vectors set in the pending-bit array (R34). -/
  msix : Tbl MsixEntry := []
  pba : List Nat := []
  /-- MSI-X Enable and Function Mask, and ATS Enable, of the function's configuration space (R87, R99, log 69). -/
  msixEn : Bool := false
  msixMask : Bool := false
  atsEn : Bool := false
deriving DecidableEq, Repr

/-- A translation-cache entry (R100). -/
structure AtsEntry where
  inst : Nat
  gen : Nat
  pasid : Nat
  page : Nat
  sizeLog2 : Nat
deriving DecidableEq, Repr

end Sys2Proof.Machine
end

