-- ==== Sys2Proof/Machine/Parts/Event.lean ====
section
/-! DEFINITION. What commands of the block carry besides numbers: where an ECC error lies, and what a host-memory access
answers. -/

namespace Sys2Proof.Machine

/-- The owner of a word in which ECC finds an error (R424, R429): entry `n` of the crystallizer, the control store of pan
`p` with its vendor or customer partition, a shelf entry of instance `i`, a slot or pond unit that command `j` holds, a word
of region SRAM that nothing holds; on the apex the handle
table, queue staging or the journal ring. -/
inductive EccAt where
  | cryst (r n : Nat)
  | store (r p : Nat) (vendor : Bool)
  | shelf (r i keyId : Nat)
  | held (j : Nat)
  | free (r : Nat)
  | cell (r : Nat) (k : UnitKind) (n : Nat)
  | apex
deriving DecidableEq, Repr

/-- What a host-memory access answers (R82, R101): data, a denied translation, Unsupported Request or Completer Abort, or a
completion timeout. -/
inductive HostAns where
  | data (b : List Byte)
  | denied
  | ur
  | timeout
deriving DecidableEq, Repr

/-- What the access was for (R101): input fragment `n` of command `j`, output to fragment `n` of command `j`, a read of submission
queue `q` of instance `i`, a write of completion ring or frame ring `n`, the streamed or pinned key of command `j`, the journal
mirror at address `a`, or the translation of a page for instance `i`, of the size that the completion returns (R100). -/
inductive HostUse where
  | fragment (j n : Nat)
  | output (j n : Nat)
  | sqRead (i q : Nat)
  | cqWrite (i c : Nat)
  | ringWrite (i n : Nat)
  | key (j : Nat)
  | mirror (a : Nat)
  | translation (i page sizeLog2 : Nat)
deriving DecidableEq, Repr

/-- A space that DBG_READ names (R489, R491): `n` bytes from an offset of the bittern area, of bittern slot `k`, of the control store
of pan `p` of region `r`, of the local memory of a core, or of slot `id` of region `r`; or the register at `a` of BAR0 of function
`fn`. -/
inductive DbgSpace where
  | register (fn a : Nat)
  | bittern (o n : Nat)
  | slotRecord (k o n : Nat)
  | store (r p o n : Nat)
  | localMem (c : CoreId) (o n : Nat)
  | slotMem (r id o n : Nat)
deriving DecidableEq, Repr

/-- What DBG_HALT does to a core (R489): halts it, lets it through one word, resumes it, or reads its pc, g_n, v_n, control register n. -/
inductive DbgOp where
  | halt
  | step
  | resume
  | readPc
  | readG (n : Nat)
  | readV (n : Nat)
  | readCtl (n : Nat)
deriving DecidableEq, Repr

/-- A ring of an instance whose completions coalesce (R87, R285): completion ring or frame ring `n`. -/
inductive RingNo where
  | completion (n : Nat)
  | frame (n : Nat)
deriving DecidableEq, Repr

/-- The fields that FT_FUSE burns (R475). -/
structure FuseIn where
  unit : Nat
  regionEn : Nat
  vendorLc : List Byte
  vendorImg : List Byte
  imgPolicy : Nat
deriving DecidableEq, Repr

end Sys2Proof.Machine
end

