-- ==== Sys2Proof/Machine/Parts/Package.lean ====
section
/-! DEFINITION. The parts of State that belong to the package as a whole: modes (R28), region states (R36, R415),
faults (R427-R445), the command journal and the bittern record (R446-R457). -/

namespace Sys2Proof.Machine

/-- The twelve operating modes of R28. -/
inductive Mode where
  | off | backup | standby | boot | selfTest | service | partialService | degraded | update | debug | zeroized
  | factoryTest
deriving DecidableEq, Repr

/-- The region states of PKG_REGION_STATE (R36); `absent` is 0b111, no enabled region die. -/
inductive RState where
  | inService | draining | diked | testing | loading | rejoining | failed | absent
deriving DecidableEq, Repr

/-- The four pan power states of R408. -/
inductive PanPwr where
  | active | idle | nap | dormant
deriving DecidableEq, Repr

/-- The six fault classes of R427, least severe first. -/
inductive FClass where
  | note | retry | contain | fence | halt | erase
deriving DecidableEq, Repr

/-- The causes of R429, in the order of their codes 0x01 to 0x16. -/
inductive FCause where
  | eccCorr | eccUnc | eccUncApex | dupMismatch | matchPattern | releaseCheck | seqCheck | doubleFault | watchdog
  | lockstep | noiseSource | linkRetryRate | linkDegrade | badAccess | selfTest | disturbance | tamper | ringFull
  | monitorTest | overtemp | hostMemory | transferCheck
deriving DecidableEq, Repr

/-- The unit kinds of the fault record (R430). -/
inductive FKind where
  | latticeCell | numberCell | hashCell | pan | steward | dispatcher | symEngine | vaultCipher | randomness | dieLink
  | regionSram | queueEngine | verdictEngine | starHub | skanelPair | timeUnit | apexSram | monitor
deriving DecidableEq, Repr

/-- The unit a fault is charged to: LEVEL, REGION (none is 0xFF), KIND and UNIT of R430. -/
structure FUnit where
  level : Nat
  region : Option Nat
  kind : FKind
  unit : Nat
deriving DecidableEq, Repr

/-- The fault record of R430. `jseq = none` is FLAGS.JOB clear. -/
structure FaultRec where
  fseq : Nat
  tick : Nat
  cls : FClass
  on : FUnit
  cause : FCause
  transient : Bool := false
  lasting : Bool := false
  escalated : Bool := false
  acked : Bool := false
  subsumed : Bool := false
  injected : Bool := false
  from' : FClass
  jseq : Option Nat := none
deriving DecidableEq, Repr

/-- A record that awaits acknowledgement, with the tick at which its sluice timer expires (R434). -/
structure Pending where
  fseq : Nat
  expiry : Nat
deriving DecidableEq, Repr

/-- A 4 KiB block of region SRAM that a job can be given: block `b` of the slot memory of pan `p`, or a pond unit (R431). -/
inductive SramBlock where
  | slots (p b : Nat)
  | pond
deriving DecidableEq, Repr

/-- A targeted self-test in progress (R431), with the tick by which it ends, and the block under test where it is one of region SRAM. -/
structure SelfTest where
  on : FUnit
  fseq : Nat
  cls : FClass
  endBy : Nat
  block : Option SramBlock := none
deriving DecidableEq, Repr

/-- The fault aggregator (R427-R445). -/
structure Faults where
  ring : Tbl FaultRec := []
  /-- FLT_HEAD: the newest FSEQ. -/
  head : Nat := 0
  headSlot : Nat := 0
  worst : Nat := 0
  ringLost : Bool := false
  injectDenied : Bool := false
  counts : List Nat := [0, 0, 0, 0, 0, 0]
  pending : List Pending := []
  sluiceContain : Nat := 5000
  sluiceFence : Nat := 5000
  ackLo : Nat := 0
  recSel : Nat := 0
  pairFence : Bool := false
  ien : Bool := false
  vector : Nat := 0
  /-- FLT_CFG.PAIR_DYNAMIC, a fuse. -/
  pairDynamic : Bool := false
  /-- The phase of the healthy pair in dynamic mode (R440): true is 1/0. -/
  pairPhase : Bool := true
  pairSince : Nat := 0
  serious : Nat := 0
  lastSerious : Option FaultRec := none
  tests : List SelfTest := []
  quarantined : List FUnit := []
  /-- Units with the ticks of their TRANSIENT faults (R432). -/
  history : List (FUnit × Nat) := []
deriving DecidableEq, Repr

/-- A journal entry, 64 bytes laid out as R446. -/
structure JEntry where
  jseq : Nat
  w08 : Nat
  w10 : Nat
  inst : Nat
  type : Nat
  gen : Nat
  w1C : Nat
  w1E : Nat
  status : Nat
  source : Nat
  flags : Nat
  aux : Nat
  result : List Byte
  chain : List Byte
deriving DecidableEq, Repr

/-- An entry of the commit table (R452). -/
structure Commit where
  jseq : Nat
  acceptTick : Nat
  inst : Nat
  source : Nat
  gen : Nat
  opcode : Nat
  tag : Nat
  aux : Nat
  committed : Bool
deriving DecidableEq, Repr

/-- An event record of the bittern record (R453). -/
structure BEvent where
  tick : Nat
  eseq : Nat
  source : Nat
  event : Nat
  arg0 : Nat
  arg1 : Nat
deriving DecidableEq, Repr

/-- An open SUMMARY batch of one submission queue (R89). -/
structure Batch where
  inst : Nat
  sq : Nat
  low : Nat
  high : Nat
  count : Nat
  firstTick : Nat
  images : List (List Byte)
deriving DecidableEq, Repr

/-- A checkpoint body (R450) with its signature once made. -/
structure Checkpoint where
  lastJseq : Nat
  lastJpos : Nat
  tick : Nat
  bootCount : Nat
  tq : Nat
  chain : List Byte
  sig : List Byte
deriving DecidableEq, Repr

/-- The freeze block of R453. -/
structure Freeze where
  trigger : Nat
  tick : Nat
  bootCount : Nat
  mode : Mode
  worst : Nat
  faults : List FaultRec
  nextJseq : Nat
  lastJpos : Nat
  chain : List Byte
  haltCp : Option Checkpoint
  batches : List Batch
deriving DecidableEq, Repr

/-- A bittern slot of boot flash (R455). `body = []` with `lost` is a slot with LOST set. -/
structure BtnSlot where
  bootCount : Nat
  trigger : Nat
  lost : Bool
  committed : Bool
  body : List Byte
  sig : List Byte
deriving DecidableEq, Repr

/-- The command journal on the apex (R446-R452). -/
structure Journal where
  ring : Tbl JEntry := []
  jpos : Nat := 0
  /-- The full chain value h of the last entry (R448). -/
  chain : List Byte := []
  nextJseq : Nat := 0
  /-- The JSEQ limit of the last complete reservation record, in the management log of boot flash (R449). -/
  limit : Nat := 0
  /-- A raising record is being written (R449). -/
  raising : Bool := false
  store : Tbl Checkpoint := []
  cpNext : Nat := 0
  cpCount : Nat := 0
  /-- Entries since the previous checkpoint, and its TICK. -/
  cpSince : Nat := 0
  cpTick : Nat := 0
  /-- The body whose signing job runs, and whether it waits for a region (CP_DEFERRED). -/
  cpOpen : Option Checkpoint := none
  cpDeferred : Bool := false
  /-- A HALT checkpoint body of the freeze, signed before it (R450). -/
  cpHalt : Option Checkpoint := none
  mirrorOn : Bool := false
  mirrorFault : Bool := false
  mirrorBase : Nat := 0
  mirrorCp : Nat := 0
  mirrorLog2 : Nat := 12
  batches : List Batch := []
deriving DecidableEq, Repr

/-- The bittern record: the 256 KiB always-on area, the boot-flash slots and BTN_STATUS (R453-R457). -/
structure Bittern where
  pkgRing : List BEvent := []
  pkgSeq : Nat := 0
  rgnRing : Tbl (List BEvent) := []
  rgnSeq : Tbl Nat := []
  commits : List Commit := []
  freeze : Option Freeze := none
  /-- The area in management SRAM copied at BOOT, that awaits its slot (COPY_PENDING). -/
  copyPending : Bool := false
  nextSlot : Nat := 0
  refreezes : Nat := 0
  overflow : Nat := 0
  /-- Package events raised while the area is frozen (R455). -/
  waiting : List BEvent := []
  slots : Tbl BtnSlot := []
  /-- The area was lost with VDD_AON and VBAT (R454). -/
  lost : Bool := false
deriving DecidableEq, Repr

end Sys2Proof.Machine
end

