-- ==== Sys2Proof/Machine/Parts/Time.lean ====
section
/-! DEFINITION. The time unit's state (R249-R261). -/

namespace Sys2Proof.Machine

/-- Time quality (R251), in the order of its codes. -/
inductive Quality where
  | coarse | free | holdover | locked
deriving DecidableEq, Repr

/-- A time source (R253), in falling priority. -/
inductive TSrc where
  | ptpA | ptpB | irig | pps
deriving DecidableEq, Repr

/-- A PTP message that the time unit takes (R253): an Announce or a Sync of the master whose BMCA data set reads `m` (log 91). -/
inductive PtpMsg where
  | announce (m : Nat)
  | sync (m : Nat)
deriving DecidableEq, Repr

/-- The data set of the master of a message. -/
def PtpMsg.master : PtpMsg → Nat
  | .announce m => m
  | .sync m => m

/-- What the time unit keeps of one source (R253, R254): since when it is valid without a break, whether it
qualified, its measured offset (the source less the tick; of IRIG-B in UTC) and own error, the tick of its last message of each kind and the
intervals, what it last said of OFFSET, LEAP61 and LEAP59 (R257), and of PTP the data set of the master that the BMCA chose. -/
structure SrcRec where
  validSince : Option Nat := none
  qualified : Bool := false
  offset : Int := 0
  err : Nat := 0
  lastAnnounce : Nat := 0
  annInterval : Nat := 0
  lastSync : Nat := 0
  syncInterval : Nat := 0
  missed : Nat := 0
  utc : Option (Nat × Bool × Bool) := none
  master : Option Nat := none
deriving DecidableEq, Repr

/-- TIM_CFG, TIM_LIMITS, TIM_PPS_OUT (R261). -/
structure TimeCfg where
  portA : Nat := 0
  portB : Nat := 1
  aEn : Bool := false
  bEn : Bool := false
  irigEn : Bool := false
  ppsEn : Bool := false
  tcxoEn : Bool := false
  ppsOutEn : Bool := false
  ppsOutAlways : Bool := false
  domain : Nat := 0
  qualifyS : Nat := 5
  lockNs : Nat := 1000
  holdoverNs : Nat := 1000
  widthMs : Nat := 100
deriving DecidableEq, Repr

/-- The time unit. The estimate of R255 is `errBase` plus the growth since `errSince`; `slewFrom` is the offset still to be slewed
(R545), and `slewCount` the nanoseconds counted since the slew last moved the tick. -/
structure TimeUnit where
  quality : Quality := .coarse
  source : Option TSrc := none
  isUnset : Bool := false
  leapNow : Bool := false
  stepped : Bool := false
  tcxoOk : Bool := false
  latchSec : Nat := 0
  cfg : TimeCfg := {}
  utcOffset : Nat := 37
  leap61 : Bool := false
  leap59 : Bool := false
  fromSource : Bool := false
  alarmSec : Nat := 0
  armed : Bool := false
  ptpA : SrcRec := {}
  ptpB : SrcRec := {}
  irig : SrcRec := {}
  pps : SrcRec := {}
  errBase : Nat := 0
  errSince : Nat := 0
  slewFrom : Int := 0
  slewCount : Nat := 0
  ppsPin : Bool := false
  /-- Some source has set the seconds, by locking, or TIME.SET has (R253). -/
  secSet : Bool := false
  /-- With a leap pending, the tick at which the inserted second starts, or at which the deleted one would (R257). -/
  leapAt : Nat := 0
deriving DecidableEq, Repr

end Sys2Proof.Machine
end

