-- ==== Sys2Proof/Syntax.lean ====
section
/-! DEFINITION. The commands the block takes from outside: one constructor per row of spec/opcode_table.json, with the
operands the command carries. What a command's operands mean is said where its meaning stands (Machine/). -/

namespace Sys2Proof


/-- The commands of the block: one constructor per row of spec/opcode_table.json. -/
inductive Instr where
  /-- SYS.NOP (R49): Completes with ST_OK and no output, and is journalled like any command of its queue. -/
  | sysNop (j : Nat)
  /-- SYS.FEATURES (R44): Returns the summary page or a verb-record page selected by PARAM[7:0]. -/
  | sysFeatures (j : Nat)
  /-- SYS.STANDBY (R49): Requests STANDBY; it is accepted only with no outstanding submission entries, and otherwise answered ST_DEFERRED. -/
  | sysStandby (j : Nat)
  /-- KEY.GENERATE (R350): Generates a key in a region, wraps it as a blob, creates its handle and homes it in the running region. -/
  | keyGenerate (j : Nat)
  /-- KEY.IMPORT (R349): Imports key material as a blob with a new handle after the key-verb checks. -/
  | keyImport (j : Nat)
  /-- KEY.DERIVE (R349): Derives a new symmetric or generic key from a GENERIC parent key and wraps it. -/
  | keyDerive (j : Nat)
  /-- KEY.LOAD (R337): Loads a blob, or returns the existing handle for its KEY_ID, and leaves the key in the shelf of its home region. -/
  | keyLoad (j : Nat)
  /-- KEY.EVICT (R350): Zero-writes the key's entries in every shelf and keeps the handle. -/
  | keyEvict (j : Nat)
  /-- KEY.DELETE (R350): Frees the handle and wipes its shelf entries, crystallizer entries, pins and LMS state record. -/
  | keyDelete (j : Nat)
  /-- KEY.PIN_PUBLIC (R131): Pins or unpins a public key in the crystallizer or in a McEliece pin place of the home region. -/
  | keyPinPublic (j : Nat)
  /-- KEY.ATTEST (R352): Writes an attestation statement for a handle, signed under the device identity key. -/
  | keyAttest (j : Nat)
  /-- KEY.LIST (R348): Returns a page of key records of the instance. -/
  | keyList (j : Nat)
  /-- KEY.IDENTITY (R334): Returns the public key of the device identity key. -/
  | keyIdentity (j : Nat)
  /-- KEY.TRANSFER (R350): Rewraps a key for a target instance with a new KEY_ID and a zero usage counter. -/
  | keyTransfer (j : Nat)
  /-- KEY.UPDATE (R353): Checks a signed key update message and carries out its OWNER_SEED, AUTHORITY_KEY, DOMAIN_ROOT or ADVANCE_EPOCH operation. -/
  | keyUpdate (j : Nat)
  /-- KEM.MLKEM_ENCAPS (R144): Runs ML-KEM.Encaps with a DRBG-drawn message and writes the ciphertext and shared key. -/
  | kemMlkemEncaps (j : Nat)
  /-- KEM.MLKEM_DECAPS (R145): Runs masked ML-KEM.Decaps with implicit rejection. -/
  | kemMlkemDecaps (j : Nat)
  /-- KEM.HYB_ENCAPS (R158): Runs hybrid encapsulation, ML-KEM plus an ephemeral ECDH, combined with KMAC256. -/
  | kemHybEncaps (j : Nat)
  /-- KEM.HYB_DECAPS (R158): Runs hybrid decapsulation and derives the combined shared key. -/
  | kemHybDecaps (j : Nat)
  /-- KEM.RSA_ENCRYPT (R216): Runs RSAES-OAEP encryption or RSASVE encapsulation. -/
  | kemRsaEncrypt (j : Nat)
  /-- KEM.RSA_DECRYPT (R216): Runs RSAES-OAEP decryption or RSASVE decapsulation with its countermeasures. -/
  | kemRsaDecrypt (j : Nat)
  /-- KEM.ECDH (R219): Computes Z with a static or ephemeral secret key and the peer public key. -/
  | kemEcdh (j : Nat)
  /-- KEM.MCE_ENCAPS (R220): Runs Classic McEliece encapsulation with a pinned or streamed public key. -/
  | kemMceEncaps (j : Nat)
  /-- KEM.MCE_DECAPS (R223): Runs Classic McEliece decapsulation with implicit rejection. -/
  | kemMceDecaps (j : Nat)
  /-- KEM.HQC_ENCAPS (R224): Runs HQC encapsulation. -/
  | kemHqcEncaps (j : Nat)
  /-- KEM.HQC_DECAPS (R224): Runs HQC decapsulation with implicit rejection. -/
  | kemHqcDecaps (j : Nat)
  /-- SIG.MLDSA_SIGN (R147): Runs masked ML-DSA signing, hedged or deterministic, optionally time-attested, with a release check. -/
  | sigMldsaSign (j : Nat)
  /-- SIG.MLDSA_VERIFY (R154): Runs ML-DSA or HashML-DSA verification with a MATCH-pair comparison. -/
  | sigMldsaVerify (j : Nat)
  /-- SIG.FNDSA_VERIFY (R155): Runs FN-DSA verification under Falcon version 1.2. -/
  | sigFndsaVerify (j : Nat)
  /-- SIG.COMP_SIGN (R157): Signs a composite signature over M′ with both components checked before release. -/
  | sigCompSign (j : Nat)
  /-- SIG.COMP_VERIFY (R157): Verifies both components of a composite signature. -/
  | sigCompVerify (j : Nat)
  /-- SIG.SLHDSA_SIGN (R186): Runs SLH-DSA signing with PAN or CELL spread and a release check. -/
  | sigSlhdsaSign (j : Nat)
  /-- SIG.SLHDSA_VERIFY (R185): Runs SLH-DSA verification. -/
  | sigSlhdsaVerify (j : Nat)
  /-- SIG.LMS_SIGN (R190): Assigns the next leaf at dispatch, which is the commit point, and signs under HSS. -/
  | sigLmsSign (j : Nat)
  /-- LMS.RESERVATION_COMPLETE (R190): The raising record completes in boot flash, and signings waiting for leaves at or above RL proceed. -/
  | lmsReservationComplete (id : Nat)
  /-- SIG.LMS_VERIFY (R189): Verifies an HSS signature. -/
  | sigLmsVerify (j : Nat)
  /-- SIG.XMSS_VERIFY (R195): Verifies an XMSS or XMSS^MT signature. -/
  | sigXmssVerify (j : Nat)
  /-- SIG.RSA_SIGN (R216): Runs an RSASSA-PSS or PKCS1-v1_5 signature with its checks. -/
  | sigRsaSign (j : Nat)
  /-- SIG.RSA_VERIFY (R216): Verifies an RSA signature. -/
  | sigRsaVerify (j : Nat)
  /-- SIG.ECDSA_SIGN (R217): Runs hedged or deterministic ECDSA signing with a release check. -/
  | sigEcdsaSign (j : Nat)
  /-- SIG.ECDSA_VERIFY (R217): Verifies an ECDSA signature. -/
  | sigEcdsaVerify (j : Nat)
  /-- SIG.EDDSA_SIGN (R218): Runs Ed25519 or Ed448 signing in its selected variant. -/
  | sigEddsaSign (j : Nat)
  /-- SIG.EDDSA_VERIFY (R218): Verifies an EdDSA signature with the cofactored equation. -/
  | sigEddsaVerify (j : Nat)
  /-- DIG.HASH (R170): Computes a hash or XOF of a message. -/
  | digHash (j : Nat)
  /-- DIG.MAC (R173): Computes an HMAC or KMAC tag. -/
  | digMac (j : Nat)
  /-- DIG.MAC_VERIFY (R177): Compares a MAC tag as a MATCH pair and returns ST_OK or ST_TAG_FAIL. -/
  | digMacVerify (j : Nat)
  /-- DIG.KDF (R172): Derives bytes with an SP 800-108 or HKDF function and writes them to host memory. -/
  | digKdf (j : Nat)
  /-- SYM.AEAD_ENCRYPT (R241): Runs AEAD encryption with a host-supplied or device-drawn nonce. -/
  | symAeadEncrypt (j : Nat)
  /-- SYM.AEAD_DECRYPT (R242): Decrypts into the holding pond and releases the plaintext only after the tag verifies. -/
  | symAeadDecrypt (j : Nat)
  /-- SYM.CIPHER_ENCRYPT (R238): Runs AES-CTR, CBC or XTS encryption. -/
  | symCipherEncrypt (j : Nat)
  /-- SYM.CIPHER_DECRYPT (R238): Runs AES-CTR, CBC or XTS decryption. -/
  | symCipherDecrypt (j : Nat)
  /-- SYM.MAC (R235): Computes a CMAC or GMAC tag. -/
  | symMac (j : Nat)
  /-- SYM.MAC_VERIFY (R235): Verifies a CMAC or GMAC tag as a MATCH pair. -/
  | symMacVerify (j : Nat)
  /-- SYM.WRAP (R235): Wraps data with AES-KW or KWP. -/
  | symWrap (j : Nat)
  /-- SYM.UNWRAP (R242): Unwraps with AES-KW or KWP through the holding pond. -/
  | symUnwrap (j : Nat)
  /-- RNG.GENERATE (R327): Returns LENGTH random bytes drawn from the region reservoir. -/
  | rngGenerate (j : Nat)
  /-- RNG.KAT (R328): Runs a known-answer test of the conditioner or expander on the test path of the named region. -/
  | rngKat (j : Nat)
  /-- RNG.RAW (R327): Returns raw noise samples of the named region in FACTORY_TEST. -/
  | rngRaw (j : Nat)
  /-- FRM.SEND (R286): Queues a frame of an owned stream for egress, optionally tagged and folded into a harvest chain. -/
  | frmSend (j : Nat)
  /-- FRM.SEND_EGRESS (R286): The sent frame leaves the balls, its egress tick is written, and the completion is posted. -/
  | frmSendEgress (j : Nat)
  /-- FRM.SUBSCRIBE (R281): Subscribes a frame ring of the target instance to a stream with a DELIVER mode. -/
  | frmSubscribe (j : Nat)
  /-- FRM.UNSUBSCRIBE (R268): Ends the subscription of a stream and ring pair. -/
  | frmUnsubscribe (j : Nat)
  /-- FRM.PORT_SET (R268): Sets a port's mode, speed, redundancy, MTU, unknown ring and forwarding flags. -/
  | frmPortSet (j : Nat)
  /-- FRM.STREAM_SET (R270): Writes one stream-table entry, keeping or clearing its state as R270 gives. -/
  | frmStreamSet (j : Nat)
  /-- FRM.STREAM_CLEAR (R268): Removes a stream, its keys and its subscriptions. -/
  | frmStreamClear (j : Nat)
  /-- FRM.KEY_SET (R271): Writes or clears one key slot of a stream with its key period. -/
  | frmKeySet (j : Nat)
  /-- FRM.STREAM_RELEASE (R279): Ends the quarantine of a stream. -/
  | frmStreamRelease (j : Nat)
  /-- FRM.STREAM_STATUS (R282): Returns the status record of a stream. -/
  | frmStreamStatus (j : Nat)
  /-- FRM.HARVEST_SET (R293): Creates, rewrites or ends the harvest session of a publisher stream. -/
  | frmHarvestSet (j : Nat)
  /-- FRM.HARVEST_STATUS (R312): Returns the harvest session record of a stream. -/
  | frmHarvestStatus (j : Nat)
  /-- TIME.READ (R260): Returns the tick, UTC offset, quality, leap flags and error estimate. -/
  | timeRead (j : Nat)
  /-- TIME.SET (R260): Steps the tick to a given value unless the quality is LOCKED or HOLDOVER. -/
  | timeSet (j : Nat)
  /-- JRNL.READ (R546): Returns journal entries from the on-chip ring selected by FROM_JSEQ and TARGET. -/
  | jrnlRead (j : Nat)
  /-- JRNL.CHECKPOINT (R456): Returns the newest checkpoint, optionally making a new one first. -/
  | jrnlCheckpoint (j : Nat)
  /-- JRNL.MIRROR_SET (R451): Sets and enables the host journal and checkpoint mirror. -/
  | jrnlMirrorSet (j : Nat)
  /-- JRNL.BTN_READ (R456): Returns a signed bittern slot or an unsigned copy of the live area. -/
  | jrnlBtnRead (j : Nat)
  /-- JRNL.BTN_LIST (R456): Returns the eight bittern slot headers. -/
  | jrnlBtnList (j : Nat)
  /-- REGN.TAKE_OUT (R420): Starts a commanded drain of a region, which ends in DIKED. -/
  | regnTakeOut (j : Nat)
  /-- REGN.RETURN (R420): Starts the return of a DIKED or FAILED region through TESTING. -/
  | regnReturn (j : Nat)
  /-- REGN.RESERVE_WARM (R413): Sets or releases an instance's warm-cell reservation in a region. -/
  | regnReserveWarm (j : Nat)
  /-- MGMT.FW_WRITE (R466): Writes image bytes to the inactive bank of a kind. -/
  | mgmtFwWrite (j : Nat)
  /-- MGMT.FW_VERIFY (R463): Verifies the inactive bank and sets its validity flag. -/
  | mgmtFwVerify (j : Nat)
  /-- MGMT.FW_ACTIVATE (R467): Makes the valid inactive bank active, entering UPDATE for management firmware or rolling regions. -/
  | mgmtFwActivate (j : Nat)
  /-- MGMT.FIRST_HEARTBEAT (R468): The new management firmware passes its first heartbeat, UPDATE ends and mailboxes reopen. -/
  | mgmtFirstHeartbeat
  /-- ACTIVATION.FALLBACK (R468): No heartbeat within 40 ms or a failed verify reloads the old bank and aborts the activation. -/
  | activationFallback (bad : Bool)
  /-- REGION.ROLL_STEP (R467): The firmware takes out and returns the next region of a ROLL activation after the previous one has rejoined. -/
  | regionRollStep (ms : Nat) (full : Bool)
  /-- MGMT.FW_COMMIT (R464): Burns the rollback counter of a kind to the active image's ROLLBACK. -/
  | mgmtFwCommit (j : Nat)
  /-- MGMT.FW_STATUS (R466): Returns the bank builds and firmware state of each kind. -/
  | mgmtFwStatus (j : Nat)
  /-- MGMT.SENSORS (R466): Returns every sensor value of a region or the apex. -/
  | mgmtSensors (j : Nat)
  /-- UPDATE.AGENT_TIMEOUT (R469): An update agent loses its role after 60 s without update traffic. -/
  | updateAgentTimeout
  /-- PLDM.QUERY_DEVICE_IDENTIFIERS (R470): Answers the PLDM device identifiers query. -/
  | pldmQueryDeviceIdentifiers (pcie : Bool)
  /-- PLDM.GET_FIRMWARE_PARAMETERS (R470): Answers the PLDM firmware parameters query. -/
  | pldmGetFirmwareParameters (pcie : Bool)
  /-- PLDM.REQUEST_UPDATE (R470): Takes the update agent role for PLDM, or answers UNABLE_TO_INITIATE_UPDATE. -/
  | pldmRequestUpdate (pcie : Bool)
  /-- PLDM.PASS_COMPONENT_TABLE (R470): Accepts the PLDM component table. -/
  | pldmPassComponentTable (pcie last : Bool)
  /-- PLDM.UPDATE_COMPONENT (R470): Starts the transfer of one component image. -/
  | pldmUpdateComponent (pcie : Bool) (kind size : Nat)
  /-- PLDM.REQUEST_FIRMWARE_DATA (R470): The device receives the answer to its request for the next block of component data. -/
  | pldmRequestFirmwareData (pcie : Bool) (data : List Byte)
  /-- PLDM.TRANSFER_COMPLETE (R470): Handles the end of a component transfer. -/
  | pldmTransferComplete (pcie : Bool)
  /-- PLDM.VERIFY_COMPLETE (R470): Handles the verification result of a component. -/
  | pldmVerifyComplete (pcie : Bool)
  /-- PLDM.APPLY_COMPLETE (R470): Handles the apply result of a component. -/
  | pldmApplyComplete (pcie : Bool)
  /-- PLDM.ACTIVATE_FIRMWARE (R470): Activates each applied component as MGMT.FW_ACTIVATE with ROLL. -/
  | pldmActivateFirmware (pcie : Bool)
  /-- PLDM.GET_STATUS (R470): Returns the PLDM update status. -/
  | pldmGetStatus (pcie : Bool)
  /-- PLDM.CANCEL_UPDATE_COMPONENT (R470): Cancels the transfer of the current component. -/
  | pldmCancelUpdateComponent (pcie : Bool)
  /-- PLDM.CANCEL_UPDATE (R470): Cancels the update and releases the update agent role. -/
  | pldmCancelUpdate (pcie : Bool)
  /-- SPDM.REQUEST (R471): Serves an SPDM request over MCTP or DOE, including IDE_KM inside a secured session. -/
  | spdmRequest (doe : Bool) (x : Machine.SpdmReq)
  /-- MCTP.CONTROL_MESSAGE (R470): Serves an MCTP control message, including endpoint ID assignment. -/
  | mctpControlMessage (pcie : Bool) (eid : Option Nat) (msg : List Byte)
  /-- MCTP.FAULT_ACK (R472): A vendor-defined MCTP message acknowledges a fault record inside an authorised SPDM session. -/
  | mctpFaultAck (session fseq : Nat)
  /-- SIDEBAND.SUMMARY_READ (R443): The hardware responder returns the 56-byte fault summary for command code 0xF0. -/
  | sidebandSummaryRead
  /-- LIFE.STATUS (R477): Returns the life-cycle state, counters and debug status. -/
  | lifeStatus (j : Nat)
  /-- LIFE.TRANSITION (R481): Checks a signed transition request and runs its data burns, START and marked steps. -/
  | lifeTransition (j cut : Nat)
  /-- LIFE.DEBUG_OPEN (R490): Opens a debug session by certificate in OWNED or without one in CLEARED, holding the named regions. -/
  | lifeDebugOpen (j : Nat)
  /-- LIFE.DEBUG_CLOSE (R487): Closes the debug session and returns the held regions through TESTING. -/
  | lifeDebugClose (j : Nat)
  /-- DEBUG.WINDOW_END (R487): The session closes at the first tick at or after NOT_AFTER. -/
  | debugWindowEnd
  /-- TAMP.TEST (R509): Stimulates one monitor and returns pass or fail. -/
  | tampTest (j : Nat) (responds : Bool)
  /-- TAMP.ERASE (R502): Triggers ERASE on command, burning the epoch bit but no evidence bit. -/
  | tampErase (j : Nat)
  /-- CARD.STATUS (R519): Returns the card status, CARD_ID, append point and capacity. -/
  | cardStatus (j : Nat)
  /-- CARD.FORMAT (R522): Writes both card header copies and a zero block at LBA 2. -/
  | cardFormat (j : Nat)
  /-- CARD.EXPORT (R520): Writes a bittern, checkpoint or attestation record to the card unless an equal one is already committed. -/
  | cardExport (j : Nat)
  /-- CARD.LIST (R519): Returns a page of committed record headers. -/
  | cardList (j : Nat)
  /-- CARD.IMPORT_KUM (R521): Reads a KUM record and submits its body as KEY.UPDATE. -/
  | cardImportKum (j : Nat)
  /-- CUST.RUN (R403): Runs a loaded customer routine on a cell with the caller's operands. -/
  | custRun (j : Nat)
  /-- CUST.LOAD (R401): Checks a signed customer package and writes it to every pan of every IN_SERVICE region. -/
  | custLoad (j : Nat)
  /-- CUST.UNLOAD (R402): Removes a customer package by PKG_ID. -/
  | custUnload (j : Nat)
  /-- CUST.LIST (R402): Returns one record per loaded customer package. -/
  | custList (j : Nat)
  /-- CUST.PARTITION_RELOAD (R406): A pan's customer partition finishes being rewritten from the apex copy and takes CUST.RUN jobs again. -/
  | custPartitionReload (r p : Nat)
  /-- MAILBOX.DOORBELL (R58): A doorbell write latches SEQ and checks the header, taking the mailbox BUSY, DONE, or setting OVERRUN or REFUSED. -/
  | mailboxDoorbell (i v : Nat)
  /-- MAILBOX.BUFFER_WRITE (R58): A request-buffer write fills the buffer, or is discarded with OVERRUN while BUSY. -/
  | mailboxBufferWrite (i o v : Nat)
  /-- MAILBOX.REQUEST_DONE (R58): A served request's response is written, the mailbox goes DONE and its vector is raised. -/
  | mailboxRequestDone (i : Nat)
  /-- MAILBOX.HOLD_RELEASE (R66): A STATE_CHANGING request held for in-flight entries naming its object proceeds once they have completed. -/
  | mailboxHoldRelease (j : Nat)
  /-- SQ.ENABLE (R73): A write of 1 to QE_SQ_CTRL.ENABLE enables the submission queue or sets ERR_CFG. -/
  | sqEnable (i q : Nat)
  /-- CQ.ENABLE (R73): A write of 1 to QE_CQ_CTRL.ENABLE enables the completion ring or sets ERR_CFG. -/
  | cqEnable (i c : Nat)
  /-- SQ.DOORBELL (R78): A tail doorbell is accepted as the new tail or refused with DB_RANGE. -/
  | sqDoorbell (i q v : Nat)
  /-- CQ.DOORBELL (R78): A head doorbell releases consumed completions and retries held completion writes. -/
  | cqDoorbell (i c v : Nat)
  /-- QUEUE.FETCH (R83): On its round-robin turn the queue engine reserves completion slots, reads entries, stamps acceptance, assigns JSEQ and runs the framing checks. -/
  | queueFetch (ans : Machine.HostAns)
  /-- JSEQ.RESERVE_COMPLETE (R449): The reservation record completes in boot flash and waiting acceptances proceed. -/
  | jseqReserveComplete
  /-- JOB.SEND (R20): Once inputs and keys are resolved, the queue engine selects a region under R20 and sends the job over the die link. -/
  | jobSend (j : Nat)
  /-- REGION.ACK (R22): The region acknowledges receipt of a job. -/
  | regionAck (j : Nat)
  /-- JOB.DISPATCH (R125): The region dispatcher places a job on a cell of an awake pan, waking a pan if needed, and begins execution. -/
  | jobDispatch (j : Nat)
  /-- PAN.WAKE_COMPLETE (R408): A pan woken from IDLE, NAP or DORMANT reaches ACTIVE and its waiting work starts. -/
  | panWakeComplete (r p : Nat)
  /-- PAN.ADMIT (R412): A held pan is admitted to ACTIVE under the power ceiling in the order of release checks and classes. -/
  | panAdmit (r p : Nat)
  /-- POWER.SAMPLE (R412): Every 10 µs the sensor hub measures package draw and updates PWR_DRAW. -/
  | powerSample (mw : Nat)
  /-- RESOURCE.FREED_DISPATCH (R202): A waiting job is dispatched once operand slots, pond units or shelf entries come free. -/
  | resourceFreedDispatch (j : Nat)
  /-- SHELF.MISS_BLOB_ARRIVAL (R345): The blob read at a shelf miss arrives, is unwrapped, checked, expanded and stored as shares, and the job starts. -/
  | shelfMissBlobArrival (j : Nat) (blob : List Byte)
  /-- CRYSTALLIZER.FILL_COMPLETE (R133): A fill made by a job's miss completes its entry at the job's start plus the expansion time. -/
  | crystallizerFillComplete (r : Nat)
  /-- JOB.YIELD (R205): At a yield point or block boundary a job saves its state to its slots and rejoins its class queue. -/
  | jobYield (j : Nat)
  /-- DIGEST.QUANTUM_EXPIRY (R175): A DIG job that has held its core for QUANTUM_US yields at its next block boundary to a waiting job. -/
  | digestQuantumExpiry (j : Nat)
  /-- NUMBER.QUANTUM_EXPIRY (R205): A number-cell job that has held its cell for QUANTUM_US yields at its next yield point. -/
  | numberQuantumExpiry (j : Nat)
  /-- SYM.QUANTUM_EXPIRY (R246): A SYM job that has held its engine for QUANTUM_US yields at its next block boundary. -/
  | symQuantumExpiry (j : Nat)
  /-- JOB.RESUME (R205): A yielded job is restored on a free cell of its pan and continues. -/
  | jobResume (j : Nat)
  /-- RELEASE.CHECK_DONE (R124): The verify-before-release check finishes; on pass the signature is released, on fail signing is re-run once. -/
  | releaseCheckDone (j : Nat) (pass : Bool)
  /-- JOB.RESULT_RETURN (R24): A job's result reaches apex staging, output is written, and the completion and journal entry are posted. -/
  | jobResultReturn (j : Nat)
  /-- BATCH.TIMER_EXPIRY (R89): A SUMMARY batch closes 1 ms after its first completion. -/
  | batchTimerExpiry
  /-- COALESCE.TIMER_EXPIRY (R87): At a 1 µs tick the oldest unsignalled completion reaches TIME_US and the ring's vector is raised. -/
  | coalesceTimerExpiry (i : Nat) (c : Machine.RingNo)
  /-- CHECKPOINT.DUE (R450): A checkpoint body is taken at the 65,536th entry or 1 s after the last, and its signing job is started. -/
  | checkpointDue
  /-- CHECKPOINT.SIGNED (R450): The checkpoint signature completes and the TYPE 4 entry is written. -/
  | checkpointSigned
  /-- FLR.START (R91): FLR of a function stops fetching, discards queued entries, changes generation and notifies the regions. -/
  | flrStart (i : Nat)
  /-- REGION.GENERATION_REPORT (R103): A region reports that it holds no job of the older generation. -/
  | regionGenerationReport (i r : Nat)
  /-- WRAP.DRAIN_TIMEOUT (R105): A region silent for 10 ms raises a steward WATCHDOG CONTAIN and the drain ends without it. -/
  | wrapDrainTimeout (i : Nat)
  /-- FLR.COMPLETE (R91): The reset completes, RESETTING clears and held administrative requests proceed. -/
  | flrComplete (i : Nat)
  /-- PCIE.HOT_RESET (R442): A PCIe Hot Reset resets every function as FLR does. -/
  | pcieHotReset
  /-- VF.ENABLE_SET (R92): Setting VF Enable with NumVFs creates instances 1 to NumVFs. -/
  | vfEnableSet (n : Nat)
  /-- VF.ENABLE_CLEAR (R102): Clearing VF Enable removes the virtual instances and increments their generations. -/
  | vfEnableClear
  /-- ATS.INVALIDATION_REQUEST (R100): An ATS invalidation is answered after every access using the entries has completed. -/
  | atsInvalidationRequest (i page size : Nat)
  /-- IDE.STREAM_FAILURE (R111): A stream leaving Secure on an integrity failure sets IDE_FAIL for its bound instances. -/
  | ideStreamFailure (n : Nat)
  /-- INST.ADM_REASSIGN (R108): REASSIGN changes the instance generation, clears its tables and resets its view, INST_STALE and energy. -/
  | instAdmReassign (i : Nat)
  /-- INST.ADM_CLR_ENERGY (R96): CLR_ENERGY clears the instance energy counter. -/
  | instAdmClrEnergy (i : Nat)
  /-- INST.ADM_QUOTA_WRITE (R95): A quota write is checked against the sums and may evict entries, or is ignored with CFG_ERR. -/
  | instAdmQuotaWrite (i : Nat) (w : Bool) (v : Nat)
  /-- INST.ADM_CFG_WRITE (R98): An INST_ADM_CFG write takes effect, or is ignored with CFG_ERR while a queue of the instance is enabled. -/
  | instAdmCfgWrite (i v : Nat)
  /-- INST.XLAT_CLR (R97): A write of CLR clears the translation-fault count. -/
  | instXlatClr (i : Nat)
  /-- VLT.HCAP_WRITE (R335): A handle-cap write takes effect, or is ignored with CFG_ERR if the caps would exceed 16,384. -/
  | vltHcapWrite (v : Nat)
  /-- SLOT.LEN_WRITE (R201): A SLOT_LEN64 write sets PENDING and stops operand-slot allocation in the pan. -/
  | slotLenWrite (r p v : Nat)
  /-- SLOT.LENGTH_APPLY (R201): When the operand partition empties, the new slot length applies and every slot is scrubbed. -/
  | slotLengthApply (r p : Nat)
  /-- SLOT.INSPECT_READ (R230): A read of the inspection window returns slot data, or zero with DENIED for a held slot. -/
  | slotInspectRead (r offset : Nat)
  /-- CLR.COUNTS (R135): A CLR_COUNTS write clears the per-instance crystallizer or shelf counters. -/
  | clrCounts (r : Nat) (shelf : Bool)
  /-- DIG.WIN_CLAIM (R178): A read of DIG_WIN_CLAIM grants the window with a new token or returns ST_BUSY_OWNED. -/
  | digWinClaim (firmware : Bool)
  /-- DIG.WIN_DATA (R179): A data word is added to the message and compression starts when a block is complete, or OVERRUN is set while BUSY. -/
  | digWinData (firmware : Bool) (part v : Nat)
  /-- DIG.WIN_LAST (R180): Ends the message, checks the declared length and token, and finishes the digest or sets LEN_ERR. -/
  | digWinLast (firmware : Bool) (valid token : Nat)
  /-- DIG.WIN_RELEASE (R181): Releases the window with the owner's token, or sets FOREIGN. -/
  | digWinRelease (firmware : Bool) (token : Nat)
  /-- DIG.WIN_TIMEOUT (R181): The window is released with EXPIRED after DIG_WIN_TIMEOUT.MS without owner access. -/
  | digWinTimeout
  /-- TIM.NOW_READ (R261): A read of TIM_NOW_NS latches the seconds into TIM_NOW_SEC_LO and HI. -/
  | timNowRead
  /-- TIM.CFG_WRITE (R253): A TIM_CFG write takes effect except a PTP port field naming a TAP port, which is kept and counted. -/
  | timCfgWrite (v : Nat)
  /-- TIME.ALARM_FIRE (R261): The armed alarm fires at its second, clears ARMED and wakes the package from STANDBY. -/
  | timeAlarmFire (b : Machine.BootIn)
  /-- SOURCE.QUALIFIED (R254): A source valid for QUALIFY_S qualifies and steps or slews the tick. -/
  | sourceQualified (x : Machine.TSrc)
  /-- SOURCE.LOST (R254): A source is lost on missing messages, frames or edges, switching source or entering HOLDOVER. -/
  | sourceLost (x : Machine.TSrc)
  /-- LOCK.ACHIEVED (R545): The error estimate reaches LOCK_NS and the quality becomes LOCKED. -/
  | lockAchieved
  /-- HOLDOVER.EXPIRY (R252): The holdover estimate reaches HOLDOVER_NS and the quality falls to FREE. -/
  | holdoverExpiry
  /-- PTP.MESSAGE_RECEIVE (R253): A PTP message is consumed by the time unit on an endpoint port. -/
  | ptpMessageReceive (p domain : Nat) (msg : Machine.PtpMsg) (interval : Nat) (off : Int) (err utc : Nat) (l61 l59 : Bool)
  /-- IRIG.FRAME_RECEIVE (R253): An IRIG-B frame is received and used to discipline the tick. -/
  | irigFrameReceive (ok : Bool) (off : Int) (err utc : Nat) (l61 l59 : Bool)
  /-- PPS.IN_EDGE (R253): A PPS_IN rising edge marks a whole TAI second. -/
  | ppsInEdge
  /-- LEAP.SECOND_BOUNDARY (R257): At the boundary of the last UTC second of the day, LEAP_NOW changes and OFFSET takes its new value. -/
  | leapSecondBoundary
  /-- PPS.OUT_PULSE (R258): PPS_OUT rises at each whole second and falls after WIDTH_MS. -/
  | ppsOutPulse
  /-- FRAME.RECEIVE (R273): A received frame is stamped, classified, checked and given a verdict, then forwarded, delivered or dropped. -/
  | frameReceive (p : Nat) (b : List Byte) (fcs fault : Bool)
  /-- FRAME.EGRESS (R288): A forwarded frame waiting in the egress queue leaves the balls, or is dropped if the buffer is full. -/
  | frameEgress (p : Nat)
  /-- STREAM.SILENCE_EXPIRY (R276): A stream becomes SILENT when its silence interval passes without a passing frame. -/
  | streamSilenceExpiry (n : Nat)
  /-- RATE.SECOND_BOUNDARY (R276): At each second boundary the passing-frame count raises RATE_LOW or RATE_OK. -/
  | rateSecondBoundary
  /-- QUARANTINE.HOLD_EXPIRY (R279): QUAR_S after the last failure the stream is RELEASED to INACTIVE. -/
  | quarantineHoldExpiry (n : Nat)
  /-- TIME.ALLOWED_TO_LIVE_EXPIRY (R275): A held GOOSE frame whose timeAllowedtoLive runs out is delivered STALE. -/
  | timeAllowedToLiveExpiry (n : Nat)
  /-- FRAME.RING_ENABLE (R283): Enabling a frame ring resets tail and PHASE, or sets ERR_CFG. -/
  | frameRingEnable (i n v : Nat)
  /-- FRAME.RING_DOORBELL (R283): A frame-ring head doorbell frees space and resumes a faulted ring, or sets DB_RANGE. -/
  | frameRingDoorbell (i n v : Nat)
  /-- HARVEST.WINDOW_CLOSE (R298): At window end the sealer builds the harvest record and starts its signing job. -/
  | harvestWindowClose (n : Nat)
  /-- HARVEST.SEAL_DONE (R300): The sealed object's signing ends and its harvest frames or shards are transmitted in window order. -/
  | harvestSealDone (n w : Nat)
  /-- HARVEST.VERIFY_DONE (R307): The record's signature check ends and its run is resolved as HARVEST_PASS or HARVEST_FAIL. -/
  | harvestVerifyDone (n : Nat)
  /-- ASSEMBLY.TIMEOUT (R303): An assembly incomplete at 2 × T + WAIT_US after its first shard is discarded. -/
  | assemblyTimeout (n : Nat)
  /-- PENDING.FRAME_TIMEOUT (R308): A pending frame unresolved by (p + 1) × T + WAIT_US is resolved as RECORD_LOST. -/
  | pendingFrameTimeout (n : Nat)
  /-- NOISE.WINDOW_COMPLETE (R315): A 1,024-sample window ends and passes or fails the health tests. -/
  | noiseWindowComplete (r : Nat) (rct apt : Bool)
  /-- SEED.CONDITIONED (R316): A seed is complete from two conditioner outputs. -/
  | seedConditioned (r : Nat)
  /-- RESEED.DUE (R317): At 64 MiB of output or 100 ms the expander reseeds from a prepared seed. -/
  | reseedDue (r : Nat)
  /-- EXPANDER.GENERATE (R317): The expander refills the reservoir with a 4 KiB generate request when it holds less than 60 KiB. -/
  | expanderGenerate (r : Nat)
  /-- RANDOM.DRAW_SERVED (R319): A waiting draw at the head of its group is served contiguously from the reservoir. -/
  | randomDrawServed (r : Nat)
  /-- RANDOM.DRAW_TIMEOUT (R320): A draw not served by RNG_WAIT_LIMIT completes with ST_ENTROPY_UNAVAILABLE. -/
  | randomDrawTimeout (j : Nat)
  /-- DONOR.SEED_WRAP (R325): A donor wraps its spare seed with the asker's request number under the star seed key. -/
  | donorSeedWrap (asker : Nat)
  /-- BORROWED.SEED_ARRIVAL (R325): A borrowed seed is unwrapped and checked and reseeds the expander, or is discarded. -/
  | borrowedSeedArrival (r : Nat) (ok : Bool)
  /-- SEED.REQUEST_RETRY (R325): With no donor available the asker asks again every 1 ms. -/
  | seedRequestRetry (r : Nat)
  /-- BORROW.ADVANCE_DUE (R326): A BORROWED region asks a donor at 48 MiB or 75 ms after the last seed. -/
  | borrowAdvanceDue (r : Nat)
  /-- SOURCE.RESTART_DONE (R326): The targeted source restart ends, marking the failure transient or lasting. -/
  | sourceRestartDone (r : Nat) (pass : Bool)
  /-- RNG.STARTUP_COMPLETE (R322): The region's first seed is conditioned, the expander instantiated and the reservoir starts serving. -/
  | rngStartupComplete (r : Nat)
  /-- MASK.SEED_ARRIVAL (R119): A new seed reaches a pan's mask-stream generator, clearing WAIT_SEED and releasing held jobs. -/
  | maskSeedArrival (r p : Nat)
  /-- MASK.STREAM_LOCKSTEP_FAULT (R122): A lockstep mismatch discards recent output, re-runs affected jobs and reseeds the generator. -/
  | maskStreamLockstepFault (r p : Nat)
  /-- ROOT.READY (R333): KEK_root is derived and held KEY verbs and shelf loads proceed. -/
  | rootReady
  /-- ECC.ERROR (R429): A corrected or uncorrectable ECC error is detected on an access and handled by the word's owner. -/
  | eccError (a : Machine.EccAt) (corrected : Bool)
  /-- DUP.MISMATCH (R198): A duplicate-compute or checked-engine compare mismatch raises a RETRY fault of the unit. -/
  | dupMismatch (r : Nat) (k : Machine.UnitKind) (n : Nat) (pair : Bool)
  /-- SEQ.CHECK_FAULT (R429): A micro-sequencer word check failure raises a RETRY fault. -/
  | seqCheckFault (r : Nat) (k : Machine.UnitKind) (n : Nat)
  /-- PAN.WATCHDOG_TRIP (R429): The pan watchdog or a vendor routine's safe-point watchdog raises a CONTAIN fault. -/
  | panWatchdogTrip (r p : Nat)
  /-- SELF.TEST_RESULT (R432): A targeted self-test ends, marking its fault TRANSIENT or LASTING. -/
  | selfTestResult (q : Nat) (pass : Bool)
  /-- SLUICE.EXPIRY (R435): An unacknowledged CONTAIN or FENCE record expires and the fault escalates one class. -/
  | sluiceExpiry (q : Nat)
  /-- FLT.ACK (R435): A write of FLT_ACK_HI acknowledges a pending fault record before expiry. -/
  | fltAck (hi : Nat)
  /-- FLT.INJECT (R444): A GO write injects a fault in FACTORY_TEST, or sets INJECT_DENIED. -/
  | fltInject (v : Nat)
  /-- DISTURBANCE (R497): A monitor in its disturbance band raises a DISTURBANCE CONTAIN and aborts and re-runs secret-bearing jobs. -/
  | disturbance (u : Nat)
  /-- DISTURBANCE.CLEAR (R497): After the monitor reads normal for 10 µs, secret-bearing dispatch resumes, and after 1 ms the record is acknowledged by hardware. -/
  | disturbanceClear (u ns : Nat)
  /-- TAMPER.ALARM (R498): A tamper-band alarm triggers ERASE of every secret store within 2 µs. -/
  | tamperAlarm (us : List Nat) (partner : Bool)
  /-- ERASE.EVIDENCE_BURN (R499): The epoch bit and the latched evidence bits are burned and the package reads ZEROIZED. -/
  | eraseEvidenceBurn
  /-- ZEROIZE.N_ASSERT (R505): ZEROIZE_N held low for 10 µs triggers ERASE unless disabled. -/
  | zeroizeNAssert (ns : Nat)
  /-- TAMP.IN_ASSERT (R505): An enabled TAMP_IN at its active level for its filter time triggers ERASE. -/
  | tampInAssert (n : Nat) (high : Bool) (ns : Nat)
  /-- MONITOR.STIMULATION (R504): The rotation stimulates the next monitor and raises MONITOR_TEST on no response. -/
  | monitorStimulation (responds : Bool)
  /-- VBAT.LOW (R507): VBAT below 2.2 V with main power sets VBAT_LOW and is journalled. -/
  | vbatLow (mv : Nat)
  /-- PWRGD.MAIN_RISE (R485): The boot ROM runs fuse sensing, resumes transitions, runs BIST, derives keys and starts firmware and regions. -/
  | pwrgdMainRise (straps : Nat) (b : Machine.BootIn)
  /-- PWRGD.MAIN_FALL (R529): The bittern record freezes and the power-down wipe completes. -/
  | pwrgdMainFall
  /-- PWRGD.AON_FALL (R528): A fall of PWRGD_AON while PWRGD_MAIN is high acts as a fall of PWRGD_MAIN. -/
  | pwrgdAonFall
  /-- PERST.N_ASSERT (R30): The bittern record freezes and the whole package resets to BOOT. -/
  | perstNAssert (b : Machine.BootIn)
  /-- VBAT.APPLIED (R30): The backup domain starts and the real-time counter runs. -/
  | vbatApplied
  /-- VBAT.LOST (R30): The backup domain loses its contents and BACKUP_LOSS is recorded at the next BOOT. -/
  | vbatLost
  /-- WAKE.N_LOW (R531): WAKE_N held low by another agent for 10 µs wakes the package from STANDBY. -/
  | wakeNLow (ns : Nat) (b : Machine.BootIn)
  /-- PCIE.LINK_WAKE (R30): A PCIe link event wakes the package from STANDBY through the quick-boot path. -/
  | pcieLinkWake (b : Machine.BootIn)
  /-- SELF.TEST_COMPLETE (R30): SELF_TEST ends and the package enters SERVICE, DEGRADED, FACTORY_TEST or ZEROIZED, or HALT. -/
  | selfTestComplete (apex : Bool)
  /-- REGION.DRAINED (R415): A DRAINING region with no acknowledged job left is diked. -/
  | regionDrained (r : Nat)
  /-- DRAIN.TIMEOUT (R416): DRAIN_MS passes, remaining stateless jobs are re-issued and the region is diked. -/
  | drainTimeout (r : Nat)
  /-- REGION.TESTING_DONE (R415): Region BIST and known-answer tests end, entering LOADING or FAILED. -/
  | regionTestingDone (r : Nat) (pass : Bool)
  /-- REGION.LOADING_DONE (R422): Images are verified and loaded and randomness runs, entering REJOINING or FAILED. -/
  | regionLoadingDone (r oks : Nat)
  /-- REGION.REJOIN_DONE (R415): Keys, seeds, packages and reservations are restored and the region is IN_SERVICE. -/
  | regionRejoinDone (r : Nat)
  /-- POINT.WRITE (R411): A POINT write stops dispatch and starts an operating-point switch, or records a new target. -/
  | pointWrite (r v : Nat)
  /-- POINT.SWITCH_DONE (R411): The PLL relocks and VDD_RGN slews, and dispatch resumes or a second switch follows. -/
  | pointSwitchDone (r mv : Nat) (ok : Bool)
  /-- PAN.IDLE_TIMEOUT (R409): A pan IDLE for IDLE_US falls to NAP. -/
  | panIdleTimeout (r p : Nat)
  /-- PAN.NAP_TIMEOUT (R409): A pan in NAP for NAP_MS falls to DORMANT, wiping slot and local memory. -/
  | panNapTimeout (r p : Nat)
  /-- LINK.RETRY (R423): A flit CRC error is retried and counted, and excess retries raise a CONTAIN fault. -/
  | linkRetry (r : Nat)
  /-- LINK.LANE_FAILURE (R423): A failing lane degrades or shuts its module and raises a CONTAIN or FENCE fault. -/
  | linkLaneFailure (r : Nat) (m : Bool)
  /-- RAKE.PASS (R424): The rake reads and rewrites the next SRAM words, handling errors by owner. -/
  | rakePass (r : Nat) (finished : Bool) (err : Option (Machine.EccAt × Bool))
  /-- AGING.EVALUATION (R425): Each second the voltage controller adjusts VDD_RGN or lowers the clock to hold the guard band. -/
  | agingEvaluation (r target slack : Nat) (ok : Bool)
  /-- THERMAL.THRESHOLD (R536): A die's hottest sensor crosses a threshold, warning, throttling, holding pans or fencing. -/
  | thermalThreshold (die level : Nat) (up : Bool)
  /-- HEARTBEAT.LAPSE (R458): 10 ms without a heartbeat clears ALIVE and MGMT_ALIVE. -/
  | heartbeatLapse
  /-- WATCHDOG.RESET (R458): 100 ms without a heartbeat raises a HALT and holds the Skanel pair in reset. -/
  | watchdogReset
  /-- SKANEL.LOCKSTEP_MISMATCH (R458): A mismatch of the two Skanel cores raises HALT. -/
  | skanelLockstepMismatch
  /-- BITTERN.SLOT_WRITTEN (R455): The signed copy of a frozen area completes in a bittern slot and the area reopens. -/
  | bitternSlotWritten
  /-- CARD.INSERT (R514): After 10 ms of low CARD_DET_N the card is powered, initialised and scanned. -/
  | cardInsert (ns blocks : Nat) (hdr : Option (Nat × Nat)) (recs : List Machine.CardRec) (init : Bool) (mode phase : Nat)
  /-- CARD.REMOVE (R514): A rise of CARD_DET_N powers the card down in order and ends pending operations. -/
  | cardRemove (ns : Nat)
  /-- CARD.EJECT (R515): Writing EJECT powers the card down after the operation in progress. -/
  | cardEject
  /-- CARD.BUSY_END (R513): DAT0 returns high, the write reaches the card and commit points advance. -/
  | cardBusyEnd
  /-- CARD.BUSY_TIMEOUT (R513): A busy phase longer than 250 ms is a timeout handled under R512. -/
  | cardBusyTimeout
  /-- BAD.ACCESS (R35): A register access of the wrong size or alignment, or to a reserved range, is ignored and counted under NOTE. -/
  | badAccess (fn a size : Nat) (write : Bool)
  /-- REGISTER.WRITE (R8): A write to a register without a row of its own sets its RW fields and clears RW1C bits. -/
  | registerWrite (fn a : Nat) (wide : Bool) (v : Nat)
  /-- INTERRUPT.ENTRY (R385): A Kertor core takes a pending interrupt at an instruction boundary and enters EVEC. -/
  | kInterruptEntry (c : Machine.CoreId) (n : Nat)
  /-- CUST.YIELD (R396): A YIELD is delivered to a customer routine at the point its policy allows. -/
  | custYield (c : Machine.CoreId)
  /-- SAFE.POINT_WATCHDOG_TRIP (R398): A customer routine exceeding 4,096 cycles between safe points or MAX_US ends with ST_ABORTED_FAULT. -/
  | safePointWatchdogTrip (c : Machine.CoreId) (maxUs : Bool)
  /-- SEQ.STEP (R394): The sequencer word runs its transfer and continues at NEXT. -/
  | seqStep (c : Machine.CoreId)
  /-- SEQ.BRANCH (R394): The sequencer continues at ALT if COND holds, otherwise at NEXT. -/
  | seqBranch (c : Machine.CoreId)
  /-- SEQ.CALL (R394): The sequencer pushes NEXT and continues at ALT. -/
  | seqCall (c : Machine.CoreId)
  /-- SEQ.RET (R394): The sequencer pops its return stack and continues there. -/
  | seqRet (c : Machine.CoreId)
  /-- SEQ.RUN (R394): The sequencer starts the Kertor core at KENTRY and keeps its exit value. -/
  | seqRun (c : Machine.CoreId)
  /-- SEQ.END (R394): The routine ends and its outputs are released. -/
  | seqEnd (c : Machine.CoreId)
  /-- SEQ.FAIL (R394): The routine ends with the status of FAIL_CODE and no output. -/
  | seqFail (c : Machine.CoreId)
  /-- ALU.OP (R388): Executes an R-format or immediate integer ALU operation, shift or LUI. -/
  | kAluOp (c : Machine.CoreId) (stall : Nat) (w : U32)
  /-- MUL.U (R374): Multiplies unsigned into PH:PL, landing two cycles later. -/
  | kMulU (c : Machine.CoreId) (stall : Nat) (w : U32)
  /-- MUL.S (R374): Multiplies signed into PH:PL, landing two cycles later. -/
  | kMulS (c : Machine.CoreId) (stall : Nat) (w : U32)
  /-- MAC.U (R374): Adds the unsigned product to PH:PL modulo 2^128. -/
  | kMacU (c : Machine.CoreId) (stall : Nat) (w : U32)
  /-- LD (R388): Loads from rs1 + imm14 with sign or zero extension. -/
  | kLd (c : Machine.CoreId) (stall : Nat) (w : U32)
  /-- ST (R388): Stores rd at rs1 + imm14. -/
  | kSt (c : Machine.CoreId) (stall : Nat) (w : U32)
  /-- LDA (R377): Loads through an address register with post-increment, modulo or bit-reversed update. -/
  | kLda (c : Machine.CoreId) (stall : Nat) (w : U32)
  /-- STA (R377): Stores through an address register with its update. -/
  | kSta (c : Machine.CoreId) (stall : Nat) (w : U32)
  /-- BRANCH (R388): A conditional branch compares rs1 and rs2 under COND. -/
  | kBranch (c : Machine.CoreId) (stall : Nat) (w : U32)
  /-- JMP (R388): Jumps by a signed word offset. -/
  | kJmp (c : Machine.CoreId) (stall : Nat) (w : U32)
  /-- CALL (R383): Pushes the return address on g2 and jumps, or raises STACK_LIMIT or MISALIGNED. -/
  | kCall (c : Machine.CoreId) (stall : Nat) (w : U32)
  /-- JMPR (R388): Jumps to rs1 + 4 × imm14. -/
  | kJmpr (c : Machine.CoreId) (stall : Nat) (w : U32)
  /-- CALLR (R383): Calls rs1 + 4 × imm14. -/
  | kCallr (c : Machine.CoreId) (stall : Nat) (w : U32)
  /-- RET (R383): Pops the return address from g2 and continues there, ending a run on the sentinel 0. -/
  | kRet (c : Machine.CoreId) (stall : Nat) (w : U32)
  /-- LOOP (R379): Sets up hardware loop level k. -/
  | kLoop (c : Machine.CoreId) (stall : Nat) (w : U32)
  /-- REP (R381): Repeats the next word rs times without interrupts. -/
  | kRep (c : Machine.CoreId) (stall : Nat) (w w2 : U32)
  /-- REPI (R381): Repeats the next word rs times with interrupts between repetitions. -/
  | kRepi (c : Machine.CoreId) (stall : Nat) (w w2 : U32)
  /-- FP.OP (R367): Executes a binary64 or binary32 operation under FPMODE.ROUND, setting sticky flags. -/
  | kFpOp (c : Machine.CoreId) (stall : Nat) (w : U32)
  /-- PACKED.OP (R388): Executes a packed short-vector operation on f registers. -/
  | kPackedOp (c : Machine.CoreId) (stall : Nat) (w : U32)
  /-- FLD.D (R388): Loads an f register from memory. -/
  | kFldD (c : Machine.CoreId) (stall : Nat) (w : U32)
  /-- FST.D (R388): Stores an f register to memory. -/
  | kFstD (c : Machine.CoreId) (stall : Nat) (w : U32)
  /-- SETVL (R370): Sets the element width and VL and writes VL to rd. -/
  | kSetvl (c : Machine.CoreId) (stall : Nat) (w : U32)
  /-- VECTOR.ARITH (R388): Executes a vector arithmetic or compare operation under the predicate. -/
  | kVectorArith (c : Machine.CoreId) (stall : Nat) (w : U32)
  /-- VLD (R371): Performs a unit, strided or indexed vector load, resumable at VSTART on a fault. -/
  | kVld (c : Machine.CoreId) (stall : Nat) (w : U32)
  /-- VLD.FIRST_FAULT (R372): A first-fault load truncates VL at the first faulting later element. -/
  | kVldFirstFault (c : Machine.CoreId) (stall : Nat) (w : U32)
  /-- VST (R371): Performs a unit, strided or indexed vector store. -/
  | kVst (c : Machine.CoreId) (stall : Nat) (w : U32)
  /-- VECTOR.MOVE (R388): Executes a slide, reduction or move between vector and g registers. -/
  | kVectorMove (c : Machine.CoreId) (stall : Nat) (w : U32)
  /-- DATAPATH.COMMAND (R405): Issues a datapath command, raising ACCESS for a closed command in customer code. -/
  | kDatapathCommand (c : Machine.CoreId) (stall : Nat) (w : U32)
  /-- CTLRD (R369): Copies a control register to g_rd. -/
  | kCtlrd (c : Machine.CoreId) (stall : Nat) (w : U32)
  /-- CTLWR (R369): Writes g_rs1 to a control register. -/
  | kCtlwr (c : Machine.CoreId) (stall : Nat) (w : U32)
  /-- CTLSET (R369): Sets bits of a control register. -/
  | kCtlset (c : Machine.CoreId) (stall : Nat) (w : U32)
  /-- CTLCLR (R369): Clears bits of a control register. -/
  | kCtlclr (c : Machine.CoreId) (stall : Nat) (w : U32)
  /-- FENCE (R365): Orders local-memory accesses against slot-memory accesses and datapath commands. -/
  | kFence (c : Machine.CoreId) (stall : Nat) (w : U32)
  /-- WFI (R388): Waits for an interrupt. -/
  | kWfi (c : Machine.CoreId) (stall : Nat) (w : U32)
  /-- RETE (R385): Restores STATUS from ESTATUS and continues at EPC. -/
  | kRete (c : Machine.CoreId) (stall : Nat) (w : U32)
  /-- TRAP (R385): Raises TRAP with imm14 in EVAL. -/
  | kTrap (c : Machine.CoreId) (stall : Nat) (w : U32)
  /-- BREAK (R384): Raises BREAK, or stops the cell for inspection under TRACE_CUSTOM. -/
  | kBreak (c : Machine.CoreId) (stall : Nat) (w : U32)
  /-- PAIRED.WORD (R364): Executes two short operations in one cycle after reading all sources. -/
  | kPairedWord (c : Machine.CoreId) (stall : Nat) (w : U32)
  /-- EXTEST (R491): TAP EXTEST drives boundary pins while PERST_N is low. -/
  | tapExtest (pins tdi : List Byte)
  /-- SAMPLE.PRELOAD (R491): TAP SAMPLE/PRELOAD samples or preloads the boundary register. -/
  | tapSamplePreload (pins tdi : List Byte)
  /-- IDCODE (R491): TAP IDCODE selects the identification register. -/
  | tapIdcode
  /-- HIGHZ (R491): TAP HIGHZ floats outputs while PERST_N is low. -/
  | tapHighz (pins tdi : List Byte)
  /-- CLAMP (R491): TAP CLAMP holds outputs while PERST_N is low. -/
  | tapClamp (pins tdi : List Byte)
  /-- EXTEST.PULSE (R491): TAP EXTEST_PULSE tests AC-coupled nets under IEEE 1149.6. -/
  | tapExtestPulse (pins tdi : List Byte)
  /-- EXTEST.TRAIN (R491): TAP EXTEST_TRAIN tests AC-coupled nets with pulse trains. -/
  | tapExtestTrain (pins tdi : List Byte)
  /-- LC.STATUS (R491): TAP LC_STATUS shifts out the life-cycle status. -/
  | tapLcStatus
  /-- DBG.AUTH (R490): TAP DBG_AUTH presents a certificate or the CLEARED body to open a debug session. -/
  | tapDbgAuth (b : List Byte)
  /-- DBG.CLOSE (R487): TAP DBG_CLOSE closes the debug session. -/
  | tapDbgClose
  /-- DBG.READ (R491): TAP DBG_READ reads the space its rights allow. -/
  | tapDbgRead (x : Machine.DbgSpace)
  /-- DBG.WRITE (R488): TAP DBG_WRITE writes registers in a CLEARED session. -/
  | tapDbgWrite (fn a v : Nat)
  /-- DBG.HALT (R489): TAP DBG_HALT halts, steps or resumes cells of held regions. -/
  | tapDbgHalt (c : Machine.CoreId) (o : Machine.DbgOp)
  /-- DBG.RUN (R489): TAP DBG_RUN runs customer routines in held regions on shifted-in data. -/
  | tapDbgRun (c : Machine.CoreId) (n : Nat) (args : List Byte) (ins : Tbl (List Byte))
  /-- FT.SCAN (R491): TAP FT_SCAN runs factory scan in FACTORY_TEST. -/
  | tapFtScan (tdi : List Byte)
  /-- FT.BIST (R491): TAP FT_BIST runs factory BIST in FACTORY_TEST. -/
  | tapFtBist (tdi : List Byte)
  /-- FT.FUSE (R491): TAP FT_FUSE burns fuses in FACTORY_TEST or BLANK. -/
  | tapFtFuse (x : Machine.FuseIn)
  /-- BYPASS (R491): TAP BYPASS selects the bypass register. -/
  | tapBypass (tdi : List Byte)
  /-- REGION.SRAM_WIPED (R417): The 1 ms zero-write of a diked region's remaining SRAM completes, its pans go DORMANT, and an out-by-fault region proceeds to TESTING or FAILED under R415. -/
  | regionSramWiped (r : Nat)
  /-- PERST.N_DEASSERT (R528): The rise of PERST_N releases the PCIe controller and queue engine from reset and ends the device's pull on WAKE_N. -/
  | perstNDeassert
  /-- FRAME.PORT_LINK_CHANGE (R289): A frame port's link comes up after training or retraining, or goes down, which updates FRP_PORT_STATUS.LINK and governs sending, forwarding and PTP source validity. -/
  | framePortLinkChange (p : Nat) (up : Bool)
  /-- TCXO.TOLERANCE_CHANGE (R255): TCXO_10 enters or leaves ±5 ppm of the disciplined tick, setting or clearing TCXO_OK and so changing the holdover growth rate. -/
  | tcxoToleranceChange (ok : Bool)
  /-- LMS.NEXT_TREE_READY (R194): Background generation of the next tree of a lower HSS level completes, and signings waiting for it proceed. -/
  | lmsNextTreeReady (id : Nat)
  /-- STIMULATION.WINDOW_END (R504): The suppression window of a stimulated detector ends, and an alarm the detector still reads is acted on at that moment. -/
  | stimulationWindowEnd (u : Nat) (alarm : Bool)
  /-- ERROR.PAIR_PHASE_TOGGLE (R440): In dynamic mode, the healthy error pair swaps between 1/0 and 0/1 every 500 µs. -/
  | errorPairPhaseToggle
  /-- HOST.MEMORY_COMPLETION (R101): A host read or translation completion arrives (data, UR/CA or denial), or a completion timeout expires, for a ring fetch, fragment, mailbox fragment or streamed key. -/
  | hostMemoryCompletion (u : Machine.HostUse) (a : Machine.HostAns)
  /-- CARD.COMMAND_RESPONSE (R512): A card response or data block arrives and is CRC-checked and retried, or its 64-clock response timeout expires. -/
  | cardCommandResponse (ok : Bool)
  /-- DIG.WIN_COMPRESSION_DONE (R180): The digest-window core finishes a block compression, clearing BUSY, or finishes the final block, setting DONE with the result in DIG_WIN_OUT. -/
  | digWinCompressionDone
deriving DecidableEq, Repr

end Sys2Proof
end

