-- ==== Sys2Proof/Decode.lean ====
section
/-! DEFINITION. The command that a word spells. The opcode table gives bits to no row (its rows carry neither fixed bits nor fields), so
no word spells a command; the entry header, opcode and operands of a submission entry are read by Machine/Operands.lean. -/

namespace Sys2Proof

/-- The command of a word of `nbits` bits: no row of the table has bits, so there is none. -/
def decodeTableWord (_nbits _w : Nat) : Option Instr := none

end Sys2Proof
end

