-- ==== Sys2Proof/Config.lean ====
section
/-! DEFINITION. What an implementation or a published standard fixes and this spec does not state: the free values and
the uninterpreted functions of the standards of R15. Nothing in Lean can see a value of any of them. -/

namespace Sys2Proof.Config

/-- A free value of the model, one for each value of the state's counter `free` (log 10). -/
opaque freeNat : Nat → Nat

/-- A free run of bytes for each value of the counter: the first argument is the counter, the second the length
(log 10). -/
opaque freeBytes : Nat → Nat → List Byte

/-- A free memory for each value of the counter: its byte at an address (log 10). -/
opaque freeMem : Nat → Nat → Byte

/-- A function of a published standard, named by `f`, of the operands that stand in the list (log 11): the spec names
the standard and does not restate the function. -/
opaque std : (f : String) → List (List Byte) → List Byte

/-- A yes or no answer of a published standard: a signature verifies, an encoding is valid (log 11). -/
opaque stdOk : (f : String) → List (List Byte) → Bool

/-- The energy of a piece of work, in nanojoules, for each value of the counter (log 12). -/
opaque energy : Nat → Nat

/-- Local memory of a Kertor-B core in units of 8 KiB (KFEAT1.LMEM_KIB, R361), which the spec gives for cells only. -/
opaque lmemB : Nat

/-- The bytes of vendor words of a control store, by address of the read-only window (R391, R393). -/
opaque vendorStore : Nat → Byte

/-- Whether tininess is detected before rounding, which IEEE 754 leaves to the implementation (R367). -/
opaque tinyBefore : Bool

/-- What a sensor of the hub measures (R459), in the units of MGT_SENSOR_VAL: region (8 for the apex), type, index, and number of
the sample since the tick's epoch (log 10). -/
opaque sensor : (region type index sample : Nat) → Nat

/-- The minor version of Cerdar 1 (R44), which the spec does not state. -/
opaque cerdarMinor : Nat

/-- The version of the HQC specification implemented (R44), which the spec does not state. -/
opaque hqcVersion : Nat

/-- The JEDEC manufacturer identity of the IDCODE register (R491), which the spec does not state. -/
opaque jedecId : Nat

/-- System slots that ML-DSA signing of a parameter set spills to at an order, one less for ML-DSA-87 at order 3, which the spec says
spills; the spec states no size (R113, log 21). -/
opaque spillSlots : (alg order : Nat) → Nat

/-- Mask-stream bytes that a masked KMAC draws, by its order and the bytes of its message; R121 has no row for it (log 85). -/
opaque kmacMask : (order bytes : Nat) → Nat

end Sys2Proof.Config
end

