-- ==== Sys2Proof/Machine/Parts/Frames.lean ====
section
/-! DEFINITION. The state of the frame ports, streams (R262-R289) and harvest sessions (R290-R313). -/

namespace Sys2Proof.Machine

/-- The modes of a frame port (R262), in the order of their codes. -/
inductive PortMode where
  | disabled | tap | endpoint | passThrough
deriving DecidableEq, Repr

/-- A frame key in a slot (R271). -/
structure FKey where
  keyId : List Byte
  from' : Nat
  till : Nat
  key : List Byte
deriving DecidableEq, Repr

/-- A frame in the egress queue of a port (R286, R288): who sent it, and what is still done as it leaves. -/
structure Egress where
  data : List Byte
  prio : Nat
  /-- The FRM.SEND command whose frame it is. -/
  send : Option Nat := none
  stream : Option Nat := none
  /-- It is folded into the stream's harvest chain as it leaves (R296). -/
  fold : Bool := false
  /-- A forwarded frame: its ingress tick, and the timeAllowedtoLive after it in ns (R275). -/
  ingress : Nat := 0
  ttl : Option Nat := none
  /-- The extension of SIGN_FWD is added as it leaves: AUTH and the key that its ingress tick selects (R287, R272). -/
  sign : Option (Nat × FKey) := none
  /-- A PTP frame of the transparent clock (R264). -/
  ptp : Bool := false
  /-- A frame of the device's own, neither forwarded nor of FRM.SEND: a Pdelay_Resp, a harvest frame (R264, R300). -/
  own : Bool := false
deriving DecidableEq, Repr

/-- What duplicate discard keeps of a frame: its sequence number, the LAN or path it came by, and its ingress tick (R267). -/
structure RedFrame where
  seq : Nat
  lan : Nat
  tick : Nat
deriving DecidableEq, Repr

/-- A frame port (R262, R268, R289). -/
structure Port where
  mode : PortMode := .disabled
  speed : Nat := 0
  redundancy : Nat := 0
  mtu : Nat := 1518
  unknownRing : Nat := 0xFF
  fwdUnknown : Bool := false
  fwdOther : Bool := false
  link : Bool := false
  rxFrames : Nat := 0
  rxErr : Nat := 0
  dup : Nat := 0
  unknown : Nat := 0
  other : Nat := 0
  fail : Nat := 0
  fwd : Nat := 0
  fwdDrop : Nat := 0
  tx : Nat := 0
  discardGen : Nat := 0
  queue : List Egress := []
  /-- Duplicate-discard windows of the pair: source address and the last 64 frames of it (R267). -/
  seen : List (List Byte × List RedFrame) := []
deriving DecidableEq, Repr

/-- What FRM.STREAM_SET writes (R270). -/
structure StreamCfg where
  kind : Nat
  owner : Nat
  srcMac : List Byte
  vlan : Nat
  appid : Nat
  ports : Nat
  auth : Nat
  flags : Nat
  silenceMs : Nat
  rateCeil : Nat
  burst : Nat
  rateFloor : Nat
  failLimit : Nat
  failWindowMs : Nat
  quarS : Nat
  smpRate : Nat
  svAgeUs : Nat
  egress : Nat
deriving DecidableEq, Repr

/-- A subscription (R281): instance, ring, DELIVER, and the DROPS since the last delivery. -/
structure Sub where
  inst : Nat
  ring : Nat
  deliver : Nat
  drops : Nat := 0
deriving DecidableEq, Repr

/-- The states of a stream (R279), in the order of their codes. -/
inductive SState where
  | inactive | active | silent | quarantined
deriving DecidableEq, Repr

/-- A stream of the table (R269-R282). `level` is its token bucket in billionths of a frame (R276). -/
structure Stream where
  cfg : StreamCfg
  key0 : Option FKey := none
  key1 : Option FKey := none
  subs : List Sub := []
  st : SState := .inactive
  rateLow : Bool := false
  /-- Some frame has been accepted: the fields below then hold its counts. -/
  seen : Bool := false
  lastSt : Nat := 0
  lastSq : Nat := 0
  lastT : Nat := 0
  lastTick : Nat := 0
  /-- timeAllowedtoLive of the last passing frame, in ns. -/
  lastTtl : Nat := 0
  passed : Nat := 0
  failed : Nat := 0
  quarFrames : Nat := 0
  level : Nat := 0
  levelTick : Nat := 0
  second : Nat := 0
  count : Nat := 0
  /-- Ingress ticks of the last FAIL_LIMIT failures, and of the last failure. -/
  fails : List Nat := []
  lastFail : Nat := 0
deriving DecidableEq, Repr

/-- A window being sealed, or a record whose signing runs (R298, R299). `object` is the sealed object once made. -/
structure Sealing where
  win : Nat
  record : List Byte
  object : Option (List Byte) := none
deriving DecidableEq, Repr

/-- The open window of a sealer: its index, frames folded, the first and last frame key and the chain (R295). -/
structure OpenWin where
  win : Nat
  count : Nat
  first : Nat
  last : Nat
  chain : List Byte
deriving DecidableEq, Repr

/-- A shard assembly (R303): its window, first tick, shard count and the bodies by offset. -/
structure Assembly where
  win : Nat
  since : Nat
  count : Nat
  total : Nat
  parts : Tbl (List Byte) := []
deriving DecidableEq, Repr

/-- What a frame held for DELIVER 2 keeps of its delivery (R280, R305). -/
structure Held where
  data : List Byte
  verdict : Nat
  port : Nat
  tq : Nat
  forwarded : Bool
  slot : Nat
  ttl : Option Nat
deriving DecidableEq, Repr

/-- A pending frame of a VERIFY session (R304). `held` is present while DELIVER 2 subscribers wait for it. -/
structure PFrame where
  key : Nat
  digest : List Byte
  ingress : Nat
  win : Nat
  held : Option Held := none
deriving DecidableEq, Repr

/-- A record whose ML-DSA check runs (R307 step 7), and its signature. -/
structure Verifying where
  record : List Byte
  sig : List Byte
deriving DecidableEq, Repr

/-- A harvest session (R290-R313), kept under its publisher stream. -/
structure Session where
  hstream : Nat
  role : Nat
  sigAlg : Nat
  windowUs : Nat
  waitUs : Nat
  cls : Nat
  format : Nat
  dst : List Byte
  pcp : Nat
  handle : U32
  /-- A SEAL session folds from this window on (R293). -/
  fromWin : Nat
  window : Option OpenWin := none
  sealing : List Sealing := []
  assemblies : List Assembly := []
  pend : List PFrame := []
  verify : List Verifying := []
  lastIndex : Option Nat := none
  done : Nat := 0
  failed : Nat := 0
deriving DecidableEq, Repr

/-- HVW_ registers (R313). -/
structure Hvw where
  ethertype : Nat := 0x88B5
  sealed : Nat := 0
  sealFail : Nat := 0
  pass : Nat := 0
  fail : Nat := 0
  lost : Nat := 0
  shardDrop : Nat := 0
  overflow : Nat := 0
deriving DecidableEq, Repr

/-- The frame unit: ports, streams and sessions. -/
structure Frames where
  ports : Tbl Port := []
  streams : Tbl Stream := []
  sessions : Tbl Session := []
  hvw : Hvw := {}
deriving DecidableEq, Repr

end Sys2Proof.Machine
end

