-- ==== Sys2Proof/Machine/Parts/Out.lean ====
section
/-! DEFINITION. What the block sends out: the model's own record of its outward actions, in order (log 9). -/

namespace Sys2Proof.Machine

/-- What the packets of a host access carry beside requester ID and address: the PASID where the instance has PASID_EN set, whether
the address is translated (R99), the IDE stream they take, 32 the link stream and none plaintext (R110), and the No Snoop attribute
(R76). -/
structure Tag where
  pasid : Option Nat
  translated : Bool
  stream : Option Nat
  noSnoop : Bool
deriving DecidableEq, Repr

/-- An outward action of the block. -/
inductive Out where
  /-- A host read of `len` bytes issued for an instance. -/
  | read (inst addr len : Nat) (tag : Tag)
  /-- A host write: outputs, completions, frame-ring entries, mirror entries. -/
  | write (inst addr : Nat) (data : List Byte) (tag : Tag)
  /-- A translation request for the page at an untranslated address (R100). -/
  | translate (inst page : Nat)
  /-- A read of a BAR of a function completes with Unsupported Request (R110). -/
  | ur (fn : Nat)
  /-- An MSI-X message of a function. -/
  | msix (inst vector : Nat)
  /-- An ATS Invalidation Completion. -/
  | atsDone (inst page : Nat)
  /-- A frame leaves the balls of a port. -/
  | frame (port : Nat) (data : List Byte)
  /-- A message on the sideband bus. -/
  | sideband (data : List Byte)
  /-- An MCTP or DOE message, over PCIe or on the sideband. -/
  | mctp (pcie : Bool) (data : List Byte)
  /-- A record or image bytes written to boot flash, in the named area. -/
  | flash (area : String) (data : List Byte)
  /-- A block written to the custody card. -/
  | card (lba : Nat) (data : List Byte)
  /-- A frame on the setpoint link (R526). -/
  | setpoint (word : Nat)
  /-- A value shifted out of the TAP. -/
  | tdo (data : List Byte)
  /-- A value returned to a register read that has a row of its own. -/
  | value (v : Nat)
deriving DecidableEq, Repr

end Sys2Proof.Machine
end

