-- ==== Sys2Proof/Machine/Parts/Region.lean ====
section
/-! DEFINITION. The parts of State that belong to a region: its service state, power, links and rake (chapter 17) and
its pans' power states (R408, R409). -/

namespace Sys2Proof.Machine

/-- A warm-cell reservation (R413): the instance and its counts. -/
structure Warm where
  inst : Nat
  lattice : Nat
  number : Nat
deriving DecidableEq, Repr

/-- RGN_SVC_CFG and the operating-point switch (R411, R426). -/
structure SvcCfg where
  point : Bool := false
  autoRepair : Bool := true
  autoFull : Bool := false
  rakeSplit : Nat := 0
  idleUs : Nat := 50
  napMs : Nat := 10
deriving DecidableEq, Repr

/-- The service side of a region (R408-R426). -/
structure Svc where
  state : RState := .absent
  outByCmd : Bool := false
  outByFault : Bool := false
  cfg : SvcCfg := {}
  pointNow : Bool := false
  switching : Bool := false
  switchStart : Nat := 0
  aged : Bool := false
  clockMhz : Nat := 1500
  /-- The image kinds of which the region runs the other bank (R422). -/
  fallback : List Nat := []
  vddMv : Nat := 0
  marginPs : Nat := 0
  guardPs : Nat := 0
  mod0 : Nat := 2
  mod1 : Nat := 2
  retries : Nat := 0
  retryTicks : List Nat := []
  rakePasses : Nat := 0
  rakeCorr : Nat := 0
  rakeUnc : Nat := 0
  fences : Nat := 0
  fenceTicks : List Nat := []
  warm : List Warm := []
  /-- Quarantined blocks of SRAM, withheld from allocation until the region passes TESTING (R431). -/
  withheld : List SramBlock := []
  /-- The region firmware and the vendor microcode that the region loaded (R422). -/
  image2 : List Byte := []
  image3 : List Byte := []
deriving DecidableEq, Repr

/-- What a region keeps of the way out of service and back (R415-R422). -/
structure SvcPath where
  /-- The tick of entry to the present region state. -/
  since : Nat := 0
  /-- The tick at which DRAIN_MS elapses. -/
  drainBy : Nat := 0
  /-- The secret stores are zero-written, and the remaining SRAM is (R417). -/
  wiped : Bool := true
  /-- TEST of REGN.RETURN or AUTO_FULL: full BIST. -/
  full : Bool := false
  /-- Jobs re-issued and aborted by the last fence (R418). -/
  reissuedJobs : Nat := 0
  abortedJobs : Nat := 0
deriving DecidableEq, Repr

/-- A pan's power state (R408, R409, R412). -/
structure PanSvc where
  pwr : PanPwr := .dormant
  since : Nat := 0
  /-- Woken at this tick; ACTIVE is reached after the wake time. -/
  waking : Option Nat := none
  /-- Held out of ACTIVE by the power ceiling. -/
  held : Bool := false
deriving DecidableEq, Repr

/-- A crystallizer entry (R128, R129). `param` is the ALG code; `done` is the tick at which its fill completes. -/
structure CrystEntry where
  inst : Nat
  gen : Nat
  param : Nat
  digest : List Byte
  granules : Nat
  pinned : Bool
  lru : Nat
  done : Nat
  /-- Removed, and kept only until the jobs that read it end (R133). -/
  gone : Bool := false
deriving DecidableEq, Repr

/-- Per-instance counters of the crystallizer or of a shelf: HITS, MISSES, EVICTS. -/
structure Hits where
  hits : Nat := 0
  misses : Nat := 0
  evicts : Nat := 0
deriving DecidableEq, Repr

/-- RGN_LAT_ and RGN_CRYST_ registers and the crystallizer of a region (R135). -/
structure Lat where
  /-- DEFAULT_ORDER as written; 0 while it stands at its reset value, the higher of 2 and the floor. -/
  defaultOrder : Nat := 0
  crystFill : Bool := true
  vbrDone : Nat := 0
  vbrFail : Nat := 0
  vbrX : Nat := 0
  cryst : List CrystEntry := []
  /-- Fills under way, made by the misses of running jobs (R133). -/
  fills : List CrystEntry := []
  sel : Nat := 0
  hits : Tbl Hits := []
deriving DecidableEq, Repr

/-- A pan's mask-stream generator (R118-R123, PAN_MSG_ registers). -/
structure Msg where
  seeded : Bool := false
  waitSeed : Bool := false
  fault : Bool := false
  used : Nat := 0
  reseeds : Nat := 0
  seedWaits : Nat := 0
  stall : Nat := 0
  /-- The next seed has been asked for at 768 KiB (R119). -/
  asked : Bool := false
deriving DecidableEq, Repr

/-- RGN_DIG_ registers (R196). -/
structure Dig where
  quantumUs : Nat := 20
  slhCells : Nat := 6
  switches : Nat := 0
  matchFault : Nat := 0
deriving DecidableEq, Repr

/-- RGN_NUM_, SLT_INST_ and SLT_INSPECT_ registers of a region (R230). -/
structure Num where
  quantumUs : Nat := 20
  yields : Nat := 0
  vbrFail : Nat := 0
  mceAttempts : Nat := 0
  instSel : Nat := 0
  inspectSel : Nat := 0
  inspectDenied : Bool := false
deriving DecidableEq, Repr

/-- RGN_SYM_ and SYM_ENG_ registers of a region (R248). -/
structure Sym where
  quantumUs : Nat := 20
  uncheckedEn : Bool := true
  pondWaits : Nat := 0
  tagFail : Nat := 0
  cmpFail : Nat := 0
  demoted : Nat := 0
  jobs0 : Nat := 0
  jobs1 : Nat := 0
  faults0 : Nat := 0
  faults1 : Nat := 0
deriving DecidableEq, Repr

/-- SLT_PAN_ registers of a pan (R201, R230): the slot length in force and the one that waits. -/
structure Slots where
  len64 : Nat := 4
  next : Option Nat := none
  waits : Nat := 0
  wipes : Nat := 0
deriving DecidableEq, Repr

/-- A Classic McEliece pin place in use (R221). -/
structure Pin where
  inst : Nat
  keyId : Nat
  pub : List Byte
deriving DecidableEq, Repr

/-- The pin is that of a key. -/
def Pin.of (p : Pin) (k : KeyRec) : Bool := p.inst == k.inst && p.keyId == k.keyId

/-- What a cell's registers hold (CELL_LAT_, CELL_NUM_ maps): its warm reservation and its counters;
`corr` is ECC_CORR of a lattice cell and CHECK_FAIL of a number cell. -/
structure CellRec where
  warm : Option Nat := none
  jobs : Nat := 0
  dup : Nat := 0
  corr : Nat := 0
deriving DecidableEq, Repr

/-- RNG_STATUS.STATE (R329), in the order of its codes. -/
inductive RngState where
  | starting | running | hold | borrowed | failed
deriving DecidableEq, Repr

/-- The randomness of a region (R314-R329). `ready` is the seed collected in advance; `asked` a request for a borrowed
seed under way, `donor` the region it was put to; `stopped` an expander whose borrowed seed has not come. -/
structure Rng where
  waitLimit : Nat := 10
  state : RngState := .starting
  test : Bool := false
  spare : Bool := false
  healthFail : Bool := false
  reservoir : Nat := 0
  /-- Bytes of output since the last seed, and its tick. -/
  since : Nat := 0
  seedTick : Nat := 0
  rct : Nat := 0
  apt : Nat := 0
  reseeds : Nat := 0
  borrowedN : Nat := 0
  donated : Nat := 0
  timeouts : Nat := 0
  waitNs : Nat := 0
  /-- Released samples in hand (R316). -/
  samples : Nat := 0
  ready : Bool := false
  asked : Bool := false
  donor : Option Nat := none
  requestNo : Nat := 0
  wrapped : Bool := false
  restarting : Bool := false
  lasting : Bool := false
  stopped : Bool := false
  startFails : Nat := 0
  /-- The startup window of a region that is STARTING has passed (R322). -/
  startup : Bool := false
  transients : List Nat := []
deriving DecidableEq, Repr

end Sys2Proof.Machine
end

