-- ==== Sys2Proof/Machine/State.lean ====
section
/-! DEFINITION. State: every piece of state the spec gives the block, as plain data, the queue of waiting commands, and
the state after reset. -/

namespace Sys2Proof.Machine

/-- Why a command stops the run. -/
inductive Fault where
  /-- Raised by no command of this model: a fault the spec describes is state (R427). Safe. -/
  | none
deriving DecidableEq, Repr

/-- Why a command is refused. -/
inductive Refusal where
  /-- Answered by `exec` alone, for a command that has no meaning yet. Safe. -/
  | notModelled (mnemonic : String)
deriving DecidableEq, Repr

/-- The three variants (R1). -/
inductive Variant where
  | exm8020 | exm8040 | exm8080
deriving DecidableEq, Repr

/-- Fuse values and identification (R36, R18, R44, R440, R476). -/
structure Fuses where
  /-- The variant the package was built as (R1); the EXM-8080 is the reference (R4). -/
  variant : Variant := .exm8080
  unit : Nat := 1
  enabled : Nat := 0xFF
  maskFloor : Nat := 1
  pairDynamic : Bool := false
  /-- The strict option of R326. -/
  rngStrict : Bool := false
  /-- FAMILY_MASK: bit f set, family code f is enabled (R44). -/
  familyMask : Nat := 0x1FFFE
  /-- ALG of the owner authority key that the OTP fixes (R353). -/
  authAlg : Nat := 0x13
  batteryMode : Bool := false
  /-- ALG_DISABLE (R476): bit n set disables family n of that map. -/
  algDisable : Nat := 0
  /-- PKG_REV.PACKAGE (R36). -/
  revision : Nat := 0x0C
deriving DecidableEq, Repr

/-- A host read that waits for the translation of a page (R99, R100). -/
structure AtsHeld where
  use : HostUse
  inst : Nat
  addr : Nat
  len : Nat
  noSnoop : Bool
deriving DecidableEq, Repr

/-- An ATS invalidation request that is not answered yet: `2 ^ size` bytes from `page` on (R100). -/
structure AtsInval where
  inst : Nat
  page : Nat
  size : Nat
deriving DecidableEq, Repr

/-- The package: mode, flags and the power and reset pins (R28-R31, R527-R531). -/
structure Pkg where
  mode : Mode := .boot
  halted : Bool := false
  dbgOpen : Bool := false
  zeroized : Bool := false
  perstHigh : Bool := true
  pwrgdMain : Bool := true
  pwrgdAon : Bool := true
  vbat : Bool := true
  /-- The device pulls WAKE_N low (R531). -/
  wakePull : Bool := false
  bootCount : Nat := 0
  /-- The boot ROM has still to run: the package stands at the reset vector (R485). -/
  booting : Bool := true
  /-- The battery key of the backup domain (R331, R333). -/
  batteryKey : Option (List Byte) := none
  fuses : Fuses := {}
  vfEnable : Bool := false
  numVfs : Nat := 0
  ats : List AtsEntry := []
  /-- Reads that wait for a translation, and invalidations that wait for the accesses that used what they invalidate. -/
  atsWait : List AtsHeld := []
  atsInval : List AtsInval := []
  /-- IDE streams in the Secure state: selective 0 to 31, 32 the link stream (R110). -/
  ideSecure : List Nat := []
deriving DecidableEq, Repr

/-- The package power registers (R426, R537). -/
structure Power where
  ceiling : Nat := 135
  drawMw : Nat := 0
  samples : List Nat := []
  thermEff : Nat := 0
  thermHeld : Nat := 0
  /-- PWR_HELD.COUNT. -/
  held : Nat := 0
  /-- Dies at or above 100 °C: 0 to 7 regions, 8 the apex (R536, R537), and those that have not yet read below it. -/
  warn : List Nat := []
  hot : List Nat := []
deriving DecidableEq, Repr

/-- A pan: power state and mask stream. -/
structure Pan where
  svc : PanSvc := {}
  msg : Msg := {}
  slots : Slots := {}
  cs : Cs := {}
deriving DecidableEq, Repr

/-- A region (chapters 05 to 17). -/
structure Region where
  svc : Svc := {}
  path : SvcPath := {}
  pans : Tbl Pan := []
  lat : Lat := {}
  dig : Dig := {}
  num : Num := {}
  sym : Sym := {}
  latCells : Tbl CellRec := []
  numCells : Tbl CellRec := []
  rng : Rng := {}
  shelf : List ShelfKey := []
  shelfSel : Nat := 0
  /-- Classic McEliece pin places in use (R221). -/
  pins : Tbl Pin := []
  shelfHits : Tbl Hits := []
  unwraps : Nat := 0
  /-- KEK_root and the identity seed have been delivered (R332). -/
  kekHere : Bool := false
  /-- Instances whose KEK_i the vault registers hold (R332). -/
  keks : List Nat := []
  cust : CustReg := {}
deriving DecidableEq, Repr

/-- The register-fed digest window (R178-R182). -/
structure DigWin where
  func : Nat := 2
  outLen : Nat := 32
  len : Nat := 0
  /-- The LO half of a word whose HI write has not come. -/
  lo : Nat := 0
  /-- Words of the message, in order. -/
  words : List Nat := []
  /-- LAST was accepted with this VALID; the result is not yet there. -/
  closing : Option Nat := none
  result : List Byte := []
  busy : Bool := false
  done : Bool := false
  /-- The owning port: false the host, true the Skanel firmware. -/
  owner : Option Bool := none
  token : Nat := 0
  lenErr : Bool := false
  overrun : Bool := false
  expired : Bool := false
  foreign : Bool := false
  timeoutMs : Nat := 10
  lastAccess : Nat := 0
deriving DecidableEq, Repr

/-- The machine. `pending` is the queue of commands that wait, first in, first out; `free` the model's own counter of
free values (log 10); `out` the model's own record of outward actions (log 9). -/
structure State where
  pending : List Instr
  tick : Nat
  time : TimeUnit
  pkg : Pkg
  power : Power
  faults : Faults
  jrn : Journal
  btn : Bittern
  insts : Tbl Inst
  cmds : List Cmd
  nextId : Nat
  rr : Nat
  regions : Tbl Region
  vault : Vault
  digWin : DigWin
  frames : Frames
  mgmt : Mgmt
  life : Life
  tamper : Tamper
  card : Card
  cust : Cust
  cores : List (CoreId × Core)
  free : Nat
  out : List Out
deriving DecidableEq, Repr

/-- The machine right after reset. -/
def State.reset : State :=
  { pending := [], tick := 0, time := {}, pkg := {}, power := {}, faults := {}, jrn := {}, btn := {}, insts := [], cmds := [],
    nextId := 0, rr := 0, regions := [], vault := {}, digWin := {}, frames := {},
    mgmt := {}, life := {}, tamper := {}, card := {}, cust := {}, cores := [], free := 0, out := [] }

end Sys2Proof.Machine
end

