-- ==== Sys2Proof/Machine/Ops.lean ====
section
/-! DEFINITION. The named operations every meaning is built from: sparse tables, bytes and fields, saturating counters,
access to instances, queues, regions and pans, free values, and the record of outward actions. -/

namespace Sys2Proof.Machine

/-! ### Sparse tables -/

/-- The entry of key `k`, or the default. -/
def tget {α : Type} (d : Nat → α) : Tbl α → Nat → α
  | [], k => d k
  | (k', v) :: t, k => if k' = k then v else tget d t k

/-- The entry of key `k` where one is listed. -/
def tfind {α : Type} : Tbl α → Nat → Option α
  | [], _ => none
  | (k', v) :: t, k => if k' = k then some v else tfind t k

/-- Remove key `k`. -/
def tdel {α : Type} : Tbl α → Nat → Tbl α
  | [], _ => []
  | (k', v) :: t, k => if k' = k then tdel t k else (k', v) :: tdel t k

/-- Insert under key `k` in rising order, in place of an entry of the same key. -/
def tins {α : Type} (k : Nat) (v : α) : Tbl α → Tbl α
  | [] => [(k, v)]
  | (k', v') :: t =>
    if k < k' then (k, v) :: (k', v') :: t
    else if k = k' then (k, v) :: t
    else (k', v') :: tins k v t

/-- Set key `k` to `v`, keeping the canonical form: an entry equal to the default is not listed. -/
def tset {α : Type} [DecidableEq α] (d : Nat → α) (t : Tbl α) (k : Nat) (v : α) : Tbl α :=
  if v = d k then tdel t k else tins k v t

/-- Keys strictly rising and no entry equal to the default. -/
def tcanon {α : Type} [DecidableEq α] (d : Nat → α) : Tbl α → Bool
  | [] => true
  | [(k, v)] => v != d k
  | (k, v) :: (k', v') :: t => (v != d k) && decide (k < k') && tcanon d ((k', v') :: t)

/-! ### Numbers, bytes and fields -/

/-- A counter of at most `m` that saturates. -/
def satAdd (m a b : Nat) : Nat := min m (a + b)

/-- Add one to a 32-bit counter that saturates. -/
def inc32 (a : Nat) : Nat := satAdd max32 a 1

/-- Bits [hi:lo] of a number. -/
def bits (v hi lo : Nat) : Nat := v / 2 ^ lo % 2 ^ (hi + 1 - lo)

/-- Bit `i` of a number. -/
def bit (v i : Nat) : Bool := v / 2 ^ i % 2 == 1

/-- A flag as bit `i`. -/
def flag (b : Bool) (i : Nat) : Nat := if b then 2 ^ i else 0

/-- `n` bytes of a number, little-endian (R7). -/
def le : Nat → Nat → List Byte
  | 0, _ => []
  | n + 1, v => BitVec.ofNat 8 v :: le n (v / 256)

/-- The number that bytes spell, little-endian (R7). -/
def unle : List Byte → Nat
  | [] => 0
  | b :: bs => b.toNat + 256 * unle bs

/-- `n` zero bytes. -/
def zeros (n : Nat) : List Byte := List.replicate n 0

/-- Bytes made exactly `n` long: cut, or filled with zero. -/
def fit (n : Nat) (b : List Byte) : List Byte := (b ++ zeros n).take n

/-- `n` bytes from offset `o`; bytes beyond the end read as zero. -/
def slice (b : List Byte) (o n : Nat) : List Byte := fit n (b.drop o)

/-- The little-endian field of `n` bytes at offset `o`. -/
def fld (b : List Byte) (o n : Nat) : Nat := unle (slice b o n)

/-- Every byte of the field is zero. -/
def zero? (b : List Byte) (o n : Nat) : Bool := (slice b o n).all (· == 0)

/-- The bytes of an ASCII label. -/
def ascii (t : String) : List Byte := t.toList.map fun c => BitVec.ofNat 8 c.toNat

/-- The output of a standard's function, of the length the spec gives. -/
def stdN (n : Nat) (f : String) (args : List (List Byte)) : List Byte := fit n (Config.std f args)

/-- SHA3-256 (R448). -/
def sha3 (b : List Byte) : List Byte := stdN 32 "SHA3-256" [b]

/-- Change the `i`-th element of a list. -/
def setAt {α : Type} (l : List α) (i : Nat) (f : α → α) : List α := l.modify i f

/-- Read a run of bytes of a sparse buffer. -/
def readBuf (t : Tbl Byte) : Nat → Nat → List Byte
  | _, 0 => []
  | a, n + 1 => tget (fun _ => (0 : Byte)) t a :: readBuf t (a + 1) n

/-- Write a run of bytes into a sparse buffer. -/
def writeBuf (t : Tbl Byte) (a : Nat) : List Byte → Tbl Byte
  | [] => t
  | b :: bs => writeBuf (tset (fun _ => (0 : Byte)) t a b) (a + 1) bs

/-! ### Free values -/

/-- Draw a free number. -/
def drawNat (s : State) : Nat × State := (Config.freeNat s.free, { s with free := s.free + 1 })

/-- Draw `n` free bytes. -/
def drawBytes (n : Nat) (s : State) : List Byte × State :=
  (fit n (Config.freeBytes s.free n), { s with free := s.free + 1 })

/-- Draw the energy of a piece of work. -/
def drawEnergy (s : State) : Nat × State := (Config.energy s.free, { s with free := s.free + 1 })

/-! ### Outward actions -/

/-- Append an outward action. -/
def emit (o : Out) (s : State) : State := { s with out := s.out ++ [o] }

/-! ### Instances and their queues -/

/-- The configuration of instance `i` after PERST_N: INST_ADM_QUOTA0 and QUOTA1 (R98), VLT_HCAP (R335). -/
def cfg0 (i : Nat) : InstCfg :=
  if i = 0 then { maxQp := 32, pins := 1, shelf := 256, cryst := 40, slotKib := 1024, hcap := 1024 } else {}

/-- An instance after PERST_N. -/
def inst0 (i : Nat) : Inst := { cfg := cfg0 i }

/-- Instance `i`. -/
def State.inst (s : State) (i : Nat) : Inst := tget inst0 s.insts i

/-- Replace instance `i`. -/
def State.setInst (s : State) (i : Nat) (v : Inst) : State := { s with insts := tset inst0 s.insts i v }

/-- Change instance `i`. -/
def State.modInst (s : State) (i : Nat) (f : Inst → Inst) : State := s.setInst i (f (s.inst i))

/-- Entry `v` of the MSI-X table of function `i` (R34). -/
def State.msixEntry (s : State) (i v : Nat) : MsixEntry := tget (fun _ => ({} : MsixEntry)) (s.inst i).msix v

/-- Raise vector `v` of function `i` through its MSI-X table, where the function has MSI-X enabled: a masked vector sets its pending bit
instead (R87), and a function in reset, or a halted package, sends none (R91, R439). -/
def raiseVector (i v : Nat) (s : State) : State :=
  if (s.inst i).resetting || !(s.inst i).msixEn || s.pkg.halted then s
  else if (s.inst i).msixMask || (s.msixEntry i v).masked then s.modInst i fun n => { n with pba := v :: n.pba.filter (· != v) }
  else emit (.msix i v) s

/-! ### Host accesses (R99, R100, R110) -/

/-- The PASID that tags the accesses and the translations of instance `i` (R99, R100). -/
def State.pasidOf (s : State) (i : Nat) : Nat := if (s.inst i).cfg.pasidEn then (s.inst i).cfg.pasid else 0

/-- The stream of instance `i` (R110): its selective stream where it is bound, else the link stream where that is Secure. -/
def State.streamOf (s : State) (i : Nat) : Option Nat :=
  if (s.inst i).cfg.ideBind then some (s.inst i).cfg.ideStream
  else if s.pkg.ideSecure.contains 32 then some 32 else none

/-- What the packets of an access of instance `i` carry. -/
def State.tagOf (s : State) (i : Nat) (noSnoop : Bool) : Tag :=
  { pasid := if (s.inst i).cfg.pasidEn then some (s.inst i).cfg.pasid else none, translated := (s.inst i).atsEn,
    stream := s.streamOf i, noSnoop := noSnoop }

/-- An entry of the translation cache that instance `i` hits covers the byte at `addr` (R100). -/
def State.atsHit (s : State) (i addr : Nat) : Bool :=
  s.pkg.ats.any fun e => e.inst == i && e.gen == (s.inst i).gen && e.pasid == s.pasidOf i && decide (e.page ≤ addr) &&
    decide (addr < e.page + 2 ^ e.sizeLog2)

/-- The first page of an access that has no translation yet, where the function has ATS enabled (R99). -/
def State.untranslated (s : State) (i addr len : Nat) : Option Nat :=
  if (s.inst i).atsEn then
    ((List.range ((addr % 4096 + len + 4095) / 4096)).map fun k => addr / 4096 * 4096 + 4096 * k).find? fun p => !s.atsHit i p
  else none

/-- Issue a host read, or ask for the translation that it needs and hold it until then (R99, R100). -/
def hostRead (u : HostUse) (i addr len : Nat) (noSnoop : Bool) (s : State) : State :=
  match s.untranslated i addr len with
  | none => emit (.read i addr len (s.tagOf i noSnoop)) s
  | some p =>
    emit (.translate i p) { s with pkg := { s.pkg with
      atsWait := s.pkg.atsWait ++ [{ use := u, inst := i, addr := addr, len := len, noSnoop := noSnoop }] } }

/-- Ask for the translation that an access needs, where it needs one (R100). -/
def askPage (i addr len : Nat) (s : State) : State :=
  match s.untranslated i addr len with
  | none => s
  | some p => emit (.translate i p) s

/-- A host write, behind the request for a translation that it needs (R99, log 78); none leaves the device in HALT (R439). -/
def hostWrite (i addr : Nat) (b : List Byte) (noSnoop : Bool) (s : State) : State :=
  if s.pkg.halted then s else emit (.write i addr b (s.tagOf i noSnoop)) (askPage i addr b.length s)

/-- Submission queue `q` of instance `i`. -/
def State.sq (s : State) (i q : Nat) : Sq := tget (fun _ => ({} : Sq)) (s.inst i).sqs q

/-- Change submission queue `q` of instance `i`. -/
def State.modSq (s : State) (i q : Nat) (f : Sq → Sq) : State :=
  s.modInst i fun n => { n with sqs := tset (fun _ => ({} : Sq)) n.sqs q (f (tget (fun _ => ({} : Sq)) n.sqs q)) }

/-- Completion ring `c` of instance `i`. -/
def State.cq (s : State) (i c : Nat) : Cq := tget (fun _ => ({} : Cq)) (s.inst i).cqs c

/-- Change completion ring `c` of instance `i`. -/
def State.modCq (s : State) (i c : Nat) (f : Cq → Cq) : State :=
  s.modInst i fun n => { n with cqs := tset (fun _ => ({} : Cq)) n.cqs c (f (tget (fun _ => ({} : Cq)) n.cqs c)) }

/-- Frame ring `r` of instance `i`. -/
def State.fring (s : State) (i r : Nat) : FrameRing := tget (fun _ => ({} : FrameRing)) (s.inst i).frings r

/-- Change frame ring `r` of instance `i`. -/
def State.modFring (s : State) (i r : Nat) (f : FrameRing → FrameRing) : State :=
  s.modInst i fun n =>
    { n with frings := tset (fun _ => ({} : FrameRing)) n.frings r (f (tget (fun _ => ({} : FrameRing)) n.frings r)) }

/-- Change the mailbox of instance `i`. -/
def State.modMbx (s : State) (i : Nat) (f : Mbx → Mbx) : State := s.modInst i fun n => { n with mbx := f n.mbx }

/-- The instance exists (R92). -/
def State.present (s : State) (i : Nat) : Bool := i == 0 || (s.pkg.vfEnable && decide (i ≤ s.pkg.numVfs))

/-! ### Regions and pans -/

/-- A region after PERST_N. -/
def region0 (_ : Nat) : Region := {}

/-- A pan after PERST_N: DORMANT (R426). -/
def pan0 (_ : Nat) : Pan := {}

/-- A cell's registers after PERST_N. -/
def cell0 (_ : Nat) : CellRec := {}

/-- Region `r`. -/
def State.region (s : State) (r : Nat) : Region := tget region0 s.regions r

/-- Change region `r`. -/
def State.modRegion (s : State) (r : Nat) (f : Region → Region) : State :=
  { s with regions := tset region0 s.regions r (f (s.region r)) }

/-- Change the service side of region `r`. -/
def State.modSvc (s : State) (r : Nat) (f : Svc → Svc) : State := s.modRegion r fun g => { g with svc := f g.svc }

/-- Pan `p` of region `r`. -/
def State.pan (s : State) (r p : Nat) : Pan := tget pan0 (s.region r).pans p

/-- Change pan `p` of a region. -/
def Region.modPan (g : Region) (p : Nat) (f : Pan → Pan) : Region :=
  { g with pans := tset pan0 g.pans p (f (tget pan0 g.pans p)) }

/-- Change pan `p` of region `r`. -/
def State.modPan (s : State) (r p : Nat) (f : Pan → Pan) : State := s.modRegion r fun g => g.modPan p f

/-- PCIe Device ID of a variant (R1). -/
def Variant.device : Variant → Nat
  | .exm8020 => 0x8020
  | .exm8040 => 0x8040
  | .exm8080 => 0x8080

/-- Region dies of a variant, numbered from 0 (R1). -/
def Variant.dies : Variant → Nat
  | .exm8020 => 2
  | .exm8040 => 4
  | .exm8080 => 8

/-- The greatest package power ceiling of a variant, in W (R1, R40). -/
def Variant.maxCeiling : Variant → Nat
  | .exm8020 => 45
  | .exm8040 => 75
  | .exm8080 => 135

/-- The variant of this package. -/
def State.variant (s : State) : Variant := s.pkg.fuses.variant

/-- A region die is present at position `r` and the enable mask names it (R1, R18). -/
def State.enabled (s : State) (r : Nat) : Bool := decide (r < s.variant.dies) && bit s.pkg.fuses.enabled r

/-- Region numbers, lowest first. -/
def regionNums : List Nat := [0, 1, 2, 3, 4, 5, 6, 7]

/-- Pan numbers, lowest first. -/
def panNums : List Nat := [0, 1, 2, 3]

/-- Region `r` is IN_SERVICE. -/
def State.inService (s : State) (r : Nat) : Bool := s.enabled r && (s.region r).svc.state == .inService

/-- The region of a core. -/
def CoreId.region : CoreId → Option Nat
  | .lattice r _ => some r | .number r _ => some r | .hash r _ => some r | .panCtl r _ => some r | .steward r => some r
  | .skanel => none

/-- The pan of a core (R14). -/
def CoreId.pan : CoreId → Option Nat
  | .lattice _ n => some (n / 8) | .number _ n => some (n / 2) | .hash _ n => some (n / 2) | .panCtl _ p => some p
  | .steward _ => none
  | .skanel => none

/-- Some region is IN_SERVICE. -/
def State.anyInService (s : State) : Bool := regionNums.any s.inService

/-! ### Commands in flight -/

/-- The command with id `j`. -/
def State.cmd? (s : State) (j : Nat) : Option Cmd := s.cmds.find? fun c => c.job.id == j

/-- Change the progress of command `j`. -/
def State.modCmd (s : State) (j : Nat) (f : Cmd → Cmd) : State :=
  { s with cmds := s.cmds.map fun c => if c.job.id == j then f c else c }

/-- Change the progress of command `j`. -/
def State.modProg (s : State) (j : Nat) (f : Prog → Prog) : State :=
  s.modCmd j fun c => { c with prog := f c.prog }

/-- Remove command `j`. -/
def State.dropCmd (s : State) (j : Nat) : State := { s with cmds := s.cmds.filter fun c => !(c.job.id == j) }

/-! ### The mode -/

/-- Change the package part of the state. -/
def State.modPkg (s : State) (f : Pkg → Pkg) : State := { s with pkg := f s.pkg }

/-- Change the fault aggregator. -/
def State.modFaults (s : State) (f : Faults → Faults) : State := { s with faults := f s.faults }

/-- Change the journal. -/
def State.modJrn (s : State) (f : Journal → Journal) : State := { s with jrn := f s.jrn }

/-- Change the bittern record. -/
def State.modBtn (s : State) (f : Bittern → Bittern) : State := { s with btn := f s.btn }

/-- The code of a mode in PKG_MODE.MODE (R28). -/
def Mode.code : Mode → Nat
  | .off => 0 | .backup => 1 | .standby => 2 | .boot => 3 | .selfTest => 4 | .service => 5 | .partialService => 6
  | .degraded => 7 | .update => 8 | .debug => 9 | .zeroized => 10 | .factoryTest => 11

/-- The code of a region state in PKG_REGION_STATE (R36). -/
def RState.code : RState → Nat
  | .inService => 0 | .draining => 1 | .diked => 2 | .testing => 3 | .loading => 4 | .rejoining => 5 | .failed => 6
  | .absent => 7

/-- The service modes of R29. -/
def Mode.isService : Mode → Bool
  | .service => true | .partialService => true | .degraded => true | _ => false

/-- The modes in which main power is present (R30). -/
def Mode.mainPower : Mode → Bool
  | .off => false | .backup => false | _ => true

/-- PKG_MODE.REGIONS_OUT (R36). -/
def State.regionsOut (s : State) : Bool := regionNums.any fun r => s.enabled r && (s.region r).svc.outByCmd

/-- PKG_MODE.REGIONS_FENCED (R36). -/
def State.regionsFenced (s : State) : Bool := regionNums.any fun r => s.enabled r && (s.region r).svc.outByFault

/-- The life-cycle state code: the highest stage burned, and CLEARED at stage OWNED with an odd LC_COUNT (R474,
R475). -/
def State.lcState (s : State) : Nat :=
  match s.life.otp.stage with
  | 3 => if s.life.otp.lcCount % 2 = 1 then 4 else 3
  | 4 => 5
  | 5 => 6
  | n => n

/-- The service mode that the flags of the regions give (R29). -/
def State.serviceMode (s : State) : Mode :=
  if s.regionsFenced then .degraded else if s.regionsOut then .partialService else .service

/-! ### The management log -/

/-- Records the 8 MiB of the management log hold (R460, R461). -/
def logRoom : Nat := 131072

/-- The newest record of a type. -/
def newestLog (l : List LogRec) (ty : Nat) : Option LogRec := (l.filter fun e => e.type == ty).getLast?

/-- Number records from `n` on. -/
def renumber (n : Nat) : List LogRec → List LogRec
  | [] => []
  | e :: l => { e with seq := n } :: renumber (n + 1) l

/-- Write a record to the management log. When the log wraps, the newest record of each of types 1 to 4 and 6 is first
written again at the head (R461). -/
def mlog (ty : Nat) (content : List Byte) (s : State) : State :=
  let m := s.mgmt
  let full := decide (logRoom ≤ m.log.length)
  let kept := if full then renumber m.logSeq ([1, 2, 3, 4, 6].filterMap (newestLog m.log)) else []
  let e : LogRec := { seq := m.logSeq + kept.length, type := ty, content := fit 55 content }
  let l := m.log ++ kept ++ [e]
  emit (.flash "management log" (le 8 e.seq ++ le 1 ty ++ fit 55 content))
    { s with mgmt := { m with log := l.drop (l.length - logRoom), logSeq := m.logSeq + kept.length + 1 } }

/-- A value lies in a range. -/
def within (lo hi v : Nat) : Bool := decide (lo ≤ v) && decide (v ≤ hi)

/-- A big-endian number in key bytes. -/
def beAt (b : List Byte) (o n : Nat) : Nat := unle (slice b o n).reverse

end Sys2Proof.Machine
end

