-- ==== Sys2Proof/Machine/Codes.lean ====
section
/-! DEFINITION. The code tables of the spec: status codes (R68), fault classes, causes and kinds (R427, R429, R430). -/

namespace Sys2Proof.Machine

/-- The code of a status (R68). -/
def Status.code : Status → Nat
  | .ok => 0x0000
  | .okAlready => 0x0001
  | .malformed => 0x0101
  | .lengthMismatch => 0x0102
  | .badOpcode => 0x0103
  | .badPath => 0x0104
  | .badFragment => 0x0105
  | .addrFault => 0x0201
  | .outputShort => 0x0202
  | .badHandle => 0x0301
  | .handleStale => 0x0302
  | .keyPolicy => 0x0303
  | .blobInvalid => 0x0304
  | .keyLimit => 0x0305
  | .keyPeriod => 0x0306
  | .algDisabled => 0x0307
  | .maskFloor => 0x0308
  | .leafExhausted => 0x0309
  | .tagFail => 0x0401
  | .rejectLimit => 0x0402
  | .sigInvalid => 0x0403
  | .paramUnsupported => 0x0404
  | .decodeFail => 0x0405
  | .contextTooLong => 0x0406
  | .entropyUnavailable => 0x0501
  | .busyOwned => 0x0502
  | .noRegion => 0x0503
  | .quota => 0x0504
  | .mbxClosed => 0x0505
  | .deferred => 0x0506
  | .staleGeneration => 0x0601
  | .foreignObject => 0x0602
  | .instanceReset => 0x0603
  | .abortedFault => 0x0701
  | .retryTransient => 0x0702
  | .releaseCheckFail => 0x0703
  | .notPermitted => 0x0801
  | .lifecycle => 0x0802
  | .authFail => 0x0803
  | .counter => 0x0804
  | .timeQuality => 0x0901
  | .portState => 0x0902
  | .streamUnknown => 0x0903
  | .cardRemoved => 0x0A01
  | .cardAbsent => 0x0A02
  | .cardFormat => 0x0A03
  | .cardIo => 0x0A04
  | .cardFull => 0x0A05

/-- The code of a fault class (R427). -/
def FClass.code : FClass → Nat
  | .note => 0 | .retry => 1 | .contain => 2 | .fence => 3 | .halt => 4 | .erase => 5

/-- The code of a cause (R429). -/
def FCause.code : FCause → Nat
  | .eccCorr => 0x01
  | .eccUnc => 0x02
  | .eccUncApex => 0x03
  | .dupMismatch => 0x04
  | .matchPattern => 0x05
  | .releaseCheck => 0x06
  | .seqCheck => 0x07
  | .doubleFault => 0x08
  | .watchdog => 0x09
  | .lockstep => 0x0A
  | .noiseSource => 0x0B
  | .linkRetryRate => 0x0C
  | .linkDegrade => 0x0D
  | .badAccess => 0x0E
  | .selfTest => 0x0F
  | .disturbance => 0x10
  | .tamper => 0x11
  | .ringFull => 0x12
  | .monitorTest => 0x13
  | .overtemp => 0x14
  | .hostMemory => 0x15
  | .transferCheck => 0x16

/-- The cause a code names, where one does (R429). -/
def FCause.ofCode : Nat → Option FCause
  | 0x01 => some .eccCorr
  | 0x02 => some .eccUnc
  | 0x03 => some .eccUncApex
  | 0x04 => some .dupMismatch
  | 0x05 => some .matchPattern
  | 0x06 => some .releaseCheck
  | 0x07 => some .seqCheck
  | 0x08 => some .doubleFault
  | 0x09 => some .watchdog
  | 0x0A => some .lockstep
  | 0x0B => some .noiseSource
  | 0x0C => some .linkRetryRate
  | 0x0D => some .linkDegrade
  | 0x0E => some .badAccess
  | 0x0F => some .selfTest
  | 0x10 => some .disturbance
  | 0x11 => some .tamper
  | 0x12 => some .ringFull
  | 0x13 => some .monitorTest
  | 0x14 => some .overtemp
  | 0x15 => some .hostMemory
  | 0x16 => some .transferCheck
  | _ => none

/-- The code of a unit kind (R430). -/
def FKind.code : FKind → Nat
  | .latticeCell => 0x01
  | .numberCell => 0x02
  | .hashCell => 0x03
  | .pan => 0x04
  | .steward => 0x05
  | .dispatcher => 0x06
  | .symEngine => 0x07
  | .vaultCipher => 0x08
  | .randomness => 0x09
  | .dieLink => 0x0A
  | .regionSram => 0x0B
  | .queueEngine => 0x10
  | .verdictEngine => 0x11
  | .starHub => 0x12
  | .skanelPair => 0x13
  | .timeUnit => 0x14
  | .apexSram => 0x15
  | .monitor => 0x16

/-- The unit kind a code names, where one does (R430). -/
def FKind.ofCode : Nat → Option FKind
  | 0x01 => some .latticeCell
  | 0x02 => some .numberCell
  | 0x03 => some .hashCell
  | 0x04 => some .pan
  | 0x05 => some .steward
  | 0x06 => some .dispatcher
  | 0x07 => some .symEngine
  | 0x08 => some .vaultCipher
  | 0x09 => some .randomness
  | 0x0A => some .dieLink
  | 0x0B => some .regionSram
  | 0x10 => some .queueEngine
  | 0x11 => some .verdictEngine
  | 0x12 => some .starHub
  | 0x13 => some .skanelPair
  | 0x14 => some .timeUnit
  | 0x15 => some .apexSram
  | 0x16 => some .monitor
  | _ => none

end Sys2Proof.Machine
end

