-- ==== Sys2Proof/Machine/Verbs.lean ====
section
/-! DEFINITION. The verb table of Cerdar 1 (R45, R47 and the verb tables of the chapters): opcode, paths, attributes,
parameter sets, and the unit of a region that runs the verb. -/

namespace Sys2Proof.Machine

/-- A verb record (R45) with the unit its job runs on. -/
structure VerbRec where
  op : Nat
  queue : Bool
  inst : Bool
  adm : Bool
  sc : Bool
  long : Bool
  rnd : Bool
  stateful : Bool
  region : Bool
  unit : Option UnitKind
  sets : Nat
deriving DecidableEq, Repr

/-- A record from its opcode, PATHS and ATTR bits (R45), unit and PARAM_SETS. -/
def vrec (op paths attr : Nat) (unit : Option UnitKind) (sets : Nat) : VerbRec :=
  { op := op, queue := bit paths 0, inst := bit paths 1, adm := bit paths 2, sc := bit attr 0, long := bit attr 1,
    rnd := bit attr 2, stateful := bit attr 3, region := bit attr 4, unit := unit, sets := sets }

/-- The verbs of family 0x01. -/
def verbsSys : List VerbRec := [
  vrec 0x0100 7 0 none 0,
  vrec 0x0101 7 0 none 0,
  vrec 0x0102 4 1 none 0]

/-- The verbs of family 0x02. -/
def verbsKey : List VerbRec := [
  vrec 0x0201 5 21 (some .lattice) 0,
  vrec 0x0202 5 17 (some .vault) 0,
  vrec 0x0203 5 21 (some .hash) 0,
  vrec 0x0204 5 17 (some .vault) 0,
  vrec 0x0205 5 16 (some .vault) 0,
  vrec 0x0206 5 1 none 0,
  vrec 0x0207 5 17 (some .lattice) 0,
  vrec 0x0208 6 20 (some .lattice) 0,
  vrec 0x0209 6 0 none 0,
  vrec 0x020A 6 0 none 0,
  vrec 0x020B 4 17 (some .vault) 0,
  vrec 0x020C 4 3 none 0]

/-- The verbs of family 0x03. -/
def verbsKem : List VerbRec := [
  vrec 0x0301 1 20 (some .lattice) 7,
  vrec 0x0302 1 20 (some .lattice) 7,
  vrec 0x0303 1 20 (some .lattice) 15,
  vrec 0x0304 1 20 (some .lattice) 15,
  vrec 0x0305 1 20 (some .number) 12,
  vrec 0x0306 1 20 (some .number) 12,
  vrec 0x0307 1 20 (some .number) 31,
  vrec 0x0308 1 20 (some .number) 15,
  vrec 0x0309 1 16 (some .number) 15,
  vrec 0x030A 1 20 (some .number) 7,
  vrec 0x030B 1 16 (some .number) 7]

/-- The verbs of family 0x04. -/
def verbsSig : List VerbRec := [
  vrec 0x0401 1 20 (some .lattice) 7,
  vrec 0x0402 1 16 (some .lattice) 7,
  vrec 0x0403 1 16 (some .lattice) 3,
  vrec 0x0404 1 20 (some .lattice) 31,
  vrec 0x0405 1 16 (some .lattice) 31,
  vrec 0x0406 1 20 (some .hash) 4095,
  vrec 0x0407 1 16 (some .hash) 4095,
  vrec 0x0408 1 29 (some .hash) 15,
  vrec 0x0409 1 16 (some .hash) 15,
  vrec 0x040A 1 16 (some .hash) 3,
  vrec 0x040B 1 20 (some .number) 3,
  vrec 0x040C 1 16 (some .number) 3,
  vrec 0x040D 1 20 (some .number) 7,
  vrec 0x040E 1 16 (some .number) 7,
  vrec 0x040F 1 20 (some .number) 3,
  vrec 0x0410 1 16 (some .number) 3]

/-- The verbs of family 0x05. -/
def verbsDig : List VerbRec := [
  vrec 0x0501 1 16 (some .hash) 0x3FFF,
  vrec 0x0502 1 20 (some .hash) 31,
  vrec 0x0503 1 20 (some .hash) 31,
  vrec 0x0504 1 20 (some .hash) 255]

/-- The verbs of family 0x06. -/
def verbsSym : List VerbRec := [
  vrec 0x0601 1 20 (some .sym) 7,
  vrec 0x0602 1 16 (some .sym) 7,
  vrec 0x0603 1 16 (some .sym) 7,
  vrec 0x0604 1 16 (some .sym) 7,
  vrec 0x0605 1 16 (some .sym) 3,
  vrec 0x0606 1 16 (some .sym) 3,
  vrec 0x0607 1 16 (some .sym) 3,
  vrec 0x0608 1 16 (some .sym) 3]

/-- The verbs of family 0x07. -/
def verbsRng : List VerbRec := [
  vrec 0x0701 1 20 (some .random) 0,
  vrec 0x0702 1 16 (some .random) 0,
  vrec 0x0703 1 16 (some .random) 0]

/-- The verbs of family 0x08. -/
def verbsFrm : List VerbRec := [
  vrec 0x0801 1 0 none 0,
  vrec 0x0802 6 1 none 0,
  vrec 0x0803 6 1 none 0,
  vrec 0x0804 4 1 none 0,
  vrec 0x0805 4 1 none 0,
  vrec 0x0806 4 1 none 0,
  vrec 0x0807 4 1 none 0,
  vrec 0x0808 4 1 none 0,
  vrec 0x0809 4 0 none 0,
  vrec 0x080A 4 1 none 0,
  vrec 0x080B 4 0 none 0]

/-- The verbs of family 0x09. -/
def verbsTime : List VerbRec := [
  vrec 0x0901 6 0 none 0,
  vrec 0x0902 4 1 none 0]

/-- The verbs of family 0x0A. -/
def verbsJrnl : List VerbRec := [
  vrec 0x0A01 6 0 none 0,
  vrec 0x0A02 4 0 none 0,
  vrec 0x0A03 4 1 none 0,
  vrec 0x0A04 4 0 none 0,
  vrec 0x0A05 4 0 none 0]

/-- The verbs of family 0x0B. -/
def verbsRegn : List VerbRec := [
  vrec 0x0B01 4 3 none 0,
  vrec 0x0B02 4 3 none 0,
  vrec 0x0B03 4 1 none 0]

/-- The verbs of family 0x0C. -/
def verbsMgmt : List VerbRec := [
  vrec 0x0C01 4 3 none 0,
  vrec 0x0C02 4 2 none 0,
  vrec 0x0C03 4 3 none 0,
  vrec 0x0C04 4 3 none 0,
  vrec 0x0C05 4 0 none 0,
  vrec 0x0C06 4 0 none 0]

/-- The verbs of family 0x0D. -/
def verbsLife : List VerbRec := [
  vrec 0x0D01 4 0 none 0,
  vrec 0x0D02 4 3 none 0,
  vrec 0x0D03 4 3 none 0,
  vrec 0x0D04 4 1 none 0]

/-- The verbs of family 0x0E. -/
def verbsTamp : List VerbRec := [
  vrec 0x0E01 4 0 none 0,
  vrec 0x0E02 4 1 none 0]

/-- The verbs of family 0x0F. -/
def verbsCard : List VerbRec := [
  vrec 0x0F01 4 0 none 0,
  vrec 0x0F02 4 3 none 0,
  vrec 0x0F03 4 2 none 0,
  vrec 0x0F04 4 0 none 0,
  vrec 0x0F05 4 3 none 0]

/-- The verbs of family 0x10. -/
def verbsCust : List VerbRec := [
  vrec 0x1001 1 16 (some .lattice) 0,
  vrec 0x1002 4 3 none 0,
  vrec 0x1003 4 1 none 0,
  vrec 0x1004 4 0 none 0]

/-- Every verb record, ordered by opcode (R44). -/
def verbTable : List VerbRec :=
  verbsSys ++ verbsKey ++ verbsKem ++ verbsSig ++ verbsDig ++ verbsSym ++ verbsRng ++ verbsFrm ++
  verbsTime ++ verbsJrnl ++ verbsRegn ++ verbsMgmt ++ verbsLife ++ verbsTamp ++ verbsCard ++ verbsCust

/-- The record of an opcode, where one is assigned (R46). -/
def verbRec (op : Nat) : Option VerbRec := verbTable.find? fun v => v.op == op

/-- The PATHS byte of a verb record (R45). -/
def VerbRec.paths (v : VerbRec) : Nat := flag v.queue 0 + flag v.inst 1 + flag v.adm 2

/-- The ATTR byte of a verb record (R45). -/
def VerbRec.attr (v : VerbRec) : Nat :=
  flag v.sc 0 + flag v.long 1 + flag v.rnd 2 + flag v.stateful 3 + flag v.region 4

/-- The 8 bytes of a verb record (R45). -/
def VerbRec.bytes (v : VerbRec) : List Byte := le 2 v.op ++ le 1 v.paths ++ le 1 v.attr ++ le 4 v.sets

/-- An attribute of a command's verb; a command of no verb has none. -/
def Job.has (j : Job) (f : VerbRec → Bool) : Bool := (verbRec j.opcode).any f

/-- The unit that generates a key of an ALG code: the unit of the verbs that use it (R136, R184, R209, R348). -/
def genUnit (alg : Nat) : UnitKind :=
  if alg ≤ 0x44 then .lattice else if alg ≤ 0x72 then .hash else if alg ≤ 0xD3 then .number else .vault

/-- A digest function of the sponge farms (R168). -/
def spongeFunc (f : Nat) : Bool :=
  (decide (0x11 ≤ f) && decide (f ≤ 0x24)) || f == 0x41 || f == 0x42 || f == 0x54 || f == 0x55

/-- FUNC of a digest verb, in PARAM[7:0], or of KEY.DERIVE, in PARAM[15:8] (R170, R348). -/
def Job.func (j : Job) : Nat := if j.opcode = 0x0203 then j.param.toNat / 256 % 256 else j.param.toNat % 256

/-- The unit a command's job runs on, where it needs a region: a digest job or a derivation by its function, a key generation
by its ALG, any other by its verb (R168, R348). -/
def Job.unitKind (j : Job) : Option UnitKind :=
  if j.opcode = 0x0201 then some (genUnit (j.param.toNat % 256))
  else if (j.opcode / 256 = 5 ∨ j.opcode = 0x0203) ∧ spongeFunc j.func then some .sponge
  else (verbRec j.opcode).bind (·.unit)

/-- A composite or hybrid job, which has a classical part on a number cell beside its lattice part (R164). -/
def Job.paired (j : Job) : Bool :=
  let a := j.param.toNat % 256
  ([0x0303, 0x0304, 0x0404, 0x0405].contains j.opcode || j.opcode == 0x0201) &&
    ((decide (0x31 ≤ a) && decide (a ≤ 0x35)) || (decide (0x41 ≤ a) && decide (a ≤ 0x44)))

/-- The command came through a mailbox. -/
def Job.mbx (j : Job) : Bool := j.src == .mbx

/-- The command came through the administrative mailbox (R54). -/
def Job.admin (j : Job) : Bool := j.src == .mbx && j.inst == 0

end Sys2Proof.Machine
end

