-- ==== Sys2Proof/Machine/Journal.lean ====
section
/-! DEFINITION. The command journal and the bittern record as operations (R446-R455): JSEQ assignment, the chain, event
entries, batches, the commit table, checkpoint bodies and the freeze. -/

namespace Sys2Proof.Machine

/-- The code of a time quality (R251). -/
def Quality.code : Quality → Nat
  | .coarse => 0 | .free => 1 | .holdover => 2 | .locked => 3

/-- The block of JSEQ values one reservation covers (R449). -/
def jseqBlock : Nat := 2 ^ 36

/-- Write the next reservation when the JSEQ in use, the newest one assigned, reaches the limit less 2^35 (R449). -/
def reserveIfDue (s : State) : State :=
  if s.jrn.raising || decide (s.jrn.nextJseq + 2 ^ 35 ≤ s.jrn.limit) then s
  else s.modJrn fun j => { j with raising := true }

/-- Take the next JSEQ (R65, R449). -/
def takeJseq (s : State) : Nat × State :=
  (s.jrn.nextJseq, reserveIfDue (s.modJrn fun j => { j with nextJseq := j.nextJseq + 1 }))

/-- Acceptance waits for a reservation: JSEQ has reached the limit (R449). -/
def State.jseqWait (s : State) : Bool := decide (s.jrn.limit ≤ s.jrn.nextJseq)

/-- Bytes 0x00 to 0x33 of an entry (R446). -/
def JEntry.bytes (e : JEntry) : List Byte :=
  le 8 e.jseq ++ le 8 e.w08 ++ le 8 e.w10 ++ le 1 e.inst ++ le 1 e.type ++ le 2 e.gen ++ le 2 e.w1C ++ le 2 e.w1E ++
    le 2 e.status ++ le 1 e.source ++ le 1 e.flags ++ le 8 e.aux ++ fit 8 e.result

/-- All 64 bytes of an entry. -/
def JEntry.image (e : JEntry) : List Byte := e.bytes ++ fit 12 e.chain

/-- The chain value of the entry at the next position (R448). -/
def nextChain (s : State) (e : JEntry) : List Byte :=
  if s.jrn.jpos = 0 then sha3 (ascii "EXMJRN01" ++ le 8 s.pkg.fuses.unit ++ le 8 e.jseq)
  else sha3 (s.jrn.chain ++ e.bytes)

/-- Copy an entry to the host mirror when it is on (R451). -/
def mirrorEntry (p : Nat) (e : JEntry) (s : State) : State :=
  if s.jrn.mirrorOn then
    hostWrite 0 (s.jrn.mirrorBase + 64 * (p % 2 ^ (s.jrn.mirrorLog2 - 6))) e.image false s
  else s

/-- Close an entry: the chain, the ring slot JPOS mod 16,384, the mirror (R448, R451). -/
def appendEntry (e : JEntry) (s : State) : State :=
  let h := nextChain s e
  let e' := { e with chain := h.take 12 }
  let p := s.jrn.jpos
  mirrorEntry p e' (s.modJrn fun j =>
    { j with ring := tins (p % 16384) e' j.ring, jpos := p + 1, chain := h, cpSince := j.cpSince + 1 })

/-- The newest `n` elements of a ring kept oldest first. -/
def keepLast {α : Type} (n : Nat) (l : List α) : List α := l.drop (l.length - n)

/-- Enter a package event in the bittern record, or in the buffer of R455 while the area is frozen (R453, R455). -/
def btnEvent (src ev a0 a1 : Nat) (s : State) : State :=
  let b := s.btn
  let e : BEvent := { tick := s.tick, eseq := b.pkgSeq, source := src, event := ev, arg0 := a0, arg1 := a1 }
  if b.freeze.isSome then
    if b.waiting.length < 256 then { s with btn := { b with waiting := b.waiting ++ [e] } }
    else { s with btn := { b with overflow := satAdd 0xFFFF b.overflow 1 } }
  else { s with btn := { b with pkgRing := keepLast 2048 (b.pkgRing ++ [e]), pkgSeq := (b.pkgSeq + 1) % 2 ^ 32 } }

/-- Enter an event a region records itself in its region ring (R453). -/
def btnRegion (r ev a0 a1 : Nat) (s : State) : State :=
  let b := s.btn
  if b.freeze.isSome then s
  else
    let n := tget (fun _ => 0) b.rgnSeq r
    let e : BEvent := { tick := s.tick, eseq := n, source := r, event := ev, arg0 := a0, arg1 := a1 }
    { s with btn := { b with
        rgnRing := tins r (keepLast 512 (tget (fun _ => []) b.rgnRing r ++ [e])) b.rgnRing,
        rgnSeq := tins r ((n + 1) % 2 ^ 32) b.rgnSeq } }

/-- SOURCE of an event entry: the region, or APEX (R446). -/
def eventSource : Option Nat → Nat
  | some r => r % 8
  | none => 8

/-- Journal an event FULL with its own JSEQ and enter it in the bittern record (R447, R453). -/
def journalEvent (ev a0 a1 : Nat) (rgn : Option Nat := none) (inst : Nat := 0) (s : State) : State :=
  let (j, s1) := takeJseq s
  btnEvent (rgn.getD 0xFF) ev a0 a1
    (appendEntry { jseq := j, w08 := s.tick, w10 := s.tick, inst := inst, type := 3, gen := 0, w1C := 0, w1E := ev,
                   status := 0, source := eventSource rgn, flags := 0, aux := a0, result := le 8 a1, chain := [] } s1)

/-- Change the mode, journalling a change as MODE (R30, R447). -/
def setMode (m : Mode) (s : State) : State :=
  if s.pkg.mode = m then s
  else journalEvent 2 s.pkg.mode.code m.code none 0 (s.modPkg fun p => { p with mode := m })

/-- Recompute a service mode from the regions' flags (R29, R30). -/
def remode (s : State) : State := if s.pkg.mode.isService then setMode s.serviceMode s else s

/-- Change a region's state, journalled as REGION_STATE, and recompute the mode (R415, R447). A region that leaves IN_SERVICE releases
its pin places (R221). -/
def setRegionState (r : Nat) (x : RState) (fence : Bool) (s : State) : State :=
  let old := (s.region r).svc.state
  let s1 := s.modRegion r fun g =>
    { g with svc := { g.svc with state := x }, pins := if old = .inService ∧ x ≠ .inService then [] else g.pins, path := { g.path with since := s.tick } }
  remode (journalEvent 4 r (old.code + 8 * x.code + flag fence 6) (some r) 0 s1)

/-! ### Command entries -/

/-- SOURCE of a command: the submission queue, or MAILBOX (R446). -/
def Job.source (j : Job) : Nat :=
  match j.src with
  | .sq q => q
  | .mbx => 32

/-- The command is journalled FULL: its queue's class, JFULL, STATE_CHANGING, or a status that is not of success
(R56, R88, R90). -/
def journalFull (s : State) (c : Cmd) (st : Status) : Bool :=
  match c.job.src with
  | .mbx => c.job.has (·.sc)
  | .sq q => (s.sq c.job.inst q).jclass == 0 || c.job.jfull || c.job.has (·.sc) || !(st == .ok || st == .okAlready)

/-- The digest field RESULT: the first 8 bytes of SHA3-256 over the released output, zero when there is none
(R446). -/
def resultDigest (out : List Byte) : List Byte := if out.isEmpty then zeros 8 else (sha3 out).take 8

/-- Close the TYPE 1 entry of a command and remove its commit-table entry (R446, R452). -/
def closeCommand (c : Cmd) (st : Status) (out : List Byte) (s : State) : State :=
  let fl := flag c.prog.committed 0 + flag c.prog.reissued 1 + flag (s.time.quality == .coarse) 2
  let s1 := appendEntry { jseq := c.job.jseq, w08 := c.job.acceptTick, w10 := s.tick, inst := c.job.inst, type := 1,
                          gen := c.job.gen, w1C := if c.job.mbx then 0 else c.job.tag, w1E := c.job.opcode,
                          status := st.code, source := c.job.source, flags := fl, aux := c.prog.aux,
                          result := resultDigest out, chain := [] } s
  s1.modBtn fun b => if b.freeze.isSome then b
    else { b with commits := b.commits.filter fun k => !(k.jseq == c.job.jseq) }

/-- Write the record of a batch with a JSEQ of its own (R89, R446). -/
def writeBatch (b : Batch) (froze : Bool) (s : State) : State :=
  let (j, s1) := takeJseq s
  appendEntry { jseq := j, w08 := b.high, w10 := s.tick, inst := b.inst, type := 2, gen := (s.inst b.inst).gen,
                w1C := b.count, w1E := 0, status := 0, source := b.sq, flags := flag froze 3, aux := b.low,
                result := if froze then zeros 8 else (sha3 b.images.flatten).take 8, chain := [] } s1

/-- Close the open batches that `p` selects (R89). -/
def closeBatches (p : Batch → Bool) (s : State) : State :=
  (s.jrn.batches.filter p).foldl (fun s b => writeBatch b false s)
    (s.modJrn fun j => { j with batches := j.batches.filter fun b => !p b })

/-- Count a completion in its queue's batch: the window of 1 ms is half-open and the 4,096th completion closes the
batch (R89, R13). -/
def countInBatch (i q jseq : Nat) (image : List Byte) (s : State) : State :=
  let mine (b : Batch) : Bool := b.inst == i && b.sq == q
  let s1 := closeBatches (fun b => mine b && decide (b.firstTick + 1000000 ≤ s.tick)) s
  let b' : Batch := match s1.jrn.batches.find? mine with
    | some b => { b with low := min b.low jseq, high := max b.high jseq, count := b.count + 1,
                         images := b.images ++ [image] }
    | none => { inst := i, sq := q, low := jseq, high := jseq, count := 1, firstTick := s.tick, images := [image] }
  let s2 := s1.modJrn fun j => { j with batches := j.batches.filter (fun b => !mine b) ++ [b'] }
  closeBatches (fun b => mine b && decide (4096 ≤ b.count)) s2

/-- The commit table is full (R452). -/
def State.commitFull (s : State) : Bool := decide (1024 ≤ s.btn.commits.length)

/-- Enter an accepted STATE_CHANGING command in the commit table (R452). -/
def enterCommit (c : Cmd) (s : State) : State :=
  s.modBtn fun b => if b.freeze.isSome then b
    else { b with commits := b.commits ++
      [{ jseq := c.job.jseq, acceptTick := c.job.acceptTick, inst := c.job.inst, source := c.job.source,
         gen := c.job.gen, opcode := c.job.opcode, tag := c.job.tag, aux := 0, committed := false }] }

/-- A command passes its commit point: COMMITTED in its entry of the commit table, and its REQ_ID among the last 256
kept (R452, R67). -/
def commit (j : Nat) (s : State) : State :=
  match s.cmd? j with
  | none => s
  | some c =>
    let s1 := s.modProg j fun p => { p with committed := true }
    let s2 := s1.modBtn fun b => if b.freeze.isSome then b
      else { b with commits := b.commits.map fun k =>
        if k.jseq == c.job.jseq then { k with committed := true, aux := c.prog.aux } else k }
    if c.job.reqId = 0 then s2
    else s2.modInst c.job.inst fun n => { n with kept := ((c.job.reqId, c.job.opcode) :: n.kept).take 256 }

/-! ### Checkpoints and the freeze -/

/-- JSEQ of the entry at the last position, where there is one. -/
def lastJseq (s : State) : Nat :=
  if s.jrn.jpos = 0 then 0
  else match tfind s.jrn.ring ((s.jrn.jpos - 1) % 16384) with
    | some e => e.jseq
    | none => 0

/-- A checkpoint body over every entry so far (R450). -/
def cpBody (s : State) : Checkpoint :=
  { lastJseq := lastJseq s, lastJpos := s.jrn.jpos - 1, tick := s.tick, bootCount := s.pkg.bootCount,
    tq := s.time.quality.code, chain := s.jrn.chain, sig := [] }

/-- The 96 bytes of a checkpoint body (R450). -/
def Checkpoint.bytes (unit : Nat) (c : Checkpoint) : List Byte :=
  ascii "EXMJCP01" ++ le 8 unit ++ le 8 c.lastJseq ++ le 8 c.lastJpos ++ le 8 c.tick ++ le 4 c.bootCount ++ le 1 c.tq ++
    zeros 3 ++ fit 32 c.chain ++ zeros 16

/-- Take a checkpoint body; its signing job starts, or is deferred while no region is IN_SERVICE and in ZEROIZED
(R450, R500). -/
def takeCheckpoint (s : State) : State :=
  s.modJrn fun j =>
    { j with cpOpen := some (cpBody s), cpDeferred := !s.anyInService || s.pkg.zeroized, cpSince := 0, cpTick := s.tick }

/-- The event codes the bittern record adds (R453). -/
def evPerst : Nat := 0x10
def evHalt : Nat := 0x11
def evWatchdog : Nat := 0x12
def evErase : Nat := 0x13
def evPowerFail : Nat := 0x14
def evTamper : Nat := 0x15
def evLifeCycle : Nat := 0x16
def evDisturbance : Nat := 0x17

/-- Enter an event the bittern record adds, whose arguments R453 does not give: they are free values (log 10). -/
def addedEvent (ev : Nat) (s : State) : State :=
  let (a, s1) := drawNat s
  let (b, s2) := drawNat s1
  btnEvent 0xFF ev (a % 2 ^ 64) (b % 2 ^ 64) s2

/-- Freeze the bittern area; a trigger on a frozen area is counted and alters nothing (R454, R453, R89). -/
def freezeBtn (ev : Nat) (haltCp : Option Checkpoint) (s : State) : State :=
  match s.btn.freeze with
  | some _ => s.modBtn fun b => { b with refreezes := satAdd 0xFF b.refreezes 1 }
  | none =>
    let s1 := addedEvent ev s
    let last := (s.faults.ring.map (·.2)).filter fun r => decide (s.faults.head < r.fseq + 64)
    let unheld := s.faults.lastSerious.toList.filter fun r => !(s.faults.ring.any fun e => e.2.fseq == r.fseq)
    let z : Freeze :=
      { trigger := ev, tick := s.tick, bootCount := s.pkg.bootCount, mode := s.pkg.mode, worst := s.faults.worst, faults := last ++ unheld,
        nextJseq := s.jrn.nextJseq, lastJpos := s.jrn.jpos - 1, chain := s.jrn.chain, haltCp := haltCp,
        batches := s.jrn.batches }
    s1.modBtn fun b => { b with freeze := some z }

end Sys2Proof.Machine
end

