-- ==== Sys2Proof/Machine/Faults.lean ====
section
/-! DEFINITION. Faults: the record, the ring, pending records and sluice timers, and the reactions of each class
(R427-R439). -/

namespace Sys2Proof.Machine

/-! ### Units -/

/-- Events of the host interface (R541). -/
def hostUnit : FUnit := { level := 3, region := none, kind := .queueEngine, unit := 0xFF }

/-- A pan of a region. -/
def panUnit (r p : Nat) : FUnit := { level := 1, region := some r, kind := .pan, unit := p }

/-- A unit of which its region has one. -/
def regionUnit (r : Nat) (k : FKind) : FUnit := { level := 2, region := some r, kind := k, unit := 0xFF }

/-- A unit of the apex. -/
def apexUnit (k : FKind) (n : Nat) : FUnit := { level := 3, region := none, kind := k, unit := n }

/-- A monitor (R493, R541). -/
def monitorUnit (n : Nat) : FUnit := { level := 4, region := none, kind := .monitor, unit := n }

/-- The fault kind of a kind of unit (R430). -/
def UnitKind.fkind : UnitKind → FKind
  | .lattice => .latticeCell | .number => .numberCell | .hash => .hashCell | .sponge => .pan | .sym => .symEngine
  | .vault => .vaultCipher | .random => .randomness

/-- Units of a kind in a region (chapter 01). -/
def UnitKind.count : UnitKind → Nat
  | .lattice => 32 | .number => 8 | .hash => 8 | .sponge => 4 | .sym => 2 | .vault => 1 | .random => 1

/-- The pan of a cell, where the unit is a cell (R113, R203). -/
def UnitKind.pan (k : UnitKind) (n : Nat) : Option Nat :=
  match k with
  | .lattice => some (n / 8) | .number => some (n / 2) | .hash => some (n / 2) | .sponge => some n | .sym => none | .vault => none
  | .random => none

/-- The fault unit of unit `n` of a kind in region `r` (R430). -/
def cellUnit (r : Nat) (k : UnitKind) (n : Nat) : FUnit :=
  match k with
  | .vault => regionUnit r .vaultCipher
  | .random => regionUnit r .randomness
  | .sponge => panUnit r n
  | .sym => { level := 2, region := some r, kind := .symEngine, unit := n }
  | _ => { level := 0, region := some r, kind := k.fkind, unit := n }

/-- The unit is quarantined (R427, R433). -/
def State.quarantined (s : State) (u : FUnit) : Bool := s.faults.quarantined.contains u

/-- The unit is under its targeted self-test and takes no job (R431). -/
def State.underTest (s : State) (u : FUnit) : Bool := s.faults.tests.any fun t => t.on == u

/-- Unit `n` of a kind can take a job: neither it nor its pan is quarantined or under test (R431, R433). -/
def State.usable (s : State) (r : Nat) (k : UnitKind) (n : Nat) : Bool :=
  !s.quarantined (cellUnit r k n) && !s.underTest (cellUnit r k n) &&
    match k.pan n with
    | some p => !s.quarantined (panUnit r p)
    | none => true

/-- Some unit of a kind in region `r` is usable (R433). -/
def State.anyUsable (s : State) (r : Nat) (k : UnitKind) : Bool := (List.range k.count).any fun n => s.usable r k n

/-- Bound of the targeted self-test, in ns; none where the unit has no such test (R431). -/
def FKind.testNs : FKind → Option Nat
  | .latticeCell => some 40000 | .numberCell => some 40000 | .hashCell => some 40000 | .pan => some 2000000
  | .symEngine => some 20000 | .vaultCipher => some 20000 | .verdictEngine => some 4000 | .dieLink => some 25000
  | .steward => some 400000 | .dispatcher => some 400000 | .regionSram => some 3000 | .randomness => some 71200
  | .queueEngine => none | .starHub => none | .skanelPair => none | .timeUnit => none | .apexSram => none
  | .monitor => none

/-! ### The record and the ring -/

/-- A record awaits acknowledgement. -/
def Faults.isPending (f : Faults) (q : Nat) : Bool := f.pending.any fun p => p.fseq == q

/-- The slot a new record takes: the lowest empty one, else that of the oldest record not pending (R437). -/
def Faults.slotFor (f : Faults) : Option Nat :=
  match (List.range 256).find? fun n => (tfind f.ring n).isNone with
  | some n => some n
  | none =>
    (f.ring.filter fun e => !f.isPending e.2.fseq).foldl
      (fun best e => match best with
        | none => some e
        | some b => if e.2.fseq < b.2.fseq then some e else some b) none |>.map (·.1)

/-- The sluice timer of a class, in ns (R434). -/
def Faults.sluice (f : Faults) (c : FClass) : Nat :=
  match c with
  | .fence => f.sluiceFence * 1000
  | _ => f.sluiceContain * 1000

/-- A class whose records await acknowledgement (R427). -/
def FClass.acked : FClass → Bool
  | .contain => true | .fence => true | _ => false

/-- A class of CONTAIN or above. -/
def FClass.serious (c : FClass) : Bool := decide (2 ≤ c.code)

/-- Count a fault of a class (FLT_COUNT_c, FLT_STATUS.WORST, SERIOUS of R443). -/
def Faults.count (f : Faults) (c : FClass) : Faults :=
  { f with counts := setAt f.counts c.code inc32, worst := max f.worst c.code,
           serious := if c.serious then inc32 f.serious else f.serious }

/-- ARG1 of a FAULT event (R447). -/
def FaultRec.arg1 (r : FaultRec) : Nat :=
  r.cls.code + 256 * r.cause.code + 65536 * r.on.kind.code + 16777216 * (r.on.unit % 256)

/-- The 32 bytes of a fault record (R430). -/
def FaultRec.bytes (r : FaultRec) : List Byte :=
  le 8 r.fseq ++ le 8 r.tick ++ le 1 r.cls.code ++ le 1 r.on.level ++ le 1 (r.on.region.getD 0xFF) ++
    le 1 r.on.kind.code ++ le 1 r.on.unit ++ le 1 r.cause.code ++
    le 1 (flag r.transient 0 + flag r.lasting 1 + flag r.escalated 2 + flag r.acked 3 + flag r.subsumed 4 +
          flag r.injected 5 + flag r.jseq.isSome 6) ++
    le 1 r.from'.code ++ le 8 (r.jseq.getD 0)

/-- Journal a record of CONTAIN or above and enter it in the bittern record; a region's fault of any class enters its
region ring; raise FLT_CFG.VECTOR (R430, R445, R453). -/
def announceFault (r : FaultRec) (s : State) : State :=
  let s1 := match r.on.region with
    | some n => btnRegion n 3 r.fseq r.arg1 s
    | none => s
  if r.cls.serious then
    let s2 := journalEvent 3 r.fseq r.arg1 r.on.region 0 s1
    if s.faults.ien && !s.pkg.halted then raiseVector 0 s.faults.vector s2 else s2
  else s1

/-- Write a record in the slot `n` of the ring (R437). -/
def putRecord (n : Nat) (r : FaultRec) (s : State) : State :=
  announceFault r (s.modFaults fun f =>
    { f.count r.cls with
        ring := tins n r f.ring, head := r.fseq, headSlot := n,
        pending := if r.cls.acked && !r.subsumed then f.pending ++ [{ fseq := r.fseq, expiry := r.tick + f.sluice r.cls }]
                   else f.pending,
        lastSerious := if r.cls.serious then some r else f.lastSerious })

/-- The HALT record of R437 for a full ring, which takes no slot. -/
def putUnheld (r : FaultRec) (s : State) : State :=
  announceFault r (s.modFaults fun f =>
    { f.count .halt with head := r.fseq, ringLost := true, lastSerious := some r })

/-- Change the record of FSEQ `q` in the ring. -/
def Faults.mark (f : Faults) (q : Nat) (g : FaultRec → FaultRec) : Faults :=
  { f with ring := f.ring.map fun e => if e.2.fseq == q then (e.1, g e.2) else e }

/-- The record awaits acknowledgement, or its targeted self-test is under way. -/
def Faults.open (f : Faults) (q : Nat) : Bool := f.isPending q || f.tests.any fun t => t.fseq == q

/-- Subsume the open records that `p` selects: SUBSUMED set, their timers stopped and their tests ended (R438). -/
def subsume (p : FaultRec → Bool) (s : State) : State :=
  s.modFaults fun f =>
    let gone := ((f.ring.map (·.2)).filter fun r => f.open r.fseq && p r).map (·.fseq)
    { f with
        ring := f.ring.map fun e => if gone.contains e.2.fseq then (e.1, { e.2 with subsumed := true }) else e,
        pending := f.pending.filter fun q => !gone.contains q.fseq,
        tests := f.tests.filter fun t => !gone.contains t.fseq }

/-! ### Jobs that a fault meets -/

/-- The Kertor core of unit `n` of a kind in region `r`, where the unit is a cell. -/
def UnitKind.core (k : UnitKind) (r n : Nat) : Option CoreId :=
  match k with
  | .lattice => some (.lattice r n) | .number => some (.number r n) | .hash => some (.hash r n) | _ => none

/-- Zero-write the local memory of a cell (R113, R176, R203). -/
def wipeLocal (r : Nat) (u : UnitKind × Nat) (s : State) : State :=
  match u.1.core r u.2 with
  | none => s
  | some k => { s with cores := s.cores.map fun e => if e.1 == k then (e.1, { e.2 with lmem := [], lbase := none }) else e }

/-- SPREAD PAN of an SLH-DSA job (R185): given, or by default that of the f sets. -/
def Job.slhPan (j : Job) : Bool :=
  (j.opcode == 0x0406 || j.opcode == 0x0407) &&
    (bits j.param.toNat 17 16 == 1 || (bits j.param.toNat 17 16 == 0 && bits j.param.toNat 7 0 % 2 == 0))

/-- The units that a place on unit `n` of a kind takes: SPREAD PAN takes both hash cells and the farm of a pan (R186). -/
def Job.takesUnits (j : Job) (k : UnitKind) (n : Nat) : List (UnitKind × Nat) :=
  if j.slhPan then [(.hash, 2 * (n / 2)), (.hash, 2 * (n / 2) + 1), (.sponge, n / 2)] else [(k, n)]

/-- The kind of unit that the release check of a command takes; the lattice part of a composite on a lattice cell (R125, R157, R192,
R208). -/
def Cmd.checkKind (c : Cmd) : UnitKind :=
  if c.job.paired then .lattice else (c.prog.unit.map (·.1)).getD (c.job.unitKind.getD .lattice)

/-- The units that a command's own work takes, by the unit and the number cell it was given. -/
def Cmd.ownUnits (c : Cmd) : List (UnitKind × Nat) :=
  (match c.prog.unit with
    | some (k, _, n) => c.job.takesUnits k n
    | none => []) ++
  match c.prog.pair.cell with
  | some (_, n) => [(.number, n)]
  | none => []

/-- The units that a command's release checks take in region `r`. -/
def Cmd.checkUnitsIn (c : Cmd) (r : Nat) : List (UnitKind × Nat) :=
  if c.prog.phase = .checking then
    (match c.prog.check with
      | some (q, n) => if q = r then c.job.takesUnits c.checkKind n else []
      | none => []) ++
    match c.prog.pair.check with
    | some (q, n) => if q = r then [(.number, n)] else []
    | none => []
  else []

/-- The command holds units of region `r` for its job: it runs there, or a pan wakes for it. -/
def Cmd.placed (c : Cmd) (r : Nat) : Bool := c.prog.region == some r && (c.prog.phase == .running || c.prog.wait == some .cell)

/-- The units of region `r` that a command holds, for its job or for its release checks (R113, R125, R410). -/
def Cmd.unitsIn (c : Cmd) (r : Nat) : List (UnitKind × Nat) := (if c.placed r then c.ownUnits else []) ++ c.checkUnitsIn r

/-- Zero-write what a command holds in its pans: its slots, which are counted, and the local memory of its cells (R113, R203). -/
def freeSlots (j : Nat) (s : State) : State :=
  match s.cmd? j with
  | none => s
  | some c =>
    let s1 := c.prog.slots.foldl (fun s x => s.modPan (c.prog.region.getD 0) x.1 fun p =>
      { p with slots := { p.slots with wipes := inc32 p.slots.wipes } }) s
    regionNums.foldl (fun s q => (c.unitsIn q).foldl (fun s u => wipeLocal q u s) s) s1

/-- The command occupies unit `n` of a kind in region `r`. -/
def Cmd.onCell (c : Cmd) (r : Nat) (k : UnitKind) (n : Nat) : Bool := (c.unitsIn r).contains (k, n)

/-- The command works in pan `p` of region `r`; one of two parts keeps a pan that is awake while the other pan wakes. -/
def Cmd.onPan (c : Cmd) (r p : Nat) : Bool :=
  ((if c.prog.region = some r ∧ (c.prog.phase = .running ∨ (c.prog.pair.cell.isSome ∧ c.prog.wait = some .cell)) then c.ownUnits
    else []) ++ c.checkUnitsIn r).any fun u =>
    u.1.pan u.2 == some p

/-- A running job of region `r`, or a release check there, reads the entry (R133); signing expands the matrix itself (R124). -/
def State.crystRead (s : State) (r : Nat) (e : CrystEntry) : Bool :=
  s.cmds.any fun c => c.job.inst == e.inst && c.prog.tag == some (e.param, e.digest) &&
    ((c.prog.region == some r && c.prog.phase == .running && c.job.opcode != 0x0401 && c.job.opcode != 0x0404) || (c.prog.phase == .checking && c.prog.check.any (·.1 == r)))

/-- Remove the entries that `p` selects: one that is being read goes when its last reader ends, and no probe matches it from now on
(R133). -/
def dropCryst (r : Nat) (p : CrystEntry → Bool) (s : State) : State :=
  s.modRegion r fun g => { g with lat := { g.lat with
    cryst := g.lat.cryst.filterMap fun e =>
      if e.gone || p e then if s.crystRead r e then some { e with gone := true, pinned := false } else none else some e } }

/-- Removed entries whose last reader has ended leave (R133). -/
def settleCryst (s : State) : State :=
  (regionNums.filter fun r => (s.region r).lat.cryst.any (·.gone)).foldl (fun s r => dropCryst r (fun _ => false) s) s

/-- A pan falls to IDLE when the last work on it ends (R409). -/
def restPans (s : State) : State :=
  regionNums.foldl (fun s r => panNums.foldl (fun s p =>
    if (s.pan r p).svc.pwr == .active && !(s.cmds.any fun c => c.onPan r p) then
      s.modPan r p fun x => { x with svc := { x.svc with pwr := .idle, since := s.tick } }
    else s) s) s

/-- The registers of the cells of a kind (CELL_LAT_, CELL_NUM_). -/
def Region.cells (g : Region) (k : UnitKind) : Tbl CellRec := if k == .lattice then g.latCells else g.numCells

/-- Change the registers of a cell of a kind. -/
def Region.modCell (g : Region) (k : UnitKind) (n : Nat) (f : CellRec → CellRec) : Region :=
  if k == .lattice then { g with latCells := tset cell0 g.latCells n (f (tget cell0 g.latCells n)) }
  else { g with numCells := tset cell0 g.numCells n (f (tget cell0 g.numCells n)) }

/-- Cells of a kind that hold the warm reservation of instance `i` (R413). -/
def Region.warmCells (g : Region) (k : UnitKind) (i : Nat) : Nat :=
  ((g.cells k).filter fun e => e.2.warm == some i).length

/-- Take cells of a kind for a reservation as they come free, from the lowest-numbered pan that has one; a cell beyond the
count is given back (R413). -/
def takeWarmKind (r : Nat) (k : UnitKind) (i want : Nat) (s : State) : State :=
  (List.range k.count).foldl (fun s n =>
    let g := s.region r
    let held := (tget cell0 (g.cells k) n).warm
    if held = some i ∧ want < g.warmCells k i then s.modRegion r fun g => g.modCell k n fun x => { x with warm := none }
    else if held = none ∧ g.warmCells k i < want ∧ s.usable r k n ∧ ¬ (s.cmds.any fun c => c.onCell r k n) then
      s.modRegion r fun g => g.modCell k n fun x => { x with warm := some i }
    else s) s

/-- Bring the reserved cells of region `r` up to its reservations (R413, R414). -/
def takeWarm (r : Nat) (s : State) : State :=
  if s.inService r then
    (s.region r).svc.warm.foldl (fun s w =>
      if s.present w.inst then takeWarmKind r .number w.inst w.number (takeWarmKind r .lattice w.inst w.lattice s) else s) s
  else s

/-- A command of the list runs. -/
def State.anyRuns (s : State) (js : List Nat) : Bool :=
  s.cmds.any fun c => js.contains c.job.id &&
    (c.prog.phase == .running || c.prog.phase == .yielded || c.prog.phase == .checking)

/-- Evicted entries are zero-written, and the record of a deleted key leaves, once the last command that they stand for has ended
(R350). -/
def settleShelf (s : State) : State :=
  { s with
    regions := s.regions.map fun e => (e.1, { e.2 with shelf := e.2.shelf.filter fun x => x.kept.isEmpty || s.anyRuns x.kept }),
    vault := { s.vault with handles := s.vault.handles.filter fun k =>
      !k.dead || (s.cmds.any fun c => k.keep.contains c.job.id && c.prog.phase != .returned) } }

/-- What follows work leaving units: pans rest, reserved cells come free, entries that were in use leave (R409, R413, R133, R350). -/
def settleUnits (s : State) : State :=
  settleShelf <| settleCryst (restPans ((regionNums.filter fun r => !(s.region r).svc.warm.isEmpty).foldl (fun s r => takeWarm r s) s))

/-- A job or release check completes on unit `n` of a kind in region `r` (CELL_LAT_JOBS, CELL_NUM_JOBS, SYM_ENG_JOBS). -/
def countJobOn (r : Nat) (k : UnitKind) (n : Nat) (s : State) : State :=
  match k with
  | .lattice => s.modRegion r fun g => g.modCell .lattice n fun x => { x with jobs := inc32 x.jobs }
  | .number => s.modRegion r fun g => g.modCell .number n fun x => { x with jobs := inc32 x.jobs }
  | .sym => s.modRegion r fun g => { g with sym :=
      if n = 0 then { g.sym with jobs0 := inc32 g.sym.jobs0 } else { g.sym with jobs1 := inc32 g.sym.jobs1 } }
  | _ => s

/-- Count a failed check. -/
def countCheckFail (r : Nat) (k : UnitKind) (s : State) : State :=
  s.modRegion r fun g =>
    if k == .number then { g with num := { g.num with vbrFail := inc32 g.num.vbrFail } }
    else { g with lat := { g.lat with vbrFail := inc32 g.lat.vbrFail } }

/-- A running command completes its work on its unit. -/
def countJob (j : Nat) (s : State) : State :=
  match s.cmd? j with
  | none => s
  | some c => match c.prog.phase, c.prog.region, c.prog.unit with
    | .running, some r, some (k, _, n) =>
      let s1 := countJobOn r k n s
      match c.prog.pair.cell with
      | some (_, m) => countJobOn r .number m s1
      | none => s1
    | _, _, _ => s

/-- End a command's work with a result: it leaves its unit, slots and pond units and waits to be posted. -/
def finish (j : Nat) (r : Res) (s : State) : State :=
  settleUnits ((freeSlots j s).modProg j fun p =>
    { p with phase := .returned, unit := none, wait := none, slots := [], pond := 0, check := none, pair := {}, granted := 0,
             res := some r })

/-- End a command's work with a status and no output (R69). -/
def fail (j : Nat) (st : Status) (s : State) : State := finish j { status := st } s

/-- Fragments of a Classic McEliece public key in operand 3, which the number cell reads as it works (R220). -/
def Job.streamed (j : Job) : List Nat :=
  (List.range j.frags.length).filter fun i => (j.frags[i]?).any fun f => f.kind == .input && j.opcode == 0x0308 && f.operand == 3

/-- Indices of a command's input fragments that are read from host memory before it is dispatched. -/
def Job.hostInputs (j : Job) : List Nat :=
  (List.range j.frags.length).filter fun i => (j.frags[i]?).any (fun f => f.kind == .input) && !j.streamed.contains i

/-- Issue the host reads of a command's input fragments and wait for them; with none it is ready (R77, R101). -/
def fetchInputs (j : Nat) (s : State) : State :=
  match s.cmd? j with
  | none => s
  | some c =>
    let ms := c.job.hostInputs
    let s1 := ms.foldl (fun s i => match c.job.frags[i]? with
      | some f => hostRead (.fragment j i) c.job.inst f.addr f.len f.noSnoop s
      | none => s) s
    s1.modCmd j fun c =>
      { c with job := { c.job with missing := ms },
               prog := { c.prog with phase := if ms.isEmpty then .ready else .fetching } }

/-- Take a command off its region so that it is sent again, its inputs fetched again (R419, R427). -/
def reissue (j : Nat) (s : State) : State :=
  fetchInputs j (settleUnits ((freeSlots j s).modProg j fun p =>
    { p with region := none, unit := none, wait := none, slots := [], pond := 0, check := none, pair := {}, granted := 0,
             unchecked := none, rechecked := false, res := none, order := 0, masked := 0, stretch := 0, reissued := true, moved := true, avoid := none, avoidPan := false, resumed := false }))

/-- The region runs what it has acknowledged: it is in service or drains (R415, R416). -/
def State.runsJobs (s : State) (r : Nat) : Bool :=
  s.enabled r && ((s.region r).svc.state == .inService || (s.region r).svc.state == .draining)

/-- Some IN_SERVICE region other than `r` has a usable unit of the kind. -/
def State.usableElsewhere (s : State) (r : Nat) (k : UnitKind) : Bool :=
  regionNums.any fun q => q != r && s.inService q && s.anyUsable q k

/-- Unit `n` of a kind is one that a re-run avoids: the unit it failed on, or with `pan` any of that unit's pan. -/
def avoided (a : Option (UnitKind × Nat × Nat)) (pan : Bool) (k : UnitKind) (n : Nat) : Bool :=
  match a with
  | none => false
  | some (k', p, n') => (k' == k && n' == n) || (pan && k.pan n == some p)

/-- RETRY of a job (R427, R428): aborted, then re-run once on another unit than `a`, with `pan` in another pan (R122, R127, R208);
`onFail` is the status of a failed re-run. -/
def retryJobFrom (a : Option (UnitKind × Nat × Nat)) (pan : Bool) (onFail : Status) (j : Nat) (s : State) : State :=
  match s.cmd? j with
  | none => s
  | some c =>
    let r := c.prog.region.getD 0
    let k := (a.map (·.1)).getD (c.job.unitKind.getD .lattice)
    if 1 ≤ c.prog.reruns then fail j onFail s
    else if c.job.has (·.stateful) && c.prog.committed then fail j .abortedFault s
    else if s.runsJobs r && (List.range k.count).any (fun n => s.usable r k n && !avoided a pan k n) then
      settleUnits ((freeSlots j s).modProg j fun p =>
        { p with phase := .acked, unit := none, wait := none, slots := [], pond := 0, check := none, pair := {}, granted := 0,
                 unchecked := some false, rechecked := false, res := none, order := 0, masked := 0, stretch := 0,
                 reissued := true, reruns := p.reruns + 1, avoid := a, avoidPan := pan, resumed := false })
    else if c.job.has (·.stateful) then fail j .retryTransient s
    else if s.usableElsewhere r k then
      reissue j (s.modProg j fun p => { p with reruns := p.reruns + 1 })
    else fail j .retryTransient s

/-- RETRY of a job off the unit it has (R427). -/
def retryJobOff (pan : Bool) (onFail : Status) (j : Nat) (s : State) : State :=
  retryJobFrom ((s.cmd? j).bind (·.prog.unit)) pan onFail j s

/-- RETRY of a job on another unit of its kind (R427). -/
def retryJob (onFail : Status) (j : Nat) (s : State) : State := retryJobOff false onFail j s

/-- Ids of the commands that run on a unit of region `r`. -/
def jobsOn (s : State) (p : Cmd → Bool) : List Nat := (s.cmds.filter p).map (·.job.id)

/-- JSEQ of the affected job, where a fault meets one job alone (R430). -/
def State.soleJob (s : State) (js : List Nat) : Option Nat :=
  match js with
  | [j] => (s.cmd? j).map (·.job.jseq)
  | _ => none

/-- Fault unit `u` is unit `n` of a kind in region `r`, or with `wide` its pan: the cells of a pan keep their jobs until the pan is
quarantined (R431). -/
def FUnit.covers (wide : Bool) (u : FUnit) (r : Nat) (k : UnitKind) (n : Nat) : Bool :=
  cellUnit r k n == u || (wide && u.region == some r && u.kind == .pan && k.pan n == some u.unit)

/-- The command's own work has the fault unit `u` or a unit of it; a quarantined steward or dispatcher has every job of its region.
Transfers wait while a link retrains, and none is lost (R423). -/
def Cmd.holds (wide : Bool) (c : Cmd) (u : FUnit) : Bool :=
  match c.prog.unit, c.prog.region, u.region with
  | some _, some r, some r' =>
    r == r' && (c.ownUnits.any (fun x => u.covers wide r x.1 x.2) || (wide && (u.kind == .steward || u.kind == .dispatcher)))
  | _, _, _ => false

/-- The jobs that a fault of unit `u` meets, `wide` where it quarantines the unit (R427). -/
def metBy (wide : Bool) (u : FUnit) (s : State) : List Nat :=
  jobsOn s fun c => c.holds wide u && (c.prog.phase == .running || c.prog.phase == .yielded)

/-- A release check of the command runs on the fault unit `u`. -/
def Cmd.checksOn (wide : Bool) (c : Cmd) (u : FUnit) : Bool :=
  u.region.any fun r => (c.checkUnitsIn r).any fun x => u.covers wide r x.1 x.2

/-- The unit of a job that a fault of `u` meets: its number cell where the fault is of that, else its unit. -/
def Cmd.unitAt (wide : Bool) (c : Cmd) (u : FUnit) : Option (UnitKind × Nat × Nat) :=
  match c.prog.pair.cell, c.prog.region with
  | some (p, n), some r => if u.covers wide r .number n then some (.number, p, n) else c.prog.unit
  | _, _ => c.prog.unit

/-- A release check that a fault meets is placed again once; the second time the job ends (R177, R427). -/
def recheck (wide : Bool) (u : FUnit) (j : Nat) (s : State) : State :=
  match s.cmd? j with
  | none => s
  | some c =>
    if c.prog.rechecked then fail j .abortedFault s
    else
      let hit (k : UnitKind) (x : Nat × Nat) : Bool := u.covers wide x.1 k x.2
      settleUnits (s.modProg j fun p => { p with
        rechecked := true,
        check := p.check.filter fun x => !hit c.checkKind x,
        pair := { p.pair with check := p.pair.check.filter fun x => !hit .number x } })

/-- The jobs and release checks that a fault of unit `u` meets. -/
def faultJobs (wide : Bool) (u : FUnit) (s : State) : List Nat := metBy wide u s ++ jobsOn s fun c => c.checksOn wide u

/-- Abort and re-run the jobs of a unit, and place the checks that ran on it again (R427, R177). -/
def retryJobsOf (wide : Bool) (u : FUnit) (onFail : Status) (s : State) : State :=
  let s1 := (metBy wide u s).foldl (fun s j => retryJobFrom ((s.cmd? j).bind fun c => c.unitAt wide u) false onFail j s) s
  (jobsOn s fun c => c.checksOn wide u).foldl (fun s j => recheck wide u j s) s1

/-- Start the targeted self-test of a record's unit, where the unit has one (R431): none for a record that is subsumed (R438). -/
def startTestOf (block : Option SramBlock) (r : FaultRec) (s : State) : State :=
  match r.on.kind.testNs with
  | none => s
  | some n => if r.subsumed then s else s.modFaults fun f =>
      { f with tests := f.tests ++ [{ on := r.on, fseq := r.fseq, cls := r.cls, endBy := r.tick + n, block := block }] }

/-- The targeted self-test of a unit that is no block of SRAM. -/
def startTest (r : FaultRec) (s : State) : State := startTestOf none r s

/-! ### HALT -/

/-- The 32-byte response header (R56). -/
def respHeader (opcode st seq len jseq tick energy : Nat) : List Byte :=
  le 2 opcode ++ le 2 st ++ le 2 seq ++ le 2 len ++ le 8 jseq ++ le 8 tick ++ le 4 (min max32 energy) ++ zeros 4

/-- JSEQ in a mailbox response: 0 for a request that is not journalled (R56). -/
def Job.shownJseq (j : Job) : Nat := if j.has (·.sc) then j.jseq else 0

/-- A mailbox that is BUSY at HALT has its response header written with ST_MBX_CLOSED (R439, R62). -/
def haltMbx (s : State) (m : Mbx) : Mbx :=
  match m.state, m.cur.bind s.cmd? with
  | .busy, some c =>
    { m with state := .done, cur := none,
             resp := writeBuf [] 0 (respHeader c.job.opcode Status.mbxClosed.code m.seq 32 c.job.shownJseq s.tick
                                      c.prog.energy) }
  | _, _ => m

/-- An instance whose mailbox HALT answers: the response's energy counts in its counter (R96, R439). -/
def haltInst (s : State) (n : Inst) : Inst :=
  let e := match n.mbx.state, n.mbx.cur.bind s.cmd? with
    | .busy, some c => min max32 c.prog.energy
    | _, _ => 0
  { n with mbx := haltMbx s n.mbx, energy := satAdd max64 n.energy e }

/-- Answer every BUSY mailbox at HALT (R439). -/
def haltMailboxes (s : State) : State := { s with insts := s.insts.map fun e => (e.1, haltInst s e.2) }

/-- HALT with the event that freezes the bittern record (R439, R31, R454, R515): service stops, the card port powers down, the
bittern record freezes with the HALT checkpoint body, mailboxes close, every pending record is subsumed and every test ends
(R438). -/
def doHaltAs (ev : Nat) (s : State) : State :=
  if s.pkg.halted then freezeBtn ev none s
  else
    let s1 := freezeBtn ev (some (cpBody s)) s
    let s2 := haltMailboxes s1
    let s3 := subsume (fun _ => true) s2
    { s3 with pkg := { s3.pkg with halted := true }, card := s3.card.off s3.tick,
              cmds := s3.cmds.filter fun c => !c.job.mbx }

/-- HALT (R439). -/
def doHalt (s : State) : State := doHaltAs evHalt s

/-! ### Raising a fault -/

/-- What a fault is raised with. -/
structure Raise where
  on : FUnit
  cause : FCause
  jseq : Option Nat := none
  escalated : Bool := false
  injected : Bool := false
  from' : Option FClass := none
deriving DecidableEq, Repr

/-- The fault unit lies in the fault unit `w`: the same, or a cell of that pan. -/
def FUnit.within (u w : FUnit) : Bool :=
  u == w || (w.kind == .pan && u.region == w.region && match u.kind with
    | .latticeCell => decide (u.unit / 8 = w.unit)
    | .numberCell => decide (u.unit / 2 = w.unit)
    | .hashCell => decide (u.unit / 2 = w.unit)
    | _ => false)

/-- A fault of class `c` on unit `u` is subsumed as it is recorded: HALT has stopped the package, or a CONTAIN is under way on the unit
or its pan and the fault is a lesser one (R438). -/
def State.subsumes (s : State) (u : FUnit) (c : FClass) : Bool :=
  (s.pkg.halted && decide (1 ≤ c.code) && decide (c.code < 4)) ||
    (c == .retry && s.faults.tests.any fun t => t.cls == .contain && u.within t.on)

/-- The record of a fault of class `c` (R430). -/
def Raise.toRec (x : Raise) (c : FClass) (s : State) : FaultRec :=
  { fseq := s.faults.head + 1, tick := s.tick, cls := c, on := x.on, cause := x.cause, escalated := x.escalated,
    injected := x.injected, from' := x.from'.getD c, jseq := x.jseq, subsumed := s.subsumes x.on c }

/-- Write the record of a fault, if a slot can take it; otherwise what R437 gives for a full ring, where a record of HALT or ERASE takes
no slot either (log 102). The answer is the record written. -/
def record (x : Raise) (c : FClass) (s : State) : Option FaultRec × State :=
  let r := x.toRec c s
  match s.faults.slotFor with
  | some n => (some r, putRecord n r s)
  | none =>
    if c.acked then (none, doHalt (putUnheld { r with cls := .halt, cause := .ringFull, from' := .halt, subsumed := false,
                                                      on := apexUnit .apexSram 0xFF } s))
    else if c.serious then (none, putUnheld r s)
    else (none, s.modFaults fun f => { f.count c with ringLost := true })

/-- A NOTE (R427). -/
def raiseNote (x : Raise) (s : State) : State := (record x .note s).2

/-- An access or write that is ignored or refused: a NOTE of cause BAD_ACCESS (R429, R541). -/
def noteBadAccess (s : State) : State := raiseNote { on := hostUnit, cause := .badAccess } s

/-- A host-memory access that no completion reports: a NOTE of cause HOST_MEMORY (R429, R541). -/
def noteHostMemory (s : State) : State := raiseNote { on := hostUnit, cause := .hostMemory } s

/-- A HALT fault (R427, R439). -/
def raiseHalt (x : Raise) (s : State) : State := doHalt (record x .halt s).2

/-! ### Register accesses (R35, R91, R110) -/

/-- Register writes and doorbells of instance `i` are taken: it exists and is not resetting (R91). -/
def State.reachable (s : State) (i : Nat) : Bool :=
  s.present i && !(s.inst i).resetting && s.pkg.mode.mainPower && s.pkg.mode != .standby && s.pkg.perstHigh

/-- The stream that an instance's packets take is not Secure although IDE is required (R110). -/
def State.ideBlocked (s : State) (i : Nat) : Bool :=
  let c := (s.inst i).cfg
  c.ideRequired && !(s.pkg.ideSecure.contains (if c.ideBind then c.ideStream else 32))

/-- What an access to a BAR of instance `i` does, `t` where it is carried out (R91, R110): one that arrives while IDE is required
and its stream is not Secure is dropped and counted under NOTE. -/
def State.gated (s : State) (i : Nat) (t : State) : State :=
  if !s.reachable i then s else if s.ideBlocked i then noteBadAccess s else t

/-- The same for a read, which completes with UR where IDE turns it away (R110). -/
def State.gatedRead (s : State) (i : Nat) (t : State) : State :=
  if !s.reachable i then s else if s.ideBlocked i then emit (.ur i) (noteBadAccess s) else t

end Sys2Proof.Machine
end

