-- ==== Sys2Proof/Machine/Shapes.lean ====
section
/-! DEFINITION. The shape of each verb's request: what its operands are, whether it takes a key and a body, and the
length of its result where PARAM fixes it (R83 steps 5, 6, 8 and 9; R44). -/

namespace Sys2Proof.Machine

/-- The shape of a request: the input operands it may carry, the output operands with their lengths where verb and
PARAM fix them, whether it takes a key, and whether it takes a body. -/
structure Shape where
  ins : List Nat := []
  outs : List (Nat × Option Nat) := []
  /-- Operands that must be present, and operands that must be one fragment of TYPE INPUT or OUTPUT. -/
  req : List Nat := []
  /-- Output operands that the verb always writes: one that no fragment names is short at step 9 of R83. -/
  due : List Nat := []
  one : List Nat := []
  /-- The output operand that must be present where input operand 0 is. -/
  dataOut : Option Nat := none
  key : Bool := false
  body : Bool := true
deriving DecidableEq, Repr

/-- The shape of a request by opcode, PARAM and verb arguments. -/
abbrev ShapeFn := Nat → Nat → List Byte → Shape

/-- Pages of verb records: up to 508 records a page (R44). -/
def verbPages : Nat := (verbTable.length + 507) / 508

/-- The length of a SYS.FEATURES page, where the page exists (R44). -/
def featuresLen (page : Nat) : Option Nat :=
  if page = 0 then some 36
  else if page ≤ verbPages then some (8 * min 508 (verbTable.length - 508 * (page - 1)))
  else none

/-- The SYS family: NOP takes nothing, FEATURES one output (R44, R49). -/
def shapeSys : ShapeFn := fun op param _ =>
  if op = 0x0101 then { outs := [(0, featuresLen (bits param 7 0))], due := [0] } else { body := false }

end Sys2Proof.Machine
end

