-- ==== Sys2Proof/Machine/Operands.lean ====
section
/-! DEFINITION. How a request is read: fragment descriptors (R76), submission entries (R74, R75), mailbox requests
(R55, R540), and the framing checks of R83 in their order. -/

namespace Sys2Proof.Machine

/-- TYPE of a descriptor (R76). -/
def fragKind (n : Nat) : Option FragKind :=
  match n with
  | 1 => some .input
  | 2 => some .output
  | 3 => some .inline
  | _ => none

/-- A fragment descriptor from its 16 bytes; none where a field is reserved or LENGTH is 0 (R76). -/
def readFrag (b : List Byte) : Option Frag :=
  let a := fld b 0 8
  let l := fld b 8 4
  let k := fld b 12 2
  let f := fld b 14 2
  match fragKind (bits k 3 0) with
  | none => none
  | some t =>
    if l = 0 || !(bits k 7 4 == 0) || decide (2 ≤ f) || (t == .inline && decide (65536 ≤ a)) then none
    else some { addr := a, len := l, kind := t, operand := bits k 15 8, noSnoop := bit f 0 }

/-- `n` descriptors from offset `o`; none where one is not valid. -/
def readFrags (b : List Byte) (o : Nat) : Nat → Option (List Frag)
  | 0 => some []
  | n + 1 =>
    match readFrag (slice b o 16), readFrags b (o + 16) n with
    | some f, some fs => some (f :: fs)
    | _, _ => none

/-- The fragments a verb's shape allows: INPUT and INLINE operands among its inputs, OUTPUT operands among its outputs
(R83 step 6). -/
def Shape.allows (sh : Shape) (f : Frag) : Bool :=
  match f.kind with
  | .output => sh.outs.any fun o => o.1 == f.operand
  | _ => sh.ins.contains f.operand

/-- Required operands are present, and one-fragment operands are one fragment in host memory (R83 step 6, R348). -/
def Shape.counts (sh : Shape) (fs : List Frag) : Bool :=
  sh.req.all (fun n => fs.any fun f => f.operand == n) &&
    sh.dataOut.all (fun n => !(fs.any fun f => f.operand == 0) || fs.any fun f => f.operand == n) &&
    sh.one.all fun n => let g := fs.filter fun f => f.operand == n
      g.length == 0 || (g.length == 1 && g.all fun f => !(f.kind == .inline))

/-- INLINE data lies in the inline area, which ends at `last` (R77). -/
def inlineOk (first last : Nat) (f : Frag) : Bool :=
  match f.kind with
  | .inline => decide (first ≤ f.addr) && decide (f.addr + f.len ≤ last)
  | _ => true

/-- Bytes of all OUTPUT fragments of an operand. -/
def outCapacity (fs : List Frag) (operand : Nat) : Nat :=
  ((fs.filter fun f => f.kind == .output && f.operand == operand).map (·.len)).sum

/-- Bytes of all input fragments (R77). -/
def inputLen (fs : List Frag) : Nat := ((fs.filter fun f => !(f.kind == .output)).map (·.len)).sum

/-- The output operands of fixed length that a request carries, or that its verb always writes. -/
def Shape.fixedOuts (sh : Shape) (fs : List Frag) : List (Nat × Nat) :=
  sh.outs.filterMap fun o => match o.2 with
    | some n => if sh.due.contains o.1 || fs.any fun f => f.operand == o.1 then some (o.1, n) else none
    | none => none

/-- An output operand is shorter than its fixed length: the length needed (R83 step 9). -/
def outputShort (sh : Shape) (fs : List Frag) : Option Nat :=
  let os := sh.fixedOuts fs
  if os.any fun o => decide (outCapacity fs o.1 < o.2) then some (os.map (·.2)).sum else none

/-- The null handle (R51). -/
def nullHandle : U32 := 0xFFFFFFFF

/-- Steps 6 to 9 of R83 over the descriptors of a request whose inline area runs from `first` to `last`. -/
def checkFrags (sh : Shape) (fs : Option (List Frag)) (first last inLen : Nat) (handle : U32) : Option Res :=
  match fs with
  | none => some { status := .badFragment }
  | some fs =>
    if !(fs.all sh.allows && sh.counts fs && fs.all (inlineOk first last)) then some { status := .badFragment }
    else if !(inputLen fs == inLen) then some { status := .lengthMismatch }
    else if !((handle == nullHandle) == !sh.key) then some { status := .malformed }
    else match outputShort sh fs with
      | some n => some { status := .outputShort, need := n }
      | none => none

/-- The bytes of the INLINE fragments of a request, by index. -/
def inlineParts (b : List Byte) (fs : List Frag) : Tbl (List Byte) :=
  ((List.range fs.length).zip fs).filterMap fun e =>
    if e.2.kind = .inline then some (e.1, slice b e.2.addr e.2.len) else none

/-- The bytes of an input operand: its fragments joined in list order (R77). -/
def Job.operand (j : Job) (n : Nat) : List Byte :=
  (((List.range j.frags.length).zip j.frags).map fun e =>
    if e.2.operand = n ∧ e.2.kind ≠ .output then tget (fun _ => []) j.parts e.1 else []).flatten

/-- The opening of an opcode to the submission queue: ST_BAD_OPCODE or ST_BAD_PATH (R43, R46, R48). -/
def queuePath (op : Nat) : Option Status :=
  match verbRec op with
  | none => some .badOpcode
  | some v => if v.queue then none else some .badPath

/-- A submission entry of whole units, its CTRL flags, header and body, with the checks of R83 from step 3 on. `shapes`
gives the verb's shape. -/
def readEntry (shapes : ShapeFn) (b : List Byte) (j : Job) : Job × Option Res :=
  let ctrl := fld b 0 2
  let len16 := bits ctrl 8 0
  let op := fld b 2 2
  let h : U32 := BitVec.ofNat 32 (fld b 8 4)
  let j1 := { j with opcode := op, tag := fld b 4 2, cls := fld b 6 1, handle := h,
                     param := BitVec.ofNat 32 (fld b 12 4), order := bit ctrl 9 || bit ctrl 10, fence := bit ctrl 10,
                     jfull := bit ctrl 11, notify := bit ctrl 12 }
  if !(bits ctrl 15 13 == 0) || !(fld b 7 1 == 0) || decide (3 ≤ fld b 6 1) then (j1, some { status := .malformed })
  else match queuePath op with
    | some st => (j1, some { status := st })
    | none =>
      if len16 = 1 then
        let sh := shapes op j1.param.toNat []
        if sh.body || !((h == nullHandle) == !sh.key) then (j1, some { status := .malformed }) else (j1, none)
      else
        let nf := fld b 0x18 1
        let na := fld b 0x19 1
        if !(fld b 0x1A 2 == 0) || decide (len16 < 2 + nf + na) || nf == 255 || na == 255 then
          (j1, some { status := .malformed })
        else
          let fs := readFrags b 0x20 nf
          let j2 := { j1 with reqId := fld b 0x10 8, frags := fs.getD [],
                              args := slice b (0x20 + 16 * nf) (16 * na),
                              parts := inlineParts b (fs.getD []) }
          (j2, checkFrags (shapes op j1.param.toNat j2.args) fs (0x20 + 16 * (nf + na)) (16 * len16) (fld b 0x1C 4) h)

/-- The body header of a mailbox request whose verb the submission queue also carries (R540): steps 5 to 9 of R83. -/
def readMbxBody (shapes : ShapeFn) (b : List Byte) (reqLen : Nat) (j : Job) : Job × Option Res :=
  let nf := fld b 0x20 1
  let na := fld b 0x21 1
  if !(reqLen % 16 == 0) || !(fld b 0x22 2 == 0) || !(zero? b 0x28 8) || decide (reqLen / 16 < 3 + nf + na) ||
      nf == 255 || na == 255 then (j, some { status := .malformed })
  else
    let fs := readFrags b 0x30 nf
    let j1 := { j with frags := fs.getD [], args := slice b (0x30 + 16 * nf) (16 * na),
                       parts := inlineParts b (fs.getD []) }
    (j1, checkFrags (shapes j.opcode j.param.toNat j1.args) fs (0x30 + 16 * (nf + na)) reqLen (fld b 0x24 4) j.handle)

end Sys2Proof.Machine
end

