-- ==== Sys2Proof/Machine/Reactions.lean ====
section
/-! DEFINITION. What losing a unit or a region does: quarantine, diking, the jobs of a fenced region, escalation
(R417-R419, R427-R438). -/

namespace Sys2Proof.Machine

/-- A pan whose secret stores are zero-written (R417). -/
def wipePan (p : Pan) : Pan :=
  { p with msg := { p.msg with seeded := false, waitSeed := false, used := 0, asked := false } }

/-- Randomness wiped: it returns only through a start (R323). -/
def wipeRng (g : Rng) : Rng :=
  { g with state := .starting, reservoir := 0, ready := false, spare := false, asked := false, donor := none,
           wrapped := false, restarting := false, lasting := false, stopped := false, samples := 0, startFails := 0, startup := false,
           since := 0 }

/-- A region whose secret stores are zero-written and whose crystallizer is emptied (R417). -/
def wipeRegion (g : Region) : Region :=
  { g with pans := g.pans.map fun e => (e.1, wipePan e.2), lat := { g.lat with cryst := [], fills := [] },
           rng := wipeRng g.rng, shelf := [], pins := [], kekHere := false, keks := [] }

/-- Jobs of region `r` that it has acknowledged and not returned. -/
def Cmd.ackedBy (r : Nat) (c : Cmd) : Bool :=
  c.prog.region == some r &&
    (c.prog.phase == .acked || c.prog.phase == .running || c.prog.phase == .yielded || c.prog.phase == .checking)

/-- An acknowledged job of a fenced region (R419); one that a RETRY re-runs there is re-issued all the same, once (R438). -/
def loseJob (j : Nat) (s : State) : State :=
  match s.cmd? j with
  | none => s
  | some c =>
    if c.job.has (·.stateful) then fail j .abortedFault s
    else if c.prog.moved then fail j .retryTransient s
    else if s.anyInService then reissue j s
    else fail j .noRegion (s.modProg j fun p => { p with reissued := false })

/-- A job sent to region `r` that it has not acknowledged is selected again (R22). -/
def unsend (r : Nat) (s : State) : State :=
  { s with cmds := s.cmds.map fun c =>
      if c.prog.region == some r && c.prog.phase == .sent then
        { c with prog := { c.prog with phase := .ready, region := none } } else c }

/-- Release checks placed in region `r` are placed again (R125). -/
def uncheck (r : Nat) (s : State) : State :=
  { s with cmds := s.cmds.map fun c =>
      if c.prog.phase == .checking then
        { c with prog := { c.prog with check := c.prog.check.filter fun x => !(x.1 == r),
                                       pair := { c.prog.pair with check := c.prog.pair.check.filter fun x => !(x.1 == r) } } }
      else c }

/-- Fences of the hour before `t` (R415). -/
def fencesInHour (t : Nat) (l : List Nat) : List Nat := l.filter fun x => decide (t < x + 3600000000000)

/-- Drop the cores of region `r`: their registers and local memory are gone. -/
def dropCores (r : Nat) (s : State) : State :=
  { s with cores := s.cores.filter fun e => !(e.1.region == some r),
           cust := { s.cust with runs := s.cust.runs.filter fun x => !(x.core.region == some r) } }

/-- Dike region `r` (R417): link closed to jobs, secret stores and local memory zero-written, pins released. -/
def dike (r : Nat) (s : State) : State :=
  (dropCores r s).modRegion r fun g => let w := wipeRegion g; { w with path := { w.path with wiped := false } }

/-- Requests of an opcode that wait for region `r`, which their body names at offset `o`. -/
def waitingFor (s : State) (op o r : Nat) : List Nat :=
  jobsOn s fun c => c.job.opcode == op && c.prog.phase == .running && fld c.job.args o 1 == r

/-- End every request of an opcode that waits for region `r`. -/
def endWaiting (op r : Nat) (res : Res) (s : State) : State := (waitingFor s op 0 r).foldl (fun s j => finish j res s) s

/-- A debug session that waits for its regions opens once every one of them is DIKED (R487, R490). -/
def openIfDue (s : State) : State :=
  match s.life.opening with
  | none => s
  | some o =>
    if (List.range 8).all fun r => !bit o.session.held r || (s.region r).svc.state == .diked then
      let s1 := { s with life := { s.life with session := some o.session, opening := none,
                                               dbgAuth := if o.job.isNone then 0 else s.life.dbgAuth },
                         pkg := { s.pkg with dbgOpen := true } }
      let s2 := if s1.pkg.mode.isService then setMode .debug s1 else s1
      match o.job with
      | some j => finish j { status := .ok } s2
      | none => s2
    else s

/-- The states in which a FENCE dikes a region (R415). -/
def RState.fenceable : RState → Bool
  | .inService => true | .draining => true | .testing => true | .loading => true | .rejoining => true
  | .diked => false | .failed => false | .absent => false

/-- FENCE of region `r`, whose record is the newest (R415, R418, R419, R433, R438): every other record still pending for a unit of
the region is subsumed. -/
def fenceRegion (r : Nat) (s0 : State) : State :=
  let s := subsume (fun x => x.on.region == some r && !(x.fseq == s0.faults.head)) s0
  if s.enabled r && (s.region r).svc.state.fenceable then
    let s2 := s.modFaults fun f => { f with
      tests := f.tests.filter fun t => !(t.on.region == some r),
      quarantined := f.quarantined.filter fun u => !(u.region == some r) }
    let lost := jobsOn s2 (Cmd.ackedBy r)
    let other := regionNums.any fun q => q != r && s2.inService q
    let gone := lost.filter fun j => !other || (s2.cmd? j).any fun c => c.job.has (·.stateful) || c.prog.moved
    let s3 := s2.modRegion r fun g => { g with
      svc := { g.svc with outByCmd := false, outByFault := true, fences := inc32 g.svc.fences,
                          fenceTicks := fencesInHour s.tick g.svc.fenceTicks ++ [s.tick] },
      path := { g.path with reissuedJobs := lost.length - gone.length, abortedJobs := gone.length } }
    let s4 := setRegionState r .diked true (dike r s3)
    openIfDue (endWaiting 0x0B01 r { status := .ok } (uncheck r (unsend r (lost.foldl (fun s j => loseJob j s) s4))))
  else s

/-- A FENCE fault of a unit of region `r` (R427). -/
def raiseFence (x : Raise) (s : State) : State :=
  let s1 := (record x .fence s).2
  match x.on.region with
  | some r => if s1.pkg.halted then s1 else fenceRegion r s1
  | none => s1

/-- Quarantine raises FENCE: a second pan, or every unit of one kind (R433). -/
def fenceDue (r : Nat) (s : State) : Bool :=
  decide (2 ≤ (panNums.filter fun p => s.quarantined (panUnit r p)).length) ||
    [UnitKind.lattice, .number, .hash, .sym].any fun k =>
      (List.range k.count).all fun n => s.quarantined (cellUnit r k n) ||
        (k.pan n).any fun p => s.quarantined (panUnit r p)

/-- The FENCE that follows a quarantine, where one is due (R433): LEVEL 2, KIND and UNIT those of the unit quarantined (DEDUCED). -/
def fenceIfDue (u : FUnit) (cause : FCause) (s : State) : State :=
  match u.region with
  | some r => if fenceDue r s then raiseFence { on := { u with level := 2 }, cause := cause } s else s
  | none => s

/-- Quarantine a unit (R427, R433). -/
def quarantine (u : FUnit) (s : State) : State :=
  s.modFaults fun f => { f with quarantined := if f.quarantined.contains u then f.quarantined else f.quarantined ++ [u] }

/-- A CONTAIN fault (R427, R433, R436): a DISTURBANCE quarantines no unit and runs no test. A RETRY under way inside the unit is subsumed
(R438). -/
def raiseContain (x : Raise) (s : State) : State :=
  match record { x with jseq := x.jseq.orElse fun _ => s.soleJob (faultJobs true x.on s) } .contain s with
  | (none, s1) => s1
  | (some rec, s1) =>
    if x.cause == .disturbance || s1.pkg.halted then s1
    else
      let s2 := subsume (fun r => r.cls == .retry && r.on.within x.on) s1
      let s3 := retryJobsOf true x.on .abortedFault (startTest rec (quarantine x.on s2))
      fenceIfDue x.on x.cause s3

/-- A RETRY fault (R427): the unit's job is re-run once while the unit is tested. -/
def raiseRetry (x : Raise) (onFail : Status) (s : State) : State :=
  match record { x with jseq := x.jseq.orElse fun _ => s.soleJob (faultJobs false x.on s) } .retry s with
  | (none, s1) => retryJobsOf false x.on onFail s1
  | (some rec, s1) => if s1.pkg.halted then s1 else retryJobsOf false x.on onFail (startTest rec s1)

/-- The status a failed re-run takes by the cause (R428). -/
def FCause.rerunStatus : FCause → Status
  | .releaseCheck => .releaseCheckFail
  | _ => .abortedFault

/-- The first 1 µs tick at which a pending record has expired (R434). -/
def Pending.end (p : Pending) : Nat := (p.expiry + 999) / 1000 * 1000

/-- Acknowledge a pending record that has not expired; the answer says whether it did (R435). -/
def ackRecord (q : Nat) (s : State) : Bool × State :=
  if s.faults.pending.any fun p => p.fseq == q && decide (s.tick < p.end) then
    (true, s.modFaults fun f =>
      { f.mark q (fun r => { r with acked := true }) with pending := f.pending.filter fun p => !(p.fseq == q) })
  else (false, s)

/-- Abort a job and select its one re-run under R20 (R436, R497). -/
def rerunElsewhere (j : Nat) (s : State) : State :=
  match s.cmd? j with
  | none => s
  | some c =>
    if 1 ≤ c.prog.reruns ∨ (c.job.has (·.stateful) ∧ c.prog.committed) then fail j .abortedFault s
    else reissue j (s.modProg j fun p => { p with reruns := p.reruns + 1 })

end Sys2Proof.Machine
end

