-- ==== Sys2Proof/Machine/Path.lean ====
section
/-! DEFINITION. The path of a command (chapter 01): what holds it, which region takes it, the checks that precede its
verb, its end and its completion (R20-R24, R51-R53, R63-R69, R82-R90). -/

namespace Sys2Proof.Machine

/-! ### Handles -/

/-- INSTANCE of a handle (R50). -/
def hInst (h : U32) : Nat := bits h.toNat 31 24
/-- CLASS of a handle (R50). -/
def hClass (h : U32) : Nat := bits h.toNat 21 20
/-- GEN of a handle (R50). -/
def hGen (h : U32) : Nat := bits h.toNat 19 16
/-- INDEX of a handle (R50). -/
def hIndex (h : U32) : Nat := bits h.toNat 15 0

/-- The handle value of a record (R50). -/
def KeyRec.handle (k : KeyRec) : U32 :=
  BitVec.ofNat 32 (k.inst % 256 * 2 ^ 24 + k.cls % 4 * 2 ^ 20 + k.gen % 16 * 2 ^ 16 + k.idx % 65536)

/-- The record is that of a handle. -/
def KeyRec.named (k : KeyRec) (h : U32) : Bool := k.inst == hInst h && k.idx == hIndex h && k.cls == hClass h

/-- The record a handle names (R52 step 4). -/
def State.key? (s : State) (h : U32) : Option KeyRec := s.vault.handles.find? fun k => !k.dead && k.named h

/-- The record that a command's handle names: for one dispatched before a KEY.DELETE of the key, the record it frees (R350). -/
def State.keyOf (s : State) (j : Job) : Option KeyRec :=
  s.vault.handles.find? fun k => (!k.dead || k.keep.contains j.id) && k.named j.handle

/-- The instance a command acts for: on the administrative mailbox the handle or TARGET_INST names it (R52, R55). An instance that a
body or PARAM names, as in REGN.RESERVE_WARM, is no target for the hold of R107: DESIGN CHOICE (log 70). -/
def Job.targetInst (j : Job) : Nat :=
  if j.admin then if j.handle = nullHandle then j.target else hInst j.handle else j.inst

/-- The record of the key of instance `i` with this KEY_ID. -/
def State.keyById (s : State) (i keyId : Nat) : Option KeyRec :=
  s.vault.handles.find? fun k => !k.dead && k.inst == i && k.keyId == keyId

/-- The home region of the key a command names; a KEY.LOAD of a blob whose KEY_ID has a handle names that handle
(R337). -/
def State.homeOf (s : State) (j : Job) : Option Nat :=
  if j.opcode = 0x0204 then (s.keyById j.targetInst (fld (j.operand 0) 24 8)).map (·.home)
  else if j.handle = nullHandle then none
  else (s.keyOf j).map (·.home)

/-- Steps 1 to 4 of R52; `suited` says which classes and algorithms the verb takes. -/
def checkHandle (s : State) (j : Job) (suited : KeyRec → Bool) : Option Status :=
  if !(bits j.handle.toNat 23 22 == 0) then some .malformed
  else if !j.admin && !(hInst j.handle == j.inst) then some .foreignObject
  else if !(hGen j.handle == (s.inst (hInst j.handle)).gen % 16) then some .handleStale
  else match s.keyOf j with
    | none => some .badHandle
    | some k => if suited k then none else some .badHandle

/-! ### What holds a command -/

/-- Commands of the same submission queue accepted earlier and not yet posted. -/
def State.earlier (s : State) (c : Cmd) : List Cmd :=
  s.cmds.filter fun d => d.job.inst == c.job.inst && d.job.src == c.job.src && !c.job.mbx && decide (d.job.id < c.job.id)

/-- FENCE holds a command at dispatch: its own, or that of an earlier entry (R64). -/
def State.fenced (s : State) (c : Cmd) : Bool :=
  (c.job.fence && !(s.earlier c).isEmpty) || (s.earlier c).any fun d => d.job.fence

/-- A command of the same instance in flight with the same REQ_ID and opcode, accepted earlier, holds it (R67). -/
def State.twinInFlight (s : State) (c : Cmd) : Bool :=
  c.job.reqId != 0 && s.cmds.any fun d =>
    d.job.inst == c.job.inst && d.job.reqId == c.job.reqId && decide (d.job.id < c.job.id)

/-- The objects a command names, as its verb's shape gives them: a key handle, a stream, a port or a customer routine
(R66, R402). -/
inductive Obj where
  | key (h : U32)
  | stream (n : Nat)
  | port (n : Nat)
  | routine (n : Nat)
deriving DecidableEq, Repr

/-- Routine numbers of the loaded package with this PKG_ID. -/
def State.routinesOf (s : State) (id : Nat) : List Nat :=
  ((s.cust.pkgs.filter fun e => e.2.id == id).map fun e => e.2.routines.map (·.number)).flatten

/-- The loaded package and record of a routine number (R395). -/
def State.routine? (s : State) (n : Nat) : Option (Nat × CustPkg × Routine) :=
  s.cust.pkgs.findSome? fun e => (e.2.routines.find? fun r => r.number == n).map fun r => (e.1, e.2, r)

/-- The routines a CUST command names: that of CUST.RUN, those of the package a CUST.LOAD brings and replaces, and those
of the package of a CUST.UNLOAD (R402). -/
def State.custObjects (s : State) (j : Job) : List Nat :=
  match j.opcode with
  | 0x1001 => [bits j.param.toNat 9 0]
  | 0x1002 =>
    let b := j.operand 0
    (List.range (min 256 (fld b 0x48 2))).map (fun i => fld b (0x70 + 16 * i) 2) ++ s.routinesOf (fld b 0x40 2)
  | 0x1003 => s.routinesOf (fld j.args 0 2)
  | _ => []

/-- The objects a command names (R66): its key handle, and the stream or port its FRM body, or PARAM of FRM.SEND (R286), names. -/
def Job.objects (j : Job) : List Obj :=
  (if j.handle = nullHandle then [] else [Obj.key j.handle]) ++
    (if j.opcode = 0x0801 then [Obj.stream (bits j.param.toNat 11 0)]
     else if j.opcode = 0x0804 then [Obj.port (fld j.args 0 1)]
     else if 0x0802 ≤ j.opcode ∧ j.opcode ≤ 0x080A then [Obj.stream (fld j.args 0 2)] else [])

/-- Every object a command names. -/
def State.objects (s : State) (j : Job) : List Obj := j.objects ++ (s.custObjects j).map Obj.routine

/-- Two commands name one object. -/
def State.meets (s : State) (a b : Job) : Bool := (s.objects a).any fun o => (s.objects b).contains o

/-- A STATE_CHANGING mailbox request holds until the earlier submission entries that name an object of it have posted
(R66). -/
def State.heldForEntries (s : State) (c : Cmd) : Bool :=
  c.job.mbx && c.job.has (·.sc) && s.cmds.any fun d => !d.job.mbx && decide (d.job.id < c.job.id) && s.meets d.job c.job

/-- A submission entry is held while an earlier STATE_CHANGING mailbox request that names an object of it is not DONE
(R66). -/
def State.heldForRequest (s : State) (c : Cmd) : Bool :=
  !c.job.mbx && s.cmds.any fun d => d.job.mbx && d.job.has (·.sc) && decide (d.job.id < c.job.id) && s.meets d.job c.job

/-- A full commit table holds a STATE_CHANGING command that has no entry in it (R452). -/
def State.heldForCommit (s : State) (c : Cmd) : Bool :=
  c.job.has (·.sc) && s.commitFull && !(s.btn.commits.any fun k => k.jseq == c.job.jseq)

/-- An administrative request that targets an instance with RESETTING set is held (R107). -/
def State.heldForReset (s : State) (c : Cmd) : Bool := c.job.admin && (s.inst c.job.targetInst).resetting

/-- Until KEK_root is ready, KEY verbs are held (R333). -/
def State.heldForRoot (s : State) (c : Cmd) : Bool :=
  !s.vault.rootReady && c.job.opcode / 256 == 2 && !(c.job.opcode == 0x020C)

/-- Another LONG request accepted earlier is served first (R59). -/
def State.heldForLong (s : State) (c : Cmd) : Bool :=
  c.job.has (·.long) && s.cmds.any fun d =>
    d.job.mbx && d.job.has (·.long) && decide (d.job.id < c.job.id) && !(d.prog.phase == .returned)

/-- What may hold a command at dispatch, the order of service of the mailboxes apart. -/
def State.heldAlone (s : State) (c : Cmd) : Bool :=
  s.fenced c || s.twinInFlight c || s.heldForEntries c || s.heldForRequest c || s.heldForCommit c || s.heldForReset c ||
    s.heldForRoot c || s.heldForLong c

/-- An earlier request of another mailbox, not LONG and held by nothing, has not been served yet: the firmware serves mailboxes in
order of doorbell acceptance (R59). One whose job a region has taken is under way there, and one that still awaits its input
fragments cannot be served: neither holds back another mailbox (log 71). -/
def State.heldForTurn (s : State) (c : Cmd) : Bool :=
  c.job.mbx && !c.job.has (·.long) && s.cmds.any fun d =>
    d.job.mbx && !d.job.has (·.long) && decide (d.job.id < c.job.id) && d.prog.phase == .ready && d.prog.wait != some .object &&
      !s.heldAlone d

/-- Something holds the command at dispatch. -/
def State.held (s : State) (c : Cmd) : Bool := s.heldAlone c || s.heldForTurn c

/-- A result of this generation (R104). -/
def State.current (s : State) (j : Job) : Bool := j.gen == (s.inst j.inst).gen && !(s.inst j.inst).resetting

/-! ### Region selection -/

/-- Queued work of a region: jobs it has acknowledged and not returned (R20). -/
def State.queued (s : State) (r : Nat) : Nat := (s.cmds.filter (Cmd.ackedBy r)).length

/-- A KMAC or KMAC-based derivation with a LONG_TERM key, which runs masked in a lattice cell (R168, R173). -/
def State.kmacMasked (s : State) (j : Job) : Bool :=
  ((decide (0x0502 ≤ j.opcode) && decide (j.opcode ≤ 0x0504)) || j.opcode == 0x0203) &&
    [0x41, 0x42, 0x54, 0x55].contains j.func && (s.keyOf j).any fun k => bit k.pol.attr 2

/-- The unit a job runs on: a CUST.RUN takes the CELL of its routine (R400), a masked KMAC a lattice cell (R168), any other
what its verb gives. -/
def State.kindOf (s : State) (j : Job) : Option UnitKind :=
  if s.kmacMasked j then some .lattice
  else if j.opcode = 0x1001 then
    match s.routine? (bits j.param.toNat 9 0) with
    | some (_, _, r) => some (match r.cell with
      | 1 => .lattice | 2 => .number | _ => .hash)
    | none => some .lattice
  else j.unitKind

/-- Region `r` takes a job of a CUST.RUN: RUN_EN is set and the routine's package there is the current one (R401, R407).
Any other verb is not concerned. -/
def State.custOk (s : State) (j : Job) (r : Nat) : Bool :=
  j.opcode != 0x1001 ||
    ((s.region r).cust.runEn && match s.routine? (bits j.param.toNat 9 0) with
      | some (k, _, _) => (s.region r).cust.held.contains k
      | none => true)

/-- The instance holds a warm-cell reservation in region `r`. -/
def State.warmIn (s : State) (i r : Nat) : Bool := (s.region r).svc.warm.any fun w => w.inst == i

/-- A region that may take a job of the kind: IN_SERVICE with a usable unit (R20, R433). -/
def State.takes (s : State) (k : Option UnitKind) (r : Nat) : Bool :=
  s.inService r && match k with
    | some k => s.anyUsable r k
    | none => true

/-- The region of the list with the least queued work, the lowest number winning a tie (R20 step 4). -/
def leastQueued (s : State) : List Nat → Option Nat
  | [] => none
  | r :: rs =>
    match leastQueued s rs with
    | none => some r
    | some q => if s.queued q < s.queued r then some q else some r

/-- The region a job goes to (R20, R433; the one PARAM names for RNG.KAT and RNG.RAW, R327; the lowest-numbered for KEY.ATTEST, R352); none where no region can take it (R23). -/
def selectRegion (s : State) (c : Cmd) : Option Nat :=
  let ok := fun r => s.takes (s.kindOf c.job) r && s.custOk c.job r
  let cfg := (s.inst c.job.inst).cfg
  let warm := regionNums.find? fun r => ok r && s.warmIn c.job.inst r
  let named := bits c.job.param.toNat 2 0
  if c.job.opcode = 0x0702 ∨ c.job.opcode = 0x0703 then if s.inService named then some named else none
  else if c.job.opcode = 0x0208 then regionNums.find? ok
  else match (s.homeOf c.job).filter ok with
  | some r => some r
  | none =>
    if c.job.cls = 0 ∧ warm.isSome then warm
    else if cfg.affEnable && ok cfg.affRegion && decide (s.queued cfg.affRegion < cfg.affThreshold) then
      some cfg.affRegion
    else leastQueued s (regionNums.filter ok)

/-- A class-0 job of an instance that holds no reservation in an IN_SERVICE region runs as class 1 (R53). -/
def State.demotes (s : State) (c : Cmd) : Bool :=
  c.job.cls == 0 && !c.job.mbx && !(regionNums.any fun r => s.inService r && s.warmIn c.job.inst r)

/-- The class a job is dispatched in (R53, R540). -/
def Cmd.effClass (c : Cmd) : Nat := if c.job.mbx || c.prog.demoted then max 1 c.job.cls else c.job.cls

/-! ### The result of a verb -/

/-- The pan a job runs on. -/
def Cmd.pan (c : Cmd) : Nat := (c.prog.unit.map (·.2.1)).getD 0

/-- The region a job runs in. -/
def Cmd.rgn (c : Cmd) : Nat := c.prog.region.getD 0

/-- A result that releases output `bs` on operand `n`, where its fragments hold it; ST_OUTPUT_SHORT otherwise
(R69, R83). -/
def outTo (j : Job) (n : Nat) (bs : List Byte) : Res :=
  if outCapacity j.frags n < bs.length then { status := .outputShort, need := bs.length }
  else { status := .ok, outs := [(n, bs)] }

/-- A result over several operands; the length needed is their sum. -/
def outsTo (j : Job) (os : List (Nat × List Byte)) : Res :=
  if os.any fun o => decide (outCapacity j.frags o.1 < o.2.length) then
    { status := .outputShort, need := (os.map fun o => o.2.length).sum }
  else { status := .ok, outs := os }

/-- ST_OK with no output. -/
def okRes : Res := { status := .ok }

/-- A status and no output. -/
def stRes (st : Status) : Res := { status := st }

/-- Where a command is when its verb can run: on the apex for a verb of no region, on its unit otherwise; a mailbox
request once nothing holds it (R66). -/
def Cmd.atWork (c : Cmd) : Bool :=
  c.prog.wait != some .object && if c.job.has (·.region) then c.prog.phase == .running else c.prog.phase == .ready

/-- The kept pair of R67 answers a repeated command; the pair that a command itself committed does not answer its re-run (R192). -/
def State.repeated (s : State) (j : Job) : Bool :=
  !((s.cmd? j.id).any fun c => c.prog.committed) && j.reqId != 0 && j.has (·.sc) && (s.inst j.inst).kept.any fun k => k == (j.reqId, j.opcode)

/-- The energy at the end of a verb: that of the earlier work and the figure the spec gives for the operation, or with none a free
value beside that of the stretch under way (R85, R160, log 12). -/
def Prog.endEnergy (nj : Option Nat) (e : Nat) (p : Prog) : Prog :=
  { p with energy := match nj with
      | some n => p.energy - p.stretch + n
      | none => p.energy + e, stretch := 0 }

/-- Run a verb on command `j`: it must carry the verb's opcode, be at work and held by nothing. A repeated REQ_ID gives
ST_OK_ALREADY (R67); otherwise `body` gives the verb's state and result. DESIGN CHOICE (log 72): the kept pair answers a repeat
before the handle checks of R52 and the selection of a region, so that a repeated KEY.DELETE finds its original result. -/
def runVerb (op : Nat) (j : Nat) (body : Cmd → State → State × Option Res) (s : State) : State :=
  match s.cmd? j with
  | none => s
  | some c =>
    if c.job.opcode = op ∧ c.atWork ∧ ¬ s.held c then
      if s.repeated c.job then fail j .okAlready s
      else
        let (e, s0) := drawEnergy s
        match body c s0 with
        | (s1, none) => s1
        | (s1, some r) => finish j r (countJob j (s1.modProg j (Prog.endEnergy r.nj e)))
    else s

end Sys2Proof.Machine
end

