-- ==== Sys2Proof/Machine/KeyUse.lean ====
section
/-! DEFINITION. How a job uses a key: algorithm codes and sizes (R138, R187, R210, R341), uses and policy (R338, R542,
R544), shelf entries (R344-R346), the crystallizer (R128-R133) and draws of randomness (R319). -/

namespace Sys2Proof.Machine

/-- The algorithm families of the ALG codes (R138, R187, R190, R195, R210, R341). -/
inductive Fam where
  | mlkem | mldsa | fndsa | comp | hyb | slhdsa | lms | xmss | rsa | ecdsa | eddsa | ecdh | mce | hqc | aes | xts
  | chacha | generic
deriving DecidableEq, Repr

/-- The family of an ALG code. -/
def famOf (alg : Nat) : Option Fam :=
  if 0x01 ≤ alg ∧ alg ≤ 0x03 then some .mlkem
  else if 0x11 ≤ alg ∧ alg ≤ 0x13 then some .mldsa
  else if 0x21 ≤ alg ∧ alg ≤ 0x22 then some .fndsa
  else if 0x31 ≤ alg ∧ alg ≤ 0x35 then some .comp
  else if 0x41 ≤ alg ∧ alg ≤ 0x44 then some .hyb
  else if 0x51 ≤ alg ∧ alg ≤ 0x5C then some .slhdsa
  else if 0x61 ≤ alg ∧ alg ≤ 0x64 then some .lms
  else if 0x71 ≤ alg ∧ alg ≤ 0x72 then some .xmss
  else if 0x81 ≤ alg ∧ alg ≤ 0x84 then some .rsa
  else if 0x91 ≤ alg ∧ alg ≤ 0x93 then some .ecdsa
  else if 0xA1 ≤ alg ∧ alg ≤ 0xA2 then some .eddsa
  else if 0xB1 ≤ alg ∧ alg ≤ 0xB5 then some .ecdh
  else if 0xC1 ≤ alg ∧ alg ≤ 0xC4 then some .mce
  else if 0xD1 ≤ alg ∧ alg ≤ 0xD3 then some .hqc
  else if 0xE1 ≤ alg ∧ alg ≤ 0xE3 then some .aes
  else if 0xE4 ≤ alg ∧ alg ≤ 0xE5 then some .xts
  else if alg = 0xE6 then some .chacha
  else if alg = 0xE8 then some .generic
  else none

/-- Look a code up in a table. -/
def look (t : List (Nat × Nat)) (k : Nat) : Nat := ((t.find? fun e => e.1 == k).map (·.2)).getD 0

/-- Public key bytes of an ALG code (R138, R187, R210); 0 where the length is not fixed by the code. -/
def pubLen : Nat → Nat := look
  [(0x01, 800), (0x02, 1184), (0x03, 1568), (0x11, 1312), (0x12, 1952), (0x13, 2592), (0x21, 897), (0x22, 1793),
   (0x31, 1344), (0x32, 2017), (0x33, 1984), (0x34, 2689), (0x35, 2649), (0x41, 1216), (0x42, 1249), (0x43, 1665),
   (0x44, 1624), (0x51, 32), (0x52, 32), (0x53, 48), (0x54, 48), (0x55, 64), (0x56, 64), (0x57, 32), (0x58, 32),
   (0x59, 48), (0x5A, 48), (0x5B, 64), (0x5C, 64), (0x91, 65), (0x92, 97), (0x93, 133), (0xA1, 32), (0xA2, 57),
   (0xB1, 65), (0xB2, 97), (0xB3, 133), (0xB4, 32), (0xB5, 56), (0xC1, 1047319), (0xC2, 1047319), (0xC3, 1357824),
   (0xC4, 1357824), (0xD1, 2249), (0xD2, 4522), (0xD3, 7245)]

/-- Ciphertext or signature bytes of an ALG code (R138, R187, R210); for FN-DSA the most a signature takes. -/
def sigLen : Nat → Nat := look
  [(0x01, 768), (0x02, 1088), (0x03, 1568), (0x11, 2420), (0x12, 3309), (0x13, 4627), (0x21, 666), (0x22, 1280),
   (0x31, 2484), (0x32, 3373), (0x33, 3373), (0x34, 4723), (0x35, 4741), (0x41, 1120), (0x42, 1153), (0x43, 1665),
   (0x44, 1624), (0x51, 7856), (0x52, 17088), (0x53, 16224), (0x54, 35664), (0x55, 29792), (0x56, 49856), (0x57, 7856),
   (0x58, 17088), (0x59, 16224), (0x5A, 35664), (0x5B, 29792), (0x5C, 49856), (0x91, 64), (0x92, 96), (0x93, 132),
   (0xA1, 64), (0xA2, 114), (0xC1, 194), (0xC2, 194), (0xC3, 208), (0xC4, 208), (0xD1, 4497), (0xD2, 9042),
   (0xD3, 14485)]

/-- Shared secret bytes of a KEM or ECDH code (R138, R210). -/
def sharedLen : Nat → Nat := look
  [(0x01, 32), (0x02, 32), (0x03, 32), (0x41, 32), (0x42, 32), (0x43, 32), (0x44, 32), (0xB1, 32), (0xB2, 48),
   (0xB3, 66), (0xB4, 32), (0xB5, 56), (0xC1, 32), (0xC2, 32), (0xC3, 32), (0xC4, 32), (0xD1, 64), (0xD2, 64),
   (0xD3, 64)]

/-- Digest bytes of a PH_FUNC code (R148). -/
def phLen : Nat → Nat := look [(1, 32), (2, 48), (3, 64), (4, 32), (5, 48), (6, 64), (7, 32), (8, 64)]

/-- The blob length of L bytes of key material (R340). -/
def blobLen (l : Nat) : Nat := 168 + 8 * ((l + 7) / 8)

/-! ### Uses and policy -/

/-- The uses a key may carry by family and class (R542). -/
def usesAllowed (f : Fam) (cls : Nat) : Nat :=
  match f with
  | .mlkem => if cls = 0 then 0x0C else if cls = 1 then 0x04 else 0
  | .hyb => if cls = 0 then 0x0C else if cls = 1 then 0x04 else 0
  | .mce => if cls = 0 then 0x0C else if cls = 1 then 0x04 else 0
  | .hqc => if cls = 0 then 0x0C else if cls = 1 then 0x04 else 0
  | .mldsa => if cls = 0 then 0x03 else if cls = 1 then 0x02 else 0
  | .comp => if cls = 0 then 0x03 else if cls = 1 then 0x02 else 0
  | .slhdsa => if cls = 0 then 0x03 else if cls = 1 then 0x02 else 0
  | .lms => if cls = 0 then 0x03 else if cls = 1 then 0x02 else 0
  | .ecdsa => if cls = 0 then 0x03 else if cls = 1 then 0x02 else 0
  | .eddsa => if cls = 0 then 0x03 else if cls = 1 then 0x02 else 0
  | .fndsa => if cls = 1 then 0x02 else 0
  | .xmss => if cls = 1 then 0x02 else 0
  | .rsa => if cls = 0 then 0x1E063 else if cls = 1 then 0x1E022 else 0
  | .ecdh => if cls ≤ 1 then 0x10 else 0
  | .aes => if 2 ≤ cls then 0x7E0 else 0
  | .xts => if 2 ≤ cls then 0x60 else 0
  | .chacha => if 2 ≤ cls then 0x60 else 0
  | .generic => if 2 ≤ cls then 0x1980 else 0

/-- Bits of `a` outside `b`. -/
def outside (a b : Nat) : Bool := !(a &&& b == a)

/-- The key has the use bit `n` (R542, R52 step 5). -/
def KeyRec.use (k : KeyRec) (n : Nat) : Bool := bit k.pol.uses n

/-- The key has the attribute bit `n` (R338). -/
def KeyRec.attr (k : KeyRec) (n : Nat) : Bool := bit k.pol.attr n

/-- The validity period holds the acceptance tick, half-open (R338, R143). -/
def inPeriod (p : Policy) (t : Nat) : Bool :=
  decide (p.validFrom ≤ t) && (p.validTo == max64 || decide (t < p.validTo))

/-- Change the handle record of a key. -/
def State.modKey (s : State) (h : U32) (f : KeyRec → KeyRec) : State :=
  { s with vault := { s.vault with handles := s.vault.handles.map fun k => if k.handle = h then f k else k } }

/-- A job takes `n` of its key's uses, whose limit is `lim` (0: none). The sum past the limit, or a counter at it,
gives ST_KEY_LIMIT, leaves the counter at the limit and spends the key (R240, R544). A re-run or re-issue does not count again. -/
def countUse (c : Cmd) (k : KeyRec) (n lim : Nat) (s : State) : Bool × State :=
  if lim = 0 ∨ c.prog.counted then (true, s)
  else if k.spent then (false, s)
  else if lim < k.usage + n ∨ k.usage = lim then (false, s.modKey k.handle fun k => { k with usage := lim, spent := true })
  else (true, (s.modKey k.handle fun k => { k with usage := k.usage + n }).modProg c.job.id
          fun p => { p with counted := true })

/-! ### Shelves -/

/-- Secret and public bytes of the classical part of a composite or hybrid key (R344, R139). -/
def classicPart (alg : Nat) : Nat × Nat :=
  match alg with
  | 0x31 => (32, 32) | 0x32 => (32, 65) | 0x33 => (32, 32) | 0x34 => (48, 97) | 0x35 => (57, 57)
  | 0x41 => (32, 32) | 0x42 => (32, 65) | 0x43 => (48, 97) | 0x44 => (56, 56)
  | _ => (0, 0)

/-- S_s and S_p of the lattice part of a key (R344). -/
def latticePart (alg : Nat) : Nat × Nat :=
  match alg with
  | 0x01 => (800, 832) | 0x02 => (1184, 1216) | 0x03 => (1568, 1600)
  | 0x11 => (800, 3040) | 0x12 => (1440, 4512) | 0x13 => (1472, 5984)
  | 0x31 => (800, 3040) | 0x32 => (1440, 4512) | 0x33 => (1440, 4512) | 0x34 => (1472, 5984) | 0x35 => (1472, 5984)
  | 0x41 => (1184, 1216) | 0x42 => (1184, 1216) | 0x43 => (1568, 1600) | 0x44 => (1568, 1600)
  | _ => (0, 0)

/-- S_s and S_p of every other asymmetric or symmetric key (R344); `size` is RSA modulus bits or key bytes, `levels` the
levels of an LMS key. -/
def otherPart (alg size levels : Nat) : Nat × Nat :=
  match famOf alg with
  | some .rsa => (5 * size / 16, size / 8 + 32)
  | some .ecdsa => ((pubLen alg - 1) / 2, pubLen alg)
  | some .ecdh => if alg ≤ 0xB3 then ((pubLen alg - 1) / 2, pubLen alg) else (pubLen alg, pubLen alg)
  | some .eddsa => (pubLen alg, pubLen alg)
  | some .mce => (if alg ≤ 0xC2 then 13948 else 14120, 0)
  | some .hqc => (40, pubLen alg)
  | some .slhdsa => (pubLen alg, pubLen alg)
  | some .lms => (48 * levels, 60 * levels)
  | _ => (size, 0)

/-- Shelf entries of a key (R344). -/
def shelfEntries (cls alg minOrder size levels pubBytes : Nat) : Nat :=
  if cls = 1 then if famOf alg = some .mce then 0 else (32 + pubBytes + 255) / 256
  else
    let (ls, lp) := latticePart alg
    let (cs, cp) := classicPart alg
    let (os, op) := if lp = 0 then otherPart alg size levels else (0, 0)
    (32 + lp + cp + op + (minOrder + 1) * ls + 2 * (cs + os) + 255) / 256

/-! ### Shares (R116) -/

/-- Exclusive or of byte strings. -/
def xorBytes (a b : List Byte) : List Byte := List.zipWith (· ^^^ ·) a b

/-- The value that shares combine to. -/
def combine : List (List Byte) → List Byte
  | [] => []
  | [a] => a
  | a :: t => xorBytes a (combine t)

/-- Shares of a value, one more than the masks. -/
def share : List (List Byte) → List Byte → List (List Byte)
  | [], x => [x]
  | m :: ms, x => m :: share ms (xorBytes m x)

/-- Refresh shares: each mask goes into one share and into the next. -/
def refresh : List (List Byte) → List (List Byte) → List (List Byte)
  | m :: ms, a :: b :: t => xorBytes m a :: refresh ms (xorBytes m b :: t)
  | _, l => l

/-- One more share for each mask. -/
def expandShares (ms sh : List (List Byte)) : List (List Byte) :=
  ms.foldl (fun l m => match l with
    | [] => []
    | a :: t => m :: xorBytes m a :: t) sh

/-- Combine `k` shares into their neighbours. -/
def mergeShares : Nat → List (List Byte) → List (List Byte)
  | k + 1, a :: b :: t => mergeShares k (xorBytes a b :: t)
  | _, l => l

/-- The shares as a cell at `n` shares holds them: refreshed, and expanded or combined to `n` (R116). -/
def toShares (n : Nat) (ms sh : List (List Byte)) : List (List Byte) :=
  let l := refresh ms sh
  if l.length ≤ n then expandShares ((ms.drop (l.length - 1)).take (n - l.length)) l else mergeShares (l.length - n) l

/-- `n` fresh masks of `len` bytes. -/
def drawMasks (n len : Nat) (s : State) : List (List Byte) × State :=
  let (b, s1) := drawBytes (n * len) s
  ((List.range n).map fun i => slice b (i * len) len, s1)

/-- Bytes of key material that are not of its lattice part (R344): the classical part of a composite or hybrid key, or all of it. -/
def otherLen (alg len : Nat) : Nat := if (latticePart alg).2 = 0 then len else (classicPart alg).1

/-- Put key material into shares for a shelf: the lattice part as `order` + 1, the rest as 2 (R116, R344). -/
def storeShares (alg order : Nat) (secret : List Byte) (s : State) : (List (List Byte) × List (List Byte)) × State :=
  let n := secret.length - otherLen alg secret.length
  let l := secret.take n
  let o := secret.drop n
  let (ml, s1) := drawMasks order n s
  let (mo, s2) := drawMasks 1 o.length s1
  ((if l.isEmpty then [] else share ml l, if o.isEmpty then [] else share mo o), s2)

/-- The secret that a shelf entry's shares combine to. -/
def ShelfKey.secret (e : ShelfKey) : List Byte := combine e.lattice ++ combine e.other

/-- A key moves from the shelf to a cell that works at masking order `order`, 0 where the job is not secret-bearing (R116): the shares
are refreshed on the way, and the lattice part is held there as `order` + 1 shares. -/
def ShelfKey.toCell (e : ShelfKey) (order : Nat) (s : State) : ShelfKey × State :=
  let n := if order = 0 then e.lattice.length else order + 1
  let (ml, s1) := drawMasks (e.lattice.length + n) (combine e.lattice).length s
  let (mo, s2) := drawMasks 1 (combine e.other).length s1
  ({ e with lattice := toShares n ml e.lattice, other := refresh mo e.other }, s2)

/-- The entry is one of a key. -/
def KeyRec.owns (k : KeyRec) (e : ShelfKey) : Bool := e.inst == k.inst && e.keyId == k.keyId

/-- A key lies in the shelf of region `r`. -/
def State.onShelf (s : State) (r i keyId : Nat) : Option ShelfKey :=
  (s.region r).shelf.find? fun e => e.inst == i && e.keyId == keyId && e.kept.isEmpty

/-- The entry that command `j` uses in region `r`: the one kept for it after KEY.EVICT or KEY.DELETE, else that of the key (R350). -/
def State.shelfFor (s : State) (j : Nat) (r : Nat) (k : KeyRec) : Option ShelfKey :=
  match (s.region r).shelf.find? fun e => k.owns e && e.kept.contains j with
  | some e => some e
  | none => s.onShelf r k.inst k.keyId

/-- Entries of a shelf that an instance holds. -/
def shelfUse (g : Region) (i : Nat) : Nat := ((g.shelf.filter fun e => e.inst == i).map (·.entries)).sum

/-- A running job of region `r` uses the entry (R346). -/
def State.shelfInUse (s : State) (r : Nat) (e : ShelfKey) : Bool :=
  !e.kept.isEmpty || s.cmds.any fun c => c.prog.region == some r &&
    (c.prog.phase == .running || c.prog.phase == .yielded || c.prog.phase == .checking) &&
    (s.keyOf c.job).any (·.owns e) && !(s.region r).shelf.any fun x => x.kept.contains c.job.id && (s.keyOf c.job).any (·.owns x)

/-- The least-recently-used entry of an instance that `p` allows. -/
def lruKey (p : ShelfKey → Bool) : List ShelfKey → Option ShelfKey
  | [] => none
  | e :: es =>
    if p e then
      match lruKey p es with
      | some f => if f.lru < e.lru then some f else some e
      | none => some e
    else lruKey p es

/-- Count an event of an instance in a table of HITS, MISSES and EVICTS. -/
def bump (t : Tbl Hits) (i : Nat) (f : Hits → Hits) : Tbl Hits :=
  tset (fun _ => ({} : Hits)) t i (f (tget (fun _ => ({} : Hits)) t i))

/-- Evict least-recently-used entries of an instance not in use until `n` more fit its quota, at most `fuel` of them
(R346). -/
def evictFor (r i n : Nat) : Nat → State → State
  | 0, s => s
  | fuel + 1, s =>
    if shelfUse (s.region r) i + n ≤ (s.inst i).cfg.shelf then s
    else match lruKey (fun e => e.inst == i && !s.shelfInUse r e) (s.region r).shelf with
      | none => s
      | some e => evictFor r i n fuel (s.modRegion r fun g =>
          { g with shelf := g.shelf.filter fun x => !(x == e),
                   shelfHits := bump g.shelfHits i fun h => { h with evicts := inc32 h.evicts } })

/-- Where a lowered quota left an instance over it because its jobs used the entries, they are evicted once the jobs are gone (R95,
R346). -/
def fitShelf (i : Nat) (s : State) : State :=
  (regionNums.filter fun r => decide ((s.inst i).cfg.shelf < shelfUse (s.region r) i)).foldl
    (fun s r => evictFor r i 0 (s.region r).shelf.length s) s

/-- Put a key in the shelf of region `r` when the quota lets it, evicting entries not in use (R346, R350). -/
def shelve (r : Nat) (e : ShelfKey) (s : State) : Bool × State :=
  if (s.inst e.inst).cfg.shelf < e.entries then (false, s)
  else
    let s1 := evictFor r e.inst e.entries (s.region r).shelf.length s
    if shelfUse (s1.region r) e.inst + e.entries ≤ (s1.inst e.inst).cfg.shelf then
      (true, s1.modRegion r fun g => { g with shelf := e :: g.shelf.filter fun x =>
        !(x.inst == e.inst && x.keyId == e.keyId && x.kept.isEmpty) })
    else (false, s1)

/-! ### The crystallizer -/

/-- Granules of an entry (R128). -/
def granules : Nat → Nat := look
  [(0x01, 4), (0x02, 8), (0x03, 13), (0x11, 25), (0x12, 46), (0x13, 85), (0x21, 3), (0x22, 5)]

/-- Expansion time at FAST, in ns (R131). -/
def expandNs : Nat → Nat := look
  [(0x01, 80), (0x02, 150), (0x03, 240), (0x11, 200), (0x12, 380), (0x13, 710), (0x21, 60), (0x22, 110)]

/-- The lattice parameter set of a composite or hybrid code; the code itself otherwise (R138). -/
def latticeAlg (alg : Nat) : Nat :=
  match alg with
  | 0x31 => 0x11 | 0x32 => 0x12 | 0x33 => 0x12 | 0x34 => 0x13 | 0x35 => 0x13
  | 0x41 => 0x02 | 0x42 => 0x02 | 0x43 => 0x03 | 0x44 => 0x03
  | a => a

/-- The key digest of an entry: tr, H(ek), or SHAKE256 of the key, 32 bytes (R129). -/
def crystDigest (alg : Nat) (pk : List Byte) : List Byte :=
  stdN 32 (if alg ≤ 0x03 then "SHA3-256" else "SHAKE256") [pk]

/-- The tag that a command's work probes with, without its instance: the parameter set and the key digest, of the key it carries or
of the one it names (R129). -/
def State.crystTag (s : State) (j : Job) : Option (Nat × List Byte) :=
  let a := latticeAlg (bits j.param.toNat 7 0)
  if [0x0301, 0x0302, 0x0303, 0x0304, 0x0401, 0x0402, 0x0403, 0x0404, 0x0405].contains j.opcode then
    some (a, if bit j.param.toNat 13 then crystDigest a ((j.operand 3).take (pubLen a)) else ((s.keyOf j).map (·.digest)).getD [])
  else none

/-- Granules an instance holds. -/
def crystUse (g : Region) (i : Nat) : Nat := ((g.lat.cryst.filter fun e => e.inst == i).map (·.granules)).sum

/-- Granules of pinned entries of an instance. -/
def crystPinned (g : Region) (i : Nat) : Nat :=
  ((g.lat.cryst.filter fun e => e.inst == i && e.pinned).map (·.granules)).sum

/-- An entry of the probe's instance, generation, parameter set and digest (R129). -/
def CrystEntry.same (e f : CrystEntry) : Bool :=
  !e.gone && e.inst == f.inst && e.gen == f.gen && e.param == f.param && e.digest == f.digest

/-- The least-recently-used entry among those `p` allows. -/
def lruCryst (p : CrystEntry → Bool) : List CrystEntry → Option CrystEntry
  | [] => none
  | e :: es =>
    if p e then
      match lruCryst p es with
      | some f => if f.lru < e.lru then some f else some e
      | none => some e
    else lruCryst p es

/-- Granules of the entries of an instance that stay. -/
def crystKept (g : Region) (i : Nat) : Nat :=
  ((g.lat.cryst.filter fun e => e.inst == i && !e.gone).map (·.granules)).sum

/-- The entry of an instance to evict next: an unpinned one that `may` allows, and for `all` then a pinned one, least recently used
first (R130, R132). -/
def crystVictim (all : Bool) (i : Nat) (may : CrystEntry → Bool) (g : Region) : Option CrystEntry :=
  let free := lruCryst (fun e => e.inst == i && !e.pinned && !e.gone && may e) g.lat.cryst
  if all && free.isNone then lruCryst (fun e => e.inst == i && !e.gone && may e) g.lat.cryst else free

/-- Evict entries of an instance until `n` more granules fit its quota, in at most `fuel` steps (R130, R132). -/
def evictCryst (all : Bool) (r i n quota : Nat) (may : CrystEntry → Bool) : Nat → State → State
  | 0, s => s
  | fuel + 1, s =>
    if crystKept (s.region r) i + n ≤ 46 * quota then s
    else match crystVictim all i may (s.region r) with
      | none => s
      | some e => evictCryst all r i n quota may fuel ((dropCryst r (· == e) s).modRegion r fun g => { g with lat := { g.lat with
          hits := bump g.lat.hits i fun h => { h with evicts := inc32 h.evicts } } })

/-- Enter an entry, evicting under R130 what no job reads; nothing is filled where what stays leaves no room, where the entry exceeds
the quota, or where an entry of the same key is complete (R130, R133). -/
def fillCryst (r : Nat) (f : CrystEntry) (s : State) : State :=
  let quota := (s.inst f.inst).cfg.cryst
  let g := s.region r
  if g.lat.cryst.any (fun e => e.same f) || decide (46 * quota < crystPinned g f.inst + f.granules) then s
  else
    let s1 := evictCryst false r f.inst f.granules quota (fun e => !s.crystRead r e) g.lat.cryst.length s
    if crystUse (s1.region r) f.inst + f.granules ≤ 46 * quota then
      s1.modRegion r fun g => { g with lat := { g.lat with cryst := g.lat.cryst ++ [f] } }
    else s1

/-- Fills of region `r` whose time has come enter (R133). -/
def settleFills (r : Nat) (s : State) : State :=
  let due := (s.region r).lat.fills.filter fun f => decide (f.done ≤ s.tick)
  due.foldl (fun s f => fillCryst r f s) (s.modRegion r fun g =>
    { g with lat := { g.lat with fills := g.lat.fills.filter fun f => !decide (f.done ≤ s.tick) } })

/-- The mark of a pin that its key's first use in a region restores (R131): the entry is pinned, or filled and pinned where the
quota leaves room. -/
def repin (r : Nat) (k : KeyRec) (s : State) : State :=
  if !k.pinned || k.pinAt == r || r != k.home || k.digest.isEmpty then s
  else
    let a := latticeAlg k.alg
    let f : CrystEntry := { inst := k.inst, gen := (s.inst k.inst).gen, param := a, digest := k.digest, granules := granules a,
                            pinned := true, lru := s.tick, done := s.tick }
    let s1 := s.modKey k.handle fun x => { x with pinAt := r }
    if (s.region r).lat.cryst.any (fun e => e.same f) then
      s1.modRegion r fun g => { g with lat := { g.lat with
        cryst := g.lat.cryst.map fun e => if e.same f then { e with pinned := true, lru := s.tick } else e } }
    else fillCryst r f s1

/-- Probe the crystallizer of region `r` with a digest: fills that are due count as complete, and a miss starts a fill when CRYST_FILL
is set (R129, R130, R133). -/
def probeTag (r i alg : Nat) (digest : List Byte) (start : Nat) (s0 : State) : Bool × State :=
  let s := settleFills r s0
  let g := s.region r
  let eff := if g.svc.pointNow then 167 else 100
  let f : CrystEntry := { inst := i, gen := (s.inst i).gen, param := alg, digest := digest,
                          granules := granules alg, pinned := false, lru := s.tick,
                          done := start + expandNs alg * eff / 100 }
  if g.lat.cryst.any fun e => e.same f then
    (true, s.modRegion r fun g => { g with lat := { g.lat with
      cryst := g.lat.cryst.map fun e => if e.same f then { e with lru := s.tick } else e,
      hits := bump g.lat.hits i fun h => { h with hits := inc32 h.hits } } })
  else
    (false, s.modRegion r fun g => { g with lat := { g.lat with
      fills := if g.lat.crystFill then g.lat.fills ++ [f] else g.lat.fills,
      hits := bump g.lat.hits i fun h => { h with misses := inc32 h.misses } } })

/-- Probe with a public key (R129). -/
def probeCryst (r i alg : Nat) (pk : List Byte) (start : Nat) (s : State) : Bool × State :=
  probeTag r i alg (crystDigest alg pk) start s

/-! ### The key at its job -/

/-- What a job finds when it needs its key: the key in the shelf, a wait, or a status. -/
inductive KeyAt where
  | here (e : ShelfKey)
  | wait
  | bad (st : Status)
deriving DecidableEq, Repr

/-- A job that waits for its key or for randomness holds no unit: it is dispatched again once the wait ends (R319, R345, R411). -/
def leaveUnit (j : Nat) (w : Wait) (s : State) : State :=
  settleUnits (s.modProg j fun p =>
    { p with phase := .acked, unit := none, wait := some w, energy := p.energy - p.stretch, stretch := 0 })

/-- The region in whose shelf a command looks for its key: that of its work, but for KEY.ATTEST the key's home while it is IN_SERVICE
(R345, R352). -/
def State.shelfRegion (s : State) (c : Cmd) (k : KeyRec) : Nat :=
  if c.job.opcode = 0x0208 ∧ s.inService k.home then k.home else c.rgn

/-- Probe a region's shelf for the key of a job (R344-R346): a hit, or a miss that reads the blob from its recorded address and
makes the region the key's home (R21). -/
def needKey (c : Cmd) (k : KeyRec) (s : State) : KeyAt × State :=
  let r := s.shelfRegion c k
  match s.shelfFor c.job.id r k with
  | some e =>
    let s1 := (repin r k s).modRegion r fun g =>
      { g with shelf := g.shelf.map fun x => if x == e then { x with lru := s.tick } else x,
               shelfHits := if c.prog.missed then g.shelfHits
                            else bump g.shelfHits k.inst fun h => { h with hits := inc32 h.hits } }
    (.here e, s1.modProg c.job.id fun p => { p with wait := none })
  | none =>
    if !s.vault.rootReady then (.wait, leaveUnit c.job.id .shelf s)
    else if (s.inst k.inst).cfg.shelf < k.entries then (.bad .quota, s)
    else if c.prog.wait = some .shelf then (.wait, s)
    else
      let s1 := s.modRegion r fun g =>
        { g with shelfHits := bump g.shelfHits k.inst fun h => { h with misses := inc32 h.misses } }
      let loading := s.cmds.any fun d => d.prog.wait == some .shelf && s.shelfRegion d k == r &&
        d.job.handle == c.job.handle && !(d.job.id == c.job.id)
      let s2 := leaveUnit c.job.id .shelf ((s1.modKey k.handle fun k => { k with home := r }).modProg c.job.id
        fun p => { p with missed := true })
      (.wait, if loading then s2 else hostRead (.key c.job.id) k.inst k.blobAddr k.blobLen false s2)

/-! ### Randomness -/

/-- Pans of region `r` whose generator waits for a seed, lowest first (R319). -/
def seedWaiters (s : State) (r : Nat) : List Nat :=
  panNums.filter fun p => let m := (s.pan r p).msg
    (m.waitSeed || m.asked || !m.seeded) && !m.fault && (s.pan r p).svc.pwr != .dormant

/-- A draw of `n` bytes from the reservoir of the job's region: at once when no draw, a mask-stream seed's too, waits there and
the reservoir holds them; otherwise the job waits (R319). -/
def takeRandom (n : Nat) (c : Cmd) (s : State) : Option (List Byte) × State :=
  let r := c.prog.region.getD 0
  let waiting := s.cmds.any fun d => d.prog.region == some r && d.prog.wait == some .random
  if n ≤ c.prog.granted then
    let (b, s1) := drawBytes n s
    (some b, s1.modProg c.job.id fun p => { p with granted := p.granted - n, wait := none })
  else if !waiting && (seedWaiters s r).isEmpty && decide (n ≤ (s.region r).rng.reservoir) then
    let (b, s1) := drawBytes n s
    (some b, s1.modRegion r fun g => { g with rng := { g.rng with reservoir := g.rng.reservoir - n } })
  else (none, leaveUnit c.job.id .random (s.modProg c.job.id fun p =>
    { p with need := n, since := if p.wait = some .random then p.since else s.tick }))

/-! ### Release checks and masks -/

/-- Hand a result to its release check (R124, R208): it is released when the check passes. -/
def toCheck (j : Nat) (r : Res) (s : State) : State :=
  settleUnits ((countJob j s).modProg j fun p =>
    { p with phase := .checking, res := some r, since := s.tick, pair := { p.pair with cell := none } })

/-- DEFAULT_ORDER of region `r` (R135). -/
def State.defaultOrder (s : State) (r : Nat) : Nat :=
  if (s.region r).lat.defaultOrder = 0 then max 2 s.pkg.fuses.maskFloor else (s.region r).lat.defaultOrder

/-- The effective masking order, or the status of R115. -/
def effOrder (s : State) (r want keyMin : Nat) : Except Status Nat :=
  let floor := s.pkg.fuses.maskFloor
  if want ≠ 0 ∧ want < floor then .error .maskFloor
  else if want ≠ 0 ∧ want < keyMin then .error .keyPolicy
  else if want ≠ 0 then .ok want
  else .ok (max (s.defaultOrder r) (max floor keyMin))

/-- The operation is secret-bearing (R114): KeyGen of a key with a lattice part, decapsulation and signing. -/
def Job.secretBearing (j : Job) : Bool :=
  [0x0302, 0x0304, 0x0401, 0x0404].contains j.opcode || (j.opcode == 0x0201 && (latticePart (bits j.param.toNat 7 0)).2 != 0)

/-- The order that a command asks for: PARAM[9:8] of a KEM or SIG verb, none of KEY.GENERATE and of a masked KMAC (R115, R173). -/
def Job.wantOrder (j : Job) : Nat := if j.opcode / 256 = 3 ∨ j.opcode / 256 = 4 then bits j.param.toNat 9 8 else 0

/-- The key's minimum order: for KeyGen the one that the command sets for the new key (R115). -/
def State.keyMin (s : State) (j : Job) : Nat :=
  if j.opcode = 0x0201 then fld j.args 0x20 1 else ((s.keyOf j).map (·.pol.minOrder)).getD 0

/-- The effective order that a dispatch in region `r` sets for a job (R115); 0 for one that runs unmasked, or that R115 refuses. -/
def State.orderAt (s : State) (j : Job) (r : Nat) : Nat :=
  if j.secretBearing || s.kmacMasked j then
    match effOrder s r j.wantOrder (s.keyMin j) with
    | .ok n => n
    | .error _ => 0
  else 0

/-- The effective order in region `r` of work with a key that no command asks for: the harvest signature (R115, R299). -/
def State.orderOfKey (s : State) (r : Nat) (k : KeyRec) : Nat :=
  match effOrder s r 0 k.pol.minOrder with
  | .ok n => n
  | .error _ => 0

/-- Mask-stream bytes of a lattice operation at order 2 (R121): 0 Encaps, 1 Decaps, 2 Sign, 3 KeyGen. -/
def maskBytes (op alg : Nat) : Nat :=
  match op, latticeAlg alg with
  | 0, 0x01 => 256 | 0, 0x02 => 384 | 0, 0x03 => 512
  | 1, 0x01 => 2048 | 1, 0x02 => 3584 | 1, 0x03 => 4608
  | 2, 0x11 => 16384 | 2, 0x12 => 24576 | 2, 0x13 => 34816
  | 3, 0x01 => 1792 | 3, 0x02 => 2560 | 3, 0x03 => 3328
  | 3, 0x11 => 3072 | 3, 0x12 => 4096 | 3, 0x13 => 5632
  | _, _ => 0

/-- Mask-stream bytes at an order: 0.4 times at order 1 and 2.0 times at order 3 (R121). -/
def maskScale (order bytes : Nat) : Nat :=
  match order with
  | 1 => bytes * 4 / 10
  | 3 => bytes * 2
  | _ => bytes

/-- Bytes that the generator can still give from its seed: none without one, or once it stopped at 1 MiB (R119, R120). -/
def Msg.room (m : Msg) : Nat := if m.seeded && !m.waitSeed then 1048576 - m.used else 0

/-- The generator of pan `p` gives at most `n` bytes (R119): at 768 KiB of a seed the next is asked for, at 1 MiB output stops. The
answer is what it gave. The cell-cycles that cells waited for them are a free value (R123, log 10). -/
def drawMask (r p n : Nat) (s : State) : Nat × State :=
  let k := min n (s.pan r p).msg.room
  let (w, s1) := drawNat s
  (k, s1.modPan r p fun x =>
    let used := x.msg.used + k
    { x with msg := { x.msg with
        used := used,
        asked := x.msg.asked || decide (786432 ≤ used),
        stall := (x.msg.stall + w) % 2 ^ 64,
        waitSeed := x.msg.waitSeed || decide (1048576 ≤ used),
        seedWaits := if !x.msg.waitSeed && decide (1048576 ≤ used) then inc32 x.msg.seedWaits else x.msg.seedWaits } })

/-- Continue once a job has drawn `n` mask bytes in all; where the generator stops before that, the job keeps its cell and waits for the
rest (R119, R123). -/
def withMask (n : Nat) (c : Cmd) (s : State) (k : State → State × Option Res) : State × Option Res :=
  if n ≤ c.prog.masked then k s
  else
    let (got, s1) := drawMask c.rgn c.pan (n - c.prog.masked) s
    let all := decide (n ≤ c.prog.masked + got)
    let s2 := s1.modProg c.job.id fun p => { p with masked := p.masked + got, wait := if all then none else some .mask }
    if all then k s2 else (s2, none)

end Sys2Proof.Machine
end

