-- ==== Sys2Proof/Machine/Energy.lean ====
section
/-! DEFINITION. What ENERGY_NJ reports where the spec fixes it: the lattice operations (R160-R163, R543), digests (R183), number-cell
work (R225) and the symmetric engines (R247). Every other energy is a free value (log 12). -/

namespace Sys2Proof.Machine

/-- A quotient rounded to the nearest whole: the completions of R247's example are rounded so. -/
def roundDiv (a b : Nat) : Nat := (2 * a + b) / (2 * b)

/-- An operation of R161 at FAST on a miss: latencies without stalls at orders 1, 2 and 3 in 10 ns, and its energy at order 2 in nJ. -/
structure LatFig where
  o1 : Nat
  o2 : Nat
  o3 : Nat
  nj : Nat
deriving DecidableEq, Repr

/-- The lattice operations whose energy R161 gives. -/
inductive LatOp where
  | encaps | decaps | keygen | verify
deriving DecidableEq, Repr

/-- The table of R161; the verification energies are those of a miss. -/
def latFig (op : LatOp) (alg : Nat) : Option LatFig :=
  match op, alg with
  | .keygen, 0x01 => some ⟨35, 52, 86, 120⟩ | .keygen, 0x02 => some ⟨52, 77, 127, 170⟩
  | .keygen, 0x03 => some ⟨72, 106, 175, 240⟩ | .keygen, 0x11 => some ⟨73, 103, 163, 200⟩
  | .keygen, 0x12 => some ⟨111, 155, 243, 300⟩ | .keygen, 0x13 => some ⟨171, 233, 357, 440⟩
  | .encaps, 0x01 => some ⟨26, 26, 26, 50⟩ | .encaps, 0x02 => some ⟨37, 37, 37, 70⟩
  | .encaps, 0x03 => some ⟨50, 50, 50, 90⟩
  | .decaps, 0x01 => some ⟨41, 62, 104, 140⟩ | .decaps, 0x02 => some ⟨62, 93, 155, 210⟩
  | .decaps, 0x03 => some ⟨85, 128, 214, 290⟩
  | .verify, 0x11 => some ⟨54, 54, 54, 100⟩ | .verify, 0x12 => some ⟨90, 90, 90, 160⟩
  | .verify, 0x13 => some ⟨151, 151, 151, 270⟩ | .verify, 0x21 => some ⟨30, 30, 30, 50⟩
  | .verify, 0x22 => some ⟨55, 55, 55, 100⟩
  | _, _ => none

/-- What a crystallizer hit leaves out, in nJ (R543, R161). -/
def hitSaves : Nat → Nat
  | 0x01 => 10 | 0x02 => 20 | 0x03 => 30 | 0x11 => 30 | 0x12 => 60 | 0x13 => 120 | 0x21 => 10 | 0x22 => 20
  | _ => 0

/-- The energy at an order (R160): the order-2 energy in the ratio of the latencies. Order 0 is an unmasked operation. -/
def LatFig.at (f : LatFig) (order : Nat) : Nat :=
  match order with
  | 1 => roundDiv (f.nj * f.o1) f.o2
  | 3 => roundDiv (f.nj * f.o3) f.o2
  | _ => f.nj

/-- An energy at the operating point: at EFFICIENT 0.67 times that of FAST (R163). -/
def atPoint (eff : Bool) (nj : Nat) : Nat := if eff then roundDiv (67 * nj) 100 else nj

/-- The energy of a lattice operation. An encapsulation or decapsulation that hits takes R543's amount less at either operating point;
a verification that hits has a figure of its own in R161 (log 12). -/
def latticeNj (op : LatOp) (alg order : Nat) (hit eff : Bool) : Option Nat :=
  (latFig op alg).map fun f =>
    if op = .verify then atPoint eff (f.nj - if hit then hitSaves alg else 0)
    else atPoint eff (f.at order) - if hit && op != .keygen then hitSaves alg else 0

/-- Region `r` runs at EFFICIENT. -/
def State.efficient (s : State) (r : Nat) : Bool := (s.region r).svc.pointNow

/-- A free value held within ten per cent of `mid` (R225, log 12). -/
def within10 (mid raw : Nat) : Nat := mid - mid / 10 + raw % (2 * (mid / 10) + 1)

/-- The nanoseconds that a number-cell operation keeps its cells, at FAST (R225-R228): its operation latency less 40 ns for each transfer
of a result, as R206's example takes it. `size` is the modulus length. None where the table gives a mean, or where what adds to the
figure is not in the command: the exponent of an RSA public operation, a McEliece key stream. -/
def numberNs (op alg size : Nat) : Option Nat :=
  let t (l : List (Nat × Nat)) (k : Nat) : Option Nat := (l.find? fun e => e.1 == k).map (·.2)
  let rsa := [(1024, 45000), (2048, 300000), (3072, 950000), (4096, 2200000), (8192, 16900000), (16384, 130000000)]
  match op with
  | 0x040B => (t rsa size).map (· - 80)
  | 0x0306 => (t rsa size).map (· - 40)
  | 0x040D => t [(0x91, 10920), (0x92, 23920), (0x93, 51920)] alg
  | 0x040E => t [(0x91, 5160), (0x92, 11260), (0x93, 24460)] alg
  | 0x040F => t [(0xA1, 7420), (0xA2, 18920)] alg
  | 0x0410 => t [(0xA1, 3560), (0xA2, 8960)] alg
  | 0x0307 => t [(0xB1, 5360), (0xB2, 11960), (0xB3, 25960), (0xB4, 3860), (0xB5, 10460)] alg
  | 0x0309 => t [(0xC1, 30960), (0xC2, 30960), (0xC3, 35960), (0xC4, 35960)] alg
  | 0x030A => t [(0xD1, 13960), (0xD2, 30960), (0xD3, 55960)] alg
  | 0x030B => t [(0xD1, 25960), (0xD2, 57960), (0xD3, 103960)] alg
  | _ => none

/-- The nanoseconds of an encapsulation with a pinned McEliece key (R228). -/
def pinnedNs : Nat → Option Nat
  | 0xC1 => some 4260 | 0xC2 => some 4260 | 0xC3 => some 5560 | 0xC4 => some 5560
  | _ => none

/-- The nanoseconds of the key generation that EPHEMERAL adds (R227). -/
def ephemeralNs : Nat → Nat
  | 0xB1 => 3400 | 0xB2 => 7600 | 0xB3 => 16000 | 0xB4 => 2600 | _ => 6800

/-- The number-cell code of the classical part of a composite or hybrid code (R138). -/
def classicalAlg : Nat → Nat
  | 0x31 => 0xA1 | 0x32 => 0x91 | 0x33 => 0xA1 | 0x34 => 0x92 | 0x35 => 0xA2
  | 0x41 => 0xB4 | 0x42 => 0xB1 | 0x43 => 0xB2 | _ => 0xB5

/-- The nanoseconds of the classical part of a composite verification, a hybrid encapsulation or a hybrid decapsulation (R164). -/
def partNs (op alg : Nat) : Option Nat :=
  let k := classicalAlg alg
  match op with
  | 0x0405 => if k = 0xA1 ∨ k = 0xA2 then numberNs 0x0410 k 0 else numberNs 0x040E k 0
  | 0x0303 => (numberNs 0x0307 k 0).map (· + ephemeralNs k)
  | _ => numberNs 0x0307 k 0

/-- The energy of `ns` of number-cell time at 0.18 W (R225), within ten per cent; `raw` is a free value. -/
def numberNj (eff : Bool) (ns raw : Nat) : Nat := within10 (atPoint eff (roundDiv (18 * ns) 100)) raw

/-- Tenths of a pJ per message byte of a hash, HMAC or KMAC (R183); `order` is 0 where it runs unmasked. None for a function that the
table does not list. -/
def digestPj (func order : Nat) : Option Nat :=
  match func with
  | 0x01 => some 33 | 0x02 => some 33 | 0x31 => some 33
  | 0x03 => some 21 | 0x04 => some 21 | 0x05 => some 21 | 0x06 => some 21 | 0x32 => some 21 | 0x33 => some 21
  | 0x11 => some 21 | 0x12 => some 22 | 0x13 => some 29 | 0x14 => some 42
  | 0x21 => some 18 | 0x23 => some 18 | 0x22 => some 22 | 0x24 => some 22
  | 0x41 => some (match order with | 0 => 18 | 1 => 71 | 2 => 120 | _ => 210)
  | 0x42 => some (match order with | 0 => 22 | 1 => 71 | 2 => 120 | _ => 210)
  | _ => none

/-- The energy of a digest of `n` bytes at FAST; that of EFFICIENT R38 gives only roughly. -/
def digestNj (func order n : Nat) (eff : Bool) : Option Nat :=
  if eff then none else (digestPj func order).map fun p => roundDiv (p * n) 10000

/-- Nanoseconds of an SLH-DSA operation (R187): by ALG code, signing under PAN and CELL, verification under PAN and CELL. -/
def slhNs (alg : Nat) (sign pan : Bool) : Nat :=
  let (a, b, c, d) : Nat × Nat × Nat × Nat := match alg with
    | 0x51 => (1450000, 2900000, 1400, 2800) | 0x52 => (72000, 145000, 4000, 8000)
    | 0x53 => (2500000, 5000000, 2000, 4000) | 0x54 => (112000, 224000, 5800, 11600)
    | 0x55 => (2170000, 4350000, 2900, 5800) | 0x56 => (228000, 456000, 5900, 11900)
    | 0x57 => (739000, 8800000, 710, 8400) | 0x58 => (37000, 440000, 2000, 24400)
    | 0x59 => (1280000, 15200000, 1000, 12000) | 0x5A => (57000, 680000, 3000, 35200)
    | 0x5B => (1110000, 13200000, 1500, 17600) | _ => (116000, 1380000, 3000, 36000)
  if sign then if pan then a else b else if pan then c else d

/-- The energy of an SLH-DSA operation (R187): the latency at 1.0 W for SHAKE sets under PAN, 0.40 W for SHA2 sets under PAN and 0.20 W
under CELL, within ten per cent. -/
def slhNj (alg : Nat) (sign pan eff : Bool) (raw : Nat) : Nat :=
  within10 (atPoint eff (roundDiv (slhNs alg sign pan * (if !pan then 20 else if alg ≤ 0x56 then 40 else 100)) 100)) raw

/-- Energy of a symmetric mode in tenths of a pJ per bit, serial or not, checked or not, by the ALG code of the key (R247); none where
the table has no figure. -/
def symPj (mode alg : Nat) (serial checked : Bool) (n : Nat) : Option Nat :=
  if mode = 0x03 then some (if checked then 26 else 14)
  else if mode = 0x31 ∨ mode = 0x32 then if alg = 0xE3 ∧ n = 32 then some 0 else none
  else if serial then if alg = 0xE3 then some (if checked then 24 else 13) else none
  else if alg = 0xE3 ∨ alg = 0xE5 then some (if checked then 21 else 12)
  else if alg = 0xE1 ∨ alg = 0xE4 then some (if checked then 16 else 9)
  else none

/-- The energy of a symmetric job of `n` bytes at FAST: 4 nJ and the figure per bit (R247). -/
def symNj (mode alg : Nat) (serial checked eff : Bool) (n : Nat) : Option Nat :=
  if eff then none else (symPj mode alg serial checked n).map fun p => 4 + roundDiv (p * 8 * n) 10000

/-- The figure holds for a command: no blob was read or wrapped for it, and it did not yield. -/
def Cmd.figure (c : Cmd) (nj : Option Nat) : Option Nat :=
  if c.prog.missed || c.prog.resumed || (c.job.opcode / 256 == 3 && bit c.job.param.toNat 14) then none else nj

/-- A result with the energy of its operation. -/
def Res.withNj (nj : Option Nat) (r : Res) : Res := { r with nj := nj }

end Sys2Proof.Machine
end

