-- ==== Sys2Proof/Machine/Blobs.lean ====
section
/-! DEFINITION. Wrapped blobs (R330-R332, R338, R340-R343) and the checks every job of a key passes. -/

namespace Sys2Proof.Machine

/-- KEK_root (R331): a function of the owner seed, the epoch and the battery key. -/
def kekRoot (s : State) : List Byte :=
  stdN 32 "KMAC256 EXM-ROOT-KEK-1" [s.vault.ownerSeed.getD [], le 8 s.vault.epoch, s.pkg.batteryKey.getD []]

/-- KEK_i (R332); a domain root never written is 32 zero bytes. -/
def kekOf (s : State) (i : Nat) : List Byte :=
  stdN 32 "KMAC256 EXM-INST-KEK-1" [kekRoot s, ascii "EXM-INST", le 8 i, tget (fun _ => zeros 32) s.vault.domainRoot i]

/-- The 64 bytes of a policy (R338). -/
def Policy.bytes (p : Policy) : List Byte :=
  le 4 p.attr ++ le 4 p.uses ++ le 8 p.validFrom ++ le 8 p.validTo ++ le 8 p.usageLimit ++ le 1 p.minOrder ++
    le 1 p.reserveLog2 ++ zeros 6 ++ le 8 p.keyId ++ zeros 16

/-- A policy from its 64 bytes (R338). -/
def readPolicy (b : List Byte) : Policy :=
  { attr := fld b 0 4, uses := fld b 4 4, validFrom := fld b 8 8, validTo := fld b 0x10 8, usageLimit := fld b 0x18 8,
    minOrder := fld b 0x20 1, reserveLog2 := fld b 0x21 1, keyId := fld b 0x28 8 }

/-- The clear header of a blob (R340). -/
structure BlobHdr where
  cls : Nat
  alg : Nat
  inst : Nat
  form : Nat
  epoch : Nat
  keyLen : Nat
  domainVer : Nat
  stateId : Nat
  keyId : Nat
deriving DecidableEq, Repr

/-- The 32 bytes of a clear header (R340). -/
def BlobHdr.bytes (h : BlobHdr) : List Byte :=
  ascii "EXMBLOB1" ++ le 1 1 ++ le 1 h.cls ++ le 1 h.alg ++ le 1 h.inst ++ le 1 h.form ++ le 1 h.epoch ++ le 2 h.keyLen ++
    le 4 h.domainVer ++ le 4 h.stateId ++ le 8 h.keyId

/-- A clear header from a blob (R340). -/
def readHdr (b : List Byte) : BlobHdr :=
  { cls := fld b 9 1, alg := fld b 10 1, inst := fld b 11 1, form := fld b 12 1, epoch := fld b 13 1,
    keyLen := fld b 14 2, domainVer := fld b 16 4, stateId := fld b 20 4, keyId := fld b 24 8 }

/-- PUB_DIGEST: SHA3-256 of the public key, zero for classes 2 and 3 (R340). -/
def pubDigest (cls : Nat) (pub : List Byte) : List Byte := if 2 ≤ cls then zeros 32 else sha3 pub

/-- Wrap key material as a blob of instance `i` (R340). -/
def wrapBlob (s : State) (i cls alg form stateId : Nat) (pol : Policy) (secret pub : List Byte) : List Byte :=
  let h : BlobHdr := { cls := cls, alg := alg, inst := i, form := form, epoch := s.vault.epoch,
                       keyLen := secret.length, domainVer := tget (fun _ => 0) s.vault.domainVer i,
                       stateId := stateId, keyId := pol.keyId }
  h.bytes ++ stdN (blobLen secret.length - 32) "AES-256-KWP wrap"
    [kekOf s i, h.bytes ++ pol.bytes ++ pubDigest cls pub ++ secret]

/-- The KWP plaintext of a blob (R340). -/
def unwrapBlob (s : State) (i : Nat) (b : List Byte) : List Byte :=
  stdN (128 + (readHdr b).keyLen) "AES-256-KWP unwrap" [kekOf s i, b.drop 32]

/-- The public key recomputed from private key material of a form (R342). -/
def derivePub (alg form : Nat) (secret : List Byte) : List Byte :=
  let args := [le 1 alg, le 1 form, secret]
  if pubLen alg = 0 then Config.std "public key of key material" args else stdN (pubLen alg) "public key of key material" args

/-- Bytes of the expanded secret key of a lattice code (R138). -/
def latticePrivLen : Nat → Nat := look
  [(0x01, 1632), (0x02, 2400), (0x03, 3168), (0x11, 2560), (0x12, 4032), (0x13, 4896)]

/-- The public key of key material (R342): the material of a class 1 key, the second part of an expanded ML-DSA key, the recomputed
key of any other private key, and nothing for classes 2 and 3. -/
def materialPub (cls alg form : Nat) (m : List Byte) : List Byte :=
  if 2 ≤ cls then []
  else if cls = 1 then m
  else if form = 1 ∧ famOf alg = some .mldsa then m.drop (latticePrivLen alg)
  else derivePub alg form m

/-- Steps 1 and 2 of R343, which run on the clear header before a blob of instance `i` is unwrapped. -/
def blobHead (s : State) (i : Nat) (b : List Byte) : Bool :=
  let h := readHdr b
  slice b 0 8 == ascii "EXMBLOB1" && fld b 8 1 == 1 && h.inst == i &&
    h.epoch == s.vault.epoch && h.domainVer == tget (fun _ => 0) s.vault.domainVer i

/-- The blob is one of a Classic McEliece public key: KEY_LEN cannot hold that key, so the blob holds its digest alone (R340, log 94). -/
def BlobHdr.mcePub (h : BlobHdr) : Bool := h.cls == 1 && famOf h.alg == some .mce

/-- The checks of R343 on a blob of instance `i`. A Classic McEliece public key is compared where it is at hand, as `pub`. -/
def blobOk (s : State) (i : Nat) (pub : Option (List Byte)) (b : List Byte) : Bool :=
  let h := readHdr b
  let pt := unwrapBlob s i b
  blobHead s i b && b.length == blobLen h.keyLen && Config.stdOk "AES-256-KWP integrity" [kekOf s i, b.drop 32] &&
    pt.take 32 == b.take 32 &&
    (h.stateId == 0 || s.vault.lms.any fun l => l.id == h.stateId) &&
    (if h.mcePub then pub.all fun x => slice pt 0x60 32 == sha3 x
     else slice pt 0x60 32 == pubDigest h.cls (materialPub h.cls h.alg h.form (pt.drop 128)))

/-- The next KEY_ID (R341). -/
def takeKeyId (s : State) : Nat × State :=
  (s.vault.nextKeyId, { s with vault := { s.vault with nextKeyId := s.vault.nextKeyId + 1 } })

/-- The policy of a K_WRAP output of the key `k`, or of a job that names none (R341). -/
def wrapPolicy (k : Option KeyRec) (keyId : Nat) : Policy :=
  match k with
  | some k => { attr := k.pol.attr &&& 3, uses := 0x980, validFrom := k.pol.validFrom, validTo := k.pol.validTo,
                minOrder := k.pol.minOrder, keyId := keyId }
  | none => { attr := 1, uses := 0x980, keyId := keyId }

/-- The shared key as operand 2 receives it: plaintext, or the class 3 GENERIC blob of K_WRAP (R146, R341). -/
def sharedOut (wrap : Bool) (i : Nat) (k : Option KeyRec) (ss : List Byte) (s : State) : List Byte × State :=
  if wrap then
    let (id, s1) := takeKeyId s
    (wrapBlob s1 i 3 0xE8 1 0 (wrapPolicy k id) ss [], s1)
  else (ss, s)

/-! ### Checks -/

/-- The first status of a list of checks. -/
def firstBad : List (Option Status) → Option Status
  | [] => none
  | some st :: _ => some st
  | none :: r => firstBad r

/-- A check: the status where the condition fails. -/
def check (ok : Bool) (st : Status) : Option Status := if ok then none else some st

/-- Bits of the ALG_DISABLE map of R476 that an ALG code stands under. -/
def algBits (alg : Nat) : List Nat :=
  match famOf alg with
  | some .mlkem => [0] | some .mldsa => [1] | some .fndsa => [2] | some .comp => [1, 8] | some .hyb => [0, 8]
  | some .slhdsa => [3] | some .lms => [4] | some .xmss => [4] | some .mce => [5] | some .hqc => [6] | some .rsa => [7]
  | some .ecdsa => [8] | some .eddsa => [8] | some .ecdh => [8] | _ => []

/-- The ALG code is enabled by fuse (R476). -/
def algEnabled (s : State) (alg : Nat) : Bool := (algBits alg).all fun n => !bit s.pkg.fuses.algDisable n

/-- FAMILY_MASK (R44): bit 0x10 also falls with bit 10 of ALG_DISABLE (R476). -/
def familyOn (s : State) (f : Nat) : Bool :=
  bit s.pkg.fuses.familyMask f && !(f == 0x10 && bit s.pkg.fuses.algDisable 10)

/-- A KEM verb with K_WRAP creates a blob, which needs an owner seed (R146, R333). -/
def wrapOk (s : State) (j : Job) : Option Status :=
  check (!(j.opcode / 256 == 3 && bit j.param.toNat 14) || s.vault.ownerSeed.isSome) .lifecycle

/-- The opcode's family is enabled by fuse and firmware, and so is its algorithm (R44, R143 step 3, R476). -/
def famEnabled (s : State) (j : Job) : Option Status :=
  let f := j.opcode / 256
  check (familyOn s f && (!(f == 3 || f == 4) || algEnabled s (bits j.param.toNat 7 0))) .algDisabled

/-- A PARAM bit. -/
def Job.pbit (j : Job) (n : Nat) : Bool := bit j.param.toNat n

/-- ALG of PARAM (R138). -/
def Job.alg (j : Job) : Nat := bits j.param.toNat 7 0

/-- The PARAM bits of `mask` are zero. -/
def paramZero (j : Job) (mask : Nat) : Option Status := check (j.param.toNat &&& mask == 0) .malformed

/-- The handle checks of R52 for a verb that takes a key of class in `cls` and algorithm that `alg` accepts, with the
use bit `use` and what else the policy must allow. -/
def keyChecks (s : State) (j : Job) (cls : List Nat) (alg : Nat → Bool) (use : Nat) (pol : KeyRec → Bool) :
    Option Status :=
  match checkHandle s j fun k => cls.contains k.cls && alg k.alg with
  | some st => some st
  | none => match s.keyOf j with
    | none => some .badHandle
    | some k => check (k.use use && pol k) .keyPolicy

/-- The key a job names, where it names one. -/
def jobKey (s : State) (j : Job) : Option KeyRec := if j.handle = nullHandle then none else s.keyOf j

/-- Step 7 of R143: usage limit and validity period of the key, if one is named; a use is counted (R544). -/
def useKey (c : Cmd) (n lim : Nat) (s : State) : Option Status × State :=
  match jobKey s c.job with
  | none => (none, s)
  | some k =>
    let (ok, s1) := countUse c k n lim s
    if !ok then (some .keyLimit, s1)
    else if inPeriod k.pol c.job.acceptTick then (none, s1)
    else (some .keyPeriod, s)

/-- The key material a job works with: that of its handle, once it is on the shelf, or none for a job that names no
key. `k` continues with the value that the shares in the cell combine to (R116) and with the public part. -/
def withKey (c : Cmd) (s : State) (k : List Byte → List Byte → State → State × Option Res) : State × Option Res :=
  match jobKey s c.job with
  | none => k [] [] s
  | some key => match needKey c key s with
    | (.here e, s1) =>
      let (x, s2) := e.toCell c.prog.order s1
      k x.secret x.pub s2
    | (.wait, s1) => (s1, none)
    | (.bad st, s1) => (s1, some (stRes st))

/-- Continue with `n` random bytes of the region, or wait for them. -/
def withRandom (n : Nat) (c : Cmd) (s : State) (k : List Byte → State → State × Option Res) : State × Option Res :=
  match takeRandom n c s with
  | (some b, s1) => k b s1
  | (none, s1) => (s1, none)

/-- Draw `n` bytes of the region under R321, then go on with `k` random bytes; an operation that R321 does not list
draws none from the reservoir, and its random bytes are a free value. -/
def withDraw (n k : Nat) (c : Cmd) (s : State) (f : List Byte → State → State × Option Res) : State × Option Res :=
  withRandom n c s fun b s =>
    let (d, s1) := drawBytes k s
    f (b ++ d) s1

/-- Answer the first failing check, or go on. -/
def orBad (l : List (Option Status)) (s : State) (k : State → State × Option Res) : State × Option Res :=
  match firstBad l with
  | some st => (s, some (stRes st))
  | none => k s

/-- Count the key's use after the checks of the verb (R544); a failing limit or period ends the job. -/
def countThen (c : Cmd) (n lim : Nat) (s : State) (k : State → State × Option Res) : State × Option Res :=
  match useKey c n lim s with
  | (some st, s1) => (s1, some (stRes st))
  | (none, s1) => k s1

/-- The usage limit of a key that is not of ALG 0xE1 to 0xE6: its USAGE_LIMIT (R544). -/
def keyLimit (s : State) (j : Job) : Nat := ((jobKey s j).map (·.pol.usageLimit)).getD 0

/-! ### RSA public keys (R210, R215) -/

/-- A DER length and what follows it. -/
def derLen (b : List Byte) : Option (Nat × List Byte) :=
  let n := beAt b 0 1
  if b.isEmpty then none
  else if n < 128 then some (n, b.drop 1)
  else if n = 0x81 ∧ 128 ≤ beAt b 1 1 then some (beAt b 1 1, b.drop 2)
  else if n = 0x82 ∧ 256 ≤ beAt b 1 2 then some (beAt b 1 2, b.drop 3)
  else none

/-- The contents of a DER element with a tag, and what follows it. -/
def derElem (tag : Nat) (b : List Byte) : Option (List Byte × List Byte) :=
  if beAt b 0 1 ≠ tag then none
  else match derLen (b.drop 1) with
    | some (n, r) => if n ≤ r.length then some (r.take n, r.drop n) else none
    | none => none

/-- A positive DER INTEGER in its shortest form, and what follows it. -/
def derUint (b : List Byte) : Option (Nat × List Byte) :=
  match derElem 2 b with
  | some (x, r) =>
    if x.isEmpty || decide (128 ≤ beAt x 0 1) || (decide (1 < x.length) && beAt x 0 1 == 0 && decide (beAt x 1 1 < 128)) then none
    else some (beAt x 0 x.length, r)
  | none => none

/-- Modulus and exponent of a DER RSAPublicKey of RFC 8017 (R210). -/
def derRsa (b : List Byte) : Option (Nat × Nat) :=
  match derElem 0x30 b with
  | some (x, []) => match derUint x with
    | some (n, r) => match derUint r with
      | some (e, []) => some (n, e)
      | _ => none
    | none => none
  | _ => none

/-- Bits of a number. -/
def bitLen (n : Nat) : Nat := if n = 0 then 0 else Nat.log2 n + 1

/-- Modulus bits of a DER key; 0 where it does not decode. -/
def derBits (b : List Byte) : Nat := ((derRsa b).map fun x => bitLen x.1).getD 0

/-- A public exponent of R215. -/
def exponentOk (e : Nat) : Bool := e % 2 == 1 && decide (3 ≤ e) && decide (bitLen e ≤ 256)

/-! ### Slots -/

/-- Modulus bits of the key a job works with: the record of its handle, or the DER key of operand 3. -/
def rsaSize (s : State) (j : Job) : Nat :=
  match jobKey s j with
  | some k => k.size
  | none => derBits (j.operand 3)

/-- The slot need of a number-cell job, in bytes of working set (R226-R228); the classical part of a composite
or hybrid job needs that of its curve (R164, log 84). -/
def slotNeed (s : State) (j : Job) : Nat :=
  let k := rsaSize s j
  let mce8 := decide (0xC3 ≤ j.alg)
  let hqc := (j.alg - 0xD0) * 16384
  match j.opcode with
  | 0x0201 =>
    match famOf j.alg with
    | some .rsa => 2 * fld j.args 0x40 2
    | some .mce => (if mce8 then 1728 else 1344) * 1024
    | some .hqc => hqc
    | _ => if j.unitKind = some .number ∨ j.paired then 1024 else 0
  | 0x0305 => k / 2
  | 0x040C => k / 2
  | 0x0306 => k * 5 / 4
  | 0x040B => k * 5 / 4
  | 0x0308 => 2048
  | 0x0309 => 16384
  | 0x030A => hqc
  | 0x030B => hqc
  | 0x1001 => match s.routine? (bits j.param.toNat 9 0) with
    | some (_, _, r) => inputLen j.frags + ((j.frags.filter fun f => f.kind == .output).map (·.len)).sum +
        1024 * (r.scratchKib + r.saveKib)
    | none => 0
  | _ => if j.unitKind = some .number ∨ j.paired then 1024 else 0

/-- Operand slot length of a pan, in bytes (R199). -/
def State.slotLen (s : State) (r p : Nat) : Nat := 64 * (s.pan r p).slots.len64

/-- The need rounded up to whole slots, in bytes. -/
def slotBytes (s : State) (r p : Nat) (j : Job) : Nat :=
  let l := s.slotLen r p
  (slotNeed s j + l - 1) / l * l

/-- Step 9 of R214: the slot need against SLOT_KIB (R202), in slots of the pan whose number cell runs the job. -/
def slotQuota (s : State) (c : Cmd) : Option Status :=
  check (slotNeed s c.job == 0 || c.prog.pair.again == some false ||
    decide (slotBytes s c.rgn ((c.prog.pair.cell.map (·.1)).getD c.pan) c.job ≤ 1024 * (s.inst c.job.inst).cfg.slotKib)) .quota

end Sys2Proof.Machine
end

