-- ==== Sys2Proof/Machine/Random.lean ====
section
/-! DEFINITION. Randomness (R314-R329) and the mask-stream generators (R118-R122): windows, seeds, the expander and the
reservoir, borrowed seeds, and the RNG verbs. -/

namespace Sys2Proof.Machine

/-- Change the randomness of a region. -/
def State.modRng (s : State) (r : Nat) (f : Rng → Rng) : State := s.modRegion r fun g => { g with rng := f g.rng }

/-- Change the mask-stream generator of a pan. -/
def State.modMsg (s : State) (r p : Nat) (f : Msg → Msg) : State := s.modPan r p fun x => { x with msg := f x.msg }

/-- The lowest-numbered region other than `r` whose STATE is RUNNING (R325). -/
def donorFor (s : State) (r : Nat) : Option Nat :=
  regionNums.find? fun q => q != r && s.enabled q && (s.region q).rng.state == .running

/-- Ask for a borrowed seed (R325). -/
def askSeed (r : Nat) (s : State) : State :=
  s.modRng r fun g => { g with asked := true, donor := donorFor s r, wrapped := false, requestNo := g.requestNo + 1 }

/-- The expander is seeded afresh (R317). -/
def Rng.reseed (g : Rng) (t : Nat) : Rng := { g with reseeds := inc32 g.reseeds, since := 0, seedTick := t, stopped := false }

/-- A lasting fault of the source (R326): CONTAIN with BORROWED seeds, or with the strict option the region is diked. The
record of the CONTAIN quarantines no unit: the region goes on serving (log 20). -/
def rngLastingBy (injected : Bool) (r : Nat) (s : State) : State :=
  let x : Raise := { on := regionUnit r .randomness, cause := .noiseSource, injected := injected }
  if s.pkg.fuses.rngStrict then raiseFence x s
  else
    ((record x .contain s).2).modRng r fun g =>
      { g with restarting := false, lasting := true, state := .borrowed, stopped := g.stopped || g.state == .hold }

/-- A restart that fails, or too many that pass (R326). -/
def rngLasting (r : Nat) (s : State) : State := rngLastingBy false r s

/-! ### Windows and seeds -/

/-- A health-test failure of a region whose source is neither lasting nor in its restart: HOLD, a seed is asked for, the source
restarts (R324). -/
def healthFailed (r : Nat) (s : State) : State :=
  let s1 := s.modRng r fun g => { g with state := .hold, healthFail := true, restarting := true, samples := 0 }
  if (s.region r).rng.asked then s1 else askSeed r s1

/-- A window that fails during start-up: at most three restarts, then the region goes FAILED, powered down; jobs it had acknowledged
are lost to it, and the REGN.RETURN that waits for it ends (R322, R415, R419, R420). -/
def startFailed (r : Nat) (s : State) : State :=
  if 3 ≤ (s.region r).rng.startFails then
    let s1 := s.modRegion r fun g =>
      let w := wipeRegion g
      { w with rng := { w.rng with state := .failed }, svc := { w.svc with outByFault := true, outByCmd := false } }
    let s2 := (jobsOn s1 (Cmd.ackedBy r)).foldl (fun s j => loseJob j s) (setRegionState r .failed false s1)
    endWaiting 0x0B02 r (stRes .abortedFault) (uncheck r (unsend r s2))
  else s.modRng r fun g => { g with startFails := g.startFails + 1, samples := 0, startup := false, ready := false }

/-- The oscillators of region `r` run (R314): it has power, is not diked, and is not DORMANT as a whole. -/
def State.samples (s : State) (r : Nat) : Bool :=
  s.enabled r && s.pkg.mode.mainPower && !s.pkg.halted &&
    match (s.region r).svc.state with
    | .diked => false | .failed => false | .absent => false
    | .inService => panNums.any fun p => (s.pan r p).svc.pwr != .dormant
    | .draining => panNums.any fun p => (s.pan r p).svc.pwr != .dormant
    | _ => true

/-- NOISE_WINDOW_COMPLETE (R315): a window of region `r` ends; `rct` and `apt` say which tests failed. The samples of the startup window
are discarded (R322). -/
def execNoiseWindowComplete (r : Nat) (rct apt : Bool) (s : State) : Host.Outcome State Fault Refusal :=
  .next (
    if !s.samples r then s
    else
      let g := (s.region r).rng
      if rct || apt then
        let s1 := s.modRng r fun g => { g with rct := if rct then inc32 g.rct else g.rct,
                                               apt := if apt then inc32 g.apt else g.apt }
        match g.state with
        | .starting => startFailed r s1
        | .failed => s1
        | _ => if g.lasting || g.restarting then s1 else healthFailed r s1
      else if g.lasting || g.restarting || g.state == .failed then s
      else if g.state == .starting && !g.startup then s.modRng r fun g => { g with startup := true }
      else s.modRng r fun g => { g with samples := g.samples + 1024 })

/-- SEED_CONDITIONED (R316): 1,280 released samples give a seed: the first of a region that holds after a passed restart,
which returns it to RUNNING, else the one collected in advance, else the spare. -/
def execSeedConditioned (r : Nat) (s : State) : Host.Outcome State Fault Refusal :=
  .next (
    let g := (s.region r).rng
    if !s.enabled r || decide (g.samples < 1280) || g.lasting || g.state == .failed then s
    else s.modRng r fun g =>
      let g1 := { g with samples := g.samples - 1280 }
      match g.state with
      | .running => if g.ready then { g1 with spare := true } else { g1 with ready := true }
      | .starting => { g1 with ready := true }
      | _ =>
        let g2 := g1.reseed s.tick
        { g2 with state := .running, asked := false, donor := none, wrapped := false })

/-- RESEED_DUE (R317, R326): 64 MiB of output or 100 ms since the last seed. A BORROWED region without its borrowed seed
stops its expander until it arrives. -/
def execReseedDue (r : Nat) (s : State) : Host.Outcome State Fault Refusal :=
  .next (
    let g := (s.region r).rng
    if !(decide (67108864 ≤ g.since) || decide (g.seedTick + 100000000 ≤ s.tick)) || !s.enabled r then s
    else match g.state with
      | .running => if g.ready then s.modRng r fun g => { g.reseed s.tick with ready := false } else s
      | .borrowed =>
        if g.ready then s.modRng r fun g => { g.reseed s.tick with ready := false }
        else
          let s1 := s.modRng r fun g => { g with stopped := true }
          if g.asked then s1 else askSeed r s1
      | _ => s)

/-- EXPANDER_GENERATE (R317): a 4 KiB request while the reservoir holds less than 60 KiB. -/
def execExpanderGenerate (r : Nat) (s : State) : Host.Outcome State Fault Refusal :=
  .next (
    let g := (s.region r).rng
    if s.enabled r && (g.state == .running || (g.state == .borrowed && !g.stopped)) && decide (g.reservoir < 61440) &&
        decide (g.since < 67108864) && decide (s.tick < g.seedTick + 100000000) then
      s.modRng r fun g => { g with reservoir := min 65536 (g.reservoir + 4096), since := g.since + 4096 }
    else s)

/-! ### Draws -/

/-- Jobs of region `r` that wait for random bytes, in the order of R319: by class, then by acceptance. -/
def drawWaiters (s : State) (r : Nat) : List Cmd :=
  let ws := s.cmds.filter fun c => c.prog.region == some r && c.prog.wait == some .random
  [0, 1, 2].flatMap fun k => ws.filter fun c => c.effClass == k

/-- RANDOM_DRAW_SERVED (R319): the waiting draw at the head is served contiguously, unless a mask-stream seed waits, a
known-answer test runs, or the reservoir does not hold it. -/
def execRandomDrawServed (r : Nat) (s : State) : Host.Outcome State Fault Refusal :=
  .next (
    match drawWaiters s r with
    | [] => s
    | c :: _ =>
      let g := (s.region r).rng
      if !(seedWaiters s r).isEmpty || g.test || decide (g.reservoir < c.prog.need) ||
          decide (c.job.acceptTick + g.waitLimit * 1000000 ≤ s.tick) then s
      else
        (s.modRng r fun g => { g with reservoir := g.reservoir - c.prog.need,
                                      waitNs := satAdd max64 g.waitNs (s.tick - c.prog.since) }).modProg c.job.id
          fun p => { p with granted := p.need, wait := none })

/-- The command waits for randomness, for a mask seed, for KEK_root or for a shelf load that KEK_root holds (R120, R320,
R333). -/
def awaitsRandom (s : State) (c : Cmd) : Bool :=
  c.prog.wait == some .random || c.prog.wait == some .mask ||
    (!s.vault.rootReady && (c.prog.wait == some .shelf || (s.heldForRoot c && c.prog.phase != .returned)))

/-- RANDOM_DRAW_TIMEOUT (R320, R120, R333): command `j` still waits at its acceptance tick plus RNG_WAIT_LIMIT. -/
def execRandomDrawTimeout (j : Nat) (s : State) : Host.Outcome State Fault Refusal :=
  .next (
    match s.cmd? j with
    | none => s
    | some c =>
      let r := c.rgn
      let g := (s.region r).rng
      if awaitsRandom s c && decide (c.job.acceptTick + g.waitLimit * 1000000 ≤ s.tick) then
        fail j .entropyUnavailable (s.modRng r fun g =>
          { g with timeouts := inc32 g.timeouts,
                   waitNs := if c.prog.wait = some .random then satAdd max64 g.waitNs (s.tick - c.prog.since)
                             else g.waitNs })
      else s)

/-! ### Borrowing -/

/-- DONOR_SEED_WRAP (R325): the donor that region `asker` asked wraps its spare seed with the request number. -/
def execDonorSeedWrap (asker : Nat) (s : State) : Host.Outcome State Fault Refusal :=
  .next (
    let g := (s.region asker).rng
    match g.donor with
    | some d =>
      if s.vault.starKey && g.asked && !g.wrapped && (s.region d).rng.spare && (s.region d).rng.state == .running then
        (s.modRng d fun x => { x with spare := false, donated := inc32 x.donated }).modRng asker
          fun x => { x with wrapped := true }
      else s
    | none => s)

/-- BORROWED_SEED_ARRIVAL (R325): the wrapped seed reaches region `r`; `ok` says whether it unwraps with the request
number asked. A seed that fails is discarded and counted under NOTE, and the next donor is asked. -/
def execBorrowedSeedArrival (r : Nat) (ok : Bool) (s : State) : Host.Outcome State Fault Refusal :=
  .next (
    let g := (s.region r).rng
    match g.donor with
    | none => s
    | some d =>
      if !g.asked || !g.wrapped then s
      else if !ok then
        let s1 := raiseNote { on := regionUnit r .randomness, cause := .transferCheck } s
        s1.modRng r fun g =>
          { g with wrapped := false, requestNo := g.requestNo + 1,
                   donor := regionNums.find? fun q => q != r && decide (d < q) && s.enabled q &&
                     (s.region q).rng.state == .running }
      else
        let s1 := journalEvent 6 r d (some r) 0 s
        s1.modRng r fun g =>
          let g1 := { g with borrowedN := inc32 g.borrowedN, asked := false, donor := none, wrapped := false }
          match g.state with
          | .hold => { g1.reseed s.tick with state := .borrowed }
          | _ => if g.stopped then g1.reseed s.tick else { g1 with ready := true })

/-- SEED_REQUEST_RETRY (R325): a region with no donor, or whose donor no longer runs, asks again. -/
def execSeedRequestRetry (r : Nat) (s : State) : Host.Outcome State Fault Refusal :=
  .next (
    let g := (s.region r).rng
    let gone := match g.donor with
      | none => true
      | some d => !g.wrapped && !(s.enabled d && (s.region d).rng.state == .running)
    if g.asked && gone then askSeed r s else s)

/-- BORROW_ADVANCE_DUE (R326): a BORROWED region asks in advance at 48 MiB of output or 75 ms after the last seed. -/
def execBorrowAdvanceDue (r : Nat) (s : State) : Host.Outcome State Fault Refusal :=
  .next (
    let g := (s.region r).rng
    if g.state == .borrowed && g.lasting && !g.asked && !g.ready &&
        (decide (50331648 ≤ g.since) || decide (g.seedTick + 75000000 ≤ s.tick)) then askSeed r s
    else s)

/-- SOURCE_RESTART_DONE (R326): a pass marks the failure transient, a fourth transient within 60 s, or a failure,
lasting. -/
def execSourceRestartDone (r : Nat) (pass : Bool) (s : State) : Host.Outcome State Fault Refusal :=
  .next (
    let g := (s.region r).rng
    if !g.restarting then s
    else
      let recent := g.transients.filter fun t => decide (s.tick < t + 60000000000)
      if pass && decide (recent.length < 3) then
        s.modRng r fun g => { g with restarting := false, samples := 0, transients := recent ++ [s.tick] }
      else rngLasting r s)

/-! ### Start-up and mask streams -/

/-- Jobs of region `r` that wait for mask bytes go on (R119, R120). -/
def wakeMasked (r : Nat) (s : State) : State :=
  { s with cmds := s.cmds.map fun c =>
      if c.prog.region == some r && c.prog.wait == some .mask then { c with prog := { c.prog with wait := none } } else c }

/-- RNG_STARTUP_COMPLETE (R322): with the first seed conditioned the expander is instantiated, the first mask-stream seeds are
delivered, and the reservoir serves. In a region that is in service already a DORMANT pan takes its seed as it wakes, and a generator out
of use stays so (R120, R122). -/
def execRngStartupComplete (r : Nat) (s : State) : Host.Outcome State Fault Refusal :=
  .next (
    let x := (s.region r).svc.state
    if s.enabled r && !(s.pkg.zeroized && x == .inService) && (s.region r).rng.state == .starting && (s.region r).rng.ready && (x == .loading || x == .rejoining || x == .inService ||
        x == .testing) then
      let gets := panNums.filter fun p => x != .inService || (!(s.pan r p).msg.fault && (s.pan r p).svc.pwr != .dormant)
      let s1 := s.modRng r fun g =>
        { g with state := .running, reservoir := 4096 - 48 * gets.length, since := 4096, seedTick := s.tick, ready := false,
                 startFails := 0, startup := false, lasting := false, stopped := false }
      wakeMasked r (gets.foldl (fun s p => s.modMsg r p fun m =>
        { m with seeded := true, waitSeed := false, fault := false, used := 0, asked := false,
                 reseeds := inc32 m.reseeds }) s1)
    else s)

/-- A mask-stream seed reaches a pan (R119, R319): 48 bytes of the reservoir, pan 0 first. -/
def giveSeed (r p : Nat) (s : State) : State :=
  if decide (48 ≤ (s.region r).rng.reservoir) && (seedWaiters s r).head? == some p then
    let s1 := s.modRng r fun g => { g with reservoir := g.reservoir - 48 }
    wakeMasked r (s1.modMsg r p fun m =>
      { m with seeded := true, waitSeed := false, used := 0, asked := false, reseeds := inc32 m.reseeds })
  else s

/-- MASK_SEED_ARRIVAL (R119). -/
def execMaskSeedArrival (r p : Nat) (s : State) : Host.Outcome State Fault Refusal := .next (giveSeed r p s)

/-- The job takes mask bytes: a secret-bearing lattice job or an encapsulation (R114, R122). -/
def Job.masks (j : Job) : Bool :=
  [0x0301, 0x0302, 0x0303, 0x0304, 0x0401, 0x0404].contains j.opcode ||
    (j.opcode == 0x0201 && j.unitKind == some .lattice)

/-- A lockstep fault of a pan's mask generator, found by it or injected (R122): a RETRY fault; the jobs that drew its output since the
last matching comparison are re-run on another pan, and the generator reseeds. A running job has drawn, but for one that waits for the
generator's seed and got nothing yet (DEDUCED, log 82). -/
def maskFault (injected : Bool) (r p : Nat) (s : State) : State :=
  let js := jobsOn s fun c => c.prog.region == some r && (c.job.masks || s.kmacMasked c.job) && c.prog.phase == .running &&
    (c.prog.wait != some .mask || decide (0 < c.prog.masked)) && c.prog.unit.any fun u => u.1 == .lattice && u.2.1 == p
  let (x, s1) := record { on := panUnit r p, cause := .lockstep, jseq := s.soleJob js, injected := injected } .retry s
  let s2 := match x with
    | some x => startTest x s1
    | none => s1
  if s2.pkg.halted then s2
  else js.foldl (fun s j => retryJobOff true .abortedFault j s)
    (s2.modMsg r p fun m => { m with seeded := false, waitSeed := false, asked := true, used := 0 })

/-- MASK_STREAM_LOCKSTEP_FAULT (R122). -/
def execMaskStreamLockstepFault (r p : Nat) (s : State) : Host.Outcome State Fault Refusal :=
  .next (if !s.enabled r || decide (4 ≤ p) then s else maskFault false r p s)

/-! ### The RNG verbs -/

/-- RNG.GENERATE (R327). -/
def rngGenerate (c : Cmd) (s : State) : State × Option Res :=
  let j := c.job
  let n := bits j.param.toNat 12 0
  orBad [check (j.param.toNat &&& 0xFFFFE000 == 0 && j.args.isEmpty) .malformed,
      check (decide (1 ≤ n) && decide (n ≤ 4096)) .lengthMismatch, famEnabled s j] s fun s =>
    withRandom n c s fun b s => (s, some (outTo j 1 b))

/-- RNG.KAT (R327, R328): on the test path; a test with host-chosen input wipes the production expander. A region that stays BORROWED
(R326) has its next seed borrowed. -/
def rngKat (c : Cmd) (s : State) : State × Option Res :=
  let j := c.job
  let r := c.rgn
  let i := j.operand 0
  let n := outCapacity j.frags 1
  let expander := j.pbit 3
  orBad [check (j.inst == 0) .notPermitted, check (j.param.toNat &&& 0xFFFFFFF0 == 0 && j.args.isEmpty) .malformed,
      check (if expander then i.length == 48 && decide (16 ≤ n) && decide (n ≤ 4096) && n % 16 == 0
             else decide (1 ≤ i.length) && decide (i.length ≤ 4096)) .lengthMismatch, famEnabled s j] s fun s =>
    let out := if expander then stdN n "CTR_DRBG AES-256 generate" [i] else sha3 i
    (if (s.region r).rng.lasting then
        askSeed r (s.modRng r fun g => { wipeRng g with state := .borrowed, lasting := true, stopped := true })
      else s.modRng r wipeRng, some (outTo j 1 out))

/-- RNG.RAW (R327): raw samples, in FACTORY_TEST. -/
def rngRaw (c : Cmd) (s : State) : State × Option Res :=
  let j := c.job
  let n := outCapacity j.frags 1
  orBad [check (j.inst == 0) .notPermitted, check (j.param.toNat &&& 0xFFFFFFF8 == 0 && j.args.isEmpty) .malformed,
      check (s.pkg.mode == .factoryTest) .lifecycle,
      check (decide (1 ≤ n) && decide (n ≤ 1048576)) .lengthMismatch, famEnabled s j] s fun s =>
    let (b, s1) := drawBytes n s
    (s1, some (outTo j 1 b))

/-- The shapes of the RNG verbs (R327). -/
def shapeRng : ShapeFn := fun op param _ =>
  let n := bits param 12 0
  match op with
  | 0x0701 => { outs := [(1, if 1 ≤ n ∧ n ≤ 4096 then some n else none)], req := [1] }
  | 0x0702 => { ins := [0], outs := [(1, if bit param 3 then none else some 32)], req := [0, 1] }
  | _ => { outs := [(1, none)], req := [1] }

/-- RNG.GENERATE (R327). -/
def execRngGenerate (j : Nat) (s : State) : Host.Outcome State Fault Refusal := .next (runVerb 0x0701 j rngGenerate s)
/-- RNG.KAT (R328). -/
def execRngKat (j : Nat) (s : State) : Host.Outcome State Fault Refusal := .next (runVerb 0x0702 j rngKat s)
/-- RNG.RAW (R327). -/
def execRngRaw (j : Nat) (s : State) : Host.Outcome State Fault Refusal := .next (runVerb 0x0703 j rngRaw s)

end Sys2Proof.Machine
end

