-- ==== Sys2Proof/Machine/Symmetric.lean ====
section
/-! DEFINITION. The symmetric verbs (R231-R244): AEAD, ciphers, MACs and key wrap, with the holding pond and the
segmented construction. -/

namespace Sys2Proof.Machine

/-! ### Fields (R236, R237) -/

/-- MODE of PARAM. -/
def Job.mode (j : Job) : Nat := bits j.param.toNat 7 0
/-- TAG_LEN. -/
def Job.tagLen (j : Job) : Nat := fld j.args 0 1
/-- NONCE_LEN. -/
def Job.nonceLen (j : Job) : Nat := fld j.args 1 1
/-- SEG_LOG2. -/
def Job.segLog2 (j : Job) : Nat := fld j.args 2 1
/-- SEG_INDEX. -/
def Job.segIndex (j : Job) : Nat := fld j.args 4 4

/-- The modes of a SYM verb (R235). -/
def symTakes (op m : Nat) : Bool :=
  match op with
  | 0x0601 => decide (1 ≤ m) && decide (m ≤ 3)
  | 0x0602 => decide (1 ≤ m) && decide (m ≤ 3)
  | 0x0603 => decide (0x11 ≤ m) && decide (m ≤ 0x13)
  | 0x0604 => decide (0x11 ≤ m) && decide (m ≤ 0x13)
  | 0x0605 => m == 0x21 || m == 0x22
  | 0x0606 => m == 0x21 || m == 0x22
  | _ => m == 0x31 || m == 0x32

/-- The mode takes a tag. -/
def modeTag (m : Nat) : Bool := within 1 3 m || m == 0x21 || m == 0x22

/-- The mode takes a nonce. -/
def modeNonce (m : Nat) : Bool := within 1 3 m || m == 0x22

/-- The mode can be one segment (R243), and its nonce can be drawn. -/
def modeSeg (m : Nat) : Bool := m == 1 || m == 3

/-- Step 1 of R239. -/
def symStep1 (j : Job) : Option Status :=
  let m := j.mode
  let aead := j.opcode == 0x0601 || j.opcode == 0x0602
  check (j.param.toNat &&& 0xFFFFF000 == 0 && (!j.pbit 9 || (j.opcode == 0x0601 && modeSeg m)) &&
    (!j.pbit 10 || (aead && modeSeg m)) && (!j.pbit 11 || j.pbit 10) &&
    j.args.length == 16 && zero? j.args 3 1 && zero? j.args 8 8 &&
    (modeTag m || j.tagLen == 0) && (modeNonce m || j.nonceLen == 0) &&
    (j.pbit 10 || (j.segLog2 == 0 && j.segIndex == 0)) &&
    !(j.pbit 9 && j.pbit 10 && j.segIndex != 0)) .malformed

/-- TAG_LEN permitted for the mode (R237). -/
def tagOk (j : Job) : Bool :=
  let t := j.tagLen
  if j.pbit 10 then t == 16
  else match j.mode with
    | 0x01 => decide (12 ≤ t) && decide (t ≤ 16)
    | 0x02 => [4, 6, 8, 10, 12, 14, 16].contains t
    | 0x03 => t == 16
    | 0x21 => decide (8 ≤ t) && decide (t ≤ 16)
    | 0x22 => decide (8 ≤ t) && decide (t ≤ 16)
    | _ => true

/-- NONCE_LEN permitted for the mode (R237). -/
def nonceOk (j : Job) : Bool :=
  match j.mode with
  | 0x02 => decide (7 ≤ j.nonceLen) && decide (j.nonceLen ≤ 13)
  | m => !modeNonce m || j.nonceLen == 12

/-- ALG of the key a job names. -/
def keyAlg (s : State) (j : Job) : Nat := ((jobKey s j).map (·.alg)).getD 0

/-- Step 2 of R239. -/
def symStep2 (s : State) (j : Job) : Option Status :=
  check (symTakes j.opcode j.mode && tagOk j && nonceOk j &&
    (!j.pbit 10 || (decide (12 ≤ j.segLog2) && decide (j.segLog2 ≤ 18))) &&
    (j.mode != 0x13 || keyAlg s j == 0xE4 || keyAlg s j == 0xE5)) .paramUnsupported

/-- Bytes of the data operand. -/
def symData (j : Job) : Nat := (j.operand 0).length

/-- SEG lengths: every segment but the last is exactly S bytes, the last 1 to S, or 0 when the message is empty
(R243). -/
def segOk (j : Job) : Bool :=
  let n := symData j
  let sz := 2 ^ j.segLog2
  if j.pbit 11 then decide (n ≤ sz) && (decide (1 ≤ n) || j.segIndex == 0) else n == sz

/-- Step 5 of R239. -/
def symStep5 (j : Job) : Option Status :=
  let l (n : Nat) : Nat := (j.operand n).length
  let d := symData j
  let extra := if j.opcode = 0x0608 then 8 else 0
  check ((j.pbit 9 || !modeNonce j.mode || l 3 == j.nonceLen) &&
    (!(j.opcode == 0x0602 || j.opcode == 0x0606) || l 1 == j.tagLen) &&
    (!(j.opcode == 0x0603 || j.opcode == 0x0604) || l 3 == 16) && decide (l 4 ≤ 65536) &&
    (j.mode != 0x12 || d % 16 == 0) && (j.mode != 0x13 || decide (16 ≤ d)) &&
    (j.mode != 0x31 || (decide (16 + extra ≤ d) && decide (d ≤ 4096 + extra) && d % 8 == 0)) &&
    (j.mode != 0x32 || (decide (1 + extra ≤ d) && decide (d ≤ 4096 + extra))) && (!j.pbit 10 || segOk j)) .lengthMismatch

/-- Step 6 of R239: the low 32 bits of a CTR counter block, big-endian, do not wrap. -/
def symStep6 (j : Job) : Option Status :=
  let start := unle ((slice (j.operand 3) 12 4).reverse)
  check (j.mode != 0x11 || decide (start + (symData j + 15) / 16 ≤ 2 ^ 32)) .paramUnsupported

/-- Step 7 of R239. -/
def symStep7 (s : State) (j : Job) : Option Status :=
  (jobKey s j).bind fun k =>
    check (!k.attr 2 && (!j.pbit 8 || k.attr 3) && !(j.opcode == 0x0601 && k.attr 4 && !j.pbit 9))
      .keyPolicy

/-- The use bit of a SYM verb (R338). -/
def symUse (op : Nat) : Nat :=
  match op with
  | 0x0601 => 5
  | 0x0603 => 5
  | 0x0602 => 6
  | 0x0604 => 6
  | 0x0605 => 7
  | 0x0606 => 8
  | 0x0607 => 9
  | _ => 10

/-- The modes of R236. -/
def modeKnown (m : Nat) : Bool := within 1 3 m || within 0x11 0x13 m || within 0x21 0x22 m || within 0x31 0x32 m

/-- A key of the cipher of the mode (R236); a code that is no mode fails at step 2 of R239, with any symmetric key. -/
def symSuits (m alg : Nat) : Bool :=
  if !modeKnown m then within 0xE1 0xE6 alg
  else if m = 3 then alg == 0xE6
  else if m = 0x13 then decide (0xE1 ≤ alg) && decide (alg ≤ 0xE5)
  else decide (0xE1 ≤ alg) && decide (alg ≤ 0xE3)

/-- The checks of R239 in order up to step 7. -/
def symChecks (s : State) (j : Job) : List (Option Status) :=
  [keyChecks s j [2, 3] (symSuits j.mode) (symUse j.opcode) fun _ => true,
   symStep1 j, symStep2 s j, famEnabled s j,
   check (j.opcode == 0x0605 || j.opcode == 0x0606 || decide (symData j ≤ 262144)) .paramUnsupported,
   symStep5 j, symStep6 j, symStep7 s j]

/-- What a job counts against its key, and the limit of its mode (R240). -/
def symCount (j : Job) : Nat × Nat :=
  let blocks := (symData j + 15) / 16
  match j.mode with
  | 0x11 => (blocks, 2 ^ 48)
  | 0x12 => (blocks, 2 ^ 48)
  | 0x21 => (blocks, 2 ^ 48)
  | 0x13 => (blocks, 2 ^ 44)
  | _ => (1, 2 ^ 32)

/-- The limit in force: the lesser of USAGE_LIMIT and the limit of the mode (R240, R544). -/
def symLimit (s : State) (j : Job) : Nat :=
  if keyLimit s j = 0 then (symCount j).2 else min (keyLimit s j) (symCount j).2

/-- Change the symmetric registers of a region. -/
def State.modSym (s : State) (r : Nat) (f : Sym → Sym) : State := s.modRegion r fun g => { g with sym := f g.sym }

/-- The region lets symmetric jobs run unchecked (R232, R476). -/
def State.uncheckedOn (s : State) (r : Nat) : Bool := (s.region r).sym.uncheckedEn && !bit s.pkg.fuses.algDisable 9

/-- A symmetric job runs unchecked in region `r` (R231-R233): its dispatch has decided it, or would; a re-run is checked. The policy's
ALLOW_UNCHECKED is a check of the verb. -/
def State.runsUnchecked (s : State) (r : Nat) (c : Cmd) : Bool :=
  c.prog.unchecked.getD (c.job.pbit 8 && s.uncheckedOn r && c.prog.reruns == 0)

/-- Modes whose serial encryption or MAC leaves a pipeline free (R231). -/
def Job.serial (j : Job) : Bool :=
  let m := j.mode
  m == 0x02 || m == 0x21 || m == 0x31 || m == 0x32 || (m == 0x12 && j.opcode == 0x0603)

/-- Pond units a job needs: one at least for SYM.AEAD_DECRYPT and SYM.UNWRAP, none for another (R242). -/
def pondNeed (j : Job) : Nat :=
  match j.opcode with
  | 0x0602 => max 1 ((symData j + 4095) / 4096)
  | 0x0608 => max 1 ((symData j - 8 + 4095) / 4096)
  | _ => 0

/-- Free pond units of a region (R248). -/
def State.pondFree (s : State) (r : Nat) : Nat :=
  512 - (s.region r).svc.withheld.count .pond - ((s.cmds.filter fun c => c.prog.region == some r).map (·.prog.pond)).sum

/-- The dispatch of a SYM job that passes its checks: it takes its pond units and is counted on its key (R240, R242), and its mode
is decided, one that a region demotes to checked being counted (R232). -/
def takeSym (c : Cmd) (r : Nat) (s : State) : State :=
  let s1 := s.modProg c.job.id fun p => { p with pond := if p.pond = 0 then pondNeed c.job else p.pond }
  if (firstBad (symChecks s c.job)).isSome then s1
  else
    let s2 := match jobKey s c.job with
      | none => s1
      | some k => (countUse c k (symCount c.job).1 (symLimit s c.job) s1).2
    let demoted := c.job.pbit 8 && !s.uncheckedOn r && c.prog.unchecked.isNone
    (if demoted then s2.modSym r fun y => { y with demoted := inc32 y.demoted } else s2).modProg c.job.id
      fun p => { p with unchecked := some (s.runsUnchecked r c) }

/-- The energy of a SYM job (R247). -/
def symEnergy (s : State) (c : Cmd) : Option Nat :=
  c.figure (symNj c.job.mode (keyAlg s c.job) c.job.serial (!s.runsUnchecked c.rgn c) (s.efficient c.rgn)
    (if c.job.opcode = 0x0608 then symData c.job - 8 else symData c.job))

/-- Run a SYM job after its checks; its energy is that of R247, whatever its tag. -/
def symRun (c : Cmd) (s : State) (f : List Byte → State → State × Option Res) : State × Option Res :=
  orBad (symChecks s c.job) s fun s => countThen c (symCount c.job).1 (symLimit s c.job) s fun s =>
    withKey c s fun sk _ s => match f sk s with
      | (s1, some r) => (s1, some (r.withNj (symEnergy s c)))
      | x => x

/-- The header of a segment (R243). -/
def segHeader (j : Job) : List Byte := ascii "EXMSEG01" ++ le 1 j.mode ++ le 1 j.segLog2 ++ le 1 16 ++ zeros 5

/-- The nonce of a segment: N XOR (seven zero bytes, BE32(i), F) (R243). -/
def segNonce (j : Job) (n : List Byte) : List Byte :=
  if j.pbit 10 then xorBytes n (zeros 7 ++ (le 4 j.segIndex).reverse ++ le 1 (if j.pbit 11 then 1 else 0)) else n

/-- The AAD of a job: its operand 4, after the header in segment 0 (R243). -/
def aad (j : Job) : List Byte :=
  if j.pbit 10 then if j.segIndex = 0 then segHeader j ++ j.operand 4 else segHeader j else j.operand 4

/-- SYM.AEAD_ENCRYPT (R241, R243); a CCM tag depends on its length (SP 800-38C). -/
def aeadEncrypt (c : Cmd) (s : State) : State × Option Res :=
  let j := c.job
  symRun c s fun k s => withRandom (if j.pbit 9 then 12 else 0) c s fun d s =>
    let n := if j.pbit 9 then d else j.operand 3
    let args := [le 1 j.mode, k, segNonce j n, aad j, j.operand 0]
    let nonce : List (Nat × List Byte) := if j.pbit 9 then [(3, d)] else []
    (s, some (outsTo j ([(1, stdN (symData j) "AEAD ciphertext" args), (2, stdN j.tagLen "AEAD tag" (args ++ (if j.mode = 2 then [le 1 j.tagLen] else [])))] ++ nonce)))

/-- SYM.AEAD_DECRYPT (R242): the plaintext leaves the pond only after its tag verifies. -/
def aeadDecrypt (c : Cmd) (s : State) : State × Option Res :=
  let j := c.job
  symRun c s fun k s =>
    let args := [le 1 j.mode, k, segNonce j (j.operand 3), aad j, j.operand 0]
    if Config.stdOk "AEAD tag verifies" (args ++ [j.operand 1]) then
      (s, some (outTo j 2 (stdN (symData j) "AEAD plaintext" args)))
    else (s.modSym c.rgn fun y => { y with tagFail := inc32 y.tagFail }, some (stRes .tagFail))

/-- SYM.CIPHER_ENCRYPT and SYM.CIPHER_DECRYPT (R238). -/
def cipher (f : String) (c : Cmd) (s : State) : State × Option Res :=
  let j := c.job
  symRun c s fun k s => (s, some (outTo j 1 (stdN (symData j) f [le 1 j.mode, k, j.operand 3, j.operand 0])))

/-- A CMAC or GMAC tag (R235). -/
def symTag (j : Job) (k : List Byte) : List Byte := stdN j.tagLen "CMAC or GMAC" [le 1 j.mode, k, j.operand 3, j.operand 0]

/-- SYM.MAC (R235). -/
def symMac (c : Cmd) (s : State) : State × Option Res :=
  symRun c s fun k s => (s, some (outTo c.job 1 (symTag c.job k)))

/-- SYM.MAC_VERIFY (R235, R177). -/
def symMacVerify (c : Cmd) (s : State) : State × Option Res :=
  symRun c s fun k s =>
    if symTag c.job k == c.job.operand 1 then (s, some okRes)
    else (s.modSym c.rgn fun y => { y with tagFail := inc32 y.tagFail }, some (stRes .tagFail))

/-- Bytes that SYM.WRAP makes (SP 800-38F): 8 more than the input, padded to a multiple of 8 by KWP. -/
def wrapLen (j : Job) : Nat := if j.mode = 0x31 then symData j + 8 else (symData j + 7) / 8 * 8 + 8

/-- SYM.WRAP (R235). -/
def symWrap (c : Cmd) (s : State) : State × Option Res :=
  symRun c s fun k s => (s, some (outTo c.job 1 (stdN (wrapLen c.job) "AES key wrap" [le 1 c.job.mode, k, c.job.operand 0])))

/-- SYM.UNWRAP (R242): through the pond. -/
def symUnwrap (c : Cmd) (s : State) : State × Option Res :=
  let j := c.job
  symRun c s fun k s =>
    let args := [le 1 j.mode, k, j.operand 0]
    if Config.stdOk "AES key wrap integrity" args then
      (s, some (outTo j 1 (if j.mode = 0x31 then stdN (symData j - 8) "AES key unwrap" args
                           else (Config.std "AES key unwrap" args).take (symData j - 8))))
    else (s.modSym c.rgn fun y => { y with tagFail := inc32 y.tagFail }, some (stRes .tagFail))

/-- The shapes of the SYM verbs (R238); KEY_HANDLE is never null. -/
def shapeSym : ShapeFn := fun op param args =>
  let m := bits param 7 0
  let tag : Option Nat := if symTakes op m then some (fld args 0 1) else none
  let later := bit param 10 && fld args 4 4 != 0
  let aadOp : List Nat := if later then [] else [4]
  let nonceIn : List Nat := if m = 0x21 then [] else [3]
  match op with
  | 0x0601 =>
    let gen := bit param 9
    { ins := [0] ++ (if gen then [] else [3]) ++ aadOp,
      outs := [(1, none), (2, tag)] ++ (if gen then [(3, some 12)] else []), req := [2, 3], dataOut := some 1, key := true }
  | 0x0602 => { ins := [0, 1, 3] ++ aadOp, outs := [(2, none)], req := [1, 3], dataOut := some 2, key := true }
  | 0x0603 => { ins := [0, 3], outs := [(1, none)], req := [3], dataOut := some 1, key := true }
  | 0x0604 => { ins := [0, 3], outs := [(1, none)], req := [3], dataOut := some 1, key := true }
  | 0x0605 => { ins := [0] ++ nonceIn, outs := [(1, tag)], req := [1] ++ nonceIn, key := true }
  | 0x0606 => { ins := [0, 1] ++ nonceIn, req := [1] ++ nonceIn, key := true }
  | _ => { ins := [0], outs := [(1, none)], req := [1], key := true }

/-! ### The verbs -/

/-- SYM.AEAD_ENCRYPT (R241). -/
def execSymAeadEncrypt (j : Nat) (s : State) : Host.Outcome State Fault Refusal := .next (runVerb 0x0601 j aeadEncrypt s)
/-- SYM.AEAD_DECRYPT (R242). -/
def execSymAeadDecrypt (j : Nat) (s : State) : Host.Outcome State Fault Refusal := .next (runVerb 0x0602 j aeadDecrypt s)
/-- SYM.CIPHER_ENCRYPT (R238). -/
def execSymCipherEncrypt (j : Nat) (s : State) : Host.Outcome State Fault Refusal :=
  .next (runVerb 0x0603 j (cipher "cipher encrypt") s)
/-- SYM.CIPHER_DECRYPT (R238). -/
def execSymCipherDecrypt (j : Nat) (s : State) : Host.Outcome State Fault Refusal :=
  .next (runVerb 0x0604 j (cipher "cipher decrypt") s)
/-- SYM.MAC (R235). -/
def execSymMac (j : Nat) (s : State) : Host.Outcome State Fault Refusal := .next (runVerb 0x0605 j symMac s)
/-- SYM.MAC_VERIFY (R235). -/
def execSymMacVerify (j : Nat) (s : State) : Host.Outcome State Fault Refusal := .next (runVerb 0x0606 j symMacVerify s)
/-- SYM.WRAP (R235). -/
def execSymWrap (j : Nat) (s : State) : Host.Outcome State Fault Refusal := .next (runVerb 0x0607 j symWrap s)
/-- SYM.UNWRAP (R242). -/
def execSymUnwrap (j : Nat) (s : State) : Host.Outcome State Fault Refusal := .next (runVerb 0x0608 j symUnwrap s)

end Sys2Proof.Machine
end

