-- ==== Sys2Proof/Machine/Time.lean ====
section
/-! DEFINITION. Package time (R249-R261, R545): the tick, quality, sources, leap seconds, PPS_OUT and the TIME verbs. -/

namespace Sys2Proof.Machine

/-! ### The body of a mailbox request that only a mailbox carries -/

/-- The body after the request header holds the `n` bytes of its layout, and nothing but zeros after them (R10). -/
def bodyIs (j : Job) (n : Nat) : Option Status :=
  check (decide (n ≤ j.args.length) && zero? j.args n (j.args.length - n)) .malformed

/-- ST_OK with a response body. -/
def respRes (b : List Byte) : Res := { status := .ok, resp := b }

/-! ### Parts of the time unit -/

/-- Change the time unit. -/
def State.modTime (s : State) (f : TimeUnit → TimeUnit) : State := { s with time := f s.time }

/-- The record of a source. -/
def TimeUnit.src (t : TimeUnit) : TSrc → SrcRec
  | .ptpA => t.ptpA | .ptpB => t.ptpB | .irig => t.irig | .pps => t.pps

/-- Change the record of a source. -/
def TimeUnit.modSrc (t : TimeUnit) (x : TSrc) (f : SrcRec → SrcRec) : TimeUnit :=
  match x with
  | .ptpA => { t with ptpA := f t.ptpA }
  | .ptpB => { t with ptpB := f t.ptpB }
  | .irig => { t with irig := f t.irig }
  | .pps => { t with pps := f t.pps }

/-- TIM_STATUS.SOURCE of a source; the priority of R253 is the same number. -/
def TSrc.code : TSrc → Nat
  | .ptpA => 1 | .ptpB => 2 | .irig => 3 | .pps => 4

/-- The sources in falling priority (R253). -/
def timeSources : List TSrc := [.ptpA, .ptpB, .irig, .pps]

/-- The enable bit of a source. -/
def TimeCfg.en (c : TimeCfg) : TSrc → Bool
  | .ptpA => c.aEn | .ptpB => c.bEn | .irig => c.irigEn | .pps => c.ppsEn

/-- The source disciplining the tick has qualified. -/
def TimeUnit.held (t : TimeUnit) : Option TSrc := t.source.filter fun x => (t.src x).qualified

/-- The best qualified source (R253). -/
def TimeUnit.best (t : TimeUnit) : Option TSrc := timeSources.find? fun x => (t.src x).qualified && t.cfg.en x

/-- The measured offset of a source in TAI; that of IRIG-B is converted with TIM_UTC.OFFSET (R253). -/
def TimeUnit.offsetOf (t : TimeUnit) (x : TSrc) : Int :=
  if x = .irig then t.irig.offset + Int.ofNat t.utcOffset * 1000000000 else (t.src x).offset

/-- The growth of the estimate in HOLDOVER, in ns a second (R255). -/
def TimeUnit.rate (t : TimeUnit) : Nat := if t.cfg.tcxoEn && t.tcxoOk then 16 else 200

/-- The estimate of R255: the last LOCKED value and its growth since. -/
def State.holdEst (s : State) : Nat := s.time.errBase + (s.tick - s.time.errSince) * s.time.rate / 1000000000

/-- TIM_ERR_EST, where it has a value (R255, R545). -/
def State.errEst (s : State) : Option Nat :=
  match s.time.held with
  | some x => some ((s.time.src x).err + s.time.slewFrom.natAbs)
  | none => if s.time.quality = .holdover then some s.holdEst else none

/-- TIM_ERR_EST as it reads (R261). -/
def State.errReg (s : State) : Nat := min max32 (s.errEst.getD max32)

/-- The estimate of R255 starts at `e`. -/
def State.holdAt (s : State) (e : Nat) : State := s.modTime fun t => { t with errBase := e, errSince := s.tick }

/-- The estimate of R255 goes on at a new rate from its present value. -/
def State.rebase (s : State) : State := if s.time.quality = .holdover then s.holdAt s.holdEst else s

/-- PPS_OUT is driven (R258). -/
def TimeUnit.ppsDriven (t : TimeUnit) : Bool := t.cfg.ppsOutEn && (decide (2 ≤ t.quality.code) || t.cfg.ppsOutAlways)

/-- Where PPS_OUT is no longer driven the pin is low (R258). -/
def State.ppsHeld (s : State) : State := s.modTime fun t => { t with ppsPin := t.ppsPin && t.ppsDriven }

/-! ### Step and slew -/

/-- Change the records of all four sources. -/
def TimeUnit.mapSrcs (f : SrcRec → SrcRec) (t : TimeUnit) : TimeUnit :=
  { t with ptpA := f t.ptpA, ptpB := f t.ptpB, irig := f t.irig, pps := f t.pps }

/-- The tick `d` later, in its 64 bits (R249). -/
def moveTick (n : Nat) (d : Int) : Nat := ((Int.ofNat n + d) % 2 ^ 64).toNat

/-- The offset of a source from a tick that has moved by `d`. -/
def SrcRec.moved (d : Int) (r : SrcRec) : SrcRec := { r with offset := r.offset - d }

/-- A source as a step of the tick by `d` leaves it: the intervals of R254 that run go on, so their starts move with the tick. -/
def SrcRec.stepped (d : Int) (r : SrcRec) : SrcRec :=
  let m (n : Nat) : Nat := (Int.ofNat n + d).toNat
  { r.moved d with validSince := r.validSince.map m, lastAnnounce := m r.lastAnnounce, lastSync := m r.lastSync }

/-- The tick at which a pending leap takes place (R257): the second after the last of the current UTC day, or its last
second. -/
def leapStart (tick utc : Nat) (del : Bool) : Nat :=
  let u := tick / 1000000000 - utc
  ((u / 86400 + 1) * 86400 + utc - (if del then 1 else 0)) * 1000000000

/-- A pending leap is at the end of the UTC day that is current at the step, or under the new OFFSET (R257, log 90). -/
def TimeUnit.releap (t : TimeUnit) (tick : Nat) : TimeUnit :=
  if t.leap61 || t.leap59 then { t with leapAt := leapStart tick t.utcOffset t.leap59, leapNow := false } else t

/-- A step of the tick by `d` (R250): STEPPED, and TIME_STEP in the journal and the bittern record. -/
def stepTick (d : Int) (s : State) : State :=
  let after := moveTick s.tick d
  let s1 := { s with tick := after }.modTime fun t =>
    ({ t with stepped := true, slewFrom := 0, slewCount := 0 }.mapSrcs (SrcRec.stepped d)).releap after
  journalEvent 5 s.tick after none 0 s1

/-- Slew toward the measured offset of a source (R250). -/
def slewTo (x : TSrc) (s : State) : State := s.modTime fun t => { t with slewFrom := t.offsetOf x }

/-- The quality that the estimate of a qualified source gives: LOCKED at LOCK_NS, and FREE from HOLDOVER at HOLDOVER_NS
(R252, R545). -/
def lockIfDue (s : State) : State :=
  match s.time.held, s.errEst with
  | some _, some e =>
    if e ≤ s.time.cfg.lockNs then s.modTime fun t => { t with quality := .locked, isUnset := false, secSet := true }
    else if s.time.quality = .holdover ∧ s.time.cfg.holdoverNs ≤ e then (s.modTime fun t => { t with quality := .free }).ppsHeld
    else s
  | _, _ => s

/-- Take OFFSET, LEAP61 and LEAP59 (R257): a leap newly pending, or under a new OFFSET, is at the end of the current UTC day; one
that is taking place goes on. -/
def setUtc (off : Nat) (l61 l59 : Bool) (s : State) : State :=
  let t := s.time
  let fresh := (l61 && !t.leap61) || (l59 && !t.leap59) || off != t.utcOffset
  let t1 := { t with utcOffset := off, leap61 := l61, leap59 := l59, leapNow := t.leapNow && l61 }
  s.modTime fun _ => if fresh && !t1.leapNow then t1.releap s.tick else t1

/-- OFFSET and the leap flags come from source `x`, which is the active one, where it gives them; PPS_IN gives none (R257). -/
def utcOf (x : TSrc) (s : State) : State :=
  match (s.time.src x).utc with
  | some (off, l61, l59) => (setUtc off l61 l59 s).modTime fun t => { t with fromSource := true }
  | none => s.modTime fun t => { t with fromSource := false }

/-- Source `x` becomes the source of the tick (R250, R252). -/
def takeSource (x : TSrc) (s : State) : State :=
  let s1 := utcOf x (s.modTime fun t => { t with source := some x, slewCount := 0 })
  let off := s1.time.offsetOf x
  match s.time.quality with
  | .locked => slewTo x s1
  | .holdover => lockIfDue (slewTo x s1)
  | _ =>
    let s2 := s1.modTime fun t => { t with quality := .free }
    lockIfDue (if 1000000 ≤ off.natAbs then stepTick off s2 else slewTo x s2)

/-- The best qualified source disciplines the tick. -/
def selectSource (s : State) : State :=
  match s.time.best with
  | none => s
  | some x => if s.time.held = some x then s else takeSource x s

/-- A source that is not valid: it must qualify again from the start (R254). -/
def SrcRec.lost (r : SrcRec) : SrcRec := { r with validSince := none, qualified := false, missed := 0, master := none }

/-- The active source is gone, with the estimate at `e` (R252): the next qualified source takes over; with none the estimate of R255
starts from the last LOCKED value, and one that is running goes on. -/
def dropActive (e : Nat) (s : State) : State :=
  let s1 := s.modTime fun t => { t with source := none, slewFrom := 0, fromSource := false }
  match s1.time.best with
  | some x => takeSource x s1
  | none =>
    if s.time.quality = .locked then (s1.holdAt e).modTime fun t => { t with quality := .holdover } else s1

/-- A source is lost (R252, R254). -/
def loseSource (x : TSrc) (s : State) : State :=
  let s1 := s.modTime fun t => t.modSrc x SrcRec.lost
  if s.time.held = some x then dropActive (s.errEst.getD 0) s1 else s1

/-- SOURCE_QUALIFIED (R254, R253): source `x` has been valid for QUALIFY_S. PPS_IN qualifies only after the seconds are
set. -/
def execSourceQualified (x : TSrc) (s : State) : Host.Outcome State Fault Refusal :=
  .next (
    let t := s.time
    match (t.src x).validSince with
    | none => s
    | some v =>
      if (t.src x).qualified || !t.cfg.en x || decide (s.tick < v + t.cfg.qualifyS * 1000000000) ||
          (x == .pps && !t.secSet) then s
      else selectSource (s.modTime fun t => t.modSrc x fun r => { r with qualified := true }))

/-- The condition of loss of a source (R254). -/
def lossDue (s : State) (x : TSrc) : Bool :=
  let r := s.time.src x
  r.validSince.isSome &&
    (!s.time.cfg.en x ||
      match x with
      | .irig => decide (2 ≤ r.missed) || decide (r.lastSync + 2000000000 ≤ s.tick)
      | .pps => decide (r.lastSync + 1500000000 ≤ s.tick)
      | _ => decide (r.lastAnnounce + 3 * r.annInterval ≤ s.tick) || decide (r.lastSync + 3 * r.syncInterval ≤ s.tick))

/-- SOURCE_LOST (R254). -/
def execSourceLost (x : TSrc) (s : State) : Host.Outcome State Fault Refusal :=
  .next (if lossDue s x then loseSource x s else s)

/-- LOCK_ACHIEVED (R252, R545): the estimate reaches LOCK_NS. -/
def execLockAchieved (s : State) : Host.Outcome State Fault Refusal := .next (lockIfDue s)

/-- HOLDOVER_EXPIRY (R252): the estimate reaches HOLDOVER_NS. -/
def execHoldoverExpiry (s : State) : Host.Outcome State Fault Refusal :=
  .next (
    match s.errEst with
    | some e => if s.time.quality = .holdover ∧ s.time.cfg.holdoverNs ≤ e
        then (s.modTime fun t => { t with quality := .free }).ppsHeld else s
    | none => s)

/-! ### UTC -/

/-- LEAP_SECOND_BOUNDARY (R257): LEAP_NOW over the inserted second, and the new OFFSET at its end; a deleted second takes
its OFFSET at its start. -/
def execLeapSecondBoundary (s : State) : Host.Outcome State Fault Refusal :=
  .next (
    let t := s.time
    if t.leap61 && decide (t.leapAt + 1000000000 ≤ s.tick) then
      s.modTime fun t => { t with leapNow := false, leap61 := false, utcOffset := (t.utcOffset + 1) % 65536 }
    else if t.leap61 && decide (t.leapAt ≤ s.tick) then s.modTime fun t => { t with leapNow := true }
    else if t.leap59 && decide (t.leapAt ≤ s.tick) then
      s.modTime fun t => { t with leap59 := false, utcOffset := t.utcOffset - 1 }
    else s)

/-! ### What a source brings -/

/-- The source a frame port serves, where TIM_CFG names it (R253). -/
def portSource (s : State) (p : Nat) : Option TSrc :=
  let c := s.time.cfg
  if c.aEn && c.portA == p then some .ptpA else if c.bEn && c.portB == p then some .ptpB else none

/-- A measurement of a source arrives: valid from now if it was not, with its offset and own error (R254). -/
def measured (x : TSrc) (off : Int) (err : Nat) (s : State) : State :=
  let s1 := s.modTime fun t => t.modSrc x fun r =>
    { r with validSince := some (r.validSince.getD s.tick), offset := off, err := err, lastSync := s.tick }
  if s1.time.held = some x then lockIfDue (slewTo x s1) else s1

/-- A source gives OFFSET and the leap flags, which are taken where it is the active one (R257). -/
def utcFrom (x : TSrc) (off : Nat) (l61 l59 : Bool) (s : State) : State :=
  let s1 := s.modTime fun t => t.modSrc x fun r => { r with utc := some (off, l61, l59) }
  if s.time.held = some x then utcOf x s1 else s1

/-- IRIG_FRAME_RECEIVE (R253): a frame with its UTC time less the tick in ns, its time-quality error in ns and what its extension
says of UTC; `ok` is a frame that is well formed. A frame whose time-quality code exceeds 1 µs is not used. -/
def execIrigFrameReceive (ok : Bool) (off : Int) (err : Nat) (utc : Nat) (l61 l59 : Bool) (s : State) :
    Host.Outcome State Fault Refusal :=
  .next (
    if !s.time.cfg.irigEn then s
    else if !ok || decide (1000 < err) then s.modTime fun t => t.modSrc .irig fun r => { r with missed := r.missed + 1 }
    else (measured .irig off err (utcFrom .irig utc l61 l59 s)).modTime fun t => t.modSrc .irig fun r => { r with missed := 0 })

/-- PPS_IN_EDGE (R253): a rising edge marks a whole TAI second, carried from the tick held. -/
def execPpsInEdge (s : State) : Host.Outcome State Fault Refusal :=
  .next (
    if !s.time.cfg.ppsEn then s
    else
      let n := s.tick % 1000000000
      measured .pps (if n < 500000000 then -(Int.ofNat n) else Int.ofNat (1000000000 - n)) 0 s)

/-- TCXO_TOLERANCE_CHANGE (R255, R261): TCXO_OK and with it the rate of growth. -/
def execTcxoToleranceChange (ok : Bool) (s : State) : Host.Outcome State Fault Refusal :=
  .next (s.rebase.modTime fun t => { t with tcxoOk := ok })

/-- PPS_OUT_PULSE (R258): the pin at the present tick. It rises at a whole multiple of 10^9, or within 10 ns after it, and a pin that
is high stays so for WIDTH_MS. -/
def execPpsOutPulse (s : State) : Host.Outcome State Fault Refusal :=
  .next (
    let n := s.tick % 1000000000
    s.modTime fun t => { t with ppsPin :=
      t.ppsDriven && (decide (n ≤ 10) || t.ppsPin && decide (n < t.cfg.widthMs * 1000000)) })

/-! ### Registers -/

/-- TIM_NOW_READ (R261): NS and QUALITY are read, and the seconds are latched. -/
def timNowReadAt (s : State) : State :=
  emit (.value (s.tick % 1000000000 + s.time.quality.code * 2 ^ 30))
  (s.modTime fun t => { t with latchSec := s.tick / 1000000000 })

/-- The row: the access of R35 through a BAR (R110). -/
def execTimNowRead (s : State) : Host.Outcome State Fault Refusal :=
  .next (s.gatedRead 0 (timNowReadAt s))

/-- Port `p` is in TAP. -/
def State.isTap (s : State) (p : Nat) : Bool := (tget (fun _ => ({} : Port)) s.frames.ports p).mode == .tap

/-- The fields of TIM_CFG in a write, each reserved encoding leaving its field (R11, R253, R261). -/
def cfgWrite (s : State) (v : Nat) : TimeCfg :=
  let c := s.time.cfg
  let badA := bit v 8 && s.isTap (bits v 3 0)
  let badB := bit v 9 && s.isTap (bits v 7 4)
  { c with
    portA := if badA then c.portA else bits v 3 0, aEn := if badA then c.aEn else bit v 8,
    portB := if badB then c.portB else bits v 7 4, bEn := if badB then c.bEn else bit v 9,
    irigEn := bit v 10, ppsEn := bit v 11, tcxoEn := bit v 12, ppsOutEn := bit v 13, ppsOutAlways := bit v 14,
    domain := bits v 23 16, qualifyS := if bits v 27 24 = 0 then c.qualifyS else bits v 27 24 }

/-- A source is another one under a new configuration: its port or the PTP domain has changed (log 90). -/
def TimeCfg.sameSource (c d : TimeCfg) : TSrc → Bool
  | .ptpA => c.portA == d.portA && c.domain == d.domain
  | .ptpB => c.portB == d.portB && c.domain == d.domain
  | _ => true

/-- TIM_CFG_WRITE (R253): a PTP port field that names a TAP port is kept with its enable bit and counted under NOTE; a
source whose enable bit the write clears is lost (R254). -/
def timCfgWriteAt (v : Nat) (s : State) : State :=
  let bad := (bit v 8 && s.isTap (bits v 3 0)) || (bit v 9 && s.isTap (bits v 7 4))
  let s0 := if bad then noteBadAccess s else s
  let s1 := s0.rebase.modTime fun t => { t with cfg := cfgWrite s v }
  (timeSources.foldl (fun a x =>
    if a.time.cfg.en x && s.time.cfg.sameSource a.time.cfg x then a else loseSource x a) s1).ppsHeld

/-- The row: the access of R35 through a BAR (R110). -/
def execTimCfgWrite (v : Nat) (s : State) : Host.Outcome State Fault Refusal :=
  .next (s.gated 0 (timCfgWriteAt v s))

/-! ### Power and reset -/

/-- The tick and sources at PERST_N (R252): the frame ports reset, so PTP is lost; a LOCKED clock loses its source, of whatever
kind, and goes to HOLDOVER. -/
def timePerst (s : State) : State :=
  let anew (r : SrcRec) : SrcRec := { r with qualified := false, validSince := r.validSince.map fun _ => s.tick }
  if s.time.quality = .locked then
    (s.holdAt (s.errEst.getD 0)).modTime fun t => { t with
      quality := .holdover, source := none, slewFrom := 0, fromSource := false,
      ptpA := t.ptpA.lost, ptpB := t.ptpB.lost, irig := anew t.irig, pps := anew t.pps }
  else [TSrc.ptpA, .ptpB].foldl (fun s x => loseSource x s) s

/-- STANDBY and BOOT give COARSE with no source (R252). -/
def timeCoarse (s : State) : State :=
  (s.modTime fun t => { t with quality := .coarse, source := none, slewFrom := 0, fromSource := false, ptpA := {}, ptpB := {},
                               irig := {}, pps := {} }).ppsHeld

/-- The next count of the 32.768 kHz counter after tick `t` (R251). -/
def coarseNext (t : Nat) : Nat := ((t * 32768 / 1000000000 + 1) * 1000000000 + 32767) / 32768

/-- How far a slew moves the tick beyond its next nanosecond: 1 ns in 10,000, which is 100 ppm (R250, log 36). -/
def TimeUnit.slewBy (t : TimeUnit) : Int := if t.slewCount + 1 < 10000 then 0 else t.slewFrom.sign

/-- The slew goes on by a nanosecond; a nanosecond it adds or omits is taken off the offsets that were measured. -/
def TimeUnit.slewed (t : TimeUnit) : TimeUnit :=
  if t.slewFrom = 0 then t
  else if t.slewCount + 1 < 10000 then { t with slewCount := t.slewCount + 1 }
  else { t with slewFrom := t.slewFrom - t.slewBy, slewCount := 0 }.mapSrcs (SrcRec.moved t.slewBy)

/-- The tick counts: 1 ns and what a slew adds to it or omits from it, or one count of the 32.768 kHz counter while COARSE (R249-R251). -/
def countTick (s : State) : State :=
  if s.time.quality = .coarse then { s with tick := coarseNext s.tick % 2 ^ 64 }
  else { s with tick := moveTick s.tick (1 + s.time.slewBy), time := s.time.slewed }

/-- What a step does with no command waiting (log 1): the tick counts while VDD_AON or VBAT feeds the counter. -/
def idle (s : State) : State := if s.pkg.pwrgdAon || s.pkg.vbat then countTick s else s

/-! ### Verbs (R260) -/

/-- The body of TIME.READ (R260). -/
def State.timeBody (s : State) : List Byte :=
  let t := s.time
  le 8 s.tick ++ le 2 t.utcOffset ++ le 1 t.quality.code ++
    le 1 (flag t.leap61 0 + flag t.leap59 1 + flag t.leapNow 2) ++ le 4 s.errReg

/-- The result of a request as it is answered: TIME.READ gives the time at the response (R260). -/
def Res.answered (s : State) (op : Nat) (r : Res) : Res :=
  if op = 0x0901 ∧ r.status = .ok then { r with resp := s.timeBody } else r

/-- TIME.READ. -/
def timeRead (c : Cmd) (s : State) : State × Option Res :=
  orBad [paramZero c.job 0xFFFFFFFF, bodyIs c.job 0, famEnabled s c.job] s fun s => (s, some (respRes s.timeBody))

/-- TIME.SET: a step, refused while LOCKED or HOLDOVER. -/
def timeSet (c : Cmd) (s : State) : State × Option Res :=
  let j := c.job
  orBad [paramZero j 0xFFFFFFFF, bodyIs j 8, famEnabled s j,
      check (decide (s.time.quality.code < 2)) .notPermitted] s fun s =>
    let d := Int.ofNat (fld j.args 0 8) - Int.ofNat s.tick
    let s1 := (stepTick d (commit j.id s)).modTime fun t => { t with quality := .free, isUnset := false, secSet := true }
    (match s1.time.held with
      | some x => slewTo x s1
      | none => s1, some okRes)

/-- TIME.READ (R260). -/
def execTimeRead (j : Nat) (s : State) : Host.Outcome State Fault Refusal := .next (runVerb 0x0901 j timeRead s)
/-- TIME.SET (R260). -/
def execTimeSet (j : Nat) (s : State) : Host.Outcome State Fault Refusal := .next (runVerb 0x0902 j timeSet s)

end Sys2Proof.Machine
end

