-- ==== Sys2Proof/Machine/Frames.lean ====
section
/-! DEFINITION. Frame ports, streams and frame rings (R262-R285): tables, what a frame holds, ring entries, stream
events, deliveries and failures. -/

namespace Sys2Proof.Machine

/-! ### Tables -/

/-- A port after PERST_N. -/
def port0 (_ : Nat) : Port := {}

/-- Change the frame unit. -/
def State.modFrames (s : State) (f : Frames → Frames) : State := { s with frames := f s.frames }

/-- Port `p`. -/
def State.port (s : State) (p : Nat) : Port := tget port0 s.frames.ports p

/-- Change port `p`. -/
def State.modPort (s : State) (p : Nat) (f : Port → Port) : State :=
  s.modFrames fun x => { x with ports := tset port0 x.ports p (f (tget port0 x.ports p)) }

/-- Stream `n`, where it is configured. -/
def State.stream? (s : State) (n : Nat) : Option Stream := tfind s.frames.streams n

/-- Change stream `n`. -/
def State.modStream (s : State) (n : Nat) (f : Stream → Stream) : State :=
  s.modFrames fun x => { x with streams := x.streams.map fun e => if e.1 == n then (e.1, f e.2) else e }

/-- The session of publisher stream `n`. -/
def State.session? (s : State) (n : Nat) : Option Session := tfind s.frames.sessions n

/-- Change the session of publisher stream `n`. -/
def State.modSession (s : State) (n : Nat) (f : Session → Session) : State :=
  s.modFrames fun x => { x with sessions := x.sessions.map fun e => if e.1 == n then (e.1, f e.2) else e }

/-- Change the HVW_ registers. -/
def State.modHvw (s : State) (f : Hvw → Hvw) : State := s.modFrames fun x => { x with hvw := f x.hvw }

/-- The partner of a port in its pair (R262). -/
def partner (p : Nat) : Nat := if p % 2 = 0 then p + 1 else p - 1

/-- The modes in which ports are up (R263). -/
def State.portsUp (s : State) : Bool :=
  (s.pkg.mode.isService || s.pkg.mode == .update || s.pkg.mode == .debug) && !s.pkg.halted

/-- The link of port `p` is up (R263, R289). -/
def State.linkUp (s : State) (p : Nat) : Bool := s.portsUp && !((s.port p).mode == .disabled) && (s.port p).link

/-- The port can send: ENDPOINT or PASS_THROUGH, and up (R262, R286). -/
def State.canSend (s : State) (p : Nat) : Bool :=
  decide (p < 16) && ((s.port p).mode == .endpoint || (s.port p).mode == .passThrough) && s.linkUp p

/-! ### What a frame holds -/

/-- The number that bytes spell, most significant first. -/
def unbe (b : List Byte) : Nat := unle b.reverse

/-- A big-endian field. -/
def bfld (b : List Byte) (o n : Nat) : Nat := unbe (slice b o n)

/-- `n` bytes of a number, most significant first. -/
def be (n v : Nat) : List Byte := (le n v).reverse

/-- What a port recognises of redundancy: 0 nothing, 1 the PRP trailer, 2 HSR tags. A pair is configured for PRP where either of its ports
is (R267, R268, log 92). -/
def State.red (s : State) (p : Nat) : Nat :=
  let r := (s.port p).redundancy
  if r = 0 ∧ (s.port (partner p)).redundancy = 1 then 1 else r

/-- The tags of a frame: 802.1Q TCI, HSR path and sequence number, EtherType, and the offset of what follows it. -/
structure Parsed where
  vlan : Option Nat := none
  hsr : Option (Nat × Nat) := none
  et : Nat
  off : Nat
deriving DecidableEq, Repr

/-- Read the tags from offset `o`, at most `fuel` of them; an HSR tag is one only to a port that recognises it (R265, R267). -/
def readTags (red : Nat) (b : List Byte) (o : Nat) (v : Option Nat) (h : Option (Nat × Nat)) : Nat → Parsed
  | 0 => { vlan := v, hsr := h, et := bfld b o 2, off := o + 2 }
  | fuel + 1 =>
    let et := bfld b o 2
    if et = 0x8100 ∧ v = none then readTags red b (o + 4) (some (bfld b (o + 2) 2)) h fuel
    else if et = 0x892F ∧ h = none ∧ red = 2 then
      readTags red b (o + 6) v (some (bits (bfld b (o + 2) 2) 15 12, bfld b (o + 4) 2)) fuel
    else { vlan := v, hsr := h, et := et, off := o + 2 }

/-- The tags of a frame on a port that recognises redundancy `red`. -/
def parseFrame (red : Nat) (b : List Byte) : Parsed := readTags red b 12 none none 2

/-- The PRP redundancy control trailer of IEC 62439-3 (R267, log 92): sequence number, LAN 0xA or 0xB with the LSDU size, and the suffix
0x88FB. The LSDU runs from after the EtherType through the trailer. -/
def rct (red : Nat) (b : List Byte) : Option (Nat × Nat) :=
  let n := b.length
  let size := n - 14 - (if (parseFrame red b).vlan.isSome then 4 else 0)
  let lan := bits (bfld b (n - 4) 2) 15 12
  if red = 1 ∧ 64 ≤ n + 4 ∧ bfld b (n - 2) 2 = 0x88FB ∧ (lan = 0xA ∨ lan = 0xB) ∧ bits (bfld b (n - 4) 2) 11 0 = size then
    some (lan, bfld b (n - 6) 2) else none

/-- The LAN or path and the sequence number by which a frame's duplicate is known (R267). -/
def redTag (red : Nat) (b : List Byte) : Option (Nat × Nat) :=
  match (parseFrame red b).hsr with
  | some x => some x
  | none => rct red b

/-- The frame without its 802.1Q tag, HSR tag and PRP trailer: what the MAC and the digest are taken over (R266,
R295). -/
def bareFrame (red : Nat) (b : List Byte) : List Byte :=
  let c := b.take 12 ++ b.drop ((parseFrame red b).off - 2)
  if (rct red b).isSome then c.take (c.length - 6) else c

/-- The source address of a frame. -/
def srcMac (b : List Byte) : List Byte := slice b 6 6

/-- A frame of C37.118.2 traffic in UDP, by its UDP destination port (R265). -/
def syncPort (b : List Byte) (p : Parsed) : Option Nat :=
  let q := b.drop p.off
  if p.et = 0x0800 ∧ fld q 0 1 = 0x45 ∧ bits (bfld q 6 2) 13 0 = 0 ∧ fld q 9 1 = 17 ∧ fld q 28 1 = 0xAA then
    some (bfld q 22 2) else none

/-- KIND of a recognised frame of a port with its APPID; none for other traffic (R265, R269). -/
def frameKind (s : State) (red : Nat) (b : List Byte) : Option (Nat × Nat) :=
  let p := parseFrame red b
  if p.et = 0x88B8 then some (1, bfld b p.off 2)
  else if p.et = 0x88BA then some (2, bfld b p.off 2)
  else if p.et = s.frames.hvw.ethertype then some (4, bfld b p.off 2)
  else match syncPort b p with
    | some n => if s.frames.streams.any fun e => e.2.cfg.kind == 3 && e.2.cfg.appid == n then some (3, n) else none
    | none => none

/-- The VLAN field of a stream matches a frame's tag (R270). -/
def vlanMatch (v : Nat) (tag : Option Nat) : Bool :=
  match tag with
  | none => bit v 12
  | some t => !bit v 12 && bits v 11 0 == bits t 11 0

/-- The stream a frame on port `p` belongs to (R269). -/
def streamOf (s : State) (p : Nat) (b : List Byte) : Option Nat :=
  match frameKind s (s.red p) b with
  | none => none
  | some (k, app) =>
    (s.frames.streams.find? fun e =>
      let c := e.2.cfg
      c.kind == k && c.srcMac == srcMac b && vlanMatch c.vlan (parseFrame (s.red p) b).vlan && c.appid == app && bit c.ports p).map
      (·.1)

/-- stNum, sqNum, t as a tick and timeAllowedtoLive in ns of a GOOSE frame (IEC 61850-8-1, log 11). -/
def gooseSt (b : List Byte) : Nat := unle (stdN 4 "IEC 61850-8-1 GOOSE stNum" [b])
/-- sqNum. -/
def gooseSq (b : List Byte) : Nat := unle (stdN 4 "IEC 61850-8-1 GOOSE sqNum" [b])
/-- t, in ns of UTC. -/
def gooseT (b : List Byte) : Nat := unle (stdN 8 "IEC 61850-8-1 GOOSE t, ns of UTC" [b])
/-- timeAllowedtoLive, in ns. -/
def gooseTtl (b : List Byte) : Nat := unle (stdN 4 "IEC 61850-8-1 GOOSE timeAllowedtoLive, ms" [b]) * 1000000
/-- smpCnt of the first ASDU. -/
def svCnt (b : List Byte) : Nat := unle (stdN 2 "IEC 61850-9-2 smpCnt of the first ASDU" [b])
/-- smpSynch reports global synchronisation. -/
def svGlobal (b : List Byte) : Bool := Config.stdOk "IEC 61850-9-2 smpSynch global" [b]

/-- The frame key of R297. -/
def frameKey (kind : Nat) (b : List Byte) : Nat := if kind = 1 then gooseSt b * 2 ^ 32 + gooseSq b else svCnt b

/-- timeAllowedtoLive of a frame, where its kind has one. -/
def frameTtl (kind : Nat) (b : List Byte) : Option Nat := if kind = 1 then some (gooseTtl b) else none

/-! ### Frame rings -/

/-- Units of 16 bytes of a frame ring. -/
def FrameRing.units (r : FrameRing) : Nat := 2 ^ r.log2 / 16

/-- Units an entry may take (R284). -/
def FrameRing.free (r : FrameRing) : Nat := r.units - 1 - (r.tail + r.units - r.head) % r.units

/-- A header (R284) at the ring's PHASE. -/
def ringHeader (phase : Bool) (len16 typ flen seq : Nat) : List Byte :=
  le 2 (len16 + flag phase 15) ++ le 1 typ ++ zeros 1 ++ le 2 flen ++ zeros 2 ++ le 4 seq ++ zeros 4

/-- Pad bytes to whole units of 16. -/
def padUnit (b : List Byte) : List Byte := fit (16 * ((b.length + 15) / 16)) b

/-- Raise the vector of a frame ring where IEN is set; every entry written so far is then signalled (R283, R87). -/
def raiseRing (i n : Nat) (s : State) : State :=
  let r := s.fring i n
  if r.ien then raiseVector i r.vector (s.modFring i n fun r => { r with unsignalled := [] }) else s

/-- An entry of `l` units has been written: the vector is raised at COUNT entries, or at once (R283, R87). -/
def ringSignal (i n l : Nat) (now : Bool) (s : State) : State :=
  let s1 := s.modFring i n fun r => { r with unsignalled := r.unsignalled ++ [(s.tick, l)] }
  let r := s1.fring i n
  if now || decide (r.count ≤ r.unsignalled.length) then raiseRing i n s1 else s1

/-- The unsignalled entries that lie wholly in the last `room` units, from the newest; their age restarts at `t` (R87). -/
def keepBeyond (t : Nat) : Nat → List (Nat × Nat) → List (Nat × Nat)
  | _, [] => []
  | room, (_, l) :: rest => if l ≤ room then (t, l) :: keepBeyond t (room - l) rest else []

/-- Write an entry of whole units to frame ring `n` of instance `i` (R283-R285); the answer says whether it was written.
What does not fit, or meets a ring that is not enabled or faulted, counts in FRP_RING_DROPS; so does an entry that R110 does not let
leave, since no frame is held for a ring (log 93). -/
def putEntry (i n typ flen : Nat) (body : List Byte) (now : Bool) (s : State) : Bool × State :=
  let r := s.fring i n
  let l := 1 + body.length / 16
  let wraps := decide (r.units < r.tail + l)
  let need := if wraps then r.units - r.tail + l else l
  if !r.enable || r.stopped || (s.inst i).resetting || s.ideBlocked i || decide (r.free < need) then
    (false, s.modFring i n fun r => { r with drops := inc32 r.drops })
  else
    let s1 := if wraps then
        hostWrite i (r.base + 16 * r.tail) (fit (16 * (r.units - r.tail)) (ringHeader r.phase (r.units - r.tail) 0 0 r.seq)) false s
      else s
    let at' := if wraps then 0 else r.tail
    let ph := if wraps then !r.phase else r.phase
    let seq := (r.seq + 1) % 2 ^ 32
    let s2 := hostWrite i (r.base + 16 * at') (ringHeader ph l typ flen seq ++ body) false s1
    let t := at' + l
    let s3 := s2.modFring i n fun r =>
      { r with tail := t % r.units, phase := if t = r.units then !ph else ph, seq := seq }
    (true, ringSignal i n need now s3)

/-- Write a STREAM_EVENT to every ring subscribed to stream `n` (R284). -/
def streamEvent (n ev tick : Nat) (s : State) : State :=
  match s.stream? n with
  | none => s
  | some st =>
    let body := le 2 n ++ le 1 ev ++ le 1 s.time.quality.code ++ zeros 4 ++ le 8 tick
    st.subs.foldl (fun s x => (putEntry x.inst x.ring 2 0 body true s).2) s

/-- The trailer (R280). -/
def trailer (verdict hstate tq : Nat) (fwd : Bool) (stream port tick win drops slot : Nat) : List Byte :=
  le 1 verdict ++ le 1 (hstate + 4 * tq + flag fwd 4) ++ le 2 (stream + 4096 * port) ++ le 6 tick ++ le 2 win ++
    le 2 drops ++ le 1 slot ++ zeros 1

/-- A judged frame: what its deliveries carry. -/
structure Judged where
  data : List Byte
  port : Nat
  verdict : Nat
  tq : Nat
  ingress : Nat
  forwarded : Bool
  slot : Nat
deriving DecidableEq, Repr

/-- Deliver a frame of stream `n` to one subscription (R280, R281): its DROPS counts what was not delivered. -/
def deliverTo (n : Nat) (f : Judged) (hstate win : Nat) (x : Sub) (s : State) : State :=
  let (ok, s1) := putEntry x.inst x.ring 1 f.data.length
    (padUnit f.data ++ trailer f.verdict hstate f.tq f.forwarded n f.port f.ingress win x.drops f.slot) false s
  s1.modStream n fun st => { st with subs := st.subs.map fun y =>
    if y.inst = x.inst ∧ y.ring = x.ring then { y with drops := if ok then 0 else satAdd 0xFFFF y.drops 1 } else y }

/-- Deliver to the subscriptions that `p` selects. -/
def deliverAll (n : Nat) (f : Judged) (hstate win : Nat) (p : Sub → Bool) (s : State) : State :=
  match s.stream? n with
  | none => s
  | some st => (st.subs.filter p).foldl (fun s x => deliverTo n f hstate win x s) s

/-! ### Stream state -/

/-- Frames a second: the seconds that have ended are judged against RATE_FLOOR (R276). -/
def rateRoll (n tick : Nat) (s : State) : State :=
  match s.stream? n with
  | none => s
  | some st =>
    let now := tick / 1000000000
    if now ≤ st.second then s
    else
      let low := decide (st.count < st.cfg.rateFloor)
      let s1 := s.modStream n fun st => { st with second := now, count := 0, rateLow := low }
      if low then streamEvent n 3 tick s1
      else
        let s2 := if st.rateLow then streamEvent n 4 tick s1 else s1
        if st.second + 1 < now && decide (0 < st.cfg.rateFloor) then
          streamEvent n 3 tick (s2.modStream n fun st => { st with rateLow := true })
        else s2

/-- A passing frame of a stream: ACTIVE, counts, silence (R276, R279). -/
def streamPass (n ingress ttl : Nat) (s : State) : State :=
  match s.stream? n with
  | none => s
  | some st =>
    let s1 := s.modStream n fun st =>
      { st with st := .active, lastTick := ingress, lastTtl := ttl, passed := satAdd max64 st.passed 1, count := st.count + 1 }
    if st.st = .active then s1 else streamEvent n 1 ingress s1

/-- A failure of a stream at tick `t` (R278, R279). -/
def streamFail (n t : Nat) (s : State) : State :=
  match s.stream? n with
  | none => s
  | some st =>
    let c := st.cfg
    let fails := keepLast (max 1 c.failLimit) (st.fails ++ [t])
    let trip := !(st.st == .quarantined) && decide (1 ≤ c.failLimit) && decide (c.failLimit ≤ fails.length) &&
      decide (fails.foldl max 0 - fails.foldl min t < c.failWindowMs * 1000000)
    let s1 := s.modStream n fun st =>
      { st with failed := satAdd max64 st.failed 1, fails := fails, lastFail := t,
                st := if trip then .quarantined else st.st }
    if trip then streamEvent n 5 t s1 else s1

/-- A quarantined stream is released (R279). -/
def streamRelease (n : Nat) (s : State) : State :=
  match s.stream? n with
  | some st =>
    if st.st = .quarantined then
      streamEvent n 6 s.tick (s.modStream n fun st => { st with st := .inactive, fails := [] })
    else s
  | none => s

/-- The silence interval of a stream in ns, where it is monitored (R270, R276). -/
def Stream.silence (st : Stream) : Option Nat :=
  if 0 < st.cfg.silenceMs then some (st.cfg.silenceMs * 1000000) else if st.cfg.kind = 1 then some st.lastTtl else none

/-! ### Timers of streams -/

/-- STREAM_SILENCE_EXPIRY (R276). -/
def execStreamSilenceExpiry (n : Nat) (s : State) : Host.Outcome State Fault Refusal :=
  .next (
    match s.stream? n with
    | none => s
    | some st => match st.silence with
      | none => s
      | some d =>
        if st.st = .active ∧ st.lastTick + d ≤ s.tick then
          streamEvent n 2 s.tick (s.modStream n fun st => { st with st := .silent })
        else s)

/-- RATE_SECOND_BOUNDARY (R276): every stream with a floor. -/
def execRateSecondBoundary (s : State) : Host.Outcome State Fault Refusal :=
  .next ((s.frames.streams.map (·.1)).foldl (fun s n => rateRoll n s.tick s) s)

/-- QUARANTINE_HOLD_EXPIRY (R279): QUAR_S have elapsed since the last failure. -/
def execQuarantineHoldExpiry (n : Nat) (s : State) : Host.Outcome State Fault Refusal :=
  .next (
    match s.stream? n with
    | some st => if st.lastFail + st.cfg.quarS * 1000000000 ≤ s.tick then streamRelease n s else s
    | none => s)

/-! ### Ring registers -/

/-- FRAME_RING_ENABLE (R283): a write of FRP_RING_CTRL, whose RW1C bits clear. -/
def frameRingEnableAt (i n v : Nat) (s : State) : State :=
  if !s.present i || decide (8 ≤ n) then s
  else
    let s1 := s.modFring i n fun r =>
      { r with dbRange := r.dbRange && !bit v 2, writeFault := r.writeFault && !bit v 3 }
    let r := s1.fring i n
    if !bit v 0 then s1.modFring i n fun r => { r with enable := false }
    else if r.enable then s1
    else
      let ok := decide (16 ≤ r.log2) && decide (r.log2 ≤ 26) && decide (r.base + 2 ^ r.log2 ≤ 2 ^ 64)
      if ok then s1.modFring i n fun r =>
        { r with enable := true, errCfg := false, tail := 0, head := 0, phase := true, seq := 0, stopped := false,
                 unsignalled := [] }
      else s1.modFring i n fun r => { r with errCfg := true }

/-- The row: the access of R35 through a BAR (R110). -/
def execFrameRingEnable (i n v : Nat) (s : State) : Host.Outcome State Fault Refusal :=
  .next (s.gated i (frameRingEnableAt i n v s))

/-- FRAME_RING_DOORBELL (R283, R285): an accepted head frees space and resumes a faulted ring; the age of the unsignalled entries
beyond it restarts (R87). -/
def frameRingDoorbellAt (i n v : Nat) (s : State) : State :=
  if !s.present i || decide (8 ≤ n) || !(s.fring i n).enable then s
  else
    let r := s.fring i n
    let h := bits v 21 0
    let u := r.units
    if decide (h < u) && decide ((h + u - r.head) % u ≤ (r.tail + u - r.head) % u) then
      s.modFring i n fun r => { r with
        head := h, stopped := false,
        unsignalled := (keepBeyond s.tick ((r.tail + u - h) % u) r.unsignalled.reverse).reverse }
    else s.modFring i n fun r => { r with dbRange := true }

/-- The timer of R87 for a frame ring (R283). -/
def ringTimer (i n : Nat) (s : State) : State :=
  let r := s.fring i n
  if r.timeUs != 0 && r.unsignalled.head?.any (fun e => decide ((e.1 + 1000 * r.timeUs + 999) / 1000 * 1000 ≤ s.tick)) then
    raiseRing i n s
  else s

/-- The row: the access of R35 through a BAR (R110). -/
def execFrameRingDoorbell (i n v : Nat) (s : State) : Host.Outcome State Fault Refusal :=
  .next (s.gated i (frameRingDoorbellAt i n v s))

end Sys2Proof.Machine
end

