-- ==== Sys2Proof/Machine/Harvest.lean ====
section
/-! DEFINITION. Harvest windows (R290-R313): sessions, the chain, sealing, shards, records and the pending list. -/

namespace Sys2Proof.Machine

/-- The window length in ns (R294). -/
def Session.t (x : Session) : Nat := x.windowUs * 1000

/-- The WAIT_US of a session in ns. -/
def Session.wait (x : Session) : Nat := x.waitUs * 1000

/-! ### Digest and chain (R295) -/

/-- d_k. -/
def frameDigest (bare : List Byte) : List Byte :=
  let f := Config.std "IEC 62351-6 octets before the authentication value" [bare]
  let a := Config.std "IEC 62351-6 authentication value" [bare]
  sha3 (le 2 f.length ++ f ++ le 1 a.length ++ a)

/-- c_0 of window `w`. -/
def chain0 (c : StreamCfg) (w windowUs : Nat) : List Byte :=
  sha3 (ascii "EXMHV-C0" ++ c.srcMac ++ be 2 c.appid ++ le 6 w ++ le 2 windowUs)

/-- The chain over a run of digests. -/
def chainOver (c0 : List Byte) (ds : List (List Byte)) : List Byte := ds.foldl (fun c d => sha3 (c ++ d)) c0

/-! ### Resolution (R304-R309) -/

/-- Pending frames of the package (R304). -/
def State.pendingFrames (s : State) : Nat := (s.frames.sessions.map fun e => e.2.pend.length).sum

/-- Bytes of frames held for DELIVER 2 (R304). -/
def State.heldBytes (s : State) : Nat :=
  (s.frames.sessions.map fun e => (e.2.pend.map fun p => (p.held.map (·.data.length)).getD 0).sum).sum

/-- A held frame as it is delivered. -/
def PFrame.judged (p : PFrame) (h : Held) : Judged :=
  { data := h.data, port := h.port, verdict := h.verdict, tq := h.tq, ingress := p.ingress, forwarded := h.forwarded,
    slot := h.slot }

/-- Deliver the held frames among `ps` with HSTATE and WIN_LO; STALE where the timeAllowedtoLive has run out (R275,
R305). -/
def deliverHeld (n hstate : Nat) (win : PFrame → Nat) (ps : List PFrame) (s : State) : State :=
  ps.foldl (fun s p => match p.held with
    | none => s
    | some h =>
      let stale := h.ttl.any fun t => decide (p.ingress + t ≤ s.tick)
      deliverAll n { p.judged h with verdict := if stale then 0x12 else h.verdict } hstate (win p % 65536)
        (fun x => x.deliver == 2) s) s

/-- One HARVEST entry to every ring subscribed with DELIVER 1 or 2 (R309). -/
def harvestEntry (n result reason count win tq start : Nat) (s : State) : State :=
  let body := le 2 n ++ le 1 result ++ le 1 reason ++ le 4 count ++ le 6 win ++ le 1 tq ++ zeros 1 ++ le 8 start ++
    le 8 s.tick
  let s1 := if result = 3 then s.modSession n fun x => { x with failed := satAdd max64 x.failed 1 } else s
  match s.stream? n with
  | none => s1
  | some st => (st.subs.filter fun x => decide (1 ≤ x.deliver)).foldl (fun s x => (putEntry x.inst x.ring 3 0 body false s).2) s1

/-- The windows of frames, each once, in order. -/
def winsOf (ps : List PFrame) : List Nat := (ps.map (·.win)).eraseDups

/-- Resolve frames as HARVEST_FAIL with a reason, one entry a provisional window (R309). -/
def resolveEach (n reason : Nat) (x : Session) (ps : List PFrame) (s : State) : State :=
  let s1 := deliverHeld n 3 (·.win) ps s
  (winsOf ps).foldl (fun s w =>
    harvestEntry n 3 reason (ps.filter fun p => p.win == w).length w 0 (w * x.t) s) s1

/-- Resolve frames as RECORD_LOST (R308). -/
def resolveLost (n : Nat) (x : Session) (ps : List PFrame) (s : State) : State :=
  (resolveEach n 4 x ps s).modHvw fun h => { h with lost := satAdd max32 h.lost ps.length }

/-- The run of a record in the pending list: what stands before it, the run, and what follows (R306). -/
def findRun (first last : Nat) (ps : List PFrame) : Option (List PFrame × List PFrame × List PFrame) :=
  let before := ps.takeWhile fun p => !(p.key == first)
  let rest := ps.drop before.length
  if rest.isEmpty then none
  else if first = last then some (before, rest.take 1, rest.drop 1)
  else
    let mid := (rest.drop 1).takeWhile fun p => !(p.key == last)
    let n := mid.length + 2
    if rest.length < n then none else some (before, rest.take n, rest.drop n)

/-- Discarded shards and assemblies (R303). -/
def dropShards (k : Nat) (s : State) : State := s.modHvw fun h => { h with shardDrop := satAdd max32 h.shardDrop k }

/-! ### The end of a session (R293) -/

/-- End the session of stream `n`: its open window is abandoned and its pending frames are RECORD_LOST. -/
def endSession (n : Nat) (s : State) : State :=
  match s.session? n with
  | none => s
  | some x =>
    let s1 := resolveLost n x x.pend s
    s1.modFrames fun f => { f with sessions := tdel f.sessions n }

/-- End the sessions that stream `n` takes part in. -/
def endSessionsOf (n : Nat) (s : State) : State :=
  ((s.frames.sessions.filter fun e => e.1 == n || e.2.hstream == n).map (·.1)).foldl (fun s k => endSession k s) s

/-! ### Sealing (R296-R301) -/

/-- The record of a closed window (R298). -/
def harvestRecord (x : Session) (c : StreamCfg) (w : OpenWin) (tq : Nat) : List Byte :=
  ascii "EXMHVR01" ++ le 1 x.sigAlg ++ le 1 c.kind ++ le 2 x.windowUs ++ le 4 w.count ++ fit 6 c.srcMac ++ be 2 c.appid ++
    le 6 w.win ++ le 1 tq ++ zeros 1 ++ le 8 (w.win * x.t) ++ le 8 w.first ++ le 8 w.last ++ fit 32 w.chain

/-- Bytes of the sealed object (R299). -/
def sealedLen (alg : Nat) : Nat := 88 + sigLen alg

/-- Shards of the sealed object (R300). -/
def shardCount (alg : Nat) : Nat := (sealedLen alg + 1483) / 1484

/-- The window is not sealed (R299): journalled FULL with its status, and counted. -/
def sealFail (n w inst : Nat) (st : Status) (s : State) : State :=
  let (q, s1) := takeJseq s
  let s2 := appendEntry { jseq := q, w08 := s.tick, w10 := s.tick, inst := inst, type := 1, gen := (s.inst inst).gen, w1C := 0,
                          w1E := 0x0401, status := st.code, source := 32, flags := 0, aux := 0, result := zeros 8,
                          chain := [] } s1
  (s2.modHvw fun h => { h with sealFail := inc32 h.sealFail }).modSession n fun x =>
    { x with failed := satAdd max64 x.failed 1, sealing := x.sealing.filter fun y => !(y.win == w) }

/-- The payload of shard `i` of `count` (R301). -/
def shardPayload (appid win i count : Nat) (obj : List Byte) : List Byte :=
  let body := if count = 1 then obj else (obj.drop (i * 1484)).take 1484
  be 2 appid ++ le 1 1 ++ le 1 (i + 16 * count) ++ le 2 (i * 1484) ++ le 2 body.length ++ le 6 win ++ le 2 obj.length ++ body

/-- Put a frame in the egress queue of port `p`, where its mode transmits (R262); a frame that does not fit is dropped and counted
(R288). -/
def enqueue (p : Nat) (e : Egress) (s : State) : State :=
  if !((s.port p).mode == .endpoint || (s.port p).mode == .passThrough) then s
  else if 1048576 < ((s.port p).queue.map (·.data.length)).sum + e.data.length then
    s.modPort p fun x => { x with fwdDrop := inc32 x.fwdDrop }
  else s.modPort p fun x => { x with queue := x.queue ++ [e] }

/-- Queue the harvest frames of a sealed object (R300). -/
def sendSealed (x : Session) (y : Sealing) (obj : List Byte) (s : State) : State :=
  match s.stream? x.hstream with
  | none => s
  | some h =>
    let c := h.cfg
    let jumbo := x.format == 0 && decide (4000 ≤ (s.port c.egress).mtu)
    let count := if jumbo then 1 else shardCount x.sigAlg
    let tag := if bit c.vlan 12 then [] else be 2 0x8100 ++ be 2 (bits c.vlan 11 0 + x.pcp % 8 * 8192)
    let head := fit 6 x.dst ++ fit 6 c.srcMac ++ tag ++ be 2 s.frames.hvw.ethertype
    (List.range count).foldl (fun s i => enqueue c.egress
      { data := head ++ shardPayload c.appid y.win i count obj, prio := if bit c.vlan 12 then 0 else x.pcp % 8,
        ingress := s.tick, own := true } s) s

/-- Send the sealed objects at the head of a session's list, in window order (R299). -/
def flushSealed (n : Nat) : Nat → State → State
  | 0, s => s
  | fuel + 1, s =>
    match s.session? n with
    | none => s
    | some x => match x.sealing with
      | y :: rest => match y.object with
        | some obj => flushSealed n fuel ((sendSealed x y obj s).modSession n fun x =>
            { x with sealing := rest, lastIndex := some y.win, done := satAdd max64 x.done 1 })
        | none => s
      | [] => s

/-- Close the open window of a session and start its signing job; without a region it is not sealed (R298, R299). -/
def closeWindow (n : Nat) (s : State) : State :=
  match s.session? n, s.stream? n with
  | some x, some st => match x.window with
    | none => s
    | some w =>
      let y : Sealing := { win := w.win, record := harvestRecord x st.cfg w s.time.quality.code }
      let s1 := s.modSession n fun x => { x with window := none, sealing := x.sealing ++ [y] }
      if s.anyInService then s1 else sealFail n w.win st.cfg.owner .noRegion s1
  | _, _ => s

/-- Fold a frame of publisher stream `n` that leaves at this tick (R295, R296). -/
def foldSeal (n : Nat) (bare : List Byte) (s : State) : State :=
  match s.session? n, s.stream? n with
  | some x, some st =>
    let w := s.tick / x.t
    if !(x.role == 1) || decide (w < x.fromWin) then s
    else
      let s1 := if x.window.any fun o => !(o.win == w) then closeWindow n s else s
      let k := frameKey st.cfg.kind bare
      s1.modSession n fun x =>
        { x with window := some (match x.window with
            | some o => { o with count := o.count + 1, last := k, chain := sha3 (o.chain ++ frameDigest bare) }
            | none => { win := w, count := 1, first := k, last := k,
                        chain := sha3 (chain0 st.cfg w x.windowUs ++ frameDigest bare) }) }
  | _, _ => s

/-- HARVEST_WINDOW_CLOSE (R298): the open window of a SEAL session has ended. -/
def execHarvestWindowClose (n : Nat) (s : State) : Host.Outcome State Fault Refusal :=
  .next (
    match s.session? n with
    | some x => if x.window.any fun w => decide ((w.win + 1) * x.t ≤ s.tick) then closeWindow n s else s
    | none => s)

/-- The status that ends a sealing (R299, R143): the key of the session at signing. -/
def sealStatus (s : State) (x : Session) : Option Status :=
  match s.key? x.handle with
  | none => some .badHandle
  | some k =>
    if !(hGen x.handle == (s.inst k.inst).gen % 16) then some .handleStale
    else if !k.use 0 then some .keyPolicy
    else if !(familyOn s 4 && algEnabled s x.sigAlg) then some .algDisabled
    else if 0 < k.pol.usageLimit ∧ k.pol.usageLimit ≤ k.usage then some .keyLimit
    else if !inPeriod k.pol s.tick then some .keyPeriod
    else if !s.anyInService then some .noRegion
    else none

/-- The secret of a key that lies in its home shelf, in the shares of a cell at masking order `order` (R116); otherwise a free value that
the blob would give. -/
def shelfSecret (s : State) (k : KeyRec) (order : Nat) : List Byte × State :=
  match s.onShelf k.home k.inst k.keyId with
  | some e =>
    let (x, s1) := e.toCell order s
    (x.secret, s1)
  | none => drawBytes 32 s

/-- Add the energy of a session's job to the counter of its instance (R293, R96): `nj` where the spec fixes it. -/
def sessionEnergy (i : Nat) (nj : Option Nat) (s : State) : State :=
  let (e, s1) := match nj with
    | some e => (e, s)
    | none => drawEnergy s
  s1.modInst i fun n => { n with energy := satAdd max64 n.energy e }

/-- Count a session's job in the batches of its instance (R299, R89). -/
def sessionBatch (i : Nat) (s : State) : State :=
  let (q, s1) := takeJseq s
  countInBatch i 32 q [] s1

/-- A usable lattice cell of pan `p` in region `r`, the lowest. -/
def State.latticeIn (s : State) (r p : Nat) : Option Nat :=
  (List.range 32).find? fun n => n / 8 == p && s.usable r .lattice n

/-- The region that signs for a session (R299, R20): the key's home, or that with the least queued work. -/
def sealRegion (s : State) (k : KeyRec) : Option Nat :=
  if s.takes (some .lattice) k.home then some k.home else leastQueued s (regionNums.filter (s.takes (some .lattice)))

/-- The pan of region `r` that signs, `not` excepted: its generator gives the `n` mask bytes now (R120, R121). -/
def sealPan (s : State) (r n : Nat) (not : Option Nat) : Option Nat :=
  panNums.find? fun p => some p != not && (s.latticeIn r p).isSome && !(s.pan r p).msg.fault && decide (n ≤ (s.pan r p).msg.room)

/-- The region and pan of the release check of a signature of pan `p` (R125). -/
def sealCheckPlace (s : State) (r p : Nat) : Option (Nat × Nat) :=
  match panNums.find? fun q => q != p && (s.latticeIn r q).isSome with
  | some q => some (r, q)
  | none => (regionNums.filter fun x => x != r && s.inService x).findSome? fun x =>
      (panNums.find? fun q => (s.latticeIn x q).isSome).map fun q => (x, q)

/-- One signing of a record in pan `p` of region `r`: `n` mask bytes, 32 bytes of the reservoir and the key's shares give a signature, or
256 rejected attempts end it (R150). The check of R124 runs at `at'`, with the crystallizer entry of the key there; the answer is whether
it passes. -/
def sealOnce (x : Session) (k : KeyRec) (record : List Byte) (r p n : Nat) (at' : Nat × Nat) (s : State) :
    Except Status Bool × List Byte × State :=
  let s1 := (drawMask r p n s).2
  let (rnd, s2) := drawBytes 32 (s1.modRegion r fun g => { g with rng := { g.rng with reservoir := g.rng.reservoir - 32 } })
  let (sk, s3) := shelfSecret s2 k (s.orderOfKey r k)
  let args := [le 1 x.sigAlg, sk, ascii "EXM-HARVEST-1", rnd, ascii "pure", record]
  let sig := stdN (sigLen x.sigAlg) "ML-DSA.Sign" args
  let pub := match s.onShelf k.home k.inst k.keyId with
    | some e => e.pub
    | none => derivePub k.alg 0 sk
  let s4 := (probeTag at'.1 k.inst x.sigAlg k.digest s.tick s3).2
  let s5 := s4.modRegion r fun g => { g with lat := { g.lat with
    vbrDone := inc32 g.lat.vbrDone, vbrX := if at'.1 = r then g.lat.vbrX else inc32 g.lat.vbrX } }
  if !Config.stdOk "ML-DSA.Sign ends within 256 attempts" args then (.error .rejectLimit, sig, s3)
  else (.ok (Config.stdOk "ML-DSA.Verify" [le 1 x.sigAlg, pub, ascii "EXM-HARVEST-1", sig, ascii "pure", record]), sig, s5)

/-- A failed check of a session's signature is a RETRY fault of the cell that signed (R127). -/
def sealCheckFail (r p : Nat) (s : State) : State :=
  let s1 := s.modRegion r fun g => { g with lat := { g.lat with vbrFail := inc32 g.lat.vbrFail } }
  let (x, s2) := record { on := cellUnit r .lattice ((s.latticeIn r p).getD 0), cause := .releaseCheck } .retry s1
  match x with
  | some x => startTest x s2
  | none => s2

/-- A signature that the device makes in region `r` with `n` mask bytes, checked before release (R124), and made again once in another pan
where the check fails (R127). `once` signs in a pan, with the place of the check. Answers the signature or the status that ends it; none
while no pan can sign. -/
def checkedSign (r n : Nat) (once : Nat → Nat × Nat → State → Except Status Bool × List Byte × State) (s : State) :
    Option (Except Status (List Byte) × State) :=
  match sealPan s r n none with
  | none => none
  | some p => match sealCheckPlace s r p with
    | none => some (.error .noRegion, s)
    | some a => match once p a s with
      | (.error bad, _, s1) => some (.error bad, s1)
      | (.ok true, sig, s1) => some (.ok sig, s1)
      | (.ok false, _, s1) =>
        let s2 := sealCheckFail r p s1
        match sealPan s2 r n (some p) with
        | none => some (.error .retryTransient, s2)
        | some p' => match sealCheckPlace s2 r p' with
          | none => some (.error .noRegion, s2)
          | some a' => match once p' a' s2 with
            | (.error bad, _, s3) => some (.error bad, s3)
            | (.ok true, sig, s3) => some (.ok sig, s3)
            | (.ok false, _, s3) => some (.error .releaseCheckFail, sealCheckFail r p' s3)

/-- The signing of a record (R299): in the key's home region at the effective order. None while the seed, mask bytes or random bytes it
needs are not there. -/
def sealSign (x : Session) (k : KeyRec) (record : List Byte) (s : State) : Option (Except Status (List Byte) × State) :=
  match sealRegion s k with
  | none => some (.error .noRegion, s)
  | some r =>
    let n := maskScale (s.orderOfKey r k) (maskBytes 2 x.sigAlg)
    if (s.region r).rng.reservoir < 32 then none
    else checkedSign r n (fun p a s => sealOnce x k record r p n a s) s

/-- HARVEST_SEAL_DONE (R299, R300): the signing of window `w` ends; sealed objects leave in window order. -/
def execHarvestSealDone (n w : Nat) (s : State) : Host.Outcome State Fault Refusal :=
  .next (
    match s.session? n, s.stream? n with
    | some x, some st => match x.sealing.find? fun y => y.win == w && y.object.isNone with
      | none => s
      | some y =>
        let fails (bad : Status) (s : State) : State := flushSealed n x.sealing.length (sealFail n w st.cfg.owner bad s)
        match sealStatus s x, s.key? x.handle with
        | some bad, _ => fails bad s
        | none, none => s
        | none, some k => match sealSign x k y.record s with
          | none => s
          | some (.error bad, s1) => fails bad (sessionEnergy st.cfg.owner none s1)
          | some (.ok sig, s1) =>
            let s2 := sessionBatch st.cfg.owner (sessionEnergy st.cfg.owner none (s1.modKey x.handle fun k =>
              if 0 < k.pol.usageLimit then { k with usage := k.usage + 1 } else k))
            let s3 := (s2.modSession n fun x => { x with sealing := x.sealing.map fun z =>
              if z.win == w && z.object.isNone then { z with object := some (z.record ++ sig) } else z }).modHvw fun h =>
                { h with sealed := inc32 h.sealed }
            flushSealed n (x.sealing.length + 1) s3
    | _, _ => s)

/-! ### Receiving (R302-R308) -/

/-- Step 5 of R273 for a harvest frame: the checks of R302 that the payload `b` and its session give. -/
def shardLengthOk (x : Option Session) (b : List Byte) : Bool :=
  let idx := fld b 3 1 % 16
  let count := fld b 3 1 / 16
  let len := fld b 6 2
  let total := fld b 14 2
  fld b 2 1 == 1 && decide (1 ≤ count) && decide (idx < count) && fld b 4 2 == idx * 1484 &&
    (b.length == 16 + len || (decide (len < 30) && b.length == 46)) &&
    len == (if count = 1 then total else if idx + 1 < count then 1484 else total - idx * 1484) &&
    match x with
    | none => decide (count ≤ 3)
    | some x => total == sealedLen x.sigAlg && (count == 1 || count == shardCount x.sigAlg)

/-- The VERIFY session that a harvest stream serves, with its publisher stream. -/
def verifyOf (s : State) (h : Nat) : Option (Nat × Session) :=
  s.frames.sessions.find? fun e => e.2.hstream == h && e.2.role == 2

/-- Resolve the run of a record as HARVEST_FAIL with a reason (R307). -/
def failRecord (n : Nat) (rec : List Byte) (reason : Nat) (s : State) : State :=
  match s.session? n with
  | none => s
  | some x =>
    let win := fld rec 0x18 6
    let (run, rest) := match findRun (fld rec 0x28 8) (fld rec 0x30 8) x.pend with
      | some (b, r, a) => (r, b ++ a)
      | none => ([], x.pend)
    let s1 := s.modSession n fun x => { x with pend := rest }
    let s2 := deliverHeld n 3 (fun _ => win) run s1
    let s3 := harvestEntry n 3 reason run.length win (fld rec 0x1E 1 % 4) (fld rec 0x20 8) s2
    let s4 := s3.modHvw fun h => { h with fail := inc32 h.fail }
    if reason = 7 ∨ reason = 3 then streamFail x.hstream s.tick s4 else s4

/-- A record passes: its run is HARVEST_PASS, its index the last passing one, and the frames ahead of the run are lost
(R307). -/
def passRecord (n : Nat) (rec : List Byte) (s : State) : State :=
  match s.session? n with
  | none => s
  | some x =>
    let win := fld rec 0x18 6
    let (ahead, run, rest) := match findRun (fld rec 0x28 8) (fld rec 0x30 8) x.pend with
      | some r => r
      | none => ([], [], x.pend)
    let s1 := s.modSession n fun x => { x with pend := rest, lastIndex := some win, done := satAdd max64 x.done 1 }
    let s2 := resolveLost n x ahead s1
    let s3 := deliverHeld n 2 (fun _ => win) run s2
    (harvestEntry n 2 0 run.length win (fld rec 0x1E 1 % 4) (fld rec 0x20 8) s3).modHvw fun h =>
      { h with pass := inc32 h.pass }

/-- The reason that steps 1 to 6 of R307 give a record; none where the signature check decides. -/
def recordReason (s : State) (x : Session) (c : StreamCfg) (win : Nat) (rec : List Byte) : Option Nat :=
  let start := fld rec 0x20 8
  let timed := decide (2 ≤ s.time.quality.code)
  let run := findRun (fld rec 0x28 8) (fld rec 0x30 8) x.pend
  let same := slice rec 0 8 == ascii "EXMHVR01" && fld rec 8 1 == x.sigAlg && fld rec 9 1 == c.kind &&
    fld rec 0xA 2 == x.windowUs && slice rec 0x10 6 == fit 6 c.srcMac && bfld rec 0x16 2 == c.appid &&
    fld rec 0x18 6 == win && start / x.t == win && start == win * x.t && fld rec 0x1E 1 < 4 && zero? rec 0x1F 1
  if !same then some 7
  else if timed && decide (s.tick < start + x.t) then some 7
  else if timed && decide (start + x.t + x.wait ≤ s.tick) then some 5
  else match run with
    | none => some 1
    | some (_, r, _) =>
      if !(r.length == fld rec 0xC 4) then some 1
      else if !(chainOver (chain0 c win x.windowUs) (r.map (·.digest)) == slice rec 0x38 32) then some 2
      else match s.key? x.handle with
        | none => some 8
        | some k =>
          if !(hGen x.handle == (s.inst k.inst).gen % 16) || !inPeriod k.pol s.tick then some 8
          else if !s.anyInService then some 6 else none

/-- An assembly is complete: the record is checked, and its verification job starts (R306, R307). -/
def recordComplete (n : Nat) (a : Assembly) (s : State) : State :=
  match s.session? n, s.stream? n with
  | some x, some st =>
    let obj := (a.parts.map (·.2)).flatten
    let rec' := obj.take 88
    let s1 := s.modSession n fun x => { x with assemblies := x.assemblies.filter fun y => !(y.win == a.win) }
    match recordReason s x st.cfg a.win rec' with
    | some r => failRecord n rec' r s1
    | none => s1.modSession n fun x =>
        { x with verify := x.verify ++ [{ record := rec', sig := obj.drop 88 }] }
  | _, _ => s

/-- A shard that passed its verdict joins the assembly of its window (R303). -/
def takeShard (h : Nat) (b : List Byte) (s : State) : State :=
  match verifyOf s h with
  | none => s
  | some (n, x) =>
    let win := fld b 8 6
    let off := fld b 4 2
    let count := fld b 3 1 / 16
    let body := slice b 16 (fld b 6 2)
    let without := x.assemblies.filter fun y => !(y.win == win)
    match x.assemblies.find? fun y => y.win == win with
    | some a =>
      if !(a.count == count) then dropShards 1 (s.modSession n fun x => { x with assemblies := without })
      else match tfind a.parts off with
        | some old => if old = body then s else dropShards 1 (s.modSession n fun x => { x with assemblies := without })
        | none =>
          let a' := { a with parts := tins off body a.parts }
          let s1 := s.modSession n fun x =>
            { x with assemblies := x.assemblies.map fun y => if y.win == win then a' else y }
          if a'.parts.length = count then recordComplete n a' s1 else s1
    | none =>
      let a : Assembly := { win := win, since := s.tick, count := count, total := fld b 14 2, parts := [(off, body)] }
      let full := decide (4 ≤ x.assemblies.length)
      let s1 := if full then dropShards 1 s else s
      let s2 := s1.modSession n fun x =>
        { x with assemblies := (if full then x.assemblies.drop 1 else x.assemblies) ++ [a] }
      if count = 1 then recordComplete n a s2 else s2

/-- HARVEST_VERIFY_DONE (R307): the oldest signature check of the session ends, in the region that signs for the key (R299). The public key is
that of the shelf, otherwise a free value that the blob would give. -/
def execHarvestVerifyDone (n : Nat) (s : State) : Host.Outcome State Fault Refusal :=
  .next (
    match s.session? n, s.stream? n with
    | some x, some st =>
      match x.verify with
      | [] => s
      | v :: rest =>
        let s1 := s.modSession n fun x => { x with verify := rest }
        match s.key? x.handle, (s.key? x.handle).bind (sealRegion s) with
        | none, _ => failRecord n v.record 8 s1
        | some _, none => failRecord n v.record 6 s1
        | some k, some r =>
          let (pub, s1) := match s.onShelf k.home k.inst k.keyId with
            | some e => (e.pub, s1)
            | none => drawBytes (pubLen k.alg) s1
          let (hit, s2) := probeTag r st.cfg.owner x.sigAlg k.digest s.tick s1
          let s2 := sessionBatch st.cfg.owner (sessionEnergy st.cfg.owner (latticeNj .verify x.sigAlg 0 hit (s.efficient r)) s2)
          if Config.stdOk "ML-DSA.Verify" [le 1 x.sigAlg, pub, ascii "EXM-HARVEST-1", v.sig, ascii "pure", v.record] then
            passRecord n v.record s2
          else failRecord n v.record 3 s2
    | _, _ => s)

/-- A folded frame of a VERIFY session joins the pending list, or is refused by it (R304, R305); `deliverable` says that its verdict is one
that DELIVER 2 takes (R277). The answer is the HSTATE of a frame that is delivered at once, or none where every DELIVER 2 subscriber
waits. -/
def foldVerify (n : Nat) (bare : List Byte) (h : Held) (ingress : Nat) (deliverable : Bool) (s : State) : Option Nat × State :=
  match s.session? n, s.stream? n with
  | some x, some st =>
    let p : PFrame := { key := frameKey st.cfg.kind bare, digest := frameDigest bare, ingress := ingress,
                        win := ingress / x.t }
    if 65536 ≤ s.pendingFrames then
      let s1 := s.modHvw fun h => { h with overflow := inc32 h.overflow }
      (some 3, harvestEntry n 3 9 1 p.win 0 (p.win * x.t) s1)
    else
      let wants := deliverable && st.subs.any fun y => y.deliver == 2
      let fits := decide (s.heldBytes + h.data.length ≤ 8388608)
      let s1 := s.modSession n fun x => { x with pend := x.pend ++ [{ p with held := if wants && fits then some h else none }] }
      if wants && !fits then (some 1, s1.modHvw fun h => { h with overflow := inc32 h.overflow })
      else (none, s1)
  | _, _ => (some 0, s)

/-- ASSEMBLY_TIMEOUT (R303): assemblies incomplete at 2 × T + WAIT_US. -/
def execAssemblyTimeout (n : Nat) (s : State) : Host.Outcome State Fault Refusal :=
  .next (
    match s.session? n with
    | none => s
    | some x =>
      let late (a : Assembly) : Bool := decide (a.since + 2 * x.t + x.wait ≤ s.tick)
      dropShards (x.assemblies.filter late).length
        (s.modSession n fun x => { x with assemblies := x.assemblies.filter fun a => !late a }))

/-- PENDING_FRAME_TIMEOUT (R308): frames no record has resolved by (p + 1) × T + WAIT_US. -/
def execPendingFrameTimeout (n : Nat) (s : State) : Host.Outcome State Fault Refusal :=
  .next (
    match s.session? n with
    | none => s
    | some x =>
      let late (p : PFrame) : Bool := decide ((p.win + 1) * x.t + x.wait ≤ s.tick)
      resolveLost n x (x.pend.filter late) (s.modSession n fun x => { x with pend := x.pend.filter fun p => !late p }))

/-- TIME_ALLOWED_TO_LIVE_EXPIRY (R275, R305): a held GOOSE frame whose timeAllowedtoLive has run out is delivered with
STALE and HSTATE 1, and stays pending. -/
def execTimeAllowedToLiveExpiry (n : Nat) (s : State) : Host.Outcome State Fault Refusal :=
  .next (
    match s.session? n with
    | none => s
    | some x =>
      let late (p : PFrame) : Bool := p.held.any fun h => h.ttl.any fun t => decide (p.ingress + t ≤ s.tick)
      let s1 := deliverHeld n 1 (·.win) (x.pend.filter late) s
      s1.modSession n fun x => { x with pend := x.pend.map fun p => if late p then { p with held := none } else p })

/-! ### FRM.HARVEST_SET and FRM.HARVEST_STATUS -/

/-- Reserved fields of the body and its codes (R292 step 1). -/
def harvestForm (j : Job) : Bool :=
  let b := j.args
  let role := fld b 4 1
  decide (role ≤ 2) && decide (fld b 11 1 ≤ 1) && fld b 0x12 1 < 8 && zero? b 0x13 5 &&
    (!(role == 0) || (zero? b 2 2 && zero? b 5 0x13 && j.handle == nullHandle)) &&
    (role == 0 || !(j.handle == nullHandle))

/-- Step 3 of R292. -/
def harvestParams (s : State) (j : Job) (st h : Stream) : Bool :=
  let b := j.args
  let n := fld b 0 2
  let hn := fld b 2 2
  let w := fld b 8 2
  let role := fld b 4 1
  (st.cfg.kind == 1 || st.cfg.kind == 2) && bit st.cfg.flags 3 && h.cfg.kind == 4 && h.cfg.auth == 0 &&
    h.cfg.owner == st.cfg.owner && !(s.frames.sessions.any fun e => !(e.1 == n) && e.2.hstream == hn) &&
    (fld b 5 1 == 0x11 || fld b 5 1 == 0x12) && decide (100 ≤ fld b 6 2) && decide (fld b 6 2 ≤ 10000) &&
    (if role = 1 then w == 0 else decide (50 ≤ w) && fld b 11 1 == 0 && zero? b 12 6) && decide (fld b 10 1 ≤ 1)

/-- Step 4 of R292. -/
def harvestPort (s : State) (role : Nat) (h : Stream) : Bool :=
  if role = 1 then decide (h.cfg.egress < 16) && ((s.port h.cfg.egress).mode == .endpoint ||
    (s.port h.cfg.egress).mode == .passThrough) else !(h.cfg.ports == 0)

/-- Steps 5 and 6 of R292; the use of R52 step 5 is SIGN for SEAL and VERIFY for VERIFY. -/
def harvestKey (s : State) (j : Job) (role owner alg : Nat) : Option Status :=
  if !(bits j.handle.toNat 23 22 == 0) then some .malformed
  else if !(hInst j.handle == owner) then some .foreignObject
  else if !(hGen j.handle == (s.inst owner).gen % 16) then some .handleStale
  else match s.key? j.handle with
    | none => some .badHandle
    | some k =>
      if !k.use (role - 1) then some .keyPolicy
      else check ((k.cls == 0 || (role == 2 && k.cls == 1)) && k.alg == alg) .badHandle

/-- FRM.HARVEST_SET (R290-R293). -/
def frmHarvestSet (c : Cmd) (s : State) : State × Option Res :=
  let j := c.job
  let b := j.args
  let n := fld b 0 2
  let role := fld b 4 1
  orBad [paramZero j 0xFFFFFFFF, bodyIs j 0x18, check (harvestForm j) .malformed, famEnabled s j,
      check ((s.stream? n).isSome && (role == 0 || (s.stream? (fld b 2 2)).isSome)) .streamUnknown] s fun s =>
    if role = 0 then (endSession n (commit j.id s), some okRes)
    else match s.stream? n, s.stream? (fld b 2 2) with
      | some st, some h =>
        orBad [check (harvestParams s j st h) .paramUnsupported, check (harvestPort s role h) .portState,
            harvestKey s j role st.cfg.owner (fld b 5 1),
            check ((s.session? n).isSome || decide (s.frames.sessions.length < 256)) .quota] s fun s =>
          let t := fld b 6 2 * 1000
          let x : Session :=
            { hstream := fld b 2 2, role := role, sigAlg := fld b 5 1, windowUs := fld b 6 2, waitUs := fld b 8 2,
              cls := fld b 10 1, format := fld b 11 1, dst := slice b 12 6, pcp := fld b 0x12 1, handle := j.handle,
              fromWin := (s.tick + t - 1) / t }
          ((endSession n (commit j.id s)).modFrames fun f => { f with sessions := tins n x f.sessions }, some okRes)
      | _, _ => (s, some (stRes .streamUnknown))

/-- The session record of R312. -/
def sessionRecord (x : Session) : List Byte :=
  let w := x.lastIndex.getD 0
  le 1 x.role ++ le 1 x.sigAlg ++ le 2 x.windowUs ++ le 2 x.hstream ++ le 2 (min 0xFFFF x.pend.length) ++ le 6 w ++ zeros 2 ++
    le 8 (w * x.t) ++ le 8 x.done ++ le 8 x.failed

/-- FRM.HARVEST_STATUS (R312). -/
def frmHarvestStatus (c : Cmd) (s : State) : State × Option Res :=
  let j := c.job
  let n := fld j.args 0 2
  orBad [paramZero j 0xFFFFFFFF, bodyIs j 4, check (zero? j.args 2 2 && j.handle == nullHandle) .malformed,
      famEnabled s j, check (s.stream? n).isSome .streamUnknown] s fun s =>
    (s, some (respRes (match s.session? n with
      | some x => sessionRecord x
      | none => zeros 0x28)))

/-- FRM.HARVEST_STATUS (R312). -/
def execFrmHarvestStatus (j : Nat) (s : State) : Host.Outcome State Fault Refusal :=
  .next (runVerb 0x080B j frmHarvestStatus s)

end Sys2Proof.Machine
end

