-- ==== Sys2Proof/Machine/FramePath.lean ====
section
/-! DEFINITION. Frames through the ports (R264, R272-R288): reception and verdicts, forwarding and egress, the FRM verbs,
PTP messages and port links. -/

namespace Sys2Proof.Machine

/-! ### Keys and the checks of R273 -/

/-- The key slots of a stream with their numbers. -/
def Stream.keys (st : Stream) : List (Nat × FKey) := st.key0.toList.map (0, ·) ++ st.key1.toList.map (1, ·)

/-- The key that signs at tick `t`: its period contains it, the later VALID_FROM of two (R286). -/
def Stream.keyAt (st : Stream) (t : Nat) : Option FKey :=
  (st.keys.filter fun e => decide (e.2.from' ≤ t) && decide (t < e.2.till)).foldl (fun b e => match b with
    | none => some e.2
    | some k => if k.from' < e.2.from' then some e.2 else some k) none

/-- The token bucket of a stream at tick `t` (R276). -/
def Stream.refill (st : Stream) (t : Nat) : Nat :=
  min (st.cfg.burst * 1000000000) (st.level + (t - st.levelTick) * st.cfg.rateCeil)

/-- What steps 6 to 9 of R273 answer: a verdict, a fault pattern of the MATCH pair, or whether a tag was verified; and with which
slot. -/
inductive AuthAns where
  | bad (v slot : Nat)
  | fault (slot : Nat)
  | good (tag : Bool) (slot : Nat)
deriving DecidableEq, Repr

/-- The frame carries the extension of IEC 62351-6. -/
def hasExt (bare : List Byte) : Bool := Config.stdOk "IEC 62351-6 extension present" [bare]

/-- Steps 6 to 9 of R273; `fault` is a fault pattern of the MATCH pair. CHK of KIND 3 is step 9 of a stream that has no
tag (log 92). -/
def authCheck (st : Stream) (bare : List Byte) (ingress : Nat) (fault : Bool) : AuthAns :=
  let c := st.cfg
  if c.kind = 3 then
    if Config.stdOk "IEEE C37.118.2 CHK" [bare] then .good false 0xFF else .bad 0x10 0xFF
  else if c.auth = 0 then .good false 0xFF
  else if !hasExt bare then
    if bit c.flags 0 then .bad 0x10 0xFF else .good false 0xFF
  else if !Config.stdOk "IEC 62351-6 algorithm, no encryption" [le 1 c.auth, bare] then .bad 0x10 0xFF
  else match st.keys.find? fun e => e.2.keyId == stdN 4 "IEC 62351-6 Key ID" [bare] with
    | none => .bad 0x13 0xFF
    | some (n, k) =>
      if !(decide (k.from' ≤ ingress) && decide (ingress < k.till)) then .bad 0x14 n
      else if fault then .fault n
      else if !Config.stdOk "IEC 62351-6 MAC" [le 1 c.auth, k.key, bare] then .bad 0x10 n
      else .good true n

/-- Serial comparison over 1 to 2^32 - 1 (R274). -/
def newer (x l : Nat) : Bool :=
  let d := (x + max32 - l % max32) % max32
  decide (1 ≤ d) && decide (d ≤ 2 ^ 31 - 1)

/-- Step 10 (R274, R302). -/
def replayOk (s : State) (n : Nat) (st : Stream) (off : Nat) (b bare : List Byte) : Bool :=
  match st.cfg.kind with
  | 1 =>
    let sn := gooseSt bare
    let sq := gooseSq bare
    !st.seen || newer sn st.lastSt || (sn == st.lastSt && !(sq == 0) && newer sq st.lastSq) ||
      (sn == 1 && decide (st.lastT < gooseT bare) && !(sq == 0))
  | 2 =>
    let r := max 1 st.cfg.smpRate
    let d := (svCnt bare + r - st.lastSt % r) % r
    !st.seen || (decide (1 ≤ d) && decide (d ≤ (r + 1) / 2 - 1))
  | 4 =>
    match verifyOf s n with
    | some (_, x) => x.lastIndex.all fun l => decide (l < fld (b.drop off) 8 6)
    | none => true
  | _ => true

/-- Step 11 (R274, R275). -/
def isStale (s : State) (st : Stream) (bare : List Byte) (ingress : Nat) : Bool :=
  let timed := decide (2 ≤ s.time.quality.code)
  match st.cfg.kind with
  | 1 =>
    timed && (!st.seen || newer (gooseSt bare) st.lastSt) && decide (gooseSq bare ≤ 1) &&
      decide (gooseT bare + s.time.utcOffset * 1000000000 + gooseTtl bare ≤ ingress)
  | 2 =>
    let r := max 1 st.cfg.smpRate
    let e := ingress % 1000000000 * r / 1000000000
    let c := svCnt bare
    let d := min ((e + r - c % r) % r) ((c + r - e % r) % r)
    timed && decide (0 < st.cfg.svAgeUs) && svGlobal bare && decide (st.cfg.svAgeUs * 1000 ≤ d * 1000000000 / r)
  | _ => false

/-- Step 5 (R273, R302). -/
def lengthsOk (s : State) (n : Nat) (st : Stream) (off : Nat) (b bare : List Byte) : Bool :=
  match st.cfg.kind with
  | 3 => bfld b (off + 30) 2 + 8 == bfld b (off + 24) 2
  | 4 => shardLengthOk ((verifyOf s n).map (·.2)) (b.drop off)
  | _ => Config.stdOk "IEC 61850 Length, Reserved 1 and APDU length agree" [bare]

/-- What the checks of R273 answer: the verdict, the slot that judged, whether the frame passed steps 4 to 10 (R296), and whether the
MATCH pair of step 9 read a fault pattern. -/
structure Verdict where
  code : Nat
  slot : Nat := 0xFF
  folds : Bool := false
  fault : Bool := false
deriving DecidableEq, Repr

/-- Steps 5 to 12 of R273; `off` is where the frame's payload starts. -/
def judge (s : State) (n : Nat) (st : Stream) (off : Nat) (b bare : List Byte) (ingress : Nat) (fault : Bool) : Verdict :=
  if !lengthsOk s n st off b bare then { code := 0x16 }
  else match authCheck st bare ingress fault with
    | .bad v slot => { code := v, slot := slot }
    | .fault slot => { code := 0x10, slot := slot, fault := true }
    | .good tag slot =>
      if !replayOk s n st off b bare then { code := 0x11, slot := slot }
      else if isStale s st bare ingress then { code := 0x12, slot := slot, folds := true }
      else if st.st = .quarantined then { code := 0x17, slot := slot, folds := true }
      else { code := if tag then 0 else 1, slot := slot, folds := true }

/-- A verdict that is a failure (R278). -/
def isFailure (v : Nat) : Bool := [0x10, 0x11, 0x13, 0x14, 0x15, 0x16].contains v

/-- The verdict lets a stream's FWD forward the frame (R277). -/
def forwards (fwd v : Nat) : Bool :=
  match fwd with
  | 1 => decide (v ≤ 1)
  | 2 => !([0x12, 0x15, 0x17].contains v)
  | _ => false

/-- The verdict lets a subscription's DELIVER take the frame (R277). -/
def delivers (deliver v : Nat) : Bool := decide (v ≤ 1) || (decide (1 ≤ deliver) && !([0x15, 0x17].contains v))

/-- 802.1Q priority of a frame (R286); one without a tag has 0. -/
def framePrio (red : Nat) (b : List Byte) : Nat := ((parseFrame red b).vlan.map fun t => bits t 15 13).getD 0

/-! ### Reception -/

/-- A frame and an earlier one of its source are a pair of IEC 62439-3: the same sequence number by the other LAN or path, within the
EntryForgetTime of 400 ms (R267, log 92). -/
def RedFrame.pairs (x y : RedFrame) : Bool := x.seq == y.seq && x.lan != y.lan && decide (x.tick < y.tick + 400000000)

/-- Take a frame of a source into the duplicate window of a pair, 64 entries for each source: true where it is a duplicate (R267). -/
def dupCheck (seen : List (List Byte × List RedFrame)) (src : List Byte) (x : RedFrame) : Bool × List (List Byte × List RedFrame) :=
  match seen.find? fun e => e.1 == src with
  | some (_, l) =>
    if l.any x.pairs then (true, seen)
    else (false, seen.map fun e => if e.1 == src then (src, keepLast 64 (l ++ [x])) else e)
  | none => (false, seen ++ [(src, [x])])

/-- Forward a frame to the partner of port `p` (R277, R288). -/
def forward (p : Nat) (e : Egress) (s : State) : State := enqueue (partner p) { e with prio := framePrio (s.red p) e.data } s

/-- The step-1 length of a frame from destination address through FCS without tags and trailer (R268). -/
def netLength (red : Nat) (b : List Byte) : Nat :=
  let q := parseFrame red b
  b.length + 4 - (if q.vlan.isSome then 4 else 0) - (if q.hsr.isSome then 6 else 0) - (if (rct red b).isSome then 6 else 0)

/-- Answer the Pdelay_Req `b` on port `p` (R264). -/
def answerPdelay (p : Nat) (b : List Byte) (s : State) : State :=
  enqueue p { data := Config.std "IEEE 1588 Pdelay_Resp, one-step" [b, le 8 s.tick], prio := framePrio (s.red p) b, ingress := s.tick,
              own := true } s

/-- A PTP frame (R264, R262): a pass-through pair forwards it; an ENDPOINT port that TIM_CFG names consumes it, in its own row
(PTP_MESSAGE_RECEIVE). Both answer Pdelay_Req, which the peer-to-peer delay of R253 asks of either. -/
def rxPtp (p : Nat) (b : List Byte) (s : State) : State :=
  let through := (s.port p).mode == .passThrough
  if Config.stdOk "IEEE 1588 Pdelay_Req" [b] then
    if through || ((s.port p).mode == .endpoint && (portSource s p).isSome) then answerPdelay p b s else s
  else if through then forward p { data := b, prio := 0, ingress := s.tick, ptp := true } s
  else s

/-- An unclassified frame (R269). -/
def rxUnknown (p : Nat) (b : List Byte) (s : State) : State :=
  let x := s.port p
  let s1 := s.modPort p fun x => { x with unknown := inc32 x.unknown }
  let fwd := x.fwdUnknown && x.mode == .passThrough
  let s2 := if fwd then forward p { data := b, prio := 0, ingress := s.tick } s1 else s1
  if 8 ≤ x.unknownRing then s2
  else (putEntry 0 x.unknownRing 1 b.length
    (padUnit b ++ trailer 0x18 0 s.time.quality.code fwd 0xFFF p s.tick 0 0 0xFF) false s2).2

/-- The replay, silence and count state of a frame that passes (R273). -/
def notePass (n : Nat) (kind : Nat) (bare : List Byte) (ingress : Nat) (s : State) : State :=
  streamPass n ingress ((frameTtl kind bare).getD 0) (s.modStream n fun st =>
    match kind with
    | 1 => { st with seen := true, lastSt := gooseSt bare, lastSq := gooseSq bare, lastT := gooseT bare }
    | 2 => { st with seen := true, lastSt := svCnt bare }
    | _ => st)

/-- Deliver a judged frame of stream `n`; a folded frame of a VERIFY session takes its HSTATE of R305, but for a subscription with
DELIVER 0, to which it is not harvested (log 39). -/
def rxDeliver (n : Nat) (st : Stream) (f : Judged) (bare : List Byte) (folds : Bool) (s : State) : State :=
  let want (x : Sub) : Bool := !(st.st == .quarantined) && delivers x.deliver f.verdict
  match folds && (s.session? n).any (fun x => x.role == 2), s.session? n with
  | true, some x =>
    let h : Held := { data := f.data, verdict := f.verdict, port := f.port, tq := f.tq, forwarded := f.forwarded,
                      slot := f.slot, ttl := frameTtl st.cfg.kind bare }
    let (now, s1) := foldVerify n bare h f.ingress (!(st.st == .quarantined) && delivers 1 f.verdict) s
    let win := f.ingress / x.t % 65536
    match now with
    | some hs => deliverAll n f hs win (fun y => want y && decide (1 ≤ y.deliver))
        (deliverAll n f 0 0 (fun y => want y && y.deliver == 0) s1)
    | none => deliverAll n f 1 win (fun y => want y && y.deliver == 1)
        (deliverAll n f 0 0 (fun y => want y && y.deliver == 0) s1)
  | _, _ => deliverAll n f 0 0 want s

/-- A frame of stream `n` (R273-R279). -/
def rxStream (p n : Nat) (b : List Byte) (fault : Bool) (s : State) : State :=
  match (rateRoll n s.tick s).stream? n with
  | none => s
  | some st =>
    let s0 := rateRoll n s.tick s
    let bare := bareFrame (s.red p) b
    let off := (parseFrame (s.red p) b).off
    let have' := st.refill s.tick
    let ceil := decide (0 < st.cfg.rateCeil)
    let empty := ceil && decide (have' < 1000000000)
    let s1 := s0.modStream n fun st =>
      { st with level := if empty || !ceil then have' else have' - 1000000000, levelTick := s.tick }
    let a : Verdict := if empty then { code := 0x15 } else judge s1 n st off b bare s.tick fault
    let v := a.code
    let s2 := if a.fault then raiseRetry { on := apexUnit .verdictEngine p, cause := .matchPattern } .abortedFault s1 else s1
    let s3 := if v ≤ 1 then notePass n st.cfg.kind bare s.tick s2 else s2
    let s4 := if isFailure v then streamFail n s.tick (s3.modPort p fun x => { x with fail := inc32 x.fail }) else s3
    let s5 := if v = 0x17 then s4.modStream n fun st => { st with quarFrames := satAdd max64 st.quarFrames 1 } else s4
    let through := (s.port p).mode == .passThrough && !(st.st == .quarantined) && forwards (bits st.cfg.flags 5 4) v
    let s6 := if through then
        forward p { data := b, prio := 0, stream := some n, fold := true, ingress := s.tick, ttl := frameTtl st.cfg.kind bare,
                    sign := if bit st.cfg.flags 1 && !(st.cfg.auth == 0) && !hasExt bare then
                      (st.keyAt s.tick).map fun k => (st.cfg.auth, k) else none } s5
      else s5
    let s7 := rxDeliver n st { data := b, port := p, verdict := v, tq := s.time.quality.code, ingress := s.tick,
                               forwarded := through, slot := a.slot } bare a.folds s6
    if st.cfg.kind = 4 ∧ v ≤ 1 then takeShard n (b.drop off) s7 else s7

/-- FRAME_RECEIVE (R273): a frame of `b` bytes without FCS on port `p`; `fcs` says whether its FCS is right, `fault` whether
its MATCH pair reads a fault pattern. -/
def execFrameReceive (p : Nat) (b : List Byte) (fcs fault : Bool) (s : State) : Host.Outcome State Fault Refusal :=
  .next (
    if decide (16 ≤ p) || !s.linkUp p then s
    else
      let x := s.port p
      let s1 := s.modPort p fun x => { x with rxFrames := inc32 x.rxFrames }
      if !fcs || decide (b.length + 4 < 64) || decide (x.mtu < netLength (s.red p) b) then
        let s2 := s1.modPort p fun x => { x with rxErr := inc32 x.rxErr }
        match streamOf s p b with
        | some n => streamFail n s.tick (s2.modPort p fun x => { x with fail := inc32 x.fail })
        | none => s2
      else
        let q := p - p % 2
        let (dup, seen) := match redTag (s.red p) b with
          | some (lan, seq) => dupCheck (s.port q).seen (srcMac b) { seq := seq, lan := lan, tick := s.tick }
          | none => (false, (s.port q).seen)
        let s2 := s1.modPort q fun y => { y with seen := seen }
        if dup then s2.modPort p fun x => { x with dup := inc32 x.dup }
        else if (parseFrame (s.red p) b).et = 0x88F7 then rxPtp p b s2
        else match frameKind s (s.red p) b with
          | none =>
            let s3 := s2.modPort p fun x => { x with other := inc32 x.other }
            if x.fwdOther && x.mode == .passThrough then forward p { data := b, prio := 0, ingress := s.tick } s3 else s3
          | some _ => match streamOf s p b with
            | none => rxUnknown p b s2
            | some n => rxStream p n b fault s2)

/-- The BMCA of IEEE 1588 keeps the master with the lower data set, compared as one number: priority 1, class, accuracy, variance,
priority 2 and identity (R253, log 91). -/
def SrcRec.follows (r : SrcRec) (m : Nat) : Bool := r.master.all fun k => decide (m ≤ k)

/-- PTP_MESSAGE_RECEIVE (R253, R264): an Announce or Sync of domain `domain` from the master with data set `m` reaches an enabled PTP
port, with its interval in ns, the measured offset, the source's error and what it says of UTC. A master that the BMCA does not choose
is not heard. -/
def execPtpMessageReceive (p domain : Nat) (msg : PtpMsg) (interval : Nat) (off : Int) (err utc : Nat) (l61 l59 : Bool)
    (s : State) : Host.Outcome State Fault Refusal :=
  .next (
    match portSource s p with
    | none => s
    | some x =>
      let r := s.time.src x
      let mode := (s.port p).mode
      if !s.linkUp p || !(mode == .endpoint || mode == .passThrough) || !(domain == s.time.cfg.domain) ||
          !(match msg with
            | .announce m => r.follows m
            | .sync m => r.master == some m) then s
      else match msg with
      | .announce m => utcFrom x utc l61 l59 (s.modTime fun t => t.modSrc x fun r =>
          { r with master := some m, lastAnnounce := s.tick, annInterval := interval, validSince := some (r.validSince.getD s.tick),
                   lastSync := if r.validSince.isNone then s.tick else r.lastSync,
                   syncInterval := if r.validSince.isNone then interval else r.syncInterval })
      | .sync _ => (measured x off err s).modTime fun t => t.modSrc x fun r => { r with syncInterval := interval })

/-- FRAME_PORT_LINK_CHANGE (R289): the link of port `p` comes up or goes down. -/
def execFramePortLinkChange (p : Nat) (up : Bool) (s : State) : Host.Outcome State Fault Refusal :=
  .next (
    if 16 ≤ p ∨ (s.port p).mode = .disabled ∨ (up ∧ ¬ s.portsUp) then s
    else s.modPort p fun x => { x with link := up })

/-! ### Egress -/

/-- The frame that leaves next: strict 802.1Q priority, first in first out within one (R286). -/
def nextEgress (q : List Egress) : Option Egress :=
  let top := (q.map (·.prio)).foldl max 0
  q.find? fun e => e.prio == top

/-- A frame with the IEC 62351-6 extension and MAC of a key (R286, R287). -/
def signFrame (auth : Nat) (k : FKey) (b : List Byte) : List Byte :=
  Config.std "IEC 62351-6 frame with extension" [le 1 auth, k.keyId, le 8 k.from', le 8 k.till, k.key, b]

/-- A frame as it leaves: SIGN_FWD adds its extension, the transparent clock its residence time (R264, R287). -/
def leaving (s : State) (e : Egress) : List Byte :=
  if e.ptp then Config.std "IEEE 1588 correctionField plus residence" [e.data, le 8 (s.tick - e.ingress)]
  else match e.sign with
    | some (auth, k) => signFrame auth k e.data
    | none => e.data

/-- The frame at the head of port `p` leaves the balls: counted, folded, or not forwarded any more when its
timeAllowedtoLive has run out (R275, R296). -/
def depart (p : Nat) (e : Egress) (s : State) : State :=
  let s1 := s.modPort p fun x => { x with queue := x.queue.erase e }
  if e.send.isNone && e.ttl.any fun t => decide (e.ingress + t ≤ s.tick) then s1
  else
    let b := leaving s e
    let s2 := emit (.frame p b) (s1.modPort p fun x =>
      if e.send.isSome then { x with tx := inc32 x.tx } else if e.own then x else { x with fwd := inc32 x.fwd })
    match e.stream with
    | some n => if e.fold then foldSeal n (bareFrame (if e.send.isSome then 0 else s.red (partner p)) b) s2 else s2
    | none => s2

/-- FRAME_EGRESS (R288): the frame next in port `p`, where it is not one of FRM.SEND, leaves. -/
def execFrameEgress (p : Nat) (s : State) : Host.Outcome State Fault Refusal :=
  .next (
    match nextEgress (s.port p).queue with
    | some e => if e.send.isSome || !s.canSend p then s else depart p e s
    | none => s)

/-- FRM_SEND_EGRESS (R286): the frame of FRM.SEND command `j` leaves; its egress tick is written and the command ends. -/
def execFrmSendEgress (j : Nat) (s : State) : Host.Outcome State Fault Refusal :=
  .next (
    match (List.range 16).find? (fun p => (nextEgress (s.port p).queue).any fun e => e.send == some j), s.cmd? j with
    | some p, some c => match nextEgress (s.port p).queue with
      | some e =>
        if !s.canSend p then s
        else finish j (if c.job.frags.any fun f => f.operand == 1 then outTo c.job 1 (le 8 s.tick) else okRes)
          (depart p e s)
      | none => s
    | _, _ => s)

/-! ### FRM.SEND -/

/-- The checks of R286 in their order. -/
def sendBad (s : State) (j : Job) : Option Status :=
  match s.stream? (bits j.param.toNat 11 0) with
  | none => some .streamUnknown
  | some st =>
    let c := st.cfg
    let tag := j.pbit 12
    let b := j.operand 0
    firstBad [check (c.owner == j.inst) .foreignObject, check (s.canSend c.egress) .portState,
      check (!(tag && c.auth == 0) && !(j.pbit 13 && !bit c.flags 3)) .paramUnsupported,
      check (!tag || (st.keyAt j.acceptTick).isSome) .keyPeriod,
      check (c.kind == 3 || c.kind == 4 || Config.stdOk "IEC 61850 Length, Reserved 1 and APDU length agree" [bareFrame 0 b])
        .lengthMismatch,
      check (match tag, st.keyAt j.acceptTick with
        | true, some k => decide (netLength 0 (signFrame c.auth k b) ≤ (s.port c.egress).mtu)
        | _, _ => true) .lengthMismatch]

/-- FRM.SEND (R286): the frame is queued on the stream's EGRESS_PORT; while the port's buffer is full the command
waits. -/
def frmSend (c : Cmd) (s : State) : State × Option Res :=
  let j := c.job
  orBad [paramZero j 0xFFFFC000, check j.args.isEmpty .malformed, famEnabled s j, sendBad s j] s fun s =>
    match s.stream? (bits j.param.toNat 11 0) with
    | none => (s, some (stRes .streamUnknown))
    | some st =>
      let b := j.operand 0
      let out := match j.pbit 12, st.keyAt j.acceptTick with
        | true, some k => signFrame st.cfg.auth k b
        | _, _ => b
      let p := st.cfg.egress
      if 1048576 < ((s.port p).queue.map (·.data.length)).sum + out.length then (s, none)
      else
        let e : Egress := { data := out, prio := framePrio 0 b, send := some j.id, stream := some (bits j.param.toNat 11 0),
                            fold := j.pbit 13, ingress := s.tick }
        ((s.modPort p fun x => { x with queue := x.queue ++ [e] }).modProg j.id fun q => { q with phase := .running }, none)

/-! ### Configuration verbs -/

/-- Drop the egress queue of a port that retrains: frames are counted, and FRM.SEND commands end with ST_PORT_STATE. -/
def retrain (p : Nat) (s : State) : State :=
  let q := (s.port p).queue
  let s1 := s.modPort p fun x => { x with queue := [], link := false, fwdDrop := satAdd max32 x.fwdDrop q.length }
  (q.filterMap (·.send)).foldl (fun s j => fail j .portState s) s1

/-- Put a port in a mode: a change retrains its link (R268). -/
def setPortMode (p : Nat) (m : PortMode) (s : State) : State :=
  if (s.port p).mode = m then s else retrain p (s.modPort p fun x => { x with mode := m })

/-- MODE of FRM.PORT_SET. -/
def portMode : Nat → PortMode
  | 1 => .tap | 2 => .endpoint | 3 => .passThrough | _ => .disabled

/-- FRM.PORT_SET (R268). -/
def frmPortSet (c : Cmd) (s : State) : State × Option Res :=
  let j := c.job
  let b := j.args
  let p := fld b 0 1
  let m := portMode (fld b 1 1)
  let q := partner p
  let named := (s.time.cfg.aEn && s.time.cfg.portA == p) || (s.time.cfg.bEn && s.time.cfg.portB == p)
  let mate := if m = .passThrough then PortMode.passThrough
    else if (s.port p).mode = .passThrough then .disabled else (s.port q).mode
  let mtu := fld b 4 2
  orBad [paramZero j 0xFFFFFFFF, bodyIs j 8,
      check (decide (p < 16) && decide (fld b 1 1 ≤ 3) && decide (fld b 2 1 ≤ 2) && decide (fld b 3 1 ≤ 2) &&
        decide (1518 ≤ mtu) && decide (mtu ≤ 9216) && (decide (fld b 6 1 ≤ 7) || fld b 6 1 == 0xFF) &&
        decide (fld b 7 1 < 4)) .malformed,
      famEnabled s j, check (!(m == .tap && named)) .portState,
      check (!(fld b 3 1 == 1 && !(mate == m))) .paramUnsupported] s fun s =>
    let was := (s.port p).mode
    let s1 := commit j.id s
    let s2 := if m = .passThrough then setPortMode q .passThrough s1
      else if was = .passThrough then setPortMode q .disabled s1 else s1
    let s3 := setPortMode p m s2
    let s4 := if (s3.port p).speed = fld b 2 1 then s3 else retrain p s3
    (s4.modPort p fun x =>
      { x with speed := fld b 2 1, redundancy := fld b 3 1, mtu := mtu, unknownRing := fld b 6 1,
               fwdUnknown := bit (fld b 7 1) 0, fwdOther := bit (fld b 7 1) 1 }, some okRes)

/-- The configuration a FRM.STREAM_SET body gives (R270). -/
def readStream (b : List Byte) : StreamCfg :=
  { kind := fld b 2 1, owner := fld b 3 1, srcMac := slice b 4 6, vlan := fld b 0xA 2, appid := fld b 0xC 2,
    ports := fld b 0xE 2, auth := fld b 0x10 1, flags := fld b 0x11 1, silenceMs := fld b 0x12 2, rateCeil := fld b 0x14 4,
    burst := fld b 0x18 2, rateFloor := fld b 0x1A 2, failLimit := fld b 0x1C 2, failWindowMs := fld b 0x1E 2,
    quarS := fld b 0x20 2, smpRate := fld b 0x22 2, svAgeUs := fld b 0x24 2, egress := fld b 0x26 1 }

/-- The ranges of R270 and R287. -/
def StreamCfg.ok (c : StreamCfg) : Bool :=
  decide (1 ≤ c.kind) && decide (c.kind ≤ 4) && bits c.vlan 15 13 == 0 && decide (c.auth ≤ 4) &&
    !(c.kind == 3 && !(c.auth == 0)) && decide (c.flags < 64) && !(bits c.flags 5 4 == 3) && decide (1 ≤ c.burst) &&
    decide (1 ≤ c.failWindowMs) && decide (1 ≤ c.quarS) && decide (c.quarS ≤ 3600) &&
    (if c.kind = 2 then decide (1 ≤ c.smpRate) else c.smpRate == 0) && (decide (c.egress ≤ 15) || c.egress == 0xFF) &&
    !(bit c.flags 1 && bit c.flags 0 && !(c.auth == 0))

/-- KIND, SRC_MAC, VLAN and APPID are equal (R270). -/
def StreamCfg.sameKey (a b : StreamCfg) : Bool :=
  a.kind == b.kind && a.srcMac == b.srcMac && bit a.vlan 12 == bit b.vlan 12 &&
    (bit a.vlan 12 || bits a.vlan 11 0 == bits b.vlan 11 0) && a.appid == b.appid

/-- The classification keys of two streams overlap: equal, and a common ingress port (R269, R270). -/
def StreamCfg.overlaps (a b : StreamCfg) : Bool := a.sameKey b && !(a.ports &&& b.ports == 0)

/-- FRM.STREAM_SET (R270). -/
def frmStreamSet (c : Cmd) (s : State) : State × Option Res :=
  let j := c.job
  let n := fld j.args 0 2
  let x := readStream j.args
  orBad [paramZero j 0xFFFFFFFF, bodyIs j 0x28, check (decide (n ≤ 4094) && x.ok && zero? j.args 0x27 1) .malformed,
      famEnabled s j, check (!(s.frames.streams.any fun e => !(e.1 == n) && x.overlaps e.2.cfg)) .paramUnsupported] s fun s =>
    let s1 := commit j.id s
    let fresh : Stream := { cfg := x, level := x.burst * 1000000000, levelTick := s.tick, second := s.tick / 1000000000 }
    let put (st : Stream) (s : State) : State := s.modFrames fun f => { f with streams := tins n st f.streams }
    match s.stream? n with
    | some old =>
      if old.cfg.sameKey x then
        (put { old with cfg := x, level := x.burst * 1000000000, levelTick := s.tick } s1, some okRes)
      else (put fresh (endSessionsOf n s1), some okRes)
    | none => (put fresh s1, some okRes)

/-- The body of FRM.STREAM_CLEAR, STREAM_RELEASE and STREAM_STATUS: STREAM and two reserved bytes. -/
def streamBody (s : State) (j : Job) : List (Option Status) :=
  [paramZero j 0xFFFFFFFF, bodyIs j 4, check (zero? j.args 2 2) .malformed, famEnabled s j,
   check (s.stream? (fld j.args 0 2)).isSome .streamUnknown]

/-- FRM.STREAM_CLEAR (R268, R279). -/
def frmStreamClear (c : Cmd) (s : State) : State × Option Res :=
  let j := c.job
  let n := fld j.args 0 2
  orBad (streamBody s j) s fun s =>
    ((endSessionsOf n (commit j.id s)).modFrames fun f => { f with streams := tdel f.streams n }, some okRes)

/-- FRM.STREAM_RELEASE (R279). -/
def frmStreamRelease (c : Cmd) (s : State) : State × Option Res :=
  let j := c.job
  orBad (streamBody s j) s fun s => (streamRelease (fld j.args 0 2) (commit j.id s), some okRes)

/-- The code of a stream state (R282). -/
def SState.code : SState → Nat
  | .inactive => 0 | .active => 1 | .silent => 2 | .quarantined => 3

/-- The record of R282. -/
def Stream.record (st : Stream) : List Byte :=
  le 1 st.st.code ++ le 1 (flag st.rateLow 0) ++ zeros 2 ++ le 4 st.lastSt ++ le 4 (if st.cfg.kind = 1 then st.lastSq else 0) ++
    zeros 4 ++ le 8 st.lastTick ++ le 8 st.passed ++ le 8 st.failed ++ le 8 st.quarFrames

/-- FRM.STREAM_STATUS (R282). -/
def frmStreamStatus (c : Cmd) (s : State) : State × Option Res :=
  let j := c.job
  orBad (streamBody s j) s fun s => match s.stream? (fld j.args 0 2) with
    | some st => (s, some (respRes st.record))
    | none => (s, some (stRes .streamUnknown))

/-- A key length suits AUTH (R271). -/
def keySuits (auth len : Nat) : Bool :=
  if auth = 1 ∨ auth = 2 then len == 32 else if auth = 3 ∨ auth = 4 then len == 16 || len == 32 else false

/-- FRM.KEY_SET (R271). -/
def frmKeySet (c : Cmd) (s : State) : State × Option Res :=
  let j := c.job
  let b := j.args
  let n := fld b 0 2
  let len := fld b 3 1
  let k : FKey := { keyId := slice b 4 4, from' := fld b 8 8, till := fld b 0x10 8, key := slice b 0x18 len }
  orBad [paramZero j 0xFFFFFFFF, bodyIs j 0x38, check (decide (n ≤ 4094) && decide (fld b 2 1 ≤ 1) &&
        decide (k.from' < k.till) && zero? b (0x18 + min 32 len) (32 - min 32 len)) .malformed,
      famEnabled s j, check (s.stream? n).isSome .streamUnknown,
      check (len == 0 || (s.stream? n).any fun st => keySuits st.cfg.auth len) .paramUnsupported] s fun s =>
    let v := if len = 0 then none else some k
    ((commit j.id s).modStream n fun st => if fld b 2 1 = 0 then { st with key0 := v } else { st with key1 := v }, some okRes)

/-- FRM.SUBSCRIBE (R281). -/
def frmSubscribe (c : Cmd) (s : State) : State × Option Res :=
  let j := c.job
  let b := j.args
  let n := fld b 0 2
  let i := j.targetInst
  let mine (x : Sub) : Bool := x.inst == i && x.ring == fld b 2 1
  orBad [paramZero j 0xFFFFFFFF, bodyIs j 8,
      check (decide (fld b 2 1 ≤ 7) && decide (fld b 3 1 ≤ 2) && zero? b 4 4) .malformed, famEnabled s j,
      check (s.stream? n).isSome .streamUnknown,
      check ((s.stream? n).any fun st => st.cfg.owner == i || bit st.cfg.flags 2) .foreignObject,
      check ((s.stream? n).any fun st => !(fld b 3 1 == 2) || bit st.cfg.flags 3) .paramUnsupported,
      check ((s.stream? n).any fun st => st.subs.any mine || decide (st.subs.length < 8)) .quota] s fun s =>
    ((commit j.id s).modStream n fun st =>
      if st.subs.any mine then
        { st with subs := st.subs.map fun x => if mine x then { x with deliver := fld b 3 1 } else x }
      else { st with subs := st.subs ++ [{ inst := i, ring := fld b 2 1, deliver := fld b 3 1 }] }, some okRes)

/-- FRM.UNSUBSCRIBE (R268). -/
def frmUnsubscribe (c : Cmd) (s : State) : State × Option Res :=
  let j := c.job
  let b := j.args
  let n := fld b 0 2
  orBad [paramZero j 0xFFFFFFFF, bodyIs j 4, check (decide (fld b 2 1 ≤ 7) && zero? b 3 1) .malformed, famEnabled s j,
      check (s.stream? n).isSome .streamUnknown] s fun s =>
    ((commit j.id s).modStream n fun st =>
      { st with subs := st.subs.filter fun x => !(x.inst == j.targetInst && x.ring == fld b 2 1) }, some okRes)

/-- The shape of FRM.SEND (R286). -/
def shapeFrm : ShapeFn := fun _ _ _ => { ins := [0], outs := [(1, some 8)], req := [0] }

/-! ### The moment of a configuration change (R272) -/

/-- The meaning of an FRM verb that writes configuration: it takes effect at the DONE of its request. -/
def frmConfig : Nat → Option (Cmd → State → State × Option Res)
  | 0x0802 => some frmSubscribe
  | 0x0803 => some frmUnsubscribe
  | 0x0804 => some frmPortSet
  | 0x0805 => some frmStreamSet
  | 0x0806 => some frmStreamClear
  | 0x0807 => some frmKeySet
  | 0x080A => some frmHarvestSet
  | _ => none

/-- When its row runs, such a verb is only checked; what it answers stands until DONE. -/
def frmChecked (f : Cmd → State → State × Option Res) (c : Cmd) (s : State) : State × Option Res := (s, (f c s).2)

/-- At the DONE of an FRM request that was checked and found good, the change is made, under the checks as they stand then
(R272, R293). -/
def frmSettled (c : Cmd) (r : Res) (s : State) : State × Res :=
  match frmConfig c.job.opcode with
  | some f => if r.status = .ok then ((f c s).1, (f c s).2.getD r) else (s, r)
  | none => (s, r)

/-! ### Resets -/

/-- The frame unit at PERST_N (R263, R293, R313). -/
def framesPerst (s : State) : State := s.modFrames fun _ => {}

/-- ERASE wipes the frame keys (R263). -/
def framesErase (s : State) : State :=
  s.modFrames fun f => { f with streams := f.streams.map fun e => (e.1, { e.2 with key0 := none, key1 := none }) }

/-- A generation change of instance `i` (R285, R293): its sessions end, and its held deliveries are discarded and
counted. -/
def framesGeneration (i : Nat) (s : State) : State :=
  let subs (n : Nat) : Nat := ((s.stream? n).map fun st => (st.subs.filter fun x => x.inst == i && x.deliver == 2).length).getD 0
  let s1 := s.frames.sessions.foldl (fun s e => (e.2.pend.filterMap (·.held)).foldl (fun s h =>
    s.modPort h.port fun x => { x with discardGen := satAdd max32 x.discardGen (subs e.1) }) s) s
  let mine := s.frames.sessions.filter fun e => (s.stream? e.1).any fun st => st.cfg.owner == i
  (mine.map (·.1)).foldl (fun s n => endSession n s) s1

/-- FRM.SEND (R286). -/
def execFrmSend (j : Nat) (s : State) : Host.Outcome State Fault Refusal := .next (runVerb 0x0801 j frmSend s)
/-- FRM.SUBSCRIBE (R281). -/
def execFrmSubscribe (j : Nat) (s : State) : Host.Outcome State Fault Refusal := .next (runVerb 0x0802 j (frmChecked frmSubscribe) s)
/-- FRM.UNSUBSCRIBE (R268). -/
def execFrmUnsubscribe (j : Nat) (s : State) : Host.Outcome State Fault Refusal := .next (runVerb 0x0803 j (frmChecked frmUnsubscribe) s)
/-- FRM.PORT_SET (R268). -/
def execFrmPortSet (j : Nat) (s : State) : Host.Outcome State Fault Refusal := .next (runVerb 0x0804 j (frmChecked frmPortSet) s)
/-- FRM.STREAM_SET (R270). -/
def execFrmStreamSet (j : Nat) (s : State) : Host.Outcome State Fault Refusal := .next (runVerb 0x0805 j (frmChecked frmStreamSet) s)
/-- FRM.STREAM_CLEAR (R268). -/
def execFrmStreamClear (j : Nat) (s : State) : Host.Outcome State Fault Refusal := .next (runVerb 0x0806 j (frmChecked frmStreamClear) s)
/-- FRM.KEY_SET (R271). -/
def execFrmKeySet (j : Nat) (s : State) : Host.Outcome State Fault Refusal := .next (runVerb 0x0807 j (frmChecked frmKeySet) s)
/-- FRM.HARVEST_SET (R293). -/
def execFrmHarvestSet (j : Nat) (s : State) : Host.Outcome State Fault Refusal := .next (runVerb 0x080A j (frmChecked frmHarvestSet) s)
/-- FRM.STREAM_RELEASE (R279). -/
def execFrmStreamRelease (j : Nat) (s : State) : Host.Outcome State Fault Refusal :=
  .next (runVerb 0x0808 j frmStreamRelease s)
/-- FRM.STREAM_STATUS (R282). -/
def execFrmStreamStatus (j : Nat) (s : State) : Host.Outcome State Fault Refusal :=
  .next (runVerb 0x0809 j frmStreamStatus s)

end Sys2Proof.Machine
end

