-- ==== Sys2Proof/Machine/Float.lean ====
section
/-! DEFINITION. IEEE 754-2019 arithmetic of binary64 and binary32 under FPMODE.ROUND, with the five exceptions
(R367, R388). -/

namespace Sys2Proof.Machine

/-- A binary format: exponent and fraction bits. -/
structure Fmt where
  eb : Nat
  fb : Nat
deriving DecidableEq, Repr

/-- binary64. -/
def f64 : Fmt := { eb := 11, fb := 52 }
/-- binary32. -/
def f32 : Fmt := { eb := 8, fb := 23 }

/-- The format's exponent bias. -/
def Fmt.bias (t : Fmt) : Nat := 2 ^ (t.eb - 1) - 1

/-- The all-ones exponent field. -/
def Fmt.emax (t : Fmt) : Nat := 2 ^ t.eb - 1

/-- A value: a finite one is `(-1)^neg * m * 2^e`. -/
inductive FV where
  | nan (signalling : Bool)
  | inf (neg : Bool)
  | fin (neg : Bool) (m : Nat) (e : Int)
deriving DecidableEq, Repr

/-- Sticky flags an operation raises, in the order of FPMODE [4:0]: INV, OVF, UNF, INX, DIV0 (R367). -/
structure FFlags where
  inv : Bool := false
  ovf : Bool := false
  unf : Bool := false
  inx : Bool := false
  div0 : Bool := false
deriving DecidableEq, Repr

/-- The flags as bits of FPMODE. -/
def FFlags.bits (f : FFlags) : Nat := flag f.inv 0 + flag f.ovf 1 + flag f.unf 2 + flag f.inx 3 + flag f.div0 4

/-- The value a bit pattern stands for. -/
def Fmt.unpack (t : Fmt) (x : Nat) : FV :=
  let neg := bit x (t.eb + t.fb)
  let e := x / 2 ^ t.fb % 2 ^ t.eb
  let m := x % 2 ^ t.fb
  if e = t.emax then if m = 0 then .inf neg else .nan (!bit m (t.fb - 1))
  else if e = 0 then .fin neg m (1 - (t.bias : Int) - t.fb)
  else .fin neg (m + 2 ^ t.fb) ((e : Int) - t.bias - t.fb)

/-- The sign bit. -/
def Fmt.sign (t : Fmt) (neg : Bool) : Nat := flag neg (t.eb + t.fb)

/-- Infinity. -/
def Fmt.infB (t : Fmt) (neg : Bool) : Nat := t.sign neg + t.emax * 2 ^ t.fb

/-- A quiet NaN whose sign and payload are the free value `fr`: the spec names none. -/
def Fmt.nanB (t : Fmt) (fr : Nat) : Nat :=
  t.sign (bit fr t.fb) + t.emax * 2 ^ t.fb + 2 ^ (t.fb - 1) + fr % 2 ^ (t.fb - 1)

/-- Round up the magnitude: by the mode, the sign, the parity of the kept part, and whether the rest is above, at or
below half. -/
def roundUp (mode : Nat) (neg odd inexact tie above : Bool) : Bool :=
  match mode with
  | 0 => above || (tie && odd)
  | 1 => inexact && !neg
  | 2 => inexact && neg
  | 3 => false
  | _ => above || tie

/-- A magnitude `m * 2^e`, or a little more where `sticky`, cut at exponent `q`: the kept part, whether it was inexact, and
the kept part rounded. -/
def cutAt (mode : Nat) (neg : Bool) (m : Nat) (e : Int) (sticky : Bool) (q : Int) : Nat × Bool :=
  if q ≤ e then (m * 2 ^ (e - q).toNat, sticky)
  else
    let d := (q - e).toNat
    let k := m / 2 ^ d
    let rest := m % 2 ^ d
    let half := 2 ^ (d - 1)
    let inexact := rest != 0 || sticky
    let tie := rest == half && !sticky
    let above := decide (half < rest) || (rest == half && sticky)
    (if roundUp mode neg (k % 2 == 1) inexact tie above then k + 1 else k, inexact)

/-- Round an exact magnitude to the format (R367): the bits and the flags. -/
def Fmt.round (t : Fmt) (mode : Nat) (neg : Bool) (m : Nat) (e : Int) (sticky : Bool) : Nat × FFlags :=
  if m = 0 then (t.sign neg, {})
  else
    let top : Int := e + (Nat.log2 m : Int)
    let emin : Int := 1 - (t.bias : Int)
    let q := max (top - t.fb) (emin - t.fb)
    let (k, inexact) := cutAt mode neg m e sticky q
    let (k', q') := if k = 2 ^ (t.fb + 1) then (2 ^ t.fb, q + 1) else (k, q)
    let free := cutAt mode neg m e sticky (top - t.fb)
    let tiny := decide (top < emin) && (Config.tinyBefore || !(top == emin - 1 && free.1 == 2 ^ (t.fb + 1)))
    if k' < 2 ^ t.fb then (t.sign neg + k', { unf := tiny && inexact, inx := inexact })
    else if (t.bias : Int) < q' + t.fb then
      let toInf := mode == 0 || mode == 4 || (mode == 1 && !neg) || (mode == 2 && neg)
      (if toInf then t.infB neg else t.infB neg - 1, { ovf := true, inx := true })
    else
      (t.sign neg + (q' + t.fb + t.bias).toNat * 2 ^ t.fb + (k' - 2 ^ t.fb),
        { unf := tiny && inexact, inx := inexact })

/-- A NaN result; an invalid operation where `inv`. -/
def Fmt.nanOut (t : Fmt) (fr : Nat) (inv : Bool) : Nat × FFlags := (t.nanB fr, { inv := inv })

/-- A value is a signalling NaN. -/
def FV.snan : FV → Bool
  | .nan s => s
  | _ => false

/-- A value is a NaN. -/
def FV.isNan : FV → Bool
  | .nan _ => true
  | _ => false

/-- The signed mantissa. -/
def signedM (neg : Bool) (m : Nat) : Int := if neg then -(m : Int) else m

/-- Addition. -/
def Fmt.add (t : Fmt) (mode fr : Nat) (a b : FV) : Nat × FFlags :=
  match a, b with
  | .fin na ma ea, .fin nb mb eb =>
    let e := min ea eb
    let x := signedM na (ma * 2 ^ (ea - e).toNat) + signedM nb (mb * 2 ^ (eb - e).toNat)
    if x = 0 then
      (t.sign (if ma = 0 ∧ mb = 0 ∧ na = nb then na else mode == 2), {})
    else t.round mode (decide (x < 0)) x.natAbs e false
  | .inf na, .inf nb => if na = nb then (t.infB na, {}) else t.nanOut fr true
  | .inf n, .fin _ _ _ => (t.infB n, {})
  | .fin _ _ _, .inf n => (t.infB n, {})
  | _, _ => t.nanOut fr (a.snan || b.snan)

/-- Negate a value. -/
def FV.neg : FV → FV
  | .nan s => .nan s
  | .inf n => .inf !n
  | .fin n m e => .fin (!n) m e

/-- Multiplication. -/
def Fmt.mul (t : Fmt) (mode fr : Nat) (a b : FV) : Nat × FFlags :=
  match a, b with
  | .fin na ma ea, .fin nb mb eb => t.round mode (na != nb) (ma * mb) (ea + eb) false
  | .inf na, .inf nb => (t.infB (na != nb), {})
  | .inf na, .fin nb mb _ => if mb = 0 then t.nanOut fr true else (t.infB (na != nb), {})
  | .fin na ma _, .inf nb => if ma = 0 then t.nanOut fr true else (t.infB (na != nb), {})
  | _, _ => t.nanOut fr (a.snan || b.snan)

/-- Division. -/
def Fmt.div (t : Fmt) (mode fr : Nat) (a b : FV) : Nat × FFlags :=
  match a, b with
  | .fin na ma ea, .fin nb mb eb =>
    if mb = 0 then if ma = 0 then t.nanOut fr true else (t.infB (na != nb), { div0 := true })
    else
      let d := 2 * t.fb + 8
      let x := ma * 2 ^ d
      t.round mode (na != nb) (x / mb) (ea - eb - d) (x % mb != 0)
  | .inf _, .inf _ => t.nanOut fr true
  | .inf na, .fin nb _ _ => (t.infB (na != nb), {})
  | .fin na _ _, .inf nb => (t.sign (na != nb), {})
  | _, _ => t.nanOut fr (a.snan || b.snan)

/-- Square root. -/
def Fmt.sqrt (t : Fmt) (mode fr : Nat) (a : FV) : Nat × FFlags :=
  match a with
  | .fin n m e =>
    if m = 0 then (t.sign n, {})
    else if n then t.nanOut fr true
    else
      let d := if (e - (2 * t.fb + 8)) % 2 = 0 then 2 * t.fb + 8 else 2 * t.fb + 9
      let x := m * 2 ^ d
      let r := Nat.sqrt x
      t.round mode false r ((e - d) / 2) (r * r != x)
  | .inf n => if n then t.nanOut fr true else (t.infB false, {})
  | .nan s => t.nanOut fr s

/-- The order of two values, none where one is a NaN. -/
def FV.cmp (a b : FV) : Option Ordering :=
  match a, b with
  | .nan _, _ => none
  | _, .nan _ => none
  | .inf na, .inf nb => some (if na = nb then .eq else if na then .lt else .gt)
  | .inf na, .fin _ _ _ => some (if na then .lt else .gt)
  | .fin _ _ _, .inf nb => some (if nb then .gt else .lt)
  | .fin na ma ea, .fin nb mb eb =>
    let e := min ea eb
    some (compare (signedM na (ma * 2 ^ (ea - e).toNat)) (signedM nb (mb * 2 ^ (eb - e).toNat)))

/-- The sign of a value. -/
def FV.isNeg : FV → Bool
  | .nan _ => false
  | .inf n => n
  | .fin n _ _ => n

/-- FMIN and FMAX: −0 counts as less than +0, and the result with a NaN operand is a free value. -/
def Fmt.minMax (t : Fmt) (isMax : Bool) (fr x y : Nat) : Nat × FFlags :=
  let a := t.unpack x
  let b := t.unpack y
  match a.cmp b with
  | none => (fr % 2 ^ (t.eb + t.fb + 1), { inv := a.snan || b.snan })
  | some o =>
    let aLow := o == .lt || (o == .eq && a.isNeg)
    (if aLow != isMax then x else y, {})

/-- FEQ (7), FLT (8), FLE (9): the ordered comparisons signal on any NaN, FEQ on a signalling one. -/
def fcompare (fn : Nat) (a b : FV) : Nat × FFlags :=
  match a.cmp b with
  | none => (0, { inv := fn != 7 || a.snan || b.snan })
  | some o => (if (fn = 7 ∧ o = .eq) ∨ (fn = 8 ∧ o = .lt) ∨ (fn = 9 ∧ o ≠ .gt) then 1 else 0, {})

/-- FCVT.G: to a 64-bit signed integer under ROUND; saturating with F_INV, and a free value for a NaN (R367). -/
def fcvtG (mode fr : Nat) (a : FV) : U64 × FFlags :=
  let big (neg : Bool) : U64 := if neg then 0x8000000000000000 else 0x7FFFFFFFFFFFFFFF
  match a with
  | .nan _ => (BitVec.ofNat 64 fr, { inv := true })
  | .inf n => (big n, { inv := true })
  | .fin n m e =>
    let (k, inexact) := cutAt mode n m e false 0
    if (n ∧ 2 ^ 63 < k) ∨ (¬ n ∧ 2 ^ 63 ≤ k) then (big n, { inv := true })
    else (BitVec.ofInt 64 (signedM n k), { inx := inexact })

/-- FCVT.F: from a 64-bit signed integer. -/
def Fmt.cvtF (t : Fmt) (mode : Nat) (x : U64) : Nat × FFlags :=
  t.round mode (decide (x.toInt < 0)) x.toInt.natAbs 0 false

end Sys2Proof.Machine
end

