-- ==== Sys2Proof/Machine/Kertor.lean ====
section
/-! DEFINITION. Kertor cores: registers, control registers, memory, products in flight, exceptions, and the meaning of
every word (R359-R390), as operations on one core. -/

namespace Sys2Proof.Machine

/-! ### Cores and profiles -/

/-- The core runs the Kertor-C profile (R359). -/
def CoreId.isC : CoreId → Bool
  | .lattice _ _ => true | .number _ _ => true | .hash _ _ => true | _ => false

/-- VLEN (R359). -/
def CoreId.vlen : CoreId → Nat
  | .lattice _ _ => 2048 | .number _ _ => 512 | .hash _ _ => 512 | _ => 0

/-- KFEAT1.DATAPATH (R361). -/
def CoreId.datapath : CoreId → Nat
  | .lattice _ _ => 1 | .number _ _ => 2 | .hash _ _ => 3 | _ => 0

/-- The kind of cell and its number, where the core is a cell. -/
def CoreId.cell : CoreId → Option (UnitKind × Nat)
  | .lattice _ n => some (.lattice, n) | .number _ n => some (.number, n) | .hash _ n => some (.hash, n) | _ => none

/-- Bytes of local data memory (R361, R393). -/
def CoreId.lmemBytes (c : CoreId) : Nat := if c.isC then 0x20000 else 8192 * (Config.lmemB % 256)

/-- KFEAT0 to KFEAT3 (R361). -/
def CoreId.kfeat (c : CoreId) (n : Nat) : U64 :=
  match n with
  | 0 => BitVec.ofNat 64
      ((if c.isC then 0x43 else 0x42) + 0x100 + flag c.isC 16 + flag (!c.isC) 17 + flag c.isC 18 + flag true 19 + flag true 20 +
        flag true 21 + flag true 22 + flag (c == .skanel) 23 + flag c.isC 24)
  | 1 => BitVec.ofNat 64 (c.vlen + 0x10000 * c.datapath + 0x1000000 * (c.lmemBytes / 8192))
  | _ => 0

/-- A core after its reset: the first word of its store's window for a cell, 0 elsewhere. -/
def core0 (c : CoreId) : Core := { pc := if c.isC then 0x01000000 else 0 }

/-- Core `c`. -/
def State.core (s : State) (c : CoreId) : Core := ((s.cores.find? fun e => e.1 == c).map (·.2)).getD (core0 c)

/-- Replace core `c`. -/
def State.setCore (s : State) (c : CoreId) (k : Core) : State :=
  { s with cores := (s.cores.filter fun e => !(e.1 == c)) ++ [(c, k)] }

/-! ### Registers -/

/-- g_n: g0 reads as zero (R366). -/
def Core.rg (k : Core) (n : Nat) : U64 := if n = 0 then 0 else tget (fun _ => (0 : U64)) k.g n

/-- Write g_n: writes to g0 are discarded (R366). -/
def Core.wg (k : Core) (n : Nat) (x : U64) : Core :=
  if n = 0 then k else { k with g := tset (fun _ => (0 : U64)) k.g n x }

/-- v_n. -/
def Core.rv (k : Core) (n : Nat) : Nat := tget (fun _ => 0) k.v n

/-- Write v_n. -/
def Core.wv (k : Core) (n x : Nat) : Core := { k with v := tset (fun _ => 0) k.v n x }

/-- f_n is bits [63:0] of v_n (R368). -/
def Core.rf (k : Core) (n : Nat) : Nat := k.rv n % 2 ^ 64

/-- A write through f_n writes bits [63:0] and zeroes the bits above (R368). -/
def Core.wf (k : Core) (n x : Nat) : Core := k.wv n (x % 2 ^ 64)

/-- A read-write control register by number, at its reset value where it was not written. -/
def Core.rc (k : Core) (n : Nat) : U64 := tget (fun _ => (0 : U64)) k.ctl n

/-- Set a read-write control register. -/
def Core.wc (k : Core) (n : Nat) (x : U64) : Core := { k with ctl := tset (fun _ => (0 : U64)) k.ctl n x }

/-- Numbers of the control registers (R369). -/
def kFPMODE : Nat := 0x011
def kEVEC : Nat := 0x020
def kEPC : Nat := 0x021
def kECAUSE : Nat := 0x022
def kEVAL : Nat := 0x023
def kESTATUS : Nat := 0x024
def kSLIM : Nat := 0x028
def kPL : Nat := 0x030
def kPH : Nat := 0x031
def kVSTART : Nat := 0x03A

/-- STATUS (R369): matching is suspended while a handler runs (R382). -/
def Core.status (c : CoreId) (k : Core) : U64 :=
  BitVec.ofNat 64 (flag k.ie 0 + flag k.inh 1 + flag (c.isC && !k.inh) 2 + flag k.cust 3 + flag (!k.flight.isEmpty) 4)

/-- Read-write control registers of both profiles but STATUS (R369). -/
def rwCtl (n : Nat) : Bool :=
  n == 0x011 || (decide (0x020 ≤ n) && decide (n ≤ 0x024)) || n == 0x028 || n == 0x030 || n == 0x031 ||
    (decide (0x040 ≤ n) && decide (n ≤ 0x057))

/-- Read-write control registers of Kertor-C (R369). -/
def rwCtlC (n : Nat) : Bool :=
  n == 0x03A || (decide (0x060 ≤ n) && decide (n ≤ 0x06B))

/-- Read a control register; none where the number is not listed for the profile (R369). -/
def ctlRead (c : CoreId) (k : Core) (n : Nat) : Option U64 :=
  if n < 4 then some (c.kfeat n)
  else if n = 0x010 then some (k.status c)
  else if n = 0x018 then some (BitVec.ofNat 64 k.cycle)
  else if rwCtl n then some (k.rc n)
  else if c.isC ∧ rwCtlC n then some (k.rc n)
  else if c.isC ∧ n = 0x038 then some (BitVec.ofNat 64 k.vl)
  else if c.isC ∧ n = 0x039 then some (BitVec.ofNat 64 k.ew)
  else none

/-- FPMODE after a write: reserved bits stay zero, and a reserved ROUND leaves the field (R10, R11, R367). -/
def fpmodeWrite (old new : U64) : U64 :=
  let r := bits new.toNat 10 8
  BitVec.ofNat 64 (new.toNat % 32 + 256 * (if 5 ≤ r then bits old.toNat 10 8 else r))

/-- Write a control register; none where it is not listed or RO (R369). -/
def ctlWrite (c : CoreId) (k : Core) (n : Nat) (x : U64) : Option Core :=
  if n = 0x010 then some { k with ie := bit x.toNat 0 }
  else if n = kFPMODE then some (k.wc n (fpmodeWrite (k.rc n) x))
  else if n = kECAUSE then some (k.wc n (BitVec.ofNat 64 (x.toNat % 1024)))
  else if n = kESTATUS then some (k.wc n (BitVec.ofNat 64 (x.toNat % 32)))
  else if rwCtl n then some (k.wc n x)
  else if c.isC ∧ rwCtlC n then some (k.wc n x)
  else none

/-! ### Products in flight -/

/-- PH:PL. -/
def Core.product (k : Core) : Nat := (k.rc kPH).toNat * 2 ^ 64 + (k.rc kPL).toNat

/-- Write PH:PL. -/
def Core.setProduct (k : Core) (x : Nat) : Core :=
  (k.wc kPL (BitVec.ofNat 64 x)).wc kPH (BitVec.ofNat 64 (x / 2 ^ 64))

/-- Land every product readable by cycle `t`, in issue order (R374). -/
def Core.land (k : Core) (t : Nat) : Core :=
  let k1 := (k.flight.filter fun f => decide (f.due ≤ t)).foldl (fun k f => k.setProduct f.value) k
  { k1 with flight := k.flight.filter fun f => !decide (f.due ≤ t) }

/-- The cycle by which every product has landed. -/
def Core.allLanded (k : Core) : Nat := k.flight.foldl (fun t f => max t f.due) k.cycle

/-! ### Memory -/

/-- The words of a customer package that a routine may reach, as BASE and the words; none for vendor code. -/
abbrev Reach := Option (Nat × List Nat)

/-- The 160-bit control word at index `w` of a package. -/
def pkgWord (p : Nat × List Nat) (w : Nat) : Option Nat := if p.1 ≤ w then p.2[w - p.1]? else none

/-- A byte of the store's read-only windows (R393); none outside what the code may reach (R395). -/
def storeByte (rch : Reach) (a : Nat) : Option Byte :=
  let o := a % 0x1000000
  if (a / 0x1000000 = 1 ∨ a / 0x1000000 = 2) ∧ o < 16 * 16384 then
    match rch with
    | none => some (Config.vendorStore a)
    | some p => (pkgWord p (o / 16)).map fun w => BitVec.ofNat 8 (bits w 159 32 / 2 ^ (8 * (o % 16)))
  else none

/-- A byte of local memory. -/
def Core.localByte (k : Core) (a : Nat) : Byte :=
  (tfind k.lmem a).getD (match k.lbase with
    | none => 0
    | some n => Config.freeMem n a)

/-- A byte the core reads; none where the access raises ACCESS (R384). -/
def Core.readByte (c : CoreId) (rch : Reach) (k : Core) (a : Nat) : Option Byte :=
  if a < c.lmemBytes then some (k.localByte a)
  else if c.isC then storeByte rch a
  else none

/-- `n` bytes from `a`. -/
def Core.readBytes (c : CoreId) (rch : Reach) (k : Core) (a : Nat) : Nat → Option (List Byte)
  | 0 => some []
  | n + 1 =>
    match k.readByte c rch a, Core.readBytes c rch k (a + 1) n with
    | some b, some bs => some (b :: bs)
    | _, _ => none

/-- Write a byte of local memory, keeping the canonical form: an entry equal to what an unlisted byte reads as is not
listed. -/
def Core.writeByte (k : Core) (a : Nat) (b : Byte) : Core :=
  { k with lmem := if ({ k with lmem := [] } : Core).localByte a = b then tdel k.lmem a else tins a b k.lmem }

/-- Write bytes of local memory. -/
def Core.writeBytes (k : Core) (a : Nat) : List Byte → Core
  | [] => k
  | b :: bs => (k.writeByte a b).writeBytes (a + 1) bs

/-! ### The outcome of a word -/

/-- Codes of the exceptions (R384). -/
def xILLEGAL : Nat := 1
def xMISALIGNED : Nat := 2
def xACCESS : Nat := 3
def xSTACKLIMIT : Nat := 4
def xREPRANGE : Nat := 5
def xTRAP : Nat := 6
def xBREAK : Nat := 7

/-- Where a word continues. -/
inductive Flow where
  | next
  | goto (a : Nat)
  /-- REPI with repetitions left: the same word again. -/
  | again
  /-- RET popped the sentinel 0 of a RUN (R404). -/
  | ended
deriving DecidableEq, Repr

/-- What a word does: completes with a flow and the cycles it takes, or raises an exception with what it has done so
far. -/
inductive KOut where
  | done (k : Core) (f : Flow) (cycles : Nat)
  | exc (k : Core) (code eval : Nat)
deriving DecidableEq, Repr

/-- Complete in one cycle and go on. -/
def KOut.ok (k : Core) : KOut := .done k .next 1

/-- The word raises ILLEGAL. -/
def illegal (k : Core) : KOut := .exc k xILLEGAL k.pc

/-- Load `n` bytes at `a`: alignment, then reach (R384). -/
def Core.load (c : CoreId) (rch : Reach) (k : Core) (a n : Nat) : Except Nat Nat :=
  if a % n = 0 then match k.readBytes c rch a n with
    | some b => .ok (unle b)
    | none => .error xACCESS
  else .error xMISALIGNED

/-- Store `n` bytes at `a`. -/
def Core.store (c : CoreId) (k : Core) (a n x : Nat) : Except Nat Core :=
  if a % n = 0 then if a + n ≤ c.lmemBytes then .ok (k.writeBytes a (le n x)) else .error xACCESS
  else .error xMISALIGNED

/-! ### Fields of a word (R362) -/

/-- OP. -/
def wOP (w : Nat) : Nat := bits w 30 24
/-- rd, the source of a store, rs1 of format B, vd. -/
def wRd (w : Nat) : Nat := bits w 23 19
/-- rs1, rs2 of format B, vs1. -/
def wRs1 (w : Nat) : Nat := bits w 18 14
/-- rs2, vs2. -/
def wRs2 (w : Nat) : Nat := bits w 13 9
/-- FN of format R. -/
def wFN (w : Nat) : Nat := bits w 8 0
/-- imm14, unsigned. -/
def wImm14 (w : Nat) : Nat := bits w 13 0
/-- A field of `n` bits as a signed number. -/
def sfield (n x : Nat) : Int := (BitVec.ofNat n x).toInt
/-- imm14, signed. -/
def wSimm14 (w : Nat) : Int := sfield 14 (wImm14 w)

/-- An address plus a signed offset, modulo 2^64. -/
def addrAdd (a : Nat) (o : Int) : Nat := (((a : Int) + o) % 18446744073709551616).toNat

/-! ### Integer operations -/

/-- The free value of a shift by the register's width or more, which the spec does not give. -/
def shiftBy (f : U64 → Nat → U64) (a b : U64) (fr : Nat) : U64 :=
  if b.toNat < 64 then f a b.toNat else BitVec.ofNat 64 fr

/-- FN 0x000 to 0x00D of opcode 0x01 (R388). -/
def aluFn (fn : Nat) (a b : U64) (fr : Nat) : Option U64 :=
  let b01 (p : Bool) : U64 := if p then 1 else 0
  match fn with
  | 0 => some (a + b)
  | 1 => some (a - b)
  | 2 => some (a &&& b)
  | 3 => some (a ||| b)
  | 4 => some (a ^^^ b)
  | 5 => some (shiftBy (fun x n => x <<< n) a b fr)
  | 6 => some (shiftBy (fun x n => x >>> n) a b fr)
  | 7 => some (shiftBy (fun x n => x.sshiftRight n) a b fr)
  | 8 => some (b01 (a.slt b))
  | 9 => some (b01 (a.ult b))
  | 10 => some (if a.slt b then a else b)
  | 11 => some (if a.ult b then a else b)
  | 12 => some (if a.slt b then b else a)
  | 13 => some (if a.ult b then b else a)
  | _ => none

/-- The integer ALU words: opcodes 0x01 to 0x07 (R388). -/
def kwAlu (w fr : Nat) (k : Core) : KOut :=
  let a := k.rg (wRs1 w)
  let u := BitVec.ofNat 64 (wImm14 w)
  let put (x : U64) : KOut := .ok (k.wg (wRd w) x)
  match wOP w with
  | 0x01 => match aluFn (wFN w) a (k.rg (wRs2 w)) fr with
    | some x => put x
    | none => illegal k
  | 0x02 => put (a + BitVec.ofInt 64 (wSimm14 w))
  | 0x03 => put (a &&& u)
  | 0x04 => put (a ||| u)
  | 0x05 => put (a ^^^ u)
  | 0x06 =>
    let n := bits w 5 0
    match bits w 13 6 with
    | 0 => put (a <<< n)
    | 1 => put (a >>> n)
    | 2 => put (a.sshiftRight n)
    | _ => illegal k
  | 0x07 => put (BitVec.ofInt 64 (sfield 19 (bits w 18 0) * 16384))
  | _ => illegal k

/-- MUL.U, MUL.S and MAC.U: the product is readable in the third cycle after issue (R374). -/
def kwMul (w : Nat) (k : Core) : KOut :=
  let a := k.rg (wRs1 w)
  let b := k.rg (wRs2 w)
  let send (x : Nat) : KOut := .ok { k with flight := k.flight ++ [{ due := k.cycle + 3, value := x % 2 ^ 128 }] }
  if wRd w = 0 then
    match wFN w with
    | 0 => send (a.toNat * b.toNat)
    | 1 => send (BitVec.ofInt 128 (a.toInt * b.toInt)).toNat
    | 2 => send (k.product + a.toNat * b.toNat)
    | _ => illegal k
  else illegal k

/-! ### Loads and stores -/

/-- Sign-extend `n` bytes to 64 bits. -/
def sext (n x : Nat) : U64 := BitVec.ofInt 64 (sfield (8 * n) x)

/-- LD.B to LDU.W, opcodes 0x10 to 0x16 (R388). -/
def kwLd (c : CoreId) (rch : Reach) (w : Nat) (k : Core) : KOut :=
  let op := wOP w - 0x10
  let n := 2 ^ (op % 4)
  let a := addrAdd (k.rg (wRs1 w)).toNat (wSimm14 w)
  match k.load c rch a n with
  | .error e => .exc k e a
  | .ok x => .ok (k.wg (wRd w) (if op < 4 then sext n x else BitVec.ofNat 64 x))

/-- ST.B to ST.D, opcodes 0x18 to 0x1B (R388). -/
def kwSt (c : CoreId) (w : Nat) (k : Core) : KOut :=
  let n := 2 ^ (wOP w - 0x18)
  let a := addrAdd (k.rg (wRs1 w)).toNat (wSimm14 w)
  match k.store c a n (k.rg (wRd w)).toNat with
  | .error e => .exc k e a
  | .ok k1 => .ok k1

/-- Reverse the low `m` bits. -/
def bitrev : Nat → Nat → Nat
  | 0, _ => 0
  | m + 1, x => x % 2 * 2 ^ m + bitrev m (x / 2)

/-- ML is e times a power of two from 2^1 to 2^16: the power, where it is (R378). -/
def ringLog (e ml : Nat) : Option Nat := (List.range 17).find? fun m => decide (1 ≤ m) && ml == e * 2 ^ m

/-- a_n after an access under AM (R377, R378); none where the word raises ILLEGAL. -/
def addrUpdate (k : Core) (w : Nat) : Option Nat :=
  let n := bits w 18 16
  let a := (k.rc (0x050 + n)).toNat
  let mb := (k.rc (0x040 + n)).toNat
  let ml := (k.rc (0x048 + n)).toNat
  let imm := sfield 12 (bits w 11 0)
  let inRing := decide (mb ≤ a) && decide (a < mb + ml)
  match bits w 15 14 with
  | 0 => some a
  | 1 =>
    if ml ≠ 0 ∧ inRing then some ((mb + (((a : Int) - mb + imm) % (ml : Int)).toNat) % 2 ^ 64)
    else some (addrAdd a imm)
  | 2 =>
    let e := 2 ^ bits w 13 12
    match ringLog e ml with
    | none => none
    | some m =>
      if inRing ∧ (a - mb) % e = 0 then
        some (mb + bitrev m ((bitrev m ((a - mb) / e) + 1) % 2 ^ m) * e)
      else none
  | _ => none

/-- Set a_n. -/
def setAddr (k : Core) (w a : Nat) : Core := k.wc (0x050 + bits w 18 16) (BitVec.ofNat 64 a)

/-- LDA and LDUA (R377). -/
def kwLda (c : CoreId) (rch : Reach) (w : Nat) (k : Core) : KOut :=
  let n := 2 ^ bits w 13 12
  let a := (k.rc (0x050 + bits w 18 16)).toNat
  match addrUpdate k w with
  | none => illegal k
  | some a' => match k.load c rch a n with
    | .error e => .exc k e a
    | .ok x => .ok (setAddr (k.wg (wRd w) (if wOP w = 0x1C then sext n x else BitVec.ofNat 64 x)) w a')

/-- STA (R377). -/
def kwSta (c : CoreId) (w : Nat) (k : Core) : KOut :=
  let n := 2 ^ bits w 13 12
  let a := (k.rc (0x050 + bits w 18 16)).toNat
  match addrUpdate k w with
  | none => illegal k
  | some a' => match k.store c a n (k.rg (wRd w)).toNat with
    | .error e => .exc k e a
    | .ok k1 => .ok (setAddr k1 w a')

/-- FLD.D (R388). -/
def kwFld (c : CoreId) (rch : Reach) (w : Nat) (k : Core) : KOut :=
  let a := addrAdd (k.rg (wRs1 w)).toNat (wSimm14 w)
  match k.load c rch a 8 with
  | .error e => .exc k e a
  | .ok x => .ok (k.wf (wRd w) x)

/-- FST.D (R388). -/
def kwFst (c : CoreId) (w : Nat) (k : Core) : KOut :=
  let a := addrAdd (k.rg (wRs1 w)).toNat (wSimm14 w)
  match k.store c a 8 (k.rf (wRd w)) with
  | .error e => .exc k e a
  | .ok k1 => .ok k1

/-! ### Control flow -/

/-- COND 0 to 5 (R388). -/
def branchCond (n : Nat) (a b : U64) : Option Bool :=
  match n with
  | 0 => some (a == b)
  | 1 => some (a != b)
  | 2 => some (a.slt b)
  | 3 => some (!a.slt b)
  | 4 => some (a.ult b)
  | 5 => some (!a.ult b)
  | _ => none

/-- BEQ to BGEU: one bubble when taken (R388, R390). -/
def kwBranch (w : Nat) (k : Core) : KOut :=
  match branchCond (bits w 13 11) (k.rg (wRd w)) (k.rg (wRs1 w)) with
  | none => illegal k
  | some false => .ok k
  | some true => .done k (.goto (addrAdd k.pc (4 * sfield 11 (bits w 10 0)))) 2

/-- The target of JMP and CALL. -/
def jTarget (w : Nat) (k : Core) : Nat := addrAdd k.pc (4 * sfield 24 (bits w 23 0))

/-- The target of JMPR and CALLR. -/
def rTarget (w : Nat) (k : Core) : Nat := addrAdd (k.rg (wRs1 w)).toNat (4 * wSimm14 w)

/-- JMP (R388). -/
def kwJmp (w : Nat) (k : Core) : KOut := .done k (.goto (jTarget w k)) 2

/-- JMPR (R388). -/
def kwJmpr (w : Nat) (k : Core) : KOut := if wRd w = 0 then .done k (.goto (rTarget w k)) 2 else illegal k

/-- Push the address of the next word and continue at `t` (R383). -/
def kwPush (c : CoreId) (t : Nat) (k : Core) : KOut :=
  let sp := k.rg 2 - 8
  if sp.toNat < (k.rc kSLIM).toNat then .exc k xSTACKLIMIT sp.toNat
  else match k.store c sp.toNat 8 (k.pc + 4) with
    | .error e => .exc k e sp.toNat
    | .ok k1 => .done (k1.wg 2 sp) (.goto t) 2

/-- CALL (R383). -/
def kwCall (c : CoreId) (w : Nat) (k : Core) : KOut := kwPush c (jTarget w k) k

/-- CALLR (R383). -/
def kwCallr (c : CoreId) (w : Nat) (k : Core) : KOut := if wRd w = 0 then kwPush c (rTarget w k) k else illegal k

/-- RET: pops the return address; the sentinel 0 ends a customer run (R383, R404). -/
def kwRet (c : CoreId) (rch : Reach) (w : Nat) (k : Core) : KOut :=
  if bits w 23 0 = 0 then
    let sp := k.rg 2
    match k.load c rch sp.toNat 8 with
    | .error e => .exc k e sp.toNat
    | .ok a =>
      let k1 := k.wg 2 (sp + 8)
      .done k1 (if rch.isSome && a == 0 then .ended else .goto a) 2
  else illegal k

/-- LOOP: sets LS, LE and LC of its level, and skips a body of count 0 (R379). -/
def kwLoop (c : CoreId) (w : Nat) (k : Core) : KOut :=
  let lv := bits w 23 22
  let rs := bits w 21 17
  let off := bits w 13 0
  let endPc := k.pc + 4 * off
  if c.isC ∧ bits w 16 14 = 0 ∧ 2 ≤ off ∧ ¬ k.inh then
    let n := k.rg rs
    let k1 := ((k.wc (0x060 + lv) (BitVec.ofNat 64 (k.pc + 4))).wc (0x064 + lv)
                (BitVec.ofNat 64 (endPc - 4))).wc (0x068 + lv) n
    .done k1 (if n = 0 then .goto endPc else .next) 1
  else illegal k

/-- Hardware loop ends, from level 3 down, at the word at `pc` (R380): the next address. -/
def loopEnd (k : Core) (pc : Nat) : List Nat → Core × Nat
  | [] => (k, pc + 4)
  | lv :: more =>
    let n := (k.rc (0x068 + lv)).toNat
    if n ≠ 0 ∧ (k.rc (0x064 + lv)).toNat = pc then
      if 1 < n then (k.wc (0x068 + lv) (BitVec.ofNat 64 (n - 1)), (k.rc (0x060 + lv)).toNat)
      else loopEnd (k.wc (0x068 + lv) 0) pc more
    else loopEnd k pc more

/-! ### Floating point and packed operations -/

/-- Raise sticky flags (R367). -/
def Core.sticky (k : Core) (f : FFlags) : Core :=
  k.wc kFPMODE (k.rc kFPMODE ||| BitVec.ofNat 64 f.bits)

/-- FPMODE.ROUND. -/
def Core.round (k : Core) : Nat := bits (k.rc kFPMODE).toNat 10 8

/-- FADD to FCVT.F, opcode 0x30 (R367, R388). -/
def kwFp (w fr : Nat) (k : Core) : KOut :=
  let t := if bit (wFN w) 8 then f32 else f64
  let m := k.round
  let cut (x : Nat) : Nat := x % 2 ^ (t.eb + t.fb + 1)
  let x := cut (k.rf (wRs1 w))
  let y := cut (k.rf (wRs2 w))
  let a := t.unpack x
  let b := t.unpack y
  let toF (r : Nat × FFlags) : KOut := .ok ((k.wf (wRd w) r.1).sticky r.2)
  let toG (r : U64 × FFlags) : KOut := .ok ((k.wg (wRd w) r.1).sticky r.2)
  match bits w 7 0 with
  | 0 => toF (t.add m fr a b)
  | 1 => toF (t.add m fr a b.neg)
  | 2 => toF (t.mul m fr a b)
  | 3 => toF (t.div m fr a b)
  | 4 => toF (t.sqrt m fr a)
  | 5 => toF (t.minMax false fr x y)
  | 6 => toF (t.minMax true fr x y)
  | 7 => toG ((fcompare 7 a b).map (BitVec.ofNat 64) id)
  | 8 => toG ((fcompare 8 a b).map (BitVec.ofNat 64) id)
  | 9 => toG ((fcompare 9 a b).map (BitVec.ofNat 64) id)
  | 10 => toG (fcvtG m fr a)
  | 11 => toF (t.cvtF m (k.rg (wRs1 w)))
  | _ => illegal k

/-- Element `i` of width `n` bits. -/
def elem (n x i : Nat) : Nat := x / 2 ^ (n * i) % 2 ^ n

/-- Set element `i` of width `n` bits. -/
def setElem (n x i y : Nat) : Nat := x - elem n x i * 2 ^ (n * i) + y % 2 ^ n * 2 ^ (n * i)

/-- An element as a signed number. -/
def selem (n x : Nat) : Int := sfield n x

/-- The high half of a product of elements; the spec does not say whether it is signed, so where the readings differ the
value is free. -/
def mulHi (n a b fr : Nat) : Nat :=
  let u := a * b / 2 ^ n
  let v := (BitVec.ofInt n (selem n a * selem n b / 2 ^ n)).toNat
  if u = v then u else fr % 2 ^ n

/-- An element shift; by the element's width or more the value is free. -/
def elemShift (left : Bool) (n a b fr : Nat) : Nat :=
  if b < n then if left then a * 2 ^ b % 2 ^ n else a / 2 ^ b else fr % 2 ^ n

/-- An element-wise operation of the packed and the vector sets: 0 ADD, 1 SUB, 2 MULLO, 3 MULHI, 4 SHL, 5 SHR, 6 MIN,
7 MAX, 8 AND, 9 OR, 10 XOR. -/
def elemOp (f n a b fr : Nat) : Nat :=
  match f with
  | 0 => (a + b) % 2 ^ n
  | 1 => (a + 2 ^ n - b) % 2 ^ n
  | 2 => a * b % 2 ^ n
  | 3 => mulHi n a b fr
  | 4 => elemShift true n a b fr
  | 5 => elemShift false n a b fr
  | 6 => if selem n a < selem n b then a else b
  | 7 => if selem n a < selem n b then b else a
  | 8 => Nat.land a b
  | 9 => Nat.lor a b
  | _ => Nat.xor a b

/-- The free value of element `i`. -/
def elemFree (n fr i : Nat) : Nat := elem n fr i

/-- PADD to PMAX, opcode 0x31 (R388). -/
def kwPacked (w fr : Nat) (k : Core) : KOut :=
  let lane := bits w 8 7
  let f := bits w 6 0
  if lane = 3 ∨ 7 < f then illegal k
  else
    let n := 8 * 2 ^ lane
    let a := k.rf (wRs1 w)
    let b := k.rf (wRs2 w)
    .ok (k.wf (wRd w) ((List.range (64 / n)).foldl
      (fun x i => setElem n x i (elemOp f n (elem n a i) (elem n b i) (elemFree n fr i))) 0))

/-! ### Vectors -/

/-- SETVL (R370). -/
def kwSetvl (c : CoreId) (w : Nat) (k : Core) : KOut :=
  let ew := bits w 3 0
  if c.isC ∧ wRs2 w = 0 ∧ bits w 8 4 = 0 ∧ (ew = 1 ∨ ew = 2 ∨ ew = 4 ∨ ew = 8) then
    let vl := min (k.rg (wRs1 w)).toNat (c.vlen / (8 * ew))
    .ok ({ k with ew := ew, vl := vl }.wg (wRd w) (BitVec.ofNat 64 vl))
  else illegal k

/-- An element takes part: VM clear, or its predicate bit set (R362, R368). -/
def active (k : Core) (w i : Nat) : Bool := !bit w 8 || bit (k.rv 31) i

/-- Cycles of vector work: one per 512 bits of VL × SEW (R390). -/
def vcycles (k : Core) : Nat := max 1 ((k.vl * k.ew * 8 + 511) / 512)

/-- A vector instruction that completes sets VSTART to 0 (R373). -/
def Core.vdone (k : Core) : Core := k.wc kVSTART 0

/-- The code of `elemOp` for FN of opcode 0x41. -/
def vecFn (fn : Nat) : Option Nat :=
  match fn with
  | 0 => some 0 | 1 => some 1 | 2 => some 2 | 3 => some 3 | 4 => some 8 | 5 => some 9 | 6 => some 10 | 7 => some 4
  | 8 => some 5 | 9 => some 6 | 10 => some 7 | _ => none

/-- VCMPEQ and VCMPLT: one bit per element, bits at and above VL zero; elements that take no part keep their bit
(R368). -/
def vcompare (k : Core) (w : Nat) (lt : Bool) : Nat :=
  let n := 8 * k.ew
  let a := k.rv (wRs1 w)
  let b := k.rv (wRs2 w)
  let d := k.rv (wRd w)
  (List.range k.vl).foldl (fun x i =>
    let p := if lt then decide (selem n (elem n a i) < selem n (elem n b i)) else elem n a i == elem n b i
    x + flag (if active k w i then p else bit d i) i) 0

/-- VADD to VCMPLT, opcode 0x41 (R370, R373, R388). -/
def kwVArith (c : CoreId) (w fr : Nat) (k : Core) : KOut :=
  let fn := bits w 7 0
  let n := 8 * k.ew
  if ¬ c.isC ∨ k.rc kVSTART ≠ 0 then illegal k
  else if fn = 11 ∨ fn = 12 then .done (k.wv (wRd w) (vcompare k w (fn == 12))).vdone .next (vcycles k)
  else match vecFn fn with
    | none => illegal k
    | some f =>
      let a := k.rv (wRs1 w)
      let b := k.rv (wRs2 w)
      let x := (List.range k.vl).foldl (fun x i =>
        if active k w i then setElem n x i (elemOp f n (elem n a i) (elem n b i) (elemFree n fr i)) else x) (k.rv (wRd w))
      .done (k.wv (wRd w) x).vdone .next (vcycles k)

/-- The address of element `i`: unit stride, stride in g_rs2, or indexed by vs2 (R371). -/
def elemAddr (k : Core) (w i : Nat) : Nat :=
  let base := (k.rg (wRs1 w)).toNat
  match bits w 7 0 with
  | 1 => addrAdd base ((k.rg (wRs2 w)).toInt * i)
  | 3 => (base + elem (8 * k.ew) (k.rv (wRs2 w)) i) % 2 ^ 64
  | _ => (base + i * k.ew) % 2 ^ 64

/-- Load elements in ascending order; on a fault, the element and its code (R371, R373). -/
def vloads (c : CoreId) (rch : Reach) (w : Nat) (k0 : Core) : List Nat → Nat → Nat × Option (Nat × Nat)
  | [], x => (x, none)
  | i :: more, x =>
    if active k0 w i then
      match k0.load c rch (elemAddr k0 w i) k0.ew with
      | .error e => (x, some (i, e))
      | .ok y => vloads c rch w k0 more (setElem (8 * k0.ew) x i y)
    else vloads c rch w k0 more x

/-- The elements of a vector memory instruction, from VSTART. -/
def vrange (k : Core) : List Nat := (List.range k.vl).filter fun i => decide ((k.rc kVSTART).toNat ≤ i)

/-- VLD of the kinds unit, stride and indexed (R371, R373). -/
def kwVld (c : CoreId) (rch : Reach) (w : Nat) (k : Core) : KOut :=
  let fn := bits w 7 0
  if c.isC ∧ (fn = 0 ∨ fn = 1 ∨ fn = 3) then
    match vloads c rch w k (vrange k) (k.rv (wRd w)) with
    | (x, none) => .done (k.wv (wRd w) x).vdone .next (if fn = 0 then vcycles k else max 1 k.vl)
    | (x, some (i, e)) => .exc ((k.wv (wRd w) x).wc kVSTART (BitVec.ofNat 64 i)) e (elemAddr k w i)
  else illegal k

/-- VLD first-fault: a fault of a later element sets VL to it (R372). -/
def kwVldFirst (c : CoreId) (rch : Reach) (w : Nat) (k : Core) : KOut :=
  if c.isC ∧ bits w 7 0 = 2 then
    match vloads c rch w k (vrange k) (k.rv (wRd w)) with
    | (x, none) => .done (k.wv (wRd w) x).vdone .next (vcycles k)
    | (x, some (i, e)) =>
      let k1 := k.wv (wRd w) x
      if i = (k.rc kVSTART).toNat then .exc (k1.wc kVSTART (BitVec.ofNat 64 i)) e (elemAddr k w i)
      else .done { k1.vdone with vl := i } .next (vcycles k)
  else illegal k

/-- Store elements in ascending order (R371). -/
def vstores (c : CoreId) (w : Nat) (k0 : Core) : List Nat → Core → Core × Option (Nat × Nat)
  | [], k => (k, none)
  | i :: more, k =>
    if active k0 w i then
      match k.store c (elemAddr k0 w i) k0.ew (elem (8 * k0.ew) (k0.rv (wRd w)) i) with
      | .error e => (k, some (i, e))
      | .ok k1 => vstores c w k0 more k1
    else vstores c w k0 more k

/-- VST (R371, R373). -/
def kwVst (c : CoreId) (w : Nat) (k : Core) : KOut :=
  let fn := bits w 7 0
  if c.isC ∧ (fn = 0 ∨ fn = 1 ∨ fn = 3) then
    match vstores c w k (vrange k) k with
    | (k1, none) => .done k1.vdone .next (max 1 k.vl)
    | (k1, some (i, e)) => .exc (k1.wc kVSTART (BitVec.ofNat 64 i)) e (elemAddr k w i)
  else illegal k

/-- A slid source element: beyond the register the spec gives no value, and it is free. -/
def slideSrc (c : CoreId) (k : Core) (w i fr : Nat) : Nat :=
  let n := 8 * k.ew
  if i < c.vlen / n then elem n (k.rv (wRs1 w)) i else elemFree n fr i

/-- VMV.G: element 0 to g_rd; where its top bit is set the bits above it are free. -/
def vmvG (k : Core) (w fr : Nat) : U64 :=
  let n := 8 * k.ew
  let x := elem n (k.rv (wRs1 w)) 0
  BitVec.ofNat 64 (x + if bit x (n - 1) then fr * 2 ^ n else 0)

/-- VSLIDEUP to VMV.V, opcode 0x44 (R388). -/
def kwVMove (c : CoreId) (w fr : Nat) (k : Core) : KOut :=
  let n := 8 * k.ew
  let d := k.rv (wRd w)
  let amt := (k.rg (wRs2 w)).toNat
  let each (f : Nat → Option Nat) : KOut :=
    let x := (List.range k.vl).foldl (fun x i => match f i with
      | some y => if active k w i then setElem n x i y else x
      | none => x) d
    .done (k.wv (wRd w) x).vdone .next (vcycles k)
  let red (f : Nat → Nat → Nat) : KOut :=
    let y := (List.range k.vl).foldl (fun y i => if active k w i then f y (elem n (k.rv (wRs1 w)) i) else y) 0
    .done (k.wv (wRd w) (if k.vl = 0 then d else setElem n d 0 y)).vdone .next (vcycles k)
  if ¬ c.isC ∨ k.rc kVSTART ≠ 0 then illegal k
  else match bits w 7 0 with
    | 0 => each fun i => if amt ≤ i then some (elem n (k.rv (wRs1 w)) (i - amt)) else none
    | 1 => each fun i => some (slideSrc c k w (i + amt) fr)
    | 2 => red fun a b => (a + b) % 2 ^ n
    | 3 => red Nat.xor
    | 4 => .done (k.wg (wRd w) (vmvG k w fr)).vdone .next (vcycles k)
    | 5 => each fun _ => some ((k.rg (wRs1 w)).toNat % 2 ^ n)
    | _ => illegal k

/-! ### Datapath commands -/

/-- A datapath command belongs to the core's datapath (R405). -/
def dpOn (c : CoreId) (op : Nat) : Bool :=
  match op, c.datapath with
  | 0x50, d => d == 1
  | 0x51, d => d == 1 || d == 3
  | 0x52, d => d == 3
  | 0x57, _ => true
  | _, d => d == 2

/-- A datapath command closed to customer code (R405). -/
def dpClosed (c : CoreId) (w : Nat) : Bool :=
  !dpOn c (wOP w) || wOP w == 0x57 || ((wOP w == 0x51 || wOP w == 0x52) && bit w 8)

/-- A datapath command, opcodes 0x50 to 0x57 (R405). The spec does not lay out its operands: the local memory, g_rd and
the comparison pair it leaves are free values. -/
def kwDatapath (c : CoreId) (rch : Reach) (w fr nfree : Nat) (k : Core) : KOut :=
  if ¬ c.isC then illegal k
  else if rch.isSome then
    if dpClosed c w then .exc k xACCESS k.pc
    else .ok ({ k with lmem := [], lbase := some nfree, pair := (bit fr 64, bit fr 65) }.wg (wRd w) (BitVec.ofNat 64 fr))
  else if dpOn c (wOP w) then
    .ok ({ k with lmem := [], lbase := some nfree, pair := (bit fr 64, bit fr 65) }.wg (wRd w) (BitVec.ofNat 64 fr))
  else illegal k

/-! ### Control registers and system words -/

/-- A write of a control register by CTLWR, CTLSET or CTLCLR (R369, R376). -/
def kwCtlTo (c : CoreId) (rch : Reach) (w : Nat) (k : Core) (f : U64 → U64 → U64) : KOut :=
  let n := bits w 9 0
  if bits w 13 10 ≠ 0 then illegal k
  else match ctlRead c k n with
    | none => illegal k
    | some old =>
      if rch.isSome ∧ (n = kEVEC ∨ n = kSLIM) then .exc k xACCESS k.pc
      else match ctlWrite c k n (f old (k.rg (wRs1 w))) with
        | none => illegal k
        | some k1 => .ok k1

/-- CTLRD (R369). -/
def kwCtlrd (c : CoreId) (w : Nat) (k : Core) : KOut :=
  if bits w 13 10 ≠ 0 then illegal k
  else match ctlRead c k (bits w 9 0) with
    | none => illegal k
    | some x => .ok (k.wg (wRd w) x)

/-- CTLWR: of PL or PH inside a shadow it raises ILLEGAL (R376). -/
def kwCtlwr (c : CoreId) (rch : Reach) (w : Nat) (k : Core) : KOut :=
  let n := bits w 9 0
  if (n = kPL ∨ n = kPH) ∧ ¬ k.flight.isEmpty then illegal k else kwCtlTo c rch w k fun _ x => x

/-- CTLSET (R369). -/
def kwCtlset (c : CoreId) (rch : Reach) (w : Nat) (k : Core) : KOut := kwCtlTo c rch w k fun o x => o ||| x

/-- CTLCLR (R369). -/
def kwCtlclr (c : CoreId) (rch : Reach) (w : Nat) (k : Core) : KOut := kwCtlTo c rch w k fun o x => o &&& ~~~x

/-- rd and rs1 of a word of opcode 0x70 are zero. -/
def sysOk (w : Nat) : Bool := wRd w == 0 && wRs1 w == 0

/-- FENCE: a core runs its accesses in order, so the barrier only advances (R365). -/
def kwFence (w : Nat) (k : Core) : KOut := if sysOk w then .ok k else illegal k

/-- WFI: goes on at once where an interrupt is pending, and otherwise waits for one (R388). -/
def kwWfi (w : Nat) (k : Core) : KOut := if sysOk w then .ok { k with waiting := k.pending.isEmpty } else illegal k

/-- RETE: STATUS from ESTATUS, on at EPC; two cycles (R385). -/
def kwRete (w : Nat) (k : Core) : KOut :=
  if sysOk w then
    let e := (k.rc kESTATUS).toNat
    .done { k with ie := bit e 0, inh := bit e 1 } (.goto (k.rc kEPC).toNat) 2
  else illegal k

/-- TRAP: its imm14[10:0] to EVAL (R385, R388). -/
def kwTrap (w : Nat) (k : Core) : KOut := if sysOk w then .exc k xTRAP (bits w 10 0) else illegal k

/-- BREAK (R384). -/
def kwBreak (w : Nat) (k : Core) : KOut := if sysOk w then .exc k xBREAK k.pc else illegal k

/-! ### Paired words -/

/-- A write of a short operation. -/
inductive SWrite where
  | none
  | g (n : Nat) (x : U64)
  | f (n x : Nat)
deriving DecidableEq, Repr

/-- One short operation of 15 bits over the registers before the word (R363, R389); none where it is illegal. -/
def shortOp (k : Core) (h : Nat) : Option SWrite :=
  let rd := bits h 9 5
  let rs := bits h 4 0
  let d := k.rg rd
  let a := k.rg rs
  match bits h 14 10 with
  | 0x00 => if rd = 0 ∧ rs = 0 then some .none else none
  | 0x01 => some (.g rd a)
  | 0x02 => some (.g rd (d + a))
  | 0x03 => some (.g rd (d - a))
  | 0x04 => some (.g rd (d &&& a))
  | 0x05 => some (.g rd (d ||| a))
  | 0x06 => some (.g rd (d ^^^ a))
  | 0x07 => some (.g rd (d + BitVec.ofInt 64 (sfield 5 rs)))
  | 0x08 => some (.g rd (d <<< rs))
  | 0x09 => some (.g rd (d >>> rs))
  | 0x0A => some (.g rd (d.sshiftRight rs))
  | 0x0B => some (.g rd (-a))
  | 0x0C => some (.g rd (~~~a))
  | 0x0D => if rs = 0 then some (.g rd (k.rc kPL)) else none
  | 0x0E => if rs = 0 then some (.g rd (k.rc kPH)) else none
  | 0x0F => some (.g rd (BitVec.ofNat 64 (k.rf rs)))
  | 0x10 => some (.f rd a.toNat)
  | _ => none

/-- Two halves write the same register, other than g0 (R364). -/
def SWrite.clash : SWrite → SWrite → Bool
  | .g a _, .g b _ => a == b && a != 0
  | .f a _, .f b _ => a == b
  | _, _ => false

/-- Carry out a half's write. -/
def SWrite.to (k : Core) : SWrite → Core
  | .none => k
  | .g n x => k.wg n x
  | .f n x => k.wf n x

/-- A paired word: both halves read before either writes (R364). -/
def kwPaired (w : Nat) (k : Core) : KOut :=
  match shortOp k (bits w 30 16), shortOp k (bits w 15 1) with
  | some a, some b => if bit w 0 || a.clash b then illegal k else .ok (b.to (a.to k))
  | _, _ => illegal k

/-! ### Classes of words -/

/-- The classes of words: one for each row of the opcode table. -/
inductive KClass where
  | alu | mulU | mulS | macU | ld | st | lda | sta | branch | jmp | call | jmpr | callr | ret | loop | rep | repi | fp
  | packed | fld | fst | setvl | vArith | vld | vldFirst | vst | vMove | datapath | ctlrd | ctlwr | ctlset | ctlclr
  | fence | wfi | rete | trap | break | paired
deriving DecidableEq, Repr

/-- The class of a word; none for a reserved opcode or a reserved FN of opcodes 0x08, 0x42 and 0x70 (R388). -/
def kclass (w : Nat) : Option KClass :=
  if bit w 31 then some .paired
  else match wOP w with
    | 0x01 => some .alu | 0x02 => some .alu | 0x03 => some .alu | 0x04 => some .alu | 0x05 => some .alu
    | 0x06 => some .alu | 0x07 => some .alu
    | 0x08 => match wFN w with
      | 0 => some .mulU | 1 => some .mulS | 2 => some .macU | _ => none
    | 0x10 => some .ld | 0x11 => some .ld | 0x12 => some .ld | 0x13 => some .ld | 0x14 => some .ld | 0x15 => some .ld
    | 0x16 => some .ld
    | 0x18 => some .st | 0x19 => some .st | 0x1A => some .st | 0x1B => some .st
    | 0x1C => some .lda | 0x1D => some .lda | 0x1E => some .sta
    | 0x20 => some .branch | 0x21 => some .jmp | 0x22 => some .call | 0x23 => some .jmpr | 0x24 => some .callr
    | 0x25 => some .ret | 0x28 => some .loop | 0x29 => some .rep | 0x2A => some .repi
    | 0x30 => some .fp | 0x31 => some .packed | 0x32 => some .fld | 0x33 => some .fst
    | 0x40 => some .setvl | 0x41 => some .vArith
    | 0x42 => if bits w 7 0 = 2 then some .vldFirst else some .vld
    | 0x43 => some .vst | 0x44 => some .vMove
    | 0x50 => some .datapath | 0x51 => some .datapath | 0x52 => some .datapath | 0x53 => some .datapath
    | 0x54 => some .datapath | 0x55 => some .datapath | 0x56 => some .datapath | 0x57 => some .datapath
    | 0x60 => some .ctlrd | 0x61 => some .ctlwr | 0x62 => some .ctlset | 0x63 => some .ctlclr
    | 0x70 => match bits w 13 11 with
      | 0 => some .fence | 1 => some .wfi | 2 => some .rete | 3 => some .trap | 4 => some .break | _ => none
    | _ => none

/-- A word of one operation other than the repeat prefixes. -/
def kword (c : CoreId) (rch : Reach) (w fr nfree : Nat) (k : Core) : KOut :=
  match kclass w with
  | some .alu => kwAlu w fr k
  | some .mulU => kwMul w k
  | some .mulS => kwMul w k
  | some .macU => kwMul w k
  | some .ld => kwLd c rch w k
  | some .st => kwSt c w k
  | some .lda => kwLda c rch w k
  | some .sta => kwSta c w k
  | some .branch => kwBranch w k
  | some .jmp => kwJmp w k
  | some .call => kwCall c w k
  | some .jmpr => kwJmpr w k
  | some .callr => kwCallr c w k
  | some .ret => kwRet c rch w k
  | some .loop => kwLoop c w k
  | some .fp => kwFp w fr k
  | some .packed => kwPacked w fr k
  | some .fld => kwFld c rch w k
  | some .fst => kwFst c w k
  | some .setvl => kwSetvl c w k
  | some .vArith => kwVArith c w fr k
  | some .vld => kwVld c rch w k
  | some .vldFirst => kwVldFirst c rch w k
  | some .vst => kwVst c w k
  | some .vMove => kwVMove c w fr k
  | some .datapath => kwDatapath c rch w fr nfree k
  | some .ctlrd => kwCtlrd c w k
  | some .ctlwr => kwCtlwr c rch w k
  | some .ctlset => kwCtlset c rch w k
  | some .ctlclr => kwCtlclr c rch w k
  | some .fence => kwFence w k
  | some .wfi => kwWfi w k
  | some .rete => kwRete w k
  | some .trap => kwTrap w k
  | some .break => kwBreak w k
  | some .paired => kwPaired w k
  | some .rep => illegal k
  | some .repi => illegal k
  | none => illegal k

/-! ### The repeat prefixes -/

/-- A word that may stand behind a prefix (R381). -/
def repeatable (w : Nat) : Bool :=
  match kclass w with
  | some .branch | some .jmp | some .call | some .jmpr | some .callr | some .ret | some .rete | some .trap | some .rep
  | some .repi | some .setvl | some .vArith | some .vld | some .vldFirst | some .vst | some .vMove => false
  | _ => true

/-- Run the word behind REP `n` times: products land between repetitions, and an exception leaves the pc at the
prefix. -/
def repeatWord (c : CoreId) (w fr nfree : Nat) : Nat → Core → KOut
  | 0, k => .done k .next 0
  | n + 1, k =>
    let k0 := k.land k.cycle
    match kword c none w fr nfree k0 with
    | .done k1 _ t => repeatWord c w fr nfree n { k1 with cycle := k1.cycle + t }
    | .exc k1 e v => .exc k1 e v

/-- REP: the next word `w2`, as often as rs says, and no interrupt between (R381). -/
def kwRep (c : CoreId) (w w2 fr nfree : Nat) (k : Core) : KOut :=
  let n := (k.rg (wRd w)).toNat
  if c.isC ∨ bits w 18 0 ≠ 0 ∨ ¬ repeatable w2 then illegal k
  else if 256 < n then .exc k xREPRANGE k.pc
  else match repeatWord c w2 fr nfree n { k with cycle := k.cycle + 1 } with
    | .done k1 _ _ => .done k1 (.goto (k.pc + 8)) 0
    | .exc k1 e v => .exc k1 e v

/-- REPI: one repetition of `w2`; rs holds what is left, and the pc stays at the prefix until it is 0 (R381). -/
def kwRepi (c : CoreId) (w w2 fr nfree : Nat) (k : Core) : KOut :=
  let rs := wRd w
  let n := (k.rg rs).toNat
  if c.isC ∨ bits w 18 0 ≠ 0 ∨ ¬ repeatable w2 then illegal k
  else if n = 0 then .done k (.goto (k.pc + 8)) 1
  else match kword c none w2 fr nfree { k.land (k.cycle + 1) with cycle := k.cycle + 1 } with
    | .done k1 _ t =>
      let left := k1.rg rs - 1
      .done (k1.wg rs left) (if left = 0 then .goto (k.pc + 8) else .again) t
    | .exc k1 e v => .exc k1 e v

/-! ### Exceptions and interrupts -/

/-- Enter the handler (R385): EPC, EVAL, ECAUSE and ESTATUS written, INH set and IE cleared, on at EVEC; three cycles. -/
def Core.enter (c : CoreId) (k : Core) (epc cause : Nat) (eval : Option Nat) : Core :=
  let k1 := (k.wc kEPC (BitVec.ofNat 64 epc)).wc kECAUSE (BitVec.ofNat 64 cause)
  let k2 := match eval with
    | some v => k1.wc kEVAL (BitVec.ofNat 64 v)
    | none => k1
  { k2.wc kESTATUS (k.status c) with
      inh := true, ie := false, pc := (k.rc kEVEC).toNat, cycle := k.cycle + 3, waiting := false }

/-- The core as an exception finds it: every product in flight landed (R375). -/
def Core.settle (k : Core) : Core :=
  let t := k.allLanded
  { k.land t with cycle := t }

/-- The core and the address of the next word once the word at `pc` has completed: under the hardware loops of R380 while matching is
active. -/
def Core.nextWord (c : CoreId) (k : Core) (pc : Nat) : Core × Nat :=
  if c.isC ∧ ¬ k.inh then loopEnd k pc [3, 2, 1, 0] else (k, pc + 4)

/-- A synchronous exception enters the handler; EPC is the faulting word, and for TRAP the next word to run (R380, R385). -/
def Core.exception (c : CoreId) (k : Core) (code eval : Nat) : Core :=
  let shadow := !k.flight.isEmpty
  let (k1, epc) := if code = xTRAP then k.settle.nextWord c k.pc else (k.settle, k.pc)
  k1.enter c epc (code + flag shadow 9) (some eval)

/-- An exception with no handler to go to: a double fault, or EVEC 0 on Kertor-C (R387). -/
def noHandler (c : CoreId) (k : Core) : Bool := k.inh || (c.isC && k.rc kEVEC == 0)

/-- An interrupt may be taken (R386). -/
def Core.takesInterrupt (k : Core) : Bool := k.ie && k.flight.all fun f => decide (f.due ≤ k.cycle)

/-- Take the lowest pending interrupt (R385, R386). -/
def Core.interrupt (c : CoreId) (k : Core) : Core :=
  match k.pending.min? with
  | none => k
  | some n =>
    if k.takesInterrupt then
      ({ k.land k.cycle with pending := k.pending.filter fun m => m != n }).enter c k.pc (n + flag true 8) none
    else k

/-- The core after a word completes: the pc moves on, under the hardware loops of R380 while matching is active. -/
def Core.after (c : CoreId) (pc : Nat) (f : Flow) (cycles : Nat) (k : Core) : Core :=
  let k1 := { k with cycle := k.cycle + cycles }
  match f with
  | .goto a => { k1 with pc := a }
  | .again => k1
  | .ended => k1
  | .next =>
    let (k2, a) := k1.nextWord c pc
    { k2 with pc := a }

/-- At the boundary after a word a pending interrupt is taken where R386 allows it; a customer routine takes none through EVEC. -/
def Core.boundary (c : CoreId) (k : Core) : Core := if k.cust || k.pending.isEmpty then k else k.interrupt c

end Sys2Proof.Machine
end

