-- ==== Sys2Proof/Machine/Keys.lean ====
section
/-! DEFINITION. The KEY verbs and the vault (R330-R358): creating verbs, the shelf miss, eviction, deletion, pins,
transfer and key update messages. -/

namespace Sys2Proof.Machine

/-! ### Key material -/

/-- Key bytes of the symmetric codes of R341; GENERIC takes SIZE. -/
def symLen (alg size : Nat) : Nat :=
  if alg = 0xE8 then size
  else look [(0xE1, 16), (0xE2, 24), (0xE3, 32), (0xE4, 32), (0xE5, 64), (0xE6, 32)] alg

/-- The key is symmetric or generic (R341). -/
def isSym (alg : Nat) : Bool := (famOf alg).any fun f => f == .aes || f == .xts || f == .chacha || f == .generic

/-- Bytes of key material in seed form, or in the one form the key has (R342). -/
def seedLen (alg size levels : Nat) : Nat :=
  match famOf alg with
  | some .mlkem => 64
  | some .mldsa => 32
  | some .comp => 32 + (classicPart alg).1
  | some .hyb => 64 + (classicPart alg).1
  | some .slhdsa => 2 * pubLen alg
  | some .lms => 48 * levels
  | some .rsa => size / 8
  | some .ecdsa => (pubLen alg - 1) / 2
  | some .eddsa => pubLen alg
  | some .ecdh => if alg ≤ 0xB3 then (pubLen alg - 1) / 2 else pubLen alg
  | some .mce => if alg ≤ 0xC2 then 13948 else 14120
  | some .hqc => 40
  | _ => symLen alg size

/-- Bytes of key material in expanded form (R342); 0 where the key has no expanded form. -/
def expandedLen (alg size : Nat) : Nat :=
  match famOf alg with
  | some .mlkem => latticePrivLen alg
  | some .mldsa => latticePrivLen alg + pubLen alg
  | some .comp => latticePrivLen (latticeAlg alg) + pubLen (latticeAlg alg) + (classicPart alg).1
  | some .hyb => latticePrivLen (latticeAlg alg) + (classicPart alg).1
  | some .rsa => size / 8 + 32 + size / 8 + 3 * (size / 16)
  | some .mce => if alg ≤ 0xC2 then 13948 else 14120
  | _ => if isSym alg then symLen alg size else 0

/-- RSA modulus bits that key material implies (R342). -/
def rsaBits (form len : Nat) : Nat := if form = 0 then 8 * len else (len - 32) * 16 / 7

/-! ### The checks of R349 -/

/-- Unit 4 of the arguments of a creating verb (R348). -/
def Job.size (j : Job) : Nat := fld j.args 0x40 2
/-- LEVELS (R348). -/
def Job.levels (j : Job) : Nat := fld j.args 0x42 1

/-- A LEVEL_CODE byte: height 5 to 25 in steps of 5, W 0 to 3 (R348). -/
def levelOk (b : Byte) : Bool :=
  let h := bits b.toNat 4 0
  decide (5 ≤ h) && decide (h ≤ 25) && h % 5 == 0 && decide (bits b.toNat 7 5 ≤ 3)

/-- The largest USAGE_LIMIT a key may carry (R544). -/
def usageBound (alg : Nat) : Nat :=
  if 0xE1 ≤ alg ∧ alg ≤ 0xE3 then 2 ^ 48 else if 0xE4 ≤ alg ∧ alg ≤ 0xE5 then 2 ^ 44 else if alg = 0xE6 then 2 ^ 32
  else max64

/-- MIN_ORDER is a field of lattice, composite and hybrid keys (R338). -/
def ordered (alg : Nat) : Bool :=
  (famOf alg).any fun f => f == .mlkem || f == .mldsa || f == .fndsa || f == .comp || f == .hyb

/-- Step 1 of R349 for a creating verb. -/
def keyStep1 (j : Job) (paramMask : Nat) : Option Status :=
  let p := readPolicy (slice j.args 0 64)
  let lms := famOf j.alg == some .lms
  check (j.param.toNat &&& paramMask == 0 && j.args.length == 80 &&
    p.attr &&& 0xFFFFFF81 == 0 && p.uses &&& 0xFFFE0000 == 0 && decide (p.validFrom < p.validTo) &&
    decide (p.usageLimit ≤ usageBound j.alg) && zero? j.args 0x22 6 && p.keyId == 0 && zero? j.args 0x30 16 &&
    (if ordered j.alg then decide (p.minOrder ≤ 3) else p.minOrder == 0) &&
    (if lms then p.reserveLog2 == 0 || (decide (4 ≤ p.reserveLog2) && decide (p.reserveLog2 ≤ 16)) else p.reserveLog2 == 0) &&
    (if lms then decide (1 ≤ j.levels) && decide (j.levels ≤ 8) && ((slice j.args 0x44 8).take j.levels).all levelOk &&
        zero? j.args (0x44 + j.levels) (8 - j.levels)
     else j.levels == 0 && zero? j.args 0x44 8) &&
    zero? j.args 0x43 1 && zero? j.args 0x4C 4) .malformed

/-- SIZE in range for the key (R215, R341, R348). -/
def sizeOk (alg size : Nat) : Bool :=
  match famOf alg with
  | some .rsa => decide (1024 ≤ size) && decide (size ≤ 16384) && size % 64 == 0
  | some .generic => decide (16 ≤ size) && decide (size ≤ 256)
  | _ => size == 0

/-- The families KEY.GENERATE takes; FN-DSA and XMSS keys enter only as imported public keys (R137, R195). -/
def generates (alg : Nat) : Bool := (famOf alg).any fun f => !(f == .fndsa || f == .xmss)

/-- Step 3 of R349: the family of the verb and that of the algorithm's verbs (R44). -/
def algFamily (alg : Nat) : Nat :=
  match famOf alg with
  | some .mlkem => 3 | some .hyb => 3 | some .mce => 3 | some .hqc => 3 | some .ecdh => 3
  | some .aes => 6 | some .xts => 6 | some .chacha => 6 | some .generic => 5
  | _ => 4

/-- Step 4 of R349 (R339). -/
def keyStep4 (s : State) (alg cls : Nat) (p : Policy) : List (Option Status) :=
  [check (!(bit p.attr 2) || (decide (2 ≤ cls) && !(bit p.attr 3))) .keyPolicy,
   check (p.minOrder == 0 || decide (s.pkg.fuses.maskFloor ≤ p.minOrder)) .maskFloor,
   check ((famOf alg).any fun f => !(outside p.uses (usesAllowed f cls))) .keyPolicy]

/-- Handles an instance holds, those of creating verbs whose results wait to be posted included. -/
def heldHandles (s : State) (i : Nat) : List KeyRec :=
  (s.vault.handles.filter (fun k => !k.dead) ++ s.cmds.filterMap fun c => c.prog.res.bind (·.key)).filter fun k => k.inst == i

/-- Step 7 of R349: the handle cap, the table, and a free LMS record (R335). -/
def capOk (s : State) (i alg : Nat) : Option Status :=
  check (decide ((heldHandles s i).length < (s.inst i).cfg.hcap) && decide (s.vault.handles.length < 16384) &&
    (famOf alg != some .lms ||
      decide (s.vault.lms.length + (s.cmds.filterMap fun c => c.prog.res.bind (·.lms)).length < 1024))) .quota

/-- The checks of R349 for a creating verb, steps 1 to 7. -/
def createChecks (s : State) (j : Job) (mask cls : Nat) (known lens : Bool) : List (Option Status) :=
  let p := readPolicy (slice j.args 0 64)
  [keyStep1 j mask, check (known && sizeOk j.alg j.size) .paramUnsupported,
   check (familyOn s 2 && familyOn s (algFamily j.alg) && algEnabled s j.alg) .algDisabled] ++
  keyStep4 s j.alg cls p ++
  [check lens .lengthMismatch, check s.vault.ownerSeed.isSome .lifecycle]

/-! ### Creating a key -/

/-- The lowest free index from the instance's pointer, modulo 65,536 (R106); `fuel` bounds the search. -/
def freeIndex (used : List Nat) : Nat → Nat → Nat
  | 0, p => p
  | fuel + 1, p => if used.contains p then freeIndex used fuel ((p + 1) % 65536) else p

/-- The 16-byte key record (R348). -/
def KeyRec.bytes (k : KeyRec) : List Byte :=
  le 4 k.handle.toNat ++ le 1 k.cls ++ le 1 k.alg ++ le 2 k.entries ++ le 8 k.keyId

/-- What a creating verb makes. -/
structure NewKey where
  cls : Nat
  alg : Nat
  form : Nat
  size : Nat
  levels : Nat
  secret : List Byte
  pub : List Byte
  pol : Policy
  blobLen : Nat
deriving DecidableEq, Repr

/-- The host address of an operand's first fragment (R348). -/
def Job.addrOf (j : Job) (operand : Nat) : Nat :=
  ((j.frags.find? fun f => f.operand == operand).map (·.addr)).getD 0

/-- The handle record of a new key, its index taken from the instance's pointer. -/
def newRecord (j : Job) (n : NewKey) (home blobOperand lmsId : Nat) (s : State) : KeyRec × State :=
  let i := j.targetInst
  let idx := freeIndex (((heldHandles s i) ++ s.vault.handles.filter fun k => k.dead && k.inst == i).map (·.idx)) 65536
    (s.inst i).handlePtr
  let k : KeyRec :=
    { inst := i, cls := n.cls, gen := (s.inst i).gen % 16, idx := idx, keyId := n.pol.keyId, alg := n.alg, pol := n.pol,
      home := home, blobAddr := j.addrOf blobOperand, blobLen := n.blobLen, pubAddr := j.addrOf 2,
      pubLen := if famOf n.alg = some .mce then pubLen n.alg else 0, size := n.size,
      entries := shelfEntries n.cls n.alg n.pol.minOrder n.size n.levels n.pub.length, lmsId := lmsId,
      digest := if granules (latticeAlg n.alg) = 0 then []
                else crystDigest (latticeAlg n.alg) (n.pub.take (pubLen (latticeAlg n.alg))) }
  (k, s.modInst i fun x => { x with handlePtr := (idx + 1) % 65536 })

/-- The key as it lies in a shelf, in fresh shares (R116, R345). -/
def shelfOf (k : KeyRec) (n : NewKey) (s : State) : ShelfKey × State :=
  let (sh, s1) := storeShares k.alg k.pol.minOrder n.secret s
  ({ inst := k.inst, keyId := k.keyId, entries := k.entries, lru := s.tick, lattice := sh.1, other := sh.2, pub := n.pub }, s1)

/-- The policy as stored: the attributes the device sets, the floor for MIN_ORDER 0, the KEY_ID (R338, R339, R341). -/
def storedPolicy (s : State) (j : Job) (attrs keyId : Nat) : Policy :=
  let p := readPolicy (slice j.args 0 64)
  { p with attr := p.attr ||| attrs, keyId := keyId,
           minOrder := if p.minOrder = 0 ∧ ordered j.alg then s.pkg.fuses.maskFloor else p.minOrder }

/-- Leaves of an HSS key and of one tree of its lowest level (R190). -/
def hssLeaves (j : Job) : Nat × Nat :=
  let hs := ((slice j.args 0x44 8).take j.levels).map fun b => bits b.toNat 4 0
  (2 ^ hs.sum, 2 ^ hs.getLastD 0)

/-- The next LMS state-record identifier (R190). -/
def takeLms (s : State) : Nat × State :=
  (s.vault.nextLms, { s with vault := { s.vault with nextLms := s.vault.nextLms + 1 } })

/-- The result of a creating verb: blob, record and handle, entered when the outputs are written (R350); ST_OUTPUT_SHORT
where a fragment cannot hold them. -/
def created (c : Cmd) (n : NewKey) (outs : List (Nat × List Byte)) (s : State) : State × Option Res :=
  let j := c.job
  let i := j.targetInst
  let lms := famOf n.alg = some .lms ∧ n.cls = 0
  let (lid, s0) := if lms then takeLms s else (0, s)
  let (id, s1) := takeKeyId s0
  let n1 := { n with pol := { n.pol with keyId := id } }
  let blob := wrapBlob s1 i n1.cls n1.alg n1.form lid n1.pol n1.secret n1.pub
  let (k, s2) := newRecord j { n1 with blobLen := blob.length } c.rgn 1 lid s1
  let r := outsTo j ((1, blob) :: outs ++ [(4, k.bytes)])
  if r.status = .ok then
    let b := if n.pol.reserveLog2 = 0 then 1024 else 2 ^ n.pol.reserveLog2
    let (e, s3) := shelfOf k n1 s2
    (s3, some { r with key := some k, shelf := some e,
                       lms := if lms then some { id := lid, inst := i, keyId := id, rl := 0, b := b,
                                                 leaves := (hssLeaves j).1, tree := (hssLeaves j).2 } else none })
  else (s, some r)

/-- Enter the handle of a creating verb, leave its key in the shelf where the quota allows, and enter its LMS record
(R350, R190). -/
def enterKey (r : Res) (s : State) : State :=
  match r.key with
  | none => s
  | some k =>
    let s1 := { s with vault := { s.vault with handles := s.vault.handles ++ [k],
                                               lms := s.vault.lms ++ r.lms.toList } }
    match r.shelf with
    | none => s1
    | some e => if s1.inService k.home then (shelve k.home e s1).2 else s1

/-- Bytes a key generation draws (R321). -/
def genDraw (alg : Nat) : Nat :=
  match famOf alg with
  | some .mlkem => 64
  | some .mldsa => 32
  | some .comp => 32 + 8 + (classicPart alg).1
  | some .hyb => 64 + 8 + (classicPart alg).1
  | some .slhdsa => 3 * (pubLen alg / 2)
  | some .ecdsa => 8 + seedLen alg 0 0
  | some .eddsa => 8 + seedLen alg 0 0
  | some .ecdh => 8 + seedLen alg 0 0
  | _ => 0

/-- The draws of a generated key: the random bytes of R321, after the mask bytes of a lattice part (R121, R137). -/
def withSeed (c : Cmd) (s : State) (k : List Byte → State → State × Option Res) : State × Option Res :=
  withMask (maskScale c.prog.order (maskBytes 3 c.job.alg)) c s fun s => withDraw (genDraw c.job.alg) 64 c s k

/-- Attempts of a Classic McEliece key generation, a free value: each but the last failed to reduce, and 256 are a fault (R222). -/
def mceAttempts (alg : Nat) (s : State) : Nat × State :=
  if famOf alg = some .mce then
    let (a, s1) := drawNat s
    (1 + a % 256, s1)
  else (0, s)

/-- Count the attempts of region `r` (R222). -/
def countAttempts (r n : Nat) (s : State) : State :=
  if n = 0 then s else s.modRegion r fun g => { g with num := { g.num with mceAttempts := satAdd max32 g.num.mceAttempts n } }

/-- 256 attempts are a RETRY-class fault of the cell (R222); the record's cause is the model's choice, DUP_MISMATCH (log 88). -/
def attemptsFault (c : Cmd) (s : State) : State :=
  raiseRetry { on := cellUnit c.rgn .number ((c.prog.unit.map (·.2.2)).getD 0), cause := .dupMismatch } .abortedFault s

/-- A generated key: the material of R342, drawn from the region, and its public half. -/
def generated (c : Cmd) (d : List Byte) (s : State) : NewKey :=
  let j := c.job
  let sym := isSym j.alg
  let len := seedLen j.alg j.size j.levels
  let secret := if sym then stdN len "key bytes drawn" [d]
    else stdN len "key generation" [le 1 j.alg, le 2 j.size, slice j.args 0x44 8, j.operand 0, d]
  { cls := if sym then 2 else 0, alg := j.alg, form := if sym || famOf j.alg == some .mce then 1 else 0, size := j.size,
    levels := j.levels, secret := secret,
    pub := materialPub (if sym then 2 else 0) j.alg (if famOf j.alg = some .mce then 1 else 0) secret,
    pol := storedPolicy s j (1 + (if famOf j.alg = some .lms then 128 else 0)) 0, blobLen := 0 }

/-- The exponent that RSA key generation is given: odd, above 2^16 and below 2^256 (R215). -/
def genExponentOk (e : List Byte) : Bool := e.isEmpty || (exponentOk (beAt e 0 e.length) && decide (2 ^ 16 < beAt e 0 e.length))

/-- KEY.GENERATE: the class 2 or class 0 key, its bytes drawn from the region (R137, R215, R222, R342). -/
def keyGenerate (c : Cmd) (s : State) : State × Option Res :=
  let j := c.job
  let e := j.operand 0
  orBad (createChecks s j 0xFFFFFF00 (if isSym j.alg then 2 else 0) (generates j.alg)
      (decide (e.length ≤ 32) && (e.isEmpty || decide (3 ≤ e.length))) ++ [capOk s j.targetInst j.alg, slotQuota s c]) s fun s =>
  withSeed c s fun d s =>
    let (n, s0) := mceAttempts j.alg s
    let s1 := countAttempts c.rgn n s0
    if n = 256 then (attemptsFault c s1, none)
    else if !genExponentOk e then (s1, some (stRes .decodeFail))
    else
      let k := generated c d s1
      let pub? := j.frags.any fun f => f.operand == 2
      let rep? := j.frags.any fun f => f.operand == 3
      created c k ((if pub? then [(2, k.pub)] else []) ++ (if n ≠ 0 ∧ rep? then [(3, le 4 n ++ zeros 4)] else [])) s1

/-- The class of an imported key: PUBLIC gives class 1, a symmetric code class 2 (R348). -/
def importClass (j : Job) : Nat := if j.pbit 9 then 1 else if isSym j.alg then 2 else 0

/-- ALG and form known to KEY.IMPORT: SEED_FORM only with a secret key of a seed form, no SEED_FORM only where the key
has an expanded form or but one form, PUBLIC only for a key with a public half (R342, R348). -/
def importKnown (j : Job) : Bool :=
  match famOf j.alg with
  | none => false
  | some f =>
    if j.pbit 9 then !j.pbit 8 && !isSym j.alg && (f != .generic)
    else if f == .fndsa || f == .xmss then false
    else if j.pbit 8 then !isSym j.alg && f != .mce
    else true

/-- Bytes of the key material an import carries; none where the code fixes no length. -/
def importLen (j : Job) : Option Nat :=
  if j.pbit 9 then if famOf j.alg = some .mce then some 0 else if pubLen j.alg = 0 then none else some (pubLen j.alg)
  else if j.pbit 8 ∨ expandedLen j.alg j.size = 0 then some (seedLen j.alg j.size j.levels)
  else some (expandedLen j.alg j.size - (if famOf j.alg = some .mldsa then pubLen j.alg else 0))

/-- The lengths of the operands of KEY.IMPORT (R349 step 5): key material of its form, an RSA public key of the modulus that SIZE gives,
and the public key of operand 2, which expanded ML-DSA keys and Classic McEliece keys carry (R348, log 94). -/
def importLens (j : Job) (two : Bool) : Bool :=
  let m := j.operand 0
  (importLen j).all (· == m.length) && (!two || (j.operand 2).length == pubLen j.alg) &&
    (!(j.pbit 9 && famOf j.alg == some .rsa) || (derRsa m).all fun k => bitLen k.1 == j.size)

/-- Imported key material decodes (R144, R159, R215, R217): an RSA exponent is one of R215, and a private key meets its public key in a
round trip where it is expanded or carries one. -/
def importDecodes (j : Job) (cls : Nat) (trip : Bool) (secret pub : List Byte) : Bool :=
  cls == 2 ||
    ((if famOf j.alg == some .rsa then
        if cls = 1 then (derRsa secret).any fun k => exponentOk k.2
        else j.pbit 8 || exponentOk (beAt secret (j.size / 8) 32)
      else true) &&
    Config.stdOk "imported key decodes" [le 1 j.alg, le 1 cls, secret, pub] &&
    (!trip || Config.stdOk "round trip of an imported secret key" [le 1 j.alg, secret, pub]))

/-- KEY.IMPORT (R342, R348, R349). -/
def keyImport (c : Cmd) (s : State) : State × Option Res :=
  let j := c.job
  let cls := importClass j
  let m := j.operand 0
  let expanded := cls != 1 && !j.pbit 8 && expandedLen j.alg j.size != 0
  let mldsaX := expanded && famOf j.alg == some .mldsa
  let two := mldsaX || famOf j.alg == some .mce
  orBad (createChecks s j 0xFFFFFC00 cls (importKnown j) (importLens j two) ++
      [check (cls == 1 || j.admin || j.inst == 0 || s.vault.plainImport) .notPermitted,
       capOk s j.targetInst (if cls = 1 then 0 else j.alg)]) s fun s =>
    let secret := if mldsaX then m ++ j.operand 2 else m
    let pub := if two then j.operand 2 else materialPub cls j.alg (if expanded then 1 else 0) secret
    if !importDecodes j cls (cls == 0 && expanded) secret pub then (s, some (stRes .decodeFail))
    else
      let attrs := if famOf j.alg = some .lms ∧ cls = 0 then 128 else 0
      created c { cls := cls, alg := j.alg, form := if expanded then 1 else 0, size := j.size, levels := j.levels,
                  secret := secret, pub := pub, pol := storedPolicy s j attrs 0, blobLen := 0 } [] s

/-- FUNC of KEY.DERIVE: a KDF code of R170. -/
def kdfFunc (f : Nat) : Bool := (decide (0x51 ≤ f) && decide (f ≤ 0x55)) || (decide (0x61 ≤ f) && decide (f ≤ 0x63))

/-- Step 8 of R349: what parent, function and child allow. A MIN_ORDER of 0 stands for the floor (R339). -/
def deriveStep8 (s : State) (j : Job) (func : Nat) (k : KeyRec) : Option Status :=
  let p := readPolicy (slice j.args 0 64)
  let km := func == 0x54 || func == 0x55
  check ((!k.attr 2 || km) && (!bit p.attr 2 || (k.attr 2 && km)) && decide (k.pol.minOrder ≤ max p.minOrder s.pkg.fuses.maskFloor)) .keyPolicy

/-- KEY.DERIVE (R349): the parent is a GENERIC key of class 2 or 3 with USES DERIVE; the child is of class 3 and
inherits NON_EXPORTABLE and GENERATED_INSIDE. -/
def keyDerive (c : Cmd) (s : State) : State × Option Res :=
  let j := c.job
  let func := bits j.param.toNat 15 8
  let lens := decide ((j.operand 0).length ≤ 255) && decide ((j.operand 3).length ≤ 1024)
  orBad ([keyChecks s j [2, 3] (· == 0xE8) 11 fun _ => true] ++
      createChecks s j 0xFFFF0000 3 (isSym j.alg && kdfFunc func) lens ++
      [capOk s j.targetInst j.alg, (jobKey s j).bind (deriveStep8 s j func)]) s fun s =>
  countThen c 1 (keyLimit s j) s fun s => withKey c s fun sk _ s =>
    let secret := stdN (symLen j.alg j.size) "KDF" [le 1 func, sk, j.operand 0, j.operand 3]
    let attrs := (((jobKey s j).map (·.pol.attr)).getD 0) &&& 3
    created c { cls := 3, alg := j.alg, form := 1, size := j.size, levels := 0, secret := secret, pub := [],
                pol := storedPolicy s j attrs 0, blobLen := 0 } [] s

/-! ### Loading -/

/-- The region holds KEK_i once it has needed it (R332), and counts an unwrap (R358). -/
def countUnwrap (r i : Nat) (s : State) : State :=
  s.modRegion r fun g => { g with unwraps := inc32 g.unwraps, keks := if g.keks.contains i then g.keks else g.keks ++ [i] }

/-- An unwrap is counted where the clear header passes, since steps 1 and 2 of R343 come before it. -/
def unwrapped (r i : Nat) (b : List Byte) (s : State) : State := if blobHead s i b then countUnwrap r i s else s

/-- A blob that fails R343 is counted. -/
def countBlobFail (s : State) : State := { s with vault := { s.vault with blobFail := inc32 s.vault.blobFail } }

/-- What a blob of instance `i` unwraps to. -/
def blobKey (s : State) (i : Nat) (b : List Byte) : NewKey :=
  let h := readHdr b
  let pt := unwrapBlob s i b
  let m := pt.drop 128
  { cls := h.cls, alg := h.alg, form := h.form,
    size := if famOf h.alg = some .rsa then if h.cls = 1 then derBits m else rsaBits h.form h.keyLen else h.keyLen,
    levels := h.keyLen / 48, secret := if h.cls = 1 then [] else m,
    pub := materialPub h.cls h.alg h.form m,
    pol := { readPolicy (slice pt 0x20 64) with keyId := h.keyId }, blobLen := b.length }

/-- A blob of a Classic McEliece key is loaded with its public key in operand 2 (R348). -/
def loadHasPub (j : Job) (h : BlobHdr) : Bool := famOf h.alg != some .mce || j.frags.any fun f => f.operand == 2

/-- KEY.LOAD (R337, R343, R349, R350). A key that is on the shelf already is not unwrapped again (R356), but its blob's clear
header is checked. -/
def keyLoad (c : Cmd) (s : State) : State × Option Res :=
  let j := c.job
  let i := j.targetInst
  let b := j.operand 0
  let two := some (j.operand 2)
  orBad [check (loadHasPub j (readHdr b)) .badFragment, check (j.param.toNat == 0 && j.args.isEmpty) .malformed,
      check s.vault.ownerSeed.isSome .lifecycle] s fun s =>
    let known := s.keyById i (readHdr b).keyId
    match known with
    | some k =>
      if (s.onShelf c.rgn i k.keyId).isSome then
        if !blobHead s i b then (countBlobFail s, some (stRes .blobInvalid))
        else if c.rgn = k.home then (s, some (outTo j 4 k.bytes)) else (s.modKey k.handle fun k => { k with home := c.rgn }, some (outTo j 4 k.bytes))
      else if blobOk s i two b then
        let r := outTo j 4 k.bytes
        let s1 := (countUnwrap c.rgn i s).modKey k.handle fun k => { k with home := c.rgn }
        let (e, s2) := shelfOf k (blobKey s i b) s1
        (if r.status = .ok then (shelve c.rgn e s2).2 else s, some r)
      else (countBlobFail (unwrapped c.rgn i b s), some (stRes .blobInvalid))
    | none =>
      orBad [capOk s i 0] s fun s =>
        if !blobOk s i two b then (countBlobFail (unwrapped c.rgn i b s), some (stRes .blobInvalid))
        else
          let n := blobKey s i b
          let (k, s1) := newRecord j n c.rgn 0 (readHdr b).stateId (countUnwrap c.rgn i s)
          let r := outTo j 4 k.bytes
          if r.status = .ok then
            let (e, s2) := shelfOf k n s1
            (s2, some { r with key := some k, shelf := some e })
          else (s, some r)

/-- Commands that wait for the load of key `k` into the shelf of region `r`. -/
def shelfWaiters (s : State) (r : Nat) (k : KeyRec) : List Nat :=
  jobsOn s fun c => c.prog.wait == some .shelf && s.shelfRegion c k == r && c.job.handle == k.handle

/-- A load of a better class, or of an earlier command of the same class, waits for room of the same instance in the shelf (R346). -/
def loadBefore (s : State) (c : Cmd) (k : KeyRec) : Bool :=
  s.cmds.any fun d => d.prog.wait == some .shelf && (tfind d.job.parts 254).isSome && !(d.job.id == c.job.id) &&
    (s.keyOf d.job).any (fun m => m.inst == k.inst && s.shelfRegion d m == s.shelfRegion c k) &&
    (decide (d.effClass < c.effClass) || (d.effClass == c.effClass && decide (d.job.id < c.job.id)))

/-- A blob that a shelf miss of command `j` asked for has arrived: unwrapped, checked, stored as shares; every job of
the region that waited for it goes on. A load that finds only entries in use in its way waits with its blob, kept as
input 254 of the command (R343-R346). -/
def loadShelf (j : Nat) (b : List Byte) (s : State) : State :=
  match s.cmd? j with
  | none => s
  | some c => match jobKey s c.job with
    | none => s
    | some k =>
      let r := s.shelfRegion c k
      if c.prog.wait ≠ some .shelf ∨ loadBefore s c k = true ∧ (tfind c.job.parts 254).isSome then s
      else
        let ws := shelfWaiters s r k
        let s1 := if (tfind c.job.parts 254).isSome then s else unwrapped r k.inst b s
        if !(blobOk s k.inst none b && (readHdr b).keyId == k.keyId) then
          ws.foldl (fun s j => fail j .blobInvalid s) (countBlobFail s1)
        else
          let (e, s0) := shelfOf k (blobKey s k.inst b) s1
          match (if loadBefore s c k then (false, s0) else shelve r e s0 : Bool × State) with
          | (true, s2) =>
            let s3 := s2.modCmd j fun c => { c with job := { c.job with parts := tdel c.job.parts 254 } }
            ws.foldl (fun s j => s.modProg j fun p => { p with wait := none }) s3
          | (false, s2) => s2.modCmd j fun c => { c with job := { c.job with parts := tins 254 b c.job.parts } }

/-- SHELF_MISS_BLOB_ARRIVAL (R345): the blob that command `j` waits for. -/
def execShelfMissBlobArrival (j : Nat) (blob : List Byte) (s : State) : Host.Outcome State Fault Refusal :=
  .next (loadShelf j blob s)

/-! ### Eviction, deletion, pins, transfer -/

/-- Commands other than `j` that name the key and have been dispatched, running ones alone where `run` is set (R350). -/
def keyUsers (s : State) (j : Nat) (run : Bool) (k : KeyRec) : List Nat :=
  jobsOn s fun c => !(c.job.id == j) && c.job.handle == k.handle &&
    (c.prog.phase == .running || c.prog.phase == .yielded || c.prog.phase == .checking ||
      (!run && (c.prog.phase == .sent || c.prog.phase == .acked)))

/-- Zero-write the entries of a key in every shelf (R347); one that a running command uses stands for it until it ends (R350). -/
def dropShelf (j : Nat) (k : KeyRec) (s : State) : State :=
  let users (r : Nat) : List Nat :=
    (keyUsers s j true k).filter fun n => (s.cmd? n).any fun c => s.shelfRegion c k == r
  let left (r : Nat) (x : ShelfKey) : Option ShelfKey :=
    if !(k.owns x) || !x.kept.isEmpty then some x
    else if (users r).isEmpty then none else some { x with kept := users r }
  { s with regions := s.regions.map fun e => (e.1, { e.2 with shelf := e.2.shelf.filterMap (left e.1) }) }

/-- Entries of the key still stand for running commands. -/
def keyStands (s : State) (k : KeyRec) : Bool :=
  s.regions.any fun e => e.2.shelf.any fun x => k.owns x && !x.kept.isEmpty

/-- KEY.EVICT or KEY.DELETE acts once, marked as input 253 of the command, and ends when every entry of the key has been zero-written
(R350). -/
def actOnKey (c : Cmd) (act : KeyRec → State → State) (s : State) : State × Option Res :=
  let j := c.job
  orBad [checkHandle s j fun _ => true, check (j.param.toNat == 0 && j.args.isEmpty) .malformed] s fun s =>
    match jobKey s j with
    | none => (s, some (stRes .badHandle))
    | some k =>
      let s1 := if (tfind j.parts 253).isSome then s
        else act k (dropShelf j.id k (s.modCmd j.id fun c => { c with job := { c.job with parts := tins 253 [] c.job.parts } }))
      (s1, if keyStands s1 k then none else some okRes)

/-- KEY.EVICT (R350): jobs dispatched after it load the key again. -/
def keyEvict (c : Cmd) (s : State) : State × Option Res := actOnKey c (fun _ s => s) s

/-- The entry is that of a key. -/
def CrystEntry.of (e : CrystEntry) (k : KeyRec) : Bool := e.inst == k.inst && e.param == latticeAlg k.alg && e.digest == k.digest

/-- The pins, crystallizer entries and fills of a deleted key leave every region (R132, R133, R221). -/
def dropPins (k : KeyRec) (s : State) : State :=
  regionNums.foldl (fun s r => dropCryst r (fun e => e.of k) (s.modRegion r fun g => { g with
    pins := g.pins.filter fun p => !(p.2.of k),
    lat := { g.lat with fills := g.lat.fills.filter fun e => !(e.of k) } })) s

/-- A key is deleted (R350): the handle is free for later commands, and its crystallizer entries, pins and LMS state record go. -/
def deleteKey (j : Nat) (k : KeyRec) (s : State) : State :=
  let keep := j :: keyUsers s j false k
  let s1 := (dropPins k s).modKey k.handle fun k => { k with dead := true, keep := keep }
  commit j { s1 with vault := { s1.vault with lms := s1.vault.lms.filter fun l => !(l.inst == k.inst && l.id == k.lmsId) } }

/-- KEY.DELETE (R350): frees the handle, its shelf and crystallizer entries, its pins and its LMS state record; it
commits before its response. -/
def keyDelete (c : Cmd) (s : State) : State × Option Res := actOnKey c (deleteKey c.job.id) s

/-- Pin or unpin a crystallizer entry (R130, R131). -/
def pinCryst (c : Cmd) (k : KeyRec) (pk : List Byte) (s : State) : State × Option Res :=
  let r := c.rgn
  let a := latticeAlg k.alg
  let d := crystDigest a pk
  let mine (e : CrystEntry) : Bool := !e.gone && e.inst == k.inst && e.param == a && e.digest == d
  if c.job.pbit 8 then
    (commit c.job.id ((s.modKey k.handle fun k => { k with pinned := false }).modRegion r fun g =>
      { g with lat := { g.lat with cryst := g.lat.cryst.map fun e => if mine e then { e with pinned := false } else e } }),
     some okRes)
  else
    let held := crystPinned (s.region r) k.inst
    let have' := (s.region r).lat.cryst.any fun e => mine e && e.pinned
    if !have' && decide (46 * (s.inst k.inst).cfg.cryst < held + granules a) then (s, some (stRes .quota))
    else
      let s1 := s.modRegion r fun g => { g with lat := { g.lat with
        cryst := g.lat.cryst.map fun e => if mine e then { e with pinned := true, lru := s.tick } else e } }
      let s2 := if (s.region r).lat.cryst.any mine then s1
        else fillCryst r { inst := k.inst, gen := (s.inst k.inst).gen, param := a, digest := d, granules := granules a,
                           pinned := true, lru := s.tick, done := s.tick } s1
      (commit c.job.id (s2.modKey k.handle fun k => { k with pinned := true, pinAt := r }), some okRes)

/-- A Classic McEliece public key read from host memory at its recorded address: input 255 of the command, asked for
once (R220, R336). -/
def streamKey (c : Cmd) (k : KeyRec) (s : State) (f : List Byte → State → State × Option Res) : State × Option Res :=
  match tfind c.job.parts 255 with
  | some b => f b s
  | none =>
    if c.job.missing.contains 255 then (s, none)
    else (hostRead (.key c.job.id) k.inst k.pubAddr k.pubLen false (s.modCmd c.job.id fun c =>
      { c with job := { c.job with missing := c.job.missing ++ [255] } }), none)

/-- The lowest free pin place of a region (R221). -/
def freePlace (g : Region) : Option Nat := [0, 1, 2, 3].find? fun p => (tfind g.pins p).isNone

/-- Put a public key in a pin place of region `r`. -/
def pinPlace (r : Nat) (k : KeyRec) (pub : List Byte) (s : State) : State :=
  s.modRegion r fun g => match freePlace g with
    | some p => { g with pins := tins p { inst := k.inst, keyId := k.keyId, pub := pub } g.pins }
    | none => g

/-- The pin of a key in region `r`. -/
def pinOf (s : State) (r : Nat) (k : KeyRec) : Option Pin := ((s.region r).pins.map (·.2)).find? fun p => p.of k

/-- The instance's PINS quota leaves room for one more pin in region `r` (R94). -/
def pinRoom (s : State) (r i : Nat) : Bool :=
  decide (((s.region r).pins.filter fun p => p.2.inst == i).length < (s.inst i).cfg.pins)

/-- A key whose job another region than its home has taken gets that region as its home (R21). -/
def rehome (r : Nat) (k : KeyRec) (s : State) : KeyRec × State :=
  if k.home = r then (k, s) else ({ k with home := r }, s.modKey k.handle fun k => { k with home := r })

/-- Pin or unpin a Classic McEliece public key in a pin place of its home region (R221). -/
def pinMce (c : Cmd) (k0 : KeyRec) (s0 : State) : State × Option Res :=
  let r := c.rgn
  let (k, s) := rehome r k0 s0
  if c.job.pbit 8 then
    (commit c.job.id ((s.modKey k.handle fun k => { k with pinned := false }).modRegion r fun g =>
      { g with pins := g.pins.filter fun p => !(p.2.of k) }), some okRes)
  else if (pinOf s r k).isSome then (commit c.job.id s, some okRes)
  else if !pinRoom s r k.inst then (s, some (stRes .quota))
  else streamKey c k s fun b s =>
    (commit c.job.id (pinPlace r k b (s.modKey k.handle fun k => { k with pinned := true })), some okRes)

/-- The Classic McEliece public key of a handle: from its pin place, or streamed; a key that is to be pinned is pinned again at its
first use in its home region, where the quota leaves room (R220, R221, R131, R94). `f` is told whether it streamed. -/
def mceKey (c : Cmd) (k0 : KeyRec) (s0 : State) (f : Bool → List Byte → State → State × Option Res) : State × Option Res :=
  let (k, s) := rehome c.rgn k0 s0
  match pinOf s c.rgn k with
  | some p => f false p.pub s
  | none => streamKey c k s fun b s =>
      f true b (if k.pinned && c.rgn == k.home && pinRoom s c.rgn k.inst then pinPlace c.rgn k b s else s)

/-- KEY.PIN_PUBLIC (R131, R221). -/
def keyPinPublic (c : Cmd) (s : State) : State × Option Res :=
  let j := c.job
  orBad [checkHandle s j fun _ => true, check (j.param.toNat &&& 0xFFFFFEFF == 0 && j.args.isEmpty) .malformed] s fun s =>
    match jobKey s j with
    | none => (s, some (stRes .badHandle))
    | some k =>
      if famOf k.alg = some .mce ∧ k.cls = 1 then pinMce c k s
      else if granules (latticeAlg k.alg) = 0 then (s, some (stRes .paramUnsupported))
      else withKey c s fun _ pub s => pinCryst c k (pub.take (pubLen (latticeAlg k.alg))) s

/-- KEY.LIST (R348): a page of 254 key records of the instance, by index. -/
def keyList (c : Cmd) (s : State) : State × Option Res :=
  let j := c.job
  let page := bits j.param.toNat 15 0
  let ks := (s.vault.handles.filter fun k => !k.dead && k.inst == j.targetInst).mergeSort fun a b => decide (a.idx ≤ b.idx)
  orBad [check (j.param.toNat &&& 0xFFFF0000 == 0) .malformed] s fun s =>
    (s, some { status := .ok, resp := (((ks.drop (254 * page)).take 254).map KeyRec.bytes).flatten })

/-- The public key of the device identity key (R334). -/
def identityPub (s : State) : List Byte := stdN 2689 "device identity public key" [le 8 s.pkg.fuses.unit]

/-- KEY.IDENTITY (R334). -/
def keyIdentity (c : Cmd) (s : State) : State × Option Res :=
  orBad [check (c.job.param.toNat == 0) .malformed] s fun s => (s, some { status := .ok, resp := identityPub s })

/-- KEY.TRANSFER (R350): the key wrapped for the target instance under a new KEY_ID. -/
def keyTransfer (c : Cmd) (s : State) : State × Option Res :=
  let j := c.job
  let target := bits j.param.toNat 7 0
  orBad [checkHandle s j fun _ => true,
      (jobKey s j).bind fun k => check (!k.attr 1 && !k.attr 7) .keyPolicy,
      check (j.param.toNat &&& 0xFFFFFF00 == 0 && j.args.isEmpty) .malformed,
      check s.vault.ownerSeed.isSome .lifecycle] s fun s =>
    match jobKey s j with
    | none => (s, some (stRes .badHandle))
    | some k =>
      let both (sk pub : List Byte) (s : State) : State × Option Res :=
        let (id, s1) := takeKeyId s
        let m := if k.cls = 1 ∧ famOf k.alg ≠ some .mce then pub else sk
        let form := if isSym k.alg || m.length == expandedLen k.alg (if famOf k.alg = some .rsa then rsaBits 1 m.length else 0)
          then 1 else 0
        let blob := wrapBlob s1 target k.cls k.alg form 0 { k.pol with keyId := id } m pub
        (commit j.id s1, some (outTo j 1 blob))
      withKey c s fun sk pub s => if k.cls = 1 ∧ famOf k.alg = some .mce then mceKey c k s fun _ b s => both [] b s else both sk pub s

/-! ### Key update messages -/

/-- Clear every handle, shelf, crystallizer, pin and LMS record (R355). -/
def revokeAll (s : State) : State :=
  let s1 := regionNums.foldl (fun s r => s.modRegion r fun g =>
    { g with shelf := [], pins := [], keks := [], lat := { g.lat with cryst := [], fills := [] } }) s
  { s1 with vault := { s1.vault with handles := [], lms := [] } }

/-- Clear the handles, shelf entries and crystallizer partition of one instance (R355, R108). -/
def revokeInst (i : Nat) (s : State) : State :=
  let s1 := regionNums.foldl (fun s r => dropCryst r (fun e => e.inst == i) (s.modRegion r fun g =>
    { g with shelf := g.shelf.filter fun e => !(e.inst == i), keks := g.keks.filter fun k => !(k == i),
             lat := { g.lat with fills := g.lat.fills.filter fun e => !(e.inst == i) } })) s
  { s1 with vault := { s1.vault with handles := s1.vault.handles.filter fun k => !(k.inst == i) } }

/-- Every customer package is cleared, in the apex and in every region (R402). -/
def dropPkgs (s : State) : State :=
  let s1 := regionNums.foldl (fun s r => s.modRegion r fun g => { g with cust := { g.cust with held := [] } }) s
  { s1 with cust := { s1.cust with pkgs := [] } }

/-- Apply an accepted key update message (R355). -/
def applyKum (m : KumSlot) (s : State) : State :=
  match m.op with
  | 1 =>
    let s1 := dropPkgs (revokeAll s)
    { s1 with vault := { s1.vault with ownerSeed := some m.payload, nextKeyId := 1 } }
  | 2 => { s with vault := { s.vault with authority := some (fld m.payload 0 1, m.payload.drop 1) } }
  | 3 =>
    let s1 := revokeInst m.target s
    { s1 with vault := { s1.vault with domainRoot := tins m.target m.payload s1.vault.domainRoot,
                                       domainVer := tins m.target m.counter s1.vault.domainVer } }
  | _ => revokeAll s

/-- The payload length an operation takes (R353). -/
def kumPayloadOk (op : Nat) (p : List Byte) : Bool :=
  match op with
  | 1 => p.length == 32
  | 3 => p.length == 32
  | 2 => (fld p 0 1 == 0x13 && p.length == 2593) || (fld p 0 1 == 0x34 && p.length == 2690)
  | 4 => p.isEmpty
  | _ => false

/-- ALG of the owner authority key (R353). -/
def authAlg (s : State) : Nat :=
  match s.vault.authority with
  | some (a, _) => a
  | none => s.pkg.fuses.authAlg

/-- The owner authority key accepts a signature over `msg` with a context (R353, R481, R501). -/
def authorityOk (s : State) (ctx : String) (alg : Nat) (msg sig : List Byte) : Bool :=
  alg == authAlg s && Config.stdOk "owner authority signature"
    [ascii ctx, le 1 alg, ((s.vault.authority).map (·.2)).getD s.life.otp.authHash, msg, sig]

/-- The checks of R353 in order. -/
def kumChecks (s : State) (b : List Byte) : List (Option Status) :=
  let op := fld b 0x42 1
  let n := fld b 0x48 4
  let alg := fld b 0x44 1
  let payload := slice b 0x50 n
  [check (slice b 0 8 == ascii "EXMKUM01" && decide (0x50 + n ≤ b.length) && kumPayloadOk op payload &&
      decide (1 ≤ fld b 0x40 2) && decide (fld b 0x40 2 ≤ 2048) &&
      (op == 3 || fld b 0x43 1 == 0) && (alg == 0x13 || alg == 0x34) && zero? b 0x45 3 && zero? b 0x4C 4 &&
      b.length == 0x50 + n + sigLen alg) .malformed,
   check (fld b 8 8 == s.pkg.fuses.unit && slice b 0x10 48 == stdN 48 "SHA3-384" [identityPub s]) .authFail,
   check (authorityOk s "EXM-KUM-1" alg (b.take (0x50 + n)) (b.drop (0x50 + n))) .authFail,
   check (fld b 0x40 2 == s.vault.kum + 1 && decide (s.vault.kum < 2048)) .counter,
   check (op != 4 || decide (s.vault.epoch < 128)) .counter]

/-- The randomness of a region starts anew through R322, and its pans hold no mask seed until it has (R30, R322). -/
def restartRandom (g : Region) : Region :=
  { g with rng := wipeRng g.rng, pans := g.pans.map fun e => (e.1, wipePan e.2) }

/-- Owner re-provisioning in ZEROIZED, in OWNED: an owner seed ends it through SELF_TEST with randomness restarted, and a ZEROIZE
record that has CANCELLED set is written (R30, R355, R501). -/
def reprovision (m : KumSlot) (s : State) : State :=
  if m.op = 1 ∧ s.pkg.mode = .zeroized ∧ s.lcState = 3 then
    let s1 : State := { s with
      tamper := { s.tamper with burned := [] }, pkg := { s.pkg with zeroized := false },
      regions := s.regions.map fun (e : Nat × Region) => (e.1, restartRandom e.2) }
    setMode .selfTest (mlog 6 (le 4 s.vault.epoch ++ le 1 1) s1)
  else s

/-- Carry out an accepted message: the pending slot, the counter bit, the epoch bit, the change (R354). -/
def carryKum (j : Option Nat) (b : List Byte) (s : State) : State :=
  let m : KumSlot := { counter := fld b 0x40 2, op := fld b 0x42 1, target := fld b 0x43 1,
                       payload := slice b 0x50 (fld b 0x48 4), applied := true }
  let s1 := emit (.flash "owner area: pending slot" b) s
  let s2 := { s1 with vault := { s1.vault with kum := s1.vault.kum + 1, kumSlot := some m,
                                               epoch := if m.op = 4 then s1.vault.epoch + 1 else s1.vault.epoch } }
  let s3 := match j with
    | some j => commit j s2
    | none => s2
  reprovision m (applyKum m s3)

/-- KEY.UPDATE (R353-R355). -/
def keyUpdate (c : Cmd) (s : State) : State × Option Res :=
  let b := c.job.operand 0
  orBad (check (c.job.param.toNat == 0 && c.job.args.isEmpty) .malformed ::
      check (s.lcState != 4 && s.lcState != 5) .lifecycle :: kumChecks s b) s fun s => (carryKum (some c.job.id) b s, some okRes)

/-! ### The vault's own rows -/

/-- A battery key is wanted: battery-anchored mode, and the backup domain holds none (R333). -/
def State.batteryDue (s : State) : Bool := s.pkg.fuses.batteryMode && s.pkg.batteryKey.isNone

/-- The randomness of region `r` has started (R322). -/
def State.randomRuns (s : State) (r : Nat) : Bool :=
  s.enabled r && ((s.region r).rng.state == .running || (s.region r).rng.state == .borrowed)

/-- ROOT_READY (R333): KEK_root is derived; in battery mode with no battery key, one is drawn from the lowest-numbered region whose
randomness has started. A job held for it at its shelf load is dispatched again. -/
def execRootReady (s : State) : Host.Outcome State Fault Refusal :=
  .next (
    if !s.pkg.mode.mainPower || s.vault.rootReady || (s.batteryDue && !regionNums.any s.randomRuns) then s
    else
      let (b, s1) := if s.batteryDue then
          let (k, s1) := drawBytes 32 s
          (some k, s1)
        else (s.pkg.batteryKey, s)
      { s1 with
          pkg := { s1.pkg with batteryKey := b }, vault := { s1.vault with rootReady := true },
          cmds := s1.cmds.map fun c =>
            if c.prog.wait = some .shelf then { c with prog := { c.prog with wait := none } } else c,
          regions := s1.regions.map fun e =>
            (e.1, if e.2.svc.state = .inService then { e.2 with kekHere := true } else e.2) })

/-- A write of VLT_HCAP for the instance VLT_HSEL selects (R335, R357); a reserved value leaves it (R11). -/
def vltHcapWriteAt (v : Nat) (s : State) : State :=
  let i := s.vault.hsel
  let n := v % 32768
  let others := ((List.range 256).map fun k => if k = i then 0 else (s.inst k).cfg.hcap).sum
  if 16384 < n then s
  else if 16384 < others + n then noteBadAccess { s with vault := { s.vault with cfgErr := true } }
  else s.modInst i fun x => { x with cfg := { x.cfg with hcap := n } }

/-- The row: the access of R35 through a BAR (R110). -/
def execVltHcapWrite (v : Nat) (s : State) : Host.Outcome State Fault Refusal :=
  .next (s.gated 0 (vltHcapWriteAt v s))

/-- CLR_COUNTS (R135, R358): clears the counts of the selected instance, of the shelf or of the crystallizer of region
`r`. -/
def clrCountsAt (r : Nat) (shelf : Bool) (s : State) : State :=
  if !s.enabled r then s
  else if shelf then s.modRegion r fun g => { g with shelfHits := tdel g.shelfHits g.shelfSel }
  else s.modRegion r fun g => { g with lat := { g.lat with hits := tdel g.lat.hits g.lat.sel } }

/-- The row: the access of R35 through a BAR (R110). -/
def execClrCounts (r : Nat) (shelf : Bool) (s : State) : Host.Outcome State Fault Refusal :=
  .next (s.gated 0 (clrCountsAt r shelf s))

/-- CRYSTALLIZER_FILL_COMPLETE (R133): the fills of region `r` that are due complete their entries, the first of equal
ones winning. -/
def execCrystallizerFillComplete (r : Nat) (s : State) : Host.Outcome State Fault Refusal :=
  .next (settleFills r s)

/-! ### The verbs -/

/-- KEY.GENERATE (R350). -/
def execKeyGenerate (j : Nat) (s : State) : Host.Outcome State Fault Refusal := .next (runVerb 0x0201 j keyGenerate s)
/-- KEY.IMPORT (R349). -/
def execKeyImport (j : Nat) (s : State) : Host.Outcome State Fault Refusal := .next (runVerb 0x0202 j keyImport s)
/-- KEY.DERIVE (R349). -/
def execKeyDerive (j : Nat) (s : State) : Host.Outcome State Fault Refusal := .next (runVerb 0x0203 j keyDerive s)
/-- KEY.LOAD (R337). -/
def execKeyLoad (j : Nat) (s : State) : Host.Outcome State Fault Refusal := .next (runVerb 0x0204 j keyLoad s)
/-- KEY.EVICT (R350). -/
def execKeyEvict (j : Nat) (s : State) : Host.Outcome State Fault Refusal := .next (runVerb 0x0205 j keyEvict s)
/-- KEY.DELETE (R350). -/
def execKeyDelete (j : Nat) (s : State) : Host.Outcome State Fault Refusal := .next (runVerb 0x0206 j keyDelete s)
/-- KEY.PIN_PUBLIC (R131, R221). -/
def execKeyPinPublic (j : Nat) (s : State) : Host.Outcome State Fault Refusal := .next (runVerb 0x0207 j keyPinPublic s)
/-- KEY.LIST (R348). -/
def execKeyList (j : Nat) (s : State) : Host.Outcome State Fault Refusal := .next (runVerb 0x0209 j keyList s)
/-- KEY.IDENTITY (R334). -/
def execKeyIdentity (j : Nat) (s : State) : Host.Outcome State Fault Refusal := .next (runVerb 0x020A j keyIdentity s)
/-- KEY.TRANSFER (R350). -/
def execKeyTransfer (j : Nat) (s : State) : Host.Outcome State Fault Refusal := .next (runVerb 0x020B j keyTransfer s)
/-- KEY.UPDATE (R353). -/
def execKeyUpdate (j : Nat) (s : State) : Host.Outcome State Fault Refusal := .next (runVerb 0x020C j keyUpdate s)

/-! ### Shapes (R83, R348) -/

/-- The blob length of a generated, imported or derived key, where PARAM and SIZE fix it. -/
def blobFixed (op alg size levels param : Nat) : Option Nat :=
  if isSym alg then some (blobLen (symLen alg size))
  else if op = 0x0201 then if seedLen alg size levels = 0 then none else some (blobLen (seedLen alg size levels))
  else if op = 0x0202 then
    if bit param 9 then
      if famOf alg = some .mce then some (blobLen 0) else if pubLen alg = 0 then none else some (blobLen (pubLen alg))
    else if bit param 8 ∨ expandedLen alg size = 0 then
      if seedLen alg size levels = 0 then none else some (blobLen (seedLen alg size levels))
    else some (blobLen (expandedLen alg size))
  else none

/-- The shapes of the KEY verbs that a submission queue carries, and of KEY.TRANSFER and KEY.UPDATE (R348, R353). Result lengths are
fixed only where PARAM names an ALG that the verb takes (R83). -/
def shapeKey : ShapeFn := fun op param args =>
  let alg := bits param 7 0
  let takes := match op with
    | 0x0201 => generates alg
    | 0x0202 => (famOf alg).isSome
    | 0x0203 => isSym alg && kdfFunc (bits param 15 8)
    | _ => true
  let fixed (n : Option Nat) : Option Nat := if takes then n else none
  let blob := (1, fixed (blobFixed op alg (fld args 0x40 2) (fld args 0x42 1) param))
  let rec4 : Nat × Option Nat := (4, fixed (some 16))
  let mce := famOf alg == some .mce
  match op with
  | 0x0201 =>
    { ins := if famOf alg = some .rsa then [0] else [],
      outs := [blob, rec4] ++ (if isSym alg then [] else [(2, if pubLen alg = 0 then none else fixed (some (pubLen alg)))]) ++
        (if mce then [(3, some 8)] else []),
      req := [1, 4] ++ (if mce then [2] else []), one := [1] ++ (if mce then [2] else []) }
  | 0x0202 =>
    let two := mce || (famOf alg == some .mldsa && !bit param 8 && !bit param 9)
    { ins := (if mce && bit param 9 then [] else [0]) ++ (if two then [2] else []), outs := [blob, rec4],
      req := (if mce && bit param 9 then [] else [0]) ++ [1, 4] ++ (if two then [2] else []), one := [1] ++ (if mce then [2] else []) }
  | 0x0203 => { ins := [0, 3], outs := [blob, rec4], req := [1, 4], one := [1], key := true }
  | 0x0204 => { ins := [0, 2], outs := [rec4], req := [0, 4], one := [0, 2] }
  | 0x0205 => { key := true, body := false }
  | 0x020B => { outs := [(1, none)], req := [1], one := [1], key := true }
  | 0x020C => { ins := [0], req := [0], one := [0] }
  | _ => { key := true }

end Sys2Proof.Machine
end

