-- ==== Sys2Proof/Machine/Loader.lean ====
section
/-! DEFINITION. Control words (R392) and what the loader of customer packages checks (R400, R401). -/

namespace Sys2Proof.Machine

/-! ### Fields of a control word (R392) -/

/-- NEXT. -/
def cNEXT (w : Nat) : Nat := bits w 13 0
/-- COMMIT. -/
def cCOMMIT (w : Nat) : Bool := bit w 14
/-- SAFE. -/
def cSAFE (w : Nat) : Bool := bit w 15
/-- TYPE: 0 SEQ, 1 CODE, 2 DATA. -/
def cTYPE (w : Nat) : Nat := bits w 17 16
/-- SEQ. -/
def cSEQ (w : Nat) : Nat := bits w 20 18
/-- COND. -/
def cCOND (w : Nat) : Nat := bits w 23 21
/-- ALT. -/
def cALT (w : Nat) : Nat := bits w 37 24
/-- KENTRY. -/
def cKENTRY (w : Nat) : Nat := bits w 51 38
/-- SC_VALUE. -/
def cSCVALUE (w : Nat) : Nat := bits w 63 52
/-- SC_EN. -/
def cSCEN (w : Nat) : Bool := bit w 64
/-- XDIR. -/
def cXDIR (w : Nat) : Nat := bits w 66 65
/-- XOPND. -/
def cXOPND (w : Nat) : Nat := bits w 70 67
/-- XLOCAL. -/
def cXLOCAL (w : Nat) : Nat := bits w 84 71
/-- XLEN. -/
def cXLEN (w : Nat) : Nat := bits w 99 85
/-- XOFF. -/
def cXOFF (w : Nat) : Nat := bits w 116 100
/-- FAIL_CODE. -/
def cFAIL (w : Nat) : Nat := bits w 118 117
/-- Instruction `i` of a CODE word. -/
def cInstr (w i : Nat) : Nat := bits w (63 + 32 * i) (32 + 32 * i)

/-- The words of a package with its BASE. -/
def CustPkg.reach (p : CustPkg) : Nat × List Nat := (p.base, p.words)

/-- The word at an address of the store is in the package. -/
def CustPkg.word? (p : CustPkg) (w : Nat) : Option Nat := pkgWord p.reach w

/-- The word at `w` is in the package and of TYPE `t`. -/
def CustPkg.isType (p : CustPkg) (t w : Nat) : Bool := (p.word? w).any fun x => cTYPE x == t

/-- The addresses of a package's words. -/
def CustPkg.addrs (p : CustPkg) : List Nat := (List.range p.words.length).map (p.base + ·)

/-! ### Parsing -/

/-- A routine record from its 16 bytes, where its fields are within their ranges (R400). -/
def readRoutine (b : List Byte) : Option Routine :=
  let r : Routine :=
    { number := fld b 0 2, entry := fld b 2 2, poll := fld b 4 1 == 1, cell := fld b 5 1, scratchKib := fld b 6 2,
      saveKib := fld b 8 2, maxUs := fld b 10 2, nin := fld b 12 1, nout := fld b 13 1 }
  if 768 ≤ r.number ∧ r.number ≤ 1023 ∧ fld b 4 1 ≤ 1 ∧ 1 ≤ r.cell ∧ r.cell ≤ 3 ∧ r.scratchKib ≤ 1024 ∧ r.saveKib ≤ 32 ∧
      (r.poll ∨ r.saveKib = 0) ∧ 1 ≤ r.maxUs ∧ r.maxUs ≤ 60000 ∧ r.nin ≤ 8 ∧ 1 ≤ r.nout ∧ r.nout ≤ 7 ∧ zero? b 14 2 then
    some r
  else none

/-- Routine records from offset `o`. -/
def readRoutines (b : List Byte) (o : Nat) : Nat → Option (List Routine)
  | 0 => some []
  | n + 1 => match readRoutine (slice b o 16), readRoutines b (o + 16) n with
    | some r, some rs => some (r :: rs)
    | _, _ => none

/-- Bytes before the signature of a package. -/
def pkgBody (b : List Byte) : Nat := 0x70 + 16 * fld b 0x48 2 + 20 * fld b 0x46 2

/-- Step 1 of R401: MAGIC, sizes and reserved fields. -/
def parsePkg (b : List Byte) : Option CustPkg :=
  let base := fld b 0x44 2
  let n := fld b 0x46 2
  let nr := fld b 0x48 2
  let alg := fld b 0x4A 1
  if slice b 0 8 = ascii "EXMCUST1" ∧ 1 ≤ fld b 0x40 2 ∧ 0x3000 ≤ base ∧ base ≤ 0x3FFF ∧ 1 ≤ n ∧ n ≤ 4096 ∧
      base + n ≤ 0x4000 ∧ 1 ≤ nr ∧ nr ≤ 256 ∧ (alg = 0x13 ∨ alg = 0x34) ∧ zero? b 0x4B 5 ∧
      b.length = pkgBody b + sigLen alg then
    (readRoutines b 0x70 nr).map fun rs =>
      { id := fld b 0x40 2, version := fld b 0x42 2, base := base, instMask := fld b 0x50 32, routines := rs,
        words := (List.range n).map fun i => fld b (0x70 + 16 * nr + 20 * i) 20, bytes := b }
  else none

/-! ### Graphs of control flow -/

/-- The nodes reached from `todo` under `succ`, with fuel. -/
def reachFrom (succ : Nat → List Nat) : Nat → List Nat → List Nat → List Nat
  | 0, _, seen => seen
  | _ + 1, [], seen => seen
  | fuel + 1, n :: todo, seen =>
    if seen.contains n then reachFrom succ fuel todo seen else reachFrom succ fuel (succ n ++ todo) (n :: seen)

/-- Drop the nodes with no successor among the rest, `fuel` times: what is left leads round a cycle. -/
def onCycles (succ : Nat → List Nat) : Nat → List Nat → List Nat
  | 0, l => l
  | fuel + 1, l => onCycles succ fuel (l.filter fun n => (succ n).any l.contains)

/-- Sequencer successors of a word: NEXT, ALT, both ways of a BRANCH, and the word behind a CALL. -/
def seqSucc (p : CustPkg) (a : Nat) : List Nat :=
  match p.word? a with
  | none => []
  | some w => match cSEQ w with
    | 0 => [cNEXT w] | 1 => [cALT w, cNEXT w] | 2 => [cALT w, cNEXT w] | 4 => [cNEXT w] | _ => []

/-- Words a routine's sequencer can reach. -/
def seqReach (p : CustPkg) (r : Routine) : List Nat := reachFrom (seqSucc p) 20000 [r.entry] []

/-! ### Instructions -/

/-- An instruction's node: its store address in units of instructions. -/
def CustPkg.instr? (p : CustPkg) (n : Nat) : Option Nat :=
  match p.word? (n / 4) with
  | some w => if cTYPE w = 1 then some (cInstr w (n % 4)) else none
  | none => none

/-- All instruction nodes of a package. -/
def CustPkg.instrs (p : CustPkg) : List Nat :=
  ((p.addrs.filter (p.isType 1)).map fun a => [4 * a, 4 * a + 1, 4 * a + 2, 4 * a + 3]).flatten

/-- The offset of an instruction's target, where it has a direct one: branch, JMP, CALL and the end of a LOOP. -/
def directTarget (n w : Nat) : Option Int :=
  match kclass w with
  | some .branch => some (n + sfield 11 (bits w 10 0))
  | some .jmp => some (n + sfield 24 (bits w 23 0))
  | some .call => some (n + sfield 24 (bits w 23 0))
  | some .loop => some (n + bits w 13 0)
  | _ => none

/-- The instruction never continues at the next one. -/
def noFall (w : Nat) : Bool :=
  match kclass w with
  | some .jmp | some .jmpr | some .ret | some .rete | some .trap | some .break => true
  | _ => false

/-- Where the hardware loops that end at instruction `n` start. -/
def loopBacks (p : CustPkg) (n : Nat) : List Nat :=
  p.instrs.filterMap fun m => match p.instr? m with
    | some w => if kclass w = some .loop ∧ m + bits w 13 0 = n + 1 then some (m + 1) else none
    | none => none

/-- Successors of an instruction. -/
def kSucc (p : CustPkg) (n : Nat) : List Nat :=
  match p.instr? n with
  | none => []
  | some w => (if noFall w then [] else [n + 1]) ++ ((directTarget n w).map Int.toNat).toList ++ loopBacks p n

/-- A load, store, call or other word that can raise an exception other than ILLEGAL. -/
def canRaise (w : Nat) : Bool :=
  match kclass w with
  | some .ld | some .st | some .lda | some .sta | some .fld | some .fst | some .call | some .callr | some .ret | some .vld
  | some .vldFirst | some .vst | some .trap | some .break | some .datapath => true
  | _ => false

/-- A word that reads PL or PH. -/
def readsProduct (w : Nat) : Bool :=
  match kclass w with
  | some .macU => true
  | some .ctlrd => bits w 9 0 == kPL || bits w 9 0 == kPH
  | some .paired => [bits w 30 16, bits w 15 1].any fun h => bits h 14 10 == 0x0D || bits h 14 10 == 0x0E
  | _ => false

/-- A multiply. -/
def isMul (w : Nat) : Bool := kclass w == some .mulU || kclass w == some .mulS || kclass w == some .macU

/-- The word is not refused by the opcode table alone on a cell: RULE 0x06, unknown opcodes and absent features. -/
def knownWord (c : CoreId) (w : Nat) : Bool :=
  match kclass w with
  | none => false
  | some .rep => false
  | some .repi => false
  | some k =>
    match kword c (some (0, [])) w 0 0 { core0 c with ew := 4, flight := [] } with
    | .exc _ code _ => code != xILLEGAL || ((k == .lda || k == .sta) && bits w 15 14 == 2)
    | _ => true

/-! ### The rules of R401 -/

/-- A rule's answer: the offset of the first failing word from BASE, 0xFFFF for none in particular. -/
abbrev RuleBad := Option Nat

/-- The first word whose predicate fails. -/
def firstWord (p : CustPkg) (bad : Nat → Nat → Bool) : RuleBad :=
  (p.addrs.find? fun a => (p.word? a).any (bad a)).map (· - p.base)

/-- RULE 0x01: ranges and numbers against the other packages. -/
def rule1 (others : List CustPkg) (p : CustPkg) : RuleBad :=
  let hits := others.any fun q => decide (p.base < q.base + q.words.length) && decide (q.base < p.base + p.words.length)
  let ns := p.routines.map (·.number)
  let taken := others.any fun q => q.routines.any fun r => ns.contains r.number
  if hits || taken || !(decide ns.Nodup) then some 0xFFFF else none

/-- RULE 0x02: reserved values and bits. -/
def rule2 (p : CustPkg) : RuleBad :=
  firstWord p fun _ w => match cTYPE w with
    | 0 => cSEQ w == 7 || decide (6 ≤ cCOND w) || cXDIR w == 3 || bits w 159 119 != 0
    | 1 => bits w 31 18 != 0 || cNEXT w != 0
    | 2 => bits w 31 18 != 0 || cNEXT w != 0 || cCOMMIT w || cSAFE w
    | _ => true

/-- RULE 0x03: targets. -/
def rule3 (p : CustPkg) : RuleBad :=
  let inPkg (a : Nat) : Bool := (p.word? a).isSome
  let bad := firstWord p fun _ w => cTYPE w == 0 && match cSEQ w with
    | 0 => !inPkg (cNEXT w)
    | 1 => !inPkg (cNEXT w) || !inPkg (cALT w)
    | 2 => !inPkg (cNEXT w) || !inPkg (cALT w)
    | 4 => !inPkg (cNEXT w) || !p.isType 1 (cKENTRY w)
    | _ => false
  match bad with
  | some a => some a
  | none => (p.routines.find? fun r => !p.isType 0 r.entry).map fun r =>
      if inPkg r.entry then r.entry - p.base else 0xFFFF

/-- Sequencer nodes with a call depth: 8 times the address plus the depth (RULE 0x04). -/
def depthSucc (p : CustPkg) (n : Nat) : List Nat :=
  let a := n / 8
  let d := n % 8
  match p.word? a with
  | none => []
  | some w => match cSEQ w with
    | 0 => [8 * cNEXT w + d] | 1 => [8 * cALT w + d, 8 * cNEXT w + d]
    | 2 => (if d < 5 then [8 * cALT w + d + 1] else []) ++ [8 * cNEXT w + d]
    | 4 => [8 * cNEXT w + d] | _ => []

/-- RULE 0x04: CALL nests more than four deep. -/
def rule4 (p : CustPkg) : RuleBad :=
  let seen := reachFrom (depthSucc p) 120000 (p.routines.map fun r => 8 * r.entry) []
  (p.addrs.find? fun a => (p.word? a).any (fun w => cTYPE w == 0 && cSEQ w == 2) && seen.contains (8 * a + 4)).map (· - p.base)

/-- RULE 0x05: the transfers of a routine. -/
def badTransfer (r : Routine) (w : Nat) : Bool :=
  let n := cXOPND w
  let isIn := decide (n < r.nin)
  let isOut := decide (8 ≤ n) && decide (n ≤ 7 + r.nout)
  let scratch := n == 15 && r.scratchKib != 0
  cTYPE w == 0 && cXDIR w != 0 &&
    (!(isIn || isOut || scratch) || (cXDIR w == 2 && isIn) || cXLEN w == 0 || decide (16384 < cXLEN w) ||
      decide (16384 < cXLOCAL w + cXLEN w))

/-- RULE 0x05. -/
def rule5 (p : CustPkg) : RuleBad :=
  let bad (a : Nat) : Bool := p.routines.any fun r => (seqReach p r).contains a && (p.word? a).any (badTransfer r)
  (p.addrs.find? bad).map (· - p.base)

/-- A cell of the kind CELL names (R400). -/
def cellOfKind (n : Nat) : CoreId :=
  match n with
  | 1 => .lattice 0 0 | 2 => .number 0 0 | _ => .hash 0 0

/-- Instructions a routine's Kertor runs can reach. -/
def kReach (p : CustPkg) (r : Routine) : List Nat :=
  let starts := (seqReach p r).filterMap fun a => match p.word? a with
    | some w => if cSEQ w = 4 then some (4 * cKENTRY w) else none
    | none => none
  reachFrom (kSucc p) 200000 starts []

/-- A control-register write of EVEC or SLIM. -/
def writesHandler (w : Nat) : Bool :=
  match kclass w with
  | some .ctlwr | some .ctlset | some .ctlclr => bits w 9 0 == kEVEC || bits w 9 0 == kSLIM
  | _ => false

/-- RULE 0x06 of one instruction: opcode, control-register writes, targets, the fall off the last word. -/
def badInstr (p : CustPkg) (n : Nat) : Bool :=
  match p.instr? n with
  | none => false
  | some w =>
    !([CoreId.lattice 0 0, .number 0 0, .hash 0 0].any fun c => knownWord c w) || writesHandler w ||
      ((directTarget n w).any fun t => decide (t < 0) || (p.instr? t.toNat).isNone) ||
      (!noFall w && (p.instr? (n + 1)).isNone)

/-- RULE 0x06. -/
def rule6 (p : CustPkg) : RuleBad :=
  let cellBad (n : Nat) : Bool := p.routines.any fun r =>
    (kReach p r).contains n && (p.instr? n).any fun w =>
      !knownWord (cellOfKind r.cell) w || (kclass w == some .datapath && dpClosed (cellOfKind r.cell) w)
  (p.instrs.find? fun n => badInstr p n || cellBad n).map fun n => n / 4 - p.base

/-- Every way through the run that starts at a CODE word passes a word that `mark` selects before it can return; an indirect jump may lead
anywhere. -/
def runPasses (p : CustPkg) (mark : Nat → Bool) (a : Nat) : Bool :=
  let stop (n : Nat) : Bool := (p.word? (n / 4)).any mark
  let seen := reachFrom (fun n => if stop n then [] else kSucc p n) 200000 [4 * a] []
  seen.all fun n => stop n || (p.instr? n).any fun w => kclass w != some .ret && kclass w != some .jmpr && kclass w != some .callr

/-- The word is a RUN whose Kertor code passes a word that `mark` selects. -/
def runMarked (p : CustPkg) (mark : Nat → Bool) (w : Nat) : Bool := cTYPE w == 0 && cSEQ w == 4 && runPasses p mark (cKENTRY w)

/-- RULE 0x07 of a POLL routine: a cycle with no safe point, and JMPR or CALLR in a word without SAFE. -/
def rule7 (p : CustPkg) : RuleBad :=
  (p.routines.filter (·.poll)).findSome? fun r =>
    let safeW (a : Nat) : Bool := a == r.entry || (p.word? a).any fun w => cSAFE w || cSEQ w == 5 || cSEQ w == 6 || runMarked p cSAFE w
    let seqLeft := onCycles (seqSucc p) p.words.length ((seqReach p r).filter fun a => !safeW a)
    let kr := kReach p r
    let notSafe := kr.filter fun n => !((p.word? (n / 4)).any cSAFE)
    let kLeft := onCycles (kSucc p) (4 * p.words.length) notSafe
    let jumps := notSafe.filter fun n => (p.instr? n).any fun w => kclass w == some .jmpr || kclass w == some .callr
    match seqLeft.min?, (kLeft ++ jumps).min? with
    | some a, _ => some (a - p.base)
    | none, some n => some (n / 4 - p.base)
    | none, none => none

/-- One round of the least fixed points of RULE 0x08: words from which a RET, or an END, is reached with no COMMIT. -/
def noCommitRound (p : CustPkg) (x : List Nat × List Nat) : List Nat × List Nat :=
  let (ret, fin) := x
  let ok (a : Nat) (w : Nat) : Bool × Bool :=
    if cCOMMIT w || cTYPE w != 0 || runMarked p cCOMMIT w then (false, false)
    else match cSEQ w with
      | 3 => (true, fin.contains a)
      | 5 => (ret.contains a, true)
      | 2 => (ret.contains (cALT w) && ret.contains (cNEXT w),
              fin.contains (cALT w) || (ret.contains (cALT w) && fin.contains (cNEXT w)))
      | 6 => (false, false)
      | _ => ((seqSucc p a).any ret.contains, (seqSucc p a).any fin.contains)
  (p.addrs.filter fun a => (p.word? a).any fun w => (ok a w).1, p.addrs.filter fun a => (p.word? a).any fun w => (ok a w).2)

/-- Repeat a round. -/
def rounds (p : CustPkg) : Nat → List Nat × List Nat → List Nat × List Nat
  | 0, x => x
  | n + 1, x => rounds p n (noCommitRound p x)

/-- RULE 0x08: a RESTART routine with a path from ENTRY to END with no COMMIT. -/
def rule8 (p : CustPkg) : RuleBad :=
  let fin := (rounds p (2 * p.words.length + 2) ([], [])).2
  (p.routines.find? fun r => !r.poll && fin.contains r.entry).map fun r => r.entry - p.base

/-- RULE 0x09: the two words of a multiply's shadow (R375). -/
def rule9 (p : CustPkg) : RuleBad :=
  let bad (n : Nat) : Bool := (p.instr? n).any isMul &&
    [n + 1, (loopBacks p n).headD (n + 1)].any fun m1 =>
      [m1 + 1, (loopBacks p m1).headD (m1 + 1)].any fun m2 =>
        let ws := [m1, m2].filterMap p.instr?
        ws.any canRaise && ws.any readsProduct
  (p.instrs.find? bad).map fun n => n / 4 - p.base

/-- The first rule that fails, with its word. -/
def firstRule (others : List CustPkg) (p : CustPkg) : Option (Nat × Nat) :=
  let l : List (Nat × RuleBad) := [(1, rule1 others p), (2, rule2 p), (3, rule3 p), (4, rule4 p), (5, rule5 p),
    (6, rule6 p), (7, rule7 p), (8, rule8 p), (9, rule9 p)]
  l.findSome? fun x => x.2.map fun w => (x.1, w)

end Sys2Proof.Machine
end

