-- ==== Sys2Proof/Machine/Lattice.lean ====
section
/-! DEFINITION. The lattice verbs (R136-R159): ML-KEM, hybrid KEM, ML-DSA, FN-DSA and composite signatures. -/

namespace Sys2Proof.Machine

/-! ### Arguments and contexts -/

/-- CTX_LEN of the argument unit of a SIG verb (R141). -/
def Job.ctxLen (j : Job) : Nat := fld j.args 0 1
/-- PH_FUNC (R141). -/
def Job.phFunc (j : Job) : Nat := fld j.args 1 1
/-- TQ_MIN (R141). -/
def Job.tqMin (j : Job) : Nat := fld j.args 2 1
/-- The caller's context (R141). -/
def Job.ctx (j : Job) : List Byte := slice j.args 16 j.ctxLen

/-- ARG16 is 1 + ⌈CTX_LEN / 16⌉, reserved bytes from `o` of the unit and the padding are zero (R141). -/
def sigArgsOk (j : Job) (o : Nat) : Bool :=
  j.args.length == 16 * (1 + (j.ctxLen + 15) / 16) && zero? j.args o (16 - o) &&
    zero? j.args (16 + j.ctxLen) (j.args.length - (16 + j.ctxLen))

/-- The time-attested prefix (R152). -/
def attestPrefix (j : Job) : List Byte := ascii "EXMTA-01" ++ le 8 j.acceptTick ++ le 8 j.jseq ++ le 1 j.acceptTq

/-- The context ML-DSA sees (R149). -/
def fullCtx (j : Job) : List Byte := if j.pbit 15 then attestPrefix j ++ j.ctx else j.ctx

/-- The digest of a pre-hash function over the message, or operand 0 when PH_GIVEN is set (R148). -/
def phDigest (j : Job) : List Byte :=
  if j.pbit 12 then j.operand 0 else stdN (phLen j.phFunc) "pre-hash of R148" [le 1 j.phFunc, j.operand 0]

/-- What ML-DSA signs: the message in the pure form, or the digest with its function (R148). -/
def mldsaInput (j : Job) : List (List Byte) :=
  if j.pbit 11 then [ascii "HashML-DSA", le 1 j.phFunc, phDigest j] else [ascii "pure", j.operand 0]

/-- The composite representative M′ (R156). -/
def compRep (j : Job) : List Byte :=
  ascii "EXM-COMPOSITE-SIG-1" ++ le 1 j.alg ++ le 1 (fullCtx j).length ++ fullCtx j ++
    (if j.pbit 12 then fit 64 (j.operand 0) else stdN 64 "SHA3-512" [j.operand 0])

/-! ### The checks of R143 -/

/-- The verb's ALG codes (R136). -/
def latticeTakes (op alg : Nat) : Bool :=
  match op with
  | 0x0301 => famOf alg == some .mlkem | 0x0302 => famOf alg == some .mlkem
  | 0x0303 => famOf alg == some .hyb | 0x0304 => famOf alg == some .hyb
  | 0x0401 => famOf alg == some .mldsa | 0x0402 => famOf alg == some .mldsa
  | 0x0403 => famOf alg == some .fndsa
  | 0x0404 => famOf alg == some .comp | 0x0405 => famOf alg == some .comp
  | _ => false

/-- PARAM bits that must be 0, reserved bits included (R140). -/
def latticeZero (op : Nat) : Nat :=
  match op with
  | 0x0301 => 0xFFFF9C00 | 0x0303 => 0xFFFF9C00 | 0x0302 => 0xFFFFBC00 | 0x0304 => 0xFFFFBC00
  | 0x0401 => 0xFFFF6000 | 0x0404 => 0xFFFF6800 | 0x0402 => 0xFFFFC400 | 0x0403 => 0xFFFFDC00
  | _ => 0xFFFFCC00

/-- The verb signs. -/
def latticeSigns (op : Nat) : Bool := op == 0x0401 || op == 0x0404

/-- Step 1 of R143 for a SIG verb: arguments, PH_FUNC without PREHASH, TQ_MIN. -/
def sigStep1 (j : Job) : Option Status :=
  check (sigArgsOk j 3 && (j.pbit 11 || j.phFunc == 0) &&
    (if latticeSigns j.opcode && j.pbit 15 then decide (j.tqMin ≤ 3) else j.tqMin == 0)) .malformed

/-- Step 2 of R143 for a SIG verb: PH_FUNC defined, and the combinations R148 and R155 permit. -/
def sigStep2 (j : Job) : Option Status :=
  check ((!j.pbit 11 || phLen j.phFunc != 0) &&
    (!(j.pbit 12 && !j.pbit 11) || j.opcode == 0x0404 || j.opcode == 0x0405) &&
    (j.opcode != 0x0403 || j.ctxLen == 0)) .paramUnsupported

/-- Step 5 of R143: operand lengths of a SIG verb. -/
def sigStep5 (j : Job) : Option Status :=
  let m := (j.operand 0).length
  let sg := (j.operand 1).length
  let digest := if j.pbit 11 then phLen j.phFunc else 64
  let pure := !j.pbit 11 && !j.pbit 12
  firstBad [
    check (!j.pbit 12 || m == digest) .lengthMismatch,
    check (latticeSigns j.opcode || (if j.opcode = 0x0403 then decide (sg ≤ sigLen j.alg) else sg == sigLen j.alg))
      .lengthMismatch,
    check (!j.pbit 13 || (j.operand 3).length == pubLen j.alg) .lengthMismatch,
    check (!pure || decide (m ≤ 65536)) .paramUnsupported]

/-- Step 6 of R143: the masking order of a secret-bearing verb (R115), where the dispatch has set none. -/
def orderStep (s : State) (c : Cmd) : Option Status :=
  if c.prog.order ≠ 0 then none
  else match effOrder s c.rgn c.job.wantOrder (s.keyMin c.job) with
    | .error st => some st
    | .ok _ => none

/-- The job draws the mask bytes of an operation before its work: the seeds of the shuffler for every pass (R117) and, where it is
masked, the bytes of R121 at its effective order. 0 Encaps, 1 Decaps, 2 Sign, 3 KeyGen. -/
def withMasks (op : Nat) (c : Cmd) (s : State) (k : State → State × Option Res) : State × Option Res :=
  withMask (maskScale c.prog.order (maskBytes op c.job.alg)) c s k

/-- R52 for a lattice verb: `cls` and the use bit of the verb, K_WRAP where the policy requires it, and no deterministic
signing where it forbids it (R146, R147). -/
def latticeKey (s : State) (j : Job) (cls : List Nat) (use : Nat) : Option Status :=
  if j.handle = nullHandle then none
  else keyChecks s j cls (· == j.alg) use fun k =>
    !(use == 2 || use == 3) || !k.attr 6 || j.pbit 14

/-- Checks of a KEM verb in order (R52, R143). -/
def kemChecks (s : State) (j : Job) (cls : List Nat) (use : Nat) (lens : Bool) : List (Option Status) :=
  [latticeKey s j cls use, paramZero j (latticeZero j.opcode), check j.args.isEmpty .malformed,
   check (latticeTakes j.opcode j.alg) .paramUnsupported, famEnabled s j, check lens .lengthMismatch, wrapOk s j]

/-- Checks of a SIG verb in order up to step 5 (R52, R143). -/
def sigChecks (s : State) (j : Job) (cls : List Nat) (use : Nat) : List (Option Status) :=
  [if j.handle = nullHandle then none
   else keyChecks s j cls (· == j.alg) use fun k => !(latticeSigns j.opcode && j.pbit 10 && k.attr 5),
   paramZero j (latticeZero j.opcode), sigStep1 j, check (latticeTakes j.opcode j.alg) .paramUnsupported, sigStep2 j,
   famEnabled s j, check (decide (j.ctxLen + (if j.pbit 15 then 25 else 0) ≤ 255)) .contextTooLong, sigStep5 j]

/-- Step 8 of R143: time quality at the acceptance tick (R153). -/
def tqStep (j : Job) : Option Status := check (!j.pbit 15 || decide (j.tqMin ≤ j.acceptTq)) .timeQuality

/-! ### Key encapsulation -/

/-- The encapsulation key of a job: operand 3, or the public half of the handle's key (R144). -/
def encapsKey (j : Job) (pub : List Byte) : List Byte := if j.pbit 13 then j.operand 3 else pub

/-- The bytes of a classical ephemeral key of a hybrid code (R158, R166). -/
def ephLen (alg : Nat) : Nat := (classicPart alg).1

/-- KEM.MLKEM_ENCAPS (R144, R146): message drawn from the region, ciphertext to operand 1, key to operand 2. -/
def mlkemEncaps (c : Cmd) (s : State) : State × Option Res :=
  let j := c.job
  orBad (kemChecks s j [0, 1] 2 (!j.pbit 13 || (j.operand 3).length == pubLen j.alg)) s fun s =>
  countThen c 1 (keyLimit s j) s fun s => withMasks 0 c s fun s => withKey c s fun _ pub s => withRandom 32 c s fun m s =>
    let ek := encapsKey j pub
    if j.pbit 13 && !Config.stdOk "FIPS 203 encapsulation key check" [le 1 j.alg, ek] then
      (s, some (stRes .decodeFail))
    else
      let (hit, s1) := probeCryst c.rgn j.inst j.alg ek c.prog.startTick s
      let ct := stdN (sigLen j.alg) "ML-KEM.Encaps ciphertext" [le 1 j.alg, ek, m]
      let (out, s2) := sharedOut (j.pbit 14) j.inst (jobKey s1 j)
        (stdN 32 "ML-KEM.Encaps key" [le 1 j.alg, ek, m]) s1
      (s2, some ((outsTo j [(1, ct), (2, out)]).withNj (c.figure (latticeNj .encaps j.alg 0 hit (s.efficient c.rgn)))))

/-- KEM.MLKEM_DECAPS (R145, R146): implicit rejection included. -/
def mlkemDecaps (c : Cmd) (s : State) : State × Option Res :=
  let j := c.job
  orBad (kemChecks s j [0] 3 ((j.operand 0).length == sigLen j.alg) ++ [orderStep s c]) s fun s =>
  countThen c 1 (keyLimit s j) s fun s => withMasks 1 c s fun s => withKey c s fun sk pub s =>
    let (hit, s1) := probeCryst c.rgn j.inst j.alg pub c.prog.startTick s
    let (out, s2) := sharedOut (j.pbit 14) j.inst (jobKey s1 j)
      (stdN 32 "ML-KEM.Decaps" [le 1 j.alg, sk, j.operand 0]) s1
    (s2, some ((outsTo j [(2, out)]).withNj (c.figure (latticeNj .decaps j.alg c.prog.order hit (s.efficient c.rgn)))))

/-- The combiner of the hybrid KEM (R158). -/
def hybridKey (alg : Nat) (kpq z cpq epk pkT : List Byte) : List Byte :=
  stdN 32 "KMAC256 EXM-HYBRID-KEM-1" [kpq ++ z, cpq ++ epk ++ pkT ++ le 1 alg]

/-- The energy of a job of two parts: the sum of both (R164); `raw` is the free value of R225's ten per cent. -/
def bothNj (c : Cmd) (lattice : Option Nat) (eff : Bool) (raw : Nat) : Option Nat :=
  c.figure (lattice.bind fun a => (partNs c.job.opcode c.job.alg).map fun ns => a + numberNj eff ns raw)

/-- KEM.HYB_ENCAPS (R158, R159). -/
def hybEncaps (c : Cmd) (s : State) : State × Option Res :=
  let j := c.job
  let a := latticeAlg j.alg
  orBad (kemChecks s j [0, 1] 2 (!j.pbit 13 || (j.operand 3).length == pubLen j.alg)) s fun s =>
  countThen c 1 (keyLimit s j) s fun s => orBad [slotQuota s c] s fun s => withMasks 0 c s fun s =>
  withKey c s fun _ pub s => withRandom (32 + ephLen j.alg + (8 + ephLen j.alg)) c s fun d s =>
    let ek := encapsKey j pub
    let pkT := ek.drop (pubLen a)
    let eph := slice d 32 (ephLen j.alg)
    if (j.pbit 13 && !Config.stdOk "FIPS 203 encapsulation key check" [le 1 a, ek.take (pubLen a)]) ||
        !Config.stdOk "classical public key validation" [le 1 j.alg, pkT, eph] then (s, some (stRes .decodeFail))
    else
      let (hit, s0) := probeCryst c.rgn j.inst a (ek.take (pubLen a)) c.prog.startTick s
      let (raw, s1) := drawNat s0
      let cpq := stdN (sigLen a) "ML-KEM.Encaps ciphertext" [le 1 a, ek.take (pubLen a), d.take 32]
      let kpq := stdN 32 "ML-KEM.Encaps key" [le 1 a, ek.take (pubLen a), d.take 32]
      let epk := stdN (sigLen j.alg - sigLen a) "classical public key" [le 1 j.alg, eph]
      let z := stdN (ephLen j.alg) "ECDH" [le 1 j.alg, eph, pkT]
      let (out, s2) := sharedOut (j.pbit 14) j.inst (jobKey s1 j) (hybridKey j.alg kpq z cpq epk pkT) s1
      (s2, some ((outsTo j [(1, cpq ++ epk), (2, out)]).withNj
        (bothNj c (latticeNj .encaps a 0 hit (s.efficient c.rgn)) (s.efficient c.rgn) raw)))

/-- KEM.HYB_DECAPS (R158, R159). -/
def hybDecaps (c : Cmd) (s : State) : State × Option Res :=
  let j := c.job
  let a := latticeAlg j.alg
  orBad (kemChecks s j [0] 3 ((j.operand 0).length == sigLen j.alg) ++ [orderStep s c]) s fun s =>
  countThen c 1 (keyLimit s j) s fun s => orBad [slotQuota s c] s fun s => withMasks 1 c s fun s =>
  withKey c s fun sk pub s => withRandom (8 + ephLen j.alg) c s fun _ s =>
    let ct := j.operand 0
    let cpq := ct.take (sigLen a)
    let epk := ct.drop (sigLen a)
    let skT := sk.drop (sk.length - ephLen j.alg)
    let (hit, s0) := probeCryst c.rgn j.inst a (pub.take (pubLen a)) c.prog.startTick s
    let (raw, s1) := drawNat s0
    if !Config.stdOk "classical public key validation" [le 1 j.alg, epk, skT] then (s1, some (stRes .decodeFail))
    else
      let kpq := stdN 32 "ML-KEM.Decaps" [le 1 a, sk.take (sk.length - ephLen j.alg), cpq]
      let z := stdN (ephLen j.alg) "ECDH" [le 1 j.alg, skT, epk]
      let (out, s2) := sharedOut (j.pbit 14) j.inst (jobKey s1 j)
        (hybridKey j.alg kpq z cpq epk (pub.drop (pubLen a))) s1
      (s2, some ((outsTo j [(2, out)]).withNj
        (bothNj c (latticeNj .decaps a c.prog.order hit (s.efficient c.rgn)) (s.efficient c.rgn) raw)))

/-! ### Signatures -/

/-- The outputs of a signing: the signature, and the prefix with TIME_ATTEST (R152). -/
def signOuts (j : Job) (sig : List Byte) : List (Nat × List Byte) :=
  if j.pbit 15 then [(1, sig), (2, attestPrefix j)] else [(1, sig)]

/-- A signature goes to its release check where its output fits (R124, R127); `nj` is the energy of signing and check where the spec
fixes it. -/
def releaseSig (c : Cmd) (nj : Option Nat) (sig : List Byte) (s : State) : State × Option Res :=
  let r := outsTo c.job (signOuts c.job sig)
  if r.status = .ok then (toCheck c.job.id r (s.modProg c.job.id (Prog.endEnergy (c.figure nj) 0)), none) else (s, some r)

/-- SIG.MLDSA_SIGN (R147-R153): hedged by default; 256 rejected attempts end it. -/
def mldsaSign (c : Cmd) (s : State) : State × Option Res :=
  let j := c.job
  orBad (sigChecks s j [0] 0 ++ [orderStep s c]) s fun s =>
  countThen c 1 (keyLimit s j) s fun s => orBad [tqStep j] s fun s => withMasks 2 c s fun s => withKey c s fun sk _ s =>
  withRandom (if j.pbit 10 then 0 else 32) c s fun d s =>
    let rnd := if j.pbit 10 then zeros 32 else d
    let args := [le 1 j.alg, sk, fullCtx j, rnd] ++ mldsaInput j
    if !Config.stdOk "ML-DSA.Sign ends within 256 attempts" args then (s, some (stRes .rejectLimit))
    else releaseSig c none (stdN (sigLen j.alg) "ML-DSA.Sign" args) s

/-- The public key of a verification: operand 3, or the one the handle holds (R154). -/
def verifyKey (j : Job) (pub : List Byte) : List Byte := if j.pbit 13 then j.operand 3 else pub

/-- The energy of the lattice part of a verification, for messages of at most 256 bytes (R160, R161). -/
def verifyNj (c : Cmd) (alg : Nat) (hit eff : Bool) : Option Nat :=
  if 256 < (c.job.operand 0).length then none else c.figure (latticeNj .verify alg 0 hit eff)

/-- SIG.MLDSA_VERIFY (R154). -/
def mldsaVerify (c : Cmd) (s : State) : State × Option Res :=
  let j := c.job
  orBad (sigChecks s j [0, 1] 1) s fun s => countThen c 1 (keyLimit s j) s fun s => withKey c s fun _ pub s =>
    let pk := verifyKey j pub
    let (hit, s1) := probeCryst c.rgn j.inst j.alg pk c.prog.startTick s
    (s1, some (Res.withNj (verifyNj c j.alg hit (s.efficient c.rgn))
      (if Config.stdOk "ML-DSA.Verify" ([le 1 j.alg, pk, j.ctx, j.operand 1] ++ mldsaInput j) then okRes else stRes .sigInvalid)))

/-- The header byte of an FN-DSA public key and of a signature (R155). -/
def fndsaLog (alg : Nat) : Nat := if alg = 0x21 then 9 else 10

/-- SIG.FNDSA_VERIFY (R155). -/
def fndsaVerify (c : Cmd) (s : State) : State × Option Res :=
  let j := c.job
  orBad (sigChecks s j [0, 1] 1) s fun s => countThen c 1 (keyLimit s j) s fun s => withKey c s fun _ pub s =>
    let pk := verifyKey j pub
    let sg := j.operand 1
    if !(fld pk 0 1 == fndsaLog j.alg) || !Config.stdOk "FN-DSA public key coefficients below 12289" [le 1 j.alg, pk] then
      (s, some (stRes .decodeFail))
    else
      let (hit, s1) := probeCryst c.rgn j.inst j.alg pk c.prog.startTick s
      (s1, some (Res.withNj (verifyNj c j.alg hit (s.efficient c.rgn)) (if fld sg 0 1 == 0x30 + fndsaLog j.alg &&
          Config.stdOk "FN-DSA.Verify" [le 1 j.alg, pk, sg, j.operand 0] then okRes else stRes .sigInvalid)))

/-- Random bytes of the classical part of a composite signature (R321): scalar blinding and coordinates, and the nonce of hedged ECDSA. -/
def compDraw (j : Job) : Nat :=
  let f := (classicPart j.alg).1
  8 + f + (if (classicalAlg j.alg == 0x91 || classicalAlg j.alg == 0x92) && !j.pbit 10 then f + 8 else 0)

/-- SIG.COMP_SIGN (R156, R157): both components sign M′, each on its own cell, and both are checked before release. Where one failed its
check, it alone is signed again and joins the other. -/
def compSign (c : Cmd) (s : State) : State × Option Res :=
  let j := c.job
  let a := latticeAlg j.alg
  let lat := c.prog.pair.again != some true
  let cls := c.prog.pair.again != some false
  orBad (sigChecks s j [0] 0 ++ [orderStep s c]) s fun s =>
  countThen c 1 (keyLimit s j) s fun s => orBad [tqStep j, slotQuota s c] s fun s =>
  (if lat then withMasks 2 c s else fun k => k s) fun s => withKey c s fun sk _ s =>
  let l := if lat && !j.pbit 10 then 32 else 0
  withRandom (l + (if cls then compDraw j else 0)) c s fun d s =>
    let rnd := if j.pbit 10 then zeros 32 else d.take l
    let n := sk.length - (classicPart j.alg).1
    let m := compRep j
    let args := [le 1 a, sk.take n, [], rnd, ascii "pure", m]
    if lat && !Config.stdOk "ML-DSA.Sign ends within 256 attempts" args then (s, some (stRes .rejectLimit))
    else releaseSig c none
      ((if lat then stdN (sigLen a) "ML-DSA.Sign" args else c.prog.pair.kept.take (sigLen a)) ++
        (if cls then stdN (sigLen j.alg - sigLen a) "classical signature of a composite" [le 1 j.alg, sk.drop n, d.drop l, m]
         else c.prog.pair.kept.drop (sigLen a))) s

/-- SIG.COMP_VERIFY (R157): both components are evaluated in every case. -/
def compVerify (c : Cmd) (s : State) : State × Option Res :=
  let j := c.job
  let a := latticeAlg j.alg
  orBad (sigChecks s j [0, 1] 1) s fun s => countThen c 1 (keyLimit s j) s fun s => orBad [slotQuota s c] s fun s =>
  withKey c s fun _ pub s =>
    let pk := verifyKey j pub
    let pkT := pk.drop (pubLen a)
    let sg := j.operand 1
    let (hit, s0) := probeCryst c.rgn j.inst a (pk.take (pubLen a)) c.prog.startTick s
    let (raw, s1) := drawNat s0
    if !Config.stdOk "classical public key of a composite decodes" [le 1 j.alg, pkT] then (s1, some (stRes .decodeFail))
    else
      let l := Config.stdOk "ML-DSA.Verify"
        [le 1 a, pk.take (pubLen a), [], sg.take (sigLen a), ascii "pure", compRep j]
      let t := Config.stdOk "classical verification of a composite" [le 1 j.alg, pkT, sg.drop (sigLen a), compRep j]
      (s1, some (Res.withNj (bothNj c (verifyNj c a hit (s.efficient c.rgn)) (s.efficient c.rgn) raw)
        (if l && t then okRes else stRes .sigInvalid)))

/-! ### Shapes (R83, R142) -/

/-- The operands of a signing verb: message, signature and, with TIME_ATTEST, the prefix (R142). -/
def shapeSign (param : Nat) (sig : Option Nat) : Shape :=
  let ta := bit param 15
  { ins := [0], outs := (1, sig) :: (if ta then [(2, some 25)] else []),
    req := [1] ++ (if ta then [2] else []) ++ (if bit param 12 then [0] else []), key := !bit param 13 }

/-- The operands of a verification verb (R142). -/
def shapeVerify (param : Nat) : Shape :=
  let pk := bit param 13
  { ins := [0, 1] ++ (if pk then [3] else []),
    req := [1] ++ (if bit param 12 then [0] else []) ++ (if pk then [3] else []), key := !pk }

/-- The operands of an encapsulation: key, ciphertext and shared key (R142, R146). -/
def shapeEncaps (param : Nat) (ct shared : Option Nat) : Shape :=
  let pk := bit param 13
  let sh := shared.map fun n => if bit param 14 then blobLen n else n
  { ins := if pk then [3] else [], outs := [(1, ct), (2, sh)], req := [1, 2] ++ (if pk then [3] else []), key := !pk }

/-- The operands of a decapsulation (R142, R146). -/
def shapeDecaps (param : Nat) (shared : Option Nat) : Shape :=
  { ins := [0], outs := [(2, shared.map fun n => if bit param 14 then blobLen n else n)], req := [0, 2], key := !bit param 13 }

/-- The shapes of the lattice verbs. -/
def shapeLattice : ShapeFn := fun op param _ =>
  let alg := bits param 7 0
  let known (n : Nat) : Option Nat := if latticeTakes op alg then some n else none
  match op with
  | 0x0301 => shapeEncaps param (known (sigLen alg)) (known 32)
  | 0x0303 => shapeEncaps param (known (sigLen alg)) (known 32)
  | 0x0302 => shapeDecaps param (known 32)
  | 0x0304 => shapeDecaps param (known 32)
  | 0x0401 => shapeSign param (known (sigLen alg))
  | 0x0404 => shapeSign param (known (sigLen alg))
  | _ => shapeVerify param

/-! ### The commands -/

/-- KEM.MLKEM_ENCAPS (R144). -/
def execKemMlkemEncaps (j : Nat) (s : State) : Host.Outcome State Fault Refusal := .next (runVerb 0x0301 j mlkemEncaps s)
/-- KEM.MLKEM_DECAPS (R145). -/
def execKemMlkemDecaps (j : Nat) (s : State) : Host.Outcome State Fault Refusal := .next (runVerb 0x0302 j mlkemDecaps s)
/-- KEM.HYB_ENCAPS (R158). -/
def execKemHybEncaps (j : Nat) (s : State) : Host.Outcome State Fault Refusal := .next (runVerb 0x0303 j hybEncaps s)
/-- KEM.HYB_DECAPS (R158). -/
def execKemHybDecaps (j : Nat) (s : State) : Host.Outcome State Fault Refusal := .next (runVerb 0x0304 j hybDecaps s)
/-- SIG.MLDSA_SIGN (R147). -/
def execSigMldsaSign (j : Nat) (s : State) : Host.Outcome State Fault Refusal := .next (runVerb 0x0401 j mldsaSign s)
/-- SIG.MLDSA_VERIFY (R154). -/
def execSigMldsaVerify (j : Nat) (s : State) : Host.Outcome State Fault Refusal := .next (runVerb 0x0402 j mldsaVerify s)
/-- SIG.FNDSA_VERIFY (R155). -/
def execSigFndsaVerify (j : Nat) (s : State) : Host.Outcome State Fault Refusal := .next (runVerb 0x0403 j fndsaVerify s)
/-- SIG.COMP_SIGN (R157). -/
def execSigCompSign (j : Nat) (s : State) : Host.Outcome State Fault Refusal := .next (runVerb 0x0404 j compSign s)
/-- SIG.COMP_VERIFY (R157). -/
def execSigCompVerify (j : Nat) (s : State) : Host.Outcome State Fault Refusal := .next (runVerb 0x0405 j compVerify s)

end Sys2Proof.Machine
end

