-- ==== Sys2Proof/Machine/Number.lean ====
section
/-! DEFINITION. The number-cell verbs (R209-R224): RSA, elliptic curves, Classic McEliece and HQC, and the slot need of
a job (R202, R226-R228). -/

namespace Sys2Proof.Machine

/-! ### The checks of R214 -/

/-- The ALG codes of a number-cell verb (R209). -/
def numTakes (op alg : Nat) : Bool :=
  match op with
  | 0x0305 => alg == 0x83 || alg == 0x84
  | 0x0306 => alg == 0x83 || alg == 0x84
  | 0x0307 => famOf alg == some .ecdh
  | 0x0308 => famOf alg == some .mce
  | 0x0309 => famOf alg == some .mce
  | 0x030A => famOf alg == some .hqc
  | 0x030B => famOf alg == some .hqc
  | 0x040B => alg == 0x81 || alg == 0x82
  | 0x040C => alg == 0x81 || alg == 0x82
  | 0x040D => famOf alg == some .ecdsa
  | 0x040E => famOf alg == some .ecdsa
  | _ => famOf alg == some .eddsa

/-- PARAM bits that must be 0 (R211). -/
def numZero (op : Nat) : Nat :=
  match op with
  | 0x0305 => 0xFFFF9F00
  | 0x0308 => 0xFFFF9F00
  | 0x030A => 0xFFFF9F00
  | 0x0307 => 0xFFFEBF00
  | 0x0306 => 0xFFFFBF00
  | 0x0309 => 0xFFFFBF00
  | 0x030B => 0xFFFFBF00
  | 0x040B => 0xFFFFEF00
  | 0x040C => 0xFFFFCF00
  | 0x040D => 0xFFFFEB00
  | 0x040E => 0xFFFFCF00
  | 0x040F => 0xFFFFE700
  | _ => 0xFFFFC700

/-- The verb carries the argument unit of R212. -/
def numHasArgs (op : Nat) : Bool := decide (0x040B ≤ op) || op == 0x0305 || op == 0x0306

/-- SALT_LEN (R212). -/
def Job.saltLen (j : Job) : Nat := fld j.args 3 1

/-- A job whose PH_FUNC is one of 1 to 6: RSA and ECDSA signatures and OAEP (R212). -/
def hashed (j : Job) : Bool := j.alg == 0x81 || j.alg == 0x82 || j.alg == 0x83 || famOf j.alg == some .ecdsa

/-- PH_FUNC as R212 has it: 1 to 6 where it names the hash, 3 or 8 for the pre-hashed EdDSA forms, else 0. -/
def phOk (j : Job) : Bool :=
  if hashed j then within 1 6 j.phFunc
  else if famOf j.alg == some .eddsa && j.pbit 11 then j.phFunc == (if j.alg = 0xA1 then 3 else 8)
  else j.phFunc == 0

/-- Step 1 of R214 (R211, R212). -/
def numStep1 (j : Job) : Option Status :=
  check (j.param.toNat &&& numZero j.opcode == 0 &&
    (if numHasArgs j.opcode then
      sigArgsOk j 4 && j.tqMin == 0 && (j.ctxLen == 0 || famOf j.alg == some .eddsa || j.alg == 0x83) && phOk j &&
      (if j.alg = 0x81 then decide (j.saltLen ≤ phLen j.phFunc) || j.saltLen == 0xFF else j.saltLen == 0)
     else j.args.isEmpty)) .malformed

/-- Step 2 of R214: ALG and the flag combination. -/
def numStep2 (j : Job) : Option Status :=
  check (numTakes j.opcode j.alg && (!(famOf j.alg == some .eddsa && j.pbit 12) || j.pbit 11)) .paramUnsupported

/-- Bytes of an input operand by its fragments. -/
def Job.operandLen (j : Job) (n : Nat) : Nat := inputLen (j.frags.filter fun f => f.operand == n)

/-- Step 5 of R214: sizes of R210, digest lengths, message limits; the DER key of an RSA verb is decoded here, and an exponent that R215
does not allow fails as its decoding does (log 89). -/
def numStep5 (s : State) (j : Job) : Option Status :=
  let l (n : Nat) : Nat := (j.operand n).length
  let rsa := famOf j.alg == some .rsa
  let k8 := rsaSize s j / 8
  let digest := if famOf j.alg = some .eddsa then 64 else phLen j.phFunc
  firstBad [
    check (!(rsa && j.pbit 13) || (derRsa (j.operand 3)).any fun x => exponentOk x.2) .decodeFail,
    check (!(rsa && j.pbit 13) ||
      (decide (1024 ≤ rsaSize s j) && decide (rsaSize s j ≤ 16384) && rsaSize s j % 64 == 0)) .paramUnsupported,
    check (rsa || !(j.pbit 13 || j.opcode == 0x0307) || j.operandLen 3 == pubLen j.alg) .lengthMismatch,
    check (!(decide (0x0400 ≤ j.opcode) && j.pbit 12) || l 0 == digest) .lengthMismatch,
    check (match j.opcode with
      | 0x0305 => if j.alg = 0x83 then decide (l 0 + 2 * phLen j.phFunc + 2 ≤ k8) else true
      | 0x0306 => l 0 == k8
      | 0x0309 => l 0 == sigLen j.alg
      | 0x030B => l 0 == sigLen j.alg
      | 0x040C => l 1 == k8
      | 0x040E => l 1 == sigLen j.alg
      | 0x0410 => l 1 == sigLen j.alg
      | _ => true) .lengthMismatch,
    check (!(famOf j.alg == some .eddsa && !j.pbit 11) || decide (l 0 ≤ 65536)) .paramUnsupported]

/-- R52 for a number-cell verb: an RSA key serves the RSA codes its bits [16:13] permit, any other key its own code
(R210, R542). -/
def numKey (s : State) (j : Job) (cls : List Nat) (use : Nat) : Option Status :=
  if j.handle = nullHandle then none
  else
    let rsa := famOf j.alg == some .rsa
    keyChecks s j cls (fun a => if rsa then famOf a == some .rsa else a == j.alg) use fun k =>
      (!rsa || bit k.pol.uses (13 + (j.alg - 0x81))) && !(j.pbit 10 && k.attr 5 && decide (0x0400 ≤ j.opcode)) &&
      (decide (0x0400 ≤ j.opcode) || !k.attr 6 || j.pbit 14)

/-- The checks of R214 in order up to step 5. -/
def numChecks (s : State) (j : Job) (cls : List Nat) (use : Nat) : List (Option Status) :=
  [numKey s j cls use, numStep1 j, numStep2 j, famEnabled s j, numStep5 s j, wrapOk s j]

/-- The energy of a number-cell job (R225); `raw` is the free value of its ten per cent. -/
def numNj (s : State) (c : Cmd) (raw : Nat) : Option Nat :=
  c.figure ((numberNs c.job.opcode c.job.alg (rsaSize s c.job)).map fun ns =>
    numberNj (s.efficient c.rgn) (ns + if c.job.opcode = 0x0307 ∧ c.job.pbit 16 then ephemeralNs c.job.alg else 0) raw)

/-- The figure of R225 goes to a job that did its work. -/
def Res.timed (nj : Option Nat) (r : Res) : Res :=
  if r.nj.isNone && (r.status == .ok || r.status == .sigInvalid) then r.withNj nj else r

/-- Run a number-cell job after its checks: use counted, slot need within the quota (R214), energy by R225. -/
def numRun (c : Cmd) (cls : List Nat) (use : Nat) (s : State) (f : State → State × Option Res) : State × Option Res :=
  orBad (numChecks s c.job cls use) s fun s => countThen c 1 (keyLimit s c.job) s fun s => orBad [slotQuota s c] s fun s =>
    let (raw, s1) := drawNat s
    match f s1 with
    | (s2, some r) => (s2, some (r.timed (numNj s c raw)))
    | x => x

/-- A signature of a number cell goes to its check, with the energy of both cells (R208, R225). -/
def releaseNum (c : Cmd) (sig : List Byte) (s : State) : State × Option Res :=
  let (raw, s1) := drawNat s
  releaseSig c (numNj s c raw) sig s1

/-! ### RSA -/

/-- The message representative of an RSA or ECDSA job: the digest, or the message to be hashed. -/
def numMessage (j : Job) : List (List Byte) := [le 1 j.phFunc, le 1 (if j.pbit 12 then 1 else 0), j.operand 0]

/-- Salt bytes of RSASSA-PSS (R212). -/
def saltBytes (j : Job) : Nat :=
  if j.alg = 0x81 then if j.saltLen = 0xFF then phLen j.phFunc else j.saltLen else 0

/-- KEM.RSA_ENCRYPT (R216): OAEP encryption, or SVE encapsulation. -/
def rsaEncrypt (c : Cmd) (s : State) : State × Option Res :=
  let j := c.job
  let k8 := rsaSize s j / 8
  let sve := j.alg == 0x84
  numRun c [0, 1] 5 s fun s => withKey c s fun _ pub s =>
  withDraw 0 (if sve then k8 else phLen j.phFunc) c s fun d s =>
    let pk := verifyKey j pub
    if sve then
      let z := stdN k8 "RSASVE z from 2 to n - 2" [pk, d]
      let (out, s1) := sharedOut (j.pbit 14) j.inst (jobKey s j) z s
      (s1, some (outsTo j [(1, stdN k8 "RSA public operation" [pk, z]), (2, out)]))
    else (s, some (outTo j 1 (stdN k8 "RSAES-OAEP encrypt" [pk, le 1 j.phFunc, j.ctx, j.operand 0, d])))

/-- KEM.RSA_DECRYPT (R216, R214): every OAEP failure has one status. -/
def rsaDecrypt (c : Cmd) (s : State) : State × Option Res :=
  let j := c.job
  let k8 := rsaSize s j / 8
  numRun c [0] 6 s fun s => withKey c s fun sk _ s => withRandom (16 + k8) c s fun _ s =>
    let args := [sk, le 1 j.alg, le 1 j.phFunc, j.ctx, j.operand 0]
    if !Config.stdOk "RSA decryption decodes" args then (s, some (stRes .decodeFail))
    else
      let m := if j.alg = 0x84 then stdN k8 "RSASVE recover" args
        else (Config.std "RSAES-OAEP decrypt" args).take (k8 - 2 * phLen j.phFunc - 2)
      if j.pbit 14 && j.alg == 0x83 && !([16, 24, 32, 48, 64].contains m.length) then (s, some (stRes .paramUnsupported))
      else
        let (out, s1) := sharedOut (j.pbit 14) j.inst (jobKey s j) m s
        (s1, some (outsTo j [(2, out)]))

/-- SIG.RSA_SIGN (R216, R207, R208). -/
def rsaSign (c : Cmd) (s : State) : State × Option Res :=
  let j := c.job
  numRun c [0] 0 s fun s => withKey c s fun sk _ s =>
  withRandom (16 + rsaSize s j / 8 + saltBytes j) c s fun d s =>
    releaseNum c (stdN (rsaSize s j / 8) "RSA sign" ([le 1 j.alg, sk, d.take (saltBytes j)] ++ numMessage j)) s

/-- SIG.RSA_VERIFY (R216). -/
def rsaVerify (c : Cmd) (s : State) : State × Option Res :=
  let j := c.job
  numRun c [0, 1] 1 s fun s => withKey c s fun _ pub s =>
    (s, some (if Config.stdOk "RSA verify" ([le 1 j.alg, verifyKey j pub, le 1 j.saltLen, j.operand 1] ++ numMessage j)
              then okRes else stRes .sigInvalid))

/-! ### Elliptic curves -/

/-- SIG.ECDSA_SIGN (R217): hedged by default; the deterministic form draws nothing for k. -/
def ecdsaSign (c : Cmd) (s : State) : State × Option Res :=
  let j := c.job
  numRun c [0] 0 s fun s => withKey c s fun sk _ s =>
  let f := (pubLen j.alg - 1) / 2
  withRandom ((if j.pbit 10 then 0 else f + 8) + (8 + f)) c s fun d s =>
    releaseNum c (stdN (sigLen j.alg) "ECDSA sign" ([le 1 j.alg, sk, if j.pbit 10 then [] else d] ++ numMessage j)) s

/-- SIG.ECDSA_VERIFY (R217): a key in operand 3 is validated in full. -/
def ecdsaVerify (c : Cmd) (s : State) : State × Option Res :=
  let j := c.job
  numRun c [0, 1] 1 s fun s => withKey c s fun _ pub s =>
    let pk := verifyKey j pub
    if j.pbit 13 && !Config.stdOk "SP 800-56A public key validation" [le 1 j.alg, pk] then (s, some (stRes .decodeFail))
    else (s, some (if Config.stdOk "ECDSA verify" ([le 1 j.alg, pk, j.operand 1] ++ numMessage j) then okRes
                   else stRes .sigInvalid))

/-- The variant and input of an EdDSA job (R218). -/
def eddsaInput (j : Job) : List (List Byte) :=
  [ascii (if j.pbit 11 then "ph" else if j.alg = 0xA1 ∧ j.ctxLen ≠ 0 then "ctx" else "pure"), j.ctx,
   le 1 (if j.pbit 12 then 1 else 0), j.operand 0]

/-- SIG.EDDSA_SIGN (R218). -/
def eddsaSign (c : Cmd) (s : State) : State × Option Res :=
  let j := c.job
  numRun c [0] 0 s fun s => withKey c s fun sk _ s => withRandom (8 + pubLen j.alg) c s fun _ s =>
    releaseNum c (stdN (sigLen j.alg) "EdDSA sign" ([le 1 j.alg, sk] ++ eddsaInput j)) s

/-- SIG.EDDSA_VERIFY (R218): the cofactored equation; a key that does not decode gives ST_DECODE_FAIL. -/
def eddsaVerify (c : Cmd) (s : State) : State × Option Res :=
  let j := c.job
  numRun c [0, 1] 1 s fun s => withKey c s fun _ pub s =>
    let pk := verifyKey j pub
    if !Config.stdOk "EdDSA public key decodes" [le 1 j.alg, pk] then (s, some (stRes .decodeFail))
    else (s, some (if Config.stdOk "EdDSA verify, cofactored" ([le 1 j.alg, pk, j.operand 1] ++ eddsaInput j) then okRes
                   else stRes .sigInvalid))

/-- Field bytes of an ECDH code (R210). -/
def ecdhField (alg : Nat) : Nat := if alg ≤ 0xB3 then (pubLen alg - 1) / 2 else pubLen alg

/-- KEM.ECDH (R219): static or ephemeral. -/
def kemEcdh (c : Cmd) (s : State) : State × Option Res :=
  let j := c.job
  let eph := j.pbit 16
  numRun c [0] 4 s fun s => withKey c s fun sk _ s =>
  withDraw (8 + ecdhField j.alg) (ecdhField j.alg) c s fun d s =>
    let priv := if eph then d else sk
    let peer := j.operand 3
    if !Config.stdOk "classical public key validation" [le 1 j.alg, peer, priv] then (s, some (stRes .decodeFail))
    else
      let (out, s1) := sharedOut (j.pbit 14) j.inst (jobKey s j) (stdN (sharedLen j.alg) "ECDH" [le 1 j.alg, priv, peer]) s
      let first : List (Nat × List Byte) :=
        if eph then [(1, stdN (pubLen j.alg) "classical public key" [le 1 j.alg, priv])] else []
      (s1, some (outsTo j (first ++ [(2, out)])))

/-! ### Code-based schemes -/

/-- The key of operand 3, which streams while the cell is held (R220): its fragments are read now. -/
def withStream (c : Cmd) (s : State) (f : List Byte → State → State × Option Res) : State × Option Res :=
  let due := c.job.streamed.filter fun i => (tfind c.job.parts i).isNone
  if due.isEmpty then f (c.job.operand 3) s
  else if due.all fun i => c.job.missing.contains i then (s, none)
  else
    (due.foldl (fun s i => match c.job.frags[i]? with
      | some g => hostRead (.fragment c.job.id i) c.job.inst g.addr g.len g.noSnoop s
      | none => s) (s.modCmd c.job.id fun c => { c with job := { c.job with missing := due } }), none)

/-- KEM.MCE_ENCAPS (R220): the public key of a pin place, streamed from its recorded address, or streamed from operand 3. -/
def mceEncaps (c : Cmd) (s : State) : State × Option Res :=
  let j := c.job
  numRun c [0, 1] 2 s fun s =>
    let go (streamed : Bool) (pk : List Byte) (s : State) : State × Option Res := withDraw 0 32 c s fun d s =>
      let (out, s1) := sharedOut (j.pbit 14) j.inst (jobKey s j)
        (stdN (sharedLen j.alg) "Classic McEliece encapsulation key" [le 1 j.alg, pk, d]) s
      let (raw, s2) := drawNat s1
      let nj := if streamed then none else (pinnedNs j.alg).map fun ns => numberNj (s.efficient c.rgn) ns raw
      (s2, some ((outsTo j [(1, stdN (sigLen j.alg) "Classic McEliece ciphertext" [le 1 j.alg, pk, d]), (2, out)]).withNj (c.figure nj)))
    match jobKey s j with
    | none => withStream c s fun pk s => go true pk s
    | some k => mceKey c k s go

/-- A decapsulation with implicit rejection (R223, R224). -/
def codeDecaps (f : String) (c : Cmd) (s : State) : State × Option Res :=
  let j := c.job
  numRun c [0] 3 s fun s => withKey c s fun sk _ s =>
    let (out, s1) := sharedOut (j.pbit 14) j.inst (jobKey s j) (stdN (sharedLen j.alg) f [le 1 j.alg, sk, j.operand 0]) s
    (s1, some (outsTo j [(2, out)]))

/-- KEM.HQC_ENCAPS (R224): m and salt drawn from the region. -/
def hqcEncaps (c : Cmd) (s : State) : State × Option Res :=
  let j := c.job
  numRun c [0, 1] 2 s fun s => withKey c s fun _ pub s => withDraw 0 48 c s fun d s =>
    let pk := verifyKey j pub
    let (out, s1) := sharedOut (j.pbit 14) j.inst (jobKey s j)
      (stdN (sharedLen j.alg) "HQC encapsulation key" [le 1 j.alg, pk, d]) s
    (s1, some (outsTo j [(1, stdN (sigLen j.alg) "HQC ciphertext" [le 1 j.alg, pk, d]), (2, out)]))

/-! ### Shapes (R211, R213) -/

/-- The shapes of the number-cell verbs. -/
def shapeNumber : ShapeFn := fun op param _ =>
  let alg := bits param 7 0
  let pk := bit param 13
  let wrap (n : Nat) : Nat := if bit param 14 then blobLen n else n
  let known (n : Nat) : Option Nat := if numTakes op alg ∧ n ≠ 0 then some n else none
  let shared := known (wrap (sharedLen alg))
  match op with
  | 0x0305 =>
    { ins := (if alg = 0x84 then [] else [0]) ++ (if pk then [3] else []),
      outs := (1, none) :: (if alg = 0x84 then [(2, none)] else []),
      req := [1] ++ (if alg = 0x84 then [2] else []) ++ (if pk then [3] else []), key := !pk }
  | 0x0306 => { ins := [0], outs := [(2, none)], req := [0, 2], key := !pk }
  | 0x0307 =>
    let eph := bit param 16
    { ins := [3], outs := (if eph then [(1, known (pubLen alg))] else []) ++ [(2, shared)],
      req := [2, 3] ++ (if eph then [1] else []), key := !eph && !pk }
  | 0x0308 => { shapeEncaps param (known (sigLen alg)) none with outs := [(1, known (sigLen alg)), (2, shared)] }
  | 0x030A => { shapeEncaps param (known (sigLen alg)) none with outs := [(1, known (sigLen alg)), (2, shared)] }
  | 0x0309 => { ins := [0], outs := [(2, shared)], req := [0, 2], key := !pk }
  | 0x030B => { ins := [0], outs := [(2, shared)], req := [0, 2], key := !pk }
  | 0x040B => shapeSign (param &&& 0xFFFF7FFF) none
  | 0x040D => shapeSign (param &&& 0xFFFF7FFF) (known (sigLen alg))
  | 0x040F => shapeSign (param &&& 0xFFFF7FFF) (known (sigLen alg))
  | _ => shapeVerify param

/-! ### Slot registers -/

/-- Operand slots of a pan that jobs hold. -/
def State.slotsHeld (s : State) (r p : Nat) : List Nat :=
  (s.cmds.filterMap fun c => if c.prog.region = some r then some ((c.prog.slots.filter fun x => x.1 == p).map (·.2))
                             else none).flatten

/-- The 4 KiB block of a pan's slot memory in which a slot begins, and the one in which it ends (R199, R431). -/
def State.slotBlocks (s : State) (r p x : Nat) : Nat × Nat :=
  if x < 8192 then (x * s.slotLen r p / 4096, ((x + 1) * s.slotLen r p - 1) / 4096)
  else (512 + (x - 8192) / 4, 512 + (x - 8192) / 4)

/-- The slot overlaps a quarantined block and is withheld from allocation (R431). -/
def State.slotWithheld (s : State) (r p x : Nat) : Bool :=
  (s.region r).svc.withheld.any fun w => match w with
    | .slots q b => q == p && decide ((s.slotBlocks r p x).1 ≤ b) && decide (b ≤ (s.slotBlocks r p x).2)
    | .pond => false

/-- The block of the first slot or pond unit that a command holds: the one in which its word fails (DESIGN CHOICE, log 103). -/
def State.heldBlock (s : State) (c : Cmd) : Option SramBlock :=
  if 0 < c.prog.pond then some .pond
  else c.prog.slots.head?.map fun x => .slots x.1 (s.slotBlocks (c.prog.region.getD 0) x.1 x.2).1

/-- Operand slots (bit 13 clear) of a pan that jobs hold (R200). -/
def State.operandHeld (s : State) (r p : Nat) : List Nat := (s.slotsHeld r p).filter fun x => decide (x < 8192)

/-- The new length takes effect once the operand partition holds no slot: every operand slot is zero-written (R201). -/
def applySlotLen (r p : Nat) (s : State) : State :=
  match (s.pan r p).slots.next with
  | some n =>
    if (s.operandHeld r p).isEmpty then s.modPan r p fun x => { x with slots := { x.slots with len64 := n, next := none } }
    else s
  | none => s

/-- A write of SLT_PAN_CFG.SLOT_LEN64 (R201); a reserved value leaves the field as it was (R11). -/
def slotLenWriteAt (r p v : Nat) (s : State) : State :=
  let n := v % 128
  if s.enabled r && decide (p < 4) && decide (4 ≤ n) && decide (n ≤ 64) then
    s.modPan r p fun x => { x with slots := { x.slots with next := some n } }
  else s

/-- The row: the access of R35 through a BAR (R110). -/
def execSlotLenWrite (r p v : Nat) (s : State) : Host.Outcome State Fault Refusal :=
  .next (s.gated 0 (slotLenWriteAt r p v s))

/-- SLOT_LENGTH_APPLY (R201): a pan with PENDING set and an empty operand partition takes the new length. -/
def execSlotLengthApply (r p : Nat) (s : State) : Host.Outcome State Fault Refusal := .next (applySlotLen r p s)

/-- A slot ID is held by a job of region `r` (R200). -/
def slotHeld (s : State) (r id : Nat) : Bool := (s.slotsHeld r (id / 16384 % 4)).contains (id % 16384)

/-- SLOT_INSPECT_READ (R230): a read of the inspection window; a held slot reads zero and sets DENIED, a free slot reads
zero. -/
def slotInspectReadAt (r offset : Nat) (s : State) : State :=
  if !s.enabled r || decide (4096 ≤ offset) then s
  else
    let s1 := if slotHeld s r (s.region r).num.inspectSel then
        s.modRegion r fun g => { g with num := { g.num with inspectDenied := true } }
      else s
    emit (.value 0) s1

/-- The row: the access of R35 through a BAR (R110). -/
def execSlotInspectRead (r offset : Nat) (s : State) : Host.Outcome State Fault Refusal :=
  .next (s.gatedRead 0 (slotInspectReadAt r offset s))

/-! ### The verbs -/

/-- KEM.RSA_ENCRYPT (R216). -/
def execKemRsaEncrypt (j : Nat) (s : State) : Host.Outcome State Fault Refusal := .next (runVerb 0x0305 j rsaEncrypt s)
/-- KEM.RSA_DECRYPT (R216). -/
def execKemRsaDecrypt (j : Nat) (s : State) : Host.Outcome State Fault Refusal := .next (runVerb 0x0306 j rsaDecrypt s)
/-- KEM.ECDH (R219). -/
def execKemEcdh (j : Nat) (s : State) : Host.Outcome State Fault Refusal := .next (runVerb 0x0307 j kemEcdh s)
/-- KEM.MCE_ENCAPS (R220). -/
def execKemMceEncaps (j : Nat) (s : State) : Host.Outcome State Fault Refusal := .next (runVerb 0x0308 j mceEncaps s)
/-- KEM.MCE_DECAPS (R223). -/
def execKemMceDecaps (j : Nat) (s : State) : Host.Outcome State Fault Refusal :=
  .next (runVerb 0x0309 j (codeDecaps "Classic McEliece decapsulation") s)
/-- KEM.HQC_ENCAPS (R224). -/
def execKemHqcEncaps (j : Nat) (s : State) : Host.Outcome State Fault Refusal := .next (runVerb 0x030A j hqcEncaps s)
/-- KEM.HQC_DECAPS (R224). -/
def execKemHqcDecaps (j : Nat) (s : State) : Host.Outcome State Fault Refusal :=
  .next (runVerb 0x030B j (codeDecaps "HQC decapsulation") s)
/-- SIG.RSA_SIGN (R216). -/
def execSigRsaSign (j : Nat) (s : State) : Host.Outcome State Fault Refusal := .next (runVerb 0x040B j rsaSign s)
/-- SIG.RSA_VERIFY (R216). -/
def execSigRsaVerify (j : Nat) (s : State) : Host.Outcome State Fault Refusal := .next (runVerb 0x040C j rsaVerify s)
/-- SIG.ECDSA_SIGN (R217). -/
def execSigEcdsaSign (j : Nat) (s : State) : Host.Outcome State Fault Refusal := .next (runVerb 0x040D j ecdsaSign s)
/-- SIG.ECDSA_VERIFY (R217). -/
def execSigEcdsaVerify (j : Nat) (s : State) : Host.Outcome State Fault Refusal := .next (runVerb 0x040E j ecdsaVerify s)
/-- SIG.EDDSA_SIGN (R218). -/
def execSigEddsaSign (j : Nat) (s : State) : Host.Outcome State Fault Refusal := .next (runVerb 0x040F j eddsaSign s)
/-- SIG.EDDSA_VERIFY (R218). -/
def execSigEddsaVerify (j : Nat) (s : State) : Host.Outcome State Fault Refusal := .next (runVerb 0x0410 j eddsaVerify s)

end Sys2Proof.Machine
end

