-- ==== Sys2Proof/Machine/Places.lean ====
section
/-! DEFINITION. What units and slots jobs hold, what waits for a unit and in which order (R53, R125, R175, R205, R206, R246), and the
yield of a running job. -/

namespace Sys2Proof.Machine

/-! ### Kinds of core -/

/-- A DIG job, which is time-shared (R175). -/
def Job.dig (j : Job) : Bool := j.opcode / 256 == 5

/-- A job that occupies one core of a hash cell or sponge farm: a DIG job or a derivation (R167, R168). -/
def Job.onCore (j : Job) : Bool := j.dig || j.opcode == 0x0203

/-- The kind of unit that a command's own work takes in its region: its verb's kind (R168, R400); a composite that signs its classical
part again takes a number cell alone (R157). -/
def State.workKind (s : State) (c : Cmd) : Option UnitKind :=
  if c.prog.pair.again = some true then some .number else s.kindOf c.job

/-- The job's work has a classical part beside its lattice part (R164), unless one part alone is signed again. -/
def Cmd.twin (c : Cmd) : Bool := c.job.paired && c.prog.pair.again.isNone

/-- Two commands whose work takes a unit of one kind want the same core of it: SHA-2 and Keccak work take different cores of a hash
cell, and whole cells another again (R167, R175). -/
def sameCore (c d : Cmd) : Bool :=
  c.job.onCore == d.job.onCore && (!c.job.onCore || spongeFunc c.job.func == spongeFunc d.job.func)

/-! ### What waits -/

/-- Work that waits in region `r` for a unit: a job the region has acknowledged, or one that yielded (R205). One that waits for slots or
pond units waits in its class (R202, R242). -/
def Cmd.queues (c : Cmd) (r : Nat) : Bool :=
  c.prog.region == some r &&
    ((c.prog.phase == .acked && c.prog.unit.isNone && [none, some .slots, some .pond].contains c.prog.wait) ||
      (c.prog.phase == .yielded && c.prog.wait.isNone))

/-- The kinds of unit that a command's release checks still wait for (R125, R157, R208). -/
def Cmd.checksDue (c : Cmd) : List UnitKind :=
  if c.prog.phase = .checking then
    (if c.prog.check.isNone && !c.prog.pair.latPassed then [c.checkKind] else []) ++
      (if c.job.paired && c.prog.pair.check.isNone && !c.prog.pair.passed then [UnitKind.number] else [])
  else []

/-- A job of class `n` or better waits for the kind of core that `c` has on a unit of kind `k` (R175, R205). -/
def State.jobWaits (s : State) (c : Cmd) (k : UnitKind) (n : Nat) : Bool :=
  s.cmds.any fun d => !(d.job.id == c.job.id) && d.queues c.rgn && s.workKind d == some k && sameCore c d && decide (d.effClass ≤ n)

/-- A release check of a job of class `n` or better waits for a unit of kind `k` of the region (R205, R206). -/
def State.checkWaits (s : State) (r : Nat) (k : UnitKind) (n : Nat) : Bool :=
  s.cmds.any fun d => d.prog.region == some r && d.checksDue.contains k && decide (d.effClass ≤ n)

/-- The kind whose cores a running job's yields serve: Keccak work on a hash cell serves what waits for Keccak cores (R168). -/
def Cmd.sharedKind (c : Cmd) (k : UnitKind) : UnitKind := if c.job.onCore && spongeFunc c.job.func then .sponge else k

/-- The job has held its unit for its quantum while equal or better work waits for it (R175, R205). -/
def State.quantumOver (s : State) (c : Cmd) (quantumUs : Nat) : Bool :=
  decide (c.prog.quantumTick + 1000 * quantumUs ≤ s.tick) && match c.prog.unit with
    | none => false
    | some (k0, _, _) =>
      let k := c.sharedKind k0
      s.jobWaits c k c.effClass || (!c.job.onCore && s.checkWaits c.rgn k c.effClass)

/-- A running job yields (R175, R205): equal or better work waits and its quantum is over, or it is of class 2 and work of class 0 or 1
or a release check waits. Number-cell checks wait in the class of their job (R206). -/
def yieldDue (s : State) (c : Cmd) (quantumUs : Nat) : Bool :=
  match c.prog.unit with
  | none => false
  | some (k0, _, _) =>
    let k := c.sharedKind k0
    s.quantumOver c quantumUs ||
      (c.effClass == 2 && (s.jobWaits c k 1 || (!c.job.onCore && s.checkWaits c.rgn k 2)))

/-- A running job leaves its unit, whose local memory is zero-written, and rejoins its class behind what waits there (R205). -/
def yieldJob (j : Nat) (s : State) : State :=
  match s.cmd? j with
  | none => s
  | some c =>
    let s1 := c.ownUnits.foldl (fun s u => wipeLocal c.rgn u s) s
    settleUnits (s1.modProg j fun p => { p with phase := .yielded, since := s.tick })

/-! ### The order of what waits -/

/-- The rank of waiting work for a unit of kind `k` (R53, R125, R206): its class; a lattice or hash check goes ahead of classes 1 and
2, a number-cell check with the class of its job. -/
def Cmd.rank (c : Cmd) (k : UnitKind) : Nat :=
  if c.prog.phase = .checking ∧ k ≠ .number then 1 else 2 * c.effClass

/-- Waiting work `d` goes before `c` for a unit of kind `k`: a better rank, or earlier in the same. -/
def Cmd.before (d c : Cmd) (k : UnitKind) : Bool :=
  decide (d.rank k < c.rank k) ||
    (d.rank k == c.rank k && (decide (d.prog.since < c.prog.since) ||
      (d.prog.since == c.prog.since && decide (d.job.id < c.job.id))))

end Sys2Proof.Machine
end

