-- ==== Sys2Proof/Machine/Custom.lean ====
section
/-! DEFINITION. Customer packages and routines (R391-R407): the CUST verbs, the micro-sequencer on a customer routine, and
the rows of Kertor words, interrupts and yields. -/

namespace Sys2Proof.Machine

/-! ### Runs -/

/-- The core of unit `n` of a kind of cell in region `r`. -/
def coreOf (r : Nat) (k : UnitKind) (n : Nat) : CoreId := (k.core r n).getD (.hash r n)

/-- The routine on a core. -/
def State.run? (s : State) (c : CoreId) : Option CustRun := s.cust.runs.find? fun x => x.core == c && x.saved.isNone

/-- Take the routine off a core; one that yielded there keeps its state (R399). -/
def State.dropRunOn (s : State) (c : CoreId) : State :=
  { s with cust := { s.cust with runs := s.cust.runs.filter fun x => !(x.core == c && x.saved.isNone) } }

/-- Change the routine on a core. -/
def State.modRun (s : State) (c : CoreId) (f : CustRun → CustRun) : State :=
  { s with cust := { s.cust with runs := s.cust.runs.map fun x => if x.core == c && x.saved.isNone then f x else x } }

/-- The routine's job runs on the core, or a debug session's run (R489). -/
def State.runLive (s : State) (x : CustRun) : Bool :=
  match x.job with
  | none => s.life.session.isSome
  | some j => (s.cmd? j).any fun c => c.prog.phase == .running &&
      c.prog.unit.any fun u => coreOf c.rgn u.1 u.2.2 == x.core

/-- Drop the routine of command `j`. -/
def dropRun (j : Nat) (s : State) : State :=
  { s with cust := { s.cust with runs := s.cust.runs.filter fun x => !(x.job == some j) } }

/-- Change RGN_CUST_ counters of a region. -/
def State.modCust (s : State) (r : Nat) (f : CustReg → CustReg) : State :=
  s.modRegion r fun g => { g with cust := f g.cust }

/-- The core of a routine that ends: local memory zero-written (R397, R404). -/
def wipeCore (c : CoreId) (s : State) : State :=
  let k := s.core c
  s.setCore c { core0 c with cycle := k.cycle }

/-- The outputs of a routine, in operand order (R404). -/
def CustRun.outputs (x : CustRun) : List (Nat × List Byte) :=
  (List.range x.rt.nout).filterMap fun i =>
    let n := 8 + i
    let len := tget (fun _ => 0) x.lens n
    if len = 0 then none else some (n, readBuf (tget (fun _ => []) x.opnds n) 0 len)

/-- End a routine: the core is wiped, and the job ends with `res`, or the TAP shifts out what was released. -/
def endRun (x : CustRun) (res : Res) (s : State) : State :=
  let s1 := wipeCore x.core (s.dropRunOn x.core)
  match x.job with
  | some j => finish j res s1
  | none => emit (.tdo (le 2 res.status.code ++ (res.outs.map (·.2)).flatten)) s1

/-- A Kertor exception, TRAP, BREAK, fifth CALL, watchdog trip or MAX_US ends the job (R403). -/
def abortRun (x : CustRun) (wdog : Bool) (s : State) : State :=
  endRun x (stRes .abortedFault) (s.modCust (x.core.region.getD 0) fun q =>
    { q with errs := inc32 q.errs, wdog := if wdog then inc32 q.wdog else q.wdog })

/-- A fault pattern of the MATCH pair: a RETRY fault of the cell (R177, R394). -/
def matchFault (x : CustRun) (s : State) : State :=
  let r := x.core.region.getD 0
  let s1 := s.modRegion r fun g => { g with dig := { g.dig with matchFault := inc32 g.dig.matchFault } }
  let s2 := wipeCore x.core (s1.dropRunOn x.core)
  match x.core.cell with
  | some (k, n) => raiseRetry { on := cellUnit r k n, cause := .matchPattern } .abortedFault s2
  | none => s2

/-- The control word at an address of the routine's package. -/
def CustRun.word? (x : CustRun) (a : Nat) : Option Nat := x.pkg.word? a

/-- The routine stands at a safe point (R398). -/
def CustRun.atSafe (x : CustRun) (k : Core) : Bool :=
  if x.inRun then (x.word? (k.pc % 0x1000000 / 16)).any cSAFE
  else x.pc == x.rt.entry || (x.word? x.pc).any fun w => cSAFE w || cSEQ w == 5 || cSEQ w == 6

/-- The state a yielding POLL routine saves: SAVE_KIB of local memory, the rest zero (R399). -/
def savedCore (x : CustRun) (k : Core) : Core :=
  let n := 1024 * x.rt.saveKib
  match k.lbase with
  | none => { k with lmem := k.lmem.filter fun e => decide (e.1 < n) }
  | some _ => { k with lbase := none, lmem := (List.range n).filterMap fun a =>
      let b := k.localByte a
      if b = 0 then none else some (a, b) }

/-- Take a YIELD now (R396, R397, R399): a POLL routine keeps its state in its slots; a RESTART routine before its COMMIT
is abandoned and starts again from its entry. -/
def takeYield (x : CustRun) (s : State) : State :=
  match x.job with
  | none => s
  | some j =>
    if x.rt.poll then
      let k := s.core x.core
      yieldJob j (wipeCore x.core (s.modRun x.core fun y =>
        { y with saved := some (savedCore x k), asked := false, ran := y.ran + (s.tick - y.since) }))
    else if x.committed then s
    else wipeCore x.core (dropRun j ((freeSlots j s).modProg j fun p =>
      { p with phase := .acked, unit := none, slots := [], since := s.tick }))

/-- What happens at a safe point a routine has reached: a job of an older generation ends, and a YIELD that was asked for
is taken (R396). -/
def custPoint (c : CoreId) (s : State) : State :=
  match s.run? c with
  | none => s
  | some x =>
    if x.rt.poll && x.atSafe (s.core c) then
      let old := match x.job.bind s.cmd? with
        | some d => !s.current d.job
        | none => false
      if old then endRun x (stRes .staleGeneration) s
      else if x.asked then takeYield x s
      else s.modRun c fun y => { y with mark := (s.core c).cycle }
    else s

/-- Executing a COMMIT word commits the routine (R392, R397); its watchdog span starts there where it is of RESTART (R396). -/
def CustRun.commits (w cycle : Nat) (x : CustRun) : CustRun :=
  if cCOMMIT w && !x.committed then { x with committed := true, mark := if x.rt.poll then x.mark else cycle } else x

/-- The safe-point watchdog is due (R396, R398): more than 4,096 cycles of the core since the mark, or a core that waits for an
interrupt that it does not take. -/
def State.watchDue (s : State) (x : CustRun) : Bool :=
  (x.rt.poll || x.committed) && ((s.core x.core).waiting || decide (x.mark + 4096 < (s.core x.core).cycle))

/-- The routine has run for more than MAX_US, yielded time apart, scaled at EFFICIENT (R398, R400). -/
def State.maxDue (s : State) (x : CustRun) : Bool :=
  decide (1000 * x.rt.maxUs * (if s.efficient (x.core.region.getD 0) then 167 else 100) < 100 * (x.ran + (s.tick - x.since)))

/-! ### The sequencer (R394) -/

/-- The transfer of a SEQ word: operand to local memory or back (R394, R404). -/
def transfer (w : Nat) (x : CustRun) (k : Core) : CustRun × Core :=
  let n := cXOPND w
  let len := 8 * cXLEN w
  let buf := tget (fun _ => []) x.opnds n
  match cXDIR w with
  | 1 => (x, k.writeBytes (8 * cXLOCAL w) (readBuf buf (8 * cXOFF w) len))
  | 2 =>
    let data := (List.range len).map fun i => k.localByte (8 * cXLOCAL w + i)
    let top := 8 * cXOFF w + len
    ({ x with opnds := tins n (writeBuf buf (8 * cXOFF w) data) x.opnds,
              lens := tins n (max top (tget (fun _ => 0) x.lens n)) x.lens }, k)
  | _ => (x, k)

/-- Cycles of a SEQ word: one, for a transfer 8 more and one per 64 bytes, and for a RUN three of entry (R394, R407). -/
def seqCycles (w : Nat) : Nat :=
  1 + (if cXDIR w = 0 then 0 else 8 + (cXLEN w + 7) / 8) + if cSEQ w = 4 then 3 else 0

/-- The core at a RUN (R404): EVEC 0, SLIM, and g2 with the sentinel pushed. -/
def startCore (w : Nat) (k : Core) : Core :=
  let k1 := ((k.wc kEVEC 0).wc kSLIM 0x1F000).wg 2 0x1FFF8
  { k1.writeBytes 0x1FFF8 (le 8 0) with pc := 0x01000000 + 16 * cKENTRY w, cust := true, waiting := false }

/-- COND of a BRANCH (R392, R394), the counter already decremented; none for a fault pattern. -/
def seqCond (w : Nat) (x : CustRun) (k : Core) : Option Bool :=
  match cCOND w with
  | 0 => some true
  | 1 => some (x.exitVal == 0)
  | 2 => some (x.exitVal != 0)
  | 3 => some (x.counter != 0)
  | n =>
    if k.pair.1 = k.pair.2 then none
    else some (if n = 4 then k.pair.1 else k.pair.2)

/-- The status of FAIL_CODE (R392). -/
def failStatus (w : Nat) : Status :=
  match cFAIL w with
  | 0 => .tagFail | 1 => .sigInvalid | 2 => .decodeFail | _ => .paramUnsupported

/-- Carry out the SEQ action of a word after its counter load and transfer. -/
def seqAct (w : Nat) (x : CustRun) (s : State) : State :=
  let c := x.core
  let go (y : CustRun) : State := s.modRun c fun _ => y
  match cSEQ w with
  | 0 => go { x with pc := cNEXT w }
  | 1 =>
    let y := if cCOND w = 3 then { x with counter := (x.counter + 4095) % 4096 } else x
    match seqCond w y (s.core c) with
    | none => matchFault x s
    | some b => go { y with pc := if b then cALT w else cNEXT w }
  | 2 => if 4 ≤ x.stack.length then abortRun x false s else go { x with stack := cNEXT w :: x.stack, pc := cALT w }
  | 3 => match x.stack with
    | [] => abortRun x false s
    | a :: rest => go { x with stack := rest, pc := a }
  | 4 => (s.setCore c (startCore w (s.core c))).modRun c fun _ => { x with inRun := true }
  | 5 =>
    let r := c.region.getD 0
    let s1 := s.modCust r fun q => { q with runs := inc32 q.runs }
    match x.job.bind s1.cmd? with
    | some d => endRun x (outsTo d.job x.outputs) (s1.modProg d.job.id fun p => { p with committed := x.committed })
    | none => endRun x { status := .ok, outs := x.outputs } s1
  | 6 => endRun x (stRes (failStatus w)) s
  | _ => abortRun x false s

/-- A debug session holds the core halted, and lets no word through (R489). -/
def State.frozen (s : State) (c : CoreId) : Bool := s.life.halted.contains c && !s.life.steps.contains c

/-- A core let through one word has run it. -/
def stepped (c : CoreId) (s : State) : State :=
  { s with life := { s.life with steps := s.life.steps.filter fun d => !(d == c) } }

/-- The routine on core `c` executes its SEQ word, where the word is of action `n` (R394). A sequencer that reached a
word that is no SEQ word ends the routine. -/
def seqStep (n : Nat) (c : CoreId) (s : State) : State :=
  match s.run? c with
  | none => s
  | some x =>
    if x.inRun || !s.runLive x || s.frozen c then s
    else stepped c <| match x.word? x.pc with
      | none => abortRun x false s
      | some w =>
        if cTYPE w ≠ 0 then abortRun x false s
        else if cSEQ w ≠ n then s
        else
          let k := s.core c
          let x1 := { x.commits w k.cycle with counter := if cSCEN w then cSCVALUE w else x.counter }
          let (x2, k2) := transfer w x1 k
          custPoint c (seqAct w x2 (s.setCore c { k2 with cycle := k2.cycle + seqCycles w }))

/-! ### Kertor words on a core -/

/-- What the fetch at the core's pc finds (R362, R384, R393): the word the command carries, an exception, or another
word, for which the command does nothing. -/
def kfetch (c : CoreId) (x : Option CustRun) (k : Core) (w : Nat) : Option (Option Nat) :=
  let o := k.pc % 0x1000000
  let inStore := decide (k.pc / 0x1000000 = 1) && decide (o < 16 * 16384)
  if k.pc % 4 ≠ 0 then some (some xMISALIGNED)
  else match x with
    | some y =>
      match if inStore then y.word? (o / 16) else none with
      | none => some (some xACCESS)
      | some cw =>
        if cTYPE cw ≠ 1 then some (some xACCESS)
        else if cInstr cw (o / 4 % 4) = w then some none else none
    | none => if c.isC ∧ ¬ inStore then some (some xACCESS) else some none

/-- A debug session holds region `r` with TRACE_CUSTOM (R489). -/
def State.traces (s : State) (r : Nat) : Bool :=
  s.life.session.any fun d => bit d.rights 3 && bit d.held r

/-- A double fault, or an exception with EVEC 0 on Kertor-C: the core halts and its unit reports a fault (R387, R429). -/
def coreFault (c : CoreId) (s : State) : State :=
  let s1 := s.setCore c { s.core c with halted := true }
  match c with
  | .panCtl r p => raiseContain { on := panUnit r p, cause := .doubleFault } s1
  | .steward r => raiseFence { on := regionUnit r .steward, cause := .doubleFault } s1
  | .skanel => raiseHalt { on := apexUnit .skanelPair 0, cause := .doubleFault } s1
  | _ => match c.cell, c.region with
    | some (k, n), some r => raiseRetry { on := cellUnit r k n, cause := .doubleFault } .abortedFault s1
    | _, _ => s1

/-- An exception of code `e` on core `c` that stands at `k` (R385, R387, R403). -/
def kraise (c : CoreId) (k : Core) (e v : Nat) (s : State) : State :=
  match s.run? c with
  | some x =>
    if k.cust then
      if e = xBREAK ∧ s.traces (c.region.getD 0) then
        let s1 := s.setCore c { k with pc := k.pc + 4 }
        { s1 with life := { s1.life with halted := s1.life.halted ++ [c] } }
      else abortRun x false s
    else if noHandler c k then coreFault c (s.setCore c k)
    else s.setCore c (k.exception c e v)
  | none => if noHandler c k then coreFault c (s.setCore c k) else s.setCore c (k.exception c e v)

/-- The core can run a word: main power, its region there, not halted and not waiting, and a customer routine's core only
inside a RUN of a live routine. -/
def State.coreRuns (s : State) (c : CoreId) : Bool :=
  let k := s.core c
  s.pkg.mode.mainPower && !k.halted && !k.waiting && !s.frozen c &&
    (match c.region with
      | some r => s.enabled r
      | none => !s.mgmt.held) &&
    (!k.cust || (s.run? c).any fun x => x.inRun && s.runLive x)

/-- What a word does to the state once its outcome on the core is known. -/
def kdone (c : CoreId) (pc : Nat) (o : KOut) (s : State) : State :=
  match o with
  | .exc k e v => kraise c k e v s
  | .done k f t =>
    let s1 := s.setCore c ((k.after c pc f t).boundary c)
    if f = .ended then
      custPoint c (s1.modRun c fun x => { x with inRun := false, exitVal := k.rg 1, pc := cNEXT ((x.word? x.pc).getD 0) })
    else custPoint c s1

/-- Core `c` executes the word `w` after `stall` stall cycles, where `w` is of class `cl`, or of none and raises ILLEGAL.
`run` gives its outcome. -/
def kexec (cl : KClass) (c : CoreId) (stall : Nat) (w : U32) (s : State)
    (run : Reach → Nat → Nat → Core → KOut) : State :=
  if s.coreRuns c ∧ (kclass w.toNat = some cl ∨ kclass w.toNat = none) then
    let k0 := s.core c
    let k := ({ k0 with cycle := k0.cycle + stall } : Core).land (k0.cycle + stall)
    let x := if k.cust then s.run? c else none
    match kfetch c x k w.toNat with
    | none => s
    | some (some e) => stepped c (kraise c k e k.pc s)
    | some none =>
      let (fr, s0) := drawNat s
      let s1 := s0.modRun c fun y => if k.cust then y.commits ((y.word? (k.pc % 0x1000000 / 16)).getD 0) k.cycle else y
      stepped c <| kdone c k.pc (if kclass w.toNat = none then illegal k else run (x.map (·.pkg.reach)) fr s.free k) s1
  else s

/-- The outcome of a word that is no repeat prefix. -/
def plain (c : CoreId) (w : U32) : Reach → Nat → Nat → Core → KOut := fun rch fr n k => kword c rch w.toNat fr n k

/-! ### The CUST verbs -/

/-- CUST.LOAD (R401): its checks; the package takes effect at DONE (R402). -/
def custLoad (c : Cmd) (s : State) : State × Option Res :=
  let j := c.job
  let b := j.operand 0
  let bad (st : Status) : State × Option Res := (s, some (stRes st))
  if j.param.toNat ≠ 0 ∨ ¬ j.args.isEmpty then bad .malformed
  else if ¬ familyOn s 0x10 then bad .algDisabled
  else match parsePkg b with
    | none => bad .malformed
    | some p =>
      let n := pkgBody b
      if fld b 8 8 ≠ s.pkg.fuses.unit ∨ slice b 0x10 48 ≠ stdN 48 "SHA3-384" [identityPub s] ∨
          ¬ authorityOk s "EXM-CUST-1" (fld b 0x4A 1) (b.take n) (b.drop n) then bad .authFail
      else if s.lcState ≠ 3 ∧ s.lcState ≠ 4 then bad .lifecycle
      else
        let others := (s.cust.pkgs.filter fun e => !(e.2.id == p.id)).map (·.2)
        if 8 ≤ others.length then bad .quota
        else match firstRule others p with
          | some (rule, w) => (s, some { status := .paramUnsupported, resp := le 2 w ++ le 1 rule ++ zeros 1 })
          | none =>
            (s, some okRes)

/-- A checked package takes its place in the apex and in the pans of every IN_SERVICE region: that of the package of its PKG_ID, or the
lowest free one (R401). -/
def placePkg (p : CustPkg) (s : State) : State :=
  let k := match s.cust.pkgs.find? fun e => e.2.id == p.id with
    | some e => e.1
    | none => ((List.range 8).find? fun k => (tfind s.cust.pkgs k).isNone).getD 0
  let s1 := { s with cust := { s.cust with pkgs := tins k p s.cust.pkgs } }
  regionNums.foldl (fun s r => s.modCust r fun q =>
    { q with held := (q.held.filter fun x => x != k) ++ (if s.inService r then [k] else []) }) s1

/-- The package in place `k` is gone (R402). -/
def clearPlace (k : Nat) (s : State) : State :=
  let s1 := { s with cust := { s.cust with pkgs := tdel s.cust.pkgs k } }
  regionNums.foldl (fun s r => s.modCust r fun q => { q with held := q.held.filter fun x => x != k }) s1

/-- CUST.UNLOAD (R402): its checks; the package goes at DONE. -/
def custUnload (c : Cmd) (s : State) : State × Option Res :=
  let j := c.job
  orBad [check (j.param.toNat == 0 && j.args.length == 4 && zero? j.args 2 2) .malformed,
      check (familyOn s 0x10) .algDisabled] s fun s =>
    match s.cust.pkgs.find? fun e => e.2.id == fld j.args 0 2 with
    | none => (s, some (stRes .paramUnsupported))
    | some _ => (s, some okRes)

/-- At the DONE of a CUST.LOAD or CUST.UNLOAD that was checked and found good, the change is made (R402). -/
def custSettled (c : Cmd) (r : Res) (s : State) : State :=
  if r.status ≠ .ok then s
  else if c.job.opcode = 0x1002 then
    match parsePkg (c.job.operand 0) with
    | some p => commit c.job.id (placePkg p s)
    | none => s
  else if c.job.opcode = 0x1003 then
    match s.cust.pkgs.find? fun e => e.2.id == fld c.job.args 0 2 with
    | some e => commit c.job.id (clearPlace e.1 s)
    | none => s
  else s

/-- A record of CUST.LIST (R402). -/
def CustPkg.record (p : CustPkg) : List Byte :=
  le 2 p.id ++ le 2 p.version ++ le 2 p.base ++ le 2 p.words.length ++ le 2 p.routines.length ++ zeros 6 ++ sha3 p.bytes

/-- CUST.LIST (R402). -/
def custList (c : Cmd) (s : State) : State × Option Res :=
  orBad [check (c.job.param.toNat == 0 && c.job.args.isEmpty) .malformed, check (familyOn s 0x10) .algDisabled] s fun s =>
    (s, some { status := .ok, resp := (s.cust.pkgs.map fun e => e.2.record).flatten })

/-- The operands of a CUST.RUN stand within the routine's NIN and NOUT (R403 step 5). -/
def custOperands (r : Routine) (j : Job) : Bool :=
  j.frags.all fun f => match f.kind with
    | .output => decide (8 ≤ f.operand) && decide (f.operand ≤ 7 + r.nout)
    | _ => decide (f.operand < r.nin)

/-- Put a routine on the core of a job (R404): local memory zero-written, the arguments at 0, inputs in the operand
slots. -/
def startRun (job : Option Nat) (core : CoreId) (p : CustPkg) (r : Routine) (args : List Byte) (ins : Nat → List Byte)
    (s : State) : State :=
  let x : CustRun :=
    { mark := (s.core core).cycle, since := s.tick, job := job, core := core, pkg := p, rt := r, pc := r.entry,
      opnds := (List.range r.nin).filterMap fun n =>
        if (ins n).isEmpty then none else some (n, writeBuf [] 0 (ins n)) }
  let k := s.core core
  let s1 := (s.dropRunOn core).setCore core (({ core0 core with cycle := k.cycle } : Core).writeBytes 0 args)
  { s1 with cust := { s1.cust with runs := s1.cust.runs ++ [x] } }

/-- CUST.RUN (R403): the checks, then the routine starts at its entry; it ends by its own words. -/
def custRun (c : Cmd) (s : State) : State × Option Res :=
  let j := c.job
  if s.cust.runs.any fun x => x.job == some j.id then (s, none)
  else
    let n := bits j.param.toNat 9 0
    orBad [check (j.param.toNat / 1024 == 0 && decide (768 ≤ n) && decide (j.args.length ≤ 64) && j.handle == nullHandle)
             .malformed,
           check (familyOn s 0x10) .algDisabled, check (s.routine? n).isSome .paramUnsupported] s fun s =>
      match s.routine? n with
      | none => (s, some (stRes .paramUnsupported))
      | some (_, p, r) =>
        orBad [check (bit p.instMask j.inst) .notPermitted, check (custOperands r j) .badFragment,
               check ((List.range r.nin).all fun k => decide ((j.operand k).length ≤ 262144)) .paramUnsupported,
               slotQuota s c] s fun s =>
          match c.prog.unit with
          | none => (s, none)
          | some (k, _, u) => (startRun (some j.id) (coreOf c.rgn k u) p r j.args j.operand s, none)

/-- The shape of CUST.RUN: inputs 0 to 7, outputs 8 to 14; operand 15 is never supplied (R403). -/
def shapeCust : ShapeFn := fun _ _ _ =>
  { ins := [0, 1, 2, 3, 4, 5, 6, 7, 15], outs := [(8, none), (9, none), (10, none), (11, none), (12, none), (13, none), (14, none),
      (15, none)], body := true }

/-- CUST.RUN (R403). -/
def execCustRun (j : Nat) (s : State) : Host.Outcome State Fault Refusal := .next (runVerb 0x1001 j custRun s)
/-- CUST.LOAD (R401). -/
def execCustLoad (j : Nat) (s : State) : Host.Outcome State Fault Refusal := .next (runVerb 0x1002 j custLoad s)
/-- CUST.UNLOAD (R402). -/
def execCustUnload (j : Nat) (s : State) : Host.Outcome State Fault Refusal := .next (runVerb 0x1003 j custUnload s)
/-- CUST.LIST (R402). -/
def execCustList (j : Nat) (s : State) : Host.Outcome State Fault Refusal := .next (runVerb 0x1004 j custList s)

/-! ### Rows of routines -/

/-- CUST_PARTITION_RELOAD (R406): the partition of pan `p` of region `r` has been rewritten. -/
def execCustPartitionReload (r p : Nat) (s : State) : Host.Outcome State Fault Refusal :=
  .next (if s.enabled r && decide (p < 4) then
    s.modPan r p fun x => { x with cs := { x.cs with reloading := false } } else s)

/-- CUST_YIELD (R396, R399): a YIELD for the routine on core `c`, where its job must yield: taken at once at a safe point
or by a RESTART routine before its COMMIT, kept for the next safe point of a POLL routine, and deferred to END after a
COMMIT. -/
def execCustYield (c : CoreId) (s : State) : Host.Outcome State Fault Refusal :=
  .next (
    match s.run? c with
    | none => s
    | some x =>
      let due := match x.job.bind s.cmd? with
        | some d => yieldDue s d (s.region d.rgn).cust.quantumUs
        | none => false
      if !due || !s.runLive x then s
      else if !x.rt.poll || x.atSafe (s.core c) then takeYield x s
      else s.modRun c fun y => { y with asked := true })

/-- SAFE_POINT_WATCHDOG_TRIP (R398, R403): the safe-point watchdog, or MAX_US where `maxUs`, ends the routine on core
`c` where it is due. -/
def execSafePointWatchdogTrip (c : CoreId) (maxUs : Bool) (s : State) : Host.Outcome State Fault Refusal :=
  .next (
    match s.run? c with
    | none => s
    | some x => if !s.runLive x || !(if maxUs then s.maxDue x else s.watchDue x) then s
      else abortRun x (!maxUs) s)

/-- SEQ_STEP (R394). -/
def execSeqStep (c : CoreId) (s : State) : Host.Outcome State Fault Refusal := .next (seqStep 0 c s)
/-- SEQ_BRANCH (R394). -/
def execSeqBranch (c : CoreId) (s : State) : Host.Outcome State Fault Refusal := .next (seqStep 1 c s)
/-- SEQ_CALL (R394). -/
def execSeqCall (c : CoreId) (s : State) : Host.Outcome State Fault Refusal := .next (seqStep 2 c s)
/-- SEQ_RET (R394). -/
def execSeqRet (c : CoreId) (s : State) : Host.Outcome State Fault Refusal := .next (seqStep 3 c s)
/-- SEQ_RUN (R394). -/
def execSeqRun (c : CoreId) (s : State) : Host.Outcome State Fault Refusal := .next (seqStep 4 c s)
/-- SEQ_END (R394). -/
def execSeqEnd (c : CoreId) (s : State) : Host.Outcome State Fault Refusal := .next (seqStep 5 c s)
/-- SEQ_FAIL (R394). -/
def execSeqFail (c : CoreId) (s : State) : Host.Outcome State Fault Refusal := .next (seqStep 6 c s)

/-! ### Rows of Kertor words -/

/-- An interrupt request of source `n` reaches core `c`; then the lowest pending source is taken where R386 allows it. A
customer routine takes none through EVEC. -/
def execKInterruptEntry (c : CoreId) (n : Nat) (s : State) : Host.Outcome State Fault Refusal :=
  .next (
    let k := s.core c
    let ok := if c.isC then decide (n < 2) else decide (n < 32)
    if !ok || k.cust || k.halted || !s.pkg.mode.mainPower then s
    else
      let k1 := { k with pending := if k.pending.contains n then k.pending else k.pending ++ [n], waiting := false }
      s.setCore c (k1.interrupt c))

/-- ALU_OP (R388). -/
def execKAluOp (c : CoreId) (stall : Nat) (w : U32) (s : State) : Host.Outcome State Fault Refusal :=
  .next (kexec .alu c stall w s (plain c w))
/-- MUL_U (R374). -/
def execKMulU (c : CoreId) (stall : Nat) (w : U32) (s : State) : Host.Outcome State Fault Refusal :=
  .next (kexec .mulU c stall w s (plain c w))
/-- MUL_S (R374). -/
def execKMulS (c : CoreId) (stall : Nat) (w : U32) (s : State) : Host.Outcome State Fault Refusal :=
  .next (kexec .mulS c stall w s (plain c w))
/-- MAC_U (R374). -/
def execKMacU (c : CoreId) (stall : Nat) (w : U32) (s : State) : Host.Outcome State Fault Refusal :=
  .next (kexec .macU c stall w s (plain c w))
/-- LD (R388). -/
def execKLd (c : CoreId) (stall : Nat) (w : U32) (s : State) : Host.Outcome State Fault Refusal :=
  .next (kexec .ld c stall w s (plain c w))
/-- ST (R388). -/
def execKSt (c : CoreId) (stall : Nat) (w : U32) (s : State) : Host.Outcome State Fault Refusal :=
  .next (kexec .st c stall w s (plain c w))
/-- LDA (R377). -/
def execKLda (c : CoreId) (stall : Nat) (w : U32) (s : State) : Host.Outcome State Fault Refusal :=
  .next (kexec .lda c stall w s (plain c w))
/-- STA (R377). -/
def execKSta (c : CoreId) (stall : Nat) (w : U32) (s : State) : Host.Outcome State Fault Refusal :=
  .next (kexec .sta c stall w s (plain c w))
/-- BRANCH (R388). -/
def execKBranch (c : CoreId) (stall : Nat) (w : U32) (s : State) : Host.Outcome State Fault Refusal :=
  .next (kexec .branch c stall w s (plain c w))
/-- JMP (R388). -/
def execKJmp (c : CoreId) (stall : Nat) (w : U32) (s : State) : Host.Outcome State Fault Refusal :=
  .next (kexec .jmp c stall w s (plain c w))
/-- CALL (R383). -/
def execKCall (c : CoreId) (stall : Nat) (w : U32) (s : State) : Host.Outcome State Fault Refusal :=
  .next (kexec .call c stall w s (plain c w))
/-- JMPR (R388). -/
def execKJmpr (c : CoreId) (stall : Nat) (w : U32) (s : State) : Host.Outcome State Fault Refusal :=
  .next (kexec .jmpr c stall w s (plain c w))
/-- CALLR (R383). -/
def execKCallr (c : CoreId) (stall : Nat) (w : U32) (s : State) : Host.Outcome State Fault Refusal :=
  .next (kexec .callr c stall w s (plain c w))
/-- RET (R383). -/
def execKRet (c : CoreId) (stall : Nat) (w : U32) (s : State) : Host.Outcome State Fault Refusal :=
  .next (kexec .ret c stall w s (plain c w))
/-- LOOP (R379). -/
def execKLoop (c : CoreId) (stall : Nat) (w : U32) (s : State) : Host.Outcome State Fault Refusal :=
  .next (kexec .loop c stall w s (plain c w))
/-- REP: `w2` is the word behind the prefix (R381). -/
def execKRep (c : CoreId) (stall : Nat) (w w2 : U32) (s : State) : Host.Outcome State Fault Refusal :=
  .next (kexec .rep c stall w s fun _ fr n k => kwRep c w.toNat w2.toNat fr n k)
/-- REPI: one repetition of the word `w2` behind the prefix (R381). -/
def execKRepi (c : CoreId) (stall : Nat) (w w2 : U32) (s : State) : Host.Outcome State Fault Refusal :=
  .next (kexec .repi c stall w s fun _ fr n k => kwRepi c w.toNat w2.toNat fr n k)
/-- FP_OP (R367). -/
def execKFpOp (c : CoreId) (stall : Nat) (w : U32) (s : State) : Host.Outcome State Fault Refusal :=
  .next (kexec .fp c stall w s (plain c w))
/-- PACKED_OP (R388). -/
def execKPackedOp (c : CoreId) (stall : Nat) (w : U32) (s : State) : Host.Outcome State Fault Refusal :=
  .next (kexec .packed c stall w s (plain c w))
/-- FLD_D (R388). -/
def execKFldD (c : CoreId) (stall : Nat) (w : U32) (s : State) : Host.Outcome State Fault Refusal :=
  .next (kexec .fld c stall w s (plain c w))
/-- FST_D (R388). -/
def execKFstD (c : CoreId) (stall : Nat) (w : U32) (s : State) : Host.Outcome State Fault Refusal :=
  .next (kexec .fst c stall w s (plain c w))
/-- SETVL (R370). -/
def execKSetvl (c : CoreId) (stall : Nat) (w : U32) (s : State) : Host.Outcome State Fault Refusal :=
  .next (kexec .setvl c stall w s (plain c w))
/-- VECTOR_ARITH (R388). -/
def execKVectorArith (c : CoreId) (stall : Nat) (w : U32) (s : State) : Host.Outcome State Fault Refusal :=
  .next (kexec .vArith c stall w s (plain c w))
/-- VLD (R371). -/
def execKVld (c : CoreId) (stall : Nat) (w : U32) (s : State) : Host.Outcome State Fault Refusal :=
  .next (kexec .vld c stall w s (plain c w))
/-- VLD_FIRST_FAULT (R372). -/
def execKVldFirstFault (c : CoreId) (stall : Nat) (w : U32) (s : State) : Host.Outcome State Fault Refusal :=
  .next (kexec .vldFirst c stall w s (plain c w))
/-- VST (R371). -/
def execKVst (c : CoreId) (stall : Nat) (w : U32) (s : State) : Host.Outcome State Fault Refusal :=
  .next (kexec .vst c stall w s (plain c w))
/-- VECTOR_MOVE (R388). -/
def execKVectorMove (c : CoreId) (stall : Nat) (w : U32) (s : State) : Host.Outcome State Fault Refusal :=
  .next (kexec .vMove c stall w s (plain c w))
/-- DATAPATH_COMMAND (R405). -/
def execKDatapathCommand (c : CoreId) (stall : Nat) (w : U32) (s : State) : Host.Outcome State Fault Refusal :=
  .next (kexec .datapath c stall w s (plain c w))
/-- CTLRD (R369). -/
def execKCtlrd (c : CoreId) (stall : Nat) (w : U32) (s : State) : Host.Outcome State Fault Refusal :=
  .next (kexec .ctlrd c stall w s (plain c w))
/-- CTLWR (R369). -/
def execKCtlwr (c : CoreId) (stall : Nat) (w : U32) (s : State) : Host.Outcome State Fault Refusal :=
  .next (kexec .ctlwr c stall w s (plain c w))
/-- CTLSET (R369). -/
def execKCtlset (c : CoreId) (stall : Nat) (w : U32) (s : State) : Host.Outcome State Fault Refusal :=
  .next (kexec .ctlset c stall w s (plain c w))
/-- CTLCLR (R369). -/
def execKCtlclr (c : CoreId) (stall : Nat) (w : U32) (s : State) : Host.Outcome State Fault Refusal :=
  .next (kexec .ctlclr c stall w s (plain c w))
/-- FENCE (R365). -/
def execKFence (c : CoreId) (stall : Nat) (w : U32) (s : State) : Host.Outcome State Fault Refusal :=
  .next (kexec .fence c stall w s (plain c w))
/-- WFI (R388). -/
def execKWfi (c : CoreId) (stall : Nat) (w : U32) (s : State) : Host.Outcome State Fault Refusal :=
  .next (kexec .wfi c stall w s (plain c w))
/-- RETE (R385). -/
def execKRete (c : CoreId) (stall : Nat) (w : U32) (s : State) : Host.Outcome State Fault Refusal :=
  .next (kexec .rete c stall w s (plain c w))
/-- TRAP (R385). -/
def execKTrap (c : CoreId) (stall : Nat) (w : U32) (s : State) : Host.Outcome State Fault Refusal :=
  .next (kexec .trap c stall w s (plain c w))
/-- BREAK (R384). -/
def execKBreak (c : CoreId) (stall : Nat) (w : U32) (s : State) : Host.Outcome State Fault Refusal :=
  .next (kexec .break c stall w s (plain c w))
/-- PAIRED_WORD (R364). -/
def execKPairedWord (c : CoreId) (stall : Nat) (w : U32) (s : State) : Host.Outcome State Fault Refusal :=
  .next (kexec .paired c stall w s (plain c w))

end Sys2Proof.Machine
end

