-- ==== Sys2Proof/Machine/Images.lean ====
section
/-! DEFINITION. Firmware images in boot flash: banks, the image header, validity, and what runs (R460-R465). -/

namespace Sys2Proof.Machine

/-- Change the management subsystem. -/
def State.modMgmt (s : State) (f : Mgmt → Mgmt) : State := { s with mgmt := f s.mgmt }

/-- Image kind `k`, 1 to 3 (R462). -/
def State.fw (s : State) (k : Nat) : FwKind := tget (fun _ => ({} : FwKind)) s.mgmt.kinds k

/-- Change image kind `k`. -/
def State.modFw (s : State) (k : Nat) (f : FwKind → FwKind) : State :=
  s.modMgmt fun m => { m with kinds := tset (fun _ => ({} : FwKind)) m.kinds k (f (tget (fun _ => ({} : FwKind)) m.kinds k)) }

/-- The active bank, or the other one. -/
def FwKind.bank (x : FwKind) (other : Bool) : Bank := if x.active != other then x.bankB else x.bankA

/-- Change the active bank, or the other one. -/
def FwKind.modBank (x : FwKind) (other : Bool) (f : Bank → Bank) : FwKind :=
  if x.active != other then { x with bankB := f x.bankB } else { x with bankA := f x.bankA }

/-- Size of a bank (R460). -/
def bankSize (k : Nat) : Nat := if k = 1 then 0x400000 else if k = 2 then 0x800000 else 0x200000

/-- The longest body (R462). -/
def bodyMax (k : Nat) : Nat := if k = 1 then 1572864 else if k = 2 then 8380416 else 2088960

/-- SIG_ALG of an image (R462). -/
def imgAlg (b : List Byte) : Nat := fld b 9 1
/-- ROLLBACK of an image (R462). -/
def imgRollback (b : List Byte) : Nat := fld b 0x0A 2
/-- BUILD of an image (R462). -/
def imgBuild (b : List Byte) : Nat := fld b 0x0C 4
/-- Header and body of an image, which its signature covers (R462, R463). -/
def imgSigned (b : List Byte) : List Byte := slice b 0 (128 + fld b 0x10 4)
/-- The measurement of an image (R462). -/
def imgMeas (b : List Byte) : List Byte := stdN 48 "SHA3-384" [imgSigned b]

/-- The form of an image: MAGIC, the zero fields, BODY_LEN, ROLLBACK, BODY_HASH (R462, R463). -/
def imgForm (k : Nat) (b : List Byte) : Bool :=
  slice b 0 8 == ascii "EXMIMG01" && zero? b 0x15 3 && zero? b 0x48 56 && decide (fld b 0x10 4 ≤ bodyMax k) &&
    decide (imgRollback b ≤ 64) && slice b 0x18 48 == stdN 48 "SHA3-384" [slice b 128 (fld b 0x10 4)]

/-- The signature of an image, under the key whose hash the OTP holds, by an algorithm of the image policy (R463). -/
def imgSigOk (s : State) (b : List Byte) : Bool :=
  ((imgAlg b == 0x13 && bit s.life.otp.imgPolicy 0) || (imgAlg b == 0x61 && bit s.life.otp.imgPolicy 1)) &&
    Config.stdOk "image signature" [s.life.otp.vendorImg, le 1 (imgAlg b), ascii "EXM-IMAGE-1", imgSigned b,
      b.drop (128 + fld b 0x10 4)]

/-- An HSS signature is at most 8,064 bytes (R462). -/
def imgSigFits (b : List Byte) : Bool :=
  imgAlg b != 0x61 || Config.stdOk "HSS signature of at most 8064 bytes" [b.drop (128 + fld b 0x10 4)]

/-- The status of MGMT.FW_VERIFY on an image of kind `k` (R462, R463, R466). -/
def imgCheck (s : State) (k : Nat) (b : List Byte) : Option Status :=
  if fld b 8 1 ≠ k ∨ s.pkg.fuses.revision < fld b 0x14 1 ∨ ¬ imgSigFits b then some .paramUnsupported
  else if ¬ imgForm k b ∨ ¬ imgSigOk s b then some .authFail
  else if imgRollback b < (s.fw k).counter then some .counter
  else none

/-- The image that region `r` runs, of kind 2 or 3. -/
def State.regionImage (s : State) (r k : Nat) : List Byte :=
  if k = 2 then (s.region r).svc.image2 else (s.region r).svc.image3

/-- The active image runs everywhere its kind runs (R464). -/
def State.runsEverywhere (s : State) (k : Nat) : Bool :=
  let a := ((s.fw k).bank false).data
  if k = 1 then s.mgmt.running && s.mgmt.image == a
  else regionNums.all fun r => !s.enabled r || (s.region r).svc.state == .failed ||
    (s.inService r && s.regionImage r k == a)

/-- Some unit runs the non-active bank after a fall-back (R465, R466, R473). -/
def State.fellBack (s : State) (k : Nat) : Bool :=
  (s.fw k).fallback || (k != 1 && regionNums.any fun r => s.enabled r && (s.region r).svc.fallback.contains k)

/-- A region or the management pair runs the inactive bank after a fall-back (R466). -/
def State.runsOther (s : State) (k : Nat) : Bool :=
  let b := ((s.fw k).bank true).data
  if k = 1 then (s.fw 1).fallback && s.mgmt.image == b
  else regionNums.any fun r => s.enabled r && (s.region r).svc.fallback.contains k && s.regionImage r k == b

/-- TRIAL: the active bank is not yet committed, or for region images not yet rolled out (R467, R473). -/
def State.trial (s : State) (k : Nat) : Bool := (s.fw k).trial && (k == 1 || !s.runsEverywhere k)

/-- MGT_FW_STATE of kind `k` (R473). -/
def State.fwState (s : State) (k : Nat) : Nat :=
  let x := s.fw k
  flag x.active 0 + flag x.bankA.valid 1 + flag x.bankB.valid 2 + flag (s.trial k) 3 + flag (s.fellBack k) 4 +
    imgRollback (x.bank false).data % 128 * 256 + x.counter % 128 * 65536

/-- The lowest of numbers, 0 for none. -/
def lowest (l : List Nat) : Nat := (l.foldl (fun a b => match a with
  | none => some b
  | some a => some (min a b)) none).getD 0

/-- Region `r` runs its region image: it is in service or drains (R44, R415). -/
def State.runsImage (s : State) (r : Nat) : Bool := s.inService r || (s.enabled r && (s.region r).svc.state == .draining)

/-- MGT_FW_BUILD of kind `k`: the build that runs, the lowest where regions differ (R473, R44). -/
def State.fwBuild (s : State) (k : Nat) : Nat :=
  if k = 1 then imgBuild s.mgmt.image
  else lowest ((regionNums.filter s.runsImage).map fun r => imgBuild (s.regionImage r k))

end Sys2Proof.Machine
end

