-- ==== Sys2Proof/Machine/Regions.lean ====
section
/-! DEFINITION. Regions in service (R408-R426, R526, R536): pan power states, operating points and the setpoint link, the
power ceiling, warm cells, the region states, die links, the rake, aging and thermal limits. -/

namespace Sys2Proof.Machine

/-! ### Ends of requests that wait for a region -/

/-- A region becomes FAILED: out by fault, powered down, and the REGN.RETURN that waits for it ends (R415, R420). -/
def failRegion (r : Nat) (s : State) : State :=
  let s1 := s.modRegion r fun g0 =>
    let g := wipeRegion g0
    { g with svc := { g.svc with outByCmd := false, outByFault := true }, rng := { g.rng with state := .failed } }
  endWaiting 0x0B02 r (stRes .abortedFault) (setRegionState r .failed false s1)

/-- A region of a debug session, or of one that waits to open (R489). -/
def State.debugHeld (s : State) (r : Nat) : Bool :=
  s.life.session.any (fun d => bit d.held r) || s.life.opening.any fun d => bit d.session.held r

/-- Start the return of region `r`: TESTING, by quick or full BIST (R415). -/
def startReturn (r : Nat) (full : Bool) (s : State) : State :=
  setRegionState r .testing false (s.modRegion r fun g => { g with path := { g.path with full := full } })

/-- What follows DIKED of a region that is out by fault, once its SRAM is wiped (R415, R536): with AUTO_REPAIR set and
fewer than three earlier fences in the hour before the last one it is TESTING, otherwise FAILED; a region fenced for
OVERTEMP waits until its sensors read below 100 °C. -/
def repair (r : Nat) (s : State) : State :=
  let g := s.region r
  if g.svc.state == .diked && g.svc.outByFault && g.path.wiped && !s.debugHeld r && !s.power.hot.contains r then
    match g.svc.fenceTicks.getLast? with
    | none => s
    | some t =>
      if g.svc.cfg.autoRepair && decide ((fencesInHour t g.svc.fenceTicks.dropLast).length < 3) then
        startReturn r g.svc.cfg.autoFull s
      else failRegion r s
  else s

/-! ### REGN verbs (R420) -/

/-- REGN.TAKE_OUT (R420): DRAINING; it ends when the region is DIKED. -/
def regnTakeOut (c : Cmd) (s : State) : State × Option Res :=
  let j := c.job
  let r := fld j.args 0 1
  let ms := fld j.args 2 2
  orBad [paramZero j 0xFFFFFFFF, bodyIs j 4, check (fld j.args 1 1 < 2) .malformed, famEnabled s j,
      check (s.enabled r && decide (1 ≤ ms) && decide (ms ≤ 60000)) .paramUnsupported,
      check ((s.region r).svc.state == .inService) .lifecycle,
      check (bit (fld j.args 1 1) 0 || regionNums.any fun q => q != r && s.inService q) .deferred] s fun s =>
    let s1 := (commit j.id s).modRegion r fun g =>
      { g with svc := { g.svc with outByCmd := true }, path := { g.path with drainBy := s.tick + ms * 1000000 } }
    (setRegionState r .draining false (s1.modProg j.id fun p => { p with phase := .running }), none)

/-- REGN.RETURN (R420): TESTING; it ends when the region is IN_SERVICE or FAILED. A region whose SRAM is still being wiped
starts when that has ended. -/
def regnReturn (c : Cmd) (s : State) : State × Option Res :=
  let j := c.job
  let r := fld j.args 0 1
  let st := (s.region r).svc.state
  orBad [paramZero j 0xFFFFFFFF, bodyIs j 2, famEnabled s j,
      check (s.enabled r && decide (fld j.args 1 1 < 2)) .paramUnsupported,
      check ((st == .diked || st == .failed) && !s.debugHeld r) .lifecycle] s fun s =>
    if (s.region r).path.wiped then
      (startReturn r (fld j.args 1 1 == 1) ((commit j.id s).modProg j.id fun p => { p with phase := .running }), none)
    else (s, none)

/-- Cells of a kind that the reservations of other instances than `i` take in a region (R413). -/
def warmOthers (l : List Warm) (i : Nat) (f : Warm → Nat) : Nat := ((l.filter fun w => !(w.inst == i)).map f).sum

/-- REGN.RESERVE_WARM (R413): limits are counted from acceptance; a count of 0 releases. Cells are taken at once where the region is
IN_SERVICE and the instance exists. -/
def regnReserveWarm (c : Cmd) (s : State) : State × Option Res :=
  let j := c.job
  let i := fld j.args 0 1
  let r := fld j.args 1 1
  let w : Warm := { inst := i, lattice := fld j.args 2 1, number := fld j.args 3 1 }
  let l := (s.region r).svc.warm
  orBad [paramZero j 0xFFFFFFFF, bodyIs j 4, famEnabled s j,
      check (s.enabled r && decide (w.lattice ≤ 8) && decide (w.number ≤ 2)) .paramUnsupported,
      check (decide (warmOthers l i (·.lattice) + w.lattice ≤ 16) && decide (warmOthers l i (·.number) + w.number ≤ 4))
        .quota] s fun s =>
    let rest := l.filter fun x => !(x.inst == i)
    let s1 := (commit j.id s).modSvc r fun v =>
      { v with warm := rest ++ if w.lattice = 0 ∧ w.number = 0 then [] else [w] }
    let on := s.inService r && s.present i
    let s2 := takeWarmKind r .number i (if on then w.number else 0) (takeWarmKind r .lattice i (if on then w.lattice else 0) s1)
    (settleUnits (if w.lattice = 0 ∧ w.number = 0 then s2 else takeWarm r s2), some okRes)

/-- REGN.TAKE_OUT (R420). -/
def execRegnTakeOut (j : Nat) (s : State) : Host.Outcome State Fault Refusal := .next (runVerb 0x0B01 j regnTakeOut s)
/-- REGN.RETURN (R420). -/
def execRegnReturn (j : Nat) (s : State) : Host.Outcome State Fault Refusal := .next (runVerb 0x0B02 j regnReturn s)
/-- REGN.RESERVE_WARM (R413). -/
def execRegnReserveWarm (j : Nat) (s : State) : Host.Outcome State Fault Refusal :=
  .next (runVerb 0x0B03 j regnReserveWarm s)

/-! ### The way out of service (R415-R417) -/

/-- A drained region is diked, and what waits for it ends (R415, R417, R420). -/
def dikeDrained (r : Nat) (s : State) : State :=
  openIfDue (endWaiting 0x0B01 r okRes (uncheck r (unsend r (setRegionState r .diked false (dike r s)))))

/-- REGION_DRAINED (R415): DRAINING with no acknowledged job left. -/
def execRegionDrained (r : Nat) (s : State) : Host.Outcome State Fault Refusal :=
  .next (
    if s.enabled r && (s.region r).svc.state == .draining && !(s.cmds.any (Cmd.ackedBy r)) then dikeDrained r s else s)

/-- DRAIN_TIMEOUT (R416): DRAIN_MS has passed; stateless jobs are re-issued, and the region is diked once no STATEFUL job
runs on. -/
def execDrainTimeout (r : Nat) (s : State) : Host.Outcome State Fault Refusal :=
  .next (
    if s.enabled r && (s.region r).svc.state == .draining && decide ((s.region r).path.drainBy ≤ s.tick) then
      let js := jobsOn s fun c => c.ackedBy r && !(c.job.has (·.stateful))
      let s1 := js.foldl (fun s j => loseJob j s) s
      if s1.cmds.any (Cmd.ackedBy r) then s1 else dikeDrained r s1
    else s)

/-- A pan goes DORMANT (R408, R417): slot memory and local memory zero-written, the mask-stream seed discarded. -/
def dormant (r p : Nat) (s : State) : State :=
  { s with cores := s.cores.filter fun e => !(e.1.region == some r && e.1.pan == some p) }.modPan r p fun x =>
    let w := wipePan x
    { w with svc := { w.svc with pwr := .dormant, since := s.tick, waking := none, held := false } }

/-- The rest of a diked region's SRAM is zero-written: its pans go DORMANT, reservations of cells are dropped (R417). -/
def wipeSram (r : Nat) (s : State) : State :=
  (panNums.foldl (fun s p => dormant r p s) s).modRegion r fun g => { g with
    path := { g.path with wiped := true },
    latCells := g.latCells.map fun e => (e.1, { e.2 with warm := none }),
    numCells := g.numCells.map fun e => (e.1, { e.2 with warm := none }) }

/-- REGION_SRAM_WIPED (R417, R415). -/
def execRegionSramWiped (r : Nat) (s : State) : Host.Outcome State Fault Refusal :=
  .next (
    if s.enabled r && (s.region r).svc.state == .diked && !(s.region r).path.wiped then repair r (wipeSram r s) else s)

/-! ### The way back (R415, R421, R422) -/

/-- REGION_TESTING_DONE (R415): a pass returns quarantined units and lanes to service and starts LOADING. -/
def execRegionTestingDone (r : Nat) (pass : Bool) (s : State) : Host.Outcome State Fault Refusal :=
  .next (
    if s.enabled r && (s.region r).svc.state == .testing then
      if !pass then failRegion r s
      else
        let s1 := s.modFaults fun f => { f with quarantined := f.quarantined.filter fun u => !(u.region == some r) }
        let s2 := s1.modRegion r fun g =>
          { g with svc := { g.svc with mod0 := 2, mod1 := 2, withheld := [] }, rng := { wipeRng g.rng with lasting := false } }
        setRegionState r .loading false (dropCores r s2)
    else s)

/-- What region `r` loads of kind `k`: its active image, or that of the other bank where the active one does not verify
(R422). -/
def State.loads (s : State) (k : Nat) (activeOk : Bool) : List Byte := ((s.fw k).bank (!activeOk)).data

/-- REGION_LOADING_DONE (R422): bits [0] and [1] of `oks` say whether the active bank and the other bank of region firmware
verify, [2] and [3] those of microcode. Randomness runs before the region goes on. -/
def execRegionLoadingDone (r oks : Nat) (s : State) : Host.Outcome State Fault Refusal :=
  .next (
    let g := s.region r
    if s.enabled r && g.svc.state == .loading then
      if g.rng.state == .failed || !((bit oks 0 || bit oks 1) && (bit oks 2 || bit oks 3)) then failRegion r s
      else if g.rng.state == .running then
        setRegionState r .rejoining false (s.modSvc r fun v => { v with
          fallback := (if bit oks 0 then [] else [2]) ++ (if bit oks 2 then [] else [3]), image2 := s.loads 2 (bit oks 0), image3 := s.loads 3 (bit oks 2) })
      else s
    else s)

/-- Take a checkpoint that waited for a region (R450). -/
def startDeferredCp (s : State) : State := if s.anyInService then s.modJrn fun j => { j with cpDeferred := false } else s

/-- A region enters IN_SERVICE (R332, R401, R409, R414, R415): keys and seeds delivered, customer packages written, its pans
IDLE with their seeds, reservations restored. -/
def enterService (r : Nat) (s : State) : State :=
  let s1 := s.modRegion r fun g =>
    let g1 := panNums.foldl (fun g p => g.modPan p fun x =>
      { x with svc := { x.svc with pwr := .idle, since := s.tick, waking := none, held := false } }) g
    { g1 with svc := { g1.svc with outByCmd := false, outByFault := false }, kekHere := s.vault.rootReady,
              cust := { g1.cust with held := s.cust.pkgs.map (·.1) } }
  takeWarm r (setRegionState r .inService false s1)

/-- REGION_REJOIN_DONE (R415). -/
def execRegionRejoinDone (r : Nat) (s : State) : Host.Outcome State Fault Refusal :=
  .next (
    if s.enabled r && (s.region r).svc.state == .rejoining then
      startDeferredCp (endWaiting 0x0B02 r okRes (enterService r s))
    else s)

/-! ### The setpoint link (R526) -/

/-- One bit of the CRC-8 of a setpoint frame. -/
def crcBit (c : Nat) : Nat := if 128 ≤ c then (c * 2 % 256) ^^^ 7 else c * 2

/-- The CRC-8 of bytes, the first first. -/
def crc8 (l : List Nat) : Nat :=
  l.foldl (fun c b => crcBit (crcBit (crcBit (crcBit (crcBit (crcBit (crcBit (crcBit (c ^^^ b))))))))) 0

/-- The 32 bits of a SET frame (R526). -/
def setpointFrame (rail mv slew : Nat) : Nat :=
  let w := rail % 16 * 2 ^ 20 + 2 ^ 18 + mv % 1024 * 2 ^ 8 + slew % 256
  w * 256 + crc8 [w / 65536, w / 256 % 256, w % 256]

/-- Journal a lowered clock: R425 says that each step is journalled, and R447 gives no event code for it, so the code is a
free value (log 40). -/
def journalAged (r mhz : Nat) (s : State) : State :=
  let (e, s1) := drawNat s
  journalEvent (e % 65536) r mhz (some r) 0 s1

/-- Lower the clock of region `r` by one step of 50 MHz (R425). -/
def lowerClock (r : Nat) (s : State) : State :=
  let m := (s.region r).svc.clockMhz - 50
  journalAged r m (s.modSvc r fun v => { v with clockMhz := m, aged := true })

/-- Send a setpoint to the regulator of region `r` (R526): `ok` says whether it accepts within three tries. A setpoint
refused three times is unchanged and counted under NOTE; if it was a rise, the clock is lowered (R425). -/
def setpoint (r mv slew : Nat) (ok : Bool) (s : State) : State :=
  let f := Out.setpoint (setpointFrame r mv slew)
  if ok then (emit f s).modSvc r fun v => { v with vddMv := mv }
  else
    let rise := decide ((s.region r).svc.vddMv < mv)
    let s1 := raiseNote { on := monitorUnit (0x10 + r), cause := .transferCheck } (emit f (emit f (emit f s)))
    if rise then lowerClock r s1 else s1

/-! ### Operating points (R411) -/

/-- The point region `r` is to run at: EFFICIENT by temperature whatever POINT holds (R536). -/
def State.pointWanted (s : State) (r : Nat) : Bool := (s.region r).svc.cfg.point || bit s.power.thermEff r

/-- Start a switch where the point wanted is not in effect and none runs (R411). -/
def startSwitch (r : Nat) (s : State) : State :=
  let v := (s.region r).svc
  if !v.switching && v.pointNow != s.pointWanted r then
    s.modSvc r fun v => { v with switching := true, switchStart := s.tick }
  else s

/-- The RW fields of RGN_SVC_CFG after a write of `v`; a reserved encoding leaves its field (R11, R426). -/
def SvcCfg.write (c : SvcCfg) (v : Nat) : SvcCfg :=
  let rk := bits v 5 3
  let us := bits v 15 6
  let ms := bits v 25 16
  { point := bit v 0, autoRepair := bit v 1, autoFull := bit v 2, rakeSplit := if rk ≤ 4 then rk else c.rakeSplit,
    idleUs := if 1 ≤ us ∧ us ≤ 1000 then us else c.idleUs, napMs := if ms ≤ 1000 then ms else c.napMs }

/-- POINT_WRITE: a write of RGN_SVC_CFG (R411, R426). A change of POINT while a switch runs is the new target. -/
def pointWriteAt (r v : Nat) (s : State) : State :=
  if s.enabled r then startSwitch r (s.modSvc r fun x => { x with cfg := x.cfg.write v }) else noteBadAccess s

/-- The row: the access of R35 through a BAR (R110). -/
def execPointWrite (r v : Nat) (s : State) : Host.Outcome State Fault Refusal :=
  .next (s.gated 0 (pointWriteAt r v s))

/-- POINT_SWITCH_DONE (R411, R526): the PLL has relocked and VDD_RGN slewed to `mv` where the regulator accepted it; a
second switch follows where the target has changed. -/
def execPointSwitchDone (r mv : Nat) (ok : Bool) (s : State) : Host.Outcome State Fault Refusal :=
  .next (
    if s.enabled r && (s.region r).svc.switching then
      let s1 := (setpoint r mv 25 ok s).modSvc r fun v => { v with pointNow := !v.pointNow, switching := false }
      startSwitch r s1
    else s)

/-! ### Pan timers (R409) -/

/-- A pan holds a warm-cell reservation. -/
def State.panWarm (s : State) (r p : Nat) : Bool :=
  ((s.region r).latCells.any fun e => e.2.warm.isSome && e.1 / 8 == p) ||
    (s.region r).numCells.any fun e => e.2.warm.isSome && e.1 / 2 == p

/-- The slot memory of a pan holds a yielded job, a saved digest context or a spill area (R409, R203). -/
def State.panKeeps (s : State) (r p : Nat) : Bool :=
  s.cmds.any fun c => c.prog.region == some r &&
    ((c.prog.phase == .yielded && c.prog.unit.any fun u => u.2.1 == p) || c.prog.slots.any fun x => x.1 == p)

/-- PAN_IDLE_TIMEOUT (R409): RGN_SVC_CFG.IDLE_US have passed in IDLE. -/
def execPanIdleTimeout (r p : Nat) (s : State) : Host.Outcome State Fault Refusal :=
  .next (
    let x := (s.pan r p).svc
    if s.enabled r && decide (p < 4) && x.pwr == .idle && x.waking.isNone && !x.held && !s.panWarm r p &&
        decide (x.since + 1000 * (s.region r).svc.cfg.idleUs ≤ s.tick) then
      s.modPan r p fun x => { x with svc := { x.svc with pwr := .nap, since := s.tick } }
    else s)

/-- PAN_NAP_TIMEOUT (R409): NAP_MS have passed in NAP; 0 never ends. -/
def execPanNapTimeout (r p : Nat) (s : State) : Host.Outcome State Fault Refusal :=
  .next (
    let x := (s.pan r p).svc
    let ms := (s.region r).svc.cfg.napMs
    if s.enabled r && decide (p < 4) && x.pwr == .nap && x.waking.isNone && ms != 0 && !s.panKeeps r p &&
        decide (x.since + 1000000 * ms ≤ s.tick) then dormant r p s
    else s)

/-! ### Power (R412) -/

/-- POWER_SAMPLE (R412): a measured draw in mW; PWR_DRAW is the mean over the last 1 ms. -/
def execPowerSample (mw : Nat) (s : State) : Host.Outcome State Fault Refusal :=
  .next (
    let l := keepLast 100 (s.power.samples ++ [min mw 262143])
    { s with power := { s.power with samples := l, drawMw := l.sum / l.length } })

/-! ### Die links (R423) -/

/-- LINK_RETRY (R423): a flit retry; more than 1,000 within a half-open second is a CONTAIN fault of the link. -/
def execLinkRetry (r : Nat) (s : State) : Host.Outcome State Fault Refusal :=
  .next (
    if !s.enabled r then s
    else
      let l := ((s.region r).svc.retryTicks.filter fun t => decide (s.tick < t + 1000000000)) ++ [s.tick]
      let s1 := s.modSvc r fun v => { v with retries := inc32 v.retries, retryTicks := if 1000 < l.length then [] else l }
      if 1000 < l.length then raiseContain { on := regionUnit r .dieLink, cause := .linkRetryRate } s1 else s1)

/-- Module `m` of a link narrows from ×16 to ×8, or shuts from ×8 (R423). -/
def narrow (m : Bool) (v : Svc) : Svc := if m then { v with mod1 := v.mod1 - 1 } else { v with mod0 := v.mod0 - 1 }

/-- A module degrades: a CONTAIN fault of the link, or a FENCE where both modules are shut (R423, R429). -/
def degradeLink (r : Nat) (m : Bool) (s : State) : State :=
  let s1 := s.modSvc r (narrow m)
  let v := (s1.region r).svc
  if v.mod0 = 0 ∧ v.mod1 = 0 then raiseFence { on := regionUnit r .dieLink, cause := .linkDegrade } s1
  else raiseContain { on := regionUnit r .dieLink, cause := .linkDegrade } s1

/-- LINK_LANE_FAILURE (R423) of a lane of module `m`. -/
def execLinkLaneFailure (r : Nat) (m : Bool) (s : State) : Host.Outcome State Fault Refusal :=
  .next (
    let v := (s.region r).svc
    if s.enabled r && decide (0 < if m then v.mod1 else v.mod0) then degradeLink r m s else s)

/-! ### ECC errors and the rake (R424, R429, R134, R406) -/

/-- The region of the word. -/
def EccAt.region (s : State) : EccAt → Option Nat
  | .cryst r _ => some r | .store r _ _ => some r | .shelf r _ _ => some r | .free r => some r | .apex => none
  | .cell r _ _ => some r
  | .held j => (s.cmd? j).bind (·.prog.region)

/-- The unit of the word. -/
def EccAt.unit (s : State) (a : EccAt) : FUnit :=
  match a, a.region s with
  | .store r p _, _ => panUnit r p
  | .cell r k n, _ => cellUnit r k n
  | _, some r => regionUnit r .regionSram
  | _, none => apexUnit .apexSram 0xFF

/-- Remove entry `n` of the crystallizer. -/
def loseEntry (r n : Nat) (s : State) : State :=
  s.modRegion r fun g => { g with lat := { g.lat with cryst := g.lat.cryst.eraseIdx n } }

/-- CUST.RUN jobs on a pan (R406). -/
def runsOn (s : State) (r p : Nat) : List Nat :=
  jobsOn s fun c => c.job.opcode == 0x1001 && c.prog.region == some r && c.prog.unit.any fun u => u.2.1 == p

/-- An uncorrectable error handled by the owner of the word (R424, R429). -/
def eccUncorrectable (a : EccAt) (s : State) : State :=
  let u := a.unit s
  match a with
  | .cryst r n => loseEntry r n (raiseNote { on := u, cause := .eccUnc } s)
  | .store r p true =>
    raiseRetry { on := u, cause := .eccUnc } .abortedFault
      (s.modPan r p fun x => { x with cs := { x.cs with eccUnc := inc32 x.cs.eccUnc } })
  | .store r p false =>
    let s1 := s.modPan r p fun x => { x with cs := { x.cs with eccUnc := inc32 x.cs.eccUnc, reloading := true } }
    let js := runsOn s1 r p
    if js.isEmpty then raiseNote { on := u, cause := .eccUnc } s1
    else
      let (x, s2) := record { on := u, cause := .eccUnc, jseq := s1.soleJob js } .retry s1
      let s3 := match x with
        | some x => startTest x s2
        | none => s2
      js.foldl (fun s j => retryJob .abortedFault j (dropRun j s)) s3
  | .shelf r i k =>
    (raiseNote { on := u, cause := .eccUnc } s).modRegion r fun g =>
      { g with shelf := g.shelf.filter fun e => !(e.inst == i && e.keyId == k) }
  | .held j =>
    match s.cmd? j with
    | none => s
    | some c =>
      let (x, s1) := record { on := u, cause := .eccUnc, jseq := some c.job.jseq } .retry s
      let s2 := match x with
        | some x => startTestOf (s.heldBlock c) x s1
        | none => s1
      retryJob .abortedFault j s2
  | .free _ => raiseNote { on := u, cause := .eccUnc } s
  | .cell r k n =>
    if s.cmds.any fun c => c.onCell r k n then raiseRetry { on := u, cause := .eccUnc } .abortedFault s
    else raiseNote { on := u, cause := .eccUnc } s
  | .apex => raiseHalt { on := u, cause := .eccUncApex } s

/-- A corrected error: the word is rewritten, counted under NOTE (R424, R406), and in local memory of a lattice cell in its register
(R135). -/
def eccCorrected (a : EccAt) (s : State) : State :=
  let s1 := match a with
    | .store r p _ => s.modPan r p fun x => { x with cs := { x.cs with eccCorr := inc32 x.cs.eccCorr } }
    | .cell r .lattice n => s.modRegion r fun g => g.modCell .lattice n fun x => { x with corr := satAdd 65535 x.corr 1 }
    | _ => s
  raiseNote { on := a.unit s, cause := .eccCorr } s1

/-- The word exists: its region is enabled, its command is in flight. -/
def EccAt.there (s : State) (a : EccAt) : Bool :=
  match a, a.region s with
  | .apex, _ => true
  | .cell r k n, _ => s.enabled r && (k == .lattice || k == .number || k == .hash) && decide (n < k.count)
  | _, some r => s.enabled r
  | _, none => false

/-- ECC_ERROR (R429). -/
def execEccError (a : EccAt) (corrected : Bool) (s : State) : Host.Outcome State Fault Refusal :=
  .next (if a.there s then if corrected then eccCorrected a s else eccUncorrectable a s else s)

/-- RAKE_PASS (R424): the rake of region `r`, or of the apex for 8, has rewritten its next words: `finished` ends a pass, and
`err` is an error it found, true where corrected. -/
def execRakePass (r : Nat) (finished : Bool) (err : Option (EccAt × Bool)) (s : State) :
    Host.Outcome State Fault Refusal :=
  .next (
    if !(s.enabled r || r == 8) then s
    else
      let mine := err.filter fun e => e.1.there s && e.1.region s == (if r = 8 then none else some r)
      let s1 := if r = 8 then s else s.modSvc r fun v =>
        { v with rakePasses := if finished then inc32 v.rakePasses else v.rakePasses,
                 rakeCorr := if mine.any (·.2) then inc32 v.rakeCorr else v.rakeCorr,
                 rakeUnc := if mine.any (fun e => !e.2) then inc32 v.rakeUnc else v.rakeUnc }
      match mine with
      | some (a, true) => eccCorrected a s1
      | some (a, false) => eccUncorrectable a s1
      | none => s1)

/-! ### Aging (R425) -/

/-- AGING_EVALUATION (R425): the worst slack is measured, and `target` is the lowest setpoint in mV that keeps the guard band,
in 5 mV steps; beyond 900 mV the clock is lowered one step. `ok` says whether the regulator accepts the frame. -/
def execAgingEvaluation (r target slack : Nat) (ok : Bool) (s : State) : Host.Outcome State Fault Refusal :=
  .next (
    if !s.enabled r then s
    else
      let s1 := s.modSvc r fun v => { v with marginPs := min slack 65535 }
      let mv := max 620 (min 900 ((target + 4) / 5 * 5))
      let s2 := if mv = (s.region r).svc.vddMv then s1 else setpoint r mv 10 ok s1
      if 900 < target then lowerClock r s2 else s2)

/-! ### Thermal limits (R536) -/

/-- The die of a sensor: a region, or 8 for the apex. -/
def dieUnit (die : Nat) : FUnit := if die < 8 then regionUnit die .steward else apexUnit .skanelPair 0xFF

/-- Set or clear bit `n`. -/
def putBit (v n : Nat) (b : Bool) : Nat := v - flag (bit v n) n + flag b n

/-- THERMAL_THRESHOLD (R536): the hottest sensor of `die` reaches threshold `level` (1 to 4: 100, 108, 115 and 125 °C), or
for `up` false the action of the level ends; level 0 with `up` false says that it reads below 100 °C. -/
def execThermalThreshold (die level : Nat) (up : Bool) (s : State) : Host.Outcome State Fault Refusal :=
  .next (
    if !(s.enabled die || die == 8) then s
    else match level, up with
    | 0, false => (fun s : State => if die < 8 then repair die s else s)
        { s with power := { s.power with hot := s.power.hot.filter (· != die) } }
    | 1, true =>
      if s.power.warn.contains die then s
      else mlog 5 (le 1 die) { s with power := { s.power with warn := s.power.warn ++ [die] } }
    | 1, false => { s with power := { s.power with warn := s.power.warn.filter (· != die) } }
    | 2, b =>
      if die < 8 then startSwitch die { s with power := { s.power with thermEff := putBit s.power.thermEff die b } } else s
    | 3, b => if die < 8 then { s with power := { s.power with thermHeld := putBit s.power.thermHeld die b } } else s
    | 4, true =>
      if die < 8 then
        raiseFence { on := dieUnit die, cause := .overtemp }
          { s with power := { s.power with hot := s.power.hot.filter (· != die) ++ [die] } }
      else raiseHalt { on := dieUnit die, cause := .overtemp } s
    | _, _ => s)

end Sys2Proof.Machine
end

