-- ==== Sys2Proof/Machine/Tamper.lean ====
section
/-! DEFINITION. Tamper monitors and the backup domain (R493-R510): disturbances, ERASE and its burns, built-in stimulation,
the tamper inputs, and the TAMP verbs. -/

namespace Sys2Proof.Machine

/-! ### The owner configuration block (R476, R508) -/

/-- The owner configuration block; until TAKE_OWNERSHIP it reads as MASK_FLOOR 1, DBG_MODE 3 and zero. -/
def State.ownerBlock (s : State) : List Byte :=
  if s.life.otp.ownerCfg.isEmpty || decide (s.life.otp.stage < 3) then le 1 1 ++ le 1 3 ++ zeros 30 else fit 32 s.life.otp.ownerCfg

/-- Byte `n` of the TAMPER field. -/
def State.tamperByte (s : State) (n : Nat) : Nat := fld s.ownerBlock (8 + n) 1

/-- ZEROIZE_DIS, EMP_SOFT and LIGHT_DIS. -/
def State.zeroizeDis (s : State) : Bool := bit (s.tamperByte 2) 0
def State.empSoft (s : State) : Bool := bit (s.tamperByte 2) 1
def State.lightDis (s : State) : Bool := bit (s.tamperByte 2) 2

/-- Change the tamper block. -/
def State.modTamper (s : State) (f : Tamper → Tamper) : State := { s with tamper := f s.tamper }

/-! ### Monitors (R493) -/

/-- Class of a monitor's UNIT. -/
def monClass (u : Nat) : Nat := u / 16

/-- Instances of each class that have a detector, in the order of the rotation (R493, R504). -/
def monitorList : List Nat :=
  [0x00, 0x01, 0x10, 0x11, 0x12, 0x13, 0x14, 0x15, 0x16, 0x17, 0x18, 0x19, 0x1A, 0x20,
   0x30, 0x31, 0x32, 0x33, 0x34, 0x35, 0x36, 0x37, 0x38, 0x40, 0x41, 0x42, 0x43, 0x44, 0x45, 0x46, 0x47, 0x48,
   0x50, 0x51, 0x52, 0x53, 0x54, 0x55, 0x56, 0x57, 0x58, 0x60, 0x61, 0x62, 0x63, 0x64, 0x70]

/-- The die of a monitor that watches one region. -/
def monRegion (u : Nat) : Option Nat :=
  if [1, 3, 4, 5].contains (monClass u) && decide (u % 16 < 8) then some (u % 16) else none

/-- The monitor exists: those of a region that the fuses do not enable are absent. -/
def State.monitor (s : State) (u : Nat) : Bool :=
  monitorList.contains u && match monRegion u with
    | some r => s.enabled r
    | none => true

/-- The monitor has a detector that stimulation tests: EXTERNAL and BACKUP_LOSS have none (R493, R504). -/
def hasDetector (u : Nat) : Bool := decide (monClass u < 6)

/-- A monitor of two designs, of which the partner stays armed while the other is tested: MESH, VDD_RGN and VDD_AON (R493, R495). -/
def twoDesigns (u : Nat) : Bool := monClass u == 0 || (monClass u == 1 && (decide (u % 16 < 8) || u % 16 == 10))

/-- The monitor has a disturbance band (R493). -/
def twoBands (u : Nat) : Bool := [1, 2, 5].contains (monClass u)

/-- The region whose domain a disturbance of the monitor affects; none is the whole package (R497). -/
def disturbDomain (u : Nat) : Option Nat := if [1, 5].contains (monClass u) then monRegion u else none

/-- The monitor runs on VBAT (R493). -/
def onVbat (u : Nat) : Bool := [0, 3, 4, 6].contains (monClass u)

/-! ### Disturbances (R436, R497) -/

/-- The job holds a shelf entry, a vault-cipher result or a key of a SYM job: it names a key, makes or opens a blob, or is a SYM job
(R497). -/
def Job.holdsSecret (j : Job) : Bool :=
  j.has (·.region) && (j.handle != nullHandle || j.opcode / 256 == 2 || (j.opcode / 256 == 3 && j.pbit 14) || j.opcode / 256 == 6)

/-- Region `r` lies in the domain. -/
def inDomain (d : Option Nat) (r : Nat) : Bool := d.isNone || d == some r

/-- A disturbance holds back the dispatch of secret-bearing jobs in region `r`. -/
def State.disturbed (s : State) (r : Nat) : Bool := s.tamper.disturbs.any fun d => !d.resumed && inDomain d.region r

/-- The counter TMP_DISTURB_k of a class. -/
def disturbIndex (u : Nat) : Nat := match monClass u with
  | 1 => 0
  | 2 => 1
  | _ => 2

/-- A disturbance of monitor `u`, found by it or injected: the record, the event, and the secret-bearing jobs of its domain aborted
and re-run once (R436, R444, R497). -/
def disturbBy (injected : Bool) (u : Nat) (s : State) : State :=
  let d := disturbDomain u
  let s1 := raiseContain { on := monitorUnit u, cause := .disturbance, injected := injected } (addedEvent evDisturbance s)
  let e : Disturb := { unit := u, region := d, fseq := s1.faults.head }
  let s2 := s1.modTamper fun t => { t with
    disturb := setAt t.disturb (disturbIndex u) inc32, disturbs := t.disturbs.filter (fun x => !(x.unit == u)) ++ [e] }
  let js := jobsOn s2 fun c => c.job.holdsSecret && c.prog.region.any (inDomain d) && !(c.prog.wait == some .shelf) &&
    (c.prog.phase == .running || c.prog.phase == .yielded || c.prog.phase == .checking ||
      (c.prog.phase == .acked && c.prog.unit.isSome))
  js.foldl (fun s j => rerunElsewhere j s) s2

/-- A disturbance that monitor `u` finds. -/
def disturb (u : Nat) (s : State) : State := disturbBy false u s

/-- DISTURBANCE (R497): a monitor in its disturbance band. -/
def execDisturbance (u : Nat) (s : State) : Host.Outcome State Fault Refusal :=
  .next (if s.pkg.mode.mainPower && s.monitor u && twoBands u then disturb u s else s)

/-- DISTURBANCE_CLEAR (R497, R436): the monitor has read normal for `ns`: from 10 µs on secret-bearing dispatch resumes, and
at 1 ms the hardware acknowledges the record. -/
def execDisturbanceClear (u ns : Nat) (s : State) : Host.Outcome State Fault Refusal :=
  .next (
    match s.tamper.disturbs.find? fun d => d.unit == u with
    | none => s
    | some d =>
      if 1000000 ≤ ns then
        (ackRecord d.fseq s).2.modTamper fun t => { t with disturbs := t.disturbs.filter fun x => !(x.unit == u) }
      else if 10000 ≤ ns then
        s.modTamper fun t => { t with disturbs := t.disturbs.map fun x => if x.unit == u then { x with resumed := true } else x }
      else s)

/-! ### ERASE (R498-R503) -/

/-- A region after the erase strobe: its crystallizer holds no secret and is kept (R498), and its customer packages are cleared
(R402). -/
def eraseRegion (g : Region) : Region := let w := wipeRegion g; { w with lat := g.lat, cust := { w.cust with held := [] } }

/-- Every store of R498 is zero-written. -/
def eraseStores (s : State) : State :=
  let s1 := framesErase s
  { s1 with
      regions := s1.regions.map fun e => (e.1, eraseRegion e.2),
      vault := { s1.vault with ownerSeed := none, authority := none, domainRoot := [], kumSlot := none, rootReady := false, starKey := false },
      pkg := { s1.pkg with batteryKey := none },
      cores := s1.cores.filter fun e => e.1 == .skanel,
      cust := {} }

/-- Jobs in flight complete with ST_ABORTED_FAULT (R500), a life-cycle transition that ERASE stops among them (R484). -/
def eraseJobs (s : State) : State :=
  (jobsOn s fun c => c.job.has (·.region) || !c.job.mbx || (s.life.inTransition && c.job.opcode == 0x0D02)).foldl
    (fun s j => fail j .abortedFault s) { s with life := { s.life with inTransition := false } }

/-- Classes whose evidence bits await their burn: in ZEROIZED only those that have not burned since it was entered
(R502). -/
def newClasses (s : State) (cls : List Nat) : List Nat :=
  if s.pkg.zeroized && !s.tamper.burnDue then cls.filter fun c => !s.tamper.burned.contains c else cls

/-- Latch evidence classes and the tick of the first alarm (R506). -/
def latch (cls : List Nat) (t : Nat) (x : Tamper) : Tamper :=
  { x with latchTick := if x.latched.isEmpty && !cls.isEmpty then t else x.latchTick,
           latched := x.latched ++ cls.filter fun c => !x.latched.contains c }

/-- ERASE (R498-R503): the records of what triggered it, with the disturbance records subsumed, the bittern freeze, the
stores wiped, jobs ended, and the burns due. -/
def doErase (xs : List Raise) (cls : List Nat) (s : State) : State :=
  let s1 := xs.foldl (fun s x => (record x .erase (addedEvent evTamper s)).2) s
  let s2 := freezeBtn evErase none (subsume (fun r => r.cause == .disturbance) s1)
  let again := s2.pkg.zeroized
  let s3 := eraseJobs (eraseStores s2)
  let s4 := s3.modTamper fun t =>
    let l := latch ((newClasses s2 cls).eraseDups) s.tick t
    { l with burnDue := true, epochDue := t.epochDue || !again, disturbs := [],
             burned := if again then t.burned else [] }
  { s4 with pkg := { s4.pkg with zeroized := true } }

/-- An alarm on VBAT alone erases the battery key and latches the evidence (R506). -/
def eraseBackup (cls : List Nat) (s : State) : State :=
  { s with pkg := { s.pkg with batteryKey := none }, tamper := latch cls s.tick s.tamper }

/-- Tamper-band alarms of the monitors `us` together (R498, R503). -/
def alarms (us : List Nat) (s : State) : State :=
  match us.getLast? with
  | none => s
  | some u =>
    let cls := (us.map monClass).eraseDups
    let s1 := if s.pkg.mode.mainPower then doErase (us.map fun u => { on := monitorUnit u, cause := .tamper }) cls s
              else eraseBackup cls s
    s1.modTamper fun t => { t with lastTick := s.tick, lastUnit := u }

/-- The monitor is under stimulation: the response of the tested detector is suppressed (R504). -/
def State.suppressed (s : State) (u : Nat) : Bool := s.tamper.stims.any fun x => x.unit == u && decide (s.tick < x.till)

/-- A tamper-band reading of monitor `u` counts: supply bands only while PWRGD_MAIN is high, LIGHT unless LIGHT_DIS is set,
the rest where the monitor has power (R496, R508, R493). -/
def State.tamperCounts (s : State) (u : Nat) : Bool :=
  s.monitor u && monClass u != 7 && !(monClass u == 4 && s.lightDis) && !(monClass u == 6) &&
    (if monClass u = 1 then s.pkg.pwrgdMain && s.pkg.mode.mainPower
     else s.pkg.mode.mainPower || (s.pkg.mode == .backup && onVbat u))

/-- TAMPER_ALARM (R498, R503): monitors in their tamper bands at once. `partner` says that the reading comes from a detector
that is not under test (R504). With EMP_SOFT the EMP tamper band acts as disturbance (R508). -/
def execTamperAlarm (us : List Nat) (partner : Bool) (s : State) : Host.Outcome State Fault Refusal :=
  .next (
    let live := us.eraseDups.filter fun u => s.tamperCounts u && ((partner && twoDesigns u) || !s.suppressed u)
    let soft := live.filter fun u => monClass u == 5 && s.empSoft
    let hard := live.filter fun u => !(monClass u == 5 && s.empSoft)
    alarms hard (soft.foldl (fun s u => disturb u s) s))

/-- ERASE_EVIDENCE_BURN (R499 step 4, R501, R502): the epoch bit and one bit of each latched class are burned, and the
package reads ZEROIZED; in OWNED a ZEROIZE record is written. -/
def burnEvidence (s : State) : State :=
  let t := s.tamper
  let s1 := { s with
    vault := if t.epochDue then { s.vault with epoch := min 128 (s.vault.epoch + 1) } else s.vault,
    life := { s.life with otp := { s.life.otp with
      evidence := t.latched.foldl (fun l c => setAt l c fun n => min 256 (n + 1)) s.life.otp.evidence } },
    tamper := { t with burned := t.burned ++ t.latched, latched := [], burnDue := false, epochDue := false } }
  if s.lcState = 3 && t.epochDue then mlog 6 (le 4 s1.vault.epoch ++ le 1 0) s1 else s1

/-- ERASE_EVIDENCE_BURN (R499). -/
def execEraseEvidenceBurn (s : State) : Host.Outcome State Fault Refusal :=
  .next (
    if s.tamper.burnDue && s.pkg.mode.mainPower then
      let s1 := burnEvidence s
      if s1.pkg.mode == .boot || s1.pkg.mode == .selfTest then s1 else setMode .zeroized s1
    else s)

/-! ### TAMP_IN and ZEROIZE_N (R505) -/

/-- How long an input must hold its level, in ns: in BACKUP it is counted in whole strobes of 1 ms, two at least. -/
def heldFor (s : State) (ns : Nat) : Nat :=
  if s.pkg.mode.mainPower then ns else 1000000 * max 2 ((ns + 999999) / 1000000)

/-- ZEROIZE_N_ASSERT (R505): the pin has been low for `ns`; 0 says that it is high again. -/
def execZeroizeNAssert (ns : Nat) (s : State) : Host.Outcome State Fault Refusal :=
  .next (
    if s.pkg.mode == .off then s
    else
      let s1 := s.modTamper fun t => { t with zeroizeN := ns == 0 }
      if 0 < ns ∧ heldFor s 10000 ≤ ns ∧ ¬ s.zeroizeDis then alarms [0x64] s1 else s1)

/-- The filter time of input `n` in ns. -/
def tampFilter (s : State) (n : Nat) : Nat :=
  match bits (s.tamperByte 1) (2 * n + 1) (2 * n) with
  | 0 => 10000
  | 1 => 100000
  | 2 => 1000000
  | _ => 10000000

/-- TAMP_IN_ASSERT (R505): input `n` has held the level `high` for `ns`. -/
def execTampInAssert (n : Nat) (high : Bool) (ns : Nat) (s : State) : Host.Outcome State Fault Refusal :=
  .next (
    if decide (4 ≤ n) || s.pkg.mode == .off then s
    else
      let s1 := s.modTamper fun t => { t with inputs := putBit t.inputs n high }
      let en := s.tamperByte 0
      if bit en n && bit en (4 + n) == high && decide (heldFor s (tampFilter s n) ≤ ns) then alarms [0x60 + n] s1 else s1)

/-! ### Stimulation (R504) -/

/-- Stimulate monitor `u`; no response is a CONTAIN fault of cause MONITOR_TEST. -/
def stimulate (u : Nat) (responds : Bool) (s : State) : State :=
  let s1 := s.modTamper fun t => { t with
    stims := t.stims.filter (fun x => !(x.unit == u)) ++ [{ unit := u, till := s.tick + 100000 }],
    monFail := t.monFail || !responds }
  if responds then s1 else raiseContain { on := monitorUnit u, cause := .monitorTest } s1

/-- MONITOR_STIMULATION (R504): the rotation comes to its next monitor, each of them once in TMP_TEST.S seconds. -/
def execMonitorStimulation (responds : Bool) (s : State) : Host.Outcome State Fault Refusal :=
  .next (
    if !s.pkg.mode.mainPower || decide (s.tick < s.tamper.stimAt) then s
    else
      let l := monitorList.filter fun u => s.monitor u && hasDetector u
      let n := s.tamper.rotation % l.length
      let s1 := s.modTamper fun t => { t with rotation := (n + 1) % l.length, stimAt := s.tick + 1000000000 * t.testS / l.length }
      match l[n]? with
      | some u => stimulate u responds s1
      | none => s)

/-- STIMULATION_WINDOW_END (R504): the window of monitor `u` ends; `alarm` says that the tested detector still reads
alarm, which is acted on now. -/
def execStimulationWindowEnd (u : Nat) (alarm : Bool) (s : State) : Host.Outcome State Fault Refusal :=
  .next (
    if s.tamper.stims.any fun x => x.unit == u then
      let s1 := s.modTamper fun t => { t with stims := t.stims.filter fun x => !(x.unit == u) }
      if !alarm then s1
      else if monClass u == 5 && s.empSoft then disturb u s1
      else if s.tamperCounts u || monClass u == 6 then alarms [u] s1
      else s1
    else s)

/-- VBAT_LOW (R507): VBAT is measured at `mv`; below 2.2 V with main power it is flagged and journalled, under a code that
R447 does not give (log 40). -/
def execVbatLow (mv : Nat) (s : State) : Host.Outcome State Fault Refusal :=
  .next (
    if !s.pkg.mode.mainPower then s
    else
      let s1 := s.modTamper fun t => { t with vbatMv := min mv 4095 }
      if mv < 2200 then
        let (e, s2) := drawNat (s1.modTamper fun t => { t with vbatLow := true })
        journalEvent (e % 65536) mv 0 none 0 s2
      else s1)

/-! ### The TAMP verbs (R509) -/

/-- TAMP.TEST (R509): `responds` is what the stimulated detector does. -/
def tampTest (responds : Bool) (c : Cmd) (s : State) : State × Option Res :=
  let j := c.job
  let u := fld j.args 0 1 * 16 + fld j.args 1 1
  orBad [paramZero j 0xFFFFFFFF, bodyIs j 2, famEnabled s j,
      check (decide (fld j.args 1 1 < 16) && s.monitor u && hasDetector u) .paramUnsupported] s fun s =>
    (stimulate u responds s, some (respRes (le 1 (if responds then 1 else 0) ++ zeros 3)))

/-- TAMP.ERASE (R509, R502): burns the epoch bit and no evidence bit. -/
def tampErase (c : Cmd) (s : State) : State × Option Res :=
  let j := c.job
  orBad [paramZero j 0xFFFFFFFF, bodyIs j 0, famEnabled s j] s fun s =>
    (doErase [{ on := monitorUnit 0x6F, cause := .tamper }] [] (commit j.id s), some okRes)

/-- TAMP.TEST (R509). -/
def execTampTest (j : Nat) (responds : Bool) (s : State) : Host.Outcome State Fault Refusal :=
  .next (runVerb 0x0E01 j (tampTest responds) s)
/-- TAMP.ERASE (R502). -/
def execTampErase (j : Nat) (s : State) : Host.Outcome State Fault Refusal := .next (runVerb 0x0E02 j tampErase s)

end Sys2Proof.Machine
end

