-- ==== Sys2Proof/Machine/FaultRows.lean ====
section
/-! DEFINITION. The fault events that have a row of their own (R429-R445): mismatches, watchdogs, targeted self-tests, sluice
timers, acknowledgements, injection and the error pair. -/

namespace Sys2Proof.Machine

/-! ### Faults of units -/

/-- Unit `n` of a kind exists in an enabled region. -/
def State.unitThere (s : State) (r : Nat) (k : UnitKind) (n : Nat) : Bool := s.enabled r && decide (n < k.count)

/-- The command that runs on unit `n` of a kind in region `r`. -/
def State.runner (s : State) (r : Nat) (k : UnitKind) (n : Nat) : Option Cmd := s.cmds.find? fun c => c.onCell r k n

/-- Count a fault of the unit in its registers (CELL_LAT_, CELL_NUM_, SYM_ENG_, RGN_DIG_): a compare mismatch in those of the unit, a
MATCH pattern in RGN_DIG_MATCH_FAULT alone (R196, R248). -/
def countUnitFault (r : Nat) (k : UnitKind) (n : Nat) (pair : Bool) (s : State) : State :=
  s.modRegion r fun g =>
    if pair then { g with dig := { g.dig with matchFault := inc32 g.dig.matchFault } }
    else match k with
      | .lattice => g.modCell .lattice n fun x => { x with dup := satAdd 65535 x.dup 1 }
      | .number => g.modCell .number n fun x => { x with dup := satAdd 65535 x.dup 1 }
      | .sym =>
        let y := g.sym
        { g with sym := if n = 0 then { y with cmpFail := inc32 y.cmpFail, faults0 := inc32 y.faults0 }
                        else { y with cmpFail := inc32 y.cmpFail, faults1 := inc32 y.faults1 } }
      | _ => g

/-- A RETRY fault of a unit that a job meets. -/
def unitRetry (r : Nat) (k : UnitKind) (n : Nat) (cause : FCause) (onFail : Status) (s : State) : State :=
  raiseRetry { on := cellUnit r k n, cause := cause } onFail s

/-- DUP_MISMATCH (R198, R233, R177): unit `n` of a kind finds its two computations to differ, or for `pair` a MATCH pair of
0/0 or 1/1. A symmetric job that runs unchecked has no compare (R233); a failed re-run ends as R233 says after a mismatch, and as R177
says after a pattern. -/
def execDupMismatch (r : Nat) (k : UnitKind) (n : Nat) (pair : Bool) (s : State) : Host.Outcome State Fault Refusal :=
  .next (
    let unchecked := k == .sym && (s.runner r k n).any fun c => s.runsUnchecked r c
    if s.unitThere r k n && !(unchecked && !pair) then
      unitRetry r k n (if pair then .matchPattern else .dupMismatch) (if k = .sym ∧ pair = false then .releaseCheckFail else .abortedFault)
        (countUnitFault r k n pair s)
    else s)

/-- SEQ_CHECK_FAULT (R429): a word check of the micro-sequencer on unit `n`. -/
def execSeqCheckFault (r : Nat) (k : UnitKind) (n : Nat) (s : State) : Host.Outcome State Fault Refusal :=
  .next (if s.unitThere r k n then unitRetry r k n .seqCheck .abortedFault s else s)

/-- PAN_WATCHDOG_TRIP (R429). -/
def execPanWatchdogTrip (r p : Nat) (s : State) : Host.Outcome State Fault Refusal :=
  .next (if s.enabled r && decide (p < 4) then raiseContain { on := panUnit r p, cause := .watchdog } s else s)

/-! ### Targeted self-tests (R431-R433) -/

/-- TRANSIENT faults of the unit whose ticks lie less than 60 s before `t` (R432). -/
def recentTransients (f : Faults) (u : FUnit) (t : Nat) : Nat :=
  (f.history.filter fun e => e.1 == u && decide (t < e.2 + 60000000000)).length

/-- A LASTING fault of this unit fences its region (R433). -/
def FKind.fences : FKind → Bool
  | .steward => true | .dispatcher => true | .vaultCipher => true | .dieLink => true | _ => false

/-- The narrowest module of a link that still runs (R423). -/
def narrowest (v : Svc) : Bool := if v.mod0 = 0 then true else if v.mod1 = 0 then false else decide (v.mod1 < v.mod0)

/-- A block of SRAM that fails its march is withheld from allocation (R431). -/
def withhold (t : SelfTest) (s : State) : State :=
  match t.on.region, t.block with
  | some r, some b => s.modSvc r fun v => { v with withheld := v.withheld ++ [b] }
  | _, _ => s

/-- What a LASTING fault does beyond its mark (R432, R433, R423): a RETRY is raised to CONTAIN, the unit is quarantined with the jobs
that a pan's cells had kept (R431), and the region is fenced where R433 says so. A lasting fault of a mask generator leaves its pan in use (R122). -/
def lasting (t : SelfTest) (rec : FaultRec) (s : State) : State :=
  let x : Raise := { on := t.on, cause := rec.cause, jseq := rec.jseq, injected := rec.injected, from' := some .retry }
  let s1 := if rec.cause = .lockstep then
      match t.on.region with
      | some r => (record x .contain s).2.modPan r t.on.unit fun p => { p with msg := { p.msg with fault := true } }
      | none => (record x .contain s).2
    else if t.cls = .retry then
      let s0 := withhold t (record x .contain s).2
      if s0.pkg.halted then s0 else retryJobsOf true t.on .abortedFault (quarantine t.on s0)
    else s
  let s2 := match t.on.region with
    | some r => if rec.cause = .linkDegrade then s1.modSvc r fun v => narrow (narrowest v) v else s1
    | none => s1
  if s2.pkg.halted then s2
  else if t.on.kind.fences then raiseFence { on := t.on, cause := rec.cause } s2
  else fenceIfDue t.on rec.cause s2

/-- SELF_TEST_RESULT (R432): the test of record `q` ends. -/
def execSelfTestResult (q : Nat) (pass : Bool) (s : State) : Host.Outcome State Fault Refusal :=
  .next (
    match s.faults.tests.find? fun t => t.fseq == q, (s.faults.ring.map (·.2)).find? fun r => r.fseq == q with
    | some t, some rec =>
      let s1 := s.modFaults fun f => { f with tests := f.tests.filter fun x => !(x.fseq == q) }
      let transient := pass && decide (recentTransients s.faults t.on rec.tick < 3)
      let s2 := s1.modFaults fun f =>
        { f.mark q (fun r => { r with transient := transient, lasting := !transient }) with
            history := if pass then f.history ++ [(t.on, rec.tick)] else f.history }
      if transient then
        s2.modFaults fun f => { f with quarantined := if t.cls = .contain then f.quarantined.filter fun u => !(u == t.on)
                                                      else f.quarantined }
      else lasting t rec s2
    | some _, none => s.modFaults fun f => { f with tests := f.tests.filter fun x => !(x.fseq == q) }
    | none, _ => s)

/-! ### Sluice timers and acknowledgements (R434, R435) -/

/-- The region that a CONTAIN record escalates to a FENCE of: that of its unit, or the domain of a disturbance. -/
def FaultRec.escalates (r : FaultRec) : Option Nat :=
  match r.on.region with
  | some n => some n
  | none => if r.cause = .disturbance then disturbDomain r.on.unit else none

/-- SLUICE_EXPIRY (R435): record `q` has expired unacknowledged and escalates one class. -/
def execSluiceExpiry (q : Nat) (s : State) : Host.Outcome State Fault Refusal :=
  .next (
    match s.faults.pending.find? fun p => p.fseq == q, (s.faults.ring.map (·.2)).find? fun r => r.fseq == q with
    | some p, some r =>
      if s.tick < p.end then s
      else
        let s1 := s.modFaults fun f => { f with pending := f.pending.filter fun x => !(x.fseq == q) }
        let x : Raise := { on := r.on, cause := r.cause, jseq := r.jseq, escalated := true, injected := r.injected,
                           from' := some r.cls }
        match r.cls, r.escalates with
        | .contain, some n =>
          let s2 := (record x .fence s1).2
          if s2.pkg.halted then s2 else fenceRegion n s2
        | _, _ => raiseHalt x s1
    | _, _ => s)

/-- Acknowledge record `q`; one that is not pending, or has expired, is ignored and counted under NOTE (R435). -/
def hostAck (q : Nat) (s : State) : State :=
  match ackRecord q s with
  | (true, s1) => s1
  | (false, s1) => noteBadAccess s1

/-- FLT_ACK (R435): a write of FLT_ACK_HI with the low half in FLT_ACK_LO. -/
def fltAckAt (hi : Nat) (s : State) : State :=
  hostAck (s.faults.ackLo + 2 ^ 32 * (hi % 2 ^ 32)) s

/-- The row: the access of R35 through a BAR (R110). -/
def execFltAck (hi : Nat) (s : State) : Host.Outcome State Fault Refusal :=
  .next (s.gated 0 (fltAckAt hi s))

/-! ### Injection (R444) -/

/-- The class of an injected fault: the one R429 gives the cause on that unit. -/
def injectedClass (cause : FCause) (u : FUnit) (strict : Bool) (busy : Bool) : FClass :=
  match cause with
  | .eccCorr => .note
  | .eccUnc => if busy then .retry else .note
  | .eccUncApex => .halt
  | .dupMismatch => .retry
  | .matchPattern => .retry
  | .releaseCheck => .retry
  | .seqCheck => .retry
  | .doubleFault => match u.kind with
    | .pan => .contain
    | .steward => .fence
    | .skanelPair => .halt
    | _ => .retry
  | .watchdog => if u.kind = .skanelPair then .halt else .contain
  | .lockstep => if u.kind = .skanelPair then .halt else .retry
  | .noiseSource => if strict then .fence else .contain
  | .linkRetryRate => .contain
  | .linkDegrade => .contain
  | .badAccess => .note
  | .selfTest => .halt
  | .disturbance => .contain
  | .tamper => .erase
  | .ringFull => .halt
  | .monitorTest => .contain
  | .overtemp => if u.region.isSome then .fence else .halt
  | .hostMemory => .note
  | .transferCheck => .note

/-- LEVEL of a unit (R430). -/
def FKind.level : FKind → Nat
  | .latticeCell => 0 | .numberCell => 0 | .hashCell => 0 | .pan => 1 | .monitor => 4 | .queueEngine => 3
  | .verdictEngine => 3 | .starHub => 3 | .skanelPair => 3 | .timeUnit => 3 | .apexSram => 3 | _ => 2

/-- The unit that FLT_INJECT names (R445). -/
def injectUnit (v : Nat) : Option FUnit :=
  (FKind.ofCode (bits v 16 12)).map fun k =>
    { level := k.level, region := if bit v 11 || decide (3 ≤ k.level) then none else some (bits v 10 8), kind := k, unit := bits v 24 17 }

/-- The unit of a region that takes jobs and is the fault unit. -/
def FUnit.cell (u : FUnit) : Option (Nat × UnitKind × Nat) :=
  match u.region, u.kind with
  | some r, .latticeCell => some (r, .lattice, u.unit)
  | some r, .numberCell => some (r, .number, u.unit)
  | some r, .hashCell => some (r, .hash, u.unit)
  | some r, .pan => some (r, .sponge, u.unit)
  | some r, .symEngine => some (r, .sym, u.unit)
  | _, _ => none

/-- The counters of units and regions count an injected fault like any other (R429). -/
def countInjected (u : FUnit) (cause : FCause) (s : State) : State :=
  match cause, u.cell with
  | .dupMismatch, some (r, k, n) => countUnitFault r k n false s
  | .matchPattern, some (r, k, n) => countUnitFault r k n true s
  | .releaseCheck, some (r, k, _) => countCheckFail r k s
  | .eccCorr, some (r, .lattice, n) => s.modRegion r fun g => g.modCell .lattice n fun x => { x with corr := satAdd 65535 x.corr 1 }
  | _, _ => s

/-- Raise an injected fault with its real reaction. -/
def inject (u : FUnit) (cause : FCause) (s0 : State) : State :=
  let s := countInjected u cause s0
  let busy := s.cmds.any fun c => c.holds false u
  let x : Raise := { on := u, cause := cause, injected := true }
  match injectedClass cause u s.pkg.fuses.rngStrict busy, u.region with
  | .note, _ => raiseNote x s
  | .retry, some r => if cause = .lockstep ∧ u.kind = .pan then maskFault true r u.unit s else raiseRetry x cause.rerunStatus s
  | .retry, none => raiseRetry x cause.rerunStatus s
  | .contain, some r => if cause = .noiseSource then rngLastingBy true r s else raiseContain x s
  | .contain, none => if cause = .disturbance ∧ u.kind = .monitor then disturbBy true u.unit s else raiseContain x s
  | .fence, _ => raiseFence x s
  | .halt, _ => raiseHalt x s
  | .erase, _ => doErase [x] (if u.kind = .monitor then [monClass u.unit % 8] else []) s

/-- FLT_INJECT (R444): a GO write injects in FACTORY_TEST, and is ignored in every other mode with INJECT_DENIED set. -/
def fltInjectAt (v : Nat) (s : State) : State :=
  if !bit v 31 then s
  else if s.pkg.mode != .factoryTest then s.modFaults fun f => { f with injectDenied := true }
  else match injectUnit v, FCause.ofCode (bits v 7 0) with
    | some u, some c => inject u c s
    | _, _ => s

/-- The row: the access of R35 through a BAR (R110). -/
def execFltInject (v : Nat) (s : State) : Host.Outcome State Fault Refusal :=
  .next (s.gated 0 (fltInjectAt v s))

/-! ### The error pair (R440, R441) and the sideband summary (R443) -/

/-- The error pair shows fault; with VDD_AON absent the pins read 0/0, which receivers take as fault. -/
def State.pairFault (s : State) : Bool :=
  s.pkg.halted || s.pkg.zeroized || match s.pkg.mode with
    | .off => true | .backup => true | .boot => true | .selfTest => true | .zeroized => true | .factoryTest => true
    | .standby => false | .update => false | .debug => false
    | _ => s.regionsFenced && s.faults.pairFence

/-- The levels of FAULT_P and FAULT_N. -/
def State.pair (s : State) : Bool × Bool :=
  if s.pkg.mode == .off || s.pkg.mode == .backup then (false, false)
  else if s.pairFault then (false, true)
  else if s.pkg.fuses.pairDynamic then (s.faults.pairPhase, !s.faults.pairPhase)
  else (true, false)

/-- ERROR_PAIR_PHASE_TOGGLE (R440): in dynamic mode the healthy pair swaps every 500 µs. -/
def execErrorPairPhaseToggle (s : State) : Host.Outcome State Fault Refusal :=
  .next (
    if s.pkg.fuses.pairDynamic && !s.pairFault && decide (s.faults.pairSince + 500000 ≤ s.tick) then
      s.modFaults fun f => { f with pairPhase := !f.pairPhase, pairSince := s.tick }
    else s)

/-- Enabled regions that are not IN_SERVICE, as a mask. -/
def State.outMask (s : State) : Nat :=
  (regionNums.map fun r => flag (s.enabled r && !((s.region r).svc.state == .inService)) r).sum

/-- MGMT_ALIVE (R443): the running firmware has passed its heartbeat within the last 10 ms. -/
def State.mgmtAlive (s : State) : Bool := s.mgmt.alive

/-- The 56 bytes of the fault summary (R443). -/
def summary (s : State) : List Byte :=
  le 1 s.pkg.mode.code ++
    le 1 (flag s.pkg.halted 0 + flag s.pkg.zeroized 1 + flag s.pairFault 2 + flag (!s.faults.pending.isEmpty) 3 +
          flag s.mgmtAlive 4) ++
    le 1 s.faults.worst ++ le 1 s.outMask ++ le 4 s.faults.serious ++ le 8 s.tick ++ le 8 s.faults.head ++
    (match s.faults.lastSerious with
     | some r => r.bytes
     | none => zeros 32)

/-- SIDEBAND_SUMMARY_READ (R443): the responder answers without firmware. -/
def execSidebandSummaryRead (s : State) : Host.Outcome State Fault Refusal :=
  .next (if s.pkg.mode.mainPower then emit (.sideband (summary s)) s else s)

end Sys2Proof.Machine
end

