-- ==== Sys2Proof/Machine/Sys.lean ====
section
/-! DEFINITION. The SYS verbs (R44, R49) and KEY.ATTEST (R352). -/

namespace Sys2Proof.Machine

/-! ### SYS -/

/-- DEVICE of the variant (R1, R36). -/
def State.device (s : State) : Nat := s.variant.device

/-- FAMILY_MASK: families enabled by fuse and by firmware (R44, R476). -/
def State.familyMask (s : State) : Nat := ((List.range 17).map fun f => flag (familyOn s f && decide (1 ≤ f)) f).sum

/-- The 36 bytes of page 0 of SYS.FEATURES for instance `i` (R44). -/
def featuresPage0 (s : State) (i : Nat) : List Byte :=
  let c := (s.inst i).cfg
  le 2 1 ++ le 2 Config.cerdarMinor ++ le 4 (s.fwBuild 1) ++ le 4 (s.fwBuild 2) ++ le 2 s.device ++
    le 1 ((regionNums.map fun r => flag (s.inService r) r).sum) ++ le 1 verbPages ++ le 2 c.maxQp ++ le 2 256 ++ le 2 c.shelf ++
    le 2 c.cryst ++ le 1 s.pkg.fuses.maskFloor ++ zeros 1 ++ le 2 1 ++ le 4 s.familyMask ++ le 2 Config.hqcVersion ++ zeros 2

/-- A page of SYS.FEATURES (R44). -/
def featuresPage (s : State) (i page : Nat) : List Byte :=
  if page = 0 then featuresPage0 s i else ((verbTable.drop (508 * (page - 1))).take 508).flatMap VerbRec.bytes

/-- SYS.NOP (R49). -/
def sysNop (c : Cmd) (s : State) : State × Option Res :=
  orBad [paramZero c.job 0xFFFFFFFF, check (c.job.handle == nullHandle) .malformed] s fun s => (s, some okRes)

/-- SYS.FEATURES (R44): to an output on a submission queue, in the response on a mailbox. -/
def sysFeatures (c : Cmd) (s : State) : State × Option Res :=
  let j := c.job
  let page := bits j.param.toNat 7 0
  orBad [paramZero j 0xFFFFFF00, check (j.handle == nullHandle) .malformed,
      check (featuresLen page).isSome .paramUnsupported] s fun s =>
    let b := featuresPage s j.inst page
    (s, some (if j.mbx then respRes b else outTo j 0 b))

/-- SYS.STANDBY (R49): accepted only when no submission entry is outstanding, in a service mode; the package enters STANDBY once
the response is posted. -/
def sysStandby (c : Cmd) (s : State) : State × Option Res :=
  let j := c.job
  orBad [paramZero j 0xFFFFFFFF, bodyIs j 0, check (s.cmds.all (·.job.mbx) && s.pkg.mode.isService) .deferred] s fun s =>
    (commit j.id s, some okRes)

/-- SYS.NOP (R49). -/
def execSysNop (j : Nat) (s : State) : Host.Outcome State Fault Refusal := .next (runVerb 0x0100 j sysNop s)
/-- SYS.FEATURES (R44). -/
def execSysFeatures (j : Nat) (s : State) : Host.Outcome State Fault Refusal := .next (runVerb 0x0101 j sysFeatures s)
/-- SYS.STANDBY (R49). -/
def execSysStandby (j : Nat) (s : State) : Host.Outcome State Fault Refusal := .next (runVerb 0x0102 j sysStandby s)

/-! ### KEY.ATTEST (R352) -/

/-- The KEY_HASH of a statement (R352). -/
def keyHash (k : KeyRec) (secret pub nonce : List Byte) : List Byte :=
  if k.cls ≤ 1 then stdN 48 "SHA3-384" [pub] else stdN 48 "KMAC256 EXM-ATT-KCV" [secret, nonce]

/-- The 288-byte statement on key `k` (R352). -/
def statement (s : State) (j : Job) (k : KeyRec) (secret pub nonce : List Byte) : List Byte :=
  ascii "EXMATT01" ++ le 8 s.pkg.fuses.unit ++ le 8 j.acceptTick ++ le 8 j.jseq ++ le 8 k.keyId ++ le 4 k.handle.toNat ++
    le 4 k.pol.attr ++ le 4 k.pol.uses ++ le 1 k.alg ++ le 1 k.cls ++ le 1 k.pol.minOrder ++ le 1 s.lcState ++ le 1 j.acceptTq ++
    le 1 s.pkg.mode.code ++ zeros 6 ++ fit 32 nonce ++ keyHash k secret pub nonce ++ imgMeas s.mgmt.image ++
    (match regionNums.find? s.inService with
     | some r => imgMeas (s.regionImage r 2) ++ imgMeas (s.regionImage r 3)
     | none => zeros 96)

/-- One signing of `b` under the device identity key in pan `p` of region `r`, with its check at `a` (R124, R334, R352). -/
def identityOnce (ctx : String) (b rnd : List Byte) (r n p : Nat) (a : Nat × Nat) (s : State) : Except Status Bool × List Byte × State :=
  let s1 := (drawMask r p n s).2
  let sig := stdN 4723 "device identity signature" [le 8 s.pkg.fuses.unit, ascii ctx, rnd, le 1 p, b]
  let s2 := s1.modRegion r fun g => { g with lat := { g.lat with
    vbrDone := inc32 g.lat.vbrDone, vbrX := if a.1 = r then g.lat.vbrX else inc32 g.lat.vbrX } }
  (.ok (Config.stdOk "device identity signature" [identityPub s, ascii ctx, sig, b]), sig, s2)

/-- The masking order of a signing under the device identity key, which has no MIN_ORDER of its own (R115). -/
def identityOrder (s : State) (r : Nat) : Nat := max (s.defaultOrder r) s.pkg.fuses.maskFloor

/-- Mask bytes of a signing under the device identity key (R121). -/
def identityMask (s : State) (r : Nat) : Nat := maskScale (identityOrder s r) (maskBytes 2 0x13)

/-- Sign `b` under the device identity key with a context in region `r`. -/
def identitySign (ctx : String) (r : Nat) (b rnd : List Byte) (s : State) : Option (Except Status (List Byte) × State) :=
  let n := identityMask s r
  checkedSign r n (fun p a s => identityOnce ctx b rnd r n p a s) s

/-- Random bytes of a hedged signature of ALG 0x34 (R321). -/
def attestDraw : Nat := 32 + 56

/-- KEY.ATTEST (R352): the key lies in its home shelf, or is loaded there; the region of the command, the lowest-numbered one IN_SERVICE,
signs. Where no pan can sign yet, nothing is drawn. -/
def keyAttest (c : Cmd) (s : State) : State × Option Res :=
  let j := c.job
  orBad [checkHandle s j fun _ => true, paramZero j 0xFFFFFFFF, bodyIs j 32] s fun s =>
    match jobKey s j with
    | none => (s, some (stRes .badHandle))
    | some k =>
      let go (sk pub : List Byte) (s : State) : State × Option Res :=
        let b := statement s j k sk pub (slice j.args 0 32)
        if (sealPan s c.rgn (identityMask s c.rgn) none).isNone then (s, none)
        else withRandom attestDraw c s fun rnd s => match identitySign "EXM-KEY-ATTEST-1" c.rgn b rnd s with
          | none => (s, none)
          | some (.error bad, s1) => (s1, some (stRes bad))
          | some (.ok sig, s1) => (s1, some (outTo j 0 (b ++ sig)))
      withKey c s fun sk pub s =>
        if k.cls = 1 ∧ famOf k.alg = some .mce then mceKey c k s fun _ pk s => go [] pk s else go sk pub s

/-- KEY.ATTEST (R352). -/
def execKeyAttest (j : Nat) (s : State) : Host.Outcome State Fault Refusal := .next (runVerb 0x0208 j keyAttest s)

end Sys2Proof.Machine
end

