-- ==== Sys2Proof/Machine/JournalRows.lean ====
section
/-! DEFINITION. The journal and the bittern record from outside (R449-R457, R546): the JRNL verbs, checkpoints, batches,
reservations and the saved slots. -/

namespace Sys2Proof.Machine

/-! ### What the verbs return -/

/-- Entries of the on-chip ring in JPOS order (R451). -/
def ringEntries (s : State) : List JEntry :=
  let lo := s.jrn.jpos - 16384
  (List.range (s.jrn.jpos - lo)).filterMap fun k => tfind s.jrn.ring ((lo + k) % 16384)

/-- TARGET admits an entry (R546). -/
def admits (target : Nat) (e : JEntry) : Bool := target == 0xFF || (decide (e.type ≤ 2) && e.inst == target)

/-- JRNL.READ (R456, R546). -/
def jrnlRead (c : Cmd) (s : State) : State × Option Res :=
  let j := c.job
  let max' := fld j.args 8 2
  let target := fld j.args 10 1
  orBad [paramZero j 0xFFFFFFFF, bodyIs j 11, check (decide (1 ≤ max') && decide (max' ≤ 16384)) .malformed, famEnabled s j,
      check (j.admin || target == j.inst) .notPermitted] s fun s =>
    let sel := (ringEntries s).filter fun e => decide (fld j.args 0 8 ≤ e.jseq) && admits target e
    let cap := outCapacity j.frags 0
    if sel.isEmpty then (s, some (respRes (zeros 8)))
    else if cap < 64 then (s, some { status := .outputShort, need := 64 })
    else
      let w := sel.take (min max' (cap / 64))
      (s, some { status := .ok, outs := [(0, (w.map JEntry.image).flatten)],
                 resp := le 4 w.length ++ le 4 (if w.length < sel.length then 1 else 0) })

/-- The newest signed checkpoint (R450). -/
def newestCp (s : State) : Option Checkpoint := tfind s.jrn.store ((s.jrn.cpNext + 15) % 16)

/-- The 4,819 bytes of a checkpoint object. -/
def Checkpoint.object (unit : Nat) (c : Checkpoint) : List Byte := c.bytes unit ++ fit 4723 c.sig

/-- A checkpoint is being signed (R450). -/
def State.cpSigning (s : State) : Bool := s.jrn.cpOpen.isSome && !s.jrn.cpDeferred

/-- JRNL.CHECKPOINT (R456): NEW makes one first, behind one that is being signed, which a package without a region to sign it answers with ST_NO_REGION. -/
def jrnlCheckpoint (c : Cmd) (s : State) : State × Option Res :=
  let j := c.job
  let new := bit (fld j.args 0 1) 0
  orBad [paramZero j 0xFFFFFFFF, bodyIs j 1, check (decide (fld j.args 0 1 < 2)) .malformed, famEnabled s j] s fun s =>
    if new && !c.prog.counted then
      if s.cpSigning then (s, none) else ((takeCheckpoint s).modProg j.id fun p => { p with counted := true }, none)
    else if new && s.jrn.cpDeferred then (s, some (stRes .noRegion))
    else if new && s.jrn.cpOpen.isSome then (s, none)
    else match newestCp s with
      | some p => (s, some (outTo j 0 (p.object s.pkg.fuses.unit)))
      | none => (s, some okRes)

/-- JRNL.MIRROR_SET (R456, R451). -/
def jrnlMirrorSet (c : Cmd) (s : State) : State × Option Res :=
  let j := c.job
  let l := fld j.args 16 1
  orBad [paramZero j 0xFFFFFFFF, bodyIs j 18,
      check (decide (12 ≤ l) && decide (l ≤ 30) && decide (fld j.args 17 1 < 2)) .malformed, famEnabled s j] s fun s =>
    ((commit j.id s).modJrn fun x =>
      { x with mirrorBase := fld j.args 0 8, mirrorCp := fld j.args 8 8, mirrorLog2 := l,
               mirrorOn := fld j.args 17 1 == 1 }, some okRes)

/-! ### The bytes of the bittern area (R453) -/

/-- The 32 bytes of an event record. -/
def BEvent.bytes (e : BEvent) : List Byte :=
  le 8 e.tick ++ le 4 e.eseq ++ le 1 e.source ++ le 1 e.event ++ zeros 2 ++ le 8 e.arg0 ++ le 8 e.arg1

/-- A ring of `n` records, each in the slot of its ESEQ. -/
def ringBytes (n : Nat) (l : List BEvent) : List Byte :=
  ((List.range n).map fun k => match l.find? fun e => e.eseq % n == k with
    | some e => e.bytes
    | none => zeros 32).flatten

/-- The 32 bytes of a commit-table entry (R452). -/
def Commit.bytes (k : Commit) : List Byte :=
  le 8 k.jseq ++ le 8 k.acceptTick ++ le 1 k.inst ++ le 1 k.source ++ le 2 k.gen ++ le 2 k.opcode ++ le 2 k.tag ++
    le 8 (k.aux % 2 ^ 63 + flag k.committed 63)

/-- The kept part of an open batch (R89). -/
def Batch.bytes (b : Batch) : List Byte :=
  le 1 b.inst ++ le 1 b.sq ++ le 2 b.count ++ zeros 4 ++ le 8 b.low ++ le 8 b.high ++ le 8 b.firstTick

/-- The freeze block: R453 gives its contents and not their places, which are in its order (log 41). -/
def Freeze.bytes (unit : Nat) (z : Freeze) : List Byte :=
  fit 32768 (le 1 z.trigger ++ le 1 z.mode.code ++ le 1 z.worst ++ zeros 5 ++ le 8 z.tick ++ le 4 z.bootCount ++ zeros 4 ++
    fit 2048 ((z.faults.map FaultRec.bytes).flatten) ++ le 8 z.nextJseq ++ le 8 z.lastJpos ++ fit 32 z.chain ++
    (match z.haltCp with
     | some c => fit 96 (c.bytes unit)
     | none => zeros 96) ++ (z.batches.map Batch.bytes).flatten)

/-- The 256 KiB of the always-on area. -/
def btnImage (s : State) : List Byte :=
  ringBytes 2048 s.btn.pkgRing ++ (regionNums.map fun r => ringBytes 512 (tget (fun _ => []) s.btn.rgnRing r)).flatten ++
    fit 32768 ((s.btn.commits.map Commit.bytes).flatten) ++
    (match s.btn.freeze with
     | some z => z.bytes s.pkg.fuses.unit
     | none => zeros 32768)

/-- The 32-byte header of a slot (R455): its fields R455 names, in an order of the model's (log 41). -/
def BtnSlot.header (b : BtnSlot) : List Byte :=
  le 4 b.bootCount ++ le 1 b.trigger ++ le 1 (flag b.lost 0 + flag b.committed 1) ++ zeros 26

/-- The signed record of a slot. -/
def BtnSlot.record (b : BtnSlot) : List Byte := b.header ++ b.body ++ b.sig

/-- JRNL.BTN_READ (R456). -/
def jrnlBtnRead (c : Cmd) (s : State) : State × Option Res :=
  let j := c.job
  let n := fld j.args 0 1
  orBad [paramZero j 0xFFFFFFFF, bodyIs j 1, check (decide (n < 8) || n == 0xFF) .malformed, famEnabled s j] s fun s =>
    if n = 0xFF then (s, some (outTo j 0 (btnImage s)))
    else match tfind s.btn.slots n with
      | some b => (s, some (outTo j 0 b.record))
      | none => (s, some okRes)

/-- JRNL.BTN_LIST (R456). -/
def jrnlBtnList (c : Cmd) (s : State) : State × Option Res :=
  let j := c.job
  orBad [paramZero j 0xFFFFFFFF, bodyIs j 0, famEnabled s j] s fun s =>
    (s, some (outTo j 0 ((regionNums.map fun n => match tfind s.btn.slots n with
      | some b => b.header
      | none => zeros 32).flatten)))

/-- JRNL.READ (R546). -/
def execJrnlRead (j : Nat) (s : State) : Host.Outcome State Fault Refusal := .next (runVerb 0x0A01 j jrnlRead s)
/-- JRNL.CHECKPOINT (R456). -/
def execJrnlCheckpoint (j : Nat) (s : State) : Host.Outcome State Fault Refusal := .next (runVerb 0x0A02 j jrnlCheckpoint s)
/-- JRNL.MIRROR_SET (R451). -/
def execJrnlMirrorSet (j : Nat) (s : State) : Host.Outcome State Fault Refusal := .next (runVerb 0x0A03 j jrnlMirrorSet s)
/-- JRNL.BTN_READ (R456). -/
def execJrnlBtnRead (j : Nat) (s : State) : Host.Outcome State Fault Refusal := .next (runVerb 0x0A04 j jrnlBtnRead s)
/-- JRNL.BTN_LIST (R456). -/
def execJrnlBtnList (j : Nat) (s : State) : Host.Outcome State Fault Refusal := .next (runVerb 0x0A05 j jrnlBtnList s)

/-! ### Rows of the journal -/

/-- The journal is served: main power, past BOOT, no HALT. -/
def State.journals (s : State) : Bool := s.pkg.mode.mainPower && !s.pkg.halted && s.pkg.mode != .boot && s.pkg.mode != .standby

/-- JSEQ_RESERVE_COMPLETE (R449): the raising record is complete. -/
def execJseqReserveComplete (s : State) : Host.Outcome State Fault Refusal :=
  .next (
    if s.jrn.raising then
      let l := s.jrn.limit + jseqBlock
      journalEvent 8 l 0 none 0 (mlog 2 (le 8 l) (s.modJrn fun j => { j with limit := l, raising := false }))
    else s)

/-- BATCH_TIMER_EXPIRY (R89): batches whose first completion is 1 ms old close. -/
def execBatchTimerExpiry (s : State) : Host.Outcome State Fault Refusal :=
  .next (if s.pkg.halted then s else closeBatches (fun b => decide (b.firstTick + 1000000 ≤ s.tick)) s)

/-- CHECKPOINT_DUE (R450): one that is being signed is finished first. -/
def execCheckpointDue (s : State) : Host.Outcome State Fault Refusal :=
  .next (
    if s.journals && decide (0 < s.jrn.jpos) && !s.cpSigning &&
        (decide (65536 ≤ s.jrn.cpSince) || decide (s.jrn.cpTick + 1000000000 ≤ s.tick)) then takeCheckpoint s
    else s)

/-- A signature of the firmware's own under the device identity key: made on the lowest-numbered IN_SERVICE region, checked, with random
bytes of its reservoir (R450, R455, R124, R321). None while there is no region, pan or random byte for it; a signing that fails is tried
again (DESIGN CHOICE, log 110). -/
def firmwareSign (ctx : String) (b : List Byte) (s : State) : Option (Except Status (List Byte) × State) :=
  match regionNums.find? s.inService with
  | none => none
  | some r =>
    if (s.region r).rng.reservoir < attestDraw then none
    else
      let (rnd, s1) := drawBytes attestDraw
        (s.modRegion r fun g => { g with rng := { g.rng with reservoir := g.rng.reservoir - attestDraw } })
      identitySign ctx r b rnd s1

/-- Store and mirror a signed checkpoint, and write its TYPE 4 entry (R450, R451). -/
def storeCheckpoint (cp : Checkpoint) (s : State) : State :=
  let n := s.jrn.cpNext
  let s1 := s.modJrn fun j => { j with
    store := tins n cp j.store, cpNext := (n + 1) % 16, cpCount := inc32 j.cpCount, cpHalt := none,
    cpOpen := if j.cpHalt.isSome then j.cpOpen else none, cpDeferred := j.cpHalt.isSome && j.cpDeferred }
  let s2 := if s.jrn.mirrorOn then
      hostWrite 0 (s.jrn.mirrorCp + 8192 * n) (cp.object s.pkg.fuses.unit) false s1 else s1
  let (q, s3) := takeJseq s2
  appendEntry { jseq := q, w08 := s.tick, w10 := s.tick, inst := 0, type := 4, gen := 0, w1C := 0, w1E := 0,
                status := 0, source := 8, flags := 0, aux := cp.lastJseq, result := le 8 n, chain := [] } s3

/-- CHECKPOINT_SIGNED (R450): the signature under the device identity key is complete, the object stored and mirrored, and
the TYPE 4 entry written. -/
def execCheckpointSigned (s : State) : Host.Outcome State Fault Refusal :=
  .next (
    match s.jrn.cpHalt.or s.jrn.cpOpen with
    | none => s
    | some b =>
      if s.journals && !s.pkg.zeroized then
        match firmwareSign "EXM-JRNL-CP-1" (b.bytes s.pkg.fuses.unit) s with
        | none => s
        | some (.error _, s1) => s1
        | some (.ok sig, s1) => storeCheckpoint { b with sig := sig } s1
      else s)

/-- Enter the open STATE_CHANGING commands in the reopened commit table (R452). -/
def reenter (s : State) : State :=
  (s.cmds.filter fun c => c.job.has (·.sc) && c.job.jseq != 0).foldl (fun s c =>
    if c.prog.committed then
      (enterCommit c s).modBtn fun b => { b with commits := b.commits.map fun k =>
        if k.jseq == c.job.jseq then { k with committed := true, aux := c.prog.aux } else k }
    else enterCommit c s) s

/-- The signed copy of a frozen area is complete in the oldest slot: the area is cleared and reopened, the events that waited enter its
ring, and BITTERN_SAVED is journalled (R455). -/
def saveBittern (z : Freeze) (body sig : List Byte) (s : State) : State :=
  let n := s.btn.nextSlot
  let b : BtnSlot := { bootCount := z.bootCount, trigger := z.trigger, lost := false, committed := true, body := body, sig := sig }
  let s1 := s.modBtn fun x => { x with
    slots := tins n b x.slots, nextSlot := (n + 1) % 8, copyPending := false, freeze := none, pkgRing := [],
    rgnRing := [], commits := [], waiting := [] }
  let s2 := s.btn.waiting.foldl (fun s e => s.modBtn fun x => { x with
    pkgRing := keepLast 2048 (x.pkgRing ++ [{ e with eseq := x.pkgSeq }]), pkgSeq := (x.pkgSeq + 1) % 2 ^ 32 }) s1
  journalEvent 0x0A n z.bootCount none 0 (reenter (emit (.flash "bittern slot" b.record) s2))

/-- BITTERN_SLOT_WRITTEN (R455). -/
def execBitternSlotWritten (s : State) : Host.Outcome State Fault Refusal :=
  .next (
    match s.btn.freeze with
    | none => s
    | some z =>
      if s.btn.copyPending && s.journals && !s.pkg.zeroized then
        let body := btnImage s
        match firmwareSign "EXM-BITTERN-1" body s with
        | none => s
        | some (.error _, s1) => s1
        | some (.ok sig, s1) => saveBittern z body sig s1
      else s)

end Sys2Proof.Machine
end

