-- ==== Sys2Proof/Machine/Card.lean ====
section
/-! DEFINITION. The custody card port (R511-R523): insertion and removal, the two-phase record, and the CARD verbs. -/

namespace Sys2Proof.Machine

/-- Change the card port. -/
def State.modCard (s : State) (f : Card → Card) : State := { s with card := f s.card }

/-- Change the operation that runs on the card. -/
def State.modOp (s : State) (f : CardOp → CardOp) : State := s.modCard fun c => { c with op := c.op.map f }

/-- The port works: main power, not STANDBY, no HALT, and PERST_N high (R515). -/
def State.cardPort (s : State) : Bool :=
  s.pkg.mode.mainPower && s.pkg.mode != .standby && !s.pkg.halted && s.pkg.perstHigh

/-- Blocks that `n` body bytes take. -/
def blocksOf (n : Nat) : Nat := (n + 511) / 512

/-- BODY_LEN of a record header (R517). -/
def recLen (h : List Byte) : Nat := fld h 0x0C 4
/-- TYPE of a record header. -/
def recType (h : List Byte) : Nat := fld h 8 1
/-- RECORD_ID of a record header. -/
def recId (h : List Byte) : Nat := fld h 0x18 8

/-- The header block of a record is right in its magic, and lies with its commit block on a card of `blocks` blocks (R517, R518). -/
def CardRec.begins (r : CardRec) (blocks : Nat) : Bool :=
  r.header.take 8 == ascii "EXMREC01" && decide (r.lba + 2 + blocksOf (recLen r.header) ≤ blocks)

/-- The committed records that follow each other from block `lba` on (R518): the scan stops at the first block that does not begin
one. -/
def committedRun (blocks : Nat) : Nat → List CardRec → List CardRec
  | _, [] => []
  | lba, r :: rs =>
    if r.lba = lba ∧ r.begins blocks then r :: committedRun blocks (lba + 2 + blocksOf (recLen r.header)) rs else []

/-- The fixed and reserved fields of a record's header block hold what R517 gives (R10, R11). -/
def headerFits (h : List Byte) : Bool :=
  let b := fit 512 h
  fld b 9 1 == 1 && zero? b 0x0A 2 && zero? b 0x48 440 && decide (1 ≤ recLen b) && decide (recLen b ≤ 1048576)

/-- The append point: past the last committed record (R518). -/
def Card.append (c : Card) : Nat :=
  match c.recs.getLast? with
  | some r => r.lba + 2 + blocksOf (recLen r.header)
  | none => 2

/-- The header block of a card (R516). -/
def cardHeader (id unit : Nat) : List Byte :=
  let b := ascii "EXMCRD01" ++ le 1 1 ++ zeros 3 ++ le 4 2 ++ le 8 id ++ le 8 unit
  fit 512 (b ++ sha3 b)

/-- The header block of a record (R517). -/
def recHeader (ty len src id tick : Nat) (body : List Byte) : List Byte :=
  fit 512 (ascii "EXMREC01" ++ le 1 ty ++ le 1 1 ++ zeros 2 ++ le 4 len ++ le 8 src ++ le 8 id ++ le 8 tick ++ sha3 body)

/-- The commit block of the record whose header block lies at `h` (R517). -/
def commitBlock (h : Nat) (hdr : List Byte) : List Byte :=
  let c := h + 1 + blocksOf (recLen hdr)
  fit 512 (ascii "EXMCMT01" ++ le 4 h ++ le 4 (c + 1) ++ sha3 (hdr.take 0x48))

/-- CRD_STATUS (R523). -/
def State.crdStatus (s : State) : Nat :=
  let c := s.card
  flag c.present 0 + flag c.powered 1 + c.mode % 4 * 4 + flag c.formatted 4 + flag c.op.isSome 5 + flag c.v18 6 +
    c.phase % 64 * 128

/-! ### Insertion and removal -/

/-- The bus mode for `m`, the lower of what the card reports and MAX_MODE: default or high speed at 3.3 V, and UHS-I, SDR50 at
least, at 1.8 V (R511, R523). -/
def modeOnRail (v18 : Bool) (m : Nat) : Nat := if v18 then min 3 (max 2 m) else min 1 m

/-- CARD_INSERT (R512, R514, R518): after 10 ms of low level the port powers the card and scans it. The card's capacity, header
(CARD_ID and FORMAT_UNIT), the records with a matching commit block, of which the scan follows those that lie end to end from LBA 2, and what it does at initialisation come with the command; a card that does not
initialise is left unpowered. `mode` is the fastest bus mode the card reports, `phase` the tuned sampling phase. -/
def execCardInsert (ns blocks : Nat) (hdr : Option (Nat × Nat)) (recs : List CardRec) (init : Bool) (mode phase : Nat)
    (s : State) : Host.Outcome State Fault Refusal :=
  .next (
    let c := s.card
    if s.cardPort && !c.present && decide (10000000 ≤ ns) && decide (c.notBefore ≤ s.tick) then
      let m := min mode c.maxMode
      let seated : Card := { c with
        present := true, detLow := true, lowSince := s.tick - ns, discharge := false, inserts := inc32 c.inserts, blocks := blocks }
      s.modCard fun _ =>
        if !c.railOk then seated
        else if !init then { seated with powered := false, errors := inc32 c.errors }
        else
          { seated with
              powered := true, mode := modeOnRail c.v18 m,
              phase := if c.v18 then phase % 64 else 0, formatted := hdr.isSome, cardId := (hdr.map (·.1)).getD 0,
              formatUnit := (hdr.map (·.2)).getD 0,
              recs := if hdr.isSome then committedRun blocks 2 recs else [] }
    else s)

/-- End the card operation of command `j`. -/
def endCard (r : Res) (s : State) : State :=
  match s.card.op with
  | none => s
  | some o =>
    let s1 := finish o.job r (s.modCard fun c => { c with op := none })
    if s1.card.ejecting then s1.modCard fun c => c.off s.tick else s1

/-- Power the card down in the order of R514; an operation before its commit point ends with ST_CARD_REMOVED (R515, R522). -/
def cardDown (s : State) : State :=
  let s1 := match s.card.op with
    | none => s
    | some o =>
      if o.committed then endCard okRes s
      else endCard (stRes .cardRemoved) (s.modCard fun c => { c with removedOp := inc32 c.removedOp })
  s1.modCard fun c => c.off s.tick

/-- CARD_REMOVE (R514): 2 µs of high level. -/
def execCardRemove (ns : Nat) (s : State) : Host.Outcome State Fault Refusal :=
  .next (
    if s.card.present && decide (2000 ≤ ns) then
      (cardDown s).modCard fun c => { c with present := false, detLow := false, blocks := 0, recs := [], cardId := 0,
                                             formatUnit := 0 }
    else s)

/-- CARD_EJECT (R515): CRD_CTRL.EJECT written; after the operation in progress. -/
def cardEjectAt (s : State) : State :=
  if s.card.op.isSome then s.modCard fun c => { c with ejecting := true }
  else if s.card.powered then cardDown s else s

/-- The row: the access of R35 through a BAR (R110). -/
def execCardEject (s : State) : Host.Outcome State Fault Refusal :=
  .next (s.gated 0 (cardEjectAt s))

/-! ### Operations -/

/-- Write blocks to the card. -/
def writeBlocks (lba : Nat) (b : List Byte) (s : State) : State := emit (.card lba b) s

/-- Send what the phase of an operation writes (R516, R517). -/
def sendPhase (o : CardOp) (s : State) : State :=
  match o.phase with
  | .header0 => writeBlocks 0 o.header s
  | .header1 => writeBlocks 1 o.header s
  | .zero => writeBlocks 2 (zeros 512) s
  | .data => writeBlocks o.lba (o.header ++ fit (512 * blocksOf o.body.length) o.body) s
  | .commit => writeBlocks (o.lba + 1 + blocksOf o.body.length) (commitBlock o.lba o.header) s
  | .read => s

/-- Start an operation on the card. -/
def startOp (o : CardOp) (s : State) : State := sendPhase o (s.modCard fun c => { c with op := some o })

/-- Go on with the next phase of an operation. -/
def nextPhase (p : CardPhase) (s : State) : State :=
  match s.card.op with
  | none => s
  | some o =>
    let o' := { o with phase := p, busy := false, retried := false }
    sendPhase o' (s.modCard fun c => { c with op := some o' })

/-- An error on the bus: counted, retried once, and the second one ends the operation (R512). -/
def cardError (s : State) : State :=
  let s1 := s.modCard fun c => { c with errors := inc32 c.errors }
  match s1.card.op with
  | none => s1
  | some o =>
    if o.retried then endCard (stRes .cardIo) s1
    else
      let o' := { o with retried := true, busy := false }
      sendPhase o' (s1.modCard fun c => { c with op := some o' })

/-- The status of a key update message under R353, and its effect under R354. -/
def submitKum (j : Nat) (b : List Byte) (s : State) : Res × State :=
  match firstBad (check (s.lcState != 4 && s.lcState != 5) .lifecycle :: kumChecks s b) with
  | some st => (stRes st, s)
  | none => (okRes, carryKum (some j) b s)

/-- CARD_COMMAND_RESPONSE (R512, R513): a response or the last data block, with its CRC good or not, or its timeout. What was
written is busy from here; what was read is checked and used. -/
def execCardCommandResponse (ok : Bool) (s : State) : Host.Outcome State Fault Refusal :=
  .next (
    match s.card.op with
    | none => s
    | some o =>
      if o.busy then s
      else if !ok then cardError s
      else match o.phase with
        | .read =>
          if slice o.header 0x28 32 = sha3 o.body then
            let (r, s1) := submitKum o.job o.body s
            endCard r s1
          else endCard (stRes .cardFormat) s
        | _ => s.modOp fun o => { o with busy := true, busySince := s.tick })

/-- CARD_BUSY_END (R513, R517, R522): DAT0 returns high, the write has reached the card. -/
def execCardBusyEnd (s : State) : Host.Outcome State Fault Refusal :=
  .next (
    match s.card.op with
    | none => s
    | some o =>
      if !o.busy then s
      else match o.phase with
        | .header0 => nextPhase .header1 s
        | .header1 =>
          let s1 := (commit o.job s).modCard fun c =>
            { c with formatted := true, cardId := fld o.header 0x10 8, formatUnit := fld o.header 0x18 8 }
          nextPhase .zero (s1.modOp fun o => { o with committed := true })
        | .zero => endCard okRes (s.modCard fun c => { c with recs := [] })
        | .data => nextPhase .commit s
        | .commit =>
          endCard (respRes (le 1 1 ++ zeros 3 ++ le 4 o.lba))
            (s.modCard fun c => { c with recs := c.recs ++ [{ lba := o.lba, header := o.header, body := o.body }] })
        | .read => s)

/-- CARD_BUSY_TIMEOUT (R513): busy for longer than 250 ms. -/
def execCardBusyTimeout (s : State) : Host.Outcome State Fault Refusal :=
  .next (
    if s.card.op.any fun o => o.busy && decide (o.busySince + 250000000 < s.tick) then cardError s else s)

/-! ### Verbs (R519) -/

/-- The checks of a verb that needs a card (R516, R519, R532). -/
def cardChecks (s : State) (j : Job) (format : Bool) : List (Option Status) :=
  let c := s.card
  [paramZero j 0xFFFFFFFF, famEnabled s j, check c.railOk .cardIo, check c.present .cardAbsent, check c.powered .cardIo,
   check (format || c.formatted) .cardFormat]

/-- CARD.STATUS (R519). -/
def cardStatus (c : Cmd) (s : State) : State × Option Res :=
  let k := s.card
  orBad [paramZero c.job 0xFFFFFFFF, bodyIs c.job 0, famEnabled s c.job, check k.railOk .cardIo] s fun s =>
    (s, some (respRes (le 4 s.crdStatus ++ le 8 k.cardId ++ le 4 (if k.formatted then k.append else 0) ++ le 4 k.blocks)))

/-- CARD.FORMAT (R516, R522): CARD_ID comes of the DRBG of a region, and R321 takes nothing from the reservoir for it. -/
def cardFormat (c : Cmd) (s : State) : State × Option Res :=
  let j := c.job
  orBad (bodyIs j 4 :: check (zero? j.args 0 4) .malformed :: cardChecks s j true ++ [check s.anyInService .noRegion]) s fun s =>
    let (id, s1) := drawNat s
    let o : CardOp := { job := j.id, phase := .header0, lba := 0, header := cardHeader (id % 2 ^ 64) s.pkg.fuses.unit }
    (startOp o (s1.modProg j.id fun p => { p with phase := .running }), none)

/-- What an export writes: TYPE, RECORD_ID and body (R520). -/
def exportOf (s : State) (j : Job) : Except Status (Nat × Nat × List Byte) :=
  let src := fld j.args 0 1
  let n := fld j.args 1 1
  if src = 1 ∧ n < 8 then
    match tfind s.btn.slots n with
    | some b => .ok (1, b.bootCount, b.record)
    | none => .error .deferred
  else if src = 2 ∧ n = 0 then
    match newestCp s with
    | some cp => .ok (2, cp.lastJseq, cp.object s.pkg.fuses.unit)
    | none => .error .deferred
  else .error .paramUnsupported

/-- The block of the committed record of this unit with a TYPE and RECORD_ID (R520). -/
def Card.committed? (c : Card) (unit ty id : Nat) : Option Nat :=
  (c.recs.find? fun r => recType r.header == ty && recId r.header == id && fld r.header 0x10 8 == unit).map (·.lba)

/-- Write a record at the append point, unless an equal one is committed there already (R517, R518, R520). -/
def exportRecord (j : Job) (ty id : Nat) (body : List Byte) (s : State) : State × Option Res :=
  let c := s.card
  let h := recHeader ty body.length s.pkg.fuses.unit id s.tick body
  match c.committed? s.pkg.fuses.unit ty id with
  | some l => (s, some (respRes (le 1 0 ++ zeros 3 ++ le 4 l)))
  | none =>
    if c.blocks < c.append + 2 + blocksOf body.length then (s, some (stRes .cardFull))
    else
      (startOp { job := j.id, phase := .data, lba := c.append, header := h, body := body }
        (s.modProg j.id fun p => { p with phase := .running }), none)

/-- Go on with the material of the key that an export attests: that of its home shelf, or of its blob, which the device reads from its
recorded address and loads into the shelf of region `c.rgn` (R345, R352); `c` carries the key's handle. -/
def exportKey (c : Cmd) (k : KeyRec) (s : State) (f : List Byte → List Byte → State → State × Option Res) : State × Option Res :=
  let take (e : ShelfKey) (s : State) : State × Option Res :=
    let (x, s1) := e.toCell (identityOrder s c.rgn) s
    if k.cls = 1 ∧ famOf k.alg = some .mce then mceKey c k s1 fun _ pk s => f [] pk s else f x.secret x.pub s1
  match s.onShelf k.home k.inst k.keyId with
  | some e => take e s
  | none =>
    if !s.vault.rootReady then (s, none)
    else match tfind c.job.parts 254 with
      | none =>
        if c.job.missing.contains 254 then (s, none)
        else (hostRead (.key c.job.id) k.inst k.blobAddr k.blobLen false (s.modCmd c.job.id fun d =>
          { d with job := { d.job with handle := k.handle, missing := d.job.missing ++ [254] } }), none)
      | some b =>
        let s1 := unwrapped c.rgn k.inst b s
        if !(blobOk s k.inst none b && (readHdr b).keyId == k.keyId) then (countBlobFail s1, some (stRes .blobInvalid))
        else
          let (e, s2) := shelfOf k (blobKey s k.inst b) (s1.modKey k.handle fun k => { k with home := c.rgn })
          take e ((shelve c.rgn e s2).2.modCmd c.job.id fun d => { d with job := { d.job with parts := tdel d.job.parts 254 } })

/-- CARD.EXPORT of SOURCE 4 (R520): the statement of KEY.ATTEST on the key, signed on the lowest-numbered IN_SERVICE region, and the
key's public key. -/
def exportAttest (c : Cmd) (s : State) : State × Option Res :=
  let h : U32 := BitVec.ofNat 32 (fld c.job.args 4 4)
  let j := { c.job with handle := h }
  match checkHandle s j (fun _ => true), s.key? h, regionNums.find? s.inService with
  | some st, _, _ => (s, some (stRes st))
  | none, none, _ => (s, some (stRes .badHandle))
  | none, some _, none => (s, some (stRes .noRegion))
  | none, some k, some r =>
    match s.card.committed? s.pkg.fuses.unit 4 k.keyId with
    | some l => (s, some (respRes (le 1 0 ++ zeros 3 ++ le 4 l)))
    | none => exportKey { c with job := j, prog := { c.prog with region := some r } } k s fun secret pub s =>
        let b := statement s j k secret pub (le 8 s.card.cardId ++ zeros 24)
        match firmwareSign "EXM-KEY-ATTEST-1" b s with
        | none => (s, none)
        | some (.error bad, s1) => (s1, some (stRes bad))
        | some (.ok sig, s1) => exportRecord c.job 4 k.keyId (b ++ sig ++ pub) s1

/-- CARD.EXPORT (R519, R520). -/
def cardExport (c : Cmd) (s : State) : State × Option Res :=
  let j := c.job
  let src := fld j.args 0 1
  orBad (bodyIs j (if src = 4 then 12 else 4) ::
      check (zero? j.args 2 2 && (src != 4 || zero? j.args 8 4)) .malformed :: cardChecks s j false) s fun s =>
    if src = 4 ∧ fld j.args 1 1 = 0 then exportAttest c s
    else match exportOf s j with
      | .error st => (s, some (stRes st))
      | .ok (ty, id, b) => exportRecord j ty id b s

/-- CARD.LIST (R519). -/
def cardList (c : Cmd) (s : State) : State × Option Res :=
  let j := c.job
  orBad (bodyIs j 4 :: check (zero? j.args 2 2) .malformed :: cardChecks s j false) s fun s =>
    (s, some (respRes (((s.card.recs.drop (56 * fld j.args 0 2)).take 56).flatMap fun r => fit 72 r.header)))

/-- CARD.IMPORT_KUM (R521): the record is read in full before its message is submitted; a header with a reserved field that is not
zero is refused (R10). -/
def cardImportKum (c : Cmd) (s : State) : State × Option Res :=
  let j := c.job
  orBad (bodyIs j 8 :: cardChecks s j false) s fun s =>
    match s.card.recs.find? fun r => recType r.header == 3 && recId r.header == fld j.args 0 8 with
    | none => (s, some (stRes .paramUnsupported))
    | some r =>
      if !headerFits r.header then (s, some (stRes .malformed))
      else (startOp { job := j.id, phase := .read, lba := r.lba, header := r.header, body := r.body }
        (s.modProg j.id fun p => { p with phase := .running }), none)

/-- CARD.STATUS (R519). -/
def execCardStatus (j : Nat) (s : State) : Host.Outcome State Fault Refusal := .next (runVerb 0x0F01 j cardStatus s)
/-- CARD.FORMAT (R519). -/
def execCardFormat (j : Nat) (s : State) : Host.Outcome State Fault Refusal := .next (runVerb 0x0F02 j cardFormat s)
/-- CARD.EXPORT (R519). -/
def execCardExport (j : Nat) (s : State) : Host.Outcome State Fault Refusal := .next (runVerb 0x0F03 j cardExport s)
/-- CARD.LIST (R519). -/
def execCardList (j : Nat) (s : State) : Host.Outcome State Fault Refusal := .next (runVerb 0x0F04 j cardList s)
/-- CARD.IMPORT_KUM (R519). -/
def execCardImportKum (j : Nat) (s : State) : Host.Outcome State Fault Refusal := .next (runVerb 0x0F05 j cardImportKum s)

end Sys2Proof.Machine
end

