-- ==== Sys2Proof/Machine/Hash.lean ====
section
/-! DEFINITION. The digest verbs (R167-R177), SLH-DSA, LMS and XMSS (R184-R195) and the register-fed digest window
(R178-R182). -/

namespace Sys2Proof.Machine

/-! ### Digests -/

/-- The verb takes the function (R170). -/
def digTakes (op f : Nat) : Bool :=
  match op with
  | 0x0501 => (decide (1 ≤ f) && decide (f ≤ 6)) || (decide (0x11 ≤ f) && decide (f ≤ 0x14)) ||
      (decide (0x21 ≤ f) && decide (f ≤ 0x24))
  | 0x0502 => (decide (0x31 ≤ f) && decide (f ≤ 0x33)) || f == 0x41 || f == 0x42
  | 0x0503 => (decide (0x31 ≤ f) && decide (f ≤ 0x33)) || f == 0x41 || f == 0x42
  | _ => (decide (0x51 ≤ f) && decide (f ≤ 0x55)) || (decide (0x61 ≤ f) && decide (f ≤ 0x63))

/-- Digest bytes of a function; 0 where OUT_LEN gives the length (R170). -/
def digestLen : Nat → Nat := look
  [(0x01, 28), (0x02, 32), (0x03, 48), (0x04, 64), (0x05, 28), (0x06, 32), (0x11, 28), (0x12, 32), (0x13, 48),
   (0x14, 64), (0x31, 32), (0x32, 48), (0x33, 64), (0x61, 32), (0x62, 48), (0x63, 64)]

/-- OUT_LEN (R171). -/
def Job.outLen (j : Job) : Nat := fld j.args 0 4

/-- OUT_LEN within R171 for the function. -/
def outLenOk (f n : Nat) : Bool :=
  if f ≤ 0x14 then n == 0
  else if f ≤ 0x24 then decide (1 ≤ n) && decide (n ≤ 65536)
  else if f ≤ 0x33 then decide (10 ≤ n) && decide (n ≤ digestLen f)
  else if f ≤ 0x42 then decide (4 ≤ n) && decide (n ≤ 64)
  else decide (1 ≤ n) && decide (n ≤ 65536) && (decide (f ≤ 0x55) || decide (n ≤ 255 * digestLen f))

/-- Operand lengths within R172. -/
def digLens (j : Job) : Bool :=
  let l (n : Nat) : Nat := (j.operand n).length
  match j.opcode with
  | 0x0501 => decide (l 2 ≤ 255) && decide (l 3 ≤ 255)
  | 0x0504 => decide (l 0 ≤ 255) && decide (l 3 ≤ 1024) &&
      (!j.pbit 8 || (decide (1 ≤ l 2) && decide (l 2 ≤ 256)))
  | op => decide (l 3 ≤ 255) && (!j.pbit 8 || (decide (16 ≤ l 2) && decide (l 2 ≤ 256))) &&
      (op != 0x0503 || l 1 == j.outLen)

/-- The use bit of a DIG verb (R338). -/
def digUse (op : Nat) : Nat :=
  match op with
  | 0x0502 => 7
  | 0x0503 => 8
  | _ => 12

/-- R52 for a DIG verb: a GENERIC key of class 2 or 3, its use, and NON_EXPORTABLE for DIG.KDF (R173, R338). -/
def digKey (s : State) (j : Job) : Option Status :=
  if j.handle = nullHandle then none
  else keyChecks s j [2, 3] (· == 0xE8) (digUse j.opcode) fun k => j.opcode != 0x0504 || !k.attr 1

/-- The LONG_TERM rule (R173). -/
def longTermRule (s : State) (j : Job) : Option Status :=
  (jobKey s j).bind fun k =>
    check (!k.attr 2 || [0x41, 0x42, 0x54, 0x55].contains j.alg) .keyPolicy

/-- The checks of R174 in order, up to step 5. -/
def digChecks (s : State) (j : Job) : List (Option Status) :=
  [digKey s j,
   check (j.param.toNat &&& 0xFFFFFE00 == 0 && !(j.opcode == 0x0501 && j.pbit 8) && j.args.length == 16 &&
     zero? j.args 4 12) .malformed,
   check (digTakes j.opcode j.alg && outLenOk j.alg j.outLen) .paramUnsupported,
   famEnabled s j, check (digLens j) .lengthMismatch, longTermRule s j]

/-- The key of a DIG job: operand 2, or the handle's. -/
def digSecret (j : Job) (sk : List Byte) : List Byte := if j.pbit 8 then j.operand 2 else sk

/-- Bytes a DIG job makes. -/
def digBytes (j : Job) : Nat := if j.outLen = 0 then digestLen j.alg else j.outLen

/-- The energy of a digest or MAC of the message (R183). -/
def digEnergy (c : Cmd) (s : State) : Option Nat :=
  c.figure (digestNj c.job.alg c.prog.order (c.job.operand 0).length (s.efficient c.rgn))

/-- A masked KMAC draws mask bytes in its lattice cell; how many the spec does not state (R173, log 85). -/
def withKmacMask (c : Cmd) (s : State) (k : State → State × Option Res) : State × Option Res :=
  if s.kmacMasked c.job then withMask (Config.kmacMask c.prog.order (c.job.operand 0).length) c s k else k s

/-- DIG.HASH (R170). -/
def digHash (c : Cmd) (s : State) : State × Option Res :=
  let j := c.job
  orBad (digChecks s j) s fun s =>
    (s, some (Res.withNj (digEnergy c s) <| outTo j 1 (stdN (digBytes j) "hash or XOF of R170" [le 1 j.alg, j.operand 0, j.operand 2, j.operand 3])))

/-- The tag of a MAC job (R172, R173). -/
def macTag (j : Job) (key : List Byte) : List Byte :=
  stdN j.outLen "MAC of R170" [le 1 j.alg, key, j.operand 0, j.operand 3]

/-- DIG.MAC (R173). -/
def digMac (c : Cmd) (s : State) : State × Option Res :=
  let j := c.job
  orBad (digChecks s j) s fun s => countThen c 1 (keyLimit s j) s fun s => withKmacMask c s fun s => withKey c s fun sk _ s =>
    (s, some ((outTo j 1 (macTag j (digSecret j sk))).withNj (digEnergy c s)))

/-- DIG.MAC_VERIFY (R177). -/
def digMacVerify (c : Cmd) (s : State) : State × Option Res :=
  let j := c.job
  orBad (digChecks s j) s fun s => countThen c 1 (keyLimit s j) s fun s => withKmacMask c s fun s => withKey c s fun sk _ s =>
    (s, some (Res.withNj (digEnergy c s) (if macTag j (digSecret j sk) == j.operand 1 then okRes else stRes .tagFail)))

/-- DIG.KDF (R172). -/
def digKdf (c : Cmd) (s : State) : State × Option Res :=
  let j := c.job
  orBad (digChecks s j) s fun s => countThen c 1 (keyLimit s j) s fun s => withKmacMask c s fun s => withKey c s fun sk _ s =>
    (s, some (outTo j 1 (stdN j.outLen "KDF" [le 1 j.alg, digSecret j sk, j.operand 0, j.operand 3])))

/-- The shapes of the DIG verbs (R171, R172). -/
def shapeDig : ShapeFn := fun op param args =>
  let f := bits param 7 0
  let ko := bit param 8
  let n := if fld args 0 4 = 0 then digestLen f else fld args 0 4
  let out : Nat × Option Nat := (1, if digTakes op f then some n else none)
  let k : List Nat := if ko then [2] else []
  let sOp : List Nat := if f = 0x41 ∨ f = 0x42 then [3] else []
  match op with
  | 0x0501 => { ins := [0] ++ (if f = 0x23 ∨ f = 0x24 then [2, 3] else []), outs := [out], req := [1] }
  | 0x0502 => { ins := [0] ++ k ++ sOp, outs := [out], req := [1] ++ k, key := !ko }
  | 0x0503 => { ins := [0, 1] ++ k ++ sOp, req := [1] ++ k, key := !ko }
  | _ => { ins := [0, 3] ++ k, outs := [out], req := [1] ++ k, key := !ko }

/-! ### SLH-DSA -/

/-- PARAM bits that must be 0 for an SLH-DSA verb: ORDER, K_WRAP, and what R140 gives; SPREAD 3 is reserved (R185). -/
def slhZero (j : Job) : Option Status :=
  check (j.param.toNat &&& (if j.opcode = 0x0406 then 0xFFFC6300 else 0xFFFCC700) == 0 &&
    bits j.param.toNat 17 16 != 3) .malformed

/-- The combinations R148 permits. -/
def slhStep2 (j : Job) : Option Status :=
  check ((!j.pbit 11 || phLen j.phFunc != 0) && (!j.pbit 12 || j.pbit 11)) .paramUnsupported

/-- Operand lengths by R187, and the limit of a pure message (R185). -/
def slhStep5 (j : Job) : Option Status :=
  firstBad [
    check (!j.pbit 12 || (j.operand 0).length == phLen j.phFunc) .lengthMismatch,
    check (j.opcode == 0x0406 || (j.operand 1).length == sigLen j.alg) .lengthMismatch,
    check (!j.pbit 13 || (j.operand 3).length == pubLen j.alg) .lengthMismatch,
    check (j.pbit 11 || decide ((j.operand 0).length ≤ 65536)) .paramUnsupported]

/-- Step 1 of R143 for an SLH-DSA verb. -/
def slhStep1 (j : Job) : Option Status :=
  check (sigArgsOk j 3 && (j.pbit 11 || j.phFunc == 0) &&
    (if j.opcode = 0x0406 ∧ j.pbit 15 then decide (j.tqMin ≤ 3) else j.tqMin == 0)) .malformed

/-- The checks of R143 as R185 changes them. -/
def slhChecks (s : State) (j : Job) (cls : List Nat) (use : Nat) : List (Option Status) :=
  [if j.handle = nullHandle then none
   else keyChecks s j cls (· == j.alg) use fun k => !(j.opcode == 0x0406 && j.pbit 10 && k.attr 5),
   slhZero j, slhStep1 j, check (famOf j.alg == some .slhdsa) .paramUnsupported, slhStep2 j, famEnabled s j,
   check (decide (j.ctxLen + (if j.pbit 15 then 25 else 0) ≤ 255)) .contextTooLong, slhStep5 j]

/-- What SLH-DSA signs. -/
def slhInput (j : Job) : List (List Byte) :=
  if j.pbit 11 then [ascii "HashSLH-DSA", le 1 j.phFunc, phDigest j] else [ascii "pure", j.operand 0]

/-- SIG.SLHDSA_SIGN (R185, R186): n bytes of opt_rand unless DETERMINISTIC; released after its check. -/
def slhSign (c : Cmd) (s : State) : State × Option Res :=
  let j := c.job
  orBad (slhChecks s j [0] 0) s fun s =>
  countThen c 1 (keyLimit s j) s fun s => orBad [tqStep j] s fun s => withKey c s fun sk pub s =>
  withRandom (if j.pbit 10 then 0 else pubLen j.alg / 2) c s fun d s =>
    let rnd := if j.pbit 10 then pub.take (pubLen j.alg / 2) else d
    let (raw, s1) := drawNat s
    releaseSig c (some (slhNj j.alg true j.slhPan (s.efficient c.rgn) raw))
      (stdN (sigLen j.alg) "SLH-DSA.Sign" ([le 1 j.alg, sk, fullCtx j, rnd] ++ slhInput j)) s1

/-- SIG.SLHDSA_VERIFY (R185). -/
def slhVerify (c : Cmd) (s : State) : State × Option Res :=
  let j := c.job
  orBad (slhChecks s j [0, 1] 1) s fun s => countThen c 1 (keyLimit s j) s fun s => withKey c s fun _ pub s =>
    let (raw, s1) := drawNat s
    (s1, some (Res.withNj (c.figure (some (slhNj j.alg false j.slhPan (s.efficient c.rgn) raw)))
      (if Config.stdOk "SLH-DSA.Verify" ([le 1 j.alg, verifyKey j pub, j.ctx, j.operand 1] ++ slhInput j) then okRes
       else stRes .sigInvalid)))

/-! ### LMS and HSS -/

/-- The state record of an LMS key. -/
def State.lmsOf (s : State) (k : KeyRec) : Option LmsRec := s.vault.lms.find? fun l => l.id == k.lmsId

/-- Change an LMS state record. -/
def State.modLms (s : State) (id : Nat) (f : LmsRec → LmsRec) : State :=
  { s with vault := { s.vault with lms := s.vault.lms.map fun l => if l.id = id then f l else l } }

/-- Write the record that raises RL when q reaches RL less B/2 (R190). -/
def raiseIfDue (id : Nat) (s : State) : State :=
  match s.vault.lms.find? fun l => l.id == id with
  | none => s
  | some l =>
    if l.raising || decide (l.q + l.b / 2 < l.rl) then s
    else
      let s1 := emit (.flash "stateful-key area" (le 4 id ++ le 8 (l.rl + l.b)))
        (s.modLms id fun l => { l with raising := true })
      journalEvent 7 (l.rl + l.b) id none l.inst s1

/-- Assign the next leaf to a job, which is its commit point (R190, R191, R194). -/
def takeLeaf (c : Cmd) (l : LmsRec) (s : State) : Option (Except Status Nat) × State :=
  if c.prog.committed then (some (.ok c.prog.aux), s)
  else if l.leaves ≤ l.q then (some (.error .leafExhausted), s)
  else if l.rl ≤ l.q then
    (none, raiseIfDue l.id (s.modProg c.job.id fun p => { p with wait := some .leaf }))
  else
    let crosses := l.tree != 0 && l.tree < l.leaves && l.q % l.tree == 0 && l.q != 0
    if crosses && !l.treeReady then (none, s.modProg c.job.id fun p => { p with wait := some .leaf })
    else
      let s1 := s.modLms l.id fun l => { l with q := l.q + 1, treeReady := l.treeReady && !crosses }
      let s2 := commit c.job.id (s1.modProg c.job.id fun p => { p with aux := l.q, wait := none })
      (some (.ok l.q), raiseIfDue l.id s2)

/-- SIG.LMS_SIGN (R189-R193). The typecodes of a secret key match its ALG by its making: LEVEL_CODE gives heights and W, ALG the hash
(R348). -/
def lmsSign (c : Cmd) (s : State) : State × Option Res :=
  let j := c.job
  orBad [keyChecks s j [0] (· == j.alg) 0 fun _ => true,
      check (j.param.toNat &&& 0xFFFFFF00 == 0 && j.args.isEmpty) .malformed,
      check (famOf j.alg == some .lms) .paramUnsupported, famEnabled s j] s fun s =>
  countThen c 1 (keyLimit s j) s fun s => withKey c s fun sk _ s =>
    match (jobKey s j).bind s.lmsOf with
    | none => (s, some (stRes .blobInvalid))
    | some l => match takeLeaf c l s with
      | (none, s1) => (s1, none)
      | (some (.error st), s1) => (s1, some (stRes st))
      | (some (.ok q), s1) =>
        let sg := Config.std "HSS.Sign" [le 1 j.alg, sk, le 8 q, j.operand 0]
        let rest : List (Nat × List Byte) :=
          if j.frags.any fun f => f.operand == 2 then [(2, le 8 (l.leaves - q - 1))] else []
        let r := outsTo j ((1, sg) :: rest)
        if r.status = .ok then (toCheck j.id r s1, none) else (s1, some r)

/-- An HSS public key is one of R189: 1 to 8 levels, and LMS and LM-OTS typecodes of ALG's hash, all heights and all W. The codes are
those of RFC 8554 and SP 800-208 (log 86). -/
def hssKeyOk (alg : Nat) (pk : List Byte) : Bool :=
  let (lms, ots) : Nat × Nat := match alg with
    | 0x61 => (5, 1) | 0x62 => (10, 5) | 0x63 => (15, 9) | _ => (20, 13)
  within 1 8 (beAt pk 0 4) && within lms (lms + 4) (beAt pk 4 4) && within ots (ots + 3) (beAt pk 8 4)

/-- An XMSS or XMSS^MT public key's OID has n = 24 or n = 32 (R195), by the OIDs of RFC 8391 and SP 800-208 (log 86). -/
def xmssKeyOk (alg : Nat) (pk : List Byte) : Bool :=
  let o := beAt pk 0 4
  if alg = 0x71 then within 1 3 o || within 7 9 o || within 13 21 o
  else within 1 8 o || within 0x11 0x18 o || within 0x21 0x38 o

/-- SIG.LMS_VERIFY (R189) and SIG.XMSS_VERIFY (R195): only ALG and PK_OPERAND in PARAM. -/
def statefulVerify (fam : Fam) (f : String) (c : Cmd) (s : State) : State × Option Res :=
  let j := c.job
  orBad [if j.handle = nullHandle then none else keyChecks s j [0, 1] (· == j.alg) 1 fun _ => true,
      check (j.param.toNat &&& 0xFFFFDF00 == 0 &&
        (if fam = .xmss then sigArgsOk j 1 && j.ctxLen == 0 else j.args.isEmpty)) .malformed,
      check (famOf j.alg == some fam) .paramUnsupported, famEnabled s j] s fun s =>
  countThen c 1 (keyLimit s j) s fun s => withKey c s fun _ pub s =>
    let pk := verifyKey j pub
    if !(if fam = .xmss then xmssKeyOk j.alg pk else hssKeyOk j.alg pk) then
      (s, some (stRes .paramUnsupported))
    else (s, some (if Config.stdOk f [le 1 j.alg, pk, j.operand 1, j.operand 0] then okRes else stRes .sigInvalid))

/-- The shapes of the hash-based signature verbs (R142, R189). -/
def shapeHashSig : ShapeFn := fun op param _ =>
  let alg := bits param 7 0
  match op with
  | 0x0406 => shapeSign param (if famOf alg = some .slhdsa then some (sigLen alg) else none)
  | 0x0408 => { ins := [0], outs := [(1, none), (2, some 8)], req := [1], key := true }
  | _ => shapeVerify param

/-- LMS_RESERVATION_COMPLETE (R190): the raising record of state record `id` completes in boot flash; signings that wait
for leaves proceed. -/
def execLmsReservationComplete (id : Nat) (s : State) : Host.Outcome State Fault Refusal :=
  .next (
    match s.vault.lms.find? fun l => l.id == id with
    | none => s
    | some l =>
      if !l.raising then s
      else
        let s1 := s.modLms id fun l => { l with rl := l.rl + l.b, raising := false }
        { s1 with cmds := s1.cmds.map fun c =>
            if c.prog.wait == some .leaf && (s.keyOf c.job).any (fun k => k.lmsId == id) then
              { c with prog := { c.prog with wait := none } } else c })

/-- LMS_NEXT_TREE_READY (R194): the next tree of a lower level of state record `id` is built; signings that wait for it
proceed. -/
def execLmsNextTreeReady (id : Nat) (s : State) : Host.Outcome State Fault Refusal :=
  .next (
    let s1 := s.modLms id fun l => { l with treeReady := true }
    { s1 with cmds := s1.cmds.map fun c =>
        if c.prog.wait == some .leaf && (s.keyOf c.job).any (fun k => k.lmsId == id) then
          { c with prog := { c.prog with wait := none } } else c })

/-! ### The digest window -/

/-- A port of the window: the host, or the Skanel firmware (R178). -/
abbrev DigPort := Bool

/-- Words of a block of a window function; 0 where the function is reserved (R179). -/
def windowBlock : Nat → Nat := look
  [(0x01, 8), (0x02, 8), (0x03, 16), (0x04, 16), (0x05, 16), (0x06, 16), (0x11, 18), (0x12, 17), (0x13, 13), (0x14, 9),
   (0x21, 21), (0x22, 17)]

/-- Change the window. -/
def State.modWin (s : State) (f : DigWin → DigWin) : State := { s with digWin := f s.digWin }

/-- The window in its claimed, empty state (R178, R180). -/
def DigWin.emptied (w : DigWin) : DigWin :=
  { w with func := 2, outLen := 32, len := 0, lo := 0, words := [], closing := none, result := [], busy := false,
           done := false }

/-- Release: ownership ends, the context is discarded and the OUT registers are zero (R181). -/
def DigWin.released (w : DigWin) : DigWin := { w.emptied with owner := none }

/-- The next token, skipping 0 (R178). -/
def nextToken (t : Nat) : Nat := if (t + 1) % 65536 = 0 then 1 else (t + 1) % 65536

/-- The CFG and LEN fields as R178 clears them: reset values. -/
def DigWin.claimed (w : DigWin) (p : DigPort) (t : Nat) : DigWin :=
  { w.emptied with owner := some p, token := nextToken w.token, lastAccess := t }

/-- DIG_WIN_CLAIM (R178): a read of the claim register through port `p`; what it returns is emitted. -/
def digWinClaimAt (p : DigPort) (s : State) : State :=
  match s.digWin.owner with
  | some o =>
    let s1 := if o = p then s.modWin fun w => { w with lastAccess := s.tick } else s
    emit (.value 0x0502) s1
  | none =>
    let s1 := s.modWin fun w => w.claimed p s.tick
    emit (.value (65536 * s1.digWin.token)) s1

/-- The row: the access of R35 through a BAR (R110). -/
def execDigWinClaim (p : DigPort) (s : State) : Host.Outcome State Fault Refusal :=
  .next (if p = false then s.gatedRead 0 (digWinClaimAt p s) else digWinClaimAt p s)

/-- A write from a port that does not own the window is ignored and sets FOREIGN (R178). -/
def winOwned (p : DigPort) (s : State) (f : DigWin → DigWin) : State :=
  if s.digWin.owner = some p then s.modWin fun w => f { w with lastAccess := s.tick }
  else s.modWin fun w => { w with foreign := true }

/-- Complete a word: the block's last word sets BUSY (R179). -/
def DigWin.word (v : Nat) (w : DigWin) : DigWin :=
  let ws := w.words ++ [v]
  let b := windowBlock w.func
  { w with words := ws, busy := b != 0 && ws.length % b == 0 }

/-- DIG_WIN_DATA (R179): `part` 0 is the LO half, 1 the HI half, 2 a 64-bit access. -/
def digWinDataAt (p : DigPort) (part v : Nat) (s : State) : State :=
  winOwned p s fun w =>
  if w.busy then { w with overrun := true }
  else if part = 0 then { w with lo := v % 2 ^ 32 }
  else if part = 1 then DigWin.word (w.lo + 2 ^ 32 * (v % 2 ^ 32)) w
  else DigWin.word (v % 2 ^ 64) w

/-- The row: the access of R35 through a BAR (R110). -/
def execDigWinData (p : DigPort) (part v : Nat) (s : State) : Host.Outcome State Fault Refusal :=
  .next (if p = false then s.gated 0 (digWinDataAt p part v s) else digWinDataAt p part v s)

/-- The length check of R180. -/
def DigWin.lengthOk (w : DigWin) (valid : Nat) : Bool :=
  !w.overrun && (if w.words.isEmpty then valid == 0 && w.len == 0
                 else decide (1 ≤ valid) && decide (valid ≤ 8) && w.len == 8 * (w.words.length - 1) + valid)

/-- DIG_WIN_LAST (R180). -/
def digWinLastAt (p : DigPort) (valid token : Nat) (s : State) : State :=
  winOwned p s fun w =>
  if token ≠ w.token then { w with foreign := true }
  else if w.busy then { w with overrun := true }
  else if w.lengthOk valid then { w with closing := some valid, busy := true }
  else { w.emptied with lenErr := true }

/-- The row: the access of R35 through a BAR (R110). -/
def execDigWinLast (p : DigPort) (valid token : Nat) (s : State) : Host.Outcome State Fault Refusal :=
  .next (if p = false then s.gated 0 (digWinLastAt p valid token s) else digWinLastAt p valid token s)

/-- The message of the window: the words' bytes, cut to the declared length. -/
def DigWin.message (w : DigWin) : List Byte := ((w.words.map (le 8)).flatten).take w.len

/-- Bytes of the result (R180). -/
def DigWin.resultLen (w : DigWin) : Nat := if w.func = 0x21 ∨ w.func = 0x22 then w.outLen else digestLen w.func

/-- DIG_WIN_COMPRESSION_DONE (R179, R180): a block ends and BUSY clears; the final block sets DONE with the result. -/
def execDigWinCompressionDone (s : State) : Host.Outcome State Fault Refusal :=
  .next (s.modWin fun w =>
    if !w.busy then w
    else match w.closing with
      | none => { w with busy := false }
      | some _ => { w with busy := false, done := true, closing := none,
                           result := stdN w.resultLen "hash or XOF of R170" [le 1 w.func, w.message, [], []] })

/-- DIG_WIN_RELEASE (R181). -/
def digWinReleaseAt (p : DigPort) (token : Nat) (s : State) : State :=
  winOwned p s fun w => if token = w.token then w.released else { w with foreign := true }

/-- The row: the access of R35 through a BAR (R110). -/
def execDigWinRelease (p : DigPort) (token : Nat) (s : State) : Host.Outcome State Fault Refusal :=
  .next (if p = false then s.gated 0 (digWinReleaseAt p token s) else digWinReleaseAt p token s)

/-- DIG_WIN_TIMEOUT (R181): DIG_WIN_TIMEOUT.MS has passed since the owner's last access, the span half-open. -/
def execDigWinTimeout (s : State) : Host.Outcome State Fault Refusal :=
  .next (
    if s.digWin.owner.isSome && decide (s.digWin.lastAccess + s.digWin.timeoutMs * 1000000 ≤ s.tick) then
      s.modWin fun w => { w.released with expired := true }
    else s)

/-! ### The verbs -/

/-- DIG.HASH (R170). -/
def execDigHash (j : Nat) (s : State) : Host.Outcome State Fault Refusal := .next (runVerb 0x0501 j digHash s)
/-- DIG.MAC (R173). -/
def execDigMac (j : Nat) (s : State) : Host.Outcome State Fault Refusal := .next (runVerb 0x0502 j digMac s)
/-- DIG.MAC_VERIFY (R177). -/
def execDigMacVerify (j : Nat) (s : State) : Host.Outcome State Fault Refusal := .next (runVerb 0x0503 j digMacVerify s)
/-- DIG.KDF (R172). -/
def execDigKdf (j : Nat) (s : State) : Host.Outcome State Fault Refusal := .next (runVerb 0x0504 j digKdf s)
/-- SIG.SLHDSA_SIGN (R186). -/
def execSigSlhdsaSign (j : Nat) (s : State) : Host.Outcome State Fault Refusal := .next (runVerb 0x0406 j slhSign s)
/-- SIG.SLHDSA_VERIFY (R185). -/
def execSigSlhdsaVerify (j : Nat) (s : State) : Host.Outcome State Fault Refusal := .next (runVerb 0x0407 j slhVerify s)
/-- SIG.LMS_SIGN (R190). -/
def execSigLmsSign (j : Nat) (s : State) : Host.Outcome State Fault Refusal := .next (runVerb 0x0408 j lmsSign s)
/-- SIG.LMS_VERIFY (R189). -/
def execSigLmsVerify (j : Nat) (s : State) : Host.Outcome State Fault Refusal :=
  .next (runVerb 0x0409 j (statefulVerify .lms "HSS.Verify") s)
/-- SIG.XMSS_VERIFY (R195). -/
def execSigXmssVerify (j : Nat) (s : State) : Host.Outcome State Fault Refusal :=
  .next (runVerb 0x040A j (statefulVerify .xmss "XMSS.Verify") s)

end Sys2Proof.Machine
end

