-- ==== Sys2Proof/Machine/Manage.lean ====
section
/-! DEFINITION. Skanel management: image verbs, activation, the roll, the update agent, PLDM, SPDM, MCTP and the heartbeat
(R458-R473, R61). -/

namespace Sys2Proof.Machine

/-! ### Mailboxes in UPDATE (R58, R61, R62) -/

/-- A mailbox reads CLOSED: HALT, an activation of management firmware unless the mailbox is BUSY, and until the firmware
starts (R58, R61, R62, R485). -/
def State.mbxClosed (s : State) (i : Nat) : Bool :=
  s.pkg.halted || s.pkg.mode == .boot || s.pkg.mode == .standby || !s.pkg.mode.mainPower ||
    (s.mgmt.activating.isSome && (s.inst i).mbx.state != .busy)

/-- An instance whose mailbox was CLOSED sees it reopened (R58). DESIGN CHOICE (log 74): only the end of UPDATE sets REOPENED; a
mailbox that leaves CLOSED at step 9 of R485 does not. -/
def reopen (i : Nat) (s : State) : State :=
  if s.present i && s.mbxClosed i then
    let s1 := s.modMbx i fun m => { m with reopened := true }
    if (s.inst i).mbx.vecEn && !s.pkg.halted then raiseVector i (s.inst i).mbx.vector s1 else s1
  else s

/-- Instances, the physical function first. -/
def State.instances (s : State) : List Nat := (List.range (s.pkg.numVfs + 1)).filter s.present

/-- UPDATE ends: mailboxes reopen, and the mode is recomputed (R30, R58, R61). -/
def endUpdate (s : State) : State :=
  let s1 := (s.instances.foldl (fun s i => reopen i s) s).modMgmt fun m => { m with activating := none }
  if s1.pkg.mode = .update then setMode (if s1.life.session.isSome then .debug else s1.serviceMode) s1 else s1

/-! ### Records of an activation -/

/-- Write an ACTIVATION record (R461): the kind, its active bank and its trial state. -/
def logActivation (k : Nat) (s : State) : State :=
  mlog 3 (le 1 k ++ le 1 (flag (s.fw k).active 0) ++ le 1 (flag (s.fw k).trial 0)) s

/-- Make the other bank of a kind active, on trial, and journal it (R467, R468). -/
def switchBank (k : Nat) (s : State) : State :=
  let s1 := s.modFw k fun x => { x with active := !x.active, trial := true, fallback := false }
  journalEvent 9 k (imgBuild ((s1.fw k).bank false).data) none 0 (logActivation k s1)

/-- Enter UPDATE for a request, or for PLDM (R61, R468, R471, R181): the pair restarts in the boot ROM, SPDM sessions end, and
the firmware gives up the digest window. -/
def enterUpdate (j : Option Nat) (s : State) : State :=
  let s1 := s.modMgmt fun m => { m with activating := some (j, s.tick), running := false, alive := false, spdm := [] }
  let s2 := { s1 with cores := s1.cores.filter (fun e => !(e.1 == .skanel)),
                      digWin := if s1.digWin.owner = some true then s1.digWin.released else s1.digWin }
  let s3 := switchBank 1 s2
  if s3.pkg.mode.isService || s3.pkg.mode == .debug then setMode .update s3 else s3

/-- Activate region firmware or microcode; ROLL starts the roll (R467). -/
def activateRegions (k : Nat) (roll : Bool) (s : State) : State :=
  let s1 := switchBank k s
  let todo := regionNums.filter fun r => s1.enabled r && (s1.region r).svc.state != .failed
  if roll then s1.modMgmt fun m => { m with roll := some { kind := k, todo := todo } } else s1

/-! ### The update agent (R469) -/

/-- Take or keep the role of update agent. -/
def takeAgent (a : Agent) (s : State) : State := s.modMgmt fun m => { m with agent := some a, agentTick := s.tick }

/-- Update traffic of the agent that holds the role. -/
def touchAgent (s : State) : State :=
  s.modMgmt fun m => { m with agentTick := if m.agent.isSome then s.tick else m.agentTick }

/-- The role is given up. -/
def dropAgent (s : State) : State := s.modMgmt fun m => { m with agent := none, pldm := {} }

/-- Write bytes to the inactive bank of a kind; a write at 0 clears its validity flag (R466). -/
def writeBank (k o : Nat) (d : List Byte) (s : State) : State :=
  emit (.flash "inactive bank" (le 1 k ++ le 4 o ++ d)) (s.modFw k fun x => x.modBank true fun b =>
    { data := fit o b.data ++ d ++ b.data.drop (o + d.length), valid := b.valid && o != 0 })

/-! ### MGMT verbs (R466) -/

/-- KIND with its three reserved bytes, and the PARAM of a MGMT verb. -/
def kindChecks (s : State) (j : Job) (n : Nat) : List (Option Status) :=
  [paramZero j 0xFFFFFFFF, bodyIs j n, check (zero? j.args 1 3) .malformed, famEnabled s j,
   check (decide (1 ≤ fld j.args 0 1) && decide (fld j.args 0 1 ≤ 3)) .paramUnsupported]

/-- MGMT.FW_WRITE (R466, R469). -/
def mgmtFwWrite (c : Cmd) (s : State) : State × Option Res :=
  let j := c.job
  let k := fld j.args 0 1
  let o := fld j.args 4 4
  let d := j.operand 0
  orBad (kindChecks s j 8 ++ [check (decide (1 ≤ d.length) && decide (d.length ≤ 1048576)) .badFragment,
      check (decide (o + d.length ≤ bankSize k)) .paramUnsupported,
      check (s.mgmt.agent != some .pldm && !s.runsOther k) .deferred] ) s fun s =>
    (commit j.id (writeBank k o d (takeAgent .mailbox s)), some okRes)

/-- MGMT.FW_VERIFY (R463, R466, R469). -/
def mgmtFwVerify (c : Cmd) (s : State) : State × Option Res :=
  let j := c.job
  let k := fld j.args 0 1
  orBad (kindChecks s j 4 ++ [check (s.mgmt.agent != some .pldm) .deferred]) s fun s =>
    let b := ((s.fw k).bank true).data
    let bad := imgCheck s k b
    let s1 := (touchAgent s).modFw k fun x => x.modBank true fun y => { y with valid := bad.isNone }
    (s1, some (match bad with
      | some st => stRes st
      | none => respRes (le 4 (imgBuild b) ++ le 2 (imgRollback b))))

/-- Another LONG request is BUSY or waits (R61). -/
def State.otherLong (s : State) (j : Nat) : Bool :=
  s.cmds.any fun c => c.job.mbx && c.job.has (·.long) && !(c.job.id == j)

/-- MGMT.FW_ACTIVATE (R466, R467, R61): for KIND 1 it ends with UPDATE. -/
def mgmtFwActivate (c : Cmd) (s : State) : State × Option Res :=
  let j := c.job
  let k := fld j.args 0 1
  let f := fld j.args 4 1
  orBad (kindChecks s j 5 ++ [check (f == 0 || (f == 1 && k != 1)) .malformed,
      check (s.mgmt.agent != some .pldm) .deferred, check ((s.fw k).bank true).valid .lifecycle,
      check (k != 1 || !s.otherLong j.id) .deferred]) s fun s =>
    let s1 := dropAgent (commit j.id s)
    if k = 1 then (enterUpdate (some j.id) (s1.modProg j.id fun p => { p with phase := .running }), none)
    else (activateRegions k (f == 1) s1, some okRes)

/-- MGMT.FW_COMMIT (R464): the burn of the rollback counter. -/
def mgmtFwCommit (c : Cmd) (s : State) : State × Option Res :=
  let j := c.job
  let k := fld j.args 0 1
  orBad (kindChecks s j 4 ++ [check (s.runsEverywhere k) .deferred]) s fun s =>
    let n := max (s.fw k).counter (imgRollback ((s.fw k).bank false).data)
    let s1 := (commit j.id s).modFw k fun x =>
      let y := x.modBank true fun b => { b with valid := b.valid && decide (n ≤ imgRollback b.data) }
      { y with counter := n, trial := false }
    (mlog 4 (le 1 k ++ le 1 n) s1, some okRes)

/-- The 16-byte record of a kind (R466). -/
def fwRecord (s : State) (k : Nat) : List Byte :=
  le 4 (imgBuild (s.fw k).bankA.data) ++ le 4 (imgBuild (s.fw k).bankB.data) ++ le 4 (s.fwState k) ++ zeros 4

/-- MGMT.FW_STATUS (R466). -/
def mgmtFwStatus (c : Cmd) (s : State) : State × Option Res :=
  orBad [paramZero c.job 0xFFFFFFFF, bodyIs c.job 0, famEnabled s c.job] s fun s =>
    (s, some (respRes (fwRecord s 1 ++ fwRecord s 2 ++ fwRecord s 3)))

/-- Sensors of a type: of a region, or of the apex, which is 8 (R459). -/
def sensorCount (r ty : Nat) : Nat :=
  if r = 8 then (if ty ≤ 1 then 8 else 0) else if ty = 0 then 16 else if ty = 1 then 8 else if ty = 2 then 32 else 0

/-- The sample period of a type, in ns (R459). -/
def sensorPeriod (ty : Nat) : Nat := if ty = 0 then 100000 else if ty = 1 then 10000 else 1000000000

/-- What a sensor reads; zero beyond the counts and for an absent region (R459, R473). -/
def State.sensor (s : State) (r ty n : Nat) : Nat :=
  if n < sensorCount r ty ∧ (r = 8 ∨ s.enabled r) then Config.sensor r ty n (s.tick / sensorPeriod ty) % 65536 else 0

/-- MGMT.SENSORS (R466). -/
def mgmtSensors (c : Cmd) (s : State) : State × Option Res :=
  let j := c.job
  let r := fld j.args 0 1
  let u := if r = 0xFF then 8 else r
  orBad [paramZero j 0xFFFFFFFF, bodyIs j 4, check (zero? j.args 1 3) .malformed, famEnabled s j,
      check (decide (r < 8) || r == 0xFF) .paramUnsupported] s fun s =>
    (s, some (respRes ([0, 1, 2].map fun ty =>
      ((List.range (sensorCount u ty)).map fun n => le 2 (s.sensor u ty n)).flatten).flatten))

/-- MGMT.FW_WRITE (R466). -/
def execMgmtFwWrite (j : Nat) (s : State) : Host.Outcome State Fault Refusal := .next (runVerb 0x0C01 j mgmtFwWrite s)
/-- MGMT.FW_VERIFY (R463, R466). -/
def execMgmtFwVerify (j : Nat) (s : State) : Host.Outcome State Fault Refusal := .next (runVerb 0x0C02 j mgmtFwVerify s)
/-- MGMT.FW_ACTIVATE (R467). -/
def execMgmtFwActivate (j : Nat) (s : State) : Host.Outcome State Fault Refusal := .next (runVerb 0x0C03 j mgmtFwActivate s)
/-- MGMT.FW_COMMIT (R464). -/
def execMgmtFwCommit (j : Nat) (s : State) : Host.Outcome State Fault Refusal := .next (runVerb 0x0C04 j mgmtFwCommit s)
/-- MGMT.FW_STATUS (R466). -/
def execMgmtFwStatus (j : Nat) (s : State) : Host.Outcome State Fault Refusal := .next (runVerb 0x0C05 j mgmtFwStatus s)
/-- MGMT.SENSORS (R466). -/
def execMgmtSensors (j : Nat) (s : State) : Host.Outcome State Fault Refusal := .next (runVerb 0x0C06 j mgmtSensors s)

/-! ### SPDM (R471, R110) -/

/-- The Skanel firmware answers MCTP messages; in UPDATE they are dropped (R471). -/
def State.mctpUp (s : State) : Bool := s.mgmt.running && s.mgmt.activating.isNone && !s.pkg.halted && !s.mgmt.held

/-- An answer in the form of DSP0267 or DSP0236, over what it reports (R470). -/
def answer (pcie : Bool) (name : String) (parts : List (List Byte)) (s : State) : State :=
  emit (.mctp pcie (Config.std name parts)) s

/-- The certificate slot that an SPDM session's requester holds: one of slots 1 to 3 with a chain, else 0 (R471, R472). -/
def State.holdsSlot (s : State) (n : Nat) : Nat := if 1 ≤ n ∧ n ≤ 3 ∧ (tfind s.mgmt.chains n).isSome then n else 0

/-- Serve an SPDM request (R471, R110). -/
def serveSpdm (doe : Bool) (x : SpdmReq) (s : State) : State :=
  match x with
  | .openSession slot d =>
    answer doe "SPDM session" [le 1 slot]
      (s.modMgmt fun m => { m with spdm := m.spdm ++ [{ slot := s.holdsSlot slot, doe := d && doe }] })
  | .endSession n =>
    answer doe "SPDM END_SESSION" [le 1 n]
      (s.modMgmt fun m => { m with spdm := m.spdm.eraseIdx n })
  | .setCertificate slot chain =>
    if 1 ≤ slot ∧ slot ≤ 3 ∧ s.lcState = 3 then
      answer doe "SPDM SET_CERTIFICATE" [le 1 slot] (emit (.flash "certificate area" (le 1 slot ++ chain))
        (s.modMgmt fun m => { m with chains := tset (fun _ => []) m.chains slot chain }))
    else answer doe "SPDM ERROR" [le 1 slot] s
  | .ideKm n stream =>
    if (s.mgmt.spdm[n]?).any (·.doe) && doe && decide (stream ≤ 32) then
      answer doe "IDE_KM" [le 1 stream] (s.modPkg fun p =>
        { p with ideSecure := if p.ideSecure.contains stream then p.ideSecure else p.ideSecure ++ [stream] })
    else answer doe "SPDM ERROR" [le 1 stream] s
  | .other b =>
    answer doe "SPDM response" [b, imgMeas s.mgmt.image,
      ([2, 3].map fun k => (regionNums.map fun r => imgMeas (s.regionImage r k)).flatten).flatten, s.life.otp.ownerCfg,
      stdN 48 "SHA3-384" [(s.cust.pkgs.map fun e => e.2.record).flatten]] s

/-- The SPDM requests over DOE that UPDATE held are served as it ends (R471). -/
def serveHeld (s : State) : State :=
  s.mgmt.doeHeld.foldl (fun s x => serveSpdm true x s) (s.modMgmt fun m => { m with doeHeld := [] })

/-! ### The end of an activation (R468) -/

/-- End the request of an activation, where one started it. -/
def endActivating (st : Status) (s : State) : State :=
  match s.mgmt.activating.bind (·.1) with
  | some j => finish j (stRes st) s
  | none => s

/-- The management firmware is to be heard: the pair is not held, and it runs past BOOT (R458, R485). -/
def State.beats (s : State) : Bool :=
  !s.mgmt.held && s.pkg.mode.mainPower && s.pkg.mode != .boot && s.pkg.mode != .standby

/-- The heartbeat of running firmware. -/
def beatNow (s : State) : State := s.modMgmt fun m => { m with running := true, alive := true, beat := s.tick }

/-- MGMT_FIRST_HEARTBEAT (R458, R468): after an activation, within 40 ms of its start, UPDATE ends; otherwise the firmware
counts as running. Within 40 ms is at or before that tick (R13). -/
def execMgmtFirstHeartbeat (s : State) : Host.Outcome State Fault Refusal :=
  .next (
    if s.beats then
      match s.mgmt.activating with
      | none => beatNow s
      | some (_, t) =>
        if s.tick ≤ t + 40000000 then
          let s1 := endUpdate (endActivating .ok s)
          serveHeld (beatNow (s1.modMgmt fun m => { m with image := ((s1.fw 1).bank false).data }))
        else s
    else s)

/-- ACTIVATION_FALLBACK (R468): the new image does not verify, or no heartbeat within 40 ms; the old bank is loaded, the
record reverts, and the request ends with ST_ABORTED_FAULT. -/
def execActivationFallback (bad : Bool) (s : State) : Host.Outcome State Fault Refusal :=
  .next (
    match s.mgmt.activating with
    | none => s
    | some (_, t) =>
      if bad || decide (t + 40000000 < s.tick) then
        let s1 := s.modFw 1 fun x => { x with active := !x.active, trial := false, fallback := true }
        serveHeld (beatNow (endUpdate (endActivating .abortedFault (logActivation 1 s1))))
      else s)

/-- Region `r` is past the roll of kind `k`: it is FAILED, or has taken the active image at a LOADING of its own (R464, R467). -/
def State.rolled (s : State) (k r : Nat) : Bool :=
  (s.region r).svc.state == .failed || (s.inService r && s.regionImage r k == ((s.fw k).bank false).data)

/-- Take the next region of a roll out of service as REGN.TAKE_OUT does, with a drain bound of `ms` (R467, R420). -/
def rollOut (x : Roll) (ms : Nat) (s : State) : State :=
  match x.todo.dropWhile fun r => s.rolled x.kind r with
  | [] => s.modMgmt fun m => { m with roll := none }
  | r :: rest =>
    if s.inService r && regionNums.any (fun q => q != r && s.inService q) then
      let s1 := s.modRegion r fun g =>
        { g with svc := { g.svc with outByCmd := true }, path := { g.path with drainBy := s.tick + ms * 1000000 } }
      setRegionState r .draining false
        (s1.modMgmt fun m => { m with roll := some { x with todo := rest, out := some r } })
    else s

/-- REGION_ROLL_STEP (R467): the next region is taken out, or the one taken out is returned; a region that fell back, or is
FAILED, stops the roll. `ms` and `full` are the DRAIN_MS and TEST that the firmware chooses. -/
def execRegionRollStep (ms : Nat) (full : Bool) (s : State) : Host.Outcome State Fault Refusal :=
  .next (
    match s.mgmt.roll with
    | none => s
    | some x =>
      if s.pkg.halted then s
      else match x.out with
        | none => rollOut x ms s
        | some r =>
          let v := (s.region r).svc
          if v.state == .diked && (s.region r).path.wiped && v.outByCmd && !s.debugHeld r then startReturn r full s
          else if v.state == .failed then s.modMgmt fun m => { m with roll := none }
          else if v.state == .inService then
            if v.fallback.contains x.kind then s.modMgmt fun m => { m with roll := none } else rollOut { x with out := none } ms s
          else s)

/-- UPDATE_AGENT_TIMEOUT (R469): 60 s without update traffic. -/
def execUpdateAgentTimeout (s : State) : Host.Outcome State Fault Refusal :=
  .next (if s.mgmt.agent.isSome && decide (s.mgmt.agentTick + 60000000000 ≤ s.tick) then dropAgent s else s)

/-! ### The heartbeat (R458) -/

/-- HEARTBEAT_LAPSE (R458): 10 ms without a heartbeat. -/
def execHeartbeatLapse (s : State) : Host.Outcome State Fault Refusal :=
  .next (s.modMgmt fun m => { m with alive := false })

/-- WATCHDOG_RESET (R458, R439, R454): 100 ms without a heartbeat of running firmware, after the lapse of 10 ms. -/
def execWatchdogReset (s : State) : Host.Outcome State Fault Refusal :=
  .next (
    if s.mgmt.running && !s.mgmt.alive && s.mgmt.activating.isNone && !s.mgmt.held then
      let s1 := (record { on := apexUnit .skanelPair 0xFF, cause := .watchdog } .halt s).2
      (doHaltAs evWatchdog s1).modMgmt fun m => { m with held := true, running := false }
    else s)

/-- SKANEL_LOCKSTEP_MISMATCH (R458, R429). -/
def execSkanelLockstepMismatch (s : State) : Host.Outcome State Fault Refusal :=
  .next (
    if s.pkg.mode.mainPower && s.pkg.mode != .standby then raiseHalt { on := apexUnit .skanelPair 0xFF, cause := .lockstep } s
    else s)

/-! ### MCTP and PLDM (R470) -/

/-- Firmware, or the boot ROM in recovery, answers PLDM and MCTP control messages (R465, R470). -/
def State.pldmUp (s : State) : Bool := s.mctpUp || (s.mgmt.recovery && !s.pkg.halted)

/-- Change the PLDM update. -/
def State.modPldm (s : State) (f : Pldm → Pldm) : State := s.modMgmt fun m => { m with pldm := f m.pldm }

/-- A PLDM message of the update agent in a state of `st`: `k`, else an answer that the device is not in that state. -/
def pldmIn (pcie : Bool) (st : List PldmState) (name : String) (k : State → State) (s : State) : State :=
  if s.pldmUp then
    if s.mgmt.agent = some .pldm ∧ st.contains s.mgmt.pldm.st then k (touchAgent s)
    else answer pcie name [ascii "not in this state"] s
  else s

/-- PLDM QueryDeviceIdentifiers (R470). -/
def execPldmQueryDeviceIdentifiers (pcie : Bool) (s : State) : Host.Outcome State Fault Refusal :=
  .next (if s.pldmUp then answer pcie "PLDM QueryDeviceIdentifiers" [le 8 s.pkg.fuses.unit] s else s)

/-- PLDM GetFirmwareParameters (R470): the builds and states of the three components. -/
def execPldmGetFirmwareParameters (pcie : Bool) (s : State) : Host.Outcome State Fault Refusal :=
  .next (
    if s.pldmUp then answer pcie "PLDM GetFirmwareParameters" [fwRecord s 1, fwRecord s 2, fwRecord s 3] s else s)

/-- PLDM RequestUpdate (R469, R470): the role of update agent, or UNABLE_TO_INITIATE_UPDATE. -/
def execPldmRequestUpdate (pcie : Bool) (s : State) : Host.Outcome State Fault Refusal :=
  .next (
    if s.pldmUp then
      if s.mgmt.agent = none then
        answer pcie "PLDM RequestUpdate" [ascii "SUCCESS"]
          ((takeAgent .pldm s).modPldm fun _ => { st := .learn })
      else answer pcie "PLDM RequestUpdate" [ascii "UNABLE_TO_INITIATE_UPDATE"] s
    else s)

/-- PLDM PassComponentTable (R470): `last` is the end of the table. -/
def execPldmPassComponentTable (pcie last : Bool) (s : State) : Host.Outcome State Fault Refusal :=
  .next (pldmIn pcie [.learn] "PLDM PassComponentTable" (fun s =>
    answer pcie "PLDM PassComponentTable" [ascii "SUCCESS"]
      (s.modPldm fun p => { p with st := if last then .ready else .learn })) s)

/-- The component may be updated: one of the three kinds, in recovery only one whose banks are both invalid, and not while
a unit runs the inactive bank after a fall-back (R465, R466, R470). -/
def componentOk (s : State) (k size : Nat) : Bool :=
  decide (1 ≤ k) && decide (k ≤ 3) && decide (size ≤ bankSize k) && !s.runsOther k &&
    (!s.mgmt.recovery || (!(s.fw k).bankA.valid && !(s.fw k).bankB.valid))

/-- Ask for the next block of the component: 1,024 bytes on the sideband, 4,096 over PCIe (R470). -/
def askBlock (pcie : Bool) (s : State) : State :=
  let p := s.mgmt.pldm
  if p.got < p.size then
    answer pcie "PLDM RequestFirmwareData" [le 4 p.got, le 4 (min (if pcie then 4096 else 1024) (p.size - p.got))] s
  else s

/-- PLDM UpdateComponent (R470). -/
def execPldmUpdateComponent (pcie : Bool) (kind size : Nat) (s : State) : Host.Outcome State Fault Refusal :=
  .next (pldmIn pcie [.ready] "PLDM UpdateComponent" (fun s =>
    if componentOk s kind size then
      askBlock pcie (answer pcie "PLDM UpdateComponent" [ascii "SUCCESS"]
        (s.modPldm fun p => { p with st := .download, kind := kind, size := size, got := 0 }))
    else answer pcie "PLDM UpdateComponent" [ascii "component not updatable"] s) s)

/-- PLDM RequestFirmwareData (R470): the device receives the block it asked for and writes it to the inactive bank. -/
def execPldmRequestFirmwareData (pcie : Bool) (data : List Byte) (s : State) : Host.Outcome State Fault Refusal :=
  .next (pldmIn pcie [.download] "PLDM RequestFirmwareData" (fun s =>
    let p := s.mgmt.pldm
    let n := min (if pcie then 4096 else 1024) (p.size - p.got)
    if data.length = n ∧ 0 < n then
      askBlock pcie ((writeBank p.kind p.got data s).modPldm fun p => { p with got := p.got + n })
    else s) s)

/-- PLDM TransferComplete (R470). -/
def execPldmTransferComplete (pcie : Bool) (s : State) : Host.Outcome State Fault Refusal :=
  .next (pldmIn pcie [.download] "PLDM TransferComplete" (fun s =>
    if s.mgmt.pldm.got = s.mgmt.pldm.size then
      answer pcie "PLDM TransferComplete" [ascii "SUCCESS"] (s.modPldm fun p => { p with st := .verify })
    else s) s)

/-- PLDM VerifyComplete (R470, R463): the device verifies the image and reports what it found. -/
def execPldmVerifyComplete (pcie : Bool) (s : State) : Host.Outcome State Fault Refusal :=
  .next (pldmIn pcie [.verify] "PLDM VerifyComplete" (fun s =>
    let k := s.mgmt.pldm.kind
    let bad := imgCheck s k ((s.fw k).bank true).data
    let s1 := s.modFw k fun x => x.modBank true fun b => { b with valid := bad.isNone }
    answer pcie "PLDM VerifyComplete" [le 2 ((bad.getD .ok).code)]
      (if bad.isNone then s1.modPldm fun p => { p with st := .apply } else s1)) s)

/-- PLDM ApplyComplete (R470). -/
def execPldmApplyComplete (pcie : Bool) (s : State) : Host.Outcome State Fault Refusal :=
  .next (pldmIn pcie [.apply] "PLDM ApplyComplete" (fun s =>
    answer pcie "PLDM ApplyComplete" [ascii "SUCCESS"]
      (s.modPldm fun p => { p with st := .ready, applied := p.applied ++ [p.kind] })) s)

/-- Activate the applied components as MGMT.FW_ACTIVATE does with ROLL set (R470); management firmware last, since its
activation restarts the pair. -/
def activateApplied (s : State) : State :=
  let ks := s.mgmt.pldm.applied
  let s1 := dropAgent s
  let s2 := ([2, 3].filter fun k => ks.contains k).foldl (fun s k =>
    if ((s.fw k).bank true).valid then activateRegions k true s else s) s1
  if ks.contains 1 && ((s2.fw 1).bank true).valid then enterUpdate none s2 else s2

/-- The applied components become active in recovery, and the ROM restarts BOOT (R465). -/
def recoverApplied (s : State) : State :=
  let ks := s.mgmt.pldm.applied
  let s1 := ks.foldl (fun s k => switchBank k s) (dropAgent s)
  (s1.modMgmt fun m => { m with recovery := false }).modPkg fun p => { p with booting := true }

/-- PLDM ActivateFirmware (R470, R465); it waits as MGMT.FW_ACTIVATE does while a LONG request is BUSY (R61). -/
def execPldmActivateFirmware (pcie : Bool) (s : State) : Host.Outcome State Fault Refusal :=
  .next (pldmIn pcie [.ready] "PLDM ActivateFirmware" (fun s =>
    if s.mgmt.pldm.applied.isEmpty then answer pcie "PLDM ActivateFirmware" [ascii "not in this state"] s
    else if s.mgmt.recovery then recoverApplied (answer pcie "PLDM ActivateFirmware" [ascii "SUCCESS"] s)
    else if s.mgmt.pldm.applied.contains 1 && s.cmds.any (fun c => c.job.mbx && c.job.has (·.long)) then
      answer pcie "PLDM ActivateFirmware" [ascii "RETRY"] s
    else activateApplied (answer pcie "PLDM ActivateFirmware" [ascii "SUCCESS"] s)) s)

/-- The number of a PLDM state. -/
def PldmState.code : PldmState → Nat
  | .idle => 0 | .learn => 1 | .ready => 2 | .download => 3 | .verify => 4 | .apply => 5

/-- PLDM GetStatus (R470). -/
def execPldmGetStatus (pcie : Bool) (s : State) : Host.Outcome State Fault Refusal :=
  .next (if s.pldmUp then answer pcie "PLDM GetStatus" [le 1 s.mgmt.pldm.st.code, le 4 s.mgmt.pldm.got] s else s)

/-- PLDM CancelUpdateComponent (R470). -/
def execPldmCancelUpdateComponent (pcie : Bool) (s : State) : Host.Outcome State Fault Refusal :=
  .next (pldmIn pcie [.download, .verify, .apply] "PLDM CancelUpdateComponent" (fun s =>
    answer pcie "PLDM CancelUpdateComponent" [ascii "SUCCESS"]
      (s.modPldm fun p => { p with st := .ready, kind := 0, size := 0, got := 0 })) s)

/-- PLDM CancelUpdate (R469, R470). -/
def execPldmCancelUpdate (pcie : Bool) (s : State) : Host.Outcome State Fault Refusal :=
  .next (pldmIn pcie [.learn, .ready, .download, .verify, .apply] "PLDM CancelUpdate" (fun s =>
    answer pcie "PLDM CancelUpdate" [ascii "SUCCESS"] (dropAgent s)) s)

/-! ### SPDM and MCTP control (R470-R472, R110) -/

/-- SPDM_REQUEST (R471, R110): served while firmware runs; in UPDATE a request over MCTP is dropped and one over DOE is
held. -/
def execSpdmRequest (doe : Bool) (x : SpdmReq) (s : State) : Host.Outcome State Fault Refusal :=
  .next (
    if s.mctpUp then serveSpdm doe x s
    else if doe && s.mgmt.activating.isSome && !s.pkg.halted then s.modMgmt fun m => { m with doeHeld := m.doeHeld ++ [x] }
    else s)

/-- MCTP_CONTROL_MESSAGE (R470): the bus owner assigns the endpoint ID; any other control message is answered. -/
def execMctpControlMessage (pcie : Bool) (eid : Option Nat) (msg : List Byte) (s : State) :
    Host.Outcome State Fault Refusal :=
  .next (
    if s.pldmUp then
      match eid with
      | some e => answer pcie "MCTP Set Endpoint ID" [le 1 e] (s.modMgmt fun m => { m with eid := e % 256 })
      | none => answer pcie "MCTP control" [le 1 s.mgmt.eid, msg] s
    else s)

/-- MCTP_FAULT_ACK (R472): accepted only inside a session whose requester holds a certificate in slot 1 to 3. -/
def execMctpFaultAck (session fseq : Nat) (s : State) : Host.Outcome State Fault Refusal :=
  .next (
    if s.mctpUp && (s.mgmt.spdm[session]?).any fun x => decide (1 ≤ x.slot) && decide (x.slot ≤ 3) then
      hostAck (fseq % 2 ^ 64) s
    else s)

end Sys2Proof.Machine
end

