-- ==== Sys2Proof/Machine/Life.lean ====
section
/-! DEFINITION. The life cycle (R474-R484), debug sessions (R487-R490) and the LIFE verbs. -/

namespace Sys2Proof.Machine

/-- Change the life-cycle part of the state. -/
def State.modLife (s : State) (f : Life → Life) : State := { s with life := f s.life }

/-- Change the OTP. -/
def State.modOtp (s : State) (f : Otp → Otp) : State := s.modLife fun l => { l with otp := f l.otp }

/-- DBG_MODE of the owner configuration block (R476). -/
def State.dbgMode (s : State) : Nat := fld s.ownerBlock 1 1
/-- DBG_RIGHTS of the owner configuration block (R476). -/
def State.dbgRights (s : State) : Nat := fld s.ownerBlock 2 1 % 32
/-- FLAGS of the owner configuration block (R476). -/
def State.ownerFlags (s : State) : Nat := fld s.ownerBlock 3 1 % 16

/-- Settings that the owner configuration block fixes (R476). -/
def applyOwnerCfg (s : State) : State :=
  let b := s.ownerBlock
  let f := fld b 3 1
  { s with
      pkg := { s.pkg with fuses := { s.pkg.fuses with
        maskFloor := fld b 0 1, pairDynamic := bit f 0, batteryMode := bit f 1, rngStrict := bit f 2,
        algDisable := fld b 4 2 } },
      faults := { s.faults with pairDynamic := bit f 0 } }

/-! ### Debug sessions (R487) -/

/-- Return region `r` after a session, its wipe carried to its end first (R417, R421, R487). -/
def returnHeld (r : Nat) (s : State) : State :=
  if (s.region r).svc.state == .diked then
    startReturn r false (if (s.region r).path.wiped then s else wipeSram r s)
  else s

/-- Close the session, or give up one that waits to open: held regions return through TESTING quick (R487). -/
def closeSession (s : State) : State :=
  let held := ((s.life.session.map (·.held)).getD 0) ||| ((s.life.opening.map (·.session.held)).getD 0)
  let was := s.life.session.isSome
  let s1 := { s with life := { s.life with session := none, opening := none, halted := [], steps := [] },
                     pkg := { s.pkg with dbgOpen := false } }
  let s2 := (regionNums.filter fun r => bit held r).foldl (fun s r => returnHeld r s) s1
  if was && s2.pkg.mode == .debug then setMode s2.serviceMode s2 else s2

/-- What a debug request asks for: a certificate in OWNED, the 4-byte body in CLEARED (R488, R489). -/
structure DebugAsk where
  cert : Bool
  rights : Nat
  regions : Nat
  notBefore : Nat
  notAfter : Nat
  ctr : Nat
  tqMin : Nat
deriving DecidableEq, Repr

/-- Read a debug request (R488, R489). -/
def debugAsk (b : List Byte) : DebugAsk :=
  if b.length = 4 then
    { cert := false, rights := 31, regions := fld b 0 1, notBefore := 0, notAfter := max64, ctr := 0, tqMin := 0 }
  else { cert := true, rights := fld b 0x51 1, regions := fld b 0x52 1, notBefore := fld b 0x40 8, notAfter := fld b 0x48 8,
         ctr := fld b 0x50 1, tqMin := fld b 0x53 1 }

/-- Step 1 of R490: the layout of a request. -/
def debugLayout (b : List Byte) : Bool :=
  let a := debugAsk b
  if b.length = 4 then zero? b 1 3
  else
    slice b 0 8 == ascii "EXMDBG01" && zero? b 0x55 11 && (fld b 0x54 1 == 0x13 || fld b 0x54 1 == 0x34) &&
      b.length == 0x60 + sigLen (fld b 0x54 1) && decide (a.rights < 32) && decide (a.tqMin ≤ 3) &&
      decide (a.notBefore < a.notAfter) && ((a.regions != 0) == (bit a.rights 0 || bit a.rights 3)) &&
      (!bit a.rights 3 || bit a.rights 0)

/-- The checks of R490 in order, for a request accepted at tick `t` with time quality `tq`. -/
def debugChecks (s : State) (b : List Byte) (t tq : Nat) : List (Option Status) :=
  let a := debugAsk b
  let held := regionNums.filter fun r => bit a.regions r
  [check (debugLayout b) .malformed,
   check ((if a.cert then s.lcState == 3 && (s.dbgMode == 0 || s.dbgMode == 2)
           else s.lcState == 4 && (s.dbgMode == 0 || s.dbgMode == 1)) &&
          s.life.session.isNone && s.life.opening.isNone) .lifecycle,
   check (!a.cert || (fld b 8 8 == s.pkg.fuses.unit && slice b 0x10 48 == stdN 48 "SHA3-384" [identityPub s] &&
          authorityOk s "EXM-DEBUG-1" (fld b 0x54 1) (b.take 0x60) (b.drop 0x60))) .authFail,
   check (!a.cert || (a.ctr == s.life.otp.dbgCount && decide (s.life.otp.dbgCount < 64))) .counter,
   check (!a.cert || decide (a.tqMin ≤ tq)) .timeQuality,
   check (!a.cert || (decide (a.notBefore ≤ t) && decide (t < a.notAfter))) .keyPeriod,
   check (!a.cert || a.rights &&& s.dbgRights == a.rights) .notPermitted,
   check (held.all s.inService && (!a.cert || regionNums.any fun r => s.inService r && !bit a.regions r)) .deferred]

/-- Start a session: its regions drain with DRAIN_MS 100, and it opens when all are DIKED (R487). -/
def startSession (job : Option Nat) (a : DebugAsk) (s : State) : State :=
  let d : DebugSession := { byCert := a.cert, rights := a.rights, held := a.regions % 256, notAfter := a.notAfter }
  let s1 := s.modLife fun l => { l with opening := some { job := job, session := d } }
  openIfDue ((regionNums.filter fun r => bit a.regions r).foldl (fun s r =>
    setRegionState r .draining false (s.modRegion r fun g =>
      { g with svc := { g.svc with outByCmd := true }, path := { g.path with drainBy := s.tick + 100000000 } })) s1)

/-- The bytes a LIFE request carries: its one INPUT fragment, or its body. -/
def Job.request (j : Job) : List Byte := if j.frags.isEmpty then j.args else j.operand 0

/-- LIFE.DEBUG_OPEN (R490): the request ends when the session opens. -/
def lifeDebugOpen (c : Cmd) (s : State) : State × Option Res :=
  let j := c.job
  let b := j.request
  orBad (paramZero j 0xFFFFFFFF :: famEnabled s j :: debugChecks s b j.acceptTick j.acceptTq) s fun s =>
    (startSession (some j.id) (debugAsk b) ((commit j.id s).modProg j.id fun p => { p with phase := .running }), none)

/-- LIFE.DEBUG_CLOSE (R487); with no session open it has nothing to close. -/
def lifeDebugClose (c : Cmd) (s : State) : State × Option Res :=
  orBad [paramZero c.job 0xFFFFFFFF, bodyIs c.job 0, famEnabled s c.job, check s.life.session.isSome .lifecycle] s fun s =>
    (closeSession (commit c.job.id s), some okRes)

/-- LCS_DEBUG (R492). -/
def State.lcsDebug (s : State) : Nat :=
  match s.life.session with
  | some d => 1 + flag d.byCert 1 + d.rights % 32 * 4 + d.held % 256 * 256
  | none => 0

/-- LIFE.STATUS (R477). -/
def lifeStatus (c : Cmd) (s : State) : State × Option Res :=
  orBad [paramZero c.job 0xFFFFFFFF, bodyIs c.job 0, famEnabled s c.job] s fun s =>
    (s, some (respRes (le 1 s.lcState ++ le 2 s.life.otp.lcCount ++ le 1 s.life.otp.dbgCount ++ le 4 s.lcsDebug ++ zeros 8)))

/-! ### Transition requests (R478-R480) -/

/-- OP of a request. -/
def lcOp (b : List Byte) : Nat := fld b 0x40 1

/-- The payload of a request. -/
def lcPayload (b : List Byte) : List Byte := slice b 0x50 (fld b 0x48 4)

/-- The owner configuration block of a TAKE_OWNERSHIP payload. -/
def lcBlock (b : List Byte) : List Byte := let p := lcPayload b; p.drop (p.length - 32)

/-- The owner configuration block is well formed (R476, R508). -/
def blockOk (b : List Byte) : Bool :=
  decide (1 ≤ fld b 0 1) && decide (fld b 0 1 ≤ 3) && decide (fld b 1 1 ≤ 3) && decide (fld b 2 1 < 32) &&
    decide (fld b 3 1 < 16) && decide (fld b 4 2 < 2048) && zero? b 6 2 && zero? b 0x18 8 &&
    decide (fld b 0x0A 1 < 8) && decide (fld b 0x0B 1 ≤ 3) && zero? b 0x0C 12

/-- The request needs the vendor's signature (R479). -/
def vendorSigns (s : State) (op : Nat) : Bool :=
  op == 1 || op == 5 || op == 6 || (op == 2 && s.life.otp.voucher)

/-- The request needs an owner's signature, or that of the key in its payload (R479). -/
def ownerSigns (s : State) (op : Nat) : Bool :=
  op == 2 || op == 3 || op == 4 || op == 7 || (op == 5 && s.lcState == 3)

/-- Bytes of the vendor signature, which comes first (R478). -/
def vendorLen (s : State) (op : Nat) : Nat := if vendorSigns s op then sigLen 0x13 else 0

/-- Step 1 of R480. -/
def lcLayout (s : State) (b : List Byte) : Bool :=
  let op := lcOp b
  let alg := fld b 0x42 1
  let n := fld b 0x48 4
  let p := lcPayload b
  slice b 0 8 == ascii "EXMLCR01" && zero? b 0x43 1 && zero? b 0x46 2 && zero? b 0x4C 4 && decide (1 ≤ op) &&
    decide (op ≤ 7) &&
    (if ownerSigns s op then alg == 0x13 || alg == 0x34 else alg == 0) &&
    (if op = 2 then n == (if fld p 0 1 = 0x13 then 2625 else 2722) && (fld p 0 1 == 0x13 || fld p 0 1 == 0x34) &&
       fld p 0 1 == alg && blockOk (lcBlock b)
     else n == 0) &&
    b.length == 0x50 + n + vendorLen s op + (if ownerSigns s op then sigLen alg else 0)

/-- Step 2 of R480: the state a request starts from. -/
def lcFrom (s : State) (b : List Byte) : Bool :=
  let x := s.lcState
  fld b 0x41 1 == x && match lcOp b with
    | 1 => x == 1
    | 2 => x == 2
    | 3 => x == 3 && s.dbgMode != 3 && s.dbgMode != 2
    | 4 => x == 4 && s.dbgMode != 2
    | 5 => x == 2 || x == 3
    | 6 => x == 5
    | _ => x == 3 || x == 4

/-- The owner's key accepts the request: the key of the payload for TAKE_OWNERSHIP, in CLEARED the key whose hash is in OTP,
otherwise the authority key (R478, R479). -/
def lcOwnerOk (s : State) (b msg sig : List Byte) : Bool :=
  let alg := fld b 0x42 1
  if lcOp b = 2 then
    let p := lcPayload b
    Config.stdOk "owner authority signature" [ascii "EXM-LIFE-1", le 1 alg, (p.drop 1).take (p.length - 33), msg, sig]
  else if s.lcState = 4 then
    alg == s.pkg.fuses.authAlg &&
      Config.stdOk "owner authority signature" [ascii "EXM-LIFE-1", le 1 alg, s.life.otp.authHash, msg, sig]
  else authorityOk s "EXM-LIFE-1" alg msg sig

/-- Step 3 of R480: the unit, and every signature. -/
def lcAuth (s : State) (b : List Byte) : Bool :=
  let n := 0x50 + fld b 0x48 4
  let op := lcOp b
  let v := vendorLen s op
  fld b 8 8 == s.pkg.fuses.unit && slice b 0x10 48 == stdN 48 "SHA3-384" [identityPub s] &&
    (!vendorSigns s op || Config.stdOk "vendor life-cycle signature"
      [s.life.otp.vendorLc, ascii "EXM-LIFE-1", b.take n, slice b n v]) &&
    (!ownerSigns s op || lcOwnerOk s b (b.take n) (b.drop (n + v)))

/-- The lowest unused slot of 256 to 287 (R481). -/
def freeSlot (s : State) : Option Nat :=
  ((List.range 32).map (· + 256)).find? fun n => (tfind s.life.otp.progress n).isNone

/-- Step 4 of R480; a transition for which no progress slot is left fails here too. -/
def lcCounters (s : State) (b : List Byte) : Bool :=
  let o := s.life.otp
  let n := fld b 0x44 2
  match lcOp b with
  | 3 => n == o.lcCount + 1 && decide (o.lcCount < 256) && decide (s.vault.epoch < 128)
  | 4 => n == o.lcCount + 1 && decide (o.lcCount < 256)
  | 5 => n == 0 && decide (s.vault.epoch < 128) && (freeSlot s).isSome
  | 7 => n == o.dbgCount + 1 && decide (o.dbgCount < 64)
  | _ => n == 0 && (freeSlot s).isSome

/-- Bits set in `a` are set in `b`. -/
def bitsWithin (a b : List Byte) : Bool :=
  a.length ≤ b.length && (List.zip a b).all fun x => (x.1 &&& x.2) == x.1

/-- The hash that TAKE_OWNERSHIP burns. -/
def lcHash (b : List Byte) : List Byte :=
  let p := lcPayload b
  stdN 48 "SHA3-384" [(p.drop 1).take (p.length - 33)]

/-- Step 6 of R480: no burned bit of OWNER_AUTH_HASH or OWNER_CFG need read 0. -/
def lcBurns (s : State) (b : List Byte) : Bool :=
  lcOp b != 2 || (bitsWithin s.life.otp.authHash (lcHash b) && bitsWithin s.life.otp.ownerCfg (lcBlock b))

/-- The checks of R480 in order. -/
def lcChecks (s : State) (b : List Byte) : List (Option Status) :=
  let op := lcOp b
  [check (lcLayout s b) .malformed, check (lcFrom s b) .lifecycle, check (lcAuth s b) .authFail,
   check (lcCounters s b) .counter,
   check (!(op == 3 || op == 4 || op == 5) || s.cmds.all fun c => c.job.mbx) .deferred,
   check (lcBurns s b) .lifecycle]

/-! ### Carrying out a transition (R481, R482) -/

/-- Dike every region that is in, with what R417 wipes there (CLEAR and RETURN, M1). -/
def dikeAll (s : State) : State :=
  let rs := regionNums.filter fun r => s.enabled r && (s.region r).svc.state.fenceable
  let s1 := rs.foldl (fun s r =>
    setRegionState r .diked false (dike r (s.modSvc r fun v => { v with outByCmd := true }))) s
  let lost := rs.flatMap fun r => jobsOn s1 (Cmd.ackedBy r)
  rs.foldl (fun s r => uncheck r (unsend r s)) (lost.foldl (fun s j => loseJob j s) s1)

/-- Vault registers, handle tables and the key-update pending slot are cleared (CLEAR and RETURN, M1). -/
def clearVault (s : State) : State :=
  { s with vault := { s.vault with handles := [], ownerSeed := none, authority := none, domainRoot := [], domainVer := [],
                                   kumSlot := none } }

/-- Every region that stands DIKED and out by command returns through TESTING quick (R482). -/
def returnAll (s : State) : State :=
  (regionNums.filter fun r => s.enabled r && (s.region r).svc.outByCmd).foldl (fun s r => returnHeld r s) s

/-- M1 of CLEAR and RETURN. -/
def clearM1 (s : State) : State := clearVault (dikeAll (closeSession s))

/-- Marked step `m`, 1 to 4, of operation `op` (R482). -/
def lifeStep (op m : Nat) (s : State) : State :=
  match op, m with
  | 1, 1 => s.modOtp fun o => { o with stage := 2 }
  | 2, 1 => applyOwnerCfg (s.modOtp fun o => { o with stage := 3 })
  | 3, 1 => clearM1 s
  | 3, 2 => { s with vault := { s.vault with epoch := min 128 (s.vault.epoch + 1) } }
  | 3, 3 => s.modOtp fun o => { o with lcCount := o.lcCount + 1 }
  | 4, 1 => closeSession s
  | 4, 2 => s.modOtp fun o => { o with lcCount := o.lcCount + 1 }
  | 5, 1 => clearM1 s
  | 5, 2 => { s with vault := { s.vault with epoch := min 128 (s.vault.epoch + 1) } }
  | 5, 3 => emit (.flash "certificate area" []) (s.modMgmt fun x => { x with chains := [] })
  | 5, 4 => s.modOtp fun o => { o with stage := 4 }
  | 6, 1 => s.modOtp fun o => { o with pufHelper := false }
  | 6, 2 => s.modOtp fun o => { o with stage := 5 }
  | _, _ => s

/-- How many marked steps an operation has (R482). -/
def stepsOf (op : Nat) : Nat :=
  match op with
  | 1 => 1 | 2 => 1 | 3 => 3 | 4 => 2 | 5 => 4 | 6 => 2 | _ => 0

/-- A progress slot with its OP and START, marks up to `m`, and DONE (R481). -/
def slotWord (op m : Nat) (done : Bool) : Nat := op % 16 + 16 + (2 ^ m - 1) * 32 + flag done 15

/-- Write a progress slot. -/
def putSlot (n v : Nat) (s : State) : State := s.modOtp fun o => { o with progress := tins n v o.progress }

/-- The newest ZEROIZE record of the management log is not cancelled (R501). -/
def State.zeroizeRecord (s : State) : Bool := (newestLog s.mgmt.log 6).any fun e => fld e.content 4 1 == 0

/-- A transition that leaves OWNED, CLEAR or RETURN, cancels the ZEROIZE record at its DONE (R501). -/
def cancelZeroize (op : Nat) (s : State) : State :=
  if (op = 3 ∨ op = 5) ∧ s.zeroizeRecord then mlog 6 (le 4 s.vault.epoch ++ le 1 1) s else s

/-- Carry out the marked steps of slot `n` from `m` on, at most `fuel` of them, each with its mark; DONE is burned after the
last (R481). -/
def runSteps (n op : Nat) : Nat → Nat → State → State
  | 0, _, s => s
  | fuel + 1, m, s =>
    if stepsOf op < m then cancelZeroize op (putSlot n (slotWord op (stepsOf op) true) s)
    else runSteps n op fuel (m + 1) (putSlot n (slotWord op m false) (lifeStep op m s))

/-- Slot `n` is DONE. -/
def slotDone (s : State) (n : Nat) : Bool := (tfind s.life.otp.progress n).any fun v => bit v 15

/-- What follows DONE (R30, R482): regions return; in FACTORY_TEST the package goes to BOOT. -/
def afterTransition (op : Nat) (s : State) : State :=
  let s1 := if op = 3 ∨ op = 5 then returnAll s else s
  let s2 := addedEvent evLifeCycle s1
  if s2.pkg.mode = .factoryTest then
    setMode .boot (s2.modPkg fun p => { p with booting := true })
  else s2

/-- The slot a transition takes (R481). -/
def slotOf (s : State) (op : Nat) : Nat :=
  if op = 3 ∨ op = 4 then s.life.otp.lcCount else (freeSlot s).getD 287

/-- The data burns of SEAL and TAKE_OWNERSHIP (R481). A payload's OWN_VOUCHER burn belongs to SEAL. -/
def dataBurns (b : List Byte) (s : State) : State :=
  match lcOp b with
  | 1 => s.modOtp fun o => { o with voucher := true }
  | 2 => (s.modOtp fun o => { o with authHash := lcHash b, ownerCfg := lcBlock b }).modPkg fun p =>
      { p with fuses := { p.fuses with authAlg := fld b 0x42 1 } }
  | _ => s

/-- Data burns cut short: some of the bits are burned, which ones is a free value (R481). -/
def partBurns (b : List Byte) (s : State) : State :=
  if lcOp b = 2 then
    let (x, s1) := drawBytes 48 s
    let (y, s2) := drawBytes 32 s1
    let cut (old new m : List Byte) : List Byte := (List.zip (fit new.length old) (List.zip new m)).map fun e =>
      e.1 ||| (e.2.1 &&& e.2.2)
    s2.modOtp fun o => { o with authHash := cut o.authHash (lcHash b) x, ownerCfg := cut o.ownerCfg (lcBlock b) y }
  else s

/-- LIFE.TRANSITION (R480-R482). The transition may be cut short by what follows (R484): `cut` 0 cuts the data burns, 1 comes
after START, `n + 1` after `n` marks; beyond the last mark it runs to its end. A transition cut short stays in its slot, and
its request open. -/
def lifeTransition (cut : Nat) (c : Cmd) (s : State) : State × Option Res :=
  let j := c.job
  let b := j.request
  let op := lcOp b
  orBad (paramZero j 0xFFFFFFFF :: famEnabled s j :: lcChecks s b) s fun s =>
    let wait (s : State) : State :=
      (s.modLife fun l => { l with inTransition := true }).modProg j.id fun p => { p with phase := .running }
    if op = 7 then
      let s1 := (commit j.id s).modOtp fun o => { o with dbgCount := o.dbgCount + 1 }
      (closeSession s1, some okRes)
    else if cut = 0 then (wait (partBurns b s), none)
    else
      let n := slotOf s op
      let s1 := commit j.id (putSlot n (slotWord op 0 false) (dataBurns b s))
      let s2 := runSteps n op (if stepsOf op < cut then stepsOf op + 1 else cut - 1) 1 s1
      if slotDone s2 n then (afterTransition op s2, some okRes) else (wait s2, none)

/-- Marks of a slot that are burned. -/
def marksOf (v : Nat) : Nat :=
  if bit v 8 then 4 else if bit v 7 then 3 else if bit v 6 then 2 else if bit v 5 then 1 else 0

/-- A transition cut short is resumed at its first clear mark, before anything else depends on it (R483). -/
def resumeTransition (s : State) : State :=
  match s.life.otp.progress.find? fun e => bit e.2 4 && !bit e.2 15 with
  | none => s
  | some (n, v) =>
    let op := v % 16
    (runSteps n op (stepsOf op + 1) (marksOf v + 1) s).modLife fun l => { l with resumed := true }

/-- LIFE.STATUS (R477). -/
def execLifeStatus (j : Nat) (s : State) : Host.Outcome State Fault Refusal := .next (runVerb 0x0D01 j lifeStatus s)
/-- LIFE.TRANSITION (R481). -/
def execLifeTransition (j cut : Nat) (s : State) : Host.Outcome State Fault Refusal :=
  .next (runVerb 0x0D02 j (lifeTransition cut) s)
/-- LIFE.DEBUG_OPEN (R490). -/
def execLifeDebugOpen (j : Nat) (s : State) : Host.Outcome State Fault Refusal := .next (runVerb 0x0D03 j lifeDebugOpen s)
/-- LIFE.DEBUG_CLOSE (R487). -/
def execLifeDebugClose (j : Nat) (s : State) : Host.Outcome State Fault Refusal := .next (runVerb 0x0D04 j lifeDebugClose s)

/-- DEBUG_WINDOW_END (R487): the first tick at or after NOT_AFTER. -/
def execDebugWindowEnd (s : State) : Host.Outcome State Fault Refusal :=
  .next (if s.life.session.any fun d => d.byCert && decide (d.notAfter ≤ s.tick) then closeSession s else s)

end Sys2Proof.Machine
end

