-- ==== Sys2Proof/Machine/Queues.lean ====
section
/-! DEFINITION. Queue pairs (R70-R91): enabling, doorbells, the fetch and its checks, completions and their interrupts. -/

namespace Sys2Proof.Machine

/-- The shape of every verb that the submission queue carries. -/
def shapes : ShapeFn := fun op param args =>
  match op / 256 with
  | 1 => shapeSys op param args
  | 2 => shapeKey op param args
  | 3 => if op ≤ 0x0304 then shapeLattice op param args else shapeNumber op param args
  | 4 => if op ≤ 0x0405 then shapeLattice op param args
         else if op ≤ 0x040A then shapeHashSig op param args else shapeNumber op param args
  | 5 => shapeDig op param args
  | 6 => shapeSym op param args
  | 7 => shapeRng op param args
  | 8 => shapeFrm op param args
  | 16 => shapeCust op param args
  | _ => {}

/-! ### Enabling (R73) -/

/-- A ring size code that is defined (R71). -/
def sizeOkLog2 (n : Nat) : Bool := decide (12 ≤ n) && decide (n ≤ 22)

/-- The ring does not wrap the 64-bit address space. -/
def noWrap (base n : Nat) : Bool := decide (base + n ≤ 2 ^ 64)

/-- Enabled submission queues of the package (R70). -/
def State.sqsEnabled (s : State) : Nat := (s.insts.map fun e => (e.2.sqs.filter (·.2.enable)).length).sum

/-- SQ_ENABLE (R73). DESIGN CHOICE (log 75): a write of 1 to ENABLE of a queue that is enabled has no effect and leaves ERR_CFG. -/
def sqEnableAt (i q : Nat) (s : State) : State :=
  let x := s.sq i q
  if !s.reachable i || decide (32 ≤ q) || x.enable then s
  else if sizeOkLog2 x.log2 && noWrap x.base (2 ^ x.log2) && (s.cq i x.cq).enable && decide (q < (s.inst i).cfg.maxQp) &&
      decide (s.sqsEnabled < 4096) then
    s.modSq i q fun x => { x with enable := true, errCfg := false, head := 0, tail := 0, buf := [], fetchStopped := false }
  else noteBadAccess (s.modSq i q fun x => { x with errCfg := true })

/-- The row: the access of R35 through a BAR (R110). -/
def execSqEnable (i q : Nat) (s : State) : Host.Outcome State Fault Refusal :=
  .next (s.gated i (sqEnableAt i q s))

/-- CQ_ENABLE (R73), with the choice of `sqEnableAt` on a ring that is enabled (log 75). -/
def cqEnableAt (i c : Nat) (s : State) : State :=
  let x := s.cq i c
  if !s.reachable i || decide (32 ≤ c) || x.enable then s
  else if sizeOkLog2 x.log2 && noWrap x.base (2 ^ x.log2) && decide (c < (s.inst i).cfg.maxQp) then
    s.modCq i c fun x => { x with enable := true, errCfg := false, tail := 0, phase := true, head := 0, w := 0, unsignalled := [] }
  else noteBadAccess (s.modCq i c fun x => { x with errCfg := true })

/-- The row: the access of R35 through a BAR (R110). -/
def execCqEnable (i c : Nat) (s : State) : Host.Outcome State Fault Refusal :=
  .next (s.gated i (cqEnableAt i c s))

/-! ### Doorbells (R78) -/

/-- Units of a submission ring. -/
def Sq.units (x : Sq) : Nat := 2 ^ (x.log2 - 4)
/-- Entries of a completion ring. -/
def Cq.entries (x : Cq) : Nat := 2 ^ (x.log2 - 5)

/-- SQ_DOORBELL (R78): a new tail; a value equal to the tail has no effect. -/
def sqDoorbellAt (i q v : Nat) (s : State) : State :=
  let x := s.sq i q
  let n := x.units
  let t := v % 2 ^ 18
  if !s.reachable i || decide (32 ≤ q) then s
  else if !x.enable then noteBadAccess s
  else if t < n ∧ (t + n - x.tail) % n ≤ n - 1 - (x.tail + n - x.head) % n then
    s.modSq i q fun x => { x with tail := t, fetchStopped := false }
  else noteBadAccess (s.modSq i q fun x => { x with dbRange := true })

/-- The row: the access of R35 through a BAR (R110). -/
def execSqDoorbell (i q v : Nat) (s : State) : Host.Outcome State Fault Refusal :=
  .next (s.gated i (sqDoorbellAt i q v s))

/-- CQ_DOORBELL (R78, R82, R87): a new head releases completions, restarts the age of those beyond it, and lets a ring whose
write failed be tried again. DESIGN CHOICE (log 76): a value that R78 refuses is ignored here too, so that posting goes on only at an
accepted one; and completions released before they were signalled leave the unsignalled count. -/
def cqDoorbellAt (i c v : Nat) (s : State) : State :=
  let x := s.cq i c
  let m := x.entries
  let h := v % 2 ^ 17
  let d := (h + m - x.head) % m
  if !s.reachable i || decide (32 ≤ c) then s
  else if !x.enable then noteBadAccess s
  else if h < m ∧ 0 < d ∧ d ≤ x.w then
    s.modCq i c fun x =>
      { x with head := h, w := x.w - d, writeStopped := false,
               unsignalled := (x.unsignalled.drop (x.unsignalled.length - (x.w - d))).map fun _ => s.tick }
  else noteBadAccess (s.modCq i c fun x => { x with dbRange := true })

/-- The row: the access of R35 through a BAR (R110). -/
def execCqDoorbell (i c v : Nat) (s : State) : Host.Outcome State Fault Refusal :=
  .next (s.gated i (cqDoorbellAt i c v s))

/-! ### Reservations and service -/

/-- Commands of a submission queue, of its instance's generation, accepted and not yet posted (QE_SQ_OUTSTANDING, R91). -/
def State.outstanding (s : State) (i q : Nat) : Nat := (s.cmds.filter fun c => c.job.inst == i && c.job.src == .sq q && s.current c.job).length

/-- Slots held for accepted entries of a completion ring (QE_CQ_RESERVED). -/
def State.reserved (s : State) (i c : Nat) : Nat :=
  (s.cmds.filter fun d => d.job.inst == i && s.current d.job && match d.job.src with
    | .sq q => (s.sq i q).cq == c
    | .mbx => false).length

/-- Free slots of a completion ring (R84). -/
def State.freeSlots (s : State) (i c : Nat) : Nat := (s.cq i c).entries - 1 - (s.cq i c).w - s.reserved i c

/-- The queue engine works: main power, PERST_N high, past BOOT, not STANDBY or HALT; an accepted SYS.STANDBY stops the
fetch (R49, R439, R528). -/
def State.queuesUp (s : State) : Bool :=
  s.pkg.mode.mainPower && s.pkg.perstHigh && !s.pkg.halted && s.pkg.mode != .standby && s.pkg.mode != .boot

/-- An accepted SYS.STANDBY waits to be posted. -/
def State.standbyDue (s : State) : Bool :=
  s.cmds.any fun c => c.job.opcode == 0x0102 && c.prog.phase == .returned && c.prog.res.any fun r => r.status == .ok

/-- A submission queue may take its turn (R81, R82, R84, R91, R110). -/
def State.mayFetch (s : State) (i q : Nat) : Bool :=
  let x := s.sq i q
  x.enable && x.head != x.tail && !x.fetchStopped && s.present i && !(s.inst i).resetting && !s.ideBlocked i &&
    decide (0 < s.freeSlots i x.cq)

/-- The queues of the package in round-robin order after number `rr`, as 32 × instance + queue. -/
def State.queueOrder (s : State) : List Nat :=
  let all := s.insts.flatMap fun e => e.2.sqs.map fun x => 32 * e.1 + x.1
  (all.filter fun n => decide (s.rr < n)) ++ all.filter fun n => decide (n ≤ s.rr)

/-- The queue whose turn it is (R81). -/
def State.turn (s : State) : Option Nat :=
  if s.queuesUp && !s.jseqWait && !s.standbyDue then s.queueOrder.find? fun n => s.mayFetch (n / 32) (n % 32) else none

/-! ### The fetch (R79-R83) -/

/-- Move the fetch position past `n` units of a ring; the rest of the ring takes the tail with it where the tail lies inside
(R79, R80). -/
def advance (i q n : Nat) (rest : Bool) (s : State) : State :=
  s.modSq i q fun x =>
    let u := x.units
    let inside := rest && decide ((x.tail + u - x.head) % u < u - x.head)
    { x with head := if rest then 0 else (x.head + n) % u, tail := if inside then 0 else x.tail, buf := [] }

/-- Accept an entry: tick, JSEQ, checks, and the reads of its inputs (R65, R83, R452). -/
def acceptEntry (i q : Nat) (b : List Byte) (bad : Option Status) (s : State) : State :=
  let (n, s1) := takeJseq s
  let j0 : Job := { id := s1.nextId, src := .sq q, inst := i, gen := (s1.inst i).gen, opcode := fld b 2 2, tag := fld b 4 2,
                    handle := nullHandle, param := 0, jseq := n, acceptTick := s1.tick, acceptTq := s1.time.quality.code,
                    jfull := bit (fld b 0 2) 11, notify := bit (fld b 0 2) 12,
                    order := bit (fld b 0 2) 9 || bit (fld b 0 2) 10, fence := bit (fld b 0 2) 10 }
  let (j, r) := match bad with
    | some st => (j0, some (stRes st))
    | none => readEntry shapes b j0
  let c : Cmd := { job := j }
  let s2 := { s1 with nextId := s1.nextId + 1, cmds := s1.cmds ++ [c] }
  let s3 := if j.has (·.sc) && !s2.commitFull then enterCommit c s2 else s2
  match r with
  | some r => finish j.id r s3
  | none => fetchInputs j.id s3

/-- Read entries of a queue from `n` units in hand, whose bytes are `b`, from the fetch position on (R80, R81, R83, R84). A long entry
that is published whole but not yet in hand stays in staging for the next turn. -/
def readEntries (i q : Nat) : Nat → Nat → List Byte → State → State
  | 0, _, _, s => s
  | fuel + 1, n, b, s =>
    let x := s.sq i q
    let u := x.units
    let pub := (x.tail + u - x.head) % u
    let toEnd := u - x.head
    let len := bits (fld b 0 2) 8 0
    if pub = 0 ∨ n = 0 then s
    else if fld b 2 2 = 0 then
      if len = 0 ∨ toEnd < len then
        readEntries i q fuel (n - toEnd) (b.drop (16 * toEnd)) (advance i q toEnd true s)
      else if pub < len then s
      else readEntries i q fuel (n - len) (b.drop (16 * len)) (advance i q len false s)
    else if s.freeSlots i x.cq = 0 ∨ s.jseqWait then s
    else if len = 0 ∨ 256 < len then
      readEntries i q fuel (n - 1) (b.drop 16) (acceptEntry i q b (some .malformed) (advance i q 1 false s))
    else if toEnd < len then
      let s1 := (advance i q toEnd true s).modSq i q fun x => { x with skipped := true }
      readEntries i q fuel (n - toEnd) (b.drop (16 * toEnd)) (acceptEntry i q b (some .malformed) s1)
    else if pub < len then s
    else if n < len then s.modSq i q fun x => { x with buf := b.take (16 * n) }
    else
      readEntries i q fuel (n - len) (b.drop (16 * len)) (acceptEntry i q b none (advance i q len false s))

/-- Count a translation fault in the view of instance `i` (R97, R101). -/
def xlatFault (i addr access cause : Nat) (s : State) : State :=
  s.modInst i fun n => { n with xlatAddr := addr, xlatAccess := access, xlatCause := cause,
                                xlatCount := satAdd 0xFFFF n.xlatCount 1 }

/-- CAUSE of a failed host access (R97). -/
def HostAns.cause : HostAns → Nat
  | .data _ => 0 | .denied => 0 | .ur => 1 | .timeout => 2

/-- A read of ring memory fails (R82, R101, R541). -/
def fetchFault (i q cause : Nat) (s : State) : State :=
  let x := s.sq i q
  noteHostMemory (xlatFault i (x.base + 16 * x.head + x.buf.length) 0 cause
    (s.modSq i q fun x => { x with fetchFault := true, fetchStopped := true }))

/-- Published units of a submission queue that have not been read: those before the ring end that staging does not hold (R78, R79,
R81). -/
def Sq.unread (x : Sq) : Nat :=
  min ((x.tail + x.units - x.head) % x.units) (x.units - x.head) - x.buf.length / 16

/-- A turn of queue `q` of instance `i` (R81): up to 1 KiB of its published units, which do not wrap, is read from behind what
staging holds; the read answers `ans`. -/
def takeTurn (i q : Nat) (ans : HostAns) (s : State) : State :=
  let x := s.sq i q
  let n := min 64 x.unread
  let a := x.base + 16 * x.head + x.buf.length
  let s1 := emit (.read i a (16 * n) (s.tagOf i false)) (askPage i a (16 * n) { s with rr := 32 * i + q })
  match ans with
  | .data b =>
    readEntries i q 320 (x.buf.length / 16 + n) (x.buf ++ fit (16 * n) b) (s1.modSq i q fun x => { x with buf := [] })
  | a => fetchFault i q a.cause s1

/-- QUEUE_FETCH (R81, R83): the queue whose turn it is reads up to 1 KiB of its published units, which `ans` holds in ring order
from the fetch position on. -/
def execQueueFetch (ans : HostAns) (s : State) : Host.Outcome State Fault Refusal :=
  .next (match s.turn with
    | none => s
    | some n => takeTurn (n / 32) (n % 32) ans s)

/-! ### Completions (R85, R87) -/

/-- Enter the STATE_CHANGING commands that wait for the commit table, while it has room (R452). -/
def enterWaiting (s : State) : State :=
  (s.cmds.filter fun c => c.job.has (·.sc) && c.job.jseq != 0 && !(s.btn.commits.any fun k => k.jseq == c.job.jseq)).foldl
    (fun s c => if s.commitFull || c.prog.phase == .returned then s else enterCommit c s) s

/-- Raise the vector of a completion ring: every completion posted so far is signalled (R87); not from the start of an FLR
(R91). -/
def raiseCq (i c : Nat) (s : State) : State :=
  let x := s.cq i c
  if x.ien && !s.pkg.halted && !(s.inst i).resetting then
    raiseVector i x.vector (s.modCq i c fun x => { x with unsignalled := [] })
  else s

/-- The bytes a result releases. -/
def Res.bytes (r : Res) : List Byte := r.outs.flatMap (·.2)

/-- RESULT_LEN (R69, R85). -/
def Res.len (r : Res) : Nat :=
  match r.status with
  | .ok => r.bytes.length
  | .outputShort => r.need
  | _ => 0

/-- Write bytes over the OUTPUT fragments of an operand in list order (R77). -/
def writeFrags (i : Nat) : List Frag → List Byte → State → State
  | [], _, s => s
  | f :: fs, b, s =>
    if b.isEmpty then s else writeFrags i fs (b.drop f.len) (hostWrite i f.addr (b.take f.len) f.noSnoop s)

/-- Write a result's output to host memory (R77). -/
def writeOutputs (j : Job) (r : Res) (s : State) : State :=
  r.outs.foldl (fun s o => writeFrags j.inst (j.frags.filter fun f => f.kind == .output && f.operand == o.1) o.2 s) s

/-- The 32 bytes of a completion (R85). -/
def completion (s : State) (c : Cmd) (r : Res) (q : Nat) (x : Cq) : List Byte :=
  le 2 c.job.tag ++ le 2 r.status.code ++ le 2 q ++
    le 2 (flag x.phase 0 + flag c.prog.reissued 2 + flag (s.time.quality == .coarse) 3) ++ le 4 (s.sq c.job.inst q).head ++
    le 4 r.len ++ le 8 c.job.jseq ++ le 4 (min max32 c.prog.energy) ++ le 4 s.tick

/-- Add energy to the counter of an instance (R96). -/
def addEnergy (i e : Nat) (s : State) : State := s.modInst i fun n => { n with energy := satAdd max64 n.energy e }

/-- What a result changes as it is released: the handle of a creating verb is entered, which is its commit point (R350). -/
def release (c : Cmd) (r : Res) (s : State) : State :=
  if r.status = .ok then
    let s1 := enterKey r s
    if r.key.isSome then commit c.job.id s1 else s1
  else s

/-- A job of the instance is in a region, on a die link or in apex staging (R105). -/
def State.drainLeft (s : State) (i : Nat) : Bool :=
  s.cmds.any fun c => c.job.inst == i && !c.job.mbx && !(c.prog.phase == .fetching || c.prog.phase == .ready)

/-- The end of a wrap drain (R105). -/
def endDrain (i : Nat) (s : State) : State := s.modInst i fun n => { n with gen := 0, wrapDrain := false }

/-- The drain ends once every region has reported and no job is left (R105). -/
def drainIfDone (i : Nat) (s : State) : State :=
  if (s.inst i).wrapDrain && (s.inst i).awaited.isEmpty && !s.drainLeft i then endDrain i s else s

/-- Discard a result of an older generation (R104), which may be the last that a wrap drain waits for (R105). -/
def discard (c : Cmd) (s : State) : State :=
  let i := c.job.inst
  let s1 := (addEnergy i (min max32 c.prog.energy) s).modInst i fun n => { n with stale := inc32 n.stale }
  drainIfDone i (enterWaiting ((if c.job.jseq = 0 then s1 else closeCommand c .staleGeneration [] s1).dropCmd c.job.id))

/-- Post a completion: output first, then the completion, the journal and the interrupt (R64, R77, R85, R87-R90). -/
def post (c : Cmd) (r : Res) (q : Nat) (s : State) : State :=
  let i := c.job.inst
  let s1 := release c r (writeOutputs c.job r s)
  let c1 := (s1.cmd? c.job.id).getD c
  let n := (s1.sq i q).cq
  let x := s1.cq i n
  let b := completion s1 c1 r q x
  let s2 := hostWrite i (x.base + 32 * x.tail) b false s1
  let last := x.tail + 1 == x.entries
  let s3 := s2.modCq i n fun x => { x with
    tail := if last then 0 else x.tail + 1, phase := if last then !x.phase else x.phase, w := x.w + 1,
    unsignalled := x.unsignalled ++ [s.tick] }
  let s4 := addEnergy i (min max32 c.prog.energy) s3
  let s5 := if journalFull s4 c1 r.status then closeCommand c1 r.status r.bytes s4 else countInBatch i q c.job.jseq b s4
  let s6 := enterWaiting (s5.dropCmd c.job.id)
  let s7 := if r.status.code / 256 = 1 then s6.modSq i q fun x => { x with badEntry := true } else s6
  if c.job.notify || decide (x.count ≤ (s7.cq i n).unsignalled.length) then raiseCq i n s7 else s7

/-- The host memory that a result is written to: the parts of the OUTPUT fragments of its operands that its bytes fill (R77). -/
def Res.spans (r : Res) (j : Job) : List (Nat × Nat) :=
  r.outs.flatMap fun o => (j.frags.filter fun f => f.kind == .output && f.operand == o.1).map fun f => (f.addr, min f.len o.2.length)

/-- The first page of these spans of instance `i` that has no translation (R99). -/
def State.missingPage (s : State) (i : Nat) (l : List (Nat × Nat)) : Option Nat := l.findSome? fun x => s.untranslated i x.1 x.2

/-- The page whose translation the output or the completion of a command still needs (R99). -/
def State.postMiss (s : State) (c : Cmd) (r : Res) (q : Nat) : Option Nat :=
  let x := s.cq c.job.inst (s.sq c.job.inst q).cq
  s.missingPage c.job.inst (r.spans c.job ++ [(x.base + 32 * x.tail, 32)])

/-- JOB_RESULT_RETURN (R24, R63, R82, R104, R110, R439): the result of a submission entry is in apex staging and is posted, where
nothing holds it. -/
def execJobResultReturn (j : Nat) (s : State) : Host.Outcome State Fault Refusal :=
  .next (
    match s.cmd? j with
    | none => s
    | some c => match c.job.src, c.prog.res with
      | .sq q, some r =>
        if c.prog.phase != .returned || !s.queuesUp then s
        else if !s.current c.job then fitShelf c.job.inst (discard c s)
        else if (c.job.order && !(s.earlier c).isEmpty) || s.ideBlocked c.job.inst || (s.cq c.job.inst (s.sq c.job.inst q).cq).writeStopped
          then s
        else match s.postMiss c r q with
          | some p => emit (.translate c.job.inst p) s
          | none => fitShelf c.job.inst (post c r q s)
      | _, _ => s)

/-- The timer of R87 for a completion ring. -/
def cqTimer (i c : Nat) (s : State) : State :=
  let x := s.cq i c
  if x.timeUs != 0 && x.unsignalled.head?.any (fun t => decide ((t + 1000 * x.timeUs + 999) / 1000 * 1000 ≤ s.tick)) then raiseCq i c s
  else s

/-- COALESCE_TIMER_EXPIRY (R87, R283): at a 1 µs tick the oldest unsignalled completion of a ring, or entry of a frame ring, is at least
TIME_US old. -/
def execCoalesceTimerExpiry (i : Nat) (c : RingNo) (s : State) : Host.Outcome State Fault Refusal :=
  .next (match c with
    | .completion n => cqTimer i n s
    | .frame n => ringTimer i n s)

end Sys2Proof.Machine
end

