-- ==== Sys2Proof/Machine/Mailbox.lean ====
section
/-! DEFINITION. Mailboxes (R54-R62, R540): the request buffer, the doorbell, acceptance, the response; and the entry to STANDBY
that follows the response of SYS.STANDBY (R30, R49). -/

namespace Sys2Proof.Machine

/-! ### Entry to STANDBY (R30, R49, R191, R252, R323, R450, R515) -/

/-- A region that is powered down: SRAM wiped, no state (R30). -/
def offRegion (g : Region) : Region :=
  let w := wipeRegion g
  { w with
      svc := { w.svc with state := .absent, outByCmd := false, outByFault := false, switching := false },
      path := { w.path with wiped := true },
      pans := w.pans.map fun e => (e.1, { e.2 with
        svc := { e.2.svc with pwr := .dormant, waking := none, held := false }, cs := { e.2.cs with reloading := false } }),
      latCells := w.latCells.map fun e => (e.1, { e.2 with warm := none }),
      numCells := w.numCells.map fun e => (e.1, { e.2 with warm := none }),
      cust := { w.cust with held := [] } }

/-- Every region is powered down; the jobs it held end (R30, R419). -/
def offRegions (s : State) : State :=
  let js := jobsOn s fun c => regionNums.any fun r => c.ackedBy r
  let s1 := { s with regions := s.regions.map (fun e => (e.1, offRegion e.2)), cores := [], cust := {} }
  js.foldl (fun s j => loseJob j s) s1

/-- Every LMS key's record is written with RL equal to q (R191). -/
def settleLms (s : State) : State :=
  { s with vault := { s.vault with lms := s.vault.lms.map fun l => { l with rl := l.q, raising := false } } }

/-- STANDBY is entered once the response of an accepted SYS.STANDBY is posted (R30, R49): a checkpoint, the LMS records, the
card port and the regions powered down, time COARSE. -/
def enterStandby (s : State) : State :=
  let s1 := timeCoarse (offRegions (cardDown (settleLms (takeCheckpoint (setMode .standby s)))))
  { s1 with
      mgmt := { s1.mgmt with running := false, alive := false, spdm := [], doeHeld := [], agent := none, pldm := {}, roll := none },
      digWin := if s1.digWin.owner = some true then s1.digWin.released else s1.digWin,
      faults := { s1.faults with tests := [] } }

/-! ### Requests -/

/-- Verbs that only mailboxes carry and that take one fragment descriptor after their body: where it stands in the body, and
its TYPE (R352, R395, R456, R466). -/
def trailing (op : Nat) : Option (Nat × FragKind) :=
  match op with
  | 0x0208 => some (32, .output)
  | 0x0A01 => some (12, .output)
  | 0x0A02 => some (4, .output)
  | 0x0A04 => some (4, .output)
  | 0x0A05 => some (0, .output)
  | 0x0C01 => some (8, .input)
  | 0x1002 => some (0, .input)
  | _ => none

/-- Verbs of the KEY family that only the administrative mailbox carries but whose operands R348 numbers: their body is that
of R540. -/
def r540Body (op : Nat) : Bool := op == 0x020B || op == 0x020C

/-- A body with one trailing descriptor (R55). -/
def readTrailing (at' : Nat) (k : FragKind) (b : List Byte) (j : Job) : Job × Option Res :=
  if b.length < at' + 16 then (j, some (stRes .malformed))
  else match readFrag (slice b at' 16) with
    | none => (j, some (stRes .badFragment))
    | some f =>
      if f.kind = k then ({ j with frags := [{ f with operand := 0 }], args := b.take at' ++ b.drop (at' + 16) }, none)
      else (j, some (stRes .badFragment))

/-- A body of a signed LIFE request, which exceeds a mailbox: 16 bytes that are an INPUT descriptor stand for it; any other body
is the request itself. -/
def readSigned (b : List Byte) (j : Job) : Job × Option Res :=
  match readFrag b with
  | some f =>
    if b.length = 16 ∧ f.kind = .input then ({ j with frags := [{ f with operand := 0 }] }, none)
    else ({ j with args := b }, none)
  | none => ({ j with args := b }, none)

/-- The opening of an opcode to a mailbox (R43, R46, R48). DESIGN CHOICE (log 73): a verb that the queue and the administrative
mailbox carry is none of R48's cases in an instance mailbox, and is answered as an administrative-only verb. -/
def mailboxPath (i op : Nat) : Option Status :=
  match verbRec op with
  | none => some .badOpcode
  | some v =>
    if i = 0 then if v.adm then none else some .badPath
    else if v.inst then none else if v.adm then some .notPermitted else some .badPath

/-- The body of a request of `n` bytes (R540 and the chapters of the verbs). -/
def readBody (b : List Byte) (n : Nat) (j : Job) : Job × Option Res :=
  let op := j.opcode
  let body := (b.take n).drop 32
  if op / 256 = 1 then ({ j with args := body }, if body.isEmpty then none else some (stRes .malformed))
  else if (verbRec op).any (·.queue) || r540Body op then readMbxBody shapes b n j
  else match trailing op with
    | some (o, k) => readTrailing o k body j
    | none =>
      if op = 0x0D02 ∨ op = 0x0D03 then readSigned body j
      else ({ j with args := body }, none)

/-- A request whose verb only mailboxes carry takes a key where it is KEY.ATTEST, and the null handle otherwise (R51); FRM.HARVEST_SET
has checks of its own (R292), and of the other verbs step 8 of R83 checks it. -/
def nullOk (j : Job) : Bool :=
  ((verbRec j.opcode).any (·.queue) && j.opcode / 256 != 1) || r540Body j.opcode ||
    j.opcode == 0x080A || (j.handle == nullHandle) == !(j.opcode == 0x0208)

/-- The handle checks of R52, which a mailbox request passes at its acceptance; a repeated REQ_ID comes before them (log 72). Of a
request that R107 holds the handle is checked once the reset has ended, as the verb runs. -/
def mailboxHandle (s : State) (j : Job) : Option Status :=
  if j.handle = nullHandle ∨ j.opcode = 0x080A ∨ s.repeated j ∨ (s.inst j.targetInst).resetting then none
  else if j.opcode = 0x0203 then keyChecks s j [2, 3] (· == 0xE8) 11 fun _ => true
  else checkHandle s j fun _ => true

/-- The checks of a request at acceptance: its path, its body, the null handle and the handle (R48, R51, R52, R540). -/
def checkRequest (s : State) (i : Nat) (b : List Byte) (j : Job) : Job × Option Res :=
  match mailboxPath i j.opcode with
  | some st => (j, some (stRes st))
  | none =>
    if nullOk j then match readBody b (fld b 2 2) j with
      | (j1, some r) => (j1, some r)
      | (j1, none) => (j1, (mailboxHandle s j1).map stRes)
    else (j, some (stRes .malformed))

/-- The header of a request is refused at once: SEQ, REQ_LEN, reserved fields (R55, R58). -/
def headerBad (i seq : Nat) (b : List Byte) : Bool :=
  fld b 4 2 != seq || decide (fld b 2 2 < 32) || decide (4096 < fld b 2 2) || !(zero? b 6 2) || !(zero? b 0x19 7) ||
    (i != 0 && !(zero? b 0x18 1))

/-- Raise the vector of a mailbox (R57). -/
def raiseMbx (i : Nat) (s : State) : State :=
  if (s.inst i).mbx.vecEn && !s.pkg.halted then raiseVector i (s.inst i).mbx.vector s else s

/-- Put a response in the buffer and take the mailbox DONE (R56, R58). -/
def respond (i : Nat) (bytes : List Byte) (s : State) : State :=
  raiseMbx i (s.modMbx i fun m => { m with state := .done, cur := none, resp := writeBuf [] 0 (bytes.take 4096) })

/-- Accept a request (R58, R65, R452): tick, JSEQ, the commit table, the checks of its path and body, and the reads of its
fragments; a STATE_CHANGING request that waits for entries in flight is marked held (R66). -/
def acceptRequest (i seq : Nat) (b : List Byte) (s : State) : State :=
  let (n, s1) := takeJseq s
  let j0 : Job := { id := s1.nextId, src := .mbx, inst := i, gen := (s1.inst i).gen, opcode := fld b 0 2, tag := seq,
                    handle := BitVec.ofNat 32 (fld b 0x10 4), param := BitVec.ofNat 32 (fld b 0x14 4), reqId := fld b 8 8,
                    target := if i = 0 then fld b 0x18 1 else i, jseq := n, acceptTick := s1.tick,
                    acceptTq := s1.time.quality.code }
  let (j, r) := checkRequest s1 i b j0
  let c : Cmd := { job := j }
  let hold := s1.heldForEntries c
  let c1 : Cmd := { c with prog := { c.prog with wait := if hold then some .object else none } }
  let s2 := { (s1.modMbx i fun m => { m with state := .busy, cur := some j.id }) with
                nextId := s1.nextId + 1, cmds := s1.cmds ++ [c1] }
  let s3 := if j.has (·.sc) && !s2.commitFull then enterCommit c1 s2 else s2
  match r with
  | some r => finish j.id r s3
  | none => fetchInputs j.id s3

/-- MAILBOX_DOORBELL (R57, R58, R62): acceptance waits while no JSEQ is reserved (R449). -/
def mailboxDoorbellAt (i v : Nat) (s : State) : State :=
  let seq := v % 65536
  if !s.reachable i then s
  else if s.mbxClosed i then s.modMbx i fun m => { m with refused := true }
  else if (s.inst i).mbx.state = .busy then s.modMbx i fun m => { m with overrun := true }
  else if s.jseqWait then s
  else
    let b := readBuf (s.inst i).mbx.req 0 4096
    let s1 := s.modMbx i fun m => { m with seq := seq }
    if headerBad i seq b then
      respond i (respHeader (fld b 0 2) Status.malformed.code (fld b 4 2) 32 0 s.tick 0) s1
    else acceptRequest i seq b s1

/-- The row: the access of R35 through a BAR (R110). -/
def execMailboxDoorbell (i v : Nat) (s : State) : Host.Outcome State Fault Refusal :=
  .next (s.gated i (mailboxDoorbellAt i v s))

/-- MAILBOX_BUFFER_WRITE (R54, R58): a 32-bit word at offset `o` of the request buffer. -/
def mailboxBufferWriteAt (i o v : Nat) (s : State) : State :=
  if !s.reachable i then s
  else if !(o % 4 == 0) || decide (4096 ≤ o) then noteBadAccess s
  else if (s.inst i).mbx.state = .busy then s.modMbx i fun m => { m with overrun := true }
  else s.modMbx i fun m => { m with req := writeBuf m.req o (le 4 v) }

/-- The row: the access of R35 through a BAR (R110). -/
def execMailboxBufferWrite (i o v : Nat) (s : State) : Host.Outcome State Fault Refusal :=
  .next (s.gated i (mailboxBufferWriteAt i o v s))

/-- MAILBOX_HOLD_RELEASE (R66): the entries in flight that named an object of the request have posted. -/
def execMailboxHoldRelease (j : Nat) (s : State) : Host.Outcome State Fault Refusal :=
  .next (
    match s.cmd? j with
    | none => s
    | some c =>
      if c.job.mbx && c.prog.wait == some .object && !s.heldForEntries c then s.modProg j fun p => { p with wait := none }
      else s)

/-! ### Responses -/

/-- RESP_LEN (R56, R69). -/
def Res.respLen (r : Res) : Nat :=
  match r.status with
  | .ok => 32 + r.resp.length
  | .outputShort => min 65535 r.need
  | _ => 32

/-- The response of a served request (R56). -/
def responseBytes (c : Cmd) (r : Res) (seq t : Nat) : List Byte :=
  respHeader c.job.opcode r.status.code seq r.respLen c.job.shownJseq t c.prog.energy ++
    if r.status = .ok then r.resp else []

/-- A served request is answered: a change of frame configuration or of customer packages takes effect (R272, R402), then come the output, the response, the journal and
the vector (R56, R58, R64, R66). -/
def answerRequest (i : Nat) (c : Cmd) (r0 : Res) (s0 : State) : State :=
  let (s, r) := frmSettled c r0 (custSettled c r0 s0)
  let s1 := release c r (writeOutputs c.job r s)
  let c1 := (s1.cmd? c.job.id).getD c
  let s2 := addEnergy i (min max32 c.prog.energy) s1
  let s3 := if journalFull s2 c1 r.status then closeCommand c1 r.status (r.bytes ++ r.resp) s2 else s2
  let s4 := enterWaiting (s3.dropCmd c.job.id)
  let s5 := respond i (responseBytes c1 (r.answered s c.job.opcode) (s.inst i).mbx.seq s.tick) s4
  if c.job.opcode = 0x0102 ∧ r.status = .ok then enterStandby s5 else s5

/-- An earlier request that is served, and held by nothing, has its answer first (R59, log 71). -/
def State.answersFirst (s : State) (c : Cmd) : Bool :=
  !c.job.has (·.long) && s.cmds.any fun d =>
    d.job.mbx && !d.job.has (·.long) && decide (d.job.id < c.job.id) && d.prog.phase == .returned && d.prog.wait != some .object &&
      !(d.prog.res.any (fun r => !r.outs.isEmpty) && s.ideBlocked d.job.inst)

/-- MAILBOX_REQUEST_DONE (R58): the request of the mailbox of instance `i` has been served. -/
def execMailboxRequestDone (i : Nat) (s : State) : Host.Outcome State Fault Refusal :=
  .next (
    match (s.inst i).mbx.state, (s.inst i).mbx.cur.bind s.cmd? with
    | .busy, some c => match c.prog.res with
      | some r =>
        if c.prog.phase != .returned || c.prog.wait == some .object || s.answersFirst c || s.pkg.halted || !s.pkg.perstHigh || !s.pkg.mode.mainPower ||
            (!r.outs.isEmpty && s.ideBlocked i) then s
        else match s.missingPage i (r.spans c.job) with
          | some p => emit (.translate i p) s
          | none => fitShelf c.job.targetInst (answerRequest i c r s)
      | none => s
    | _, _ => s)

end Sys2Proof.Machine
end

