-- ==== Sys2Proof/Machine/HostMemory.lean ====
section
/-! DEFINITION. What the host answers to the block's reads and writes of host memory (R82, R101, R285, R345, R451). -/

namespace Sys2Proof.Machine

/-- ACCESS of a fragment of command `j` (R97): a mailbox fragment, the blob of a key load, or input and output. -/
def Job.access (j : Job) (output : Bool) : Nat :=
  if j.mbx then 4 else if output then 2 else if j.opcode = 0x0204 then 6 else 1

/-- Input fragment `n` of command `j` has been read, or not (R77, R101); one of a streamed key arrives while the cell works (R220). -/
def fragmentDone (j n : Nat) (a : HostAns) (s : State) : State :=
  match s.cmd? j with
  | none => s
  | some c =>
    let streams := c.prog.phase == .running && c.job.streamed.contains n
    if !(c.prog.phase == .fetching || streams) || !c.job.missing.contains n then s
    else match c.job.frags[n]?, a with
      | some f, .data b =>
        let left := c.job.missing.filter fun k => !(k == n)
        s.modCmd j fun c =>
          { c with job := { c.job with parts := tins n (fit f.len b) c.job.parts, missing := left },
                   prog := { c.prog with phase := if streams then .running else if left.isEmpty then .ready else .fetching } }
      | some f, a => fail j .addrFault (xlatFault c.job.inst f.addr (c.job.access false) a.cause s)
      | none, _ => s

/-- The address of fragment `n` of a command. -/
def Job.fragAddr (j : Job) (n : Nat) : Nat := ((j.frags[n]?).map (·.addr)).getD 0

/-- The output write of command `j` to its fragment `n` fails: the result becomes ST_ADDR_FAULT (R83, R97, R101). -/
def outputDone (j n : Nat) (a : HostAns) (s : State) : State :=
  match s.cmd? j, a with
  | some c, .denied | some c, .ur | some c, .timeout => match c.prog.res with
    | some r =>
      if c.prog.phase == .returned && !r.outs.isEmpty then
        (xlatFault c.job.inst (c.job.fragAddr n) (c.job.access true) a.cause s).modProg j fun p =>
          { p with res := some (stRes .addrFault) }
      else s
    | none => s
  | _, _ => s

/-- A read of ring memory is answered on the queue's turn (R81, R82). -/
def sqReadDone (i q : Nat) (a : HostAns) (s : State) : State :=
  if s.turn = some (32 * i + q) then takeTurn i q a s else s

/-- A completion write to ring `c` of instance `i` fails (R82, R101): posting to the ring stops and its vector is raised. -/
def cqWriteDone (i c : Nat) (a : HostAns) (s : State) : State :=
  match a with
  | .data _ => s
  | a =>
    if s.present i && (s.cq i c).enable then
      let s1 := xlatFault i ((s.cq i c).base + 32 * (s.cq i c).tail) 3 a.cause
        (s.modCq i c fun x => { x with writeFault := true, writeStopped := true })
      noteHostMemory (raiseCq i c s1)
    else s

/-- A write to frame ring `n` of instance `i` fails (R285, R101). -/
def ringWriteDone (i n : Nat) (a : HostAns) (s : State) : State :=
  match a with
  | .data _ => s
  | a =>
    if s.present i && (s.fring i n).enable then
      noteHostMemory (xlatFault i ((s.fring i n).base + 16 * (s.fring i n).tail) 5 a.cause
        (s.modFring i n fun x => { x with writeFault := true, stopped := true }))
    else s

/-- The blob or streamed public key that command `j` waits for (R101, R214, R220, R345). -/
def keyReadDone (j : Nat) (a : HostAns) (s : State) : State :=
  match s.cmd? j with
  | none => s
  | some c => match jobKey s c.job with
    | none => s
    | some k =>
      if c.prog.wait = some .shelf then
        match a with
        | .data b => loadShelf j (fit k.blobLen b) s
        | a => (shelfWaiters s (s.shelfRegion c k) k).foldl (fun s j => fail j .addrFault s) (xlatFault k.inst k.blobAddr 6 a.cause s)
      else if c.job.missing.contains 254 then
        match a with
        | .data b => s.modCmd j fun c => { c with job := { c.job with
            parts := tins 254 (fit k.blobLen b) c.job.parts, missing := c.job.missing.filter fun n => !(n == 254) } }
        | a => fail j .addrFault (xlatFault k.inst k.blobAddr 6 a.cause s)
      else if c.job.missing.contains 255 then
        match a with
        | .data b => s.modCmd j fun c => { c with job := { c.job with
            parts := tins 255 (fit k.pubLen b) c.job.parts, missing := c.job.missing.filter fun n => !(n == 255) } }
        | a => fail j .addrFault (xlatFault k.inst k.pubAddr 6 a.cause s)
      else s

/-- A write of the journal mirror at `addr` fails (R97, R451): mirroring stops until JRNL.MIRROR_SET enables it again. -/
def mirrorDone (addr : Nat) (a : HostAns) (s : State) : State :=
  match a with
  | .data _ => s
  | a =>
    if s.jrn.mirrorOn then
      noteHostMemory (xlatFault 0 addr 2 a.cause (s.modJrn fun j => { j with mirrorOn := false, mirrorFault := true }))
    else s

/-- Put an entry in the translation cache (R100): an instance holds at most 2,048, the cache 8,192; the oldest entry of the
instance, or of an instance that holds more than its guaranteed 16, gives way. -/
def cacheEntry (l : List AtsEntry) (e : AtsEntry) : List AtsEntry :=
  let held (i : Nat) : Nat := (l.filter fun x => x.inst == i).length
  let l1 := if 2048 ≤ held e.inst then
      match l.find? fun x => x.inst == e.inst with
      | some x => l.erase x
      | none => l
    else if 8192 ≤ l.length then
      match l.find? fun x => decide (16 < held x.inst) with
      | some x => l.erase x
      | none => l
    else l
  l1 ++ [e]

/-- What an answer to an access does, by what the access was for (R101). -/
def answerUse (u : HostUse) (a : HostAns) (s : State) : State :=
  match u with
  | .fragment j n => fragmentDone j n a s
  | .output j n => outputDone j n a s
  | .sqRead i q => sqReadDone i q a s
  | .cqWrite i c => cqWriteDone i c a s
  | .ringWrite i n => ringWriteDone i n a s
  | .key j => keyReadDone j a s
  | .mirror p => mirrorDone p a s
  | .translation _ _ _ => s

/-- The command that a held read is for still waits for it. -/
def AtsHeld.live (h : AtsHeld) (s : State) : Bool :=
  match h.use with
  | .fragment j n => (s.cmd? j).any fun c => c.prog.phase == .fetching && c.job.missing.contains n
  | .key j => (s.cmd? j).any fun c => c.prog.wait == some .shelf || c.job.missing.contains 254 || c.job.missing.contains 255
  | _ => false

/-- The access touches the `2 ^ size` bytes from `page` on. -/
def AtsHeld.touches (h : AtsHeld) (page size : Nat) : Bool := decide (h.addr < page + 2 ^ size) && decide (page < h.addr + h.len)

/-- Issue the held reads of instance `i` whose translations are there; for one that needs a further page after the one at `page` has
come, ask for that (R99, R100). -/
def releaseHeld (i page size : Nat) (s : State) : State :=
  let step (s : State) (h : AtsHeld) : State :=
    match s.untranslated i h.addr h.len with
    | none => emit (.read i h.addr h.len (s.tagOf i h.noSnoop)) (s.modPkg fun p => { p with atsWait := p.atsWait.erase h })
    | some q => if h.touches page size then emit (.translate i q) s else s
  (s.pkg.atsWait.filter fun h => h.inst == i && h.live s).foldl step s

/-- A translation completion (R100, R101): granted, it is cached under the instance's tags for a page of 4 KiB to 1 GiB, and reads
that waited for it are issued; a fault is not cached and ends them. -/
def translationDone (i page size : Nat) (a : HostAns) (s : State) : State :=
  if !s.present i || decide (size < 12) || decide (30 < size) then s
  else
    let first := page / 2 ^ size * 2 ^ size
    match a with
    | .data _ =>
      let e : AtsEntry := { inst := i, gen := (s.inst i).gen, pasid := s.pasidOf i, page := first, sizeLog2 := size }
      releaseHeld i first size (s.modPkg fun p => { p with ats := if p.ats.contains e then p.ats else cacheEntry p.ats e })
    | a =>
      let hs := s.pkg.atsWait.filter fun h => h.inst == i && h.touches first size
      hs.foldl (fun s h => answerUse h.use a s) (s.modPkg fun p => { p with atsWait := p.atsWait.filter fun h => !hs.contains h })

/-- A read of instance `x.inst` that used the pages of the invalidation is outstanding (R100): the input of a command, or a blob or
public key of its own, not one that waits for a translation. -/
def State.inUse (s : State) (x : AtsInval) : Bool :=
  let hit (a n : Nat) : Bool := decide (a < x.page + 2 ^ x.size) && decide (x.page < a + n)
  let idle (u : HostUse) : Bool := s.pkg.atsWait.any fun h => h.use == u
  s.cmds.any fun c =>
    c.job.inst == x.inst && ((c.prog.phase == .fetching && c.job.missing.any fun n => !idle (.fragment c.job.id n) &&
        (c.job.frags[n]?).any fun f => hit f.addr f.len) ||
      (!idle (.key c.job.id) && (jobKey s c.job).any fun k =>
        ((c.prog.wait == some .shelf || c.job.missing.contains 254) && hit k.blobAddr k.blobLen) ||
          (c.job.missing.contains 255 && hit k.pubAddr k.pubLen)))

/-- Answer the invalidation requests whose accesses have completed (R100). -/
def settleInval (s : State) : State :=
  let done := s.pkg.atsInval.filter fun x => !s.inUse x
  done.foldl (fun s x => emit (.atsDone x.inst x.page) s) (s.modPkg fun p => { p with atsInval := p.atsInval.filter fun x => s.inUse x })

/-- HOST_MEMORY_COMPLETION (R99-R101): an answer to an access that has been issued, or to a translation request. -/
def execHostMemoryCompletion (u : HostUse) (a : HostAns) (s : State) : Host.Outcome State Fault Refusal :=
  .next (match u with
    | .translation i p n => settleInval (translationDone i p n a s)
    | u => if s.pkg.atsWait.any fun h => h.use == u then s else settleInval (answerUse u a s))

end Sys2Proof.Machine
end

