-- ==== Sys2Proof/Machine/Insts.lean ====
section
/-! DEFINITION. Instances (R92-R111): function-level reset, generations, removal, reassignment, the administrative view, the
translation cache and IDE streams. -/

namespace Sys2Proof.Machine

/-! ### Ends of a command at a reset -/

/-- Close a command of a reset instance in the journal and drop it; under HALT nothing is journalled (R60, R91, R439). DESIGN CHOICE
(log 80): the energy it used, if any, counts in the instance's counter, whether or not INST_STALE counts it. -/
def closeGone (st : Status) (c : Cmd) (s : State) : State :=
  let s1 := addEnergy c.job.inst (min max32 c.prog.energy) s
  let s2 := if c.job.jseq = 0 ∨ s.pkg.halted ∨ (c.job.mbx ∧ ¬ c.job.has (·.sc)) then s1 else closeCommand c st [] s1
  drainIfDone c.job.inst (enterWaiting (s2.dropCmd c.job.id))

/-- A job leaves its unit: slots zero-written and counted, local memory of its core wiped (R103, R404). -/
def abortWork (j : Nat) (s : State) : State :=
  let cores := (s.cust.runs.filter fun x => x.job == some j && x.saved.isNone).map (·.core)
  dropRun j (cores.foldl (fun s k => wipeCore k s) (freeSlots j s))

/-- A started job of an older generation is aborted; its result is counted as discarded (R103, R104). -/
def abortOld (c : Cmd) (s : State) : State :=
  let s1 := (abortWork c.job.id s).modInst c.job.inst fun n => { n with stale := inc32 n.stale }
  settleUnits (closeGone .staleGeneration c s1)

/-- A job of an older generation that has not started is dropped (R103). -/
def dropOld (c : Cmd) (s : State) : State := closeGone .staleGeneration c (abortWork c.job.id s)

/-- FLR abandons the request of a mailbox (R58, R60): what had not reached its commit point leaves no effect; buffers and
registers return to reset. -/
def abandonRequest (i : Nat) (s : State) : State :=
  let s1 := match (s.inst i).mbx.cur.bind s.cmd? with
    | none => s
    | some c =>
      let s2 := settleUnits (closeGone .instanceReset c (abortWork c.job.id s))
      if s2.card.op.any (fun o : CardOp => o.job == c.job.id && !o.committed) then { s2 with card := { s2.card with op := none } }
      else s2
  s1.modMbx i fun _ => {}

/-! ### Generations (R102-R108) -/

/-- Regions that hold jobs: those the notice goes to (R103). -/
def State.notified (s : State) : List Nat :=
  regionNums.filter fun r => s.enabled r && ((s.region r).svc.state == .inService || (s.region r).svc.state == .draining)

/-- Frame-ring subscriptions of an instance end (R108, R285). -/
def dropSubs (i : Nat) (s : State) : State :=
  (framesGeneration i s).modFrames fun f => { f with
    streams := f.streams.map fun e => (e.1, { e.2 with subs := e.2.subs.filter fun x => !(x.inst == i) }) }

/-- Warm-cell reservations of an instance end (R108, R413). -/
def dropWarm (i : Nat) (s : State) : State :=
  let free (t : Tbl CellRec) : Tbl CellRec := t.map fun e => (e.1, { e.2 with warm := e.2.warm.filter fun w => !(w == i) })
  { s with regions := s.regions.map fun e => (e.1, { e.2 with
      svc := { e.2.svc with warm := e.2.svc.warm.filter fun w => !(w.inst == i) },
      latCells := free e.2.latCells, numCells := free e.2.numCells }) }

/-- The crystallizer counters of an instance are cleared at its generation change (R135). -/
def clearHits (i : Nat) (s : State) : State :=
  { s with regions := s.regions.map fun e => (e.1, { e.2 with lat := { e.2.lat with hits := tdel e.2.lat.hits i } }) }

/-- The start of a generation change (R91, R102, R103, R105, R108): RESETTING, the generation, the cache, the kept REQ_IDs, the
handle table, subscriptions and reservations; entries not yet dispatched are discarded, batches close, regions are notified.
An event during a reset is absorbed. -/
def startReset (i : Nat) (s : State) : State :=
  if (s.inst i).resetting then s
  else
    let wraps := decide (65535 ≤ (s.inst i).gen)
    let s1 := s.modInst i fun n => { n with
      gen := if wraps then n.gen else n.gen + 1, resetting := true, wrapDrain := wraps, kept := [], awaited := s.notified,
      noticeTick := s.tick }
    let s2 := { s1 with
      vault := { s1.vault with handles := s1.vault.handles.filter fun k => !(k.inst == i) },
      pkg := { s1.pkg with ats := s1.pkg.ats.filter (fun e => !(e.inst == i)),
                           atsWait := s1.pkg.atsWait.filter fun h => !(h.inst == i) } }
    let s3 := clearHits i (dropWarm i (dropSubs i s2))
    let s4 := if s3.pkg.halted then s3 else closeBatches (fun b => b.inst == i) s3
    (s4.cmds.filter fun c => c.job.inst == i && !c.job.mbx && (c.prog.phase == .fetching || c.prog.phase == .ready)).foldl
      (fun s c => closeGone .staleGeneration c s) s4

/-- Reset of an instance: its mailbox and its generation. -/
def resetFunction (i : Nat) (s : State) : State := startReset i (abandonRequest i s)

/-- FLR, or removal, of a function: its MSI-X table and its ATS enable go with it. -/
def resetPcie (i : Nat) (s : State) : State :=
  resetFunction i (s.modInst i fun n => { n with msix := [], pba := [], msixEn := false, msixMask := false, atsEn := false })

/-- Reset of the physical function, which resets every instance, disables the virtual functions and releases the host's digest window
(R91, R102, R181). -/
def resetAll (s : State) : State :=
  let s1 := (s.instances.foldl (fun s i => resetPcie i s) s).modPkg fun p => { p with vfEnable := false, numVfs := 0 }
  { s1 with digWin := if s1.digWin.owner = some false then s1.digWin.released else s1.digWin }

/-- FLR_START (R91, R102) of function `i`. -/
def execFlrStart (i : Nat) (s : State) : Host.Outcome State Fault Refusal :=
  .next (
    if !s.present i || !s.pkg.mode.mainPower || !s.pkg.perstHigh then s
    else if i = 0 then resetAll s
    else resetPcie i s)

/-- PCIE_HOT_RESET (R442): every function is reset as FLR does. -/
def execPcieHotReset (s : State) : Host.Outcome State Fault Refusal :=
  .next (if s.pkg.mode.mainPower && s.pkg.perstHigh then resetAll s else s)

/-- VF_ENABLE_SET (R92): instances 1 to `n` exist, each at its current generation. -/
def execVfEnableSet (n : Nat) (s : State) : Host.Outcome State Fault Refusal :=
  .next (
    if s.pkg.vfEnable || decide (255 < n) || !s.pkg.mode.mainPower || !s.pkg.perstHigh then s
    else s.modPkg fun p => { p with vfEnable := true, numVfs := n })

/-- VF_ENABLE_CLEAR (R102, R108): the virtual instances are removed. -/
def execVfEnableClear (s : State) : Host.Outcome State Fault Refusal :=
  .next (
    if s.pkg.vfEnable then
      ((s.instances.filter fun i => i != 0).foldl (fun s i => resetPcie i s) s).modPkg fun p =>
        { p with vfEnable := false, numVfs := 0 }
    else s)

/-- A routine that a generation change does not end yet (R396): one of POLL between safe points, one of RESTART after its COMMIT. -/
def State.runsOn (s : State) (c : Cmd) : Bool :=
  s.cust.runs.any fun x => x.job == some c.job.id && x.saved.isNone &&
    if x.rt.poll then !x.atSafe (s.core x.core) else x.committed

/-- REGION_GENERATION_REPORT (R103): region `r` drops the jobs of instance `i` that have not started and aborts the others; it reports
once no routine of R396 runs on there. -/
def execRegionGenerationReport (i r : Nat) (s : State) : Host.Outcome State Fault Refusal :=
  .next (
    if !(s.inst i).resetting || !(s.inst i).awaited.contains r then s
    else
      let mine (c : Cmd) : Bool := c.job.inst == i && !c.job.mbx
      let waiting := s.cmds.filter fun c => mine c && c.prog.region == some r && (c.prog.phase == .sent || c.prog.phase == .acked)
      let runs := s.cmds.any fun c => mine c && c.prog.region == some r && c.prog.phase == .running && s.runsOn c
      let started := s.cmds.filter fun c => mine c && !s.runsOn c &&
        ((c.prog.region == some r && (c.prog.phase == .running || c.prog.phase == .yielded)) ||
          (c.prog.phase == .checking && (c.prog.check.map (·.1)).getD (c.prog.region.getD 0) == r))
      let s1 := waiting.foldl (fun s c => closeGone .staleGeneration c (abortWork c.job.id s)) s
      let s2 := started.foldl (fun s c => abortOld c s) s1
      if runs then s2 else drainIfDone i (s2.modInst i fun n => { n with awaited := n.awaited.filter fun q => !(q == r) }))

/-- WRAP_DRAIN_TIMEOUT (R105): regions that have not reported within 10 ms raise a CONTAIN fault of their steward, and the drain
ends without them. -/
def execWrapDrainTimeout (i : Nat) (s : State) : Host.Outcome State Fault Refusal :=
  .next (
    let n := s.inst i
    if n.wrapDrain && !n.awaited.isEmpty && decide (n.noticeTick + 10000000 ≤ s.tick) then
      let s1 := n.awaited.foldl (fun s r => raiseContain { on := regionUnit r .steward, cause := .watchdog } s) s
      endDrain i (s1.modInst i fun n => { n with awaited := [] })
    else s)

/-- The wipes that end a reset (R108): shelf entries, the crystallizer partition and pins, in every region. -/
def wipeInstance (i : Nat) (s : State) : State :=
  { s with regions := s.regions.map fun e => (e.1, { e.2 with
      shelf := e.2.shelf.filter (fun k => !(k.inst == i)), pins := e.2.pins.filter (fun p => !(p.2.inst == i)),
      lat := { e.2.lat with cryst := e.2.lat.cryst.filter (fun x => !(x.inst == i)),
                            fills := e.2.lat.fills.filter (fun x => !(x.inst == i)) } }) }

/-- The registers governed by FLR return to reset; generation, handle pointer, energy, INST_STALE and the administrative view
stay (R91, R97, R98, R106). -/
def resetView (n : Inst) : Inst :=
  { gen := n.gen, handlePtr := n.handlePtr, energy := n.energy, stale := n.stale, cfg := n.cfg, cfgErr := n.cfgErr,
    ideFail := n.ideFail, msix := n.msix, pba := n.pba, msixEn := n.msixEn, msixMask := n.msixMask, atsEn := n.atsEn }

/-- FLR_COMPLETE (R91, R107): every region has reported, the wipes are done, RESETTING clears. -/
def execFlrComplete (i : Nat) (s : State) : Host.Outcome State Fault Refusal :=
  .next (
    let s1 := drainIfDone i s
    let n := s1.inst i
    if n.resetting && n.awaited.isEmpty && !n.wrapDrain then settleInval ((wipeInstance i s1).modInst i resetView) else s)

/-! ### The administrative view (R95, R96, R98, R108) -/

/-- INST_ADM_REASSIGN (R108): a generation change that also resets the instance view, INST_STALE and the energy counter, and
ends an open mailbox request; it acts whether or not the instance exists, and is ignored for instance 0. DESIGN CHOICE (log 79): what it
clears is cleared at its start, in a reset that is already in progress too. -/
def instAdmReassignAt (i : Nat) (s : State) : State :=
  if !s.reachable 0 || decide (256 ≤ i) then s
  else if i = 0 then noteBadAccess s
  else (resetFunction i s).modInst i fun n =>
    { n with stale := 0, energy := 0, xlatAddr := 0, xlatAccess := 0, xlatCause := 0, xlatCount := 0, demoted := 0 }

/-- The row: the access of R35 through a BAR (R110). -/
def execInstAdmReassign (i : Nat) (s : State) : Host.Outcome State Fault Refusal :=
  .next (s.gated 0 (instAdmReassignAt i s))

/-- INST_ADM_CLR_ENERGY (R96). -/
def instAdmClrEnergyAt (i : Nat) (s : State) : State :=
  if s.reachable 0 && decide (i < 256) then s.modInst i fun n => { n with energy := 0 } else s

/-- The row: the access of R35 through a BAR (R110). -/
def execInstAdmClrEnergy (i : Nat) (s : State) : Host.Outcome State Fault Refusal :=
  .next (s.gated 0 (instAdmClrEnergyAt i s))

/-- A write of the administrative view that is ignored (R95, R98). -/
def refuseAdm (i : Nat) (s : State) : State := noteBadAccess (s.modInst i fun n => { n with cfgErr := true })

/-- The fields of INST_ADM_QUOTA0 (`w` false) or QUOTA1 after a write of `v`; a reserved value leaves its field (R11, R98). -/
def InstCfg.quota (c : InstCfg) (w : Bool) (v : Nat) : InstCfg :=
  if w then
    { c with cryst := if bits v 9 0 ≤ 440 then bits v 9 0 else c.cryst,
             slotKib := if bits v 29 16 ≤ 10240 then bits v 29 16 else c.slotKib }
  else
    { c with maxQp := if bits v 5 0 ≤ 32 then bits v 5 0 else c.maxQp,
             pins := if bits v 10 8 ≤ 4 then bits v 10 8 else c.pins, shelf := bits v 31 16 }

/-- A sum over all 256 instances with the new configuration of instance `i` (R95). -/
def State.quotaSum (s : State) (i : Nat) (c : InstCfg) (f : InstCfg → Nat) : Nat :=
  ((List.range 256).map fun k => if k = i then f c else f (s.inst k).cfg).sum

/-- The sums of R95 hold with the new configuration. -/
def State.sumsOk (s : State) (i : Nat) (c : InstCfg) : Bool :=
  decide (s.quotaSum i c (·.shelf) ≤ 2560) && decide (s.quotaSum i c (·.pins) ≤ 4) && decide (s.quotaSum i c (·.cryst) ≤ 440) &&
    decide (s.quotaSum i c (·.slotKib) ≤ 10240)

/-- Bytes of the operand partitions of region `r` that jobs of instance `i` hold. -/
def State.slotUse (s : State) (i r : Nat) : Nat :=
  ((s.cmds.filter fun c => c.job.inst == i && c.prog.region == some r).map fun c =>
    ((c.prog.slots.filter fun x => decide (x.2 < 8192)).map fun x => 64 * (s.pan r x.1).slots.len64).sum).sum

/-- MAX_QP, PINS and SLOT_KIB are not lowered below present use (R95). -/
def State.useOk (s : State) (i : Nat) (c : InstCfg) : Bool :=
  ((s.inst i).sqs.all fun q => !q.2.enable || decide (q.1 < c.maxQp)) &&
    ((s.inst i).cqs.all fun q => !q.2.enable || decide (q.1 < c.maxQp)) &&
    regionNums.all fun r =>
      (decide ((s.inst i).cfg.pins ≤ c.pins) || decide (((s.region r).pins.filter fun p => p.2.inst == i).length ≤ c.pins)) &&
        (decide ((s.inst i).cfg.slotKib ≤ c.slotKib) || decide (s.slotUse i r ≤ 1024 * c.slotKib))

/-- Evict what a lowered CRYST quota of instance `i` leaves no room for in region `r`; the pins of evicted entries are released
(R132). -/
def trimCryst (i r : Nat) (s : State) : State :=
  let g := s.region r
  let s1 := evictCryst true r i 0 (s.inst i).cfg.cryst (fun _ => true) g.lat.cryst.length s
  let lost := (g.lat.cryst.filter fun e => e.pinned && !(s1.region r).lat.cryst.contains e).map (·.digest)
  { s1 with vault := { s1.vault with handles := s1.vault.handles.map fun k =>
      if k.inst == i && k.home == r && lost.contains k.digest then { k with pinned := false } else k } }

/-- Evict what exceeds lowered SHELF and CRYST quotas of instance `i`, least recently used first (R95, R132). -/
def trimQuotas (i : Nat) (s : State) : State :=
  regionNums.foldl (fun s r => trimCryst i r (evictFor r i 0 (s.region r).shelf.length s)) s

/-- INST_ADM_QUOTA_WRITE (R95) of QUOTA0, or of QUOTA1 with `w`. -/
def instAdmQuotaWriteAt (i : Nat) (w : Bool) (v : Nat) (s : State) : State :=
  let c := (s.inst i).cfg.quota w v
  if !s.reachable 0 || decide (256 ≤ i) then s
  else if s.sumsOk i c && s.useOk i c then trimQuotas i (s.modInst i fun n => { n with cfg := c })
  else refuseAdm i s

/-- The row: the access of R35 through a BAR (R110). -/
def execInstAdmQuotaWrite (i : Nat) (w : Bool) (v : Nat) (s : State) : Host.Outcome State Fault Refusal :=
  .next (s.gated 0 (instAdmQuotaWriteAt i w v s))

/-- INST_ADM_CFG_WRITE (R98). -/
def instAdmCfgWriteAt (i v : Nat) (s : State) : State :=
  let n := s.inst i
  if !s.reachable 0 || decide (256 ≤ i) then s
  else if n.sqs.any (·.2.enable) || n.cqs.any (·.2.enable) then refuseAdm i s
  else s.modInst i fun n => { n with cfg := { n.cfg with
    pasid := bits v 19 0, pasidEn := bit v 20, ideRequired := bit v 21, ideBind := bit v 22, ideStream := bits v 27 23 } }

/-- The row: the access of R35 through a BAR (R110). -/
def execInstAdmCfgWrite (i v : Nat) (s : State) : Host.Outcome State Fault Refusal :=
  .next (s.gated 0 (instAdmCfgWriteAt i v s))

/-- INST_XLAT_CLR (R97). -/
def instXlatClrAt (i : Nat) (s : State) : State :=
  if s.reachable i then s.modInst i fun n => { n with xlatCount := 0 } else s

/-- The row: the access of R35 through a BAR (R110). -/
def execInstXlatClr (i : Nat) (s : State) : Host.Outcome State Fault Refusal :=
  .next (s.gated i (instXlatClrAt i s))

/-! ### Translations and IDE streams (R100, R111) -/

/-- ATS_INVALIDATION_REQUEST (R100) of `2 ^ size` bytes from `page` on: the entries go, and the request is answered once every access
that used them has completed. -/
def execAtsInvalidationRequest (i page size : Nat) (s : State) : Host.Outcome State Fault Refusal :=
  .next (
    if s.present i && s.pkg.mode.mainPower && s.pkg.perstHigh then
      settleInval (s.modPkg fun p => { p with
        ats := p.ats.filter fun e =>
          !(e.inst == i && decide (e.page < page + 2 ^ size) && decide (page < e.page + 2 ^ e.sizeLog2)),
        atsInval := p.atsInval ++ [{ inst := i, page := page, size := size }] })
    else s)

/-- IDE_STREAM_FAILURE (R98, R111), which marks every instance bound to it, existing or not: selective stream `n`, or the link stream for 32, leaves the Secure state. -/
def execIdeStreamFailure (n : Nat) (s : State) : Host.Outcome State Fault Refusal :=
  .next (
    if s.pkg.ideSecure.contains n then
      let s1 := s.modPkg fun p => { p with ideSecure := p.ideSecure.filter fun k => !(k == n) }
      let bound := (List.range 256).filter fun i => (s.inst i).cfg.ideBind && (s.inst i).cfg.ideStream == n
      noteHostMemory (bound.foldl (fun s i => s.modInst i fun x => { x with ideFail := true }) s1)
    else s)

end Sys2Proof.Machine
end

