-- ==== Sys2Proof/Machine/Jobs.lean ====
section
/-! DEFINITION. Jobs in their regions: sending and acknowledgement (R20-R23), dispatch to units (R113, R115, R168, R186, R202,
R411, R413), pans waking and their admission (R408-R412), yields (R175, R205, R246) and release checks (R124-R127, R208). -/

namespace Sys2Proof.Machine

/-! ### What a job holds -/

/-- Pipelines of a symmetric engine that a job takes: one for an unchecked serial job, else both (R231-R233). -/
def State.pipes (s : State) (r : Nat) (c : Cmd) : Nat := if s.runsUnchecked r c && c.job.serial then 1 else 2

/-- Unit `n` of a kind in region `r` has room for a job (R113, R167, R231). -/
def State.roomOn (s : State) (c : Cmd) (r : Nat) (k : UnitKind) (n : Nat) : Bool :=
  let us := s.cmds.filter fun d => !(d.job.id == c.job.id) && (d.unitsIn r).contains (k, n)
  match k with
  | .random => true
  | .sym => decide ((us.map fun d => s.pipes r d).sum + s.pipes r c ≤ 2)
  | .sponge => if c.job.onCore then us.all (fun d => d.job.onCore) && decide (us.length < 16) else us.isEmpty
  | .hash =>
    if c.job.onCore then
      let f := spongeFunc c.job.func
      us.all (fun d => d.job.onCore) &&
        decide ((us.filter fun d => spongeFunc d.job.func == f).length < if f then 4 else 8)
    else us.isEmpty
  | _ => us.isEmpty

/-- The warm reservation of unit `n` of a kind. -/
def State.warmOf (s : State) (r : Nat) (k : UnitKind) (n : Nat) : Option Nat :=
  match k with
  | .lattice => (tget cell0 (s.region r).latCells n).warm
  | .number => (tget cell0 (s.region r).numCells n).warm
  | _ => none

/-- The warm reservation of a cell lets the command in: none, or that of its instance for class 0 (R413). -/
def State.warmOk (s : State) (c : Cmd) (r : Nat) (k : UnitKind) (n : Nat) : Bool :=
  (s.warmOf r k n).all fun i => c.effClass == 0 && i == c.job.inst

/-- The cell holds a reservation of the command's instance. -/
def State.ownWarm (s : State) (c : Cmd) (r : Nat) (k : UnitKind) (n : Nat) : Bool :=
  s.warmOf r k n == some c.job.inst && c.effClass == 0

/-- SLH-DSA and LMS signing, whose hash cells SLH_CELLS limits (R176, R186, R192). -/
def Job.slhSigns (j : Job) : Bool := j.opcode == 0x0406 || j.opcode == 0x0408

/-- Hash cells that a place of a signing job takes. -/
def Job.slhCells (j : Job) : Nat := if j.slhSigns then if j.slhPan then 2 else 1 else 0

/-- Hash cells of region `r` held by SLH-DSA and LMS signing, release checks included (R176, R196). -/
def State.slhHeld (s : State) (r : Nat) : Nat :=
  ((s.cmds.filter fun c => c.job.slhSigns).map fun c => ((c.unitsIn r).filter fun u => u.1 == .hash).length).sum

/-- A place in region `r`, of the job or of its release check, stays within SLH_CELLS (R186). -/
def State.slhOk (s : State) (c : Cmd) (r : Nat) : Bool :=
  c.job.slhCells == 0 || decide (s.slhHeld r + c.job.slhCells ≤ (s.region r).dig.slhCells)

/-- Every unit that a place on unit `n` takes is usable, has room and lets the command in. -/
def State.unitsOk (s : State) (c : Cmd) (r : Nat) (k : UnitKind) (n : Nat) : Bool :=
  (c.job.takesUnits k n).all (fun u => s.usable r u.1 u.2 && s.roomOn c r u.1 u.2) && s.warmOk c r k n &&
    (!c.job.slhPan || n % 2 == 0)

/-! ### Slots and pond units (R113, R202, R242) -/

/-- Operand slots a job needs in pan `p`. -/
def State.slotCount (s : State) (c : Cmd) (r p : Nat) : Nat := slotBytes s r p c.job / s.slotLen r p

/-- The need passes the instance's cap, so that the verb answers ST_QUOTA. -/
def State.slotsOver (s : State) (c : Cmd) (r p : Nat) : Bool :=
  decide (1024 * (s.inst c.job.inst).cfg.slotKib < slotBytes s r p c.job)

/-- Free operand slots of pan `p`, lowest first. -/
def State.freeSlotsOf (s : State) (r p : Nat) : List Nat :=
  (List.range (2097152 / s.slotLen r p)).filter fun x => !(s.operandHeld r p).contains x && !s.slotWithheld r p x

/-- Free system slots of pan `p`, lowest first (R199, R200). -/
def State.freeSystem (s : State) (r p : Nat) : List Nat :=
  ((List.range 1024).map fun x => 8192 + x).filter fun x => !(s.slotsHeld r p).contains x && !s.slotWithheld r p x

/-- Pan `p` can give the job its operand slots (R201, R202). -/
def State.slotsOk (s : State) (c : Cmd) (r p : Nat) : Bool :=
  slotNeed s c.job == 0 || s.slotsOver c r p || (c.prog.slots.any fun x => decide (x.2 < 8192)) ||
    ((s.pan r p).slots.next.isNone &&
      decide (s.slotUse c.job.inst r + slotBytes s r p c.job ≤ 1024 * (s.inst c.job.inst).cfg.slotKib) &&
      decide (s.slotCount c r p ≤ (s.freeSlotsOf r p).length))

/-- The operand slots a job gets in pan `p`, beside what it holds. -/
def State.slotsFor (s : State) (c : Cmd) (r p : Nat) : List (Nat × Nat) :=
  if c.prog.slots.any (fun x => decide (x.2 < 8192)) then c.prog.slots
  else if slotNeed s c.job = 0 ∨ s.slotsOver c r p then c.prog.slots
  else c.prog.slots ++ ((s.freeSlotsOf r p).take (s.slotCount c r p)).map fun x => (p, x)

/-- System slots that the working set of a lattice job takes beyond its cell's local memory (R113, R199): that of ML-DSA-87 signing at
order 3 spills; how many slots it takes, and whether another signing spills, is free (log 21). -/
def State.spillNeed (s : State) (c : Cmd) (r : Nat) : Nat :=
  if (c.job.opcode = 0x0401 ∨ c.job.opcode = 0x0404) ∧ c.prog.pair.again ≠ some true then
    let a := latticeAlg (bits c.job.param.toNat 7 0)
    let o := s.orderAt c.job r
    if a = 0x13 ∧ o = 3 then 1 + Config.spillSlots a o % 1024 else Config.spillSlots a o % 1024
  else 0

/-- Pan `p` has the system slots that the job spills to. -/
def State.spillOk (s : State) (c : Cmd) (r p : Nat) : Bool :=
  s.spillNeed c r == 0 || decide (s.spillNeed c r ≤ (s.freeSystem r p).length)

/-- The scratch area of a lattice job in its pan. -/
def State.spillFor (s : State) (c : Cmd) (r p : Nat) : List (Nat × Nat) :=
  ((s.freeSystem r p).take (s.spillNeed c r)).map fun x => (p, x)

/-- The pond has the units the job needs (R242). -/
def State.pondOk (s : State) (c : Cmd) (r : Nat) : Bool :=
  decide (0 < c.prog.pond) || decide (pondNeed c.job ≤ s.pondFree r)

/-! ### The place of a job -/

/-- The generator of a pan serves a job that takes mask bytes: it holds a seed, or takes one as its pan wakes (R120, R122). -/
def State.maskOk (s : State) (c : Cmd) (r : Nat) (k : UnitKind) (n : Nat) : Bool :=
  !(c.job.masks || s.kmacMasked c.job) || k != .lattice ||
    match k.pan n with
    | none => true
    | some p => !(s.pan r p).msg.fault && ((s.pan r p).msg.seeded || (s.pan r p).svc.pwr == .dormant)

/-- The kind of unit that waiting work takes in region `r`: sponge-farm work runs on the Keccak cores of hash cells when every farm
core is held (R168); a yielded job keeps its kind. -/
def State.jobKind (s : State) (c : Cmd) (r : Nat) : Option UnitKind :=
  if c.prog.phase = .yielded then c.prog.unit.map (·.1)
  else match s.workKind c with
    | some .sponge =>
      some (if (List.range 4).any fun n => s.usable r .sponge n && s.roomOn c r .sponge n then .sponge else .hash)
    | k => k

/-- The job may run in the pan: that of the slots it holds, and for a routine one whose store is not being reloaded (R202,
R406). -/
def State.panOk (s : State) (c : Cmd) (r : Nat) (k : UnitKind) (n : Nat) : Bool :=
  match k.pan n with
  | none => true
  | some p => (c.job.paired || c.prog.slots.all (fun x => x.1 == p)) && (c.job.opcode != 0x1001 || !(s.pan r p).cs.reloading)

/-- Units of a kind in region `r` that could take the job, lowest first, whatever its masks and slots ask. -/
def State.openUnits (s : State) (c : Cmd) (r : Nat) (k : UnitKind) : List Nat :=
  (List.range k.count).filter fun n =>
    s.unitsOk c r k n && !avoided c.prog.avoid c.prog.avoidPan k n && s.panOk c r k n

/-- The order in which a unit's pan is chosen: active, idle, then NAP and DORMANT pans, which have to be woken (R410). -/
def State.panRank (s : State) (r : Nat) (k : UnitKind) (n : Nat) : Nat :=
  match k.pan n with
  | none => 0
  | some p => match (s.pan r p).svc.pwr with
    | .active => 0 | .idle => 1 | .nap => 2 | .dormant => 3

/-- The element with the least measure, the first of equals. -/
def leastBy (f : Nat → Nat) : List Nat → Option Nat
  | [] => none
  | n :: ns => match leastBy f ns with
    | none => some n
    | some m => if f m < f n then some m else some n

/-- The unit a job takes: a free reserved cell of its instance, else a unit of an awake pan, else one of a pan to wake
(R410, R413). -/
def State.pickUnit (s : State) (c : Cmd) (r : Nat) (k : UnitKind) (ns : List Nat) : Option Nat :=
  leastBy (fun n => (if s.ownWarm c r k n then 0 else 4) + s.panRank r k n) ns

/-- The number cell that the classical part of a job takes (R164), with its slots. -/
def State.twinCell (s : State) (c : Cmd) (r : Nat) : Option Nat :=
  s.pickUnit c r .number ((s.openUnits c r .number).filter fun n => s.slotsOk c r (n / 2))

/-- Units whose pan serves the job's masks, slots and scratch area, and for a job of two parts a number cell is there. -/
def State.goodUnits (s : State) (c : Cmd) (r : Nat) (k : UnitKind) : List Nat :=
  if c.twin && (s.twinCell c r).isNone then []
  else (s.openUnits c r k).filter fun n =>
    s.maskOk c r k n && (c.twin || s.slotsOk c r ((k.pan n).getD 0)) && s.spillOk c r ((k.pan n).getD 0)

/-! ### Sending (R20-R23) -/

/-- JOB_SEND (R20): a job whose inputs are there and that nothing holds is sent to the region R20 gives. A demotion is counted once
for a job (R53). -/
def execJobSend (j : Nat) (s : State) : Host.Outcome State Fault Refusal :=
  .next (
    match s.cmd? j with
    | none => s
    | some c =>
      if c.prog.phase ≠ .ready ∨ ¬ c.job.has (·.region) ∨ s.held c ∨ c.prog.wait = some .object ∨ s.pkg.halted then s
      else if !c.job.mbx && !s.current c.job then dropOld c s
      else if s.repeated c.job then fail j .okAlready s
      else match selectRegion s c with
        | none => fail j .noRegion s
        | some r =>
          let s1 := if s.demotes c && !c.prog.demoted then
              s.modInst c.job.inst fun n => { n with demoted := inc32 n.demoted }
            else s
          s1.modProg j fun p => { p with phase := .sent, region := some r, demoted := s.demotes c })

/-- REGION_ACK (R22): the region acknowledges a job; where it has left IN_SERVICE, the job is selected again. -/
def execRegionAck (j : Nat) (s : State) : Host.Outcome State Fault Refusal :=
  .next (
    match s.cmd? j with
    | none => s
    | some c =>
      if c.prog.phase ≠ .sent then s
      else if !c.job.mbx && !s.current c.job then dropOld c s
      else if s.inService c.rgn then s.modProg j fun p => { p with phase := .acked, since := s.tick }
      else s.modProg j fun p => { p with phase := .ready, region := none })

/-! ### Pans waking (R408, R410, R412) -/

/-- Wake time of a pan in ns (R408). -/
def PanPwr.wakeNs : PanPwr → Nat
  | .active => 0 | .idle => 30 | .nap => 1800 | .dormant => 6000

/-- The lowest-numbered IN_SERVICE region. -/
def State.lowestIn (s : State) : Option Nat := regionNums.find? s.inService

/-- Some pan of region `r` is ACTIVE or about to be. -/
def State.someActive (s : State) (r : Nat) : Bool :=
  panNums.any fun p => (s.pan r p).svc.pwr == .active || (s.pan r p).svc.waking.isSome

/-- The measured draw, the newest sample of R412, leaves room for one more active pan. -/
def State.drawRoom (s : State) : Bool := decide (s.power.samples.getLastD 0 + 2700 ≤ 1000 * s.power.ceiling)

/-- A pan of region `r` may enter ACTIVE (R412, R536); `chk` for a release check. -/
def State.admits (s : State) (r : Nat) (chk : Bool) : Bool :=
  (chk || !bit s.power.thermHeld r) && (s.drawRoom || (s.lowestIn == some r && !s.someActive r))

/-- Temperature alone holds the pan: the ceiling would admit it. -/
def State.admitsBut (s : State) (r : Nat) (chk : Bool) : Bool :=
  !(chk || !bit s.power.thermHeld r) && (s.drawRoom || (s.lowestIn == some r && !s.someActive r))

/-- Wake a pan for work, or hold it, a deferral by the ceiling being counted (R410, R412, R426). -/
def wakeFor (r p : Nat) (chk : Bool) (s : State) : State :=
  let x := (s.pan r p).svc
  if x.pwr = .active ∨ x.waking.isSome then s
  else if s.admits r chk then s.modPan r p fun y => { y with svc := { y.svc with waking := some s.tick, held := false } }
  else
    let s1 := s.modPan r p fun y => { y with svc := { y.svc with held := true } }
    if x.held || s.admitsBut r chk then s1 else { s1 with power := { s1.power with held := inc32 s1.power.held } }

/-- The lowest sleeping pan of region `r` in the order of R410 among those `ok` allows. -/
def State.sleeper (s : State) (r : Nat) (ok : Nat → Bool) : Option Nat :=
  match panNums.find? fun p => ok p && (s.pan r p).svc.pwr == .nap with
  | some p => some p
  | none => panNums.find? fun p => ok p && (s.pan r p).svc.pwr == .dormant

/-- A pan that is ACTIVE or IDLE. -/
def State.awake (s : State) (r p : Nat) : Bool := (s.pan r p).svc.pwr == .active || (s.pan r p).svc.pwr == .idle

/-- The job's signature is checked before release (R124, R186, R192, R208). -/
def Job.signs (j : Job) : Bool := [0x0401, 0x0404, 0x0406, 0x0408, 0x040B, 0x040D, 0x040F].contains j.opcode

/-- When a signing job starts in pan `p`, one other pan of the region is brought awake if none is, within the ceiling
(R125). -/
def wakeOther (c : Cmd) (r p : Nat) (s : State) : State :=
  if !c.job.signs || (panNums.any fun q => q != p && (s.awake r q || (s.pan r q).svc.waking.isSome)) then s
  else match s.sleeper r fun q => q != p with
    | some q => if s.admits r true then
        s.modPan r q fun y => { y with svc := { y.svc with waking := some s.tick } } else s
    | none => s

/-- A placed command starts on its unit. The energy of the stretch of work that begins is a free value, which the figure of the whole
operation replaces where the spec gives one (R85, R126, R160, log 12). -/
def startOn (j : Nat) (s : State) : State :=
  match s.cmd? j with
  | none => s
  | some c =>
    let (e, s0) := drawEnergy s
    let s1 := s0.modProg j fun p =>
      { p with phase := .running, wait := none, startTick := s.tick, quantumTick := s.tick, energy := p.energy + e,
               stretch := if p.resumed then p.stretch + e else e }
    match c.prog.unit with
    | some (k, p, n) => if (k.pan n).isSome then wakeOther c c.rgn p s1 else s1
    | none => s1

/-- The pans that a command's own units lie in. -/
def Cmd.pans (c : Cmd) : List Nat := c.ownUnits.filterMap fun u => u.1.pan u.2

/-- Every pan of the command's units is ACTIVE. -/
def State.pansUp (s : State) (c : Cmd) : Bool := c.pans.all fun p => (s.pan c.rgn p).svc.pwr == .active

/-- A command that has its units starts where their pans are ACTIVE, and otherwise holds them while the pans wake. -/
def startPlaced (j : Nat) (s : State) : State :=
  match s.cmd? j with
  | none => s
  | some c =>
    if s.pansUp c then startOn j s
    else c.pans.foldl (fun s p => wakeFor c.rgn p false s) (s.modProg j fun x => { x with wait := some .cell })

/-- Place a command on unit `n` of a kind. -/
def placeOn (j : Nat) (k : UnitKind) (n : Nat) (s : State) : State :=
  startPlaced j (s.modProg j fun x => { x with unit := some (k, (k.pan n).getD 0, n) })

/-! ### Dispatch (R125, R202, R242, R410-R413) -/

/-- An acknowledged job that waits for dispatch and for nothing else. -/
def Cmd.waiting (c : Cmd) (r : Nat) : Bool :=
  c.prog.region == some r && c.prog.phase == .acked && c.prog.unit.isNone && c.prog.wait.isNone

/-- Region `r` dispatches (R411, R415): its steward and dispatcher take jobs (R427, R431). -/
def State.dispatches (s : State) (r : Nat) : Bool :=
  s.runsJobs r && !s.pkg.halted && !(s.region r).svc.switching &&
    [FKind.steward, .dispatcher].all fun k => !s.quarantined (regionUnit r k) && !s.underTest (regionUnit r k)

/-- A disturbance in the region's domain holds back a secret-bearing job (R497). -/
def State.heldForDisturbance (s : State) (c : Cmd) (r : Nat) : Bool := c.job.holdsSecret && s.disturbed r

/-- The work could start now. -/
def State.canStart (s : State) (c : Cmd) (r : Nat) : Bool :=
  !s.held c && !s.heldForDisturbance c r && s.slhOk c r && s.pondOk c r &&
    match s.jobKind c r with
    | none => true
    | some k => !(s.goodUnits c r k).isEmpty

/-- A job of class 0 or 1 holds back one of class 2 that wants the same cell type, startable or not (R53). -/
def State.holdsBulk (s : State) (d c : Cmd) (r : Nat) : Bool :=
  decide (2 ≤ c.effClass) && decide (d.effClass ≤ 1) && !s.held d && !s.heldForDisturbance d r

/-- Waiting or yielded work that goes before `c` wants the same kind of core, and could start or holds back bulk work (R53, R205). -/
def State.outranked (s : State) (c : Cmd) (r : Nat) (k : UnitKind) : Bool :=
  s.cmds.any fun d => !(d.job.id == c.job.id) && d.queues r && s.jobKind d r == some k && sameCore c d && d.before c k &&
    (s.canStart d r || s.holdsBulk d c r)

/-! ### Where a release check runs (R125) -/

/-- Units of pan `p` for a check on kind `k`, that quarantine leaves. -/
def checkUnits (s : State) (c : Cmd) (k : UnitKind) (r p : Nat) : List Nat :=
  (List.range k.count).filter fun n =>
    k.pan n == some p && (c.job.takesUnits k n).all (fun u => s.usable r u.1 u.2) && (!c.job.slhPan || n % 2 == 0)

/-- Jobs of a kind that wait for pan `p`: those that hold a unit there while the pan wakes, and those that what they hold ties to it.
A job that may run in any pan waits on none of them (DEDUCED, log 83). -/
def State.panQueue (s : State) (k : UnitKind) (r p : Nat) : Nat :=
  (s.cmds.filter fun c => c.prog.region == some r &&
    ((c.prog.wait == some .cell && c.ownUnits.any fun u => u.1 == k && k.pan u.2 == some p) ||
      (c.queues r && s.workKind c == some k && c.prog.slots.any fun x => x.1 == p))).length

/-- The pan of region `r` for a check, among those `ok` allows: the awake one with the fewest waiting jobs, else one to wake
in the order of R410. -/
def checkPan (s : State) (c : Cmd) (k : UnitKind) (r : Nat) (ok : Nat → Bool) : Option Nat :=
  let can := fun p => ok p && !(checkUnits s c k r p).isEmpty
  match leastBy (fun p => s.panQueue k r p) (panNums.filter fun p => can p && s.awake r p) with
  | some p => some p
  | none => s.sleeper r can

/-- The pan of the cell that signed the part whose check takes kind `k`. -/
def Cmd.signedIn (c : Cmd) (k : UnitKind) : Nat :=
  if c.job.paired then ((if k = .number then c.prog.pair.num else c.prog.pair.lat).map (·.1)).getD 0 else c.pan

/-- The region and pan of a check by the steps of R125; none where no region can run it. -/
def checkPlace (s : State) (c : Cmd) (k : UnitKind) : Option (Nat × Nat) :=
  match checkPan s c k c.rgn fun p => p != c.signedIn k with
  | some p => some (c.rgn, p)
  | none =>
    (regionNums.filter fun q => q != c.rgn && s.inService q).findSome? fun q => (checkPan s c k q fun _ => true).map fun p => (q, p)

/-- A waiting release check that goes before `c` is to run on unit `n`'s pan (R125). -/
def State.claimed (s : State) (c : Cmd) (r : Nat) (k : UnitKind) (n : Nat) : Bool :=
  s.cmds.any fun d => !(d.job.id == c.job.id) && d.checksDue.contains k && d.before c k &&
    (checkPlace s d k).any fun x => x.1 == r && k.pan n == some x.2

/-- The units that waiting work may take now. -/
def State.freeUnits (s : State) (c : Cmd) (r : Nat) (k : UnitKind) : List Nat :=
  (s.goodUnits c r k).filter fun n => !s.claimed c r k n

/-! ### The dispatch of a job -/

/-- A job waits for slots or pond units, counted as it begins to wait for the pond (R202, R242). -/
def waitFor (j : Nat) (w : Wait) (s : State) : State :=
  match s.cmd? j with
  | none => s
  | some c =>
    let s1 := if w = .pond ∧ c.prog.wait ≠ some .pond then
        s.modSym c.rgn fun y => { y with pondWaits := inc32 y.pondWaits } else s
    s1.modProg j fun p => { p with wait := some w }

/-- Where each part of a job is signed. -/
def Pair.place (q : Pair) (k : UnitKind) (p n : Nat) (cell : Option Nat) : Pair :=
  { q with
      cell := cell.map fun m => (m / 2, m),
      lat := if k = .lattice then some (p, n) else q.lat,
      num := if k = .number then some (p, n) else match cell with
        | some m => some (m / 2, m)
        | none => q.num }

/-- Give a job its number cell for a classical part, its slots, its masking order (R115) and its crystallizer tag, and place it. -/
def takePlace (c : Cmd) (r : Nat) (k : UnitKind) (n : Nat) (s : State) : State :=
  let p := (k.pan n).getD 0
  let cell := if c.twin then s.twinCell c r else none
  let sp := (cell.map (· / 2)).getD p
  let s1 := if c.prog.wait = some .slots then s.modPan r sp fun x => { x with slots := { x.slots with waits := inc32 x.slots.waits } }
            else s
  placeOn c.job.id k n (s1.modProg c.job.id fun x =>
    { x with slots := s.slotsFor c r sp ++ s.spillFor c r p, wait := none,
             pair := if c.job.paired then x.pair.place k p n cell else x.pair,
             order := if x.order = 0 then s.orderAt c.job r else x.order, tag := s.crystTag c.job })

/-- Dispatch job `j` where its place lets it. A symmetric job takes its pond units even while every engine is held (R242). -/
def dispatchJob (j : Nat) (s : State) : State :=
  match s.cmd? j with
  | none => s
  | some c =>
    let r := c.rgn
    if !c.job.mbx && !s.current c.job then dropOld c s
    else if !s.dispatches r || s.held c || s.heldForDisturbance c r || !s.slhOk c r then s
    else match s.jobKind c r with
      | none => startOn j s
      | some k =>
        if s.outranked c r k then s
        else if !s.pondOk c r then waitFor j .pond s
        else
          let s1 := if k = .sym then takeSym c r (s.modProg j fun p => { p with wait := none }) else s
          match s1.pickUnit c r k (s1.freeUnits c r k) with
          | some n => takePlace c r k n s1
          | none =>
            let ns := s1.openUnits c r k
            if ns.isEmpty || !(s1.goodUnits c r k).isEmpty then s1
            else if ns.any fun n => s1.maskOk c r k n then waitFor j .slots s1
            else waitFor j .mask s1

/-! ### The dispatch of a release check -/

/-- The region and unit of a check of kind `k`. -/
def Prog.setCheck (k : UnitKind) (classical : Bool) (q n : Nat) (p : Prog) : Prog :=
  if k = .number ∧ classical then { p with pair := { p.pair with check := some (q, n) } } else { p with check := some (q, n) }

/-- Put the check on a unit of pan `p` of region `q`; it waits while none is free, or while SLH_CELLS leaves it no hash cell (R186). A
lattice check probes the crystallizer there (R124). -/
def putCheck (c : Cmd) (k : UnitKind) (q p : Nat) (s : State) : State :=
  match if s.slhOk c q then (checkUnits s c k q p).find? fun n => s.unitsOk c q k n else none with
  | none => s
  | some n =>
    let s1 := match k, c.prog.tag with
      | .lattice, some (a, d) => (probeTag q c.job.inst a d (s.tick + (s.pan q p).svc.pwr.wakeNs) s).2
      | _, _ => s
    let s2 := if q ≠ c.rgn ∧ k ≠ .number then
        s1.modRegion c.rgn fun g => { g with lat := { g.lat with vbrX := inc32 g.lat.vbrX } } else s1
    wakeFor q p true (s2.modProg c.job.id (Prog.setCheck k c.job.paired q n))

/-- Some waiting check of the kind goes before that of `c` and is to run in the same pan. -/
def State.checkOutranked (s : State) (c : Cmd) (k : UnitKind) (x : Nat × Nat) : Bool :=
  (s.cmds.any fun d => !(d.job.id == c.job.id) && d.checksDue.contains k && d.before c k && checkPlace s d k == some x) ||
    s.cmds.any fun d => !(d.job.id == c.job.id) && d.queues x.1 && s.jobKind d x.1 == some k && d.before c k && s.canStart d x.1

/-- Place a release check of kind `k` by the steps of R125. -/
def placeCheck (c : Cmd) (k : UnitKind) (s : State) : State :=
  match checkPlace s c k with
  | none => fail c.job.id .noRegion s
  | some (q, p) => if s.dispatches q && !s.checkOutranked c k (q, p) then putCheck c k q p s else s

/-- Place every release check of command `j` that waits. -/
def placeChecks (j : Nat) (s : State) : State :=
  match s.cmd? j with
  | none => s
  | some c => c.checksDue.foldl (fun s k => match s.cmd? j with
    | some d => if d.checksDue.contains k then placeCheck d k s else s
    | none => s) s

/-- JOB_DISPATCH (R125): a waiting job, or a release check, is placed on a unit. -/
def execJobDispatch (j : Nat) (s : State) : Host.Outcome State Fault Refusal :=
  .next (
    match s.cmd? j with
    | none => s
    | some c =>
      if c.waiting c.rgn || (c.prog.phase == .acked && c.prog.wait == some .mask) then dispatchJob j s
      else placeChecks j s)

/-- RESOURCE_FREED_DISPATCH (R202, R242, R345): a job that waited for slots, pond units or shelf entries goes on. -/
def execResourceFreedDispatch (j : Nat) (s : State) : Host.Outcome State Fault Refusal :=
  .next (
    match s.cmd? j with
    | none => s
    | some c =>
      match c.prog.wait with
      | some .slots => dispatchJob j s
      | some .pond => dispatchJob j s
      | some .shelf => match tfind c.job.parts 254 with
        | some b => loadShelf j b s
        | none => s
      | _ => s)

/-! ### Pans -/

/-- Commands that hold a unit in pan `p` of region `r` and wait for it to wake. -/
def State.wakers (s : State) (r p : Nat) : List Nat :=
  jobsOn s fun c => c.prog.region == some r && c.prog.wait == some .cell && c.pans.contains p

/-- The commands with a release check in pan `p` of region `r`. -/
def State.checksIn (s : State) (r p : Nat) : List Cmd :=
  s.cmds.filter fun c => (c.checkUnitsIn r).any fun u => u.1.pan u.2 == some p

/-- A job whose pans are awake starts, unless it takes mask bytes and the generator has no seed (R120). -/
def startReserved (j : Nat) (s : State) : State :=
  match s.cmd? j with
  | none => s
  | some c =>
    if !s.pansUp c then s
    else if (c.job.masks || s.kmacMasked c.job) && c.prog.pair.again != some true && !(s.pan c.rgn c.pan).msg.seeded then
      leaveUnit j .mask s
    else startOn j s

/-- A pan woken from DORMANT takes 48 bytes of the reservoir for its seed, where they are there (R120). -/
def wakeSeed (r p : Nat) (s : State) : State :=
  if (s.pan r p).svc.pwr = .dormant ∧ 48 ≤ (s.region r).rng.reservoir then
    (s.modRegion r fun g => { g with rng := { g.rng with reservoir := g.rng.reservoir - 48 } }).modPan r p fun x =>
      { x with msg := { x.msg with seeded := true, waitSeed := false, used := 0, asked := false, reseeds := inc32 x.msg.reseeds } }
  else s

/-- PAN_WAKE_COMPLETE (R408): a pan reaches ACTIVE and its waiting work starts; with none it is IDLE. -/
def execPanWakeComplete (r p : Nat) (s : State) : Host.Outcome State Fault Refusal :=
  .next (
    match (s.pan r p).svc.waking with
    | none => s
    | some t =>
      if !s.enabled r || decide (4 ≤ p) || decide (s.tick < t + (s.pan r p).svc.pwr.wakeNs) then s
      else
        let js := s.wakers r p
        let busy := !js.isEmpty || !(s.checksIn r p).isEmpty
        let s1 := (wakeSeed r p s).modPan r p fun x =>
          { x with svc := { pwr := if busy then .active else .idle, since := s.tick, waking := none, held := false } }
        restPans (js.foldl (fun s j => startReserved j s) s1))

/-- The order of admission of what waits in a pan: release checks, then classes, then acceptance (R412). -/
def State.admitKey (s : State) (r p : Nat) : Nat :=
  let jobs := (s.wakers r p).filterMap s.cmd?
  let keys := (s.checksIn r p).map (fun c => c.job.acceptTick) ++
    jobs.map (fun c => (1 + c.effClass) * 2 ^ 64 + c.job.acceptTick)
  keys.foldl min (2 ^ 70)

/-- PAN_ADMIT (R412): a held pan is admitted, the first in the order of the work that waits in it. -/
def execPanAdmit (r p : Nat) (s : State) : Host.Outcome State Fault Refusal :=
  .next (
    let x := (s.pan r p).svc
    let chk := !(s.checksIn r p).isEmpty
    let better := regionNums.any fun q => panNums.any fun o =>
      (s.pan q o).svc.held && decide (s.admitKey q o < s.admitKey r p) && s.admits q (!(s.checksIn q o).isEmpty)
    if s.enabled r && decide (p < 4) && x.held && x.waking.isNone && s.admits r chk && !better then
      s.modPan r p fun y => { y with svc := { y.svc with waking := some s.tick, held := false } }
    else s)

/-! ### Yields (R175, R205, R246) -/

/-- The quantum of a job, in µs: RGN_DIG_CFG, RGN_NUM_CFG or RGN_SYM_CFG; none where its work is not time-shared (R176,
R204). -/
def State.quantum (s : State) (c : Cmd) : Option Nat :=
  let g := s.region c.rgn
  match c.prog.unit with
  | some (k, _, _) =>
    if c.job.opcode = 0x1001 then none
    else if c.job.dig ∧ k ≠ .lattice then some g.dig.quantumUs
    else match k with
      | .number => some g.num.quantumUs
      | .sym => some g.sym.quantumUs
      | _ => none
  | none => none

/-- A job leaves its unit with its context saved: a digest or symmetric job in a system slot, a number job in its operand slots
(R175, R205, R246). -/
def yieldNow (c : Cmd) (s : State) : State :=
  let j := c.job.id
  let r := c.rgn
  match c.prog.unit with
  | some (.number, _, _) => yieldJob j (s.modRegion r fun g => { g with num := { g.num with yields := inc32 g.num.yields } })
  | some (_, p, _) => match (s.freeSystem r p).head? with
    | none => s
    | some x =>
      let s1 := if c.job.dig then s.modRegion r fun g => { g with dig := { g.dig with switches := inc32 g.dig.switches } } else s
      yieldJob j (s1.modProg j fun q => { q with slots := q.slots ++ [(p, x)] })
  | none => s

/-- A yield point of a running job: a job of an older generation is aborted there, and one that is to yield yields (R103,
R205). -/
def yieldPoint (j : Nat) (may : Cmd → Nat → Bool) (s : State) : State :=
  match s.cmd? j with
  | none => s
  | some c =>
    if c.prog.phase ≠ .running then s
    else match s.quantum c with
      | none => s
      | some q => if !s.current c.job then abortOld c s else if may c q then yieldNow c s else s

/-- JOB_YIELD (R205): a job stands at a yield point or block boundary. -/
def execJobYield (j : Nat) (s : State) : Host.Outcome State Fault Refusal := .next (yieldPoint j (yieldDue s) s)

/-- DIGEST_QUANTUM_EXPIRY (R175). -/
def execDigestQuantumExpiry (j : Nat) (s : State) : Host.Outcome State Fault Refusal :=
  .next (yieldPoint j (fun c q => c.job.dig && s.quantumOver c q) s)

/-- NUMBER_QUANTUM_EXPIRY (R205). -/
def execNumberQuantumExpiry (j : Nat) (s : State) : Host.Outcome State Fault Refusal :=
  .next (yieldPoint j (fun c q => c.prog.unit.any (fun u => u.1 == .number) && s.quantumOver c q) s)

/-- SYM_QUANTUM_EXPIRY (R246). -/
def execSymQuantumExpiry (j : Nat) (s : State) : Host.Outcome State Fault Refusal :=
  .next (yieldPoint j (fun c q => c.prog.unit.any (fun u => u.1 == .sym) && s.quantumOver c q) s)

/-- Restore a POLL routine on its new core (R399). -/
def restoreRun (j : Nat) (s : State) : State :=
  match s.cmd? j, s.cust.runs.find? fun x => x.job == some j with
  | some c, some x => match c.prog.unit, x.saved with
    | some (k, _, n), some m =>
      let d := coreOf c.rgn k n
      let back (y : CustRun) : CustRun := { y with core := d, saved := none, since := s.tick, mark := (s.core d).cycle }
      let s1 := s.setCore d { m with cycle := (s.core d).cycle }
      { s1 with cust := { s.cust with runs := s.cust.runs.map fun y => if y.job = some j then back y else y } }
    | _, _ => s
  | _, _ => s

/-- JOB_RESUME (R205, R246, R399): a yielded job is restored on a free unit of its kind in its pan, or on either engine. -/
def execJobResume (j : Nat) (s : State) : Host.Outcome State Fault Refusal :=
  .next (
    match s.cmd? j with
    | none => s
    | some c =>
      match c.prog.phase, c.prog.unit with
      | .yielded, some (k, p, _) =>
        let r := c.rgn
        let ns := (s.freeUnits c r k).filter fun n => (k.pan n).all fun q => q == p
        if c.prog.wait.isSome || !s.dispatches r || s.heldForDisturbance c r || s.outranked c r k then s
        else match s.pickUnit c r k ns with
          | none => s
          | some n =>
            let ctx := c.prog.slots.filter fun x => decide (8192 ≤ x.2)
            let s1 := ctx.foldl (fun s x => s.modPan r x.1 fun y =>
              { y with slots := { y.slots with wipes := inc32 y.slots.wipes } }) s
            restoreRun j (placeOn j k n (s1.modProg j fun x =>
              { x with slots := x.slots.filter (fun y => decide (y.2 < 8192)), resumed := true }))
      | _, _ => s)

/-! ### The end of a release check (R124, R127, R186, R192, R208) -/

/-- The record of a failed check and the test of the signing cell (R127). -/
def failedOn (c : Cmd) (k : UnitKind) (n : Nat) (s : State) : State :=
  let (x, s1) := record { on := cellUnit c.rgn k n, cause := .releaseCheck, jseq := some c.job.jseq } .retry (countCheckFail c.rgn k s)
  match x with
  | some x => startTest x s1
  | none => s1

/-- A failed check is a RETRY fault of the signing cell; signing is re-run once in another pan, a stateful signature with the
leaf it has (R127, R192, R208). -/
def failCheck (c : Cmd) (s : State) : State :=
  match c.prog.unit with
  | none => fail c.job.id .releaseCheckFail s
  | some (k, _, n) =>
    let s2 := failedOn c k n s
    if c.job.has (·.stateful) && c.prog.committed then
      let s3 := retryJobOff true .releaseCheckFail c.job.id (s2.modProg c.job.id fun p => { p with committed := false })
      s3.modProg c.job.id fun p =>
        { p with committed := true,
                 res := if p.res = some (stRes .retryTransient) then some (stRes .abortedFault) else p.res }
    else retryJobOff true .releaseCheckFail c.job.id s2

/-- The composite signature that waits for its checks. -/
def Cmd.composite (c : Cmd) : List Byte :=
  ((c.prog.res.bind fun r => (r.outs.find? fun o => o.1 == 1)).map (·.2)).getD c.prog.pair.kept

/-- A failed check of one part of a composite (R157): that part alone is signed again, once, on a cell of another pan; the other part
is kept, and its check with it where it has passed. -/
def failPart (c : Cmd) (classical : Bool) (s : State) : State :=
  let q := c.prog.pair
  let k : UnitKind := if classical then .number else .lattice
  match if classical then q.num else q.lat with
  | none => fail c.job.id .releaseCheckFail s
  | some (p, n) =>
    let s1 := failedOn c k n s
    let a : Option (UnitKind × Nat × Nat) := some (k, p, n)
    if (if classical then q.redone else q.latRedone) then fail c.job.id .releaseCheckFail s1
    else if s1.runsJobs c.rgn && (List.range k.count).any (fun m => s1.usable c.rgn k m && !avoided a true k m) then
      settleUnits ((freeSlots c.job.id s1).modProg c.job.id fun x =>
        { x with phase := .acked, unit := none, wait := none, slots := [], check := none, granted := 0, rechecked := false,
                 res := none, order := 0, masked := 0, stretch := 0, reissued := true, avoid := a, avoidPan := true,
                 pair := { q with cell := none, check := none, again := some classical, kept := c.composite,
                                  redone := q.redone || classical, latRedone := q.latRedone || !classical } })
    else fail c.job.id .retryTransient s1

/-- A part's check has passed: the composite is released when both have (R157). -/
def passPart (c : Cmd) (classical : Bool) (s : State) : State :=
  let q := c.prog.pair
  if if classical then q.latPassed else q.passed then finish c.job.id (c.prog.res.getD okRes) s
  else settleUnits (s.modProg c.job.id fun p => if classical then { p with pair := { p.pair with check := none, passed := true } }
    else { p with check := none, pair := { p.pair with latPassed := true } })

/-- The end of a check on unit `n` of kind `k` in region `q`. -/
def endCheck (c : Cmd) (k : UnitKind) (q n : Nat) (pass : Bool) (s : State) : State :=
  let s1 := countJobOn q k n (if k == .number then s else
    s.modRegion c.rgn fun g => { g with lat := { g.lat with vbrDone := inc32 g.lat.vbrDone } })
  let s2 := (c.job.takesUnits k n).foldl (fun s u => wipeLocal q u s) s1
  if c.job.paired then if pass then passPart c (k == .number) s2 else failPart c (k == .number) s2
  else if pass then finish c.job.id (c.prog.res.getD okRes) s2 else failCheck c s2

/-- RELEASE_CHECK_DONE (R124, R157, R208): a check of command `j` that runs ends, of a composite its lattice check first. On a running
job of a number cell a failure is that of a result check (R207). -/
def execReleaseCheckDone (j : Nat) (pass : Bool) (s : State) : Host.Outcome State Fault Refusal :=
  .next (
    match s.cmd? j with
    | none => s
    | some c =>
      let runs (k : UnitKind) (x : Nat × Nat) : Bool := (s.pan x.1 ((k.pan x.2).getD 0)).svc.pwr == .active
      match c.prog.phase, c.prog.check.filter (runs c.checkKind), c.prog.pair.check.filter (runs .number), c.prog.unit with
      | .checking, some (q, n), _, _ => endCheck c c.checkKind q n pass s
      | .checking, none, some (q, n), _ => endCheck c .number q n pass s
      | .running, _, _, some (.number, _, n) =>
        if pass then s
        else failCheck c (s.modRegion c.rgn fun g => g.modCell .number n fun x => { x with corr := satAdd 65535 x.corr 1 })
      | _, _, _, _ => s)

end Sys2Proof.Machine
end

