-- ==== Sys2Proof/Machine/Power.lean ====
section
/-! DEFINITION. Power, reset and boot: PERST_N, the power-good inputs, VBAT, the boot ROM, the end of SELF_TEST and the ways out
of STANDBY (R28-R32, R449, R452, R455, R485, R486, R501, R506, R507, R527-R532). -/

namespace Sys2Proof.Machine

/-! ### What a reset leaves -/

/-- A stateful key resumes at its recorded limit (R191). -/
def LmsRec.resumed (l : LmsRec) : LmsRec := { l with q := l.rl, raising := false, treeReady := false }

/-- The package part after a reset: pins, fuses, the battery key and the boot count stay. -/
def resetPkg (p : Pkg) : Pkg :=
  { mode := p.mode, perstHigh := p.perstHigh, pwrgdMain := p.pwrgdMain, pwrgdAon := p.pwrgdAon, vbat := p.vbat,
    bootCount := p.bootCount, batteryKey := p.batteryKey, fuses := p.fuses, booting := true }

/-- The vault after a reset: the OTP counters and the owner area of boot flash stay (R341, R352-R355). -/
def resetVault (v : Vault) : Vault :=
  { epoch := v.epoch, kum := v.kum, nextKeyId := v.nextKeyId, nextLms := v.nextLms, ownerSeed := v.ownerSeed, authority := v.authority,
    domainRoot := v.domainRoot, domainVer := v.domainVer, kumSlot := v.kumSlot, lms := v.lms.map LmsRec.resumed }

/-- Management after a reset: boot flash and the straps stay (R460-R473). -/
def resetMgmt (m : Mgmt) : Mgmt :=
  { kinds := m.kinds, log := m.log, logSeq := m.logSeq, sbAddr := m.sbAddr, i3c := m.i3c, chains := m.chains }

/-- The tamper part after a reset: the backup domain stays (R506, R510). -/
def resetTamper (t : Tamper) : Tamper :=
  { latched := t.latched, latchTick := t.latchTick, burnDue := t.burnDue, epochDue := t.epochDue, burned := t.burned,
    vbatLow := t.vbatLow, monFail := t.monFail, lastTick := t.lastTick, lastUnit := t.lastUnit, inputs := t.inputs,
    zeroizeN := t.zeroizeN, backupLost := t.backupLost }

/-- The card port after a reset: the seated card stays, and is detected anew: PRESENT resets to 0 (R514, R523). -/
def resetCard (c : Card) (t : Nat) : Card :=
  { ({} : Card) with
      detLow := c.detLow, lowSince := c.lowSince, discharge := c.discharge || c.powered,
      notBefore := if c.powered then t + 10008000 else c.notBefore, v18 := c.v18, railOk := c.railOk, blocks := c.blocks,
      cardId := c.cardId, formatUnit := c.formatUnit, recs := c.recs }

/-- The whole package after a reset (R30): every part at its reset value but for the always-on and backup domains, OTP, fuses,
boot flash, the TAP, the pins and the commands that wait. -/
def restart (s : State) : State :=
  { State.reset with
      pending := s.pending, tick := s.tick, time := s.time, free := s.free, out := s.out, nextId := s.nextId,
      pkg := resetPkg s.pkg, power := { ceiling := s.variant.maxCeiling }, btn := { s.btn with waiting := [] }, jrn := { State.reset.jrn with limit := s.jrn.limit },
      vault := resetVault s.vault, mgmt := resetMgmt s.mgmt, tamper := resetTamper s.tamper,
      life := { State.reset.life with otp := s.life.otp, testEn := s.life.testEn, tapIr := s.life.tapIr, boundary := s.life.boundary }, card := resetCard s.card s.tick,
      frames := (framesPerst s).frames }

/-! ### The boot ROM (R485, R486) -/

/-- Change the life-cycle part. -/
def State.modLcs (s : State) (f : Life → Life) : State := { s with life := f s.life }

/-- The boot stops with HALTED set (R486). -/
def bootStop (s : State) : State := s.modPkg fun p => { p with halted := true, booting := false }

/-- The first setpoint frames (R526), with a slew that the spec does not give (log 10). -/
def firstFrames (b : BootIn) (s : State) : State :=
  let (n, s1) := drawNat s
  let slew := n % 255 + 1
  let mv := max 620 (min 900 b.rgnMv)
  let s2 := (regionNums.filter fun r => s.enabled r).foldl (fun s r =>
    (emit (.setpoint (setpointFrame r mv slew)) s).modSvc r fun v => { v with vddMv := mv }) s1
  emit (.setpoint (setpointFrame 8 (max 750 (min 850 b.apxMv)) slew)) s2

/-- Step 3 of R485: latched evidence with the next epoch bit, and the loss of the backup domain (R499, R506, R507). A unit whose
epoch has passed holds no owner seed. -/
def bootBurns (s : State) : State :=
  let due := s.tamper.burnDue || !s.tamper.latched.isEmpty
  let s1 := if due then
      let s2 := burnEvidence (s.modTamper fun t => { t with epochDue := t.epochDue || !t.burnDue })
      { s2 with vault := { s2.vault with ownerSeed := none, authority := none, domainRoot := [], kumSlot := none } }
    else s
  let s3 := if s1.tamper.backupLost then
      (s1.modLcs fun l => { l with otp := { l.otp with evidence := setAt l.otp.evidence 7 fun n => min 256 (n + 1) } }).modTamper
        fun t => { t with backupLost := false }
    else s1
  s3.modLcs fun l => { l with evidenceBurned := due || s1.tamper.backupLost }

/-- Step 7 of R485: a pending key update whose COUNTER is the OTP count is applied, one above it discarded (R354). -/
def bootKum (s : State) : State :=
  match s.vault.kumSlot with
  | none => s
  | some m =>
    if m.applied then s
    else if m.counter = s.vault.kum then
      let s1 := applyKum m s
      let s2 : State := { s1 with vault := { s1.vault with kumSlot := some { m with applied := true } } }
      let s3 := s2.modLcs fun l => { l with kumApplied := true }
      if m.op = 1 ∧ s3.zeroizeRecord then mlog 6 (le 4 s3.vault.epoch ++ le 1 1) s3 else s3
    else if s.vault.kum < m.counter then { s with vault := { s.vault with kumSlot := none } }
    else s

/-- Step 8 of R485: the frozen area is copied and awaits its slot; an area that was lost gives a slot without a body (R454,
R455). -/
def bootBittern (s : State) : State :=
  if s.btn.lost then
    let n := s.btn.nextSlot
    let (t, s1) := drawNat s
    let b : BtnSlot := { bootCount := s.pkg.bootCount, trigger := t % 256, lost := true, committed := true, body := [], sig := [] }
    (emit (.flash "bittern slot" b.record) s1).modBtn fun x => { x with
      lost := false, slots := tins n b x.slots, nextSlot := (n + 1) % 8 }
  else s.modBtn fun x => { x with copyPending := x.freeze.isSome }

/-- The JSEQ in use before this boot, and the last chain value (R447). -/
def State.beforeBoot (s : State) : Nat × List Byte :=
  match s.btn.freeze with
  | some z => (z.nextJseq - 1, z.chain)
  | none => (s.jrn.nextJseq - 1, s.jrn.chain)

/-- The entries of the frozen commit table and of the batches that were open at the freeze (R452, R89). -/
def fromFreeze (s : State) : State :=
  match s.btn.freeze with
  | none => s
  | some z =>
    let s1 := s.btn.commits.foldl (fun s k =>
      appendEntry { jseq := k.jseq, w08 := k.acceptTick, w10 := z.tick, inst := k.inst, type := 1, gen := k.gen, w1C := k.tag,
                    w1E := k.opcode, status := Status.abortedFault.code, source := k.source,
                    flags := flag k.committed 0 + flag true 3, aux := k.aux, result := zeros 8, chain := [] } s) s
    z.batches.foldl (fun s b => writeBatch b true s) s1

/-- The journal of a boot: the reservation, the BOOT event at position 0, what the freeze kept, and a checkpoint (R449, R447,
R450, R452). -/
def bootJournal (s : State) : State :=
  let (last, chain) := s.beforeBoot
  let l := s.jrn.limit
  let s1 := s.modJrn fun j => { j with
    ring := [], jpos := 0, chain := [], nextJseq := if l = 0 then 1 else l, limit := l + jseqBlock, raising := false,
    batches := [], cpHalt := s.btn.freeze.bind (·.haltCp) }
  let s2 := mlog 2 (le 8 (l + jseqBlock)) s1
  let s3 := mlog 1 (le 4 (s2.pkg.bootCount + 1)) (s2.modPkg fun p => { p with bootCount := p.bootCount + 1 })
  takeCheckpoint (fromFreeze (journalEvent 1 last (unle (chain.take 8)) none 0 s3))

/-- The bank of kind `k` that runs is the other one (R465). -/
def BootIn.other (b : BootIn) (k : Nat) : Bool := !bit b.banks (2 * k - 2)

/-- No bank of kind `k` verifies. -/
def BootIn.none (b : BootIn) (k : Nat) : Bool := !bit b.banks (2 * k - 2) && !bit b.banks (2 * k - 1)

/-- Steps 9 and 11 of R485: images, the start of management firmware, SELF_TEST and the regions' tests; recovery where no bank of
a kind is valid (R465). -/
def bootImages (b : BootIn) (quick : Bool) (s : State) : State :=
  let s1 := [1, 2, 3].foldl (fun s k => s.modFw k fun x => { x with fallback := b.other k && !b.none k }) s
  if [1, 2, 3].any b.none then s1.modMgmt fun m => { m with recovery := true }
  else
    let s2 := s1.modMgmt fun m => { m with
      running := false, alive := false, beat := s.tick, held := false, recovery := false, image := ((s1.fw 1).bank (b.other 1)).data }
    (regionNums.filter fun r => s.enabled r).foldl (fun s r =>
      setRegionState r .testing false (s.modRegion r fun g => { g with path := { g.path with full := !quick, wiped := true } }))
      (setMode .selfTest s2)

/-- Step 2 of R485 stimulates the monitors of the backup domain; those that do not respond come with the boot (R504). The whole boot
is one step, and their records come after the BOOT event. -/
def bootStims (b : BootIn) (s : State) : State :=
  (monitorList.filter fun u => onVbat u && s.monitor u && hasDetector u).foldl (fun s u => stimulate u (!b.dead.contains u) s) s

/-- The boot ROM (R485, R486). -/
def bootRom (wake : Bool) (b : BootIn) (s : State) : State :=
  let quick := wake || bit s.ownerFlags 3
  let s0 := (s.modPkg fun p => { p with mode := .boot, halted := false, booting := false, dbgOpen := false, zeroized := false }).modLcs
    fun l => { l with resumed := false, evidenceBurned := false, kumApplied := false, otpFail := !b.otpOk, pufFail := false,
                      bootTick := s.tick, quick := quick }
  if !b.otpOk || s0.lcState == 0 || s0.lcState == 6 then bootStop s0
  else
    let s1 := resumeTransition (bootBurns (firstFrames b s0))
    if s1.lcState = 0 ∨ s1.lcState = 6 then bootStop s1
    else if !b.pufOk || !s1.life.otp.pufHelper then bootStop (s1.modLcs fun l => { l with pufFail := true })
    else
      let s1 : State := { s1 with vault := { s1.vault with starKey := true } }
      let s2 := bootStims b (bootJournal (bootBittern (bootKum (applyOwnerCfg s1))))
      bootImages b quick (s2.modPkg fun p => { p with zeroized := s2.lcState == 3 && s2.zeroizeRecord })

/-! ### Power (R30, R506, R507, R527-R532) -/

/-- The straps are sampled (R532): bits [1:0] SBADR, [2] SB_I3C, [3] CARD_V18, [4] TEST_EN, and [5] says that VDDIO_CARD is
1.8 V. -/
def sampleStraps (n : Nat) (s : State) : State :=
  { s with mgmt := { s.mgmt with sbAddr := 0x64 + n % 4, i3c := bit n 2 }, life := { s.life with testEn := bit n 4 },
           card := { s.card with v18 := bit n 3, railOk := bit n 3 == bit n 5 } }

/-- A boot at the rise of main power, or a restart of BOOT, starts a COARSE tick; with the backup domain lost it starts at 0,
unset (R252, R507). -/
def bootTime (s : State) : State :=
  if s.tamper.backupLost then (timeCoarse { s with tick := 0 }).modTime fun t => { t with isUnset := true, secSet := false }
  else timeCoarse s

/-- PWRGD_MAIN_RISE (R485): PWRGD_AON and PWRGD_MAIN are valid and the boot ROM starts, from OFF or BACKUP or where the package
stands at its reset vector. -/
def execPwrgdMainRise (straps : Nat) (b : BootIn) (s : State) : Host.Outcome State Fault Refusal :=
  .next (
    if s.pkg.mode == .off || s.pkg.mode == .backup then
      bootRom false b (sampleStraps straps (bootTime (restart (s.modPkg fun p => { p with pwrgdMain := true, pwrgdAon := true, mode := .boot }))))
    else if s.pkg.mode == .boot && s.pkg.booting && !s.pkg.halted then bootRom false b (sampleStraps straps (bootTime s))
    else s)

/-- Main power is gone: the bittern record is frozen, the card port powers down, and every volatile store is lost (R30, R454,
R496, R515). -/
def powerDown (s : State) : State :=
  if s.pkg.mode.mainPower then
    let s0 := restart (cardDown (freezeBtn evPowerFail none s))
    let s1 := s0.modLcs fun l => { l with tapIr := 2, boundary := [] }
    timeCoarse (s1.modPkg fun p => { p with
      mode := if s.pkg.vbat then .backup else .off, pwrgdMain := false, booting := false, halted := false, wakePull := false })
  else s.modPkg fun p => { p with pwrgdMain := false }

/-- PWRGD_MAIN_FALL (R30, R529). -/
def execPwrgdMainFall (s : State) : Host.Outcome State Fault Refusal := .next (powerDown s)

/-- The backup domain loses its contents: the battery key, the latch and the counter (R507); the bittern area goes with it
(R454). -/
def loseBackup (s : State) : State :=
  { s with
      pkg := { s.pkg with batteryKey := none }, tamper := { ({} : Tamper) with backupLost := true, testS := s.tamper.testS },
      btn := { ({} : Bittern) with slots := s.btn.slots, nextSlot := s.btn.nextSlot, lost := true } }

/-- VDD_AON is gone: the always-on registers reset, and without VBAT the backup domain is lost (R261, R454, R507). That the seconds
were set (R253) is known of a tick that VBAT carries on. -/
def loseAon (s : State) : State :=
  let s1 := { s with
    time := { ({} : TimeUnit) with secSet := s.time.secSet },
    pkg := { s.pkg with pwrgdAon := false } }
  let s2 := s1.modBtn fun x => { x with refreezes := 0, overflow := 0 }
  if s.pkg.vbat then s2 else loseBackup s2

/-- PWRGD_AON_FALL (R528, R529): acts as a fall of PWRGD_MAIN where that is high; VDD_AON falls. -/
def execPwrgdAonFall (s : State) : Host.Outcome State Fault Refusal :=
  .next (if s.pkg.pwrgdAon then loseAon (powerDown s) else s)

/-- VBAT_APPLIED (R30). -/
def execVbatApplied (s : State) : Host.Outcome State Fault Refusal :=
  .next (s.modPkg fun p => { p with vbat := true, mode := if p.mode = .off then .backup else p.mode })

/-- VBAT_LOST (R30, R507): BACKUP becomes OFF; where VDD_AON is absent too, the backup domain is lost. -/
def execVbatLost (s : State) : Host.Outcome State Fault Refusal :=
  .next (
    let s1 := s.modPkg fun p => { p with vbat := false, mode := if p.mode = .backup then .off else p.mode }
    if s.pkg.vbat && !s.pkg.pwrgdAon then loseBackup s1 else s1)

/-! ### PERST_N (R30, R252, R528, R531) -/

/-- PERST_N_ASSERT (R30): with main power the bittern record is frozen, the whole package is reset and boots; a LOCKED clock goes
to HOLDOVER. -/
def execPerstNAssert (b : BootIn) (s : State) : Host.Outcome State Fault Refusal :=
  .next (
    let s0 := s.modPkg fun p => { p with perstHigh := false }
    if !s.pkg.perstHigh then s
    else if s.pkg.mode.mainPower then
      bootRom false b (restart ((cardDown (timePerst (freezeBtn evPerst none s0))).modPkg fun p => { p with mode := .boot }))
    else s0)

/-- PERST_N_DEASSERT (R528, R531): the PCIe side is let go, and the device's own pull on WAKE_N ends. -/
def execPerstNDeassert (s : State) : Host.Outcome State Fault Refusal :=
  .next (s.modPkg fun p => { p with perstHigh := true, wakePull := false })

/-! ### The ways out of STANDBY (R30, R261, R531) -/

/-- The package stands in STANDBY, and no HALT holds it there (R30, R31). -/
def State.wakeable (s : State) : Bool := s.pkg.mode == .standby && !s.pkg.halted

/-- WAKE_N_LOW (R531): another agent has held WAKE_N low for `ns`; the device's own pull is no wake event. -/
def execWakeNLow (ns : Nat) (b : BootIn) (s : State) : Host.Outcome State Fault Refusal :=
  .next (if s.wakeable && decide (10000 ≤ ns) then bootRom true b s else s)

/-- PCIE_LINK_WAKE (R30). -/
def execPcieLinkWake (b : BootIn) (s : State) : Host.Outcome State Fault Refusal :=
  .next (if s.wakeable then bootRom true b s else s)

/-- TIME_ALARM_FIRE (R261, R531): an armed alarm whose second has come; in STANDBY the package boots and pulls WAKE_N low. -/
def execTimeAlarmFire (b : BootIn) (s : State) : Host.Outcome State Fault Refusal :=
  .next (
    if s.time.armed && decide (s.time.alarmSec * 1000000000 ≤ s.tick) && s.pkg.pwrgdAon then
      let s1 := s.modTime fun t => { t with armed := false }
      if s.wakeable then bootRom true b (s1.modPkg fun p => { p with wakePull := true }) else s1
    else s)

/-! ### The end of SELF_TEST (R30) -/

/-- No test of region `r` is under way. DEDUCED (log 67): a region that stood DIKED before a SELF_TEST that follows
re-provisioning is not tested in it. -/
def State.tested (s : State) (r : Nat) : Bool :=
  !s.enabled r || !((s.region r).svc.state == .testing || (s.region r).svc.state == .loading || (s.region r).svc.state == .rejoining)

/-- Where SELF_TEST leads: the first condition that applies in the order of R29 (R30). -/
def State.afterTest (s : State) : Mode :=
  if (s.lcState == 1 || s.lcState == 5) && s.life.testEn then .factoryTest
  else if s.pkg.zeroized then .zeroized
  else if s.mgmt.activating.isSome then .update
  else if s.life.session.isSome then .debug
  else s.serviceMode

/-- SELF_TEST_COMPLETE (R30): an apex test that fails is HALT; once every enabled region is in service or FAILED, the package
takes the mode R30 gives. -/
def execSelfTestComplete (apex : Bool) (s : State) : Host.Outcome State Fault Refusal :=
  .next (
    if s.pkg.mode != .selfTest || s.pkg.halted then s
    else if !apex then raiseHalt { on := apexUnit .apexSram 0xFF, cause := .selfTest } s
    else if regionNums.all s.tested then
      let m := s.afterTest
      (setMode m s).modLcs fun l => { l with bootUs := if m.isService then (s.tick - l.bootTick) / 1000 else l.bootUs }
    else s)

end Sys2Proof.Machine
end

