-- ==== Sys2Proof/Machine/Flags.lean ====
section
/-! DEFINITION. What every register of the host-visible map reads as (R8, R33, R35): the fields that are stored, and the status
fields that the state gives. `none` is a reserved offset. -/

namespace Sys2Proof.Machine

/-! ### Shapes of values -/

/-- The low half, or the high half, of a 64-bit value. -/
def half (v : Nat) (hi : Bool) : Nat := if hi then v / 2 ^ 32 % 2 ^ 32 else v % 2 ^ 32

/-- The flag of a yes or no answer as a number. -/
def b1 (b : Bool) : Nat := flag b 0

/-- The bits of a mask that a list of positions sets. -/
def mask (l : List Nat) : Nat := l.foldl (fun m n => m ||| 2 ^ n) 0

/-! ### Package registers -/

/-- PKG_MODE (R36). -/
def pkgMode (s : State) : Nat :=
  s.pkg.mode.code + flag s.pkg.halted 4 + flag s.pkg.dbgOpen 5 + flag s.regionsOut 6 + flag s.regionsFenced 7 +
    flag s.pkg.zeroized 8

/-- PKG_REGION_STATE (R18, R36). -/
def pkgRegionState (s : State) : Nat :=
  (regionNums.map fun r => (if s.enabled r then (s.region r).svc.state.code else 7) * 2 ^ (3 * r)).sum

/-- PKG_ registers (R36). -/
def pkgReg (s : State) (o : Nat) : Option Nat :=
  match o with
  | 0x00 => some (s.device + s.variant.dies * 2 ^ 16)
  | 0x04 => some (s.pkg.fuses.revision + 0xA2 * 2 ^ 8 + 0xB1 * 2 ^ 16)
  | 0x08 => some (2 ^ s.variant.dies - 1 + s.pkg.fuses.enabled * 2 ^ 8)
  | 0x10 => some (pkgMode s)
  | 0x14 => some (pkgRegionState s)
  | 0x18 => some (half s.pkg.fuses.unit false)
  | 0x1C => some (half s.pkg.fuses.unit true)
  | _ => none

/-- LCS_ registers (R492). -/
def lcsReg (s : State) (o : Nat) : Option Nat :=
  let l := s.life
  let last := (l.session.map (·.notAfter)).getD 0
  match o with
  | 0x00 => some (s.lcState + flag l.resumed 3 + flag l.inTransition 4 + l.otp.lcCount * 2 ^ 8 + l.otp.dbgCount * 2 ^ 17)
  | 0x04 => some (s.dbgMode + s.dbgRights * 2 ^ 2 + flag l.otp.voucher 7 + s.ownerFlags * 2 ^ 8 + s.pkg.fuses.algDisable * 2 ^ 16)
  | 0x08 => some s.lcsDebug
  | 0x0C => some (half last false)
  | 0x10 => some (half last true)
  | 0x14 => some (min l.bootUs (2 ^ 18 - 1) + flag l.quick 18 + flag l.evidenceBurned 19 + flag l.kumApplied 20 +
      flag l.otpFail 21 + flag l.pufFail 22)
  | 0x18 => some (flag l.extestDenied 0 + flag l.dbgDenied 1)
  | _ => none

/-- TIM_ registers (R261); a read of TIM_NOW_NS has a row of its own that also latches the seconds. -/
def timReg (s : State) (o : Nat) : Option Nat :=
  let t := s.time
  let c := t.cfg
  match o with
  | 0x00 => some (s.tick % 1000000000 + t.quality.code * 2 ^ 30)
  | 0x04 => some (half t.latchSec false)
  | 0x08 => some (t.latchSec / 2 ^ 32 % 2 ^ 16)
  | 0x0C => some (t.quality.code + (t.source.map TSrc.code |>.getD 0) * 2 ^ 2 + flag t.isUnset 5 + flag t.leapNow 6 + flag t.stepped 7 +
      flag t.tcxoOk 8)
  | 0x10 => some (c.portA + c.portB * 2 ^ 4 + flag c.aEn 8 + flag c.bEn 9 + flag c.irigEn 10 + flag c.ppsEn 11 + flag c.tcxoEn 12 +
      flag c.ppsOutEn 13 + flag c.ppsOutAlways 14 + c.domain * 2 ^ 16 + c.qualifyS * 2 ^ 24)
  | 0x14 => some (c.lockNs + c.holdoverNs * 2 ^ 16)
  | 0x18 => some (t.utcOffset + flag t.leap61 16 + flag t.leap59 17 + flag t.fromSource 18)
  | 0x1C => some s.errReg
  | 0x20 => some c.widthMs
  | 0x24 => some (half t.alarmSec false)
  | 0x28 => some (t.alarmSec / 2 ^ 32 % 2 ^ 16 + flag t.armed 31)
  | _ => none

/-- The one-pan floor of R412 is in force: the draw leaves no room, and the lowest-numbered IN_SERVICE region keeps a pan. -/
def State.onePan (s : State) : Bool := !s.drawRoom && s.lowestIn.any s.someActive

/-- PWR_ registers (R426, R537). -/
def pwrReg (s : State) (o : Nat) : Option Nat :=
  let p := s.power
  match o with
  | 0x00 => some p.ceiling
  | 0x04 => some (flag (regionNums.any fun r => panNums.any fun q => (s.pan r q).svc.held) 0 + flag s.onePan 1)
  | 0x08 => some (min p.drawMw (2 ^ 18 - 1))
  | 0x0C => some p.held
  | 0x10 => some (p.thermEff + p.thermHeld * 2 ^ 8 + flag (!p.warn.isEmpty) 16)
  | _ => none

/-- VLT_ registers (R357). -/
def vltReg (s : State) (o : Nat) : Option Nat :=
  let v := s.vault
  match o with
  | 0x00 => some (flag v.rootReady 0 + flag s.pkg.fuses.batteryMode 1 + flag s.pkg.batteryKey.isSome 2 + flag v.ownerSeed.isSome 3 +
      flag v.cfgErr 4 + flag (decide (128 ≤ v.epoch)) 5 + flag (decide (2048 ≤ v.kum)) 6)
  | 0x04 => some v.epoch
  | 0x08 => some v.kum
  | 0x0C => some (b1 v.plainImport)
  | 0x10 => some (v.handles.filter fun k => !k.dead).length
  | 0x14 => some v.hsel
  | 0x18 => some (s.inst v.hsel).cfg.hcap
  | 0x1C => some (v.handles.filter fun k => !k.dead && k.inst == v.hsel).length
  | 0x20 => some v.blobFail
  | _ => none

/-- FLT_ registers (R445); FLT_ACK and FLT_INJECT are WO. -/
def fltReg (s : State) (o : Nat) : Option Nat :=
  let f := s.faults
  let recWord (n : Nat) : Nat := match tfind f.ring f.recSel with
    | some r => fld r.bytes (4 * n) 4
    | none => 0
  if 0x40 ≤ o ∧ o < 0x60 then some (recWord ((o - 0x40) / 4))
  else if 0x60 ≤ o ∧ o < 0x78 then some (f.counts.getD ((o - 0x60) / 4) 0)
  else match o with
    | 0x00 => some (f.worst + flag (!f.pending.isEmpty) 3 + flag s.pairFault 4 + flag f.injectDenied 5 + flag f.ringLost 6)
    | 0x04 => some (flag s.pkg.fuses.pairDynamic 0 + flag f.pairFence 1 + flag f.ien 2 + f.vector * 2 ^ 3)
    | 0x08 => some f.sluiceContain
    | 0x0C => some f.sluiceFence
    | 0x10 => some 0
    | 0x14 => some 0
    | 0x18 => some (f.pending.length + f.headSlot * 2 ^ 16)
    | 0x20 => some (half f.head false)
    | 0x24 => some (half f.head true)
    | 0x28 => some f.recSel
    | 0x80 => some 0
    | _ => none

/-- DIG_WIN_ registers (R182); a read of DIG_WIN_CLAIM has a row of its own, which claims. -/
def digWinReg (s : State) (o : Nat) : Option Nat :=
  let w := s.digWin
  if 0x40 ≤ o ∧ o < 0x80 then some (if w.done then fld w.result (o - 0x40) 4 else 0)
  else match o with
    | 0x00 => some (if w.owner.isSome then 0x0502 else 0)
    | 0x04 => some (w.func + w.outLen * 2 ^ 8)
    | 0x08 => some (half w.len false)
    | 0x0C => some (half w.len true)
    | 0x10 => some 0
    | 0x14 => some 0
    | 0x18 => some 0
    | 0x1C => some (flag w.busy 0 + flag w.done 1 + flag w.owner.isSome 2 + flag (w.owner == some true) 3 + flag w.lenErr 4 +
        flag w.overrun 5 + flag w.expired 6 + flag w.foreign 7)
    | 0x20 => some 0
    | 0x24 => some w.timeoutMs
    | _ => none

/-- MGT_ registers (R473). -/
def mgtReg (s : State) (o : Nat) : Option Nat :=
  let m := s.mgmt
  let sel := m.sensorSel
  match o with
  | 0x00 => some (flag m.alive 0 + (match m.agent with
      | none => 0
      | some .mailbox => 2
      | some .pldm => 4) + flag m.recovery 3)
  | 0x10 => some (s.fwBuild 1)
  | 0x14 => some (s.fwState 1)
  | 0x18 => some (s.fwBuild 2)
  | 0x1C => some (s.fwState 2)
  | 0x20 => some (s.fwBuild 3)
  | 0x24 => some (s.fwState 3)
  | 0x30 => some sel
  | 0x34 => some (s.sensor (if bits sel 3 0 = 15 then 8 else bits sel 3 0) (bits sel 5 4) (bits sel 10 6))
  | 0x38 => some (m.sbAddr + flag m.i3c 7)
  | _ => none

/-! ### Instances (R71, R97, R98, R283) -/

/-- A submission-queue block (R71). -/
def sqReg (s : State) (i q o : Nat) : Option Nat :=
  let x := s.sq i q
  match o with
  | 0x00 => some (half x.base false)
  | 0x04 => some (half x.base true)
  | 0x08 => some (x.log2 + x.cq * 2 ^ 5 + x.jclass * 2 ^ 10)
  | 0x0C => some (flag x.enable 0 + flag x.errCfg 1)
  | 0x10 => some x.head
  | 0x14 => some (flag x.dbRange 0 + flag x.skipped 1 + flag x.badEntry 2 + flag x.fetchFault 3 +
      flag (x.enable && s.freeSlots i x.cq == 0) 4)
  | 0x18 => some (s.outstanding i q)
  | _ => none

/-- A completion-ring block (R71). -/
def cqReg (s : State) (i c o : Nat) : Option Nat :=
  let x := s.cq i c
  match o with
  | 0x00 => some (half x.base false)
  | 0x04 => some (half x.base true)
  | 0x08 => some (x.log2 + x.vector * 2 ^ 5 + flag x.ien 16)
  | 0x0C => some (x.count + x.timeUs * 2 ^ 12)
  | 0x10 => some (flag x.enable 0 + flag x.errCfg 1 + flag x.dbRange 2 + flag x.writeFault 3)
  | 0x14 => some (x.tail + flag x.phase 17)
  | 0x18 => some (s.reserved i c)
  | _ => none

/-- A frame-ring block (R283). -/
def fringReg (s : State) (i r o : Nat) : Option Nat :=
  let x := s.fring i r
  match o with
  | 0x00 => some (half x.base false)
  | 0x04 => some (half x.base true)
  | 0x08 => some (x.log2 + x.vector * 2 ^ 5 + flag x.ien 16)
  | 0x0C => some (x.count + x.timeUs * 2 ^ 12)
  | 0x10 => some (flag x.enable 0 + flag x.errCfg 1 + flag x.dbRange 2 + flag x.writeFault 3)
  | 0x14 => some (x.tail + flag x.phase 22)
  | 0x18 => some x.drops
  | _ => none

/-- The instance view (R97). -/
def viewReg (s : State) (i o : Nat) : Option Nat :=
  let n := s.inst i
  if o < 0x400 then match o with
    | 0x00 => some (i + n.gen * 2 ^ 16)
    | 0x04 => some (flag n.cfg.pasidEn 0 + flag n.cfg.ideRequired 1 +
        flag (n.cfg.ideBind && s.pkg.ideSecure.contains n.cfg.ideStream) 2 +
        flag (regionNums.any fun r => s.inService r && s.warmIn i r) 3)
    | 0x08 => some (half n.energy false)
    | 0x0C => some (half n.energy true)
    | 0x10 => some (half n.xlatAddr false)
    | 0x14 => some (half n.xlatAddr true)
    | 0x18 => some (n.xlatAccess + n.xlatCause * 2 ^ 3 + n.xlatCount * 2 ^ 16)
    | 0x1C => some n.stale
    | 0x20 => some n.demoted
    | _ => none
  else if o < 0x800 then sqReg s i ((o - 0x400) / 0x20) (o % 0x20)
  else if o < 0xC00 then cqReg s i ((o - 0x800) / 0x20) (o % 0x20)
  else if o < 0xD00 then fringReg s i ((o - 0xC00) / 0x20) (o % 0x20)
  else none

/-- The administrative view (R98). -/
def admReg (s : State) (i o : Nat) : Option Nat :=
  let n := s.inst i
  let c := n.cfg
  match o with
  | 0x00 => some 0
  | 0x04 => some (c.pasid + flag c.pasidEn 20 + flag c.ideRequired 21 + flag c.ideBind 22 + c.ideStream * 2 ^ 23)
  | 0x08 => some (c.maxQp + c.pins * 2 ^ 8 + c.shelf * 2 ^ 16)
  | 0x0C => some (c.cryst + c.slotKib * 2 ^ 16)
  | 0x10 => some (c.affRegion + flag c.affEnable 3 + c.affThreshold * 2 ^ 16)
  | 0x14 => some (flag (s.present i) 0 + flag n.resetting 1 + flag n.wrapDrain 2 + flag n.cfgErr 3 + flag n.ideFail 4)
  | 0x18 => some (half n.energy false)
  | 0x1C => some (half n.energy true)
  | _ => none

/-- The code of a mailbox's STATE (R57, R58). -/
def mbxCode (s : State) (i : Nat) : Nat :=
  if s.mbxClosed i then 3 else match (s.inst i).mbx.state with
    | .idle => 0 | .busy => 1 | .done => 2 | .closed => 3

/-- The mailbox control registers (R57). -/
def mbxReg (s : State) (i o : Nat) : Option Nat :=
  let m := (s.inst i).mbx
  match o with
  | 0 => some 0
  | 4 => some (mbxCode s i + flag m.overrun 2 + flag m.refused 3 + flag m.reopened 4 + m.seq * 2 ^ 16)
  | 8 => some (m.vector + flag m.vecEn 15)
  | _ => none

/-- A word of the response buffer; zero while the mailbox is BUSY (R58). -/
def respWord (s : State) (i o : Nat) : Nat := if mbxCode s i = 1 then 0 else unle (readBuf (s.inst i).mbx.resp o 4)

/-! ### Frame ports, harvest, tamper and card -/

/-- The FRP_PORT_ registers of port `p` (R289). -/
def portReg (s : State) (p o : Nat) : Option Nat :=
  let x := s.port p
  match o with
  | 0x00 => some ((match x.mode with
      | .disabled => 0 | .tap => 1 | .endpoint => 2 | .passThrough => 3) + x.speed * 2 ^ 2 + flag x.link 4 +
      flag (s.time.source.isSome && s.time.source == portSource s p) 5)
  | 0x04 => some x.rxFrames
  | 0x08 => some x.rxErr
  | 0x0C => some x.dup
  | 0x10 => some x.unknown
  | 0x14 => some x.other
  | 0x18 => some x.fail
  | 0x1C => some x.fwd
  | 0x20 => some x.fwdDrop
  | 0x24 => some x.tx
  | 0x28 => some x.discardGen
  | _ => none

/-- HVW_ registers (R313). -/
def hvwReg (s : State) (o : Nat) : Option Nat :=
  let h := s.frames.hvw
  match o with
  | 0x00 => some h.ethertype
  | 0x04 => some s.frames.sessions.length
  | 0x08 => some (s.frames.sessions.map fun e => e.2.pend.length).sum
  | 0x10 => some h.sealed
  | 0x14 => some h.sealFail
  | 0x18 => some h.pass
  | 0x1C => some h.fail
  | 0x20 => some h.lost
  | 0x24 => some h.shardDrop
  | 0x28 => some h.overflow
  | _ => none

/-- TMP_ registers (R510). -/
def tmpReg (s : State) (o : Nat) : Option Nat :=
  let t := s.tamper
  let e := s.life.otp.evidence
  if 0x10 ≤ o ∧ o < 0x30 then some (e.getD ((o - 0x10) / 4) 0)
  else if 0x30 ≤ o ∧ o < 0x3C then some (t.disturb.getD ((o - 0x30) / 4) 0)
  else if 0x60 ≤ o ∧ o < 0x70 then some (fld s.ownerBlock (8 + (o - 0x60)) 4)
  else match o with
    | 0x00 => some (mask ((List.range 8).filter fun c => decide (256 ≤ e.getD c 0)) +
        mask (t.latched.filter fun c => decide (c < 8)) * 2 ^ 8 + flag t.vbatLow 16 + flag t.monFail 17)
    | 0x40 => some t.testS
    | 0x48 => some (half t.lastTick false)
    | 0x4C => some (half t.lastTick true)
    | 0x50 => some t.lastUnit
    | 0x54 => some (min t.vbatMv 4095)
    | 0x58 => some (t.inputs + flag t.zeroizeN 4)
    | _ => none

/-- CRD_ registers (R523). -/
def crdReg (s : State) (o : Nat) : Option Nat :=
  let c := s.card
  match o with
  | 0x00 => some (flag c.present 0 + flag c.powered 1 + c.mode * 2 ^ 2 + flag c.formatted 4 + flag c.op.isSome 5 + flag c.v18 6 +
      c.phase * 2 ^ 7)
  | 0x04 => some c.maxMode
  | 0x08 => some 0
  | 0x0C => some c.inserts
  | 0x10 => some c.removedOp
  | 0x14 => some c.errors
  | _ => none

/-! ### Journal and bittern record -/

/-- JRN_ registers and BTN_STATUS (R457). -/
def jrnReg (s : State) (o : Nat) : Option Nat :=
  let j := s.jrn
  let b := s.btn
  match o with
  | 0x00 => some (half j.nextJseq false)
  | 0x04 => some (half j.nextJseq true)
  | 0x08 => some (half j.jpos false)
  | 0x0C => some (half j.jpos true)
  | 0x10 => some (flag j.mirrorOn 0 + flag j.mirrorFault 1 + flag j.cpDeferred 2 + flag s.commitFull 3 + flag s.jseqWait 4)
  | 0x14 => some j.cpCount
  | 0x20 => some (flag b.freeze.isSome 0 + flag b.freeze.isSome 1 + b.nextSlot * 2 ^ 2 + b.refreezes * 2 ^ 8 + b.overflow * 2 ^ 16)
  | _ => none

/-- A word of the on-chip journal ring (R451). -/
def ringWord (s : State) (o : Nat) : Nat :=
  match tfind s.jrn.ring (o / 64) with
  | some e => fld e.image (o % 64) 4
  | none => 0

/-- A word of the checkpoint store, 16 places of 8 KiB (R450, R451). -/
def storeWord (s : State) (o : Nat) : Nat :=
  match tfind s.jrn.store (o / 8192) with
  | some c => fld (c.object s.pkg.fuses.unit) (o % 8192) 4
  | none => 0

/-! ### Region windows (R135) -/

/-- RGN_LAT_ and RGN_CRYST_ registers (R135). -/
def latReg (s : State) (r o : Nat) : Option Nat :=
  let g := s.region r
  let l := g.lat
  let h := tget (fun _ => ({} : Hits)) l.hits l.sel
  match o with
  | 0x00 => some (s.defaultOrder r + flag l.crystFill 2)
  | 0x04 => some s.pkg.fuses.maskFloor
  | 0x08 => some l.vbrDone
  | 0x0C => some l.vbrFail
  | 0x10 => some l.vbrX
  | 0x20 => some (l.cryst.map (·.granules)).sum
  | 0x24 => some l.sel
  | 0x28 => some (crystUse g l.sel + crystPinned g l.sel * 2 ^ 16)
  | 0x2C => some h.hits
  | 0x30 => some h.misses
  | 0x34 => some h.evicts
  | 0x38 => some 0
  | _ => none

/-- PAN_MSG_ registers (R135). -/
def msgReg (m : Msg) (o : Nat) : Option Nat :=
  match o with
  | 0x00 => some (flag m.seeded 0 + flag m.waitSeed 1 + flag m.fault 2)
  | 0x04 => some m.used
  | 0x08 => some m.reseeds
  | 0x0C => some m.seedWaits
  | 0x10 => some (half m.stall false)
  | 0x14 => some (half m.stall true)
  | _ => none

/-- STATE of a cell: quarantined, running, reserved or free (R135, R230). -/
def cellState (s : State) (r : Nat) (k : UnitKind) (n : Nat) : Nat :=
  if s.quarantined (cellUnit r k n) || (k.pan n).any fun p => s.quarantined (panUnit r p) then 2
  else if s.cmds.any fun c => c.onCell r k n then 1
  else if (tget cell0 ((s.region r).cells k) n).warm.isSome then 3 else 0

/-- CELL_LAT_ registers (R135). -/
def cellLatReg (s : State) (r n o : Nat) : Option Nat :=
  let x := tget cell0 (s.region r).latCells n
  match o with
  | 0x0 => some (cellState s r .lattice n + match s.cmds.find? fun c => c.onCell r .lattice n with
      | some c => if c.prog.order ≠ 0 ∧ c.prog.phase = .running then flag true 2 + c.prog.order * 2 ^ 3 else 0
      | none => 0)
  | 0x4 => some x.jobs
  | 0x8 => some (x.dup + x.corr * 2 ^ 16)
  | _ => none

/-- CELL_NUM_ registers (R230). -/
def cellNumReg (s : State) (r n o : Nat) : Option Nat :=
  let x := tget cell0 (s.region r).numCells n
  match o with
  | 0x0 => some (cellState s r .number n + flag ((s.cmds.find? fun c => c.onCell r .number n).any fun c : Cmd => c.prog.resumed) 2)
  | 0x4 => some x.jobs
  | 0x8 => some (x.dup + x.corr * 2 ^ 16)
  | _ => none

/-- RGN_DIG_ registers (R196). -/
def digReg (s : State) (r o : Nat) : Option Nat :=
  let d := (s.region r).dig
  match o with
  | 0x00 => some (d.quantumUs + d.slhCells * 2 ^ 16)
  | 0x04 => some d.switches
  | 0x08 => some d.matchFault
  | 0x0C => some (s.slhHeld r)
  | _ => none

/-- RGN_NUM_ and SLT_INST_ registers (R230). -/
def numReg (s : State) (r o : Nat) : Option Nat :=
  let g := s.region r
  let n := g.num
  match o with
  | 0x00 => some n.quantumUs
  | 0x04 => some n.yields
  | 0x08 => some n.vbrFail
  | 0x0C => some n.mceAttempts
  | 0x10 => some (mask (g.pins.map (·.1)))
  | 0x14 => some (g.pins.map fun e => e.2.inst * 2 ^ (8 * e.1)).sum
  | 0x18 => some n.instSel
  | 0x1C => some ((s.slotUse n.instSel r + 1023) / 1024)
  | _ => none

/-- SLT_PAN_ registers (R230): an operand partition of 2 MiB in slots, and 1,024 system slots. -/
def sltPanReg (s : State) (r p o : Nat) : Option Nat :=
  let x := (s.pan r p).slots
  match o with
  | 0x00 => some (x.next.getD x.len64 + flag x.next.isSome 7)
  | 0x04 => some ((s.freeSlotsOf r p).length + (s.freeSystem r p).length * 2 ^ 16)
  | 0x08 => some x.waits
  | 0x0C => some x.wipes
  | _ => none

/-- The instance of the job that holds slot `id` of region `r` (R230). -/
def slotOwner (s : State) (r id : Nat) : Nat :=
  ((s.cmds.find? fun c => c.prog.region == some r && c.prog.slots.contains (id / 16384 % 4, id % 16384)).map (·.job.inst)).getD 0

/-- SLT_INSPECT_ registers (R230): a slot that no job holds is zero-written. -/
def inspectReg (s : State) (r o : Nat) : Option Nat :=
  let n := (s.region r).num
  match o with
  | 0x00 => some n.inspectSel
  | 0x04 => some (flag (slotHeld s r n.inspectSel) 0 + flag (!slotHeld s r n.inspectSel) 1 + flag n.inspectDenied 2 +
      slotOwner s r n.inspectSel * 2 ^ 8)
  | _ => none

/-- The pipelines of symmetric engine `e`: 1 for each of a checked job, 2 for each of an unchecked one (R231, R248). -/
def pipesUsed (s : State) (r e : Nat) : List Nat :=
  (s.cmds.filter fun c => (c.unitsIn r).contains (.sym, e)).flatMap fun c =>
    List.replicate (s.pipes r c) (if s.runsUnchecked r c then 2 else 1)

/-- RGN_SYM_ and SYM_ENG_ registers (R248). -/
def symReg (s : State) (r o : Nat) : Option Nat :=
  let y := (s.region r).sym
  let st (e : Nat) : Nat :=
    if s.quarantined (cellUnit r .sym e) then 15
    else let l := pipesUsed s r e
      l.getD 0 0 + l.getD 1 0 * 2 ^ 2
  match o with
  | 0x00 => some (y.quantumUs + flag (y.uncheckedEn && !bit s.pkg.fuses.algDisable 9) 16)
  | 0x04 => some (s.pondFree r)
  | 0x08 => some y.pondWaits
  | 0x0C => some y.tagFail
  | 0x10 => some y.cmpFail
  | 0x14 => some y.demoted
  | 0x40 => some (st 0)
  | 0x44 => some y.jobs0
  | 0x48 => some y.faults0
  | 0x50 => some (st 1)
  | 0x54 => some y.jobs1
  | 0x58 => some y.faults1
  | _ => none

/-- RNG_ registers (R329). -/
def rngReg (s : State) (r o : Nat) : Option Nat :=
  let x := (s.region r).rng
  match o with
  | 0x00 => some x.waitLimit
  | 0x04 => some ((match x.state with
      | .starting => 0 | .running => 1 | .hold => 2 | .borrowed => 3 | .failed => 4) + flag s.pkg.fuses.rngStrict 3 + flag x.test 4 +
      flag x.spare 5 + flag x.healthFail 6)
  | 0x08 => some x.reservoir
  | 0x0C => some ((seedWaiters s r).length + (drawWaiters s r).length)
  | 0x10 => some (x.since / 1024)
  | 0x14 => some (41 + 800 * 2 ^ 16)
  | 0x18 => some x.rct
  | 0x1C => some x.apt
  | 0x20 => some x.reseeds
  | 0x24 => some x.borrowedN
  | 0x28 => some x.donated
  | 0x2C => some x.timeouts
  | 0x30 => some (half x.waitNs false)
  | 0x34 => some (half x.waitNs true)
  | _ => none

/-- VLT_SHELF_ registers (R358). -/
def shelfReg (s : State) (r o : Nat) : Option Nat :=
  let g := s.region r
  let i := g.shelfSel
  let h := tget (fun _ => ({} : Hits)) g.shelfHits i
  match o with
  | 0x00 => some (g.shelf.map (·.entries)).sum
  | 0x04 => some i
  | 0x08 => some (shelfUse g i + ((g.shelf.filter fun e => e.inst == i && s.shelfInUse r e).map (·.entries)).sum * 2 ^ 16)
  | 0x0C => some h.hits
  | 0x10 => some h.misses
  | 0x14 => some h.evicts
  | 0x18 => some g.unwraps
  | 0x1C => some 0
  | _ => none

/-- RGN_CUST_ and PAN_CS_ registers (R407). -/
def custReg (s : State) (r o : Nat) : Option Nat :=
  let c := (s.region r).cust
  if 0x40 ≤ o ∧ o < 0x80 then
    let x := (s.pan r ((o - 0x40) / 0x10)).cs
    match o % 0x10 with
    | 0x0 => some (b1 x.reloading)
    | 0x4 => some x.eccCorr
    | 0x8 => some x.eccUnc
    | _ => none
  else match o with
    | 0x00 => some (c.quantumUs + flag c.runEn 16)
    | 0x04 => some (mask (c.held.filter fun k => decide (k < 8)))
    | 0x08 => some c.runs
    | 0x0C => some c.errs
    | 0x10 => some c.wdog
    | _ => none

/-- The code of a pan's state in PAN_PWR_STATE (R426). -/
def PanPwr.code : PanPwr → Nat
  | .active => 0 | .idle => 1 | .nap => 2 | .dormant => 3

/-- RGN_SVC_ and the registers beside them (R426). -/
def svcReg (s : State) (r o : Nat) : Option Nat :=
  let v := (s.region r).svc
  let c := v.cfg
  match o with
  | 0x00 => some (flag c.point 0 + flag c.autoRepair 1 + flag c.autoFull 2 + c.rakeSplit * 2 ^ 3 + c.idleUs * 2 ^ 6 + c.napMs * 2 ^ 16)
  | 0x04 => some (flag v.pointNow 0 + flag v.switching 1 + flag v.aged 2 + flag (!v.fallback.isEmpty) 3 + flag v.outByCmd 4 +
      v.vddMv % 1024 * 2 ^ 16)
  | 0x08 => some (panNums.map fun p => (s.pan r p).svc.pwr.code * 2 ^ (2 * p)).sum
  | 0x0C => some ((v.warm.map (·.lattice)).sum + (v.warm.map (·.number)).sum * 2 ^ 8)
  | 0x10 => some (v.marginPs % 2 ^ 16 + v.guardPs % 2 ^ 16 * 2 ^ 16)
  | 0x14 => some (v.mod0 + v.mod1 * 2 ^ 2)
  | 0x18 => some v.retries
  | 0x1C => some v.rakePasses
  | 0x20 => some v.rakeCorr
  | 0x24 => some v.rakeUnc
  | 0x28 => some v.fences
  | _ => none

/-- The registers of region `r` at offset `o` of its window (R135, R196, R230, R248, R329, R358, R407, R426). -/
def regionReg (s : State) (r o : Nat) : Option Nat :=
  if !s.enabled r then none
  else match o / 0x1000 with
    | 0x10 => latReg s r (o % 0x1000)
    | 0x11 => if o % 0x1000 < 0x100 then msgReg (s.pan r (o % 0x100 / 0x40)).msg (o % 0x40) else none
    | 0x12 => if o % 0x1000 < 0x200 then cellLatReg s r (o % 0x200 / 0x10) (o % 0x10) else none
    | 0x14 => digReg s r (o % 0x1000)
    | 0x16 =>
      let p := o % 0x1000
      if p < 0x100 then numReg s r p
      else if p < 0x180 then sltPanReg s r ((p - 0x100) / 0x20) (p % 0x20)
      else if p < 0x200 then none
      else if p < 0x280 then cellNumReg s r ((p - 0x200) / 0x10) (p % 0x10)
      else if p < 0x300 then none
      else inspectReg s r (p - 0x300)
    | 0x17 => some 0
    | 0x18 => symReg s r (o % 0x1000)
    | 0x19 => rngReg s r (o % 0x1000)
    | 0x1A => shelfReg s r (o % 0x1000)
    | 0x1B => custReg s r (o % 0x1000)
    | 0x1C => svcReg s r (o % 0x1000)
    | _ => none

/-! ### The map (R33, R34) -/

/-- A doorbell of the queues or frame rings lies at offset `o` of its range (R78, R283); doorbells read as zero. -/
def doorbellReg (o : Nat) : Option Nat :=
  if o < 0x200 ∧ (o % 0x10 = 0 ∨ o % 0x10 = 8) then some 0
  else if 0x400 ≤ o ∧ o < 0x480 ∧ o % 0x10 = 0 then some 0 else none

/-- Package registers, below 0x0010_0000 (R33). -/
def packageReg (s : State) (a : Nat) : Option Nat :=
  match a / 0x1000 with
  | 0x0 => pkgReg s a
  | 0x1 => lcsReg s (a % 0x1000)
  | 0x2 => timReg s (a % 0x1000)
  | 0x3 => pwrReg s (a % 0x1000)
  | 0x4 => vltReg s (a % 0x1000)
  | 0x5 => fltReg s (a % 0x1000)
  | 0x6 => digWinReg s (a % 0x1000)
  | 0x7 => mgtReg s (a % 0x1000)
  | 0x8 => viewReg s 0 (a % 0x1000)
  | 0x10 | 0x11 | 0x12 | 0x13 => admReg s ((a - 0x10000) / 0x40) (a % 0x40)
  | 0x20 => portReg s (a % 0x1000 / 0x100) (a % 0x100)
  | 0x21 => hvwReg s (a % 0x1000)
  | 0x22 => tmpReg s (a % 0x1000)
  | 0x23 => crdReg s (a % 0x1000)
  | _ => none

/-- The register of the physical function's BAR0 at address `a`. -/
def pfReg (s : State) (a : Nat) : Option Nat :=
  if a % 4 ≠ 0 then none
  else if a < 0x100000 then packageReg s a
  else if a < 0x101000 then some (unle (readBuf (s.inst 0).mbx.req (a - 0x100000) 4))
  else if a < 0x102000 then some (respWord s 0 (a - 0x101000))
  else if a < 0x103000 then mbxReg s 0 (a - 0x102000)
  else if a < 0x200000 then none
  else if a < 0x201000 then doorbellReg (a - 0x200000)
  else if a < 0x400000 then none
  else if a < 0x500000 then some (ringWord s (a - 0x400000))
  else if a < 0x510000 then jrnReg s (a - 0x500000)
  else if a < 0x530000 then some (storeWord s (a - 0x510000))
  else if a < 0x1000000 then none
  else if a < 0x1800000 then regionReg s ((a - 0x1000000) / 0x100000) (a % 0x100000)
  else none

/-- The register of a virtual function's BAR0 at address `a` (R34, R54). -/
def vfReg (s : State) (i a : Nat) : Option Nat :=
  if a % 4 ≠ 0 then none
  else if a < 0xF00 then viewReg s i a
  else if a < 0x1000 then mbxReg s i (a - 0xF00)
  else if a < 0x2000 then some (respWord s i (a - 0x1000))
  else if a < 0x3000 then doorbellReg (a - 0x2000)
  else none

/-- Vectors of function `fn` (R34). -/
def vectorsOf (fn : Nat) : Nat := if fn = 0 then 2048 else 64

/-- Where the pending-bit array of function `fn` lies in BAR2, behind the table (log 69). -/
def pbaAt (fn : Nat) : Nat := if fn = 0 then 0x8000 else 0x800

/-- BAR2 of function `fn` at offset `o` (R34): the MSI-X table, 16 bytes to a vector, and the pending-bit array. -/
def bar2Reg (s : State) (fn o : Nat) : Option Nat :=
  let e := s.msixEntry fn (o / 16)
  if o % 4 ≠ 0 then none
  else if o < 16 * vectorsOf fn then
    some (match o % 16 with
      | 0 => half e.addr false
      | 4 => half e.addr true
      | 8 => e.data
      | _ => b1 e.masked)
  else if pbaAt fn ≤ o ∧ o < pbaAt fn + vectorsOf fn / 8 then
    some (((List.range 32).map fun k => flag ((s.inst fn).pba.contains (8 * (o - pbaAt fn) + k)) k).sum)
  else none

/-- Where the addresses of BAR2 begin in the numbering of register accesses (log 69). -/
def bar2Base : Nat := 0x100000000

/-- Where the configuration space begins in the numbering of register accesses (log 69). -/
def cfgBase : Nat := 0x200000000

/-- Where the Skanel port's offsets begin in the numbering of register accesses (R182, log 69). -/
def skanelBase : Nat := 0x300000000

/-- Fields of the configuration space that the spec gives, four bytes to a field (R1, R33, R34, R92, R99): Device ID; of the physical
function's SR-IOV capability TotalVFs, InitialVFs, NumVFs with VF Enable in bit 31, First VF Offset, VF Stride, VF Device ID,
Supported Page Sizes, and the sizes of VF BAR0 and BAR2; the sizes of BAR0 and BAR2; ATS Enable; and MSI-X Enable and Function Mask in
bits 15 and 14. -/
def cfgReg (s : State) (fn o : Nat) : Option Nat :=
  let pf (v : Nat) : Option Nat := if fn = 0 then some v else none
  match o with
  | 0x00 => some (if fn = 0 then s.device else s.device + 1)
  | 0x04 => pf 255
  | 0x08 => pf 255
  | 0x0C => pf (s.pkg.numVfs + flag s.pkg.vfEnable 31)
  | 0x10 => pf 1
  | 0x14 => pf 1
  | 0x18 => pf (s.device + 1)
  | 0x1C => pf 1
  | 0x20 => pf 0x10000
  | 0x24 => pf 0x1000
  | 0x28 => some (if fn = 0 then 0x4000000 else 0x10000)
  | 0x2C => some (if fn = 0 then 0x10000 else 0x1000)
  | 0x30 => some (b1 (s.inst fn).atsEn)
  | 0x34 => some (flag (s.inst fn).msixEn 15 + flag (s.inst fn).msixMask 14)
  | _ => none

/-- The register at address `a` of function `fn`: 0 the physical function, `n` virtual function `n`. BAR0 lies from 0, BAR2 from
`bar2Base`, the configuration space from `cfgBase`. -/
def readReg (s : State) (fn a : Nat) : Option Nat :=
  if skanelBase ≤ a then none
  else if cfgBase ≤ a then cfgReg s fn (a - cfgBase)
  else if bar2Base ≤ a then bar2Reg s fn (a - bar2Base) else if fn = 0 then pfReg s a else vfReg s fn a

end Sys2Proof.Machine
end

