-- ==== Sys2Proof/Machine/Registers.lean ====
section
/-! DEFINITION. Writes of the host-visible registers (R8, R10, R11, R35), and accesses that R35 or R110 turns away. A register
whose write has a row of its own takes the meaning of that row. -/

namespace Sys2Proof.Machine

/-! ### Shapes of writes -/

/-- A field after a write of `v`: a reserved encoding leaves it (R11). -/
def rw (ok : Bool) (v old : Nat) : Nat := if ok then v else old

/-- A value with one half written: the high half where `hi`. -/
def setHalf (old : Nat) (hi : Bool) (v : Nat) : Nat :=
  if hi then old % 2 ^ 32 + v % 2 ^ 32 * 2 ^ 32 else old / 2 ^ 32 * 2 ^ 32 + v % 2 ^ 32

/-- An RW1C bit after a write of `v` (R8). -/
def w1c (b : Bool) (v i : Nat) : Bool := b && !bit v i

/-! ### Package registers -/

/-- Writes of LCS_ registers (R492). -/
def lcsWrite (o v : Nat) (s : State) : State :=
  if o = 0x18 then s.modLife fun l => { l with extestDenied := w1c l.extestDenied v 0, dbgDenied := w1c l.dbgDenied v 1 } else s

/-- A write of TIM_UTC (R257, R261): ignored while the values come from the source; LEAP61 with LEAP59 is a reserved encoding. -/
def utcWrite (v : Nat) (s : State) : State :=
  let t := s.time
  if t.fromSource then s
  else
    let both := bit v 16 && bit v 17
    setUtc (bits v 15 0) (if both then t.leap61 else bit v 16) (if both then t.leap59 else bit v 17) s

/-- Writes of TIM_ registers (R261). -/
def timWrite (o v : Nat) (s : State) : State :=
  match o with
  | 0x0C => s.modTime fun t => { t with stepped := w1c t.stepped v 7 }
  | 0x10 => timCfgWriteAt v s
  | 0x14 => s.modTime fun t =>
      let lock := rw (decide (50 ≤ bits v 15 0)) (bits v 15 0) t.cfg.lockNs
      { t with cfg := { t.cfg with lockNs := lock, holdoverNs := rw (decide (lock ≤ bits v 31 16)) (bits v 31 16) t.cfg.holdoverNs } }
  | 0x18 => utcWrite v s
  | 0x20 => s.modTime fun t => { t with cfg := { t.cfg with widthMs := rw (within 1 999 (bits v 9 0)) (bits v 9 0) t.cfg.widthMs } }
  | 0x24 => s.modTime fun t => { t with alarmSec := setHalf t.alarmSec false v }
  | 0x28 => s.modTime fun t => { t with alarmSec := setHalf t.alarmSec true (bits v 15 0), armed := bit v 31 }
  | _ => s

/-- Writes of PWR_ registers (R40, R426): the ceiling is 40 W to the maximum of the variant. -/
def pwrWrite (o v : Nat) (s : State) : State :=
  if o = 0 then
    { s with power := { s.power with ceiling := rw (within 40 s.variant.maxCeiling (bits v 7 0)) (bits v 7 0) s.power.ceiling } }
  else s

/-- Change the vault. -/
def State.modVault (s : State) (f : Vault → Vault) : State := { s with vault := f s.vault }

/-- Writes of VLT_ registers (R357). -/
def vltWrite (o v : Nat) (s : State) : State :=
  match o with
  | 0x00 => s.modVault fun x => { x with cfgErr := w1c x.cfgErr v 4 }
  | 0x0C => s.modVault fun x => { x with plainImport := bit v 0 }
  | 0x14 => s.modVault fun x => { x with hsel := bits v 7 0 }
  | 0x18 => vltHcapWriteAt v s
  | _ => s

/-- Writes of FLT_ registers (R445). -/
def fltWrite (o v : Nat) (s : State) : State :=
  let us := bits v 23 0
  let ok := within 10 10000000 us
  match o with
  | 0x00 => s.modFaults fun f => { f with injectDenied := w1c f.injectDenied v 5, ringLost := w1c f.ringLost v 6 }
  | 0x04 => s.modFaults fun f => { f with pairFence := bit v 1, ien := bit v 2, vector := bits v 13 3 }
  | 0x08 => s.modFaults fun f => { f with sluiceContain := rw ok us f.sluiceContain }
  | 0x0C => s.modFaults fun f => { f with sluiceFence := rw ok us f.sluiceFence }
  | 0x10 => s.modFaults fun f => { f with ackLo := v % 2 ^ 32 }
  | 0x14 => fltAckAt v s
  | 0x28 => s.modFaults fun f => { f with recSel := bits v 7 0 }
  | 0x80 => fltInjectAt v s
  | _ => s

/-- The window's functions (R182). -/
def winFunc (n : Nat) : Bool := within 1 6 n || within 0x11 0x14 n || n == 0x21 || n == 0x22

/-- A write of DIG_WIN_CFG or DIG_WIN_LEN by the owner: after the first data word it is ignored and counted (R179). -/
def winSet (p : DigPort) (f : DigWin → DigWin) (s : State) : State :=
  if s.digWin.owner == some p && !s.digWin.words.isEmpty then noteBadAccess (winOwned p s id) else winOwned p s f

/-- Writes of DIG_WIN_ registers through port `p` (R178-R182): one that does not own the window sets FOREIGN. -/
def digWinWrite (p : DigPort) (o v : Nat) (s : State) : State :=
  match o with
  | 0x04 => winSet p (fun w => { w with
      func := rw (winFunc (bits v 7 0)) (bits v 7 0) w.func,
      outLen := rw (within 1 64 (bits v 14 8)) (bits v 14 8) w.outLen }) s
  | 0x08 => winSet p (fun w => { w with len := setHalf w.len false v }) s
  | 0x0C => winSet p (fun w => { w with len := setHalf w.len true v }) s
  | 0x10 => digWinDataAt p 0 v s
  | 0x14 => digWinDataAt p 1 v s
  | 0x18 => digWinLastAt p (bits v 3 0) (bits v 31 16) s
  | 0x1C => winOwned p s fun w =>
      { w with lenErr := w1c w.lenErr v 4, overrun := w1c w.overrun v 5, expired := w1c w.expired v 6, foreign := w1c w.foreign v 7 }
  | 0x20 => digWinReleaseAt p (bits v 31 16) s
  | 0x24 => winOwned p s fun w => { w with timeoutMs := rw (within 1 1000 (bits v 9 0)) (bits v 9 0) w.timeoutMs }
  | _ => winOwned p s id

/-- A write of MGT_SENSOR_SEL (R473). -/
def sensorSel (old v : Nat) : Nat :=
  rw (decide (bits v 3 0 < 8) || bits v 3 0 == 15) (bits v 3 0) (bits old 3 0) +
    rw (decide (bits v 5 4 < 3)) (bits v 5 4) (bits old 5 4) * 2 ^ 4 + bits v 10 6 * 2 ^ 6

/-- Writes of MGT_ registers (R473). -/
def mgtWrite (o v : Nat) (s : State) : State :=
  if o = 0x30 then s.modMgmt fun m => { m with sensorSel := sensorSel m.sensorSel v } else s

/-! ### Instances -/

/-- A write of a submission-queue block (R71, R73). -/
def sqWrite (i q o v : Nat) (s : State) : State :=
  let on := (s.sq i q).enable
  let set (f : Sq → Sq) : State := if on then noteBadAccess s else s.modSq i q f
  match o with
  | 0x00 => set fun x => { x with base := setHalf x.base false (v % 2 ^ 32 / 4096 * 4096) }
  | 0x04 => set fun x => { x with base := setHalf x.base true v }
  | 0x08 => set fun x => { x with log2 := rw (sizeOkLog2 (bits v 4 0)) (bits v 4 0) x.log2, cq := bits v 9 5, jclass := bits v 10 10 }
  | 0x0C => if bit v 0 then sqEnableAt i q s else s
  | 0x14 => s.modSq i q fun x =>
      { x with dbRange := w1c x.dbRange v 0, skipped := w1c x.skipped v 1, badEntry := w1c x.badEntry v 2,
               fetchFault := w1c x.fetchFault v 3 }
  | _ => s

/-- The VECTOR field of a ring (R71): 0 to 63 in a virtual instance. -/
def ringVector (i v : Nat) : Nat := if i = 0 then bits v 15 5 else bits v 10 5

/-- A write of a completion-ring block (R71, R73): QE_CQ_COALESCE stays writable while the ring is enabled. DESIGN CHOICE (log 77):
a COUNT lowered to what is unsignalled raises no vector before the next completion is posted. -/
def cqWrite (i c o v : Nat) (s : State) : State :=
  let on := (s.cq i c).enable
  let set (f : Cq → Cq) : State := if on then noteBadAccess s else s.modCq i c f
  match o with
  | 0x00 => set fun x => { x with base := setHalf x.base false (v % 2 ^ 32 / 4096 * 4096) }
  | 0x04 => set fun x => { x with base := setHalf x.base true v }
  | 0x08 => set fun x =>
      { x with log2 := rw (sizeOkLog2 (bits v 4 0)) (bits v 4 0) x.log2, vector := ringVector i v, ien := bit v 16 }
  | 0x0C => s.modCq i c fun x => { x with count := rw (within 1 256 (bits v 8 0)) (bits v 8 0) x.count, timeUs := bits v 23 12 }
  | 0x10 =>
    let s1 := s.modCq i c fun x => { x with dbRange := w1c x.dbRange v 2, writeFault := w1c x.writeFault v 3 }
    if bit v 0 then cqEnableAt i c s1 else s1
  | _ => s

/-- A write of a frame-ring block (R283). -/
def fringWrite (i r o v : Nat) (s : State) : State :=
  let set (f : FrameRing → FrameRing) : State := if (s.fring i r).enable then s else s.modFring i r f
  match o with
  | 0x00 => set fun x => { x with base := setHalf x.base false (v % 2 ^ 32 / 4096 * 4096) }
  | 0x04 => set fun x => { x with base := setHalf x.base true v }
  | 0x08 => set fun x =>
      { x with log2 := rw (within 16 26 (bits v 4 0)) (bits v 4 0) x.log2, vector := ringVector i v, ien := bit v 16 }
  | 0x0C => s.modFring i r fun x =>
      { x with count := rw (within 1 256 (bits v 8 0)) (bits v 8 0) x.count, timeUs := bits v 23 12 }
  | 0x10 => frameRingEnableAt i r v s
  | _ => s

/-- A write in the instance view (R97). -/
def viewWrite (i o v : Nat) (s : State) : State :=
  if o < 0x400 then (if o = 0x18 ∧ bit v 5 then instXlatClrAt i s else s)
  else if o < 0x800 then sqWrite i ((o - 0x400) / 0x20) (o % 0x20) v s
  else if o < 0xC00 then cqWrite i ((o - 0x800) / 0x20) (o % 0x20) v s
  else fringWrite i ((o - 0xC00) / 0x20) (o % 0x20) v s

/-- A write in the administrative view (R98). -/
def admWrite (i o v : Nat) (s : State) : State :=
  match o with
  | 0x00 =>
    let s1 := if bit v 0 then instAdmReassignAt i s else s
    if bit v 1 then instAdmClrEnergyAt i s1 else s1
  | 0x04 => instAdmCfgWriteAt i v s
  | 0x08 => instAdmQuotaWriteAt i false v s
  | 0x0C => instAdmQuotaWriteAt i true v s
  | 0x10 => s.modInst i fun n => { n with cfg := { n.cfg with
      affRegion := bits v 2 0, affEnable := bit v 3, affThreshold := rw (bits v 27 16 != 0) (bits v 27 16) n.cfg.affThreshold } }
  | 0x14 => s.modInst i fun n => { n with cfgErr := w1c n.cfgErr v 3, ideFail := w1c n.ideFail v 4 }
  | _ => s

/-- A write of the mailbox control registers (R57). -/
def mbxWrite (i o v : Nat) (s : State) : State :=
  match o with
  | 0 => mailboxDoorbellAt i v s
  | 4 => s.modMbx i fun m => { m with overrun := w1c m.overrun v 2, refused := w1c m.refused v 3, reopened := w1c m.reopened v 4 }
  | 8 => s.modMbx i fun m => { m with vector := if i = 0 then bits v 10 0 else bits v 5 0, vecEn := bit v 15 }
  | _ => s

/-! ### Harvest, tamper and card -/

/-- EtherTypes that are reserved in HVW_CFG (R313). -/
def etherReserved (v : Nat) : Bool :=
  decide (v < 0x600) || [0x0800, 0x8100, 0x86DD, 0x88A8, 0x88B8, 0x88BA, 0x88F7, 0x88FB, 0x892F].contains v

/-- Writes of HVW_ registers (R313). -/
def hvwWrite (o v : Nat) (s : State) : State :=
  if o ≠ 0 then s
  else if !s.frames.sessions.isEmpty then noteBadAccess s
  else s.modHvw fun h => { h with ethertype := rw (!etherReserved (bits v 15 0)) (bits v 15 0) h.ethertype }

/-- Writes of TMP_ registers (R510). -/
def tmpWrite (o v : Nat) (s : State) : State :=
  match o with
  | 0x00 => s.modTamper fun t => { t with monFail := w1c t.monFail v 17 }
  | 0x40 => s.modTamper fun t => { t with testS := rw (within 10 1000 (bits v 9 0)) (bits v 9 0) t.testS }
  | _ => s

/-- Writes of CRD_ registers (R523). -/
def crdWrite (o v : Nat) (s : State) : State :=
  match o with
  | 0x04 => s.modCard fun c => { c with maxMode := bits v 1 0 }
  | 0x08 => if bit v 0 then cardEjectAt s else s
  | _ => s

/-! ### Region windows -/

/-- A quantum register's value after a write: 1 to 1,000 µs. -/
def quantumWrite (v old : Nat) : Nat := rw (within 1 1000 (bits v 9 0)) (bits v 9 0) old

/-- A slot ID of the partition's current slots (R200, R230). -/
def State.slotIdOk (s : State) (r id : Nat) : Bool :=
  if bit id 13 then decide (id % 8192 < 1024) else decide (id % 8192 < 2097152 / s.slotLen r (bits id 15 14))

/-- A write in the window of region `r` (R135, R196, R230, R248, R329, R358, R407, R426). -/
def regionWrite (r o v : Nat) (s : State) : State :=
  match o with
  | 0x10000 => s.modRegion r fun g => { g with lat := { g.lat with
      defaultOrder := rw (bits v 1 0 != 0 && decide (s.pkg.fuses.maskFloor ≤ bits v 1 0)) (bits v 1 0) g.lat.defaultOrder,
      crystFill := bit v 2 } }
  | 0x10024 => s.modRegion r fun g => { g with lat := { g.lat with sel := bits v 7 0 } }
  | 0x10038 => if bit v 0 then clrCountsAt r false s else s
  | 0x14000 => s.modRegion r fun g => { g with dig := { g.dig with
      quantumUs := quantumWrite v g.dig.quantumUs, slhCells := rw (within 1 8 (bits v 19 16)) (bits v 19 16) g.dig.slhCells } }
  | 0x16000 => s.modRegion r fun g => { g with num := { g.num with quantumUs := quantumWrite v g.num.quantumUs } }
  | 0x16018 => s.modRegion r fun g => { g with num := { g.num with instSel := bits v 7 0 } }
  | 0x16100 => slotLenWriteAt r 0 v s
  | 0x16120 => slotLenWriteAt r 1 v s
  | 0x16140 => slotLenWriteAt r 2 v s
  | 0x16160 => slotLenWriteAt r 3 v s
  | 0x16300 => s.modRegion r fun g => { g with num := { g.num with
      inspectSel := rw (s.slotIdOk r (bits v 15 0)) (bits v 15 0) g.num.inspectSel } }
  | 0x16304 => s.modRegion r fun g => { g with num := { g.num with inspectDenied := w1c g.num.inspectDenied v 2 } }
  | 0x18000 => s.modRegion r fun g => { g with sym := { g.sym with
      quantumUs := quantumWrite v g.sym.quantumUs, uncheckedEn := if bit s.pkg.fuses.algDisable 9 then g.sym.uncheckedEn else bit v 16 } }
  | 0x19000 => s.modRegion r fun g => { g with rng := { g.rng with waitLimit := quantumWrite v g.rng.waitLimit } }
  | 0x19004 => s.modRegion r fun g => { g with rng := { g.rng with healthFail := w1c g.rng.healthFail v 6 } }
  | 0x1A004 => s.modRegion r fun g => { g with shelfSel := bits v 7 0 }
  | 0x1A01C => if bit v 0 then clrCountsAt r true s else s
  | 0x1B000 => s.modRegion r fun g => { g with cust := { g.cust with quantumUs := quantumWrite v g.cust.quantumUs, runEn := bit v 16 } }
  | 0x1C000 => pointWriteAt r v s
  | _ => s

/-! ### The map -/

/-- A doorbell write at offset `o` of the range (R78, R283). -/
def doorbellWrite (i o v : Nat) (s : State) : State :=
  if 0x400 ≤ o then frameRingDoorbellAt i ((o - 0x400) / 0x10) v s
  else if o % 0x10 = 0 then sqDoorbellAt i (o / 0x10) v s
  else cqDoorbellAt i (o / 0x10) v s

/-- A write of a package register (R33). -/
def packageWrite (a v : Nat) (s : State) : State :=
  match a / 0x1000 with
  | 0x1 => lcsWrite (a % 0x1000) v s
  | 0x2 => timWrite (a % 0x1000) v s
  | 0x3 => pwrWrite (a % 0x1000) v s
  | 0x4 => vltWrite (a % 0x1000) v s
  | 0x5 => fltWrite (a % 0x1000) v s
  | 0x6 => digWinWrite false (a % 0x1000) v s
  | 0x7 => mgtWrite (a % 0x1000) v s
  | 0x8 => viewWrite 0 (a % 0x1000) v s
  | 0x10 | 0x11 | 0x12 | 0x13 => admWrite ((a - 0x10000) / 0x40) (a % 0x40) v s
  | 0x21 => hvwWrite (a % 0x1000) v s
  | 0x22 => tmpWrite (a % 0x1000) v s
  | 0x23 => crdWrite (a % 0x1000) v s
  | _ => s

/-- A write of a mapped register of the physical function's BAR0. -/
def pfWrite (a v : Nat) (s : State) : State :=
  if a < 0x100000 then packageWrite a v s
  else if a < 0x101000 then mailboxBufferWriteAt 0 (a - 0x100000) v s
  else if a < 0x102000 then s
  else if a < 0x103000 then mbxWrite 0 (a - 0x102000) v s
  else if a < 0x400000 then doorbellWrite 0 (a - 0x200000) v s
  else if a < 0x1000000 then
    if a = 0x500010 then s.modJrn fun j => { j with mirrorFault := w1c j.mirrorFault v 1 } else s
  else regionWrite ((a - 0x1000000) / 0x100000) (a % 0x100000) v s

/-- A write of a mapped register of BAR0 of virtual function `i`. -/
def vfWrite (i a v : Nat) (s : State) : State :=
  if a < 0xF00 then viewWrite i a v s
  else if a < 0x1000 then mbxWrite i (a - 0xF00) v s
  else if a < 0x2000 then mailboxBufferWriteAt i (a - 0x1000) v s
  else doorbellWrite i (a - 0x2000) v s

/-- A vector that is unmasked with its pending bit set sends its message (R87). -/
def sendPending (i v : Nat) (s : State) : State :=
  if (s.inst i).pba.contains v ∧ (s.inst i).msixEn ∧ ¬ (s.inst i).msixMask ∧ ¬ (s.msixEntry i v).masked then
    emit (.msix i v) (s.modInst i fun n => { n with pba := n.pba.filter (· != v) })
  else s

/-- A write in BAR2 of function `i` at offset `o` (R34): the pending-bit array is read-only. -/
def bar2Write (i o v : Nat) (s : State) : State :=
  if 16 * vectorsOf i ≤ o then s
  else
    let d : Nat → MsixEntry := fun _ => {}
    let put (f : MsixEntry → MsixEntry) : State :=
      s.modInst i fun n => { n with msix := tset d n.msix (o / 16) (f (tget d n.msix (o / 16))) }
    match o % 16 with
    | 0 => put fun e => { e with addr := setHalf e.addr false (v % 2 ^ 32 / 4 * 4) }
    | 4 => put fun e => { e with addr := setHalf e.addr true v }
    | 8 => put fun e => { e with data := v % 2 ^ 32 }
    | _ => sendPending i (o / 16) (put fun e => { e with masked := bit v 0 })

/-- A write of a field of the configuration space (R87, R99): ATS Enable, MSI-X Enable and Function Mask. VF Enable has rows of its own
(R92). -/
def configWrite (fn o v : Nat) (s : State) : State :=
  match o with
  | 0x30 => s.modInst fn fun n => { n with atsEn := bit v 0 }
  | 0x34 =>
    let s1 := s.modInst fn fun n => { n with msixEn := bit v 15, msixMask := bit v 14 }
    (s1.inst fn).pba.foldl (fun s k => sendPending fn k s) s1
  | _ => s

/-- A write at offset `a` of the Skanel port, which reaches the digest window at the host's offsets (R182). -/
def skanelWrite (a v : Nat) (s : State) : State :=
  if a / 0x1000 = 6 ∧ (digWinReg s (a % 0x1000)).isSome then digWinWrite true (a % 0x1000) v s else s

/-- A 32-bit write at address `a` of function `fn` (R35): a reserved offset or an absent region's window is counted under
NOTE. -/
def writeReg (fn a v : Nat) (s : State) : State :=
  if skanelBase ≤ a then skanelWrite (a - skanelBase) v s
  else if (readReg s fn a).isNone then noteBadAccess s
  else if cfgBase ≤ a then configWrite fn (a - cfgBase) v s
  else if bar2Base ≤ a then bar2Write fn (a - bar2Base) v s
  else if fn = 0 then pfWrite a v s else vfWrite fn a v s

/-- An aligned write of one register, or with `wide` of two, the lower address in bits [31:0] and first (R35). -/
def writeRegs (fn a : Nat) (wide : Bool) (v : Nat) (s : State) : State :=
  if a % (if wide then 8 else 4) ≠ 0 then noteBadAccess s
  else
    let s1 := writeReg fn a (v % 2 ^ 32) s
    if wide then writeReg fn (a + 4) (v / 2 ^ 32 % 2 ^ 32) s1 else s1

/-- REGISTER_WRITE (R8, R11, R34, R35, R110): a 32-bit or 64-bit write to BAR0, from `bar2Base` on to BAR2, of function `fn`; from
`cfgBase` on a write of its configuration space, which R110 does not turn away, and from `skanelBase` on one through the Skanel port. -/
def execRegisterWrite (fn a : Nat) (wide : Bool) (v : Nat) (s : State) : Host.Outcome State Fault Refusal :=
  .next (if skanelBase ≤ a then writeRegs fn a wide v s
    else if cfgBase ≤ a then (if s.reachable fn then writeRegs fn a wide v s else s) else s.gated fn (writeRegs fn a wide v s))

/-! ### Accesses that are turned away -/

/-- The access of `size` bytes at `a` lies outside R35: its size or alignment, or a reserved offset that it covers. -/
def badAt (s : State) (fn a size : Nat) : Bool :=
  !(size == 4 || size == 8) || a % size != 0 || (readReg s fn a).isNone || (size == 8 && (readReg s fn (a + 4)).isNone)

/-- What such a read returns: zero for a wrong size or alignment and for each reserved register. -/
def badValue (s : State) (fn a size : Nat) : Nat :=
  if a % size ≠ 0 then 0
  else if size = 4 then (readReg s fn a).getD 0
  else if size = 8 then (readReg s fn a).getD 0 + (readReg s fn (a + 4)).getD 0 * 2 ^ 32 else 0

/-- A read inside R35: its value, with what a read of the register does (R178, R181, R230, R251). The table has no row for it, so that it
stands under BAD.ACCESS (log 87). -/
def goodRead (fn a size : Nat) (s : State) : State :=
  if fn = 0 ∧ a = 0x6000 then digWinClaimAt false s
  else if fn = 0 ∧ a = 0x2000 then timNowReadAt s
  else if fn = 0 ∧ 0x1000000 ≤ a ∧ a < 0x1800000 ∧ a % 0x100000 / 0x1000 = 0x17 then
    slotInspectReadAt ((a - 0x1000000) / 0x100000) (a % 0x1000) s
  else
    let s1 := if fn = 0 ∧ a / 0x1000 = 6 ∧ s.digWin.owner = some false then s.modWin fun w => { w with lastAccess := s.tick } else s
    emit (.value (badValue s fn a size)) s1

/-- BAD_ACCESS (R35, R541): an access outside R35 is counted under NOTE; a write is ignored, and a read of a wrong size or of a
reserved range returns zero. An access that R110 turns away is counted too. -/
def execBadAccess (fn a size : Nat) (write : Bool) (s : State) : Host.Outcome State Fault Refusal :=
  let t := if badAt s fn a size then
      let s1 := noteBadAccess s
      if write then s1 else emit (.value (badValue s fn a size)) s1
    else if write then s else goodRead fn a size s
  .next (if write then s.gated fn t else s.gatedRead fn t)

end Sys2Proof.Machine
end

