-- ==== Sys2Proof/Machine/Tap.lean ====
section
/-! DEFINITION. The test access port (R491) and what a debug session reaches through it (R487-R490). Each row is one instruction with
its data register: what is shifted in is an operand, what is shifted out is emitted. -/

namespace Sys2Proof.Machine

/-- The TAP works: main power is present. -/
def tapOn (s : State) (t : State) : State := if s.pkg.mode.mainPower then t else s

/-- The instruction in force. -/
def tapIr (n : Nat) (s : State) : State := s.modLife fun l => { l with tapIr := n }

/-- The bypass register, one bit that captures 0: what is shifted in comes out one bit later. -/
def bypassed (tdi : List Byte) (s : State) : State := emit (.tdo (le tdi.length (2 * unle tdi))) s

/-- SAMPLE/PRELOAD: the levels on the pins are shifted out while the boundary register takes what is shifted in. -/
def sampled (pins tdi : List Byte) (s : State) : State := emit (.tdo pins) (s.modLife fun l => { l with boundary := tdi })

/-- An instruction of the EXTEST group: while PERST_N is high it acts as SAMPLE/PRELOAD and sets EXTEST_DENIED. -/
def extest (code : Nat) (act : State → State) (pins tdi : List Byte) (s : State) : State :=
  tapOn s (
    if s.pkg.perstHigh then sampled pins tdi ((tapIr code s).modLife fun l => { l with extestDenied := true })
    else act (tapIr code s))

/-- A vendor instruction of R491: where its condition fails it acts as BYPASS and sets DBG_DENIED. -/
def vendorOnly (code : Nat) (ok : Bool) (tdi : List Byte) (act : State → State) (s : State) : State :=
  tapOn s (
    if ok then act (tapIr code s) else bypassed tdi ((tapIr code s).modLife fun l => { l with dbgDenied := true }))

/-- A session is open with right `n` (R489). -/
def State.right (s : State) (n : Nat) : Bool := s.life.session.any fun d => bit d.rights n

/-- A session holds region `r`. -/
def State.holds (s : State) (r : Nat) : Bool := s.life.session.any fun d => bit d.held r

/-- A cell or pan controller of a held region (R489). -/
def State.holdsCore (s : State) (c : CoreId) : Bool :=
  match c with
  | .steward _ => false
  | .skanel => false
  | _ => c.region.any s.holds

/-! ### Public instructions -/

/-- EXTEST: the pins are driven from the boundary register, and their levels captured. -/
def execTapExtest (pins tdi : List Byte) (s : State) : Host.Outcome State Fault Refusal :=
  .next (extest 0x00 (sampled pins tdi) pins tdi s)

/-- SAMPLE/PRELOAD. -/
def execTapSamplePreload (pins tdi : List Byte) (s : State) : Host.Outcome State Fault Refusal :=
  .next (tapOn s (sampled pins tdi (tapIr 0x01 s)))

/-- The IDCODE value (R491). -/
def idcode (s : State) : Nat :=
  s.pkg.fuses.revision % 16 * 2 ^ 28 + s.device * 2 ^ 12 + Config.jedecId % 2 ^ 11 * 2 + 1

/-- IDCODE. -/
def execTapIdcode (s : State) : Host.Outcome State Fault Refusal := .next (tapOn s (emit (.tdo (le 4 (idcode s))) (tapIr 0x02 s)))

/-- HIGHZ: the pins are released and the bypass register is selected. -/
def execTapHighz (pins tdi : List Byte) (s : State) : Host.Outcome State Fault Refusal :=
  .next (extest 0x03 (bypassed tdi) pins tdi s)

/-- CLAMP: the pins keep the levels of the boundary register and the bypass register is selected. -/
def execTapClamp (pins tdi : List Byte) (s : State) : Host.Outcome State Fault Refusal :=
  .next (extest 0x04 (bypassed tdi) pins tdi s)

/-- EXTEST_PULSE (IEEE 1149.6). -/
def execTapExtestPulse (pins tdi : List Byte) (s : State) : Host.Outcome State Fault Refusal :=
  .next (extest 0x05 (sampled pins tdi) pins tdi s)

/-- EXTEST_TRAIN (IEEE 1149.6). -/
def execTapExtestTrain (pins tdi : List Byte) (s : State) : Host.Outcome State Fault Refusal :=
  .next (extest 0x06 (sampled pins tdi) pins tdi s)

/-- The value of LC_STATUS (R491). -/
def lcStatus (s : State) : Nat :=
  s.pkg.fuses.unit % 2 ^ 64 + s.lcState * 2 ^ 64 + s.life.otp.lcCount * 2 ^ 67 + s.life.otp.dbgCount * 2 ^ 76 +
    flag s.life.session.isSome 83 + s.life.dbgAuth * 2 ^ 84

/-- LC_STATUS. -/
def execTapLcStatus (s : State) : Host.Outcome State Fault Refusal := .next (tapOn s (emit (.tdo (le 16 (lcStatus s))) (tapIr 0x10 s)))

/-- BYPASS, and every unlisted code. -/
def execTapBypass (tdi : List Byte) (s : State) : Host.Outcome State Fault Refusal :=
  .next (tapOn s (bypassed tdi (tapIr 0xFF s)))

/-! ### Sessions (R488, R490) -/

/-- Check a debug request shifted in, and start its session. -/
def debugAuth (b : List Byte) (s : State) : State :=
  match (debugChecks s b s.tick s.time.quality.code).findSome? id with
  | some st => s.modLife fun l => { l with dbgAuth := st.code }
  | none => startSession none (debugAsk b) s

/-- DBG_AUTH: a certificate in OWNED, the 4-byte body in CLEARED. -/
def execTapDbgAuth (b : List Byte) (s : State) : Host.Outcome State Fault Refusal :=
  .next (vendorOnly 0x20 (s.lcState == 3 || s.lcState == 4) b (debugAuth b) s)

/-- DBG_CLOSE. -/
def execTapDbgClose (s : State) : Host.Outcome State Fault Refusal :=
  .next (vendorOnly 0x21 s.life.session.isSome [] closeSession s)

/-! ### What a session reaches (R489) -/

/-- The right that a space needs, and for local and slot memory a held region. -/
def spaceOk (s : State) (x : DbgSpace) : Bool :=
  match x with
  | .register _ _ => s.right 2
  | .bittern _ _ => s.right 1
  | .slotRecord _ _ _ => s.right 1
  | .store _ _ _ _ => s.right 4
  | .localMem c _ _ => s.right 4 && c.isC && s.holdsCore c
  | .slotMem r _ _ _ => s.right 4 && s.holds r

/-- Mailbox buffers are no registers. -/
def mailboxBuffer (fn a : Nat) : Bool :=
  if fn = 0 then decide (0x100000 ≤ a) && decide (a < 0x102000) else decide (0x1000 ≤ a) && decide (a < 0x2000)

/-- A byte of a control store as its read-only window shows it (R393): the customer packages, and vendor words elsewhere. -/
def storeAt (s : State) (o : Nat) : Byte :=
  match (s.cust.pkgs.map (·.2)).findSome? fun p => p.word? (o / 16) with
  | some w => BitVec.ofNat 8 (bits w 159 32 / 2 ^ (8 * (o % 16)))
  | none => Config.vendorStore (0x1000000 + o)

/-- The bytes that DBG_READ shifts out. The slots of a held region are zero-written at its dike (R417); where a routine of the session
keeps its operands there, the places it takes are not stated, and the bytes are free values. -/
def spaceBytes (x : DbgSpace) (s : State) : List Byte × State :=
  match x with
  | .register fn a => (le 4 (if mailboxBuffer fn a then 0 else (readReg s fn a).getD 0), s)
  | .bittern o n => (slice (btnImage s) o n, s)
  | .slotRecord k o n => (match tfind s.btn.slots k with
      | some b => slice b.record o n
      | none => zeros n, s)
  | .store r p o n =>
      if s.enabled r && decide (p < 4) then ((List.range n).map fun k => storeAt s (o + k), s) else (zeros n, s)
  | .localMem c o n => ((List.range n).map fun k => if o + k < c.lmemBytes then (s.core c).localByte (o + k) else 0, s)
  | .slotMem r _ _ n => if s.cust.runs.any fun y => y.core.region == some r then drawBytes n s else (zeros n, s)

/-- DBG_READ of a space, for which the session has the right. -/
def execTapDbgRead (x : DbgSpace) (s : State) : Host.Outcome State Fault Refusal :=
  .next (vendorOnly 0x22 (spaceOk s x) [] (fun s => let r := spaceBytes x s
    emit (.tdo r.1) r.2) s)

/-- DBG_WRITE of a register, in a session in CLEARED (R488). -/
def execTapDbgWrite (fn a v : Nat) (s : State) : Host.Outcome State Fault Refusal :=
  .next (vendorOnly 0x23 (s.life.session.isSome && s.lcState == 4) [] (writeRegs fn a false v) s)

/-- Carry out DBG_HALT on a core. -/
def debugHalt (c : CoreId) (o : DbgOp) (s : State) : State :=
  let k := s.core c
  match o with
  | .halt => s.modLife fun l => { l with halted := if l.halted.contains c then l.halted else l.halted ++ [c] }
  | .step => if s.life.halted.contains c && !s.life.steps.contains c then s.modLife fun l => { l with steps := l.steps ++ [c] } else s
  | .resume => s.modLife fun l =>
      { l with halted := l.halted.filter fun d => !(d == c), steps := l.steps.filter fun d => !(d == c) }
  | .readPc => emit (.tdo (le 8 k.pc)) s
  | .readG n => emit (.tdo (le 8 (k.rg n).toNat)) s
  | .readV n => emit (.tdo (le (c.vlen / 8) (k.rv n))) s
  | .readCtl n => emit (.tdo (le 8 (((ctlRead c k n).map (·.toNat)).getD 0))) s

/-- DBG_HALT of a cell or pan controller of a held region. -/
def execTapDbgHalt (c : CoreId) (o : DbgOp) (s : State) : Host.Outcome State Fault Refusal :=
  .next (vendorOnly 0x24 (s.right 0 && s.holdsCore c) [] (debugHalt c o) s)

/-- The kind of cell a routine runs on (R400). -/
def Routine.kind (r : Routine) : UnitKind :=
  match r.cell with
  | 1 => .lattice | 2 => .number | _ => .hash

/-- Run routine `n` on a free cell of a held region with data shifted in. -/
def debugRun (c : CoreId) (n : Nat) (args : List Byte) (ins : Tbl (List Byte)) (s : State) : State :=
  match s.routine? n, c.cell with
  | some (_, p, r), some (k, _) =>
    if k = r.kind ∧ (s.run? c).isNone then startRun none c p r args (tget (fun _ => []) ins) s else s
  | _, _ => s

/-- DBG_RUN in a session with TRACE_CUSTOM; what the routine releases is shifted out when it ends. -/
def execTapDbgRun (c : CoreId) (n : Nat) (args : List Byte) (ins : Tbl (List Byte)) (s : State) : Host.Outcome State Fault Refusal :=
  .next (vendorOnly 0x25 (s.right 3 && s.holdsCore c) [] (debugRun c n args ins) s)

/-! ### The vendor's test floor -/

/-- FT_SCAN: the chains shift out; the spec states neither their length nor their contents. -/
def execTapFtScan (tdi : List Byte) (s : State) : Host.Outcome State Fault Refusal :=
  .next (vendorOnly 0x30 (s.pkg.mode == .factoryTest) tdi (fun s => let r := drawBytes tdi.length s
    emit (.tdo r.1) r.2) s)

/-- FT_BIST: the built-in self-test runs and its result shifts out; the spec states neither its length nor its contents. -/
def execTapFtBist (tdi : List Byte) (s : State) : Host.Outcome State Fault Refusal :=
  .next (vendorOnly 0x31 (s.pkg.mode == .factoryTest) tdi (fun s => let r := drawBytes tdi.length s
    emit (.tdo r.1) r.2) s)

/-- Burn bits of a byte field: a burned bit stays (R475). -/
def burnBytes (n : Nat) (old new : List Byte) : List Byte := (List.zip (fit n old) (fit n new)).map fun e => e.1 ||| e.2

/-- The fields that FACTORY burns (R475), and the stage where it was BLANK. -/
def fuseBurn (x : FuseIn) (s : State) : State :=
  (s.modOtp fun o =>
    { o with stage := max 1 o.stage, pufHelper := true, vendorLc := burnBytes 48 o.vendorLc x.vendorLc,
             vendorImg := burnBytes 48 o.vendorImg x.vendorImg, imgPolicy := o.imgPolicy ||| x.imgPolicy % 4 }).modPkg fun p =>
    { p with fuses := { p.fuses with
        unit := p.fuses.unit ||| x.unit % 2 ^ 64, enabled := p.fuses.enabled ||| x.regionEn % 256 } }

/-- FT_FUSE: BLANK to FACTORY, and burns in FACTORY_TEST (R475, R477). -/
def execTapFtFuse (x : FuseIn) (s : State) : Host.Outcome State Fault Refusal :=
  .next (vendorOnly 0x32 (s.pkg.mode == .factoryTest || s.lcState == 0) [] (fuseBurn x) s)

end Sys2Proof.Machine
end

