-- ==== Sys2Proof/Machine/Dispatch.lean ====
section
/-! DEFINITION. Dispatch: one arm per command of the block, each one direct call of its meaning. -/

namespace Sys2Proof.Machine

def exec (i : Instr) (s : State) : Host.Outcome State Fault Refusal :=
  match i with
  | .sysNop j => Sys2Proof.Machine.execSysNop j s
  | .sysFeatures j => Sys2Proof.Machine.execSysFeatures j s
  | .sysStandby j => Sys2Proof.Machine.execSysStandby j s
  | .keyGenerate j => Sys2Proof.Machine.execKeyGenerate j s
  | .keyImport j => Sys2Proof.Machine.execKeyImport j s
  | .keyDerive j => Sys2Proof.Machine.execKeyDerive j s
  | .keyLoad j => Sys2Proof.Machine.execKeyLoad j s
  | .keyEvict j => Sys2Proof.Machine.execKeyEvict j s
  | .keyDelete j => Sys2Proof.Machine.execKeyDelete j s
  | .keyPinPublic j => Sys2Proof.Machine.execKeyPinPublic j s
  | .keyAttest j => Sys2Proof.Machine.execKeyAttest j s
  | .keyList j => Sys2Proof.Machine.execKeyList j s
  | .keyIdentity j => Sys2Proof.Machine.execKeyIdentity j s
  | .keyTransfer j => Sys2Proof.Machine.execKeyTransfer j s
  | .keyUpdate j => Sys2Proof.Machine.execKeyUpdate j s
  | .kemMlkemEncaps j => Sys2Proof.Machine.execKemMlkemEncaps j s
  | .kemMlkemDecaps j => Sys2Proof.Machine.execKemMlkemDecaps j s
  | .kemHybEncaps j => Sys2Proof.Machine.execKemHybEncaps j s
  | .kemHybDecaps j => Sys2Proof.Machine.execKemHybDecaps j s
  | .kemRsaEncrypt j => Sys2Proof.Machine.execKemRsaEncrypt j s
  | .kemRsaDecrypt j => Sys2Proof.Machine.execKemRsaDecrypt j s
  | .kemEcdh j => Sys2Proof.Machine.execKemEcdh j s
  | .kemMceEncaps j => Sys2Proof.Machine.execKemMceEncaps j s
  | .kemMceDecaps j => Sys2Proof.Machine.execKemMceDecaps j s
  | .kemHqcEncaps j => Sys2Proof.Machine.execKemHqcEncaps j s
  | .kemHqcDecaps j => Sys2Proof.Machine.execKemHqcDecaps j s
  | .sigMldsaSign j => Sys2Proof.Machine.execSigMldsaSign j s
  | .sigMldsaVerify j => Sys2Proof.Machine.execSigMldsaVerify j s
  | .sigFndsaVerify j => Sys2Proof.Machine.execSigFndsaVerify j s
  | .sigCompSign j => Sys2Proof.Machine.execSigCompSign j s
  | .sigCompVerify j => Sys2Proof.Machine.execSigCompVerify j s
  | .sigSlhdsaSign j => Sys2Proof.Machine.execSigSlhdsaSign j s
  | .sigSlhdsaVerify j => Sys2Proof.Machine.execSigSlhdsaVerify j s
  | .sigLmsSign j => Sys2Proof.Machine.execSigLmsSign j s
  | .lmsReservationComplete id => Sys2Proof.Machine.execLmsReservationComplete id s
  | .sigLmsVerify j => Sys2Proof.Machine.execSigLmsVerify j s
  | .sigXmssVerify j => Sys2Proof.Machine.execSigXmssVerify j s
  | .sigRsaSign j => Sys2Proof.Machine.execSigRsaSign j s
  | .sigRsaVerify j => Sys2Proof.Machine.execSigRsaVerify j s
  | .sigEcdsaSign j => Sys2Proof.Machine.execSigEcdsaSign j s
  | .sigEcdsaVerify j => Sys2Proof.Machine.execSigEcdsaVerify j s
  | .sigEddsaSign j => Sys2Proof.Machine.execSigEddsaSign j s
  | .sigEddsaVerify j => Sys2Proof.Machine.execSigEddsaVerify j s
  | .digHash j => Sys2Proof.Machine.execDigHash j s
  | .digMac j => Sys2Proof.Machine.execDigMac j s
  | .digMacVerify j => Sys2Proof.Machine.execDigMacVerify j s
  | .digKdf j => Sys2Proof.Machine.execDigKdf j s
  | .symAeadEncrypt j => Sys2Proof.Machine.execSymAeadEncrypt j s
  | .symAeadDecrypt j => Sys2Proof.Machine.execSymAeadDecrypt j s
  | .symCipherEncrypt j => Sys2Proof.Machine.execSymCipherEncrypt j s
  | .symCipherDecrypt j => Sys2Proof.Machine.execSymCipherDecrypt j s
  | .symMac j => Sys2Proof.Machine.execSymMac j s
  | .symMacVerify j => Sys2Proof.Machine.execSymMacVerify j s
  | .symWrap j => Sys2Proof.Machine.execSymWrap j s
  | .symUnwrap j => Sys2Proof.Machine.execSymUnwrap j s
  | .rngGenerate j => Sys2Proof.Machine.execRngGenerate j s
  | .rngKat j => Sys2Proof.Machine.execRngKat j s
  | .rngRaw j => Sys2Proof.Machine.execRngRaw j s
  | .frmSend j => Sys2Proof.Machine.execFrmSend j s
  | .frmSendEgress j => Sys2Proof.Machine.execFrmSendEgress j s
  | .frmSubscribe j => Sys2Proof.Machine.execFrmSubscribe j s
  | .frmUnsubscribe j => Sys2Proof.Machine.execFrmUnsubscribe j s
  | .frmPortSet j => Sys2Proof.Machine.execFrmPortSet j s
  | .frmStreamSet j => Sys2Proof.Machine.execFrmStreamSet j s
  | .frmStreamClear j => Sys2Proof.Machine.execFrmStreamClear j s
  | .frmKeySet j => Sys2Proof.Machine.execFrmKeySet j s
  | .frmStreamRelease j => Sys2Proof.Machine.execFrmStreamRelease j s
  | .frmStreamStatus j => Sys2Proof.Machine.execFrmStreamStatus j s
  | .frmHarvestSet j => Sys2Proof.Machine.execFrmHarvestSet j s
  | .frmHarvestStatus j => Sys2Proof.Machine.execFrmHarvestStatus j s
  | .timeRead j => Sys2Proof.Machine.execTimeRead j s
  | .timeSet j => Sys2Proof.Machine.execTimeSet j s
  | .jrnlRead j => Sys2Proof.Machine.execJrnlRead j s
  | .jrnlCheckpoint j => Sys2Proof.Machine.execJrnlCheckpoint j s
  | .jrnlMirrorSet j => Sys2Proof.Machine.execJrnlMirrorSet j s
  | .jrnlBtnRead j => Sys2Proof.Machine.execJrnlBtnRead j s
  | .jrnlBtnList j => Sys2Proof.Machine.execJrnlBtnList j s
  | .regnTakeOut j => Sys2Proof.Machine.execRegnTakeOut j s
  | .regnReturn j => Sys2Proof.Machine.execRegnReturn j s
  | .regnReserveWarm j => Sys2Proof.Machine.execRegnReserveWarm j s
  | .mgmtFwWrite j => Sys2Proof.Machine.execMgmtFwWrite j s
  | .mgmtFwVerify j => Sys2Proof.Machine.execMgmtFwVerify j s
  | .mgmtFwActivate j => Sys2Proof.Machine.execMgmtFwActivate j s
  | .mgmtFirstHeartbeat => Sys2Proof.Machine.execMgmtFirstHeartbeat s
  | .activationFallback bad => Sys2Proof.Machine.execActivationFallback bad s
  | .regionRollStep ms full => Sys2Proof.Machine.execRegionRollStep ms full s
  | .mgmtFwCommit j => Sys2Proof.Machine.execMgmtFwCommit j s
  | .mgmtFwStatus j => Sys2Proof.Machine.execMgmtFwStatus j s
  | .mgmtSensors j => Sys2Proof.Machine.execMgmtSensors j s
  | .updateAgentTimeout => Sys2Proof.Machine.execUpdateAgentTimeout s
  | .pldmQueryDeviceIdentifiers pcie => Sys2Proof.Machine.execPldmQueryDeviceIdentifiers pcie s
  | .pldmGetFirmwareParameters pcie => Sys2Proof.Machine.execPldmGetFirmwareParameters pcie s
  | .pldmRequestUpdate pcie => Sys2Proof.Machine.execPldmRequestUpdate pcie s
  | .pldmPassComponentTable pcie last => Sys2Proof.Machine.execPldmPassComponentTable pcie last s
  | .pldmUpdateComponent pcie kind size => Sys2Proof.Machine.execPldmUpdateComponent pcie kind size s
  | .pldmRequestFirmwareData pcie data => Sys2Proof.Machine.execPldmRequestFirmwareData pcie data s
  | .pldmTransferComplete pcie => Sys2Proof.Machine.execPldmTransferComplete pcie s
  | .pldmVerifyComplete pcie => Sys2Proof.Machine.execPldmVerifyComplete pcie s
  | .pldmApplyComplete pcie => Sys2Proof.Machine.execPldmApplyComplete pcie s
  | .pldmActivateFirmware pcie => Sys2Proof.Machine.execPldmActivateFirmware pcie s
  | .pldmGetStatus pcie => Sys2Proof.Machine.execPldmGetStatus pcie s
  | .pldmCancelUpdateComponent pcie => Sys2Proof.Machine.execPldmCancelUpdateComponent pcie s
  | .pldmCancelUpdate pcie => Sys2Proof.Machine.execPldmCancelUpdate pcie s
  | .spdmRequest doe x => Sys2Proof.Machine.execSpdmRequest doe x s
  | .mctpControlMessage pcie eid msg => Sys2Proof.Machine.execMctpControlMessage pcie eid msg s
  | .mctpFaultAck session fseq => Sys2Proof.Machine.execMctpFaultAck session fseq s
  | .sidebandSummaryRead => Sys2Proof.Machine.execSidebandSummaryRead s
  | .lifeStatus j => Sys2Proof.Machine.execLifeStatus j s
  | .lifeTransition j cut => Sys2Proof.Machine.execLifeTransition j cut s
  | .lifeDebugOpen j => Sys2Proof.Machine.execLifeDebugOpen j s
  | .lifeDebugClose j => Sys2Proof.Machine.execLifeDebugClose j s
  | .debugWindowEnd => Sys2Proof.Machine.execDebugWindowEnd s
  | .tampTest j responds => Sys2Proof.Machine.execTampTest j responds s
  | .tampErase j => Sys2Proof.Machine.execTampErase j s
  | .cardStatus j => Sys2Proof.Machine.execCardStatus j s
  | .cardFormat j => Sys2Proof.Machine.execCardFormat j s
  | .cardExport j => Sys2Proof.Machine.execCardExport j s
  | .cardList j => Sys2Proof.Machine.execCardList j s
  | .cardImportKum j => Sys2Proof.Machine.execCardImportKum j s
  | .custRun j => Sys2Proof.Machine.execCustRun j s
  | .custLoad j => Sys2Proof.Machine.execCustLoad j s
  | .custUnload j => Sys2Proof.Machine.execCustUnload j s
  | .custList j => Sys2Proof.Machine.execCustList j s
  | .custPartitionReload r p => Sys2Proof.Machine.execCustPartitionReload r p s
  | .mailboxDoorbell ii v => Sys2Proof.Machine.execMailboxDoorbell ii v s
  | .mailboxBufferWrite ii o v => Sys2Proof.Machine.execMailboxBufferWrite ii o v s
  | .mailboxRequestDone ii => Sys2Proof.Machine.execMailboxRequestDone ii s
  | .mailboxHoldRelease j => Sys2Proof.Machine.execMailboxHoldRelease j s
  | .sqEnable ii q => Sys2Proof.Machine.execSqEnable ii q s
  | .cqEnable ii c => Sys2Proof.Machine.execCqEnable ii c s
  | .sqDoorbell ii q v => Sys2Proof.Machine.execSqDoorbell ii q v s
  | .cqDoorbell ii c v => Sys2Proof.Machine.execCqDoorbell ii c v s
  | .queueFetch ans => Sys2Proof.Machine.execQueueFetch ans s
  | .jseqReserveComplete => Sys2Proof.Machine.execJseqReserveComplete s
  | .jobSend j => Sys2Proof.Machine.execJobSend j s
  | .regionAck j => Sys2Proof.Machine.execRegionAck j s
  | .jobDispatch j => Sys2Proof.Machine.execJobDispatch j s
  | .panWakeComplete r p => Sys2Proof.Machine.execPanWakeComplete r p s
  | .panAdmit r p => Sys2Proof.Machine.execPanAdmit r p s
  | .powerSample mw => Sys2Proof.Machine.execPowerSample mw s
  | .resourceFreedDispatch j => Sys2Proof.Machine.execResourceFreedDispatch j s
  | .shelfMissBlobArrival j blob => Sys2Proof.Machine.execShelfMissBlobArrival j blob s
  | .crystallizerFillComplete r => Sys2Proof.Machine.execCrystallizerFillComplete r s
  | .jobYield j => Sys2Proof.Machine.execJobYield j s
  | .digestQuantumExpiry j => Sys2Proof.Machine.execDigestQuantumExpiry j s
  | .numberQuantumExpiry j => Sys2Proof.Machine.execNumberQuantumExpiry j s
  | .symQuantumExpiry j => Sys2Proof.Machine.execSymQuantumExpiry j s
  | .jobResume j => Sys2Proof.Machine.execJobResume j s
  | .releaseCheckDone j pass => Sys2Proof.Machine.execReleaseCheckDone j pass s
  | .jobResultReturn j => Sys2Proof.Machine.execJobResultReturn j s
  | .batchTimerExpiry => Sys2Proof.Machine.execBatchTimerExpiry s
  | .coalesceTimerExpiry ii c => Sys2Proof.Machine.execCoalesceTimerExpiry ii c s
  | .checkpointDue => Sys2Proof.Machine.execCheckpointDue s
  | .checkpointSigned => Sys2Proof.Machine.execCheckpointSigned s
  | .flrStart ii => Sys2Proof.Machine.execFlrStart ii s
  | .regionGenerationReport ii r => Sys2Proof.Machine.execRegionGenerationReport ii r s
  | .wrapDrainTimeout ii => Sys2Proof.Machine.execWrapDrainTimeout ii s
  | .flrComplete ii => Sys2Proof.Machine.execFlrComplete ii s
  | .pcieHotReset => Sys2Proof.Machine.execPcieHotReset s
  | .vfEnableSet n => Sys2Proof.Machine.execVfEnableSet n s
  | .vfEnableClear => Sys2Proof.Machine.execVfEnableClear s
  | .atsInvalidationRequest ii page size => Sys2Proof.Machine.execAtsInvalidationRequest ii page size s
  | .ideStreamFailure n => Sys2Proof.Machine.execIdeStreamFailure n s
  | .instAdmReassign ii => Sys2Proof.Machine.execInstAdmReassign ii s
  | .instAdmClrEnergy ii => Sys2Proof.Machine.execInstAdmClrEnergy ii s
  | .instAdmQuotaWrite ii w v => Sys2Proof.Machine.execInstAdmQuotaWrite ii w v s
  | .instAdmCfgWrite ii v => Sys2Proof.Machine.execInstAdmCfgWrite ii v s
  | .instXlatClr ii => Sys2Proof.Machine.execInstXlatClr ii s
  | .vltHcapWrite v => Sys2Proof.Machine.execVltHcapWrite v s
  | .slotLenWrite r p v => Sys2Proof.Machine.execSlotLenWrite r p v s
  | .slotLengthApply r p => Sys2Proof.Machine.execSlotLengthApply r p s
  | .slotInspectRead r offset => Sys2Proof.Machine.execSlotInspectRead r offset s
  | .clrCounts r shelf => Sys2Proof.Machine.execClrCounts r shelf s
  | .digWinClaim firmware => Sys2Proof.Machine.execDigWinClaim firmware s
  | .digWinData firmware part v => Sys2Proof.Machine.execDigWinData firmware part v s
  | .digWinLast firmware valid token => Sys2Proof.Machine.execDigWinLast firmware valid token s
  | .digWinRelease firmware token => Sys2Proof.Machine.execDigWinRelease firmware token s
  | .digWinTimeout => Sys2Proof.Machine.execDigWinTimeout s
  | .timNowRead => Sys2Proof.Machine.execTimNowRead s
  | .timCfgWrite v => Sys2Proof.Machine.execTimCfgWrite v s
  | .timeAlarmFire b => Sys2Proof.Machine.execTimeAlarmFire b s
  | .sourceQualified x => Sys2Proof.Machine.execSourceQualified x s
  | .sourceLost x => Sys2Proof.Machine.execSourceLost x s
  | .lockAchieved => Sys2Proof.Machine.execLockAchieved s
  | .holdoverExpiry => Sys2Proof.Machine.execHoldoverExpiry s
  | .ptpMessageReceive p domain msg interval off err utc l61 l59 => Sys2Proof.Machine.execPtpMessageReceive p domain msg interval off err utc l61 l59 s
  | .irigFrameReceive ok off err utc l61 l59 => Sys2Proof.Machine.execIrigFrameReceive ok off err utc l61 l59 s
  | .ppsInEdge => Sys2Proof.Machine.execPpsInEdge s
  | .leapSecondBoundary => Sys2Proof.Machine.execLeapSecondBoundary s
  | .ppsOutPulse => Sys2Proof.Machine.execPpsOutPulse s
  | .frameReceive p b fcs fault => Sys2Proof.Machine.execFrameReceive p b fcs fault s
  | .frameEgress p => Sys2Proof.Machine.execFrameEgress p s
  | .streamSilenceExpiry n => Sys2Proof.Machine.execStreamSilenceExpiry n s
  | .rateSecondBoundary => Sys2Proof.Machine.execRateSecondBoundary s
  | .quarantineHoldExpiry n => Sys2Proof.Machine.execQuarantineHoldExpiry n s
  | .timeAllowedToLiveExpiry n => Sys2Proof.Machine.execTimeAllowedToLiveExpiry n s
  | .frameRingEnable ii n v => Sys2Proof.Machine.execFrameRingEnable ii n v s
  | .frameRingDoorbell ii n v => Sys2Proof.Machine.execFrameRingDoorbell ii n v s
  | .harvestWindowClose n => Sys2Proof.Machine.execHarvestWindowClose n s
  | .harvestSealDone n w => Sys2Proof.Machine.execHarvestSealDone n w s
  | .harvestVerifyDone n => Sys2Proof.Machine.execHarvestVerifyDone n s
  | .assemblyTimeout n => Sys2Proof.Machine.execAssemblyTimeout n s
  | .pendingFrameTimeout n => Sys2Proof.Machine.execPendingFrameTimeout n s
  | .noiseWindowComplete r rct apt => Sys2Proof.Machine.execNoiseWindowComplete r rct apt s
  | .seedConditioned r => Sys2Proof.Machine.execSeedConditioned r s
  | .reseedDue r => Sys2Proof.Machine.execReseedDue r s
  | .expanderGenerate r => Sys2Proof.Machine.execExpanderGenerate r s
  | .randomDrawServed r => Sys2Proof.Machine.execRandomDrawServed r s
  | .randomDrawTimeout j => Sys2Proof.Machine.execRandomDrawTimeout j s
  | .donorSeedWrap asker => Sys2Proof.Machine.execDonorSeedWrap asker s
  | .borrowedSeedArrival r ok => Sys2Proof.Machine.execBorrowedSeedArrival r ok s
  | .seedRequestRetry r => Sys2Proof.Machine.execSeedRequestRetry r s
  | .borrowAdvanceDue r => Sys2Proof.Machine.execBorrowAdvanceDue r s
  | .sourceRestartDone r pass => Sys2Proof.Machine.execSourceRestartDone r pass s
  | .rngStartupComplete r => Sys2Proof.Machine.execRngStartupComplete r s
  | .maskSeedArrival r p => Sys2Proof.Machine.execMaskSeedArrival r p s
  | .maskStreamLockstepFault r p => Sys2Proof.Machine.execMaskStreamLockstepFault r p s
  | .rootReady => Sys2Proof.Machine.execRootReady s
  | .eccError a corrected => Sys2Proof.Machine.execEccError a corrected s
  | .dupMismatch r k n pair => Sys2Proof.Machine.execDupMismatch r k n pair s
  | .seqCheckFault r k n => Sys2Proof.Machine.execSeqCheckFault r k n s
  | .panWatchdogTrip r p => Sys2Proof.Machine.execPanWatchdogTrip r p s
  | .selfTestResult q pass => Sys2Proof.Machine.execSelfTestResult q pass s
  | .sluiceExpiry q => Sys2Proof.Machine.execSluiceExpiry q s
  | .fltAck hi => Sys2Proof.Machine.execFltAck hi s
  | .fltInject v => Sys2Proof.Machine.execFltInject v s
  | .disturbance u => Sys2Proof.Machine.execDisturbance u s
  | .disturbanceClear u ns => Sys2Proof.Machine.execDisturbanceClear u ns s
  | .tamperAlarm us partner => Sys2Proof.Machine.execTamperAlarm us partner s
  | .eraseEvidenceBurn => Sys2Proof.Machine.execEraseEvidenceBurn s
  | .zeroizeNAssert ns => Sys2Proof.Machine.execZeroizeNAssert ns s
  | .tampInAssert n high ns => Sys2Proof.Machine.execTampInAssert n high ns s
  | .monitorStimulation responds => Sys2Proof.Machine.execMonitorStimulation responds s
  | .vbatLow mv => Sys2Proof.Machine.execVbatLow mv s
  | .pwrgdMainRise straps b => Sys2Proof.Machine.execPwrgdMainRise straps b s
  | .pwrgdMainFall => Sys2Proof.Machine.execPwrgdMainFall s
  | .pwrgdAonFall => Sys2Proof.Machine.execPwrgdAonFall s
  | .perstNAssert b => Sys2Proof.Machine.execPerstNAssert b s
  | .vbatApplied => Sys2Proof.Machine.execVbatApplied s
  | .vbatLost => Sys2Proof.Machine.execVbatLost s
  | .wakeNLow ns b => Sys2Proof.Machine.execWakeNLow ns b s
  | .pcieLinkWake b => Sys2Proof.Machine.execPcieLinkWake b s
  | .selfTestComplete apex => Sys2Proof.Machine.execSelfTestComplete apex s
  | .regionDrained r => Sys2Proof.Machine.execRegionDrained r s
  | .drainTimeout r => Sys2Proof.Machine.execDrainTimeout r s
  | .regionTestingDone r pass => Sys2Proof.Machine.execRegionTestingDone r pass s
  | .regionLoadingDone r oks => Sys2Proof.Machine.execRegionLoadingDone r oks s
  | .regionRejoinDone r => Sys2Proof.Machine.execRegionRejoinDone r s
  | .pointWrite r v => Sys2Proof.Machine.execPointWrite r v s
  | .pointSwitchDone r mv ok => Sys2Proof.Machine.execPointSwitchDone r mv ok s
  | .panIdleTimeout r p => Sys2Proof.Machine.execPanIdleTimeout r p s
  | .panNapTimeout r p => Sys2Proof.Machine.execPanNapTimeout r p s
  | .linkRetry r => Sys2Proof.Machine.execLinkRetry r s
  | .linkLaneFailure r m => Sys2Proof.Machine.execLinkLaneFailure r m s
  | .rakePass r finished err => Sys2Proof.Machine.execRakePass r finished err s
  | .agingEvaluation r target slack ok => Sys2Proof.Machine.execAgingEvaluation r target slack ok s
  | .thermalThreshold die level up => Sys2Proof.Machine.execThermalThreshold die level up s
  | .heartbeatLapse => Sys2Proof.Machine.execHeartbeatLapse s
  | .watchdogReset => Sys2Proof.Machine.execWatchdogReset s
  | .skanelLockstepMismatch => Sys2Proof.Machine.execSkanelLockstepMismatch s
  | .bitternSlotWritten => Sys2Proof.Machine.execBitternSlotWritten s
  | .cardInsert ns blocks hdr recs init mode phase => Sys2Proof.Machine.execCardInsert ns blocks hdr recs init mode phase s
  | .cardRemove ns => Sys2Proof.Machine.execCardRemove ns s
  | .cardEject => Sys2Proof.Machine.execCardEject s
  | .cardBusyEnd => Sys2Proof.Machine.execCardBusyEnd s
  | .cardBusyTimeout => Sys2Proof.Machine.execCardBusyTimeout s
  | .badAccess fn a size write => Sys2Proof.Machine.execBadAccess fn a size write s
  | .registerWrite fn a wide v => Sys2Proof.Machine.execRegisterWrite fn a wide v s
  | .kInterruptEntry c n => Sys2Proof.Machine.execKInterruptEntry c n s
  | .custYield c => Sys2Proof.Machine.execCustYield c s
  | .safePointWatchdogTrip c maxUs => Sys2Proof.Machine.execSafePointWatchdogTrip c maxUs s
  | .seqStep c => Sys2Proof.Machine.execSeqStep c s
  | .seqBranch c => Sys2Proof.Machine.execSeqBranch c s
  | .seqCall c => Sys2Proof.Machine.execSeqCall c s
  | .seqRet c => Sys2Proof.Machine.execSeqRet c s
  | .seqRun c => Sys2Proof.Machine.execSeqRun c s
  | .seqEnd c => Sys2Proof.Machine.execSeqEnd c s
  | .seqFail c => Sys2Proof.Machine.execSeqFail c s
  | .kAluOp c stall w => Sys2Proof.Machine.execKAluOp c stall w s
  | .kMulU c stall w => Sys2Proof.Machine.execKMulU c stall w s
  | .kMulS c stall w => Sys2Proof.Machine.execKMulS c stall w s
  | .kMacU c stall w => Sys2Proof.Machine.execKMacU c stall w s
  | .kLd c stall w => Sys2Proof.Machine.execKLd c stall w s
  | .kSt c stall w => Sys2Proof.Machine.execKSt c stall w s
  | .kLda c stall w => Sys2Proof.Machine.execKLda c stall w s
  | .kSta c stall w => Sys2Proof.Machine.execKSta c stall w s
  | .kBranch c stall w => Sys2Proof.Machine.execKBranch c stall w s
  | .kJmp c stall w => Sys2Proof.Machine.execKJmp c stall w s
  | .kCall c stall w => Sys2Proof.Machine.execKCall c stall w s
  | .kJmpr c stall w => Sys2Proof.Machine.execKJmpr c stall w s
  | .kCallr c stall w => Sys2Proof.Machine.execKCallr c stall w s
  | .kRet c stall w => Sys2Proof.Machine.execKRet c stall w s
  | .kLoop c stall w => Sys2Proof.Machine.execKLoop c stall w s
  | .kRep c stall w w2 => Sys2Proof.Machine.execKRep c stall w w2 s
  | .kRepi c stall w w2 => Sys2Proof.Machine.execKRepi c stall w w2 s
  | .kFpOp c stall w => Sys2Proof.Machine.execKFpOp c stall w s
  | .kPackedOp c stall w => Sys2Proof.Machine.execKPackedOp c stall w s
  | .kFldD c stall w => Sys2Proof.Machine.execKFldD c stall w s
  | .kFstD c stall w => Sys2Proof.Machine.execKFstD c stall w s
  | .kSetvl c stall w => Sys2Proof.Machine.execKSetvl c stall w s
  | .kVectorArith c stall w => Sys2Proof.Machine.execKVectorArith c stall w s
  | .kVld c stall w => Sys2Proof.Machine.execKVld c stall w s
  | .kVldFirstFault c stall w => Sys2Proof.Machine.execKVldFirstFault c stall w s
  | .kVst c stall w => Sys2Proof.Machine.execKVst c stall w s
  | .kVectorMove c stall w => Sys2Proof.Machine.execKVectorMove c stall w s
  | .kDatapathCommand c stall w => Sys2Proof.Machine.execKDatapathCommand c stall w s
  | .kCtlrd c stall w => Sys2Proof.Machine.execKCtlrd c stall w s
  | .kCtlwr c stall w => Sys2Proof.Machine.execKCtlwr c stall w s
  | .kCtlset c stall w => Sys2Proof.Machine.execKCtlset c stall w s
  | .kCtlclr c stall w => Sys2Proof.Machine.execKCtlclr c stall w s
  | .kFence c stall w => Sys2Proof.Machine.execKFence c stall w s
  | .kWfi c stall w => Sys2Proof.Machine.execKWfi c stall w s
  | .kRete c stall w => Sys2Proof.Machine.execKRete c stall w s
  | .kTrap c stall w => Sys2Proof.Machine.execKTrap c stall w s
  | .kBreak c stall w => Sys2Proof.Machine.execKBreak c stall w s
  | .kPairedWord c stall w => Sys2Proof.Machine.execKPairedWord c stall w s
  | .tapExtest pins tdi => Sys2Proof.Machine.execTapExtest pins tdi s
  | .tapSamplePreload pins tdi => Sys2Proof.Machine.execTapSamplePreload pins tdi s
  | .tapIdcode => Sys2Proof.Machine.execTapIdcode s
  | .tapHighz pins tdi => Sys2Proof.Machine.execTapHighz pins tdi s
  | .tapClamp pins tdi => Sys2Proof.Machine.execTapClamp pins tdi s
  | .tapExtestPulse pins tdi => Sys2Proof.Machine.execTapExtestPulse pins tdi s
  | .tapExtestTrain pins tdi => Sys2Proof.Machine.execTapExtestTrain pins tdi s
  | .tapLcStatus => Sys2Proof.Machine.execTapLcStatus s
  | .tapDbgAuth b => Sys2Proof.Machine.execTapDbgAuth b s
  | .tapDbgClose => Sys2Proof.Machine.execTapDbgClose s
  | .tapDbgRead x => Sys2Proof.Machine.execTapDbgRead x s
  | .tapDbgWrite fn a v => Sys2Proof.Machine.execTapDbgWrite fn a v s
  | .tapDbgHalt c o => Sys2Proof.Machine.execTapDbgHalt c o s
  | .tapDbgRun c n args ins => Sys2Proof.Machine.execTapDbgRun c n args ins s
  | .tapFtScan tdi => Sys2Proof.Machine.execTapFtScan tdi s
  | .tapFtBist tdi => Sys2Proof.Machine.execTapFtBist tdi s
  | .tapFtFuse x => Sys2Proof.Machine.execTapFtFuse x s
  | .tapBypass tdi => Sys2Proof.Machine.execTapBypass tdi s
  | .regionSramWiped r => Sys2Proof.Machine.execRegionSramWiped r s
  | .perstNDeassert => Sys2Proof.Machine.execPerstNDeassert s
  | .framePortLinkChange p up => Sys2Proof.Machine.execFramePortLinkChange p up s
  | .tcxoToleranceChange ok => Sys2Proof.Machine.execTcxoToleranceChange ok s
  | .lmsNextTreeReady id => Sys2Proof.Machine.execLmsNextTreeReady id s
  | .stimulationWindowEnd u alarm => Sys2Proof.Machine.execStimulationWindowEnd u alarm s
  | .errorPairPhaseToggle => Sys2Proof.Machine.execErrorPairPhaseToggle s
  | .hostMemoryCompletion u a => Sys2Proof.Machine.execHostMemoryCompletion u a s
  | .cardCommandResponse ok => Sys2Proof.Machine.execCardCommandResponse ok s
  | .digWinCompressionDone => Sys2Proof.Machine.execDigWinCompressionDone s

end Sys2Proof.Machine
end

