-- ==== Sys2Proof/Safety.lean ====
section
/-! DEFINITION. The words of the statements: when a command is at work, what it needs at hand, how it ends, and what a good state
is. -/

namespace Sys2Proof.Safety

open Sys2Proof.Machine

/-! ### Commands at work -/

/-- Command `j`, which is `c`, carries opcode `op`, is where its verb runs, and nothing holds it (R20, R64, R66, R67). -/
abbrev AtWork (op j : Nat) (c : Cmd) (s : State) : Prop :=
  s.cmd? j = some c ∧ c.job.opcode = op ∧ c.atWork = true ∧ s.held c = false ∧ s.repeated c.job = false

/-- Every check of a list passes, in order (R52, R83 and the chapters of the verbs). -/
abbrev Passes (l : List (Option Status)) : Prop := firstBad l = none

/-- The use of the key that a command names can be counted, and its validity period holds (R338, R544). -/
def KeyUsable (c : Cmd) (n lim : Nat) (s : State) : Prop :=
  match jobKey s c.job with
  | none => True
  | some k => (lim = 0 ∨ c.prog.counted = true ∨ (k.spent = false ∧ k.usage + n ≤ lim ∧ k.usage ≠ lim)) ∧ inPeriod k.pol c.job.acceptTick = true

/-- The key that a command names lies in the shelf where it looks for it, with shares that combine to `sk` and with the public part
`pub`; both are empty for a command that names none (R116, R344, R345). -/
def KeyHere (c : Cmd) (sk pub : List Byte) (s : State) : Prop :=
  (jobKey s c.job = none ∧ sk = [] ∧ pub = []) ∨
    ∃ k e, jobKey s c.job = some k ∧ s.shelfFor c.job.id (s.shelfRegion c k) k = some e ∧ e.secret = sk ∧ e.pub = pub

/-- `n` random bytes are at hand: granted, or in the reservoir with no draw and no mask-stream seed waiting (R319). -/
def RandomHere (c : Cmd) (n : Nat) (s : State) : Prop :=
  n ≤ c.prog.granted ∨
    ((s.cmds.any fun d => d.prog.region == some (c.prog.region.getD 0) && d.prog.wait == some .random) = false ∧
      seedWaiters s (c.prog.region.getD 0) = [] ∧ n ≤ (s.region (c.prog.region.getD 0)).rng.reservoir)

/-- The mask stream of the pan of a command holds the bytes it has yet to take, `n` in all, and asks for no seed for them (R119,
R121). -/
def MasksHere (c : Cmd) (n : Nat) (s : State) : Prop :=
  n ≤ c.prog.masked ∨ ((s.pan c.rgn c.pan).msg.seeded = true ∧ (s.pan c.rgn c.pan).msg.waitSeed = false ∧
    (s.pan c.rgn c.pan).msg.used + (n - c.prog.masked) < 786432)

/-- Command `j` has ended with the result `r`, whatever energy goes with it, which awaits its completion or response (R24, R69). -/
def Ended (j : Nat) (c : Cmd) (r : Res) (t : State) : Prop :=
  ∃ d nj, t.cmd? j = some d ∧ d.job = c.job ∧ d.prog.phase = .returned ∧ d.prog.res = some (r.withNj nj)

/-- The result `r` of command `j` awaits its release check (R124, R208). -/
def InCheck (j : Nat) (c : Cmd) (r : Res) (t : State) : Prop :=
  ∃ d nj, t.cmd? j = some d ∧ d.job = c.job ∧ d.prog.phase = .checking ∧ d.prog.res = some (r.withNj nj)

/-- A signature with the result `r` goes to its release check, or, where an output has no room, ends at once (R78, R124). -/
def Signed (j : Nat) (c : Cmd) (r : Res) (t : State) : Prop :=
  if r.status = .ok then InCheck j c r t else Ended j c r t

/-- The output `out` of a shared secret `ss`: the secret itself, or with K_WRAP a blob of it (R146). -/
def SharedOut (j : Job) (out ss : List Byte) : Prop :=
  (j.pbit 14 = false → out = ss) ∧ (j.pbit 14 = true → out.length = blobLen ss.length)

/-- Accesses through a BAR of instance `i` are carried out (R91, R110). -/
abbrev Reached (i : Nat) (s : State) : Prop := s.reachable i = true ∧ s.ideBlocked i = false

/-- A command changed region `r` and nothing else. -/
def OnlyRegion (r : Nat) (s t : State) : Prop := t = { s with regions := t.regions } ∧ ∀ q, q ≠ r → t.region q = s.region q

/-! ### Kertor words -/

/-- Core `c` runs code that is no customer routine, and after `stall` stall cycles stands as `k` before a word that it can fetch
(R362, R374, R384, R390). -/
def AtAnyWord (c : CoreId) (stall : Nat) (k : Core) (s : State) : Prop :=
  s.coreRuns c = true ∧ (s.core c).cust = false ∧ s.run? c = none ∧
    k = ({ s.core c with cycle := (s.core c).cycle + stall } : Core).land ((s.core c).cycle + stall) ∧ k.pc % 4 = 0 ∧
    (c.isC = true → k.pc / 0x1000000 = 1 ∧ k.pc % 0x1000000 < 16 * 16384)

/-- Core `c` stands before a word with no interrupt pending, which could be taken after it (R386). -/
def AtWord (c : CoreId) (stall : Nat) (k : Core) (s : State) : Prop := AtAnyWord c stall k s ∧ k.pending = []

/-- A command changed core `c` and nothing else, the free values' counter and a debug session's single step apart. -/
def OnlyCore (c : CoreId) (s t : State) : Prop :=
  (∀ d, d ≠ c → t.core d = s.core d) ∧
    t = { s with cores := t.cores, free := t.free, life := { s.life with steps := t.life.steps } }

/-- The core `k` took the exception of code `e` with EVAL `v` and saved `epc` (R385). -/
def Took (c : CoreId) (k : Core) (e v epc : Nat) (k' : Core) : Prop :=
  k'.pc = (k.rc kEVEC).toNat ∧ k'.rc kEPC = BitVec.ofNat 64 epc ∧ k'.rc kEVAL = BitVec.ofNat 64 v ∧
    k'.rc kECAUSE = BitVec.ofNat 64 (e + flag (!k.flight.isEmpty) 9) ∧ k'.rc kESTATUS = k.settle.status c ∧ k'.inh = true ∧
    k'.ie = false ∧ k'.flight = [] ∧ k'.g = k.g ∧ k'.v = k.v ∧ k'.lmem = k.lmem

/-! ### Good states -/

/-- The package stands in HALT (R31). -/
def Halted (s : State) : Prop := s.pkg.halted = true

end Sys2Proof.Safety
end

