-- ==== Sys2Proof/Certificates/Slice0/Obligations.lean ====
section
/-! DEFINITION. The statements for the provers. -/

open Sys2Proof Sys2Proof.Machine Sys2Proof.Safety


/-- One step of the block takes the command in front of the queue and runs it on the state with the queue's rest (the model's queue,
log 1). On an empty queue a step is a tick of the clock (the model's choice, log 1): while the time unit has power the counter takes the next
nanosecond, or in COARSE the next value of the coarse count, modulo 2^64; a slew adds or omits one nanosecond in 10,000; and nothing else
changes (R249-R251). -/
def Obligations.StepRunsTheCommandInFront : Prop :=
  (∀ (i : Instr) (s : State) (rest : List Instr), step { s with pending := i :: rest } = exec i { s with pending := rest }) ∧
  (∀ (s : State), s.pending = [] →
    (s.pkg.pwrgdAon = true ∨ s.pkg.vbat = true →
      (s.time.quality = .coarse → step s = .next { s with tick := coarseNext s.tick % 2 ^ 64 }) ∧
      (s.time.quality ≠ .coarse → s.time.slewFrom = 0 → step s = .next { s with tick := (s.tick + 1) % 2 ^ 64 }) ∧
      (s.time.quality ≠ .coarse → s.time.slewFrom ≠ 0 → s.time.slewCount + 1 < 10000 →
        step s = .next { s with tick := (s.tick + 1) % 2 ^ 64, time := { s.time with slewCount := s.time.slewCount + 1 } }) ∧
      (s.time.quality ≠ .coarse → s.time.slewFrom ≠ 0 → 10000 ≤ s.time.slewCount + 1 →
        ∃ t, step s = .next t ∧ t.tick = moveTick s.tick (1 + s.time.slewFrom.sign) ∧ t.time.slewCount = 0 ∧
          t.time.slewFrom.natAbs + 1 = s.time.slewFrom.natAbs ∧ t = { s with tick := t.tick, time := t.time })) ∧
    (s.pkg.pwrgdAon = false → s.pkg.vbat = false → step s = .next s))

/-- No command of the block faults or is refused, in any state (R427: a fault of the device is state), and none touches the commands
that wait behind it (the model's queue, log 1). -/
def Obligations.EveryCommandLeavesTheQueue : Prop :=
  ∀ (i : Instr) (s : State), ∃ t, exec i s = .next t ∧ t.pending = s.pending

/-- HALT lasts (R31): in main power, whatever the command and with nothing waiting too, a package in HALT stays in HALT and in main
power, unless the command is PERST_N_ASSERT, PWRGD_MAIN_FALL or PWRGD_AON_FALL. -/
def Obligations.HaltLasts : Prop :=
  ∀ (s t : State), s.pkg.halted = true → s.pkg.mode.mainPower = true → step s = .next t →
    (t.pkg.halted = true ∧ t.pkg.mode.mainPower = true) ∨
      ∃ i, s.pending.head? = some i ∧ ((∃ b, i = .perstNAssert b) ∨ i = .pwrgdMainFall ∨ i = .pwrgdAonFall)

/-- The SYS verbs at work with their checks passed (R44, R49). The mailbox of an instance, from a host that reaches it (R54, R57, R58, R62): its buffer holds what is written to it; the doorbell
takes a request, refuses a header that is not in order with ST_MALFORMED, counts an overrun while BUSY, and is refused while CLOSED. A served request is answered once no earlier one stands before it, and one held for entries in flight is released (R56, R58, R59,
R66, R260, R272, R402): the response carries the result, and for TIME.READ the time of the response; what a change of frame
configuration or of customer packages changes, it changes then. -/
def Obligations.SystemVerbsAndMailboxes : Prop :=
  (∀ (s : State) (j : Nat) (c : Cmd),
    (AtWork 0x0100 j c s → Passes [paramZero c.job 0xFFFFFFFF, check (c.job.handle == nullHandle) .malformed] →
      ∃ t, exec (.sysNop j) s = .next t ∧ Ended j c okRes t) ∧
    (AtWork 0x0101 j c s → Passes [paramZero c.job 0xFFFFFF00, check (c.job.handle == nullHandle) .malformed,
        check (featuresLen (bits c.job.param.toNat 7 0)).isSome .paramUnsupported] →
      ∃ t, exec (.sysFeatures j) s = .next t ∧ Ended j c
        (if c.job.mbx then respRes (featuresPage s c.job.inst (bits c.job.param.toNat 7 0))
         else outTo c.job 0 (featuresPage s c.job.inst (bits c.job.param.toNat 7 0))) t) ∧
    (AtWork 0x0102 j c s → Passes [paramZero c.job 0xFFFFFFFF, bodyIs c.job 0,
        check (s.cmds.all (·.job.mbx) && s.pkg.mode.isService) .deferred] →
      ∃ t, exec (.sysStandby j) s = .next t ∧ Ended j c okRes t)) ∧
  (∀ (s : State) (i o v : Nat), Reached i s →
    (o % 4 = 0 → o < 4096 → (s.inst i).mbx.state ≠ .busy →
      ∃ t, exec (.mailboxBufferWrite i o v) s = .next t ∧ readBuf (t.inst i).mbx.req o 4 = le 4 v ∧
        (∀ a, (a < o ∨ o + 4 ≤ a) → readBuf (t.inst i).mbx.req a 1 = readBuf (s.inst i).mbx.req a 1) ∧
        ∀ k, k ≠ i → t.inst k = s.inst k) ∧
    (s.mbxClosed i = true →
      exec (.mailboxDoorbell i v) s = .next (s.modMbx i fun m => { m with refused := true })) ∧
    (s.mbxClosed i = false → (s.inst i).mbx.state = .busy →
      exec (.mailboxDoorbell i v) s = .next (s.modMbx i fun m => { m with overrun := true })) ∧
    (s.mbxClosed i = false → (s.inst i).mbx.state ≠ .busy → s.jseqWait = false →
      let b := readBuf (s.inst i).mbx.req 0 4096
      (headerBad i (v % 65536) b = true →
        ∃ t, exec (.mailboxDoorbell i v) s = .next t ∧ (t.inst i).mbx.state = .done ∧ (t.inst i).mbx.seq = v % 65536 ∧
          readBuf (t.inst i).mbx.resp 2 2 = le 2 Status.malformed.code) ∧
      (headerBad i (v % 65536) b = false →
        ∃ t, exec (.mailboxDoorbell i v) s = .next t ∧ (t.inst i).mbx.state = .busy ∧ (t.inst i).mbx.cur = some s.nextId ∧
          ∃ c ∈ t.cmds, c.job.id = s.nextId ∧ c.job.inst = i ∧ c.job.src = .mbx ∧ c.job.opcode = fld b 0 2 ∧
            c.job.jseq = s.jrn.nextJseq ∧ c.job.acceptTick = s.tick))) ∧
  (∀ (s : State) (i : Nat) (c : Cmd),
    (∀ j r, (s.inst i).mbx.state = .busy → (s.inst i).mbx.cur = some j → s.cmd? j = some c → c.prog.res = some r →
      c.prog.phase = .returned → c.prog.wait ≠ some .object → s.answersFirst c = false → s.pkg.halted = false →
      s.pkg.perstHigh = true → s.pkg.mode.mainPower = true → s.ideBlocked i = false → s.missingPage i (r.spans c.job) = none →
      c.job.opcode ≠ 0x0102 →
      ∃ t, exec (.mailboxRequestDone i) s = .next t ∧ (t.inst i).mbx.state = .done ∧ (t.inst i).mbx.cur = none ∧
        t.cmd? j = none ∧ t.frames = (frmSettled c r (custSettled c r s)).1.frames ∧ t.cust.pkgs = (custSettled c r s).cust.pkgs ∧
        (frmConfig c.job.opcode = none → (t.inst i).mbx.resp = writeBuf [] 0
          ((responseBytes c (r.answered s c.job.opcode) (s.inst i).mbx.seq s.tick).take 4096))) ∧
    (∀ j, s.cmd? j = some c → c.job.mbx = true → c.prog.wait = some .object → s.heldForEntries c = false →
      exec (.mailboxHoldRelease j) s = .next (s.modProg j fun p => { p with wait := none })))

/-- Enabling a queue or a ring from a host that reaches it (R73): where its registers are in order it is enabled and starts empty;
otherwise it stays off with ERR_CFG set. The doorbells of an enabled queue and ring (R78): a value in range is taken, any other sets DB_RANGE and is counted under NOTE. -/
def Obligations.QueuesAndDoorbells : Prop :=
  (∀ (s : State) (i q : Nat), Reached i s → q < 32 →
    ((s.sq i q).enable = false →
      (sizeOkLog2 (s.sq i q).log2 = true → noWrap (s.sq i q).base (2 ^ (s.sq i q).log2) = true →
        (s.cq i (s.sq i q).cq).enable = true → q < (s.inst i).cfg.maxQp → s.sqsEnabled < 4096 →
        ∃ t, exec (.sqEnable i q) s = .next t ∧ t.sq i q =
          { s.sq i q with enable := true, errCfg := false, head := 0, tail := 0, buf := [], fetchStopped := false } ∧
          t.cmds = s.cmds ∧ t.faults = s.faults) ∧
      ((s.inst i).cfg.maxQp ≤ q → ∃ t, exec (.sqEnable i q) s = .next t ∧ t.sq i q = { s.sq i q with errCfg := true })) ∧
    ((s.cq i q).enable = false →
      (sizeOkLog2 (s.cq i q).log2 = true → noWrap (s.cq i q).base (2 ^ (s.cq i q).log2) = true → q < (s.inst i).cfg.maxQp →
        ∃ t, exec (.cqEnable i q) s = .next t ∧ t.cq i q =
          { s.cq i q with enable := true, errCfg := false, tail := 0, phase := true, head := 0, w := 0, unsignalled := [] } ∧
          t.cmds = s.cmds ∧ t.faults = s.faults) ∧
      ((s.inst i).cfg.maxQp ≤ q → ∃ t, exec (.cqEnable i q) s = .next t ∧ t.cq i q = { s.cq i q with errCfg := true }))) ∧
  (∀ (s : State) (i q v : Nat), Reached i s → q < 32 →
    ((s.sq i q).enable = true →
      let x := s.sq i q
      let u := x.units
      let t := v % 2 ^ 18
      (t < u → (t + u - x.tail) % u ≤ u - 1 - (x.tail + u - x.head) % u →
        ∃ z, exec (.sqDoorbell i q v) s = .next z ∧ z.sq i q = { x with tail := t, fetchStopped := false } ∧ z.faults = s.faults) ∧
      (¬ (t < u ∧ (t + u - x.tail) % u ≤ u - 1 - (x.tail + u - x.head) % u) →
        ∃ z, exec (.sqDoorbell i q v) s = .next z ∧ z.sq i q = { x with dbRange := true } ∧
          z.faults.counts = setAt s.faults.counts 0 inc32)) ∧
    ((s.cq i q).enable = true →
      let x := s.cq i q
      let h := v % 2 ^ 17
      let d := (h + x.entries - x.head) % x.entries
      (h < x.entries → 0 < d → d ≤ x.w →
        ∃ z, exec (.cqDoorbell i q v) s = .next z ∧ (z.cq i q).head = h ∧ (z.cq i q).w = x.w - d ∧ (z.cq i q).tail = x.tail ∧
          z.faults = s.faults) ∧
      (¬ (h < x.entries ∧ 0 < d ∧ d ≤ x.w) →
        ∃ z, exec (.cqDoorbell i q v) s = .next z ∧ z.cq i q = { x with dbRange := true } ∧
          z.faults.counts = setAt s.faults.counts 0 inc32)))

/-- A turn of the fetch (R65, R81, R82, R83): an entry of one unit is accepted with the next JSEQ at the present tick, and a read that
fails stops the queue with FETCH_FAULT. The posting of a result and the coalesced interrupt, whose vector waits in the pending bits while it is masked (R34, R63, R85, R87,
R104). -/
def Obligations.QueueEntriesAndResults : Prop :=
  (∀ (s : State) (i q : Nat) (b : List Byte), q < 32 → s.turn = some (32 * i + q) →
    ((((s.sq i q).tail + (s.sq i q).units - (s.sq i q).head) % (s.sq i q).units = 1 → (s.sq i q).head < (s.sq i q).units →
      bits (fld b 0 2) 8 0 = 1 → fld b 2 2 ≠ 0 → (s.sq i q).buf = [] →
      ∃ t, exec (.queueFetch (.data b)) s = .next t ∧ t.rr = 32 * i + q ∧
        (t.sq i q).head = ((s.sq i q).head + 1) % (s.sq i q).units ∧
        ∃ c ∈ t.cmds, c.job.id = s.nextId ∧ c.job.inst = i ∧ c.job.src = .sq q ∧ c.job.opcode = fld b 2 2 ∧
          c.job.tag = fld b 4 2 ∧ c.job.jseq = s.jrn.nextJseq ∧ c.job.acceptTick = s.tick)) ∧
    (∃ t, exec (.queueFetch .timeout) s = .next t ∧ (t.sq i q).fetchFault = true ∧ (t.sq i q).fetchStopped = true ∧
      (t.inst i).xlatAccess = 0 ∧ (t.inst i).xlatCause = 2 ∧ t.cmds = s.cmds)) ∧
  (∀ (s : State) (i q k j : Nat) (c : Cmd),
    (∀ r, s.cmd? j = some c → c.job.src = .sq q → c.prog.res = some r → c.prog.phase = .returned → s.queuesUp = true →
      (s.current c.job = true → (c.job.order = true → s.earlier c = []) → s.ideBlocked c.job.inst = false →
        (s.cq c.job.inst (s.sq c.job.inst q).cq).writeStopped = false → s.postMiss c r q = none →
        ∃ t, exec (.jobResultReturn j) s = .next t ∧ t.cmd? j = none ∧
          (t.cq c.job.inst (s.sq c.job.inst q).cq).w = (s.cq c.job.inst (s.sq c.job.inst q).cq).w + 1) ∧
      (s.current c.job = false →
        ∃ t, exec (.jobResultReturn j) s = .next t ∧ t.cmd? j = none ∧ (t.inst c.job.inst).stale = inc32 (s.inst c.job.inst).stale)) ∧
    (∀ x l, (s.cq i k).unsignalled = x :: l → (s.cq i k).timeUs ≠ 0 → (x + 1000 * (s.cq i k).timeUs + 999) / 1000 * 1000 ≤ s.tick →
      (s.cq i k).ien = true → s.pkg.halted = false → (s.inst i).resetting = false → (s.inst i).msixEn = true →
      ∃ t, exec (.coalesceTimerExpiry i (.completion k)) s = .next t ∧ (t.cq i k).unsignalled = [] ∧
        ((s.inst i).msixMask = true → t.out = s.out ∧ (s.cq i k).vector ∈ (t.inst i).pba) ∧
        ((s.inst i).msixMask = false → (s.msixEntry i (s.cq i k).vector).masked = false →
          t.out = s.out ++ [.msix i (s.cq i k).vector])))

/-- Accesses to registers from a host that reaches them (R8, R10, R11, R35, R426, R445): a field takes the value written, a reserved
encoding leaves it, an RW1C bit is cleared by 1, and an access outside the map is counted, ignored, and reads as zero. With IDE_REQUIRED set and the stream not Secure, an access to a BAR is dropped and counted, and a read completes with UR (R110). -/
def Obligations.RegisterAccesses : Prop :=
  (∀ (s : State) (v a : Nat), Reached 0 s → v < 2 ^ 32 →
    (∃ t, exec (.registerWrite 0 0x5004 false v) s = .next t ∧ t.faults = { s.faults with
      pairFence := bit v 1, ien := bit v 2, vector := bits v 13 3 } ∧ t.insts = s.insts ∧ t.regions = s.regions) ∧
    (∃ t, exec (.registerWrite 0 0x5008 false v) s = .next t ∧
      (10 ≤ bits v 23 0 → bits v 23 0 ≤ 10000000 → t.faults = { s.faults with sluiceContain := bits v 23 0 }) ∧
      (¬ (10 ≤ bits v 23 0 ∧ bits v 23 0 ≤ 10000000) → t.faults = s.faults)) ∧
    (∃ t, exec (.registerWrite 0 0x5000 false v) s = .next t ∧ t.faults = { s.faults with
      injectDenied := s.faults.injectDenied && !bit v 5, ringLost := s.faults.ringLost && !bit v 6 }) ∧
    (∃ t, exec (.registerWrite 0 0x3000 false v) s = .next t ∧
      t.power.ceiling = (if 40 ≤ bits v 7 0 ∧ bits v 7 0 ≤ s.variant.maxCeiling then bits v 7 0 else s.power.ceiling)) ∧
    (readReg s 0 a = none → a % 4 = 0 → a < skanelBase →
      (∃ t, exec (.registerWrite 0 a false v) s = .next t ∧ t = { s with faults := t.faults } ∧
        t.faults.counts = setAt s.faults.counts 0 inc32) ∧
      (∃ t, exec (.badAccess 0 a 4 true) s = .next t ∧ t = { s with faults := t.faults } ∧
        t.faults.counts = setAt s.faults.counts 0 inc32) ∧
      ∃ t, exec (.badAccess 0 a 4 false) s = .next t ∧ t.out = s.out ++ [.value 0] ∧
        t.faults.counts = setAt s.faults.counts 0 inc32)) ∧
  (∀ (s : State) (i o v : Nat) (w : Bool), s.reachable i = true → s.ideBlocked i = true → o < cfgBase →
    (∃ t, exec (.badAccess i o 4 false) s = .next t ∧ t.faults.counts = setAt s.faults.counts 0 inc32 ∧ t.out = s.out ++ [.ur i]) ∧
    ∀ x ∈ [Instr.registerWrite i o w v, .sqDoorbell i o v, .cqDoorbell i o v, .sqEnable i o, .cqEnable i o, .mailboxDoorbell i v,
        .mailboxBufferWrite i o v, .instXlatClr i, .frameRingEnable i o v, .frameRingDoorbell i o v],
      ∃ t, exec x s = .next t ∧ t = { s with faults := t.faults } ∧ t.faults.counts = setAt s.faults.counts 0 inc32)

/-- The writes of the administrative view and the clear of the translation-fault counter, from a host that reaches them (R95, R96, R97,
R98, R108): each does what its register says, or is ignored with CFG_ERR set. Functions, links and translations seen from the host (R82, R92, R100, R101, R102, R111, R442). -/
def Obligations.AdministrativeViewAndFunctions : Prop :=
  (∀ (s : State) (i v : Nat) (w : Bool), Reached 0 s → i < 256 →
    exec (.instAdmClrEnergy i) s = .next (s.modInst i fun n => { n with energy := 0 }) ∧
    (((s.inst i).sqs.any fun q => q.2.enable) = false → ((s.inst i).cqs.any fun q => q.2.enable) = false →
      exec (.instAdmCfgWrite i v) s = .next (s.modInst i fun n => { n with cfg := { n.cfg with
        pasid := bits v 19 0, pasidEn := bit v 20, ideRequired := bit v 21, ideBind := bit v 22, ideStream := bits v 27 23 } })) ∧
    (((s.inst i).sqs.any fun q => q.2.enable) = true →
      ∃ t, exec (.instAdmCfgWrite i v) s = .next t ∧ (t.inst i).cfgErr = true ∧ (t.inst i).cfg = (s.inst i).cfg) ∧
    (s.sumsOk i ((s.inst i).cfg.quota w v) = true → s.useOk i ((s.inst i).cfg.quota w v) = true →
      ∃ t, exec (.instAdmQuotaWrite i w v) s = .next t ∧ t.inst i = { s.inst i with cfg := (s.inst i).cfg.quota w v } ∧
        ∀ k, k ≠ i → t.inst k = s.inst k) ∧
    ((s.sumsOk i ((s.inst i).cfg.quota w v) && s.useOk i ((s.inst i).cfg.quota w v)) = false →
      ∃ t, exec (.instAdmQuotaWrite i w v) s = .next t ∧ (t.inst i).cfgErr = true ∧ (t.inst i).cfg = (s.inst i).cfg) ∧
    (i ≠ 0 → ∃ t, exec (.instAdmReassign i) s = .next t ∧ (t.inst i).stale = 0 ∧ (t.inst i).energy = 0 ∧
      (t.inst i).xlatCount = 0 ∧ (t.inst i).demoted = 0) ∧
    ∀ k, Reached k s →
      exec (.instXlatClr k) s = .next (s.modInst k fun n => { n with xlatCount := 0 })) ∧
  (∀ (s : State) (n i page size q : Nat), s.pkg.mode.mainPower = true → s.pkg.perstHigh = true →
    (s.pkg.vfEnable = false → n ≤ 255 →
      ∃ t, exec (.vfEnableSet n) s = .next t ∧ (∀ k, t.present k = (k == 0 || decide (k ≤ n))) ∧ t.insts = s.insts) ∧
    (s.pkg.vfEnable = true → ∃ t, exec .vfEnableClear s = .next t ∧ ∀ k, t.present k = (k == 0)) ∧
    (∃ t, exec .pcieHotReset s = .next t ∧ ∀ k, t.present k = (k == 0)) ∧
    (s.present i = true → ∃ t, exec (.atsInvalidationRequest i page size) s = .next t ∧
      (∀ e ∈ t.pkg.ats, e ∈ s.pkg.ats ∧ ¬ (e.inst = i ∧ e.page < page + 2 ^ size ∧ page < e.page + 2 ^ e.sizeLog2)) ∧
      t.insts = s.insts ∧ (s.pkg.atsInval = [] → let x : AtsInval := { inst := i, page := page, size := size };
        (s.inUse x = false → t.out = s.out ++ [.atsDone i page] ∧ t.pkg.atsInval = []) ∧
        (s.inUse x = true → t.out = s.out ∧ t.pkg.atsInval = [x]))) ∧
    (n ∈ s.pkg.ideSecure → ∃ t, exec (.ideStreamFailure n) s = .next t ∧ n ∉ t.pkg.ideSecure) ∧
    (s.present i = true → (s.cq i q).enable = true → (∀ h ∈ s.pkg.atsWait, h.use ≠ .cqWrite i q) →
      ∃ t, exec (.hostMemoryCompletion (.cqWrite i q) .timeout) s = .next t ∧ (t.cq i q).writeFault = true ∧
        (t.inst i).xlatAccess = 3 ∧ (t.inst i).xlatCause = 2 ∧ (t.inst i).xlatCount = satAdd 0xFFFF (s.inst i).xlatCount 1))

/-- The start of a generation change, by FLR and by REASSIGN (R102, R105, R108): the generation rises by one, or at 0xFFFF stays there
with WRAP_DRAIN set; RESETTING is set; no handle and no cached translation of the instance is left. An event during a reset changes the
generation no further while a region of its drain has yet to report. The regions' part of a generation change and its end (R91, R103, R105): a region's report is taken off the list of those awaited,
the drain ends at generation 0 once nothing is left or after 10 ms, and RESETTING clears with the wipes done. -/
def Obligations.GenerationChanges : Prop :=
  (∀ (s : State) (i : Nat), i ≠ 0 → i < 256 → ((s.inst i).wrapDrain = true → (s.inst i).awaited ≠ []) →
    let Began (t : State) : Prop :=
      ((s.inst i).resetting = false →
        (t.inst i).resetting = true ∧
        ((s.inst i).gen < 65535 → (t.inst i).gen = (s.inst i).gen + 1 ∧ (t.inst i).wrapDrain = false) ∧
        ((s.inst i).gen = 65535 → s.notified ≠ [] → (t.inst i).gen = 65535 ∧ (t.inst i).wrapDrain = true) ∧
        (∀ k ∈ t.vault.handles, k.inst ≠ i) ∧ ∀ e ∈ t.pkg.ats, e.inst ≠ i) ∧
      ((s.inst i).resetting = true → (t.inst i).gen = (s.inst i).gen ∧ (t.inst i).resetting = true)
    (s.present i = true → s.pkg.mode.mainPower = true → s.pkg.perstHigh = true →
      ∃ t, exec (.flrStart i) s = .next t ∧ Began t) ∧
    (Reached 0 s → ∃ t, exec (.instAdmReassign i) s = .next t ∧ Began t)) ∧
  (∀ (s : State) (i r : Nat),
    ((s.inst i).resetting = true → r ∈ (s.inst i).awaited →
      (∀ c ∈ s.cmds, c.job.inst = i → c.prog.region = some r → c.prog.phase = .running → s.runsOn c = false) →
      ∃ t, exec (.regionGenerationReport i r) s = .next t ∧ r ∉ (t.inst i).awaited ∧
        ∀ q, q ≠ r → q ∈ (s.inst i).awaited → q ∈ (t.inst i).awaited) ∧
    ((s.inst i).wrapDrain = true → (s.inst i).awaited ≠ [] → (s.inst i).noticeTick + 10000000 ≤ s.tick →
      ∃ t, exec (.wrapDrainTimeout i) s = .next t ∧ (t.inst i).gen = 0 ∧ (t.inst i).wrapDrain = false ∧ (t.inst i).awaited = []) ∧
    ((s.inst i).resetting = true → (s.inst i).awaited = [] → (s.inst i).wrapDrain = false →
      ∃ t, exec (.flrComplete i) s = .next t ∧ (t.inst i).resetting = false ∧ (t.inst i).gen = (s.inst i).gen ∧
        (t.inst i).sqs = [] ∧ (t.inst i).cqs = [] ∧ (t.inst i).cfg = (s.inst i).cfg ∧
        (∀ e ∈ t.regions, ∀ k ∈ e.2.shelf, k.inst ≠ i) ∧ ∀ k, k ≠ i → t.inst k = s.inst k) ∧
    ((s.inst i).resetting = true → (s.inst i).awaited = [] → (s.inst i).wrapDrain = true → s.drainLeft i = false →
      ∃ t, exec (.flrComplete i) s = .next t ∧ (t.inst i).gen = 0 ∧ (t.inst i).resetting = false))

/-- How a job reaches a region (R20, R22, R23, R53, R67, R103): one of its instance's generation is sent to the region R20 selects, and
the region acknowledges it while IN_SERVICE; with no region to take it, it ends with ST_NO_REGION; one of an older generation is
dropped. The dispatch of a waiting job of one part (R53, R113, R240, R410): in a region that dispatches, a job that nothing holds and nothing
outranks takes the unit chosen for it, starting at once where the unit's pans are ACTIVE; so does one that waited for slots or pond units.
A job of the symmetric engines counts its key's use and takes its pond units first. -/
def Obligations.JobsAreSentAndDispatched : Prop :=
  (∀ (s : State) (j : Nat) (c : Cmd), s.cmd? j = some c →
    let sends : Prop := c.prog.phase = .ready ∧ c.job.has (·.region) = true ∧ s.held c = false ∧ c.prog.wait ≠ some .object ∧
      s.pkg.halted = false
    (c.job.mbx = true ∨ s.current c.job = true →
      (sends → s.repeated c.job = false →
        (∀ r, selectRegion s c = some r → ∃ t d, exec (.jobSend j) s = .next t ∧ t.cmd? j = some d ∧ d.job = c.job ∧
          d.prog.phase = .sent ∧ d.prog.region = some r ∧ d.prog.demoted = s.demotes c) ∧
        (selectRegion s c = none → ∃ t, exec (.jobSend j) s = .next t ∧ Ended j c (stRes .noRegion) t)) ∧
      (c.prog.phase = .sent →
        (s.inService c.rgn = true → ∃ t d, exec (.regionAck j) s = .next t ∧ t.cmd? j = some d ∧ d.prog.phase = .acked ∧
          d.prog.region = c.prog.region ∧ d.prog.since = s.tick) ∧
        (s.inService c.rgn = false → ∃ t d, exec (.regionAck j) s = .next t ∧ t.cmd? j = some d ∧ d.prog.phase = .ready ∧
          d.prog.region = none))) ∧
    (c.job.mbx = false → s.current c.job = false →
      (sends → ∃ t, exec (.jobSend j) s = .next t ∧ t.cmd? j = none) ∧
      (c.prog.phase = .sent → ∃ t, exec (.regionAck j) s = .next t ∧ t.cmd? j = none))) ∧
  (∀ (s : State) (j n : Nat) (k : UnitKind) (c : Cmd), s.cmd? j = some c → c.prog.phase = .acked → c.prog.unit = none →
    c.job.mbx = true ∨ s.current c.job = true → c.job.paired = false → c.prog.pair.cell = none →
    s.dispatches c.rgn = true → s.held c = false → s.heldForDisturbance c c.rgn = false → s.slhOk c c.rgn = true →
    s.jobKind c c.rgn = some k → s.outranked c c.rgn k = false → s.pondOk c c.rgn = true →
    let s1 := if k = .sym then takeSym c c.rgn (s.modProg j fun p => { p with wait := none }) else s
    s1.pickUnit c c.rgn k (s1.freeUnits c c.rgn k) = some n →
    (∀ u ∈ c.job.takesUnits k n, ∀ p, u.1.pan u.2 = some p → (s.pan c.rgn p).svc.pwr = .active) →
    let Starts (i : Instr) : Prop := ∃ t d, exec i s = .next t ∧ t.cmd? j = some d ∧ d.prog.phase = .running ∧
      d.prog.unit = some (k, (k.pan n).getD 0, n) ∧ d.prog.startTick = s.tick
    (c.prog.region ≠ none → c.prog.wait = none → Starts (.jobDispatch j)) ∧
    (c.prog.wait = some .slots ∨ c.prog.wait = some .pond → Starts (.resourceFreedDispatch j)))

/-- Pans wake and are admitted under the power ceiling, which a sample of the draw informs (R408, R409, R412). -/
def Obligations.PansWakeUnderTheCeiling : Prop :=
  ∀ (s : State) (r p w mw : Nat), s.enabled r = true → p < 4 →
    ((s.pan r p).svc.waking = some w → w + (s.pan r p).svc.pwr.wakeNs ≤ s.tick →
      s.wakers r p = [] → s.checksIn r p = [] →
      ∃ t, exec (.panWakeComplete r p) s = .next t ∧ (t.pan r p).svc.pwr = .idle ∧ (t.pan r p).svc.waking = none ∧
        (t.pan r p).svc.since = s.tick) ∧
    ((s.pan r p).svc.held = true → (s.pan r p).svc.waking = none → s.admits r (!(s.checksIn r p).isEmpty) = true →
      (∀ q ∈ regionNums, ∀ o ∈ panNums, (s.pan q o).svc.held = true → s.admits q (!(s.checksIn q o).isEmpty) = true →
        s.admitKey r p ≤ s.admitKey q o) →
      ∃ t, exec (.panAdmit r p) s = .next t ∧ (t.pan r p).svc.waking = some s.tick ∧ (t.pan r p).svc.held = false) ∧
    (∃ t, exec (.powerSample mw) s = .next t ∧ t.power.samples = keepLast 100 (s.power.samples ++ [min mw 262143]) ∧
      t.power.drawMw = t.power.samples.sum / t.power.samples.length ∧ t.power.ceiling = s.power.ceiling ∧
      t = { s with power := t.power })

/-- A job that has held its unit for its quantum while equal or better work waits leaves it at a yield point, with its context in a
system slot where it is no number job, and is resumed on a free unit of the same pan (R175, R205, R246). -/
def Obligations.JobsYieldAndResume : Prop :=
  ∀ (s : State) (j q p n x : Nat) (k : UnitKind) (c : Cmd), s.cmd? j = some c → s.current c.job = true →
    c.prog.unit = some (k, p, n) →
    let Left (t : State) : Prop := ∃ d, t.cmd? j = some d ∧ d.job = c.job ∧ d.prog.phase = .yielded ∧ d.prog.since = s.tick ∧
      (k ≠ .number → d.prog.slots = c.prog.slots ++ [(p, x)])
    (c.prog.phase = .running → s.quantum c = some q → (k ≠ .number → (s.freeSystem c.rgn p).head? = some x) →
      (yieldDue s c q = true → ∃ t, exec (.jobYield j) s = .next t ∧ Left t) ∧
      (k = .number → s.quantumOver c q = true → ∃ t, exec (.numberQuantumExpiry j) s = .next t ∧ Left t ∧
        (t.region c.rgn).num.yields = inc32 (s.region c.rgn).num.yields) ∧
      (k = .sym → s.quantumOver c q = true → ∃ t, exec (.symQuantumExpiry j) s = .next t ∧ Left t) ∧
      (k ≠ .number → c.job.dig = true → s.quantumOver c q = true → ∃ t, exec (.digestQuantumExpiry j) s = .next t ∧ Left t)) ∧
    (c.prog.phase = .yielded → c.prog.wait = none → c.prog.pair.cell = none → s.dispatches c.rgn = true →
      s.heldForDisturbance c c.rgn = false → s.outranked c c.rgn k = false → ∀ m,
      s.pickUnit c c.rgn k ((s.freeUnits c c.rgn k).filter fun n => (k.pan n).all fun q => q == p) = some m →
      (∀ u ∈ c.job.takesUnits k m, ∀ p, u.1.pan u.2 = some p → (s.pan c.rgn p).svc.pwr = .active) →
      ∃ t d, exec (.jobResume j) s = .next t ∧ t.cmd? j = some d ∧ d.prog.phase = .running ∧ d.prog.resumed = true ∧
        d.prog.unit = some (k, (k.pan m).getD 0, m))

/-- The end of the release check of a signature of one part (R124, R126): where it passes the result is released; a job that has been
run again already and fails it ends with ST_RELEASE_CHECK_FAIL, and the fault is recorded. The key a job waits for, and the fills of the crystallizer (R116, R133, R343, R345, R346): a blob that fails its checks ends the job,
one that passes them lies in the shelf as shares of its secret, and the job goes on. -/
def Obligations.ChecksKeysAndFills : Prop :=
  (∀ (s : State) (j q n : Nat) (c : Cmd) (r : Res), s.cmd? j = some c → c.prog.phase = .checking → c.prog.check = some (q, n) →
    c.job.paired = false → c.prog.res = some r → (s.pan q ((c.checkKind.pan n).getD 0)).svc.pwr = .active →
    (∃ t, exec (.releaseCheckDone j true) s = .next t ∧ Ended j c r t) ∧
    (1 ≤ c.prog.reruns → c.job.has (·.stateful) = false → ∀ u slot, c.prog.unit = some u → s.faults.slotFor = some slot →
      ∃ t, exec (.releaseCheckDone j false) s = .next t ∧ Ended j c (stRes .releaseCheckFail) t ∧ t.faults.head = s.faults.head + 1)) ∧
  (∀ (s : State) (j r : Nat) (b : List Byte) (c : Cmd) (k : KeyRec),
    (s.cmd? j = some c → jobKey s c.job = some k → c.job.handle = k.handle → c.prog.wait = some .shelf → s.shelfRegion c k = r →
      tfind c.job.parts 254 = none → loadBefore s c k = false →
      ((blobOk s k.inst none b && (readHdr b).keyId == k.keyId) = false →
        ∃ t, exec (.shelfMissBlobArrival j b) s = .next t ∧ Ended j c (stRes .blobInvalid) t) ∧
      ((blobOk s k.inst none b && (readHdr b).keyId == k.keyId) = true →
        shelfUse (s.region r) k.inst + k.entries ≤ (s.inst k.inst).cfg.shelf →
        ∃ t d, exec (.shelfMissBlobArrival j b) s = .next t ∧ t.cmd? j = some d ∧ d.prog.wait = none ∧
          ∃ e ∈ (t.region r).shelf, k.owns e = true ∧ e.secret = (blobKey s k.inst b).secret ∧ e.pub = (blobKey s k.inst b).pub)) ∧
    (∃ t, exec (.crystallizerFillComplete r) s = .next t ∧
      (t.region r).lat.fills = (s.region r).lat.fills.filter (fun f => !decide (f.done ≤ s.tick)) ∧ t.cmds = s.cmds))

/-- Key encapsulation on a lattice cell (R144, R145, R146, R158, R159): with its checks passed, its key's use counted and its key,
mask bytes and randomness at hand, each verb ends with the outputs its standard's functions give; K_WRAP returns the shared key as a blob. -/
def Obligations.LatticeKeyEncapsulation : Prop :=
  ∀ (s : State) (j : Nat) (c : Cmd) (sk pub : List Byte),
    let a := latticeAlg c.job.alg
    let ek := encapsKey c.job pub
    let n := ephLen c.job.alg
    let masks (op : Nat) : Nat := maskScale c.prog.order (maskBytes op c.job.alg)
    KeyUsable c 1 (keyLimit s c.job) s → KeyHere c sk pub s →
    (AtWork 0x0301 j c s → Passes (kemChecks s c.job [0, 1] 2 (!c.job.pbit 13 || (c.job.operand 3).length == pubLen c.job.alg)) →
      MasksHere c (masks 0) s → RandomHere c 32 s →
      ∃ (t : State) (m out : List Byte), exec (.kemMlkemEncaps j) s = .next t ∧ m.length = 32 ∧
        SharedOut c.job out (stdN 32 "ML-KEM.Encaps key" [le 1 c.job.alg, ek, m]) ∧
        Ended j c (if c.job.pbit 13 && !Config.stdOk "FIPS 203 encapsulation key check" [le 1 c.job.alg, ek] then stRes .decodeFail
          else outsTo c.job [(1, stdN (sigLen c.job.alg) "ML-KEM.Encaps ciphertext" [le 1 c.job.alg, ek, m]), (2, out)]) t) ∧
    (AtWork 0x0302 j c s → Passes (kemChecks s c.job [0] 3 ((c.job.operand 0).length == sigLen c.job.alg) ++ [orderStep s c]) →
      MasksHere c (masks 1) s →
      ∃ (t : State) (out : List Byte), exec (.kemMlkemDecaps j) s = .next t ∧
        SharedOut c.job out (stdN 32 "ML-KEM.Decaps" [le 1 c.job.alg, sk, c.job.operand 0]) ∧ Ended j c (outsTo c.job [(2, out)]) t) ∧
    (AtWork 0x0303 j c s → Passes (kemChecks s c.job [0, 1] 2 (!c.job.pbit 13 || (c.job.operand 3).length == pubLen c.job.alg)) →
      Passes [slotQuota s c] → MasksHere c (masks 0) s → RandomHere c (32 + n + (8 + n)) s →
      ∃ (t : State) (d out : List Byte), exec (.kemHybEncaps j) s = .next t ∧ d.length = 32 + n + (8 + n) ∧
        let eph := slice d 32 n
        let cpq := stdN (sigLen a) "ML-KEM.Encaps ciphertext" [le 1 a, ek.take (pubLen a), d.take 32]
        let epk := stdN (sigLen c.job.alg - sigLen a) "classical public key" [le 1 c.job.alg, eph]
        SharedOut c.job out (hybridKey c.job.alg (stdN 32 "ML-KEM.Encaps key" [le 1 a, ek.take (pubLen a), d.take 32])
          (stdN n "ECDH" [le 1 c.job.alg, eph, ek.drop (pubLen a)]) cpq epk (ek.drop (pubLen a))) ∧
        Ended j c (if (c.job.pbit 13 && !Config.stdOk "FIPS 203 encapsulation key check" [le 1 a, ek.take (pubLen a)]) ||
            !Config.stdOk "classical public key validation" [le 1 c.job.alg, ek.drop (pubLen a), eph] then stRes .decodeFail
          else outsTo c.job [(1, cpq ++ epk), (2, out)]) t) ∧
    (AtWork 0x0304 j c s → Passes (kemChecks s c.job [0] 3 ((c.job.operand 0).length == sigLen c.job.alg) ++ [orderStep s c]) →
      Passes [slotQuota s c] → MasksHere c (masks 1) s → RandomHere c (8 + n) s →
      ∃ (t : State) (out : List Byte), exec (.kemHybDecaps j) s = .next t ∧
        let skT := sk.drop (sk.length - n)
        let cpq := (c.job.operand 0).take (sigLen a)
        let epk := (c.job.operand 0).drop (sigLen a)
        SharedOut c.job out (hybridKey c.job.alg (stdN 32 "ML-KEM.Decaps" [le 1 a, sk.take (sk.length - n), cpq])
          (stdN n "ECDH" [le 1 c.job.alg, skT, epk]) cpq epk (pub.drop (pubLen a))) ∧
        Ended j c (if !Config.stdOk "classical public key validation" [le 1 c.job.alg, epk, skT] then stRes .decodeFail
          else outsTo c.job [(2, out)]) t)

/-- Lattice signatures (R147, R149, R150, R154, R155, R157): a signing verb hands its signature, a composite one its two signatures on its first run, to the release check, or ends with
ST_REJECT_LIMIT; a verification ends with ST_OK, ST_SIG_INVALID or ST_DECODE_FAIL. -/
def Obligations.LatticeSignatures : Prop :=
  ∀ (s : State) (j : Nat) (c : Cmd) (sk pub : List Byte),
    let a := latticeAlg c.job.alg
    let pk := verifyKey c.job pub
    let n := sk.length - (classicPart c.job.alg).1
    let Signed (t : State) (args : List (List Byte)) (sig : List Byte) : Prop :=
      if Config.stdOk "ML-DSA.Sign ends within 256 attempts" args then
        (if (outsTo c.job (signOuts c.job sig)).status = .ok then InCheck j c (outsTo c.job (signOuts c.job sig)) t
         else Ended j c (outsTo c.job (signOuts c.job sig)) t)
      else Ended j c (stRes .rejectLimit) t
    let Rnd (d : List Byte) : List Byte := if c.job.pbit 10 then zeros 32 else d
    let l := if c.job.pbit 10 then 0 else 32
    KeyUsable c 1 (keyLimit s c.job) s → KeyHere c sk pub s →
    (Passes (sigChecks s c.job [0] 0 ++ [orderStep s c]) → MasksHere c (maskScale c.prog.order (maskBytes 2 c.job.alg)) s →
      (AtWork 0x0401 j c s → Passes [tqStep c.job] → RandomHere c l s →
        ∃ (t : State) (d : List Byte), exec (.sigMldsaSign j) s = .next t ∧ d.length = l ∧
        let args := [le 1 c.job.alg, sk, fullCtx c.job, Rnd d] ++ mldsaInput c.job
        Signed t args (stdN (sigLen c.job.alg) "ML-DSA.Sign" args)) ∧
      (AtWork 0x0404 j c s → c.prog.pair.again = none → Passes [tqStep c.job, slotQuota s c] → RandomHere c (l + compDraw c.job) s →
        ∃ (t : State) (d : List Byte), exec (.sigCompSign j) s = .next t ∧ d.length = l + compDraw c.job ∧
        let args := [le 1 a, sk.take n, [], Rnd (d.take l), ascii "pure", compRep c.job]
        Signed t args (stdN (sigLen a) "ML-DSA.Sign" args ++ stdN (sigLen c.job.alg - sigLen a) "classical signature of a composite"
          [le 1 c.job.alg, sk.drop n, d.drop l, compRep c.job]))) ∧
    (Passes (sigChecks s c.job [0, 1] 1) →
      (AtWork 0x0402 j c s → ∃ t, exec (.sigMldsaVerify j) s = .next t ∧ Ended j c
        (if Config.stdOk "ML-DSA.Verify" ([le 1 c.job.alg, pk, c.job.ctx, c.job.operand 1] ++ mldsaInput c.job) then okRes
         else stRes .sigInvalid) t) ∧
      (AtWork 0x0403 j c s → ∃ t, exec (.sigFndsaVerify j) s = .next t ∧ Ended j c
        (if !(fld pk 0 1 == fndsaLog c.job.alg) || !Config.stdOk "FN-DSA public key coefficients below 12289" [le 1 c.job.alg, pk]
         then stRes .decodeFail
         else if fld (c.job.operand 1) 0 1 == 0x30 + fndsaLog c.job.alg &&
            Config.stdOk "FN-DSA.Verify" [le 1 c.job.alg, pk, c.job.operand 1, c.job.operand 0] then okRes
         else stRes .sigInvalid) t) ∧
      (AtWork 0x0405 j c s → Passes [slotQuota s c] → ∃ t, exec (.sigCompVerify j) s = .next t ∧ Ended j c
        (if !Config.stdOk "classical public key of a composite decodes" [le 1 c.job.alg, pk.drop (pubLen a)] then stRes .decodeFail
         else if Config.stdOk "ML-DSA.Verify"
              [le 1 a, pk.take (pubLen a), [], (c.job.operand 1).take (sigLen a), ascii "pure", compRep c.job] &&
            Config.stdOk "classical verification of a composite"
              [le 1 c.job.alg, pk.drop (pubLen a), (c.job.operand 1).drop (sigLen a), compRep c.job] then okRes
         else stRes .sigInvalid) t))

/-- The digest verbs (R170, R172, R173, R177): with its checks passed, its key's use counted and its key and mask bytes at hand, each ends with the digest,
tag or derived bytes its function gives; a MAC verification ends with ST_OK or ST_TAG_FAIL and no output. The digest window (R178, R180, R181), through either port (`false` the host, which must reach the BAR): a claim of a free window
grants it under the next token, one of an owned window reads ST_BUSY_OWNED and takes nothing; a write from elsewhere is ignored and sets
FOREIGN; a LAST write whose length agrees closes the message, another sets LEN_ERR and empties the window; the end of the compression
sets DONE with the digest; a release with the token, or the idle timeout, frees the window with its result zero. -/
def Obligations.DigestsAndTheWindow : Prop :=
  (∀ (s : State) (j : Nat) (c : Cmd) (sk pub : List Byte),
    let key := digSecret c.job sk
    Passes (digChecks s c.job) →
    (AtWork 0x0501 j c s → ∃ t, exec (.digHash j) s = .next t ∧ Ended j c (outTo c.job 1 (stdN (digBytes c.job) "hash or XOF of R170"
      [le 1 c.job.alg, c.job.operand 0, c.job.operand 2, c.job.operand 3])) t) ∧
    (KeyUsable c 1 (keyLimit s c.job) s → KeyHere c sk pub s →
      (s.kmacMasked c.job = true → MasksHere c (Config.kmacMask c.prog.order (c.job.operand 0).length) s) →
      (AtWork 0x0502 j c s → ∃ t, exec (.digMac j) s = .next t ∧ Ended j c (outTo c.job 1 (macTag c.job key)) t) ∧
      (AtWork 0x0503 j c s → ∃ t, exec (.digMacVerify j) s = .next t ∧
        Ended j c (if macTag c.job key = c.job.operand 1 then okRes else stRes .tagFail) t) ∧
      (AtWork 0x0504 j c s → ∃ t, exec (.digKdf j) s = .next t ∧ Ended j c (outTo c.job 1
        (stdN c.job.outLen "KDF" [le 1 c.job.alg, key, c.job.operand 0, c.job.operand 3])) t))) ∧
  (∀ (s : State) (p : Bool) (part v valid token : Nat), (p = false → Reached 0 s) →
    let w := s.digWin
    (w.owner = none → ∃ t, exec (.digWinClaim p) s = .next t ∧ t.digWin.owner = some p ∧ t.digWin.token = nextToken w.token ∧
      t.digWin.func = 2 ∧ t.digWin.outLen = 32 ∧ t.digWin.len = 0 ∧ t.digWin.words = [] ∧ t.digWin.done = false ∧
      t.digWin.result = [] ∧ t.out = s.out ++ [.value (65536 * nextToken w.token)]) ∧
    (∀ o, w.owner = some o → ∃ t, exec (.digWinClaim p) s = .next t ∧ t.digWin.owner = some o ∧ t.digWin.token = w.token ∧
      t.digWin.words = w.words ∧ t.digWin.result = w.result ∧ t.out = s.out ++ [.value 0x0502]) ∧
    (w.owner ≠ some p → ∀ i ∈ [Instr.digWinData p part v, .digWinLast p valid token, .digWinRelease p token],
      exec i s = .next { s with digWin := { w with foreign := true } }) ∧
    (w.owner = some p →
      (w.busy = false →
        (part = 0 → exec (.digWinData p part v) s = .next { s with digWin := { w with lastAccess := s.tick, lo := v % 2 ^ 32 } }) ∧
        (part = 1 → ∃ t, exec (.digWinData p part v) s = .next t ∧ t.digWin.words = w.words ++ [w.lo + 2 ^ 32 * (v % 2 ^ 32)] ∧
          (t.digWin.busy = true ↔ windowBlock w.func ≠ 0 ∧ windowBlock w.func ∣ w.words.length + 1)) ∧
        (1 < part → ∃ t, exec (.digWinData p part v) s = .next t ∧ t.digWin.words = w.words ++ [v % 2 ^ 64]) ∧
        (token = w.token →
          (w.lengthOk valid = true → exec (.digWinLast p valid token) s =
            .next { s with digWin := { w with lastAccess := s.tick, closing := some valid, busy := true } }) ∧
          (w.lengthOk valid = false → ∃ t, exec (.digWinLast p valid token) s = .next t ∧ t.digWin.lenErr = true ∧
            t.digWin.done = false ∧ t.digWin.words = [] ∧ t.digWin.owner = some p))) ∧
      (token = w.token → ∃ t, exec (.digWinRelease p token) s = .next t ∧ t.digWin.owner = none ∧ t.digWin.result = [] ∧
        t.digWin.words = []) ∧
      (w.lastAccess + w.timeoutMs * 1000000 ≤ s.tick → ∃ t, exec .digWinTimeout s = .next t ∧ t.digWin.owner = none ∧
        t.digWin.expired = true ∧ t.digWin.result = [])) ∧
    (∀ n, w.busy = true → w.closing = some n → exec .digWinCompressionDone s = .next { s with digWin := { w with
      busy := false, done := true, closing := none,
      result := stdN w.resultLen "hash or XOF of R170" [le 1 w.func, w.message, [], []] } }))

/-- Hash-based signatures (R185, R186, R189, R195): a signature goes to its release check, a verification ends with ST_OK or
ST_SIG_INVALID. -/
def Obligations.HashBasedSignatures : Prop :=
  ∀ (s : State) (j : Nat) (c : Cmd) (sk pub : List Byte),
    let a := c.job.alg
    let pk := verifyKey c.job pub
    let keyed (fam : Fam) : List (Option Status) :=
      [if c.job.handle = nullHandle then none else keyChecks s c.job [0, 1] (· == a) 1 fun _ => true,
        check (c.job.param.toNat &&& 0xFFFFDF00 == 0 &&
          (if fam = .xmss then sigArgsOk c.job 1 && c.job.ctxLen == 0 else c.job.args.isEmpty)) .malformed,
        check (famOf a == some fam) .paramUnsupported, famEnabled s c.job]
    let Verdict (f : String) : Res :=
      if !(if famOf a = some .xmss then xmssKeyOk a pk else hssKeyOk a pk) then stRes .paramUnsupported
      else if Config.stdOk f [le 1 a, pk, c.job.operand 1, c.job.operand 0] then okRes else stRes .sigInvalid
    KeyUsable c 1 (keyLimit s c.job) s → KeyHere c sk pub s →
    (AtWork 0x0406 j c s → Passes (slhChecks s c.job [0] 0) → Passes [tqStep c.job] →
      RandomHere c (if c.job.pbit 10 then 0 else pubLen a / 2) s →
      ∃ (t : State) (d : List Byte), exec (.sigSlhdsaSign j) s = .next t ∧
        (c.job.pbit 10 = true → d = pub.take (pubLen a / 2)) ∧ (c.job.pbit 10 = false → d.length = pubLen a / 2) ∧
        Signed j c (outsTo c.job (signOuts c.job
          (stdN (sigLen a) "SLH-DSA.Sign" ([le 1 a, sk, fullCtx c.job, d] ++ slhInput c.job)))) t) ∧
    (AtWork 0x0407 j c s → Passes (slhChecks s c.job [0, 1] 1) → ∃ t, exec (.sigSlhdsaVerify j) s = .next t ∧ Ended j c
      (if Config.stdOk "SLH-DSA.Verify" ([le 1 a, pk, c.job.ctx, c.job.operand 1] ++ slhInput c.job) then okRes
       else stRes .sigInvalid) t) ∧
    (AtWork 0x0409 j c s → Passes (keyed .lms) → ∃ t, exec (.sigLmsVerify j) s = .next t ∧ Ended j c (Verdict "HSS.Verify") t) ∧
    (AtWork 0x040A j c s → Passes (keyed .xmss) → ∃ t, exec (.sigXmssVerify j) s = .next t ∧ Ended j c (Verdict "XMSS.Verify") t)

/-- Stateful signing (R190, R191, R194): a signing below the reservation limit takes the next leaf, which is its commit point, and never
a leaf at or above the limit; a key with no leaf left gives ST_LEAF_EXHAUSTED and takes none; a completed reservation raises the limit by
B; a tree that is ready lets the signings that waited for it go on. -/
def Obligations.StatefulSigning : Prop :=
  ∀ (s : State) (j : Nat) (c : Cmd) (k : KeyRec) (l : LmsRec) (sk pub : List Byte),
    (AtWork 0x0408 j c s → jobKey s c.job = some k → KeyHere c sk pub s → s.lmsOf k = some l →
      KeyUsable c 1 (keyLimit s c.job) s → c.prog.committed = false →
      Passes [keyChecks s c.job [0] (· == c.job.alg) 0 fun _ => true,
        check (c.job.param.toNat &&& 0xFFFFFF00 == 0 && c.job.args.isEmpty) .malformed,
        check (famOf c.job.alg == some .lms) .paramUnsupported, famEnabled s c.job] →
      (l.q < l.leaves → l.q < l.rl → (l.tree ≠ 0 → l.tree < l.leaves → l.q % l.tree = 0 → l.q ≠ 0 → l.treeReady = true) → ∃ t m, exec (.sigLmsSign j) s = .next t ∧ t.lmsOf k = some m ∧ m.q = l.q + 1 ∧
        m.rl = l.rl ∧ (∀ d, t.cmd? j = some d → d.prog.committed = true) ∧
        let sg := Config.std "HSS.Sign" [le 1 c.job.alg, sk, le 8 l.q, c.job.operand 0]
        Signed j c (outsTo c.job ((1, sg) :: if c.job.frags.any fun f => f.operand == 2 then [(2, le 8 (l.leaves - l.q - 1))] else [])) t) ∧
      (l.q < l.leaves → l.rl ≤ l.q → ∃ t m d, exec (.sigLmsSign j) s = .next t ∧ t.lmsOf k = some m ∧ m.q = l.q ∧
        t.cmd? j = some d ∧ d.prog.wait = some .leaf) ∧
      (l.leaves ≤ l.q → ∃ t, exec (.sigLmsSign j) s = .next t ∧ t.lmsOf k = some l ∧ Ended j c (stRes .leafExhausted) t)) ∧
    ((s.vault.lms.find? fun x => x.id == l.id) = some l →
      (l.raising = true → ∃ t, exec (.lmsReservationComplete l.id) s = .next t ∧
        (t.vault.lms.find? fun x => x.id == l.id) = some { l with rl := l.rl + l.b, raising := false } ∧
        (s.cmd? j = some c → jobKey s c.job = some k → k.lmsId = l.id → c.prog.wait = some .leaf →
          t.cmd? j = some { c with prog := { c.prog with wait := none } })) ∧
      (l.raising = false → exec (.lmsReservationComplete l.id) s = .next s) ∧
      ∃ t, exec (.lmsNextTreeReady l.id) s = .next t ∧
        (t.vault.lms.find? fun x => x.id == l.id) = some { l with treeReady := true } ∧
        (s.cmd? j = some c → jobKey s c.job = some k → k.lmsId = l.id → c.prog.wait = some .leaf →
          t.cmd? j = some { c with prog := { c.prog with wait := none } }))

/-- RSA on a number cell (R210, R214, R216): encryption and encapsulation, decryption with its one status for every failure, signing
into the release check, and verification. -/
def Obligations.RsaOperations : Prop :=
  ∀ (s : State) (j : Nat) (c : Cmd) (sk pub : List Byte),
    let a := c.job.alg
    let n := rsaSize s c.job / 8
    let pk := verifyKey c.job pub
    let input := [sk, le 1 a, le 1 c.job.phFunc, c.job.ctx, c.job.operand 0]
    KeyUsable c 1 (keyLimit s c.job) s → KeyHere c sk pub s → Passes [slotQuota s c] →
    (AtWork 0x0305 j c s → Passes (numChecks s c.job [0, 1] 5) →
      (a = 0x84 → ∃ (t : State) (d out : List Byte), exec (.kemRsaEncrypt j) s = .next t ∧ d.length = n ∧
        let z := stdN n "RSASVE z from 2 to n - 2" [pk, d]
        SharedOut c.job out z ∧ Ended j c (outsTo c.job [(1, stdN n "RSA public operation" [pk, z]), (2, out)]) t) ∧
      (a = 0x83 → ∃ (t : State) (d : List Byte), exec (.kemRsaEncrypt j) s = .next t ∧ d.length = phLen c.job.phFunc ∧
        Ended j c (outTo c.job 1 (stdN n "RSAES-OAEP encrypt" [pk, le 1 c.job.phFunc, c.job.ctx, c.job.operand 0, d])) t)) ∧
    (AtWork 0x0306 j c s → Passes (numChecks s c.job [0] 6) → RandomHere c (16 + n) s →
      (Config.stdOk "RSA decryption decodes" input = false →
        ∃ t, exec (.kemRsaDecrypt j) s = .next t ∧ Ended j c (stRes .decodeFail) t) ∧
      (Config.stdOk "RSA decryption decodes" input = true → a = 0x84 →
        ∃ (t : State) (out : List Byte), exec (.kemRsaDecrypt j) s = .next t ∧ SharedOut c.job out (stdN n "RSASVE recover" input) ∧
          Ended j c (outsTo c.job [(2, out)]) t) ∧
      (Config.stdOk "RSA decryption decodes" input = true → a = 0x83 →
        ∃ (t : State) (out : List Byte), exec (.kemRsaDecrypt j) s = .next t ∧
          let m := (Config.std "RSAES-OAEP decrypt" input).take (n - 2 * phLen c.job.phFunc - 2)
          SharedOut c.job out m ∧ Ended j c (if c.job.pbit 14 = true ∧ m.length ∉ [16, 24, 32, 48, 64] then stRes .paramUnsupported
            else outsTo c.job [(2, out)]) t)) ∧
    (AtWork 0x040B j c s → Passes (numChecks s c.job [0] 0) → RandomHere c (16 + n + saltBytes c.job) s →
      ∃ (t : State) (salt : List Byte), exec (.sigRsaSign j) s = .next t ∧ salt.length = saltBytes c.job ∧
        Signed j c (outsTo c.job (signOuts c.job (stdN n "RSA sign" ([le 1 a, sk, salt] ++ numMessage c.job)))) t) ∧
    (AtWork 0x040C j c s → Passes (numChecks s c.job [0, 1] 1) → ∃ t, exec (.sigRsaVerify j) s = .next t ∧ Ended j c
      (if Config.stdOk "RSA verify" ([le 1 a, pk, le 1 c.job.saltLen, c.job.operand 1] ++ numMessage c.job) then okRes
       else stRes .sigInvalid) t)

/-- Elliptic curves on a number cell (R217, R218, R219): signatures into the release check, verification, and the shared secret of ECDH,
with the public key of an ephemeral pair; a public key that fails validation gives ST_DECODE_FAIL. Code-based encapsulation (R220, R221, R223, R224): a Classic McEliece key is read from operand 3 or from its pin place, an HQC key
from the shelf; a decapsulation always ends with a shared secret. Operand slots (R201, R230): a write of a legal length awaits an empty partition, a reserved length changes nothing, the length takes
effect once no operand slot is held; the inspection window reads zero, and on a held slot sets DENIED. -/
def Obligations.CurvesAndCodes : Prop :=
  (∀ (s : State) (j : Nat) (c : Cmd) (sk pub : List Byte),
    let a := c.job.alg
    let f := (pubLen a - 1) / 2
    let pk := verifyKey c.job pub
    KeyUsable c 1 (keyLimit s c.job) s → KeyHere c sk pub s → Passes [slotQuota s c] →
    (Passes (numChecks s c.job [0] 0) →
      (AtWork 0x040D j c s → RandomHere c ((if c.job.pbit 10 then 0 else f + 8) + (8 + f)) s →
        ∃ (t : State) (d : List Byte), exec (.sigEcdsaSign j) s = .next t ∧ (c.job.pbit 10 = true → d = []) ∧
          Signed j c (outsTo c.job (signOuts c.job (stdN (sigLen a) "ECDSA sign" ([le 1 a, sk, d] ++ numMessage c.job)))) t) ∧
      (AtWork 0x040F j c s → RandomHere c (8 + pubLen a) s → ∃ t, exec (.sigEddsaSign j) s = .next t ∧
        Signed j c (outsTo c.job (signOuts c.job (stdN (sigLen a) "EdDSA sign" ([le 1 a, sk] ++ eddsaInput c.job)))) t)) ∧
    (Passes (numChecks s c.job [0, 1] 1) →
      (AtWork 0x040E j c s → ∃ t, exec (.sigEcdsaVerify j) s = .next t ∧ Ended j c
        (if c.job.pbit 13 && !Config.stdOk "SP 800-56A public key validation" [le 1 a, pk] then stRes .decodeFail
         else if Config.stdOk "ECDSA verify" ([le 1 a, pk, c.job.operand 1] ++ numMessage c.job) then okRes
         else stRes .sigInvalid) t) ∧
      (AtWork 0x0410 j c s → ∃ t, exec (.sigEddsaVerify j) s = .next t ∧ Ended j c
        (if !Config.stdOk "EdDSA public key decodes" [le 1 a, pk] then stRes .decodeFail
         else if Config.stdOk "EdDSA verify, cofactored" ([le 1 a, pk, c.job.operand 1] ++ eddsaInput c.job) then okRes
         else stRes .sigInvalid) t)) ∧
    (AtWork 0x0307 j c s → Passes (numChecks s c.job [0] 4) → RandomHere c (8 + ecdhField a) s →
      ∃ (t : State) (priv out : List Byte), exec (.kemEcdh j) s = .next t ∧ (c.job.pbit 16 = false → priv = sk) ∧
        SharedOut c.job out (stdN (sharedLen a) "ECDH" [le 1 a, priv, c.job.operand 3]) ∧
        Ended j c (if !Config.stdOk "classical public key validation" [le 1 a, c.job.operand 3, priv] then stRes .decodeFail
          else outsTo c.job ((if c.job.pbit 16 then [(1, stdN (pubLen a) "classical public key" [le 1 a, priv])] else []) ++
            [(2, out)])) t)) ∧
  (∀ (s : State) (j : Nat) (c : Cmd) (sk pub pk : List Byte),
    let a := c.job.alg
    KeyUsable c 1 (keyLimit s c.job) s → Passes [slotQuota s c] →
    (Passes (numChecks s c.job [0, 1] 2) →
      (AtWork 0x0308 j c s →
        (jobKey s c.job = none ∧ pk = c.job.operand 3 ∧ ∀ i ∈ c.job.streamed, (tfind c.job.parts i).isSome = true) ∨
          (∃ k p, jobKey s c.job = some k ∧ pinOf s c.rgn k = some p ∧ pk = p.pub) →
        ∃ (t : State) (d out : List Byte), exec (.kemMceEncaps j) s = .next t ∧ d.length = 32 ∧
          SharedOut c.job out (stdN (sharedLen a) "Classic McEliece encapsulation key" [le 1 a, pk, d]) ∧
          Ended j c (outsTo c.job [(1, stdN (sigLen a) "Classic McEliece ciphertext" [le 1 a, pk, d]), (2, out)]) t) ∧
      (AtWork 0x030A j c s → KeyHere c sk pub s →
        ∃ (t : State) (d out : List Byte), exec (.kemHqcEncaps j) s = .next t ∧ d.length = 48 ∧
          SharedOut c.job out (stdN (sharedLen a) "HQC encapsulation key" [le 1 a, verifyKey c.job pub, d]) ∧
          Ended j c (outsTo c.job [(1, stdN (sigLen a) "HQC ciphertext" [le 1 a, verifyKey c.job pub, d]), (2, out)]) t)) ∧
    (Passes (numChecks s c.job [0] 3) → KeyHere c sk pub s →
      (AtWork 0x0309 j c s → ∃ (t : State) (out : List Byte), exec (.kemMceDecaps j) s = .next t ∧
        SharedOut c.job out (stdN (sharedLen a) "Classic McEliece decapsulation" [le 1 a, sk, c.job.operand 0]) ∧
        Ended j c (outsTo c.job [(2, out)]) t) ∧
      (AtWork 0x030B j c s → ∃ (t : State) (out : List Byte), exec (.kemHqcDecaps j) s = .next t ∧
        SharedOut c.job out (stdN (sharedLen a) "HQC decapsulation" [le 1 a, sk, c.job.operand 0]) ∧
        Ended j c (outsTo c.job [(2, out)]) t))) ∧
  (∀ (s : State) (r p v o : Nat),
    (Reached 0 s → s.enabled r = true → p < 4 →
      (4 ≤ v % 128 → v % 128 ≤ 64 → ∃ t, exec (.slotLenWrite r p v) s = .next t ∧ (t.pan r p).slots.next = some (v % 128) ∧
        (t.pan r p).slots.len64 = (s.pan r p).slots.len64) ∧
      (v % 128 < 4 ∨ 64 < v % 128 → exec (.slotLenWrite r p v) s = .next s)) ∧
    (∀ n, (s.pan r p).slots.next = some n →
      (s.operandHeld r p = [] → ∃ t, exec (.slotLengthApply r p) s = .next t ∧ (t.pan r p).slots.len64 = n ∧
        (t.pan r p).slots.next = none) ∧
      (s.operandHeld r p ≠ [] → exec (.slotLengthApply r p) s = .next s)) ∧
    (Reached 0 s → s.enabled r = true → o < 4096 → ∃ t, exec (.slotInspectRead r o) s = .next t ∧ t.out = s.out ++ [.value 0] ∧
      (t.region r).num.inspectDenied = ((s.region r).num.inspectDenied || slotHeld s r (s.region r).num.inspectSel)))

/-- The symmetric verbs (R235, R238, R241, R242, R243): with its checks passed, its use counted and its key at hand, each ends with the
output of its mode; plaintext leaves only with a tag that verifies, and a tag or integrity failure gives ST_TAG_FAIL and is counted. -/
def Obligations.SymmetricVerbs : Prop :=
  ∀ (s : State) (j : Nat) (c : Cmd) (sk pub : List Byte),
    let m := c.job.mode
    let opened := [le 1 m, sk, segNonce c.job (c.job.operand 3), aad c.job, c.job.operand 0]
    let wrapped := [le 1 m, sk, c.job.operand 0]
    let Failed (t : State) : Prop := Ended j c (stRes .tagFail) t ∧ (t.region c.rgn).sym.tagFail = inc32 (s.region c.rgn).sym.tagFail
    Passes (symChecks s c.job) → KeyUsable c (symCount c.job).1 (symLimit s c.job) s → KeyHere c sk pub s →
    (AtWork 0x0601 j c s → RandomHere c (if c.job.pbit 9 then 12 else 0) s →
      ∃ (t : State) (n : List Byte), exec (.symAeadEncrypt j) s = .next t ∧
        (c.job.pbit 9 = true → n.length = 12) ∧ (c.job.pbit 9 = false → n = c.job.operand 3) ∧
        let args := [le 1 m, sk, segNonce c.job n, aad c.job, c.job.operand 0]
        Ended j c (outsTo c.job ([(1, stdN (symData c.job) "AEAD ciphertext" args), (2, stdN c.job.tagLen "AEAD tag" (args ++ (if m = 2 then [le 1 c.job.tagLen] else [])))] ++
          if c.job.pbit 9 then [(3, n)] else [])) t) ∧
    (AtWork 0x0602 j c s →
      (Config.stdOk "AEAD tag verifies" (opened ++ [c.job.operand 1]) = true → ∃ t, exec (.symAeadDecrypt j) s = .next t ∧
        Ended j c (outTo c.job 2 (stdN (symData c.job) "AEAD plaintext" opened)) t) ∧
      (Config.stdOk "AEAD tag verifies" (opened ++ [c.job.operand 1]) = false → ∃ t, exec (.symAeadDecrypt j) s = .next t ∧ Failed t)) ∧
    (AtWork 0x0603 j c s → ∃ t, exec (.symCipherEncrypt j) s = .next t ∧
      Ended j c (outTo c.job 1 (stdN (symData c.job) "cipher encrypt" [le 1 m, sk, c.job.operand 3, c.job.operand 0])) t) ∧
    (AtWork 0x0604 j c s → ∃ t, exec (.symCipherDecrypt j) s = .next t ∧
      Ended j c (outTo c.job 1 (stdN (symData c.job) "cipher decrypt" [le 1 m, sk, c.job.operand 3, c.job.operand 0])) t) ∧
    (AtWork 0x0605 j c s → ∃ t, exec (.symMac j) s = .next t ∧ Ended j c (outTo c.job 1 (symTag c.job sk)) t) ∧
    (AtWork 0x0606 j c s →
      (symTag c.job sk = c.job.operand 1 → ∃ t, exec (.symMacVerify j) s = .next t ∧ Ended j c okRes t) ∧
      (symTag c.job sk ≠ c.job.operand 1 → ∃ t, exec (.symMacVerify j) s = .next t ∧ Failed t)) ∧
    (AtWork 0x0607 j c s → ∃ t, exec (.symWrap j) s = .next t ∧
      Ended j c (outTo c.job 1 (stdN (wrapLen c.job) "AES key wrap" wrapped)) t) ∧
    (AtWork 0x0608 j c s →
      (Config.stdOk "AES key wrap integrity" wrapped = true → ∃ t, exec (.symUnwrap j) s = .next t ∧ Ended j c (outTo c.job 1
        (if m = 0x31 then stdN (symData c.job - 8) "AES key unwrap" wrapped
         else (Config.std "AES key unwrap" wrapped).take (symData c.job - 8))) t) ∧
      (Config.stdOk "AES key wrap integrity" wrapped = false → ∃ t, exec (.symUnwrap j) s = .next t ∧ Failed t))

/-- The verbs and registers of time (R250, R260, R261): TIME.READ answers the tick, quality and estimate; TIME.SET steps the tick to the
value given, and is refused while LOCKED or HOLDOVER; a read of TIM_NOW_NS latches the seconds; a TIM_CFG write loses every source it
disables; an armed alarm fires at or past its second. -/
def Obligations.TimeIsReadAndSet : Prop :=
  ∀ (s : State) (j v : Nat) (c : Cmd) (b : BootIn),
    (AtWork 0x0901 j c s → Passes [paramZero c.job 0xFFFFFFFF, bodyIs c.job 0, famEnabled s c.job] →
      ∃ t, exec (.timeRead j) s = .next t ∧ t.time = s.time ∧ Ended j c (respRes s.timeBody) t) ∧
    (AtWork 0x0902 j c s → Passes [paramZero c.job 0xFFFFFFFF, bodyIs c.job 8, famEnabled s c.job] →
      (s.time.quality.code < 2 → ∃ t, exec (.timeSet j) s = .next t ∧ t.tick = fld c.job.args 0 8 ∧ t.time.quality = .free ∧
        t.time.isUnset = false ∧ t.time.stepped = true ∧ Ended j c okRes t) ∧
      (2 ≤ s.time.quality.code → ∃ t, exec (.timeSet j) s = .next t ∧ t.tick = s.tick ∧ t.time = s.time ∧
        Ended j c (stRes .notPermitted) t)) ∧
    (Reached 0 s →
      (∃ t, exec .timNowRead s = .next t ∧ t.time.latchSec = s.tick / 1000000000 ∧ t.tick = s.tick ∧
        t.out = s.out ++ [.value (s.tick % 1000000000 + s.time.quality.code * 2 ^ 30)]) ∧
      ∃ t, exec (.timCfgWrite v) s = .next t ∧ t.time.cfg = cfgWrite s v ∧
        ∀ x, t.time.cfg.en x = false → (t.time.src x).qualified = false ∧ (t.time.src x).validSince = none) ∧
    s.timeBody = le 8 s.tick ++ le 2 s.time.utcOffset ++ le 1 s.time.quality.code ++
      le 1 (flag s.time.leap61 0 + flag s.time.leap59 1 + flag s.time.leapNow 2) ++ le 4 s.errReg ∧
    (s.time.armed = true → s.time.alarmSec * 1000000000 ≤ s.tick → s.pkg.pwrgdAon = true → s.wakeable = false →
      exec (.timeAlarmFire b) s = .next { s with time := { s.time with armed := false } })

/-- The sources of the tick (R250, R252, R254, R255, R545): a source valid for QUALIFY_S qualifies, and the best qualified one is the
source; from COARSE or FREE an offset of 1 ms or more steps the tick and a smaller one does not; from LOCKED nothing steps; the loss of
the last source gives HOLDOVER; the estimate reaching LOCK_NS gives LOCKED, and reaching HOLDOVER_NS in HOLDOVER gives FREE. What the inputs of the time unit bring, and its leap seconds and pulse (R253, R257, R258): an Announce, a Sync, an IRIG-B frame and
a PPS edge are taken from an enabled source; LEAP_NOW covers the inserted second and OFFSET changes at its end; where PPS_OUT is
driven, the pin rises at a whole second and stays high for WIDTH_MS. -/
def Obligations.TimeSourcesAndInputs : Prop :=
  (∀ (s : State) (x : TSrc) (e : Nat) (ok : Bool),
    (∀ v, (s.time.src x).validSince = some v → (s.time.src x).qualified = false → s.time.cfg.en x = true →
      v + s.time.cfg.qualifyS * 1000000000 ≤ s.tick → (x = .pps → s.time.secSet = true) →
      let now := s.time.modSrc x fun r => { r with qualified := true }
      let off := (utcOf x { s with time := now }).time.offsetOf x
      ∃ t, exec (.sourceQualified x) s = .next t ∧ (t.time.src x).qualified = true ∧ t.time.source = now.best ∧
        (s.time.quality = .locked → t.time.quality = .locked ∧ t.tick = s.tick) ∧
        (s.time.quality = .coarse ∨ s.time.quality = .free → s.time.source = none → now.best = some x →
          (1000000 ≤ off.natAbs → t.tick = moveTick s.tick off ∧ t.time.stepped = true) ∧
          (off.natAbs < 1000000 → t.tick = s.tick ∧ t.time.slewFrom = off))) ∧
    (lossDue s x = true → ∃ t, exec (.sourceLost x) s = .next t ∧ (t.time.src x).qualified = false ∧
      (t.time.src x).validSince = none ∧
      (s.time.held = some x → s.time.quality = .locked → (∀ y, y ≠ x → (s.time.src y).qualified = false) →
        t.time.quality = .holdover ∧ t.time.source = none ∧ t.tick = s.tick ∧ t.errEst = s.errEst)) ∧
    (lossDue s x = false → exec (.sourceLost x) s = .next s) ∧
    (s.errEst = some e →
      (s.time.held = some x → e ≤ s.time.cfg.lockNs → exec .lockAchieved s = .next { s with time :=
        { s.time with quality := .locked, isUnset := false, secSet := true } }) ∧
      (s.time.quality = .holdover → s.time.cfg.holdoverNs ≤ e →
        exec .holdoverExpiry s = .next ({ s with time := { s.time with quality := .free } } : State).ppsHeld)) ∧
    ∃ t, exec (.tcxoToleranceChange ok) s = .next t ∧ t.time.tcxoOk = ok ∧ t.errEst = s.errEst ∧ t.tick = s.tick) ∧
  (∀ (s : State) (p domain m interval err utc : Nat) (x : TSrc) (off : Int) (l61 l59 : Bool),
    (portSource s p = some x → s.linkUp p = true → (s.port p).mode = .endpoint ∨ (s.port p).mode = .passThrough →
      domain = s.time.cfg.domain →
      ((s.time.src x).follows m = true → ∃ t, exec (.ptpMessageReceive p domain (.announce m) interval off err utc l61 l59) s = .next t ∧
        (t.time.src x).master = some m ∧ (t.time.src x).lastAnnounce = s.tick ∧ (t.time.src x).annInterval = interval ∧ (t.time.src x).validSince.isSome = true ∧
        (s.time.held = some x → t.time.utcOffset = utc ∧ t.time.leap61 = l61 ∧ t.time.leap59 = l59 ∧ t.time.fromSource = true)) ∧
      ((s.time.src x).master = some m → ∃ t, exec (.ptpMessageReceive p domain (.sync m) interval off err utc l61 l59) s = .next t ∧ (t.time.src x).offset = off ∧
        (t.time.src x).err = err ∧ (t.time.src x).lastSync = s.tick ∧ (t.time.src x).syncInterval = interval ∧ t.tick = s.tick)) ∧
    (s.time.cfg.irigEn = true →
      (err ≤ 1000 → ∃ t, exec (.irigFrameReceive true off err utc l61 l59) s = .next t ∧ t.time.irig.offset = off ∧
        t.time.irig.err = err ∧ t.time.irig.missed = 0 ∧ t.time.irig.lastSync = s.tick ∧ t.tick = s.tick) ∧
      ∀ ok, ok = false ∨ 1000 < err → exec (.irigFrameReceive ok off err utc l61 l59) s =
        .next { s with time := { s.time with irig := { s.time.irig with missed := s.time.irig.missed + 1 } } }) ∧
    (s.time.cfg.ppsEn = true → ∃ t, exec .ppsInEdge s = .next t ∧ t.time.pps.lastSync = s.tick ∧ t.tick = s.tick ∧
      (Int.ofNat s.tick + t.time.pps.offset) % 1000000000 = 0 ∧ t.time.pps.offset.natAbs ≤ 500000000) ∧
    (s.time.leap61 = true →
      (s.time.leapAt + 1000000000 ≤ s.tick → exec .leapSecondBoundary s = .next { s with time :=
        { s.time with leapNow := false, leap61 := false, utcOffset := (s.time.utcOffset + 1) % 65536 } }) ∧
      (s.time.leapAt ≤ s.tick → s.tick < s.time.leapAt + 1000000000 →
        exec .leapSecondBoundary s = .next { s with time := { s.time with leapNow := true } })) ∧
    (s.time.leap61 = false → s.time.leap59 = true → s.time.leapAt ≤ s.tick → exec .leapSecondBoundary s = .next { s with time :=
      { s.time with leap59 := false, utcOffset := s.time.utcOffset - 1 } }) ∧
    ∃ t, exec .ppsOutPulse s = .next t ∧ t = { s with time := { s.time with ppsPin := t.time.ppsPin } } ∧
      (t.time.ppsPin = true ↔ s.time.cfg.ppsOutEn = true ∧ (2 ≤ s.time.quality.code ∨ s.time.cfg.ppsOutAlways = true) ∧
        (s.tick % 1000000000 ≤ 10 ∨ s.time.ppsPin = true ∧ s.tick % 1000000000 < s.time.cfg.widthMs * 1000000)))

/-- The configuration verbs of frames (R268, R270, R271, R272, R279, R281, R282): with its checks passed each ends
with ST_OK, and at the DONE of its request (`frmSettled`) what its body says is written; a rewrite that keeps the key of a stream keeps
its replay state, keys and subscriptions, and another clears them. -/
def Obligations.FrameConfiguration : Prop :=
  ∀ (s : State) (j : Nat) (c : Cmd) (st : Stream),
    let b := c.job.args
    let n := fld b 0 2
    let i := c.job.targetInst
    let fam := famEnabled s c.job
    let zero := paramZero c.job 0xFFFFFFFF
    let mine (x : Sub) : Prop := x.inst = i ∧ x.ring = fld b 2 1
    let m := portMode (fld b 1 1)
    let q := partner (fld b 0 1)
    let len := fld b 3 1
    let k : FKey := { keyId := slice b 4 4, from' := fld b 8 8, till := fld b 0x10 8, key := slice b 0x18 len }
    let Sets (i : Instr) (P : State → Prop) : Prop :=
      (∃ t, exec i s = .next t ∧ t.frames = s.frames ∧ Ended j c okRes t) ∧ (frmSettled c okRes s).2 = okRes ∧ P (frmSettled c okRes s).1
    (s.stream? n = some st → fam = none → zero = none →
      (AtWork 0x0802 j c s → bodyIs c.job 8 = none → fld b 2 1 ≤ 7 → fld b 3 1 ≤ 2 → zero? b 4 4 = true →
        st.cfg.owner = i ∨ bit st.cfg.flags 2 = true → fld b 3 1 ≠ 2 ∨ bit st.cfg.flags 3 = true →
        st.subs.length < 8 ∨ (∃ x ∈ st.subs, mine x) → Sets (.frmSubscribe j) fun t => ∃ u, t.stream? n = some u ∧ u.cfg = st.cfg ∧
          (∃ x ∈ u.subs, mine x ∧ x.deliver = fld b 3 1) ∧ ∀ x ∈ st.subs, ¬ mine x → x ∈ u.subs) ∧
      (AtWork 0x0803 j c s → bodyIs c.job 4 = none → fld b 2 1 ≤ 7 → zero? b 3 1 = true →
        Sets (.frmUnsubscribe j) fun t => ∃ u, t.stream? n = some u ∧ ∀ x, x ∈ u.subs ↔ x ∈ st.subs ∧ ¬ mine x) ∧
      (bodyIs c.job 4 = none → zero? b 2 2 = true →
        (AtWork 0x0806 j c s → Sets (.frmStreamClear j) fun t => t.stream? n = none) ∧
        (AtWork 0x0808 j c s → ∃ t u, exec (.frmStreamRelease j) s = .next t ∧ Ended j c okRes t ∧ t.stream? n = some u ∧
          (st.st = .quarantined → u = { st with st := .inactive, fails := [] }) ∧ (st.st ≠ .quarantined → u = st)) ∧
        (AtWork 0x0809 j c s → ∃ t, exec (.frmStreamStatus j) s = .next t ∧ Ended j c (respRes st.record) t)) ∧
      (AtWork 0x0807 j c s → bodyIs c.job 0x38 = none → n ≤ 4094 → fld b 2 1 ≤ 1 → k.from' < k.till →
        zero? b (0x18 + min 32 len) (32 - min 32 len) = true → len = 0 ∨ keySuits st.cfg.auth len = true →
        Sets (.frmKeySet j) fun t => ∃ u, t.stream? n = some u ∧
          (fld b 2 1 = 0 → u = { st with key0 := if len = 0 then none else some k }) ∧
          (fld b 2 1 = 1 → u = { st with key1 := if len = 0 then none else some k }))) ∧
    (AtWork 0x0805 j c s → fam = none → zero = none → bodyIs c.job 0x28 = none → n ≤ 4094 → (readStream b).ok = true →
      zero? b 0x27 1 = true → (∀ e ∈ s.frames.streams, e.1 ≠ n → (readStream b).overlaps e.2.cfg = false) →
      Sets (.frmStreamSet j) fun t => ∃ u, t.stream? n = some u ∧ u.cfg = readStream b ∧
        (s.stream? n = some st → st.cfg.sameKey (readStream b) = true → u.subs = st.subs ∧ u.key0 = st.key0 ∧ u.key1 = st.key1 ∧
          u.lastSt = st.lastSt ∧ u.lastSq = st.lastSq ∧ u.st = st.st) ∧
        (s.stream? n = none ∨ (s.stream? n = some st ∧ st.cfg.sameKey (readStream b) = false) →
          u.subs = [] ∧ u.key0 = none ∧ u.key1 = none ∧ u.seen = false ∧ u.st = .inactive)) ∧
    (AtWork 0x0804 j c s → fam = none → zero = none → bodyIs c.job 8 = none →
      let p := fld b 0 1
      let mate := if m = .passThrough then .passThrough else if (s.port p).mode = .passThrough then .disabled else (s.port q).mode
      p < 16 → fld b 1 1 ≤ 3 → fld b 2 1 ≤ 2 → fld b 3 1 ≤ 2 → 1518 ≤ fld b 4 2 → fld b 4 2 ≤ 9216 → fld b 6 1 ≤ 7 ∨ fld b 6 1 = 0xFF →
      fld b 7 1 < 4 → (m = .tap → portSource s p = none) → (fld b 3 1 = 1 → mate = m) →
      Sets (.frmPortSet j) fun t => (t.port p).mode = m ∧ (t.port p).speed = fld b 2 1 ∧ (t.port p).redundancy = fld b 3 1 ∧
        (t.port p).mtu = fld b 4 2 ∧ (t.port p).unknownRing = fld b 6 1 ∧ (t.port p).fwdUnknown = bit (fld b 7 1) 0 ∧
        (t.port p).fwdOther = bit (fld b 7 1) 1 ∧ (t.port q).mode = mate)

/-- A frame ring (R283, R285, R87) enables with its tail at 0 and PHASE 1, or sets ERR_CFG, and an accepted head doorbell frees space and
resumes the ring, another sets DB_RANGE. Frames leave by the egress queues (R275, R286, R289): FRM.SEND queues its frame, the frame first in priority leaves through a link
that is up, a FRM.SEND command ends as its frame leaves, and a link comes up only on a port that is in use. -/
def Obligations.FramesAreSent : Prop :=
  (∀ (s : State) (k r v : Nat), Reached k s → s.present k = true → r < 8 →
      let x := s.fring k r
      let h := bits v 21 0
      (bit v 0 = true → x.enable = false →
        (16 ≤ x.log2 → x.log2 ≤ 26 → x.base + 2 ^ x.log2 ≤ 2 ^ 64 → ∃ t, exec (.frameRingEnable k r v) s = .next t ∧
          (t.fring k r).enable = true ∧ (t.fring k r).tail = 0 ∧ (t.fring k r).head = 0 ∧ (t.fring k r).phase = true ∧
          (t.fring k r).errCfg = false) ∧
        (x.log2 < 16 ∨ 26 < x.log2 ∨ 2 ^ 64 < x.base + 2 ^ x.log2 → ∃ t, exec (.frameRingEnable k r v) s = .next t ∧
          (t.fring k r).enable = false ∧ (t.fring k r).errCfg = true)) ∧
      (bit v 0 = false → ∃ t, exec (.frameRingEnable k r v) s = .next t ∧ (t.fring k r).enable = false) ∧
      (x.enable = true →
        let good : Prop := h < x.units ∧ (h + x.units - x.head) % x.units ≤ (x.tail + x.units - x.head) % x.units
        (good → ∃ t, exec (.frameRingDoorbell k r v) s = .next t ∧ t.fring k r = { x with
          head := h, stopped := false,
          unsignalled := (keepBeyond s.tick ((x.tail + x.units - h) % x.units) x.unsignalled.reverse).reverse }) ∧
        (¬ good → ∃ t, exec (.frameRingDoorbell k r v) s = .next t ∧ t.fring k r = { x with dbRange := true }))) ∧
  (∀ (s : State) (p j : Nat) (c : Cmd) (st : Stream) (e : Egress),
    (AtWork 0x0801 j c s → Passes [paramZero c.job 0xFFFFC000, check c.job.args.isEmpty .malformed, famEnabled s c.job, sendBad s c.job] →
      s.stream? (bits c.job.param.toNat 11 0) = some st →
      let out := match c.job.pbit 12, st.keyAt c.job.acceptTick with
        | true, some k => signFrame st.cfg.auth k (c.job.operand 0)
        | _, _ => c.job.operand 0
      ((s.port st.cfg.egress).queue.map (·.data.length)).sum + out.length ≤ 1048576 →
      ∃ t d x, exec (.frmSend j) s = .next t ∧ t.cmd? j = some d ∧ d.job = c.job ∧ d.prog.phase = .running ∧
        (t.port st.cfg.egress).queue = (s.port st.cfg.egress).queue ++ [x] ∧ x.data = out ∧ x.send = some j) ∧
    (nextEgress (s.port p).queue = some e → s.canSend p = true →
      (e.send = none →
        ((∀ d, e.ttl = some d → s.tick < e.ingress + d) → ∃ t, exec (.frameEgress p) s = .next t ∧
          s.out ++ [.frame p (leaving s e)] <+: t.out ∧
          (t.port p).queue = (s.port p).queue.erase e) ∧
        (∀ d, e.ttl = some d → e.ingress + d ≤ s.tick → ∃ t, exec (.frameEgress p) s = .next t ∧ t.out = s.out ∧
          (t.port p).queue = (s.port p).queue.erase e)) ∧
      (e.send = some j → (∀ q, q < p → (nextEgress (s.port q).queue).all (fun f => f.send != some j) = true) →
        s.cmd? j = some c → ∃ t, exec (.frmSendEgress j) s = .next t ∧ s.out ++ [.frame p (leaving s e)] <+: t.out ∧
          (t.port p).tx = inc32 (s.port p).tx ∧
          Ended j c (if c.job.frags.any fun f => f.operand == 1 then outTo c.job 1 (le 8 s.tick) else okRes) t)) ∧
    (p < 16 → (s.port p).mode ≠ .disabled → s.portsUp = true → ∀ up, ∃ t, exec (.framePortLinkChange p up) s = .next t ∧
      t.port p = { s.port p with link := up }) ∧
    ((s.port p).mode = .disabled → ∀ up, exec (.framePortLinkChange p up) s = .next s))

/-- Frames are judged, and streams follow their clocks (R273, R276, R278, R279): a frame of a stream takes
POLICING_DROP where its bucket is empty, or the verdict of the checks in their order; only one that passes changes replay and silence state; a failure is counted and stamped; a stream falls SILENT, is counted
by the second, and leaves quarantine QUAR_S after its last failure. -/
def Obligations.FramesAreJudged : Prop :=
  ∀ (s : State) (p n : Nat) (b : List Byte) (st : Stream),
    (s.linkUp p = true → p < 16 →
      (∀ f, streamOf s p b = none → ∃ t, exec (.frameReceive p b false f) s = .next t ∧ t.frames.streams = s.frames.streams ∧
        (t.port p).rxErr = inc32 (s.port p).rxErr ∧ (t.port p).rxFrames = inc32 (s.port p).rxFrames) ∧
      (streamOf s p b = some n → s.stream? n = some st → st.cfg.kind ≠ 4 → 60 ≤ b.length → netLength (s.red p) b ≤ (s.port p).mtu →
        (parseFrame (s.red p) b).et ≠ 0x88F7 →
        (∀ lan seq, redTag (s.red p) b = some (lan, seq) →
          (dupCheck (s.port (p - p % 2)).seen (srcMac b) { seq := seq, lan := lan, tick := s.tick }).1 = false) →
        let v := if 0 < st.cfg.rateCeil ∧ st.refill s.tick < 1000000000 then 0x15
          else (judge s n st (parseFrame (s.red p) b).off b (bareFrame (s.red p) b) s.tick false).code
        ∃ t u, exec (.frameReceive p b true false) s = .next t ∧ t.stream? n = some u ∧
          (t.port p).rxFrames = inc32 (s.port p).rxFrames ∧
          (v ≤ 1 → u.st = .active ∧ u.lastTick = s.tick ∧ u.passed = satAdd max64 st.passed 1 ∧ u.failed = st.failed) ∧
          (1 < v → u.lastSt = st.lastSt ∧ u.lastSq = st.lastSq ∧ u.lastTick = st.lastTick ∧ u.passed = st.passed) ∧
          (isFailure v = true → u.failed = satAdd max64 st.failed 1 ∧ u.lastFail = s.tick) ∧
          (v = 0x17 → u.st = .quarantined ∧ u.quarFrames = satAdd max64 st.quarFrames 1 ∧ u.lastFail = st.lastFail))) ∧
    (s.linkUp p = false → ∀ fcs f, exec (.frameReceive p b fcs f) s = .next s) ∧
    (s.stream? n = some st →
      (∀ d, st.silence = some d → st.st = .active → st.lastTick + d ≤ s.tick →
        ∃ t, exec (.streamSilenceExpiry n) s = .next t ∧ t.stream? n = some { st with st := .silent }) ∧
      (st.lastFail + st.cfg.quarS * 1000000000 ≤ s.tick → st.st = .quarantined →
        ∃ t, exec (.quarantineHoldExpiry n) s = .next t ∧ t.stream? n = some { st with st := .inactive, fails := [] }) ∧
      (s.tick < st.lastFail + st.cfg.quarS * 1000000000 → exec (.quarantineHoldExpiry n) s = .next s) ∧
      (s.tick / 1000000000 = st.second + 1 → ∃ t, exec .rateSecondBoundary s = .next t ∧ t.stream? n =
        some { st with second := s.tick / 1000000000, count := 0, rateLow := decide (st.count < st.cfg.rateFloor) }))

/-- Harvest windows (R293, R298, R299, R303, R304, R307, R308, R312): a session is set and ended at the DONE of its request
(R272) and reported; a window that ends is closed
and its record signed; sealed objects leave and count; a record whose signature verifies passes and moves the last passing index, and
one whose signature does not fails; late assemblies and frames are given up. -/
def Obligations.HarvestWindows : Prop :=
  ∀ (s : State) (j n w : Nat) (c : Cmd) (st h : Stream) (x : Session),
    let b := c.job.args
    let role := fld b 4 1
    let Sets (i : Instr) (P : State → Prop) : Prop :=
      (∃ t, exec i s = .next t ∧ t.frames = s.frames ∧ Ended j c okRes t) ∧ (frmSettled c okRes s).2 = okRes ∧ P (frmSettled c okRes s).1
    (fld b 0 2 = n → paramZero c.job 0xFFFFFFFF = none → famEnabled s c.job = none → s.stream? n = some st →
      (AtWork 0x080A j c s → bodyIs c.job 0x18 = none → harvestForm c.job = true →
        (role = 0 → Sets (.frmHarvestSet j) fun t => t.session? n = none) ∧
        (role ≠ 0 → s.stream? (fld b 2 2) = some h → harvestParams s c.job st h = true → harvestPort s role h = true →
          harvestKey s c.job role st.cfg.owner (fld b 5 1) = none →
          s.frames.sessions.length < 256 ∨ (s.session? n).isSome = true →
          Sets (.frmHarvestSet j) fun t => ∃ y, t.session? n = some y ∧ y.role = role ∧
            y.hstream = fld b 2 2 ∧ y.windowUs = fld b 6 2 ∧ y.handle = c.job.handle ∧ y.pend = [] ∧ y.window = none ∧
            s.tick ≤ y.fromWin * y.t ∧ y.fromWin * y.t < s.tick + y.t)) ∧
      (AtWork 0x080B j c s → bodyIs c.job 4 = none → zero? b 2 2 = true → c.job.handle = nullHandle →
        ∃ t, exec (.frmHarvestStatus j) s = .next t ∧
          Ended j c (respRes (((s.session? n).map sessionRecord).getD (zeros 0x28))) t)) ∧
    (s.session? n = some x →
      (s.stream? n = some st →
        (∀ o, x.window = some o → (o.win + 1) * x.t ≤ s.tick → s.anyInService = true →
          ∃ t, exec (.harvestWindowClose n) s = .next t ∧ t.session? n = some { x with window := none, sealing := x.sealing ++
            [{ win := o.win, record := harvestRecord x st.cfg o s.time.quality.code }] }) ∧
        (∀ o, x.window = some o → s.tick < (o.win + 1) * x.t → exec (.harvestWindowClose n) s = .next s) ∧
        (∀ y, x.sealing = [y] → y.win = w → y.object = none →
          (∀ k sig s1, sealStatus s x = none → s.key? x.handle = some k → sealSign x k y.record s = some (.ok sig, s1) →
            ∃ t u, exec (.harvestSealDone n w) s = .next t ∧ t.session? n = some u ∧ u.sealing = [] ∧
              u.lastIndex = some w ∧ u.done = satAdd max64 x.done 1 ∧ t.frames.hvw.sealed = inc32 s.frames.hvw.sealed) ∧
          (∀ bad, sealStatus s x = some bad → ∃ t u, exec (.harvestSealDone n w) s = .next t ∧ t.session? n = some u ∧
            u.sealing = [] ∧ u.failed = satAdd max64 x.failed 1 ∧ t.frames.hvw.sealFail = inc32 s.frames.hvw.sealFail)) ∧
        (∀ v rest k r e, x.verify = v :: rest → s.key? x.handle = some k → sealRegion s k = some r →
          s.onShelf k.home k.inst k.keyId = some e →
          let ok := Config.stdOk "ML-DSA.Verify" [le 1 x.sigAlg, e.pub, ascii "EXM-HARVEST-1", v.sig, ascii "pure", v.record]
          ∃ t u, exec (.harvestVerifyDone n) s = .next t ∧ t.session? n = some u ∧ u.verify = rest ∧
            (ok = true → u.lastIndex = some (fld v.record 0x18 6) ∧ u.done = satAdd max64 x.done 1 ∧
              t.frames.hvw.pass = inc32 s.frames.hvw.pass) ∧
            (ok = false → u.lastIndex = x.lastIndex ∧ u.done = x.done ∧ u.failed = satAdd max64 x.failed 1 ∧
              t.frames.hvw.fail = inc32 s.frames.hvw.fail))) ∧
      (let late (a : Assembly) : Bool := decide (a.since + 2 * x.t + x.wait ≤ s.tick)
        ∃ t, exec (.assemblyTimeout n) s = .next t ∧
          t.session? n = some { x with assemblies := x.assemblies.filter fun a => !late a } ∧
          t.frames.hvw.shardDrop = satAdd max32 s.frames.hvw.shardDrop (x.assemblies.filter late).length) ∧
      (let late (p : PFrame) : Bool := decide ((p.win + 1) * x.t + x.wait ≤ s.tick)
        ∃ t u, exec (.pendingFrameTimeout n) s = .next t ∧ t.session? n = some u ∧ u.pend = (x.pend.filter fun p => !late p) ∧
          t.frames.hvw.lost = satAdd max32 s.frames.hvw.lost (x.pend.filter late).length) ∧
      ∃ t, exec (.timeAllowedToLiveExpiry n) s = .next t ∧ t.session? n = some { x with pend := x.pend.map fun p =>
        if (p.held.any fun h => h.ttl.any fun d => decide (p.ingress + d ≤ s.tick)) then { p with held := none } else p })

/-- Where random bytes come from (R314-R317, R322, R324): windows that pass release their samples, the startup window's apart; one that
fails in RUNNING puts the region in HOLD with a seed asked for and its source in restart; seeds are kept, spared or end a HOLD; the
expander reseeds when it is due and fills the reservoir below 60 KiB; a start-up gives the mask streams of its pans their seeds. -/
def Obligations.RandomBytesAreMade : Prop :=
  ∀ (s : State) (r : Nat), s.enabled r = true →
    let g := (s.region r).rng
    let Now (i : Instr) (f : Rng → Prop) : Prop :=
      ∃ t, exec i s = .next t ∧ f (t.region r).rng ∧ OnlyRegion r s t
    let due : Prop := 67108864 ≤ g.since ∨ g.seedTick + 100000000 ≤ s.tick
    (s.samples r = true → g.lasting = false → g.restarting = false → g.state ≠ .failed →
      Now (.noiseWindowComplete r false false) fun h => h = if g.state = .starting ∧ g.startup = false then { g with startup := true }
        else { g with samples := g.samples + 1024 }) ∧
    (∀ rct apt, s.samples r = true → (rct || apt) = true → g.lasting = false → g.restarting = false →
      (g.state = .running → Now (.noiseWindowComplete r rct apt) fun h => h.state = .hold ∧ h.healthFail = true ∧
        h.restarting = true ∧ h.asked = true ∧ h.reservoir = g.reservoir ∧ h.rct = (if rct then inc32 g.rct else g.rct) ∧
        h.apt = if apt then inc32 g.apt else g.apt) ∧
      (g.state = .starting → g.startFails < 3 → Now (.noiseWindowComplete r rct apt) fun h => h.state = .starting ∧
        h.startFails = g.startFails + 1 ∧ h.samples = 0)) ∧
    (1280 ≤ g.samples → g.lasting = false → g.state ≠ .failed →
      (g.state = .running → g.ready = false →
        Now (.seedConditioned r) fun h => h = { g with samples := g.samples - 1280, ready := true }) ∧
      (g.state = .running → g.ready = true →
        Now (.seedConditioned r) fun h => h = { g with samples := g.samples - 1280, spare := true }) ∧
      (g.state = .hold ∨ g.state = .borrowed → Now (.seedConditioned r) fun h => h.state = .running ∧ h.asked = false ∧
        h.since = 0 ∧ h.seedTick = s.tick ∧ h.reseeds = inc32 g.reseeds)) ∧
    (due → g.state = .running → g.ready = true → Now (.reseedDue r) fun h => h.ready = false ∧ h.since = 0 ∧ h.seedTick = s.tick ∧
      h.reseeds = inc32 g.reseeds ∧ h.reservoir = g.reservoir) ∧
    (due → g.state = .borrowed → g.ready = false → Now (.reseedDue r) fun h => h.stopped = true ∧ h.asked = true) ∧
    (¬ due → exec (.reseedDue r) s = .next s) ∧
    (g.state = .running → g.reservoir < 61440 → ¬ due →
      Now (.expanderGenerate r) fun h => h = { g with reservoir := min 65536 (g.reservoir + 4096), since := g.since + 4096 }) ∧
    (g.state = .running → 61440 ≤ g.reservoir → exec (.expanderGenerate r) s = .next s) ∧
    (g.state = .starting → g.ready = true → (s.region r).svc.state ∈ [.loading, .rejoining, .inService, .testing] →
      s.pkg.zeroized = false ∨ (s.region r).svc.state ≠ .inService →
      let gets := panNums.filter fun p =>
        (s.region r).svc.state ≠ .inService ∨ ((s.pan r p).msg.fault = false ∧ (s.pan r p).svc.pwr ≠ .dormant)
      ∃ t, exec (.rngStartupComplete r) s = .next t ∧ (t.region r).rng.state = .running ∧ (t.region r).rng.since = 4096 ∧
        (t.region r).rng.reservoir = 4096 - 48 * gets.length ∧ (t.region r).rng.seedTick = s.tick ∧
        ∀ p ∈ gets, (t.pan r p).msg.seeded = true ∧ (t.pan r p).msg.used = 0)

/-- A failed source (R325, R326): a donor wraps its spare seed, a borrowed seed arrives or is asked for again, in advance where the region
stays BORROWED, and a restart ends transient or lasting. -/
def Obligations.SeedsAreBorrowed : Prop :=
  ∀ (s : State) (r d : Nat), s.enabled r = true →
    let g := (s.region r).rng
    let Now (i : Instr) (f : Rng → Prop) : Prop :=
      ∃ t, exec i s = .next t ∧ f (t.region r).rng ∧ OnlyRegion r s t
    (s.vault.starKey = true → g.asked = true → g.donor = some d → g.wrapped = false → d ≠ r → (s.region d).rng.spare = true →
      (s.region d).rng.state = .running → ∃ t, exec (.donorSeedWrap r) s = .next t ∧ (t.region r).rng.wrapped = true ∧
        (t.region d).rng.spare = false ∧ (t.region d).rng.donated = inc32 (s.region d).rng.donated ∧
        ∀ q, q ≠ r → q ≠ d → t.region q = s.region q) ∧
    (g.asked = true → g.donor = some d → g.wrapped = true → g.state = .hold →
      (∃ t, exec (.borrowedSeedArrival r true) s = .next t ∧ (t.region r).rng.state = .borrowed ∧ (t.region r).rng.asked = false ∧
        (t.region r).rng.borrowedN = inc32 g.borrowedN ∧ (t.region r).rng.reseeds = inc32 g.reseeds ∧
        (t.region r).rng.since = 0) ∧
      ∃ t, exec (.borrowedSeedArrival r false) s = .next t ∧ (t.region r).rng.state = .hold ∧ (t.region r).rng.asked = true ∧
        (t.region r).rng.wrapped = false ∧ (t.region r).rng.borrowedN = g.borrowedN) ∧
    (g.asked = true → g.donor = none → Now (.seedRequestRetry r) fun h => h.asked = true ∧ h.donor = donorFor s r ∧
      h.requestNo = g.requestNo + 1) ∧
    (g.state = .borrowed → g.lasting = true → g.asked = false → g.ready = false →
      (50331648 ≤ g.since ∨ g.seedTick + 75000000 ≤ s.tick) → Now (.borrowAdvanceDue r) fun h => h.asked = true ∧ h.donor = donorFor s r) ∧
    (g.restarting = true →
      (let recent := g.transients.filter fun t => decide (s.tick < t + 60000000000);
        recent.length < 3 → Now (.sourceRestartDone r true) fun h =>
          h = { g with restarting := false, samples := 0, transients := recent ++ [s.tick] }) ∧
      (s.pkg.fuses.rngStrict = false → s.faults.slotFor.isSome = true → ∃ t, exec (.sourceRestartDone r false) s = .next t ∧
        (t.region r).rng.state = .borrowed ∧ (t.region r).rng.lasting = true ∧ (t.region r).rng.restarting = false ∧
        t.faults.head = s.faults.head + 1))

/-- Who gets random bytes (R119, R122, R319-R321, R327, R328): the head of the waiting draws is served whole when no mask-stream seed
waits; one that waits past its limit ends; a mask-stream seed goes to the lowest pan; a generator fault is a RETRY; and the RNG verbs. -/
def Obligations.RandomBytesAreDrawn : Prop :=
  ∀ (s : State) (r p j : Nat) (c : Cmd),
    let g := (s.region r).rng
    (∀ cs, drawWaiters s r = c :: cs → s.cmd? c.job.id = some c → g.test = false → c.prog.need ≤ g.reservoir →
      s.tick < c.job.acceptTick + g.waitLimit * 1000000 →
      (seedWaiters s r = [] → ∃ t d, exec (.randomDrawServed r) s = .next t ∧ t.cmd? c.job.id = some d ∧ d.prog.wait = none ∧
        d.prog.granted = c.prog.need ∧ (t.region r).rng.reservoir = g.reservoir - c.prog.need ∧
        (t.region r).rng.waitNs = satAdd max64 g.waitNs (s.tick - c.prog.since)) ∧
      (seedWaiters s r ≠ [] → exec (.randomDrawServed r) s = .next s)) ∧
    (s.cmd? j = some c → c.prog.wait = some .random →
      ((c.job.acceptTick + (s.region c.rgn).rng.waitLimit * 1000000 ≤ s.tick) →
        ∃ t, exec (.randomDrawTimeout j) s = .next t ∧ Ended j c (stRes .entropyUnavailable) t) ∧
      (s.tick < c.job.acceptTick + (s.region c.rgn).rng.waitLimit * 1000000 → exec (.randomDrawTimeout j) s = .next s)) ∧
    ((seedWaiters s r).head? = some p → 48 ≤ g.reservoir → ∃ t, exec (.maskSeedArrival r p) s = .next t ∧
      (t.region r).rng.reservoir = g.reservoir - 48 ∧ (t.pan r p).msg = { (s.pan r p).msg with
        seeded := true, waitSeed := false, used := 0, asked := false, reseeds := inc32 (s.pan r p).msg.reseeds }) ∧
    (∀ slot, s.enabled r = true → p < 4 → s.faults.slotFor = some slot → ∃ t rec, exec (.maskStreamLockstepFault r p) s = .next t ∧
      tfind t.faults.ring slot = some rec ∧ rec.on = panUnit r p ∧ rec.cause = .lockstep ∧ rec.cls = .retry) ∧
    (let n := bits c.job.param.toNat 12 0;
      AtWork 0x0701 j c s → Passes [check (c.job.param.toNat &&& 0xFFFFE000 == 0 && c.job.args.isEmpty) .malformed,
        check (decide (1 ≤ n) && decide (n ≤ 4096)) .lengthMismatch, famEnabled s c.job] → RandomHere c n s →
      ∃ (t : State) (b : List Byte), b.length = n ∧ exec (.rngGenerate j) s = .next t ∧ Ended j c (outTo c.job 1 b) t) ∧
    (let n := outCapacity c.job.frags 1; let i := c.job.operand 0;
      AtWork 0x0702 j c s → c.job.inst = 0 → c.job.param.toNat &&& 0xFFFFFFF0 = 0 → c.job.args = [] → famEnabled s c.job = none →
      (c.job.pbit 3 = true → i.length = 48 → 16 ≤ n → n ≤ 4096 → n % 16 = 0 → ∃ t, exec (.rngKat j) s = .next t ∧
        Ended j c (outTo c.job 1 (stdN n "CTR_DRBG AES-256 generate" [i])) t ∧
        (t.region c.rgn).rng.state = (if (s.region c.rgn).rng.lasting then .borrowed else .starting) ∧
        (t.region c.rgn).rng.reservoir = 0) ∧
      (c.job.pbit 3 = false → 1 ≤ i.length → i.length ≤ 4096 → ∃ t, exec (.rngKat j) s = .next t ∧
        Ended j c (outTo c.job 1 (sha3 i)) t ∧ (t.region c.rgn).rng.reservoir = 0)) ∧
    (let n := outCapacity c.job.frags 1;
      AtWork 0x0703 j c s → c.job.inst = 0 → c.job.param.toNat &&& 0xFFFFFFF8 = 0 → c.job.args = [] → famEnabled s c.job = none →
      (s.pkg.mode = .factoryTest → 1 ≤ n → n ≤ 1048576 → ∃ (t : State) (b : List Byte), b.length = n ∧
        exec (.rngRaw j) s = .next t ∧ Ended j c (outTo c.job 1 b) t) ∧
      (s.pkg.mode ≠ .factoryTest → ∃ t, exec (.rngRaw j) s = .next t ∧ Ended j c (stRes .lifecycle) t))

/-- The creating verbs at work with their checks passed (R215, R222, R335, R338, R341, R344, R348-R350): the result carries a new record
with the next KEY_ID, the instance's generation and home region, usage 0, the stored policy and the key for the shelf; an exponent or
material that does not decode gives ST_DECODE_FAIL, and a Classic McEliece generation of 256 attempts is a fault of its cell. -/
def Obligations.KeysAreCreated : Prop :=
  ∀ (s : State) (j : Nat) (c : Cmd),
    let b := c.job
    let made (t : State) (cls attrs : Nat) : Prop := ∃ r, Ended j c r t ∧ (r.status = .ok → t.vault.nextKeyId = s.vault.nextKeyId + 1 ∧
      ∃ k e, r.key = some k ∧ r.shelf = some e ∧ k.inst = b.targetInst ∧ k.gen = (s.inst b.targetInst).gen % 16 ∧ k.cls = cls ∧
        k.alg = b.alg ∧ k.home = c.rgn ∧ k.usage = 0 ∧ k.keyId = s.vault.nextKeyId ∧ k.pol = storedPolicy s b attrs k.keyId ∧
        e.keyId = k.keyId ∧ e.entries = k.entries) ∧ (r.status ≠ .ok → r.key = none ∧ t.vault = s.vault)
    (let cls := if isSym b.alg then 2 else 0
      let l := (b.operand 0).length
      AtWork 0x0201 j c s →
      Passes (createChecks s b 0xFFFFFF00 cls (generates b.alg) (decide (l ≤ 32) && ((b.operand 0).isEmpty || decide (3 ≤ l))) ++
        [capOk s b.targetInst b.alg, slotQuota s c]) →
      MasksHere c (maskScale c.prog.order (maskBytes 3 b.alg)) s → RandomHere c (genDraw b.alg) s →
      ∃ t, exec (.keyGenerate j) s = .next t ∧
        ((if genExponentOk (b.operand 0) then made t cls (1 + if famOf b.alg = some .lms then 128 else 0)
          else Ended j c (stRes .decodeFail) t) ∨
        (famOf b.alg = some .mce ∧ ∃ n, (mceAttempts b.alg { s with free := n }).1 = 256))) ∧
    (let cls := importClass b;
      let x := cls != 1 && !b.pbit 8 && expandedLen b.alg b.size != 0;
      let mx := x && famOf b.alg == some .mldsa;
      let two := mx || famOf b.alg == some .mce;
      let sec := if mx then b.operand 0 ++ b.operand 2 else b.operand 0;
      let pub := if two then b.operand 2 else materialPub cls b.alg (if x then 1 else 0) sec;
      AtWork 0x0202 j c s → Passes (createChecks s b 0xFFFFFC00 cls (importKnown b) (importLens b two) ++
        [check (cls == 1 || b.admin || b.inst == 0 || s.vault.plainImport) .notPermitted,
         capOk s b.targetInst (if cls = 1 then 0 else b.alg)]) →
      ∃ t, exec (.keyImport j) s = .next t ∧
        if importDecodes b cls (cls == 0 && x) sec pub then made t cls (if famOf b.alg = some .lms ∧ cls = 0 then 128 else 0)
        else Ended j c (stRes .decodeFail) t) ∧
    (∀ k sk pub, let func := bits b.param.toNat 15 8; AtWork 0x0203 j c s → jobKey s b = some k →
      Passes (keyChecks s b [2, 3] (· == 0xE8) 11 (fun _ => true) :: createChecks s b 0xFFFF0000 3 (isSym b.alg && kdfFunc func)
        (decide ((b.operand 0).length ≤ 255) && decide ((b.operand 3).length ≤ 1024)) ++
        [capOk s b.targetInst b.alg, deriveStep8 s b func k]) → KeyUsable c 1 (keyLimit s b) s → KeyHere c sk pub s →
      ∃ t r, exec (.keyDerive j) s = .next t ∧ Ended j c r t ∧ (r.status = .ok → ∃ n e, r.key = some n ∧ r.shelf = some e ∧
        n.cls = 3 ∧ n.alg = b.alg ∧ n.home = c.rgn ∧ n.keyId = s.vault.nextKeyId ∧
        n.pol = storedPolicy s b (k.pol.attr &&& 3) n.keyId ∧
        e.secret = stdN (symLen b.alg b.size) "KDF" [le 1 func, sk, b.operand 0, b.operand 3]))

/-- KEY.LOAD at work with its checks passed (R337, R343, R349, R350, R356): a known KEY_ID that lies in the shelf answers its handle
without an unwrap and moves its home; one that does not, and an unknown one, is unwrapped and checked, and counted where it fails. KEY.UPDATE (R353-R355): a message that fails a check changes nothing; one in order advances the counter, and makes the change of its
operation. -/
def Obligations.KeysAreLoadedAndUpdated : Prop :=
  (∀ (s : State) (j : Nat) (c : Cmd),
    let b := c.job
    let blob := b.operand 0
    let i := b.targetInst
    let Bad : Prop := ∃ t, exec (.keyLoad j) s = .next t ∧ Ended j c (stRes .blobInvalid) t ∧
      t.vault = { s.vault with blobFail := inc32 s.vault.blobFail }
    AtWork 0x0204 j c s → loadHasPub b (readHdr blob) = true → b.param.toNat = 0 → b.args = [] → s.vault.ownerSeed.isSome = true →
    (∀ k, s.keyById i (readHdr blob).keyId = some k →
      ((s.onShelf c.rgn i k.keyId).isSome = true →
        (blobHead s i blob = true → ∃ t, exec (.keyLoad j) s = .next t ∧ Ended j c (outTo b 4 k.bytes) t ∧
          (k.home = c.rgn → t.vault = s.vault) ∧ ∀ x ∈ t.vault.handles, x.handle = k.handle → k.home ≠ c.rgn → x.home = c.rgn) ∧
        (blobHead s i blob = false → Bad)) ∧
      ((s.onShelf c.rgn i k.keyId).isSome = false →
        (blobOk s i (some (b.operand 2)) blob = true → ∃ t, exec (.keyLoad j) s = .next t ∧ Ended j c (outTo b 4 k.bytes) t) ∧
        (blobOk s i (some (b.operand 2)) blob = false → Bad))) ∧
    (s.keyById i (readHdr blob).keyId = none → capOk s i 0 = none →
      (blobOk s i (some (b.operand 2)) blob = false → Bad) ∧
      (blobOk s i (some (b.operand 2)) blob = true → ∃ t r, exec (.keyLoad j) s = .next t ∧
        Ended j c r t ∧ (r.status = .ok → ∃ k, r.key = some k ∧ k.keyId = (readHdr blob).keyId ∧ k.home = c.rgn ∧
          k.usage = 0 ∧ k.inst = i)))) ∧
  (∀ (s : State) (j : Nat) (c : Cmd),
    let m := c.job.operand 0
    AtWork 0x020C j c s → c.job.param.toNat = 0 → c.job.args = [] → s.lcState ≠ 4 → s.lcState ≠ 5 →
    (∀ st, firstBad (kumChecks s m) = some st →
      ∃ t, exec (.keyUpdate j) s = .next t ∧ Ended j c (stRes st) t ∧ t.vault = s.vault) ∧
    (Passes (kumChecks s m) → ∃ t, exec (.keyUpdate j) s = .next t ∧ Ended j c okRes t ∧ t.vault.kum = s.vault.kum + 1 ∧
      (fld m 0x42 1 = 1 → t.vault.handles = [] ∧ t.vault.ownerSeed = some (slice m 0x50 32) ∧ t.vault.nextKeyId = 1) ∧
      (fld m 0x42 1 = 2 → t.vault.handles = s.vault.handles ∧
        t.vault.authority = some (fld m 0x50 1, (slice m 0x50 (fld m 0x48 4)).drop 1)) ∧
      (fld m 0x42 1 = 3 → ∀ x ∈ t.vault.handles, x.inst ≠ fld m 0x43 1) ∧
      (fld m 0x42 1 = 4 → t.vault.handles = [] ∧ t.vault.epoch = s.vault.epoch + 1 ∧ t.vault.ownerSeed = s.vault.ownerSeed)))

/-- The other KEY verbs at work with their checks passed (R131, R221, R334, R348, R350, R352): keys are evicted, deleted, pinned,
attested, listed and transferred, and the identity key answers. -/
def Obligations.KeysAreManaged : Prop :=
  ∀ (s : State) (j : Nat) (c : Cmd) (k : KeyRec) (sk pub : List Byte),
    let b := c.job
    let gone (t : State) : Prop := ∀ r ∈ regionNums, ∀ e ∈ (t.region r).shelf, ¬ (e.inst = k.inst ∧ e.keyId = k.keyId)
    let mcePub : Prop := famOf k.alg = some .mce ∧ k.cls = 1
    let done (t : State) : Prop := ∃ d nj, t.cmd? j = some d ∧ d.prog.phase = .returned ∧ d.prog.res = some (okRes.withNj nj)
    let all (t : State) (P : KeyRec → Prop) : Prop := ∀ x ∈ t.vault.handles, x.handle = k.handle → P x
    (jobKey s b = some k → checkHandle s b (fun _ => true) = none → b.args = [] →
      (keyUsers s b.id true k = [] → keyStands s k = false → b.param.toNat = 0 → tfind b.parts 253 = none →
        (AtWork 0x0205 j c s → ∃ t, exec (.keyEvict j) s = .next t ∧ done t ∧ gone t ∧
          ∃ x ∈ t.vault.handles, x.handle = k.handle) ∧
        (AtWork 0x0206 j c s → ∃ t, exec (.keyDelete j) s = .next t ∧ done t ∧ gone t ∧ all t fun x => x.dead = true)) ∧
      (AtWork 0x0207 j c s → b.param.toNat &&& 0xFFFFFEFF = 0 →
        (mcePub → ∃ t, exec (.keyPinPublic j) s = .next t ∧
          (b.pbit 8 = true → Ended j c okRes t ∧ all t fun x => x.pinned = false) ∧
          (b.pbit 8 = false → pinOf s c.rgn k = none → pinRoom s c.rgn k.inst = false → Ended j c (stRes .quota) t) ∧
          (b.pbit 8 = false → pinOf s c.rgn k = none → pinRoom s c.rgn k.inst = true → (tfind b.parts 255).isSome = true →
            Ended j c okRes t ∧ all t fun x => x.pinned = true)) ∧
        (¬ mcePub → granules (latticeAlg k.alg) ≠ 0 → KeyHere c sk pub s →
          (b.pbit 8 = true → ∃ t, exec (.keyPinPublic j) s = .next t ∧ Ended j c okRes t ∧ all t fun x => x.pinned = false) ∧
          (b.pbit 8 = false → crystPinned (s.region c.rgn) k.inst + granules (latticeAlg k.alg) ≤ 46 * (s.inst k.inst).cfg.cryst →
            ∃ t, exec (.keyPinPublic j) s = .next t ∧ Ended j c okRes t ∧ all t fun x => x.pinned = true))) ∧
      (AtWork 0x020B j c s → k.attr 1 = false → k.attr 7 = false → b.param.toNat &&& 0xFFFFFF00 = 0 →
        s.vault.ownerSeed.isSome = true → KeyHere c sk pub s → (mcePub → (pinOf s c.rgn k).isSome = true) →
        ∃ t, exec (.keyTransfer j) s = .next t ∧ t.vault.nextKeyId = s.vault.nextKeyId + 1 ∧
          ∃ x, Ended j c (outTo b 1 x) t ∧ (readHdr x).keyId = s.vault.nextKeyId % 2 ^ 64 ∧ (readHdr x).cls = k.cls % 256 ∧
            (readHdr x).alg = k.alg % 256)) ∧
    (∀ x y, AtWork 0x0208 j c s → jobKey s b = some k → Passes [checkHandle s b fun _ => true, paramZero b 0xFFFFFFFF, bodyIs b 32] →
      KeyHere c sk pub s → (mcePub → x = [] ∧ ∃ p, pinOf s c.rgn k = some p ∧ y = p.pub) → (¬ mcePub → x = sk ∧ y = pub) →
      RandomHere c attestDraw s → (sealPan s c.rgn (identityMask s c.rgn) none).isSome = true →
      (∀ p, (sealCheckPlace s c.rgn p).isSome = true) →
      let m := statement s b k x y (slice b.args 0 32)
      ∃ t r, exec (.keyAttest j) s = .next t ∧ Ended j c r t ∧
        ((∀ rnd p, Config.stdOk "device identity signature" [identityPub s, ascii "EXM-KEY-ATTEST-1", stdN 4723 "device identity signature"
          [le 8 s.pkg.fuses.unit, ascii "EXM-KEY-ATTEST-1", rnd, le 1 p, m], m] = true) →
            ∃ sig, sig.length = 4723 ∧ r = outTo b 0 (m ++ sig))) ∧
    (AtWork 0x0209 j c s → b.param.toNat &&& 0xFFFF0000 = 0 →
      ∃ t r, exec (.keyList j) s = .next t ∧ Ended j c r t ∧ r.status = .ok ∧
        (∀ x ∈ s.vault.handles, x.inst = b.targetInst → x.dead = false → s.vault.handles.length ≤ 254 → b.param.toNat = 0 →
          ∃ n, slice r.resp (16 * n) 16 = x.bytes)) ∧
    (AtWork 0x020A j c s → b.param.toNat = 0 →
      ∃ t, exec (.keyIdentity j) s = .next t ∧ Ended j c { status := .ok, resp := identityPub s } t)

/-- The vault's registers and rows (R11, R333, R335, R358): a handle cap past what the package holds is ignored and flagged, a reserved
one leaves the register; CLR_COUNTS clears the counts of the selected instance; and KEK_root comes to the regions in service. -/
def Obligations.VaultRows : Prop :=
  ∀ (s : State) (v r : Nat), Reached 0 s →
    let n := v % 32768
    let others := ((List.range 256).map fun k => if k = s.vault.hsel then 0 else (s.inst k).cfg.hcap).sum
    (n ≤ 16384 → others + n ≤ 16384 → ∃ t, exec (.vltHcapWrite v) s = .next t ∧ (t.inst s.vault.hsel).cfg.hcap = n ∧
      t.vault = s.vault ∧ ∀ i, i ≠ s.vault.hsel → t.inst i = s.inst i) ∧
    (n ≤ 16384 → 16384 < others + n → ∃ t, exec (.vltHcapWrite v) s = .next t ∧ t.vault.cfgErr = true ∧ t.insts = s.insts) ∧
    (16384 < n → exec (.vltHcapWrite v) s = .next s) ∧
    (s.enabled r = true →
      (∃ t, exec (.clrCounts r true) s = .next t ∧ OnlyRegion r s t ∧
        tget (fun _ => ({} : Hits)) (t.region r).shelfHits (s.region r).shelfSel = {}) ∧
      (∃ t, exec (.clrCounts r false) s = .next t ∧ OnlyRegion r s t ∧
        tget (fun _ => ({} : Hits)) (t.region r).lat.hits (s.region r).lat.sel = {})) ∧
    (s.pkg.mode.mainPower = true → s.vault.rootReady = false → s.batteryDue = false ∨ regionNums.any s.randomRuns = true → ∃ t, exec .rootReady s = .next t ∧ t.vault.rootReady = true ∧
      t.vault.handles = s.vault.handles ∧ (s.pkg.fuses.batteryMode = true → t.pkg.batteryKey.isSome = true) ∧
      ∀ q, (s.region q).svc.state = .inService → (tfind s.regions q).isSome = true → (t.region q).kekHere = true)

/-- Integer, multiply, control-register and paired words of a core (R364, R366, R369, R374, R376, R388, R389): the register written,
the product in flight, and the pc moved on; a reserved word takes ILLEGAL. -/
def Obligations.IntegerWords : Prop :=
  ∀ (s : State) (c : CoreId) (stall : Nat) (w : U32) (k : Core), AtWord c stall k s →
    let x := w.toNat
    let a := k.rg (wRs1 x)
    let b := k.rg (wRs2 x)
    let u := BitVec.ofNat 64 (wImm14 x)
    let Into (i : Instr) (k' : Core) : Prop := ∃ t, exec i s = .next t ∧ t.core c = k'.after c k.pc .next 1 ∧ OnlyCore c s t
    let put (v : U64) : Prop := Into (.kAluOp c stall w) (k.wg (wRd x) v)
    let fly (i : Instr) (n : Nat) : Prop :=
      Into i { k with flight := k.flight ++ [{ due := k.cycle + 3, value := n % 2 ^ 128 }] }
    (kclass x = some .alu →
      (wOP x = 1 → (wFN x = 0 → put (a + b)) ∧ (wFN x = 1 → put (a - b)) ∧ (wFN x = 2 → put (a &&& b)) ∧ (wFN x = 3 → put (a ||| b)) ∧
        (wFN x = 4 → put (a ^^^ b)) ∧ (wFN x = 5 → b.toNat < 64 → put (a <<< b.toNat)) ∧
        (wFN x = 6 → b.toNat < 64 → put (a >>> b.toNat)) ∧ (wFN x = 7 → b.toNat < 64 → put (a.sshiftRight b.toNat)) ∧
        (wFN x = 5 ∨ wFN x = 6 ∨ wFN x = 7 → ∃ v, put v) ∧
        (wFN x = 8 → put (if a.toInt < b.toInt then 1 else 0)) ∧ (wFN x = 9 → put (if a.toNat < b.toNat then 1 else 0)) ∧
        (wFN x = 10 → put (if a.toInt < b.toInt then a else b)) ∧ (wFN x = 11 → put (if a.toNat < b.toNat then a else b)) ∧
        (wFN x = 12 → put (if a.toInt < b.toInt then b else a)) ∧ (wFN x = 13 → put (if a.toNat < b.toNat then b else a))) ∧
      (wOP x = 2 → put (a + BitVec.ofInt 64 (wSimm14 x))) ∧ (wOP x = 3 → put (a &&& u)) ∧ (wOP x = 4 → put (a ||| u)) ∧
      (wOP x = 5 → put (a ^^^ u)) ∧ (wOP x = 6 → bits x 13 6 = 0 → put (a <<< bits x 5 0)) ∧
      (wOP x = 6 → bits x 13 6 = 1 → put (a >>> bits x 5 0)) ∧ (wOP x = 6 → bits x 13 6 = 2 → put (a.sshiftRight (bits x 5 0))) ∧
      (wOP x = 7 → put (BitVec.ofInt 64 (sfield 19 (bits x 18 0) * 16384)))) ∧
    (wRd x = 0 → (kclass x = some .mulU → fly (.kMulU c stall w) (a.toNat * b.toNat)) ∧
      (kclass x = some .mulS → fly (.kMulS c stall w) (BitVec.ofInt 128 (a.toInt * b.toInt)).toNat) ∧
      (kclass x = some .macU → fly (.kMacU c stall w) (k.product + a.toNat * b.toNat))) ∧
    (let n := bits x 9 0; ∀ v, bits x 13 10 = 0 → ctlRead c k n = some v →
      (kclass x = some .ctlrd → Into (.kCtlrd c stall w) (k.wg (wRd x) v)) ∧
      (kclass x = some .ctlwr → (n = kPL ∨ n = kPH → k.flight = []) → ∀ k', ctlWrite c k n a = some k' → Into (.kCtlwr c stall w) k') ∧
      (kclass x = some .ctlset → ∀ k', ctlWrite c k n (v ||| a) = some k' → Into (.kCtlset c stall w) k') ∧
      (kclass x = some .ctlclr → ∀ k', ctlWrite c k n (v &&& ~~~a) = some k' → Into (.kCtlclr c stall w) k')) ∧
    (kclass x = some .paired → ∀ p q, shortOp k (bits x 30 16) = some p → shortOp k (bits x 15 1) = some q → bit x 0 = false →
      p.clash q = false → Into (.kPairedWord c stall w) (q.to (p.to k))) ∧
    (kclass x = none → noHandler c k = false → ∃ t, exec (.kAluOp c stall w) s = .next t ∧ OnlyCore c s t ∧
      Took c k xILLEGAL k.pc k.pc (t.core c))

/-- Loads, stores, calls and returns of a core (R371, R373, R377, R383, R384, R388): the register or the bytes written, every other byte
of local memory as before, and the exceptions of an address out of line and of the stack limit. -/
def Obligations.MemoryWords : Prop :=
  ∀ (s : State) (c : CoreId) (stall : Nat) (w : U32) (k : Core), AtWord c stall k s →
    let x := w.toNat
    let ea := addrAdd (k.rg (wRs1 x)).toNat (wSimm14 x)
    let an := (k.rc (0x050 + bits x 18 16)).toNat
    let Into (i : Instr) (k' : Core) (f : Flow) (n : Nat) : Prop :=
      ∃ t, exec i s = .next t ∧ t.core c = k'.after c k.pc f n ∧ OnlyCore c s t
    let Stored (i : Instr) (p n v : Nat) (k' : Core) (f : Flow) (cy : Nat) : Prop :=
      ∃ t, exec i s = .next t ∧ OnlyCore c s t ∧ t.core c = { k'.after c k.pc f cy with lmem := (t.core c).lmem } ∧
        (t.core c).readBytes c none p n = some (le n v) ∧
        ∀ q, q < p ∨ p + n ≤ q → (t.core c).localByte q = k.localByte q
    let Traps (i : Instr) (e v : Nat) : Prop := noHandler c k = false → ∃ t, exec i s = .next t ∧ OnlyCore c s t ∧ Took c k e v k.pc (t.core c)
    (kclass x = some .ld → let n := 2 ^ ((wOP x - 0x10) % 4)
      (∀ bs, ea % n = 0 → k.readBytes c none ea n = some bs → Into (.kLd c stall w)
        (k.wg (wRd x) (if wOP x < 0x14 then sext n (unle bs) else BitVec.ofNat 64 (unle bs))) .next 1) ∧
      (ea % n ≠ 0 → Traps (.kLd c stall w) xMISALIGNED ea) ∧
      (ea % n = 0 → k.readBytes c none ea n = none → Traps (.kLd c stall w) xACCESS ea)) ∧
    (kclass x = some .st → let n := 2 ^ (wOP x - 0x18)
      (ea % n = 0 → ea + n ≤ c.lmemBytes → Stored (.kSt c stall w) ea n (k.rg (wRd x)).toNat k .next 1) ∧
      (ea % n ≠ 0 → Traps (.kSt c stall w) xMISALIGNED ea) ∧
      (ea % n = 0 → c.lmemBytes < ea + n → Traps (.kSt c stall w) xACCESS ea)) ∧
    (∀ a', addrUpdate k x = some a' → let n := 2 ^ bits x 13 12
      (kclass x = some .lda → ∀ bs, an % n = 0 → k.readBytes c none an n = some bs → Into (.kLda c stall w)
        (setAddr (k.wg (wRd x) (if wOP x = 0x1C then sext n (unle bs) else BitVec.ofNat 64 (unle bs))) x a') .next 1) ∧
      (kclass x = some .sta → an % n = 0 → an + n ≤ c.lmemBytes →
        Stored (.kSta c stall w) an n (k.rg (wRd x)).toNat (setAddr k x a') .next 1)) ∧
    (kclass x = some .fld → ∀ bs, ea % 8 = 0 → k.readBytes c none ea 8 = some bs →
      Into (.kFldD c stall w) (k.wf (wRd x) (unle bs)) .next 1) ∧
    (kclass x = some .fst → ea % 8 = 0 → ea + 8 ≤ c.lmemBytes → Stored (.kFstD c stall w) ea 8 (k.rf (wRd x)) k .next 1) ∧
    (let sp := k.rg 2 - 8; sp.toNat % 8 = 0 → (k.rc kSLIM).toNat ≤ sp.toNat → sp.toNat + 8 ≤ c.lmemBytes →
      (kclass x = some .call → Stored (.kCall c stall w) sp.toNat 8 (k.pc + 4) (k.wg 2 sp) (.goto (addrAdd k.pc (4 * sfield 24 (bits x 23 0)))) 2) ∧
      (kclass x = some .callr → wRd x = 0 →
        Stored (.kCallr c stall w) sp.toNat 8 (k.pc + 4) (k.wg 2 sp) (.goto (addrAdd (k.rg (wRs1 x)).toNat (4 * wSimm14 x))) 2)) ∧
    (let sp := k.rg 2 - 8; kclass x = some .call → sp.toNat < (k.rc kSLIM).toNat → Traps (.kCall c stall w) xSTACKLIMIT sp.toNat) ∧
    (kclass x = some .ret → bits x 23 0 = 0 → ∀ bs, (k.rg 2).toNat % 8 = 0 → k.readBytes c none (k.rg 2).toNat 8 = some bs →
      Into (.kRet c stall w) (k.wg 2 (k.rg 2 + 8)) (.goto (unle bs)) 2) ∧
    (c.isC = true → k.rc kVSTART = 0 → bits x 7 0 = 0 → bit x 8 = false → let p := (k.rg (wRs1 x)).toNat
      p + k.vl * k.ew ≤ c.lmemBytes → p % k.ew = 0 → k.ew = 1 ∨ k.ew = 2 ∨ k.ew = 4 ∨ k.ew = 8 →
      (kclass x = some .vld → ∃ t, exec (.kVld c stall w) s = .next t ∧ OnlyCore c s t ∧ ∀ i,
        (i < k.vl → elem (8 * k.ew) ((t.core c).rv (wRd x)) i = unle ((List.range k.ew).map fun o => k.localByte (p + i * k.ew + o))) ∧
        (k.vl ≤ i → elem (8 * k.ew) ((t.core c).rv (wRd x)) i = elem (8 * k.ew) (k.rv (wRd x)) i)) ∧
      (kclass x = some .vst → ∃ t, exec (.kVst c stall w) s = .next t ∧ OnlyCore c s t ∧
        (∀ i, i < k.vl → (t.core c).readBytes c none (p + i * k.ew) k.ew = some (le k.ew (elem (8 * k.ew) (k.rv (wRd x)) i))) ∧
        ∀ q, q < p ∨ p + k.vl * k.ew ≤ q → (t.core c).localByte q = k.localByte q)) ∧
    (kclass x = some .vldFirst → c.isC = true → ∀ i e y, vloads c none x k (vrange k) (k.rv (wRd x)) = (y, some (i, e)) →
      i ≠ (k.rc kVSTART).toNat → ∃ t, exec (.kVldFirstFault c stall w) s = .next t ∧ OnlyCore c s t ∧ (t.core c).vl = i ∧
        (t.core c).rc kVSTART = 0 ∧ (t.core c).rv (wRd x) = y)

/-- Branches, loops, repeats, interrupts and the system words of a core (R379-R381, R384-R388); an interrupt that is pending is taken at
the boundary after a word. -/
def Obligations.ControlWords : Prop :=
  ∀ (s : State) (c : CoreId) (stall : Nat) (w w2 : U32) (k : Core),
    let x := w.toNat
    (AtAnyWord c stall k s → kclass x = some .fence → wRd x = 0 → wRs1 x = 0 → ∃ t, exec (.kFence c stall w) s = .next t ∧ OnlyCore c s t ∧
      t.core c = (k.after c k.pc .next 1).boundary c) ∧
    (AtWord c stall k s →
    let Into (i : Instr) (k' : Core) (f : Flow) (n : Nat) : Prop :=
      ∃ t, exec i s = .next t ∧ t.core c = k'.after c k.pc f n ∧ OnlyCore c s t
    let a := k.rg (wRd x)
    let b := k.rg (wRs1 x)
    let cond : Nat → Prop := fun n => (n = 0 ∧ a = b) ∨ (n = 1 ∧ a ≠ b) ∨ (n = 2 ∧ a.toInt < b.toInt) ∨ (n = 3 ∧ b.toInt ≤ a.toInt) ∨
      (n = 4 ∧ a.toNat < b.toNat) ∨ (n = 5 ∧ b.toNat ≤ a.toNat)
    (kclass x = some .branch → bits x 13 11 ≤ 5 →
      (cond (bits x 13 11) → Into (.kBranch c stall w) k (.goto (addrAdd k.pc (4 * sfield 11 (bits x 10 0)))) 2) ∧
      (¬ cond (bits x 13 11) → Into (.kBranch c stall w) k .next 1)) ∧
    (kclass x = some .jmp → Into (.kJmp c stall w) k (.goto (addrAdd k.pc (4 * sfield 24 (bits x 23 0)))) 2) ∧
    (kclass x = some .jmpr → wRd x = 0 → Into (.kJmpr c stall w) k (.goto (addrAdd b.toNat (4 * wSimm14 x))) 2) ∧
    (kclass x = some .loop → c.isC = true → k.inh = false → bits x 16 14 = 0 → 2 ≤ bits x 13 0 →
      let n := k.rg (bits x 21 17)
      ∃ t, exec (.kLoop c stall w) s = .next t ∧ OnlyCore c s t ∧
        (n ≠ 0 → (t.core c).rc (0x060 + bits x 23 22) = BitVec.ofNat 64 (k.pc + 4) ∧
          (t.core c).rc (0x064 + bits x 23 22) = BitVec.ofNat 64 (k.pc + 4 * bits x 13 0 - 4)) ∧
        (n = 0 → (t.core c).pc = k.pc + 4 * bits x 13 0)) ∧
    (kclass x = some .rep → c.isC = false → bits x 18 0 = 0 → kclass w2.toNat = some .alu → wOP w2.toNat = 2 →
      wRd w2.toNat = wRs1 w2.toNat → wRd w2.toNat ≠ 0 →
      (a.toNat ≤ 256 → ∃ t, exec (.kRep c stall w w2) s = .next t ∧ OnlyCore c s t ∧ (t.core c).pc = k.pc + 8 ∧
        (t.core c).rg (wRd w2.toNat) = k.rg (wRd w2.toNat) + a * BitVec.ofInt 64 (wSimm14 w2.toNat)) ∧
      (256 < a.toNat → noHandler c k = false → ∃ t, exec (.kRep c stall w w2) s = .next t ∧ OnlyCore c s t ∧
        Took c k xREPRANGE k.pc k.pc (t.core c))) ∧
    (kclass x = some .repi → c.isC = false → bits x 18 0 = 0 → kclass w2.toNat = some .alu → wOP w2.toNat = 2 →
      wRd w2.toNat = wRs1 w2.toNat → wRd w2.toNat ≠ wRd x → wRd w2.toNat ≠ 0 → a ≠ 0 →
      ∃ t, exec (.kRepi c stall w w2) s = .next t ∧ OnlyCore c s t ∧ (t.core c).rg (wRd x) = a - 1 ∧
        (t.core c).rg (wRd w2.toNat) = k.rg (wRd w2.toNat) + BitVec.ofInt 64 (wSimm14 w2.toNat) ∧
        (t.core c).pc = if a = 1 then k.pc + 8 else k.pc) ∧
    (wRd x = 0 → wRs1 x = 0 →
      (kclass x = some .fence → Into (.kFence c stall w) k .next 1) ∧
      (kclass x = some .wfi → Into (.kWfi c stall w) { k with waiting := k.pending.isEmpty } .next 1) ∧
      (kclass x = some .rete → Into (.kRete c stall w)
        { k with ie := bit (k.rc kESTATUS).toNat 0, inh := bit (k.rc kESTATUS).toNat 1 } (.goto (k.rc kEPC).toNat) 2) ∧
      (noHandler c k = false →
        (kclass x = some .trap → ∃ t, exec (.kTrap c stall w) s = .next t ∧ OnlyCore c s t ∧
          Took c k xTRAP (bits x 10 0) (k.settle.nextWord c k.pc).2 (t.core c)) ∧
        (kclass x = some .break → ∃ t, exec (.kBreak c stall w) s = .next t ∧ OnlyCore c s t ∧
          Took c k xBREAK k.pc k.pc (t.core c))) ∧
      (kclass x = some .trap → k.inh = true → c = .skanel → ∃ t, exec (.kTrap c stall w) s = .next t ∧ t.pkg.halted = true)) ∧
    (∀ n, n < (if c.isC then 2 else 32) → (s.core c).pending = [] → (s.core c).ie = true → (s.core c).flight = [] →
      ∃ t, exec (.kInterruptEntry c n) s = .next t ∧ (∀ d, d ≠ c → t.core d = s.core d) ∧ (t.core c).pending = [] ∧
        (t.core c).pc = ((s.core c).rc kEVEC).toNat ∧ (t.core c).rc kEPC = BitVec.ofNat 64 (s.core c).pc ∧
        (t.core c).rc kECAUSE = BitVec.ofNat 64 (n + 256) ∧ (t.core c).rc kESTATUS = (s.core c).status c ∧ (t.core c).inh = true ∧
        (t.core c).ie = false))

/-- Floating-point, packed, vector and datapath words of a core (R367, R368, R370, R373, R388, R405): elements take the result of
their lanes, elements that take no part stay as they were, and a datapath command completes. -/
def Obligations.DataWords : Prop :=
  ∀ (s : State) (c : CoreId) (stall : Nat) (w : U32) (k : Core), AtWord c stall k s →
    let x := w.toNat
    let Done (i : Instr) (f : Core → Prop) : Prop := ∃ t, exec i s = .next t ∧ OnlyCore c s t ∧ f (t.core c)
    let fm := if bit (wFN x) 8 then f32 else f64
    let p := fm.unpack (k.rf (wRs1 x) % 2 ^ (fm.eb + fm.fb + 1))
    let q := fm.unpack (k.rf (wRs2 x) % 2 ^ (fm.eb + fm.fb + 1))
    let lane := 8 * 2 ^ bits x 8 7
    let n := 8 * k.ew
    let va (i : Nat) : Nat := elem n (k.rv (wRs1 x)) i
    let vb (i : Nat) : Nat := elem n (k.rv (wRs2 x)) i
    let sel (i : Nat) : Prop := i < k.vl ∧ (bit x 8 = false ∨ bit (k.rv 31) i = true)
    (kclass x = some .fp →
      (∀ na ma ea nb mb eb, p = .fin na ma ea → q = .fin nb mb eb →
        (bits x 7 0 = 0 → Done (.kFpOp c stall w) fun t => t.rf (wRd x) = (fm.add k.round 0 p q).1 % 2 ^ 64 ∧
          t.rc kFPMODE = k.rc kFPMODE ||| BitVec.ofNat 64 (fm.add k.round 0 p q).2.bits) ∧
        (bits x 7 0 = 1 → Done (.kFpOp c stall w) fun t => t.rf (wRd x) = (fm.add k.round 0 p q.neg).1 % 2 ^ 64) ∧
        (bits x 7 0 = 2 → Done (.kFpOp c stall w) fun t => t.rf (wRd x) = (fm.mul k.round 0 p q).1 % 2 ^ 64) ∧
        (bits x 7 0 = 3 → mb ≠ 0 → Done (.kFpOp c stall w) fun t => t.rf (wRd x) = (fm.div k.round 0 p q).1 % 2 ^ 64)) ∧
      (bits x 7 0 ≤ 11 → Done (.kFpOp c stall w) fun t => t.lmem = k.lmem ∧ t.pending = k.pending)) ∧
    (kclass x = some .packed → bits x 8 7 ≠ 3 → bits x 6 0 ≤ 7 → Done (.kPackedOp c stall w) fun t => ∀ i, i < 64 / lane →
      let a := elem lane (k.rf (wRs1 x)) i
      let b := elem lane (k.rf (wRs2 x)) i
      let r := elem lane (t.rf (wRd x)) i
      (bits x 6 0 = 0 → r = (a + b) % 2 ^ lane) ∧ (bits x 6 0 = 1 → (r + b) % 2 ^ lane = a) ∧
        (bits x 6 0 = 2 → r = a * b % 2 ^ lane) ∧ (bits x 6 0 = 4 → b < lane → r = a * 2 ^ b % 2 ^ lane) ∧
        (bits x 6 0 = 5 → b < lane → r = a / 2 ^ b) ∧ (bits x 6 0 = 6 → r = if selem lane a < selem lane b then a else b) ∧
        (bits x 6 0 = 7 → r = if selem lane a < selem lane b then b else a)) ∧
    (c.isC = true →
      (kclass x = some .setvl → wRs2 x = 0 → bits x 8 4 = 0 → bits x 3 0 = 1 ∨ bits x 3 0 = 2 ∨ bits x 3 0 = 4 ∨ bits x 3 0 = 8 →
        Done (.kSetvl c stall w) fun t => t.ew = bits x 3 0 ∧ t.vl = min (k.rg (wRs1 x)).toNat (c.vlen / (8 * bits x 3 0)) ∧
          t.rg (wRd x) = if wRd x = 0 then 0 else BitVec.ofNat 64 t.vl) ∧
      (kclass x = some .datapath → dpOn c (wOP x) = true → Done (.kDatapathCommand c stall w) fun t => t.v = k.v ∧ t.pending = k.pending ∧
        ∀ r, r ≠ wRd x → t.rg r = k.rg r) ∧
      (k.rc kVSTART = 0 → 0 < n → k.vl * n ≤ c.vlen →
        (kclass x = some .vArith → bits x 7 0 ≤ 10 → Done (.kVectorArith c stall w) fun t => ∀ i,
          let r := elem n (t.rv (wRd x)) i
          (¬ sel i → r = elem n (k.rv (wRd x)) i) ∧ (sel i → (bits x 7 0 = 0 → r = (va i + vb i) % 2 ^ n) ∧
            (bits x 7 0 = 1 → (r + vb i) % 2 ^ n = va i) ∧ (bits x 7 0 = 2 → r = va i * vb i % 2 ^ n) ∧
            (bits x 7 0 = 4 → r = Nat.land (va i) (vb i)) ∧ (bits x 7 0 = 5 → r = Nat.lor (va i) (vb i)) ∧
            (bits x 7 0 = 6 → r = Nat.xor (va i) (vb i)))) ∧
        (kclass x = some .vArith → bits x 7 0 = 11 ∨ bits x 7 0 = 12 → bit x 8 = false → Done (.kVectorArith c stall w) fun t => ∀ i,
          bit (t.rv (wRd x)) i = (decide (i < k.vl) &&
            if bits x 7 0 = 11 then va i == vb i else decide (selem n (va i) < selem n (vb i)))) ∧
        (kclass x = some .vMove → bits x 7 0 = 5 → Done (.kVectorMove c stall w) fun t => ∀ i,
          elem n (t.rv (wRd x)) i = if i < k.vl ∧ (bit x 8 = false ∨ bit (k.rv 31) i = true) then (k.rg (wRs1 x)).toNat % 2 ^ n
            else elem n (k.rv (wRd x)) i)))

/-- Calls and returns (R383): g2 falls by 8 and holds the address of the next word below it, RET pops it; a push below SLIM and a g2 out
of line raise their exception with g2, memory and the rest as they were and EPC at the call; g2 is written like any g register. -/
def Obligations.CallsAndReturns : Prop :=
  ∀ (s : State) (c : CoreId) (stall : Nat) (w : U32) (k : Core), AtWord c stall k s →
    let x := w.toNat
    let sp := k.rg 2 - 8
    let Pushes (i : Instr) (target : Nat) : Prop :=
      ((k.rc kSLIM).toNat ≤ sp.toNat → sp.toNat % 8 = 0 → sp.toNat + 8 ≤ c.lmemBytes → ∃ t, exec i s = .next t ∧ OnlyCore c s t ∧
        (t.core c).rg 2 = sp ∧ (∀ n, n ≠ 2 → (t.core c).rg n = k.rg n) ∧ (t.core c).pc = target ∧
        (t.core c).readBytes c none sp.toNat 8 = some (le 8 (k.pc + 4)) ∧
        ∀ q, q < sp.toNat ∨ sp.toNat + 8 ≤ q → (t.core c).localByte q = k.localByte q) ∧
      (noHandler c k = false → sp.toNat < (k.rc kSLIM).toNat →
        ∃ t, exec i s = .next t ∧ OnlyCore c s t ∧ Took c k xSTACKLIMIT sp.toNat k.pc (t.core c)) ∧
      (noHandler c k = false → (k.rc kSLIM).toNat ≤ sp.toNat → sp.toNat % 8 ≠ 0 →
        ∃ t, exec i s = .next t ∧ OnlyCore c s t ∧ Took c k xMISALIGNED sp.toNat k.pc (t.core c))
    (kclass x = some .call → Pushes (.kCall c stall w) (addrAdd k.pc (4 * sfield 24 (bits x 23 0)))) ∧
    (kclass x = some .callr → wRd x = 0 → Pushes (.kCallr c stall w) (addrAdd (k.rg (wRs1 x)).toNat (4 * wSimm14 x))) ∧
    (kclass x = some .ret → bits x 23 0 = 0 →
      (∀ b, (k.rg 2).toNat % 8 = 0 → k.readBytes c none (k.rg 2).toNat 8 = some b → ∃ t, exec (.kRet c stall w) s = .next t ∧
        OnlyCore c s t ∧ (t.core c).rg 2 = k.rg 2 + 8 ∧ (t.core c).pc = unle b ∧ (t.core c).lmem = k.lmem) ∧
      (noHandler c k = false → (k.rg 2).toNat % 8 ≠ 0 →
        ∃ t, exec (.kRet c stall w) s = .next t ∧ OnlyCore c s t ∧ Took c k xMISALIGNED (k.rg 2).toNat k.pc (t.core c))) ∧
    ∀ v, (k.wg 2 v).rg 2 = v

/-- The micro-sequencer on a customer routine (R392, R394, R396, R397, R399, R403, R404, R406): what each SEQ word does to the routine's
place, its counter, its return stack and its end, and how a yield, a watchdog and a rewritten partition reach it. -/
def Obligations.CustomerRoutines : Prop :=
  ∀ (s : State) (c : CoreId) (x : CustRun) (w : Nat), s.run? c = some x → s.runLive x = true → s.frozen c = false →
    let At (t : State) (f : CustRun → Prop) : Prop := ∃ y ∈ t.cust.runs, y.core = c ∧ y.job = x.job ∧ f y
    let Over (t : State) (r : Res) : Prop := t.run? c = none ∧
      ∀ j d, x.job = some j → s.cmd? j = some d → Ended j d r t
    let ctr := if cSCEN w then cSCVALUE w else x.counter
    (x.inRun = false → x.word? x.pc = some w → cTYPE w = 0 → cXDIR w = 0 → x.rt.poll = false →
      (cSEQ w = 0 → ∃ t, exec (.seqStep c) s = .next t ∧ At t fun y => y.pc = cNEXT w ∧ y.counter = ctr ∧ y.stack = x.stack ∧
        y.committed = (x.committed || cCOMMIT w)) ∧
      (cSEQ w = 1 → (cCOND w = 0 → ∃ t, exec (.seqBranch c) s = .next t ∧ At t fun y => y.pc = cALT w) ∧
        (cCOND w = 1 → ∃ t, exec (.seqBranch c) s = .next t ∧ At t fun y => y.pc = if x.exitVal = 0 then cALT w else cNEXT w) ∧
        (cCOND w = 3 → ctr < 4096 → ∃ t, exec (.seqBranch c) s = .next t ∧ At t fun y =>
          y.counter = (ctr + 4095) % 4096 ∧ y.pc = if ctr = 1 then cNEXT w else cALT w)) ∧
      (cSEQ w = 2 → (x.stack.length < 4 → ∃ t, exec (.seqCall c) s = .next t ∧
          At t fun y => y.pc = cALT w ∧ y.stack = cNEXT w :: x.stack) ∧
        (4 ≤ x.stack.length → ∃ t, exec (.seqCall c) s = .next t ∧ Over t (stRes .abortedFault))) ∧
      (∀ a rest, cSEQ w = 3 → x.stack = a :: rest → ∃ t, exec (.seqRet c) s = .next t ∧ At t fun y => y.pc = a ∧ y.stack = rest) ∧
      (cSEQ w = 4 → ∃ t, exec (.seqRun c) s = .next t ∧ (At t fun y => y.inRun = true) ∧
        (t.core c).pc = 0x01000000 + 16 * cKENTRY w ∧ (t.core c).rg 2 = 0x1FFF8 ∧ (t.core c).rc kEVEC = 0 ∧
        (t.core c).rc kSLIM = 0x1F000 ∧ (t.core c).cust = true ∧ ∀ i, i < 8 → (t.core c).localByte (0x1FFF8 + i) = 0) ∧
      (∀ j d, cSEQ w = 5 → x.job = some j → s.cmd? j = some d → ∃ t, exec (.seqEnd c) s = .next t ∧
        Over t (outsTo d.job x.outputs) ∧ ((t.region (c.region.getD 0)).cust.runs = inc32 (s.region (c.region.getD 0)).cust.runs)) ∧
      (cSEQ w = 6 → ∃ t, exec (.seqFail c) s = .next t ∧ Over t (stRes (failStatus w)))) ∧
    (∀ m, let due := if m then s.maxDue x else s.watchDue x
      (due = true → ∃ t, exec (.safePointWatchdogTrip c m) s = .next t ∧ Over t (stRes .abortedFault) ∧
        (t.region (c.region.getD 0)).cust.errs = inc32 (s.region (c.region.getD 0)).cust.errs) ∧
      (due = false → exec (.safePointWatchdogTrip c m) s = .next s)) ∧
    (∀ j d, x.job = some j → s.cmd? j = some d → yieldDue s d (s.region d.rgn).cust.quantumUs = true →
      (x.rt.poll = true → x.atSafe (s.core c) = false → ∃ t, exec (.custYield c) s = .next t ∧ At t fun y => y = { x with asked := true }) ∧
      (x.rt.poll = false → x.committed = true → exec (.custYield c) s = .next s) ∧
      (x.rt.poll = false → x.committed = false → ∃ t e, exec (.custYield c) s = .next t ∧ t.cmd? j = some e ∧ e.prog.phase = .acked ∧
        e.prog.unit = none ∧ ∀ a, (t.core c).localByte a = 0)) ∧
    (∀ r p, s.enabled r = true → p < 4 → ∃ t, exec (.custPartitionReload r p) s = .next t ∧ OnlyRegion r s t ∧
      (t.pan r p).cs = { (s.pan r p).cs with reloading := false })

/-- The CUST verbs at work (R401-R404): a package that passes every step and rule is loaded in a place and current in every region in
service, a rule that fails is named with its word, a package is unloaded and listed; loads and unloads take effect at the DONE of
their request (`custSettled`), and CUST.RUN starts the routine at its entry. -/
def Obligations.CustomerVerbs : Prop :=
  ∀ (s : State) (j : Nat) (c : Cmd),
    let b := c.job
    let m := b.operand 0
    (∀ p, AtWork 0x1002 j c s → b.param.toNat = 0 → b.args = [] → familyOn s 0x10 = true → parsePkg m = some p →
      let others := (s.cust.pkgs.filter fun e => !(e.2.id == p.id)).map (·.2)
      (fld m 8 8 ≠ s.pkg.fuses.unit → ∃ t, exec (.custLoad j) s = .next t ∧ Ended j c (stRes .authFail) t ∧ t.cust.pkgs = s.cust.pkgs) ∧
      (fld m 8 8 = s.pkg.fuses.unit → slice m 0x10 48 = stdN 48 "SHA3-384" [identityPub s] →
        authorityOk s "EXM-CUST-1" (fld m 0x4A 1) (m.take (pkgBody m)) (m.drop (pkgBody m)) = true → s.lcState = 3 ∨ s.lcState = 4 →
        (8 ≤ others.length → ∃ t, exec (.custLoad j) s = .next t ∧ Ended j c (stRes .quota) t) ∧
        (others.length < 8 →
          (∀ rule word, firstRule others p = some (rule, word) → ∃ t, exec (.custLoad j) s = .next t ∧
            Ended j c { status := .paramUnsupported, resp := le 2 word ++ le 1 rule ++ zeros 1 } t ∧ t.cust.pkgs = s.cust.pkgs) ∧
          (firstRule others p = none → (∃ t, exec (.custLoad j) s = .next t ∧ Ended j c okRes t ∧ t.cust.pkgs = s.cust.pkgs) ∧
            let u := custSettled c okRes s
            ∃ k, tfind u.cust.pkgs k = some p ∧ ∀ r ∈ regionNums, s.inService r = true → k ∈ (u.region r).cust.held)))) ∧
    (AtWork 0x1003 j c s → b.param.toNat = 0 → b.args.length = 4 → zero? b.args 2 2 = true → familyOn s 0x10 = true →
      ((∀ e ∈ s.cust.pkgs, e.2.id ≠ fld b.args 0 2) → ∃ t, exec (.custUnload j) s = .next t ∧ Ended j c (stRes .paramUnsupported) t) ∧
      (∀ e, s.cust.pkgs.find? (fun e => e.2.id == fld b.args 0 2) = some e → 
        (∃ t, exec (.custUnload j) s = .next t ∧ Ended j c okRes t ∧ t.cust.pkgs = s.cust.pkgs) ∧
        let u := custSettled c okRes s
        u.cust.pkgs = tdel s.cust.pkgs e.1 ∧ ∀ r ∈ regionNums, e.1 ∉ (u.region r).cust.held)) ∧
    (AtWork 0x1004 j c s → b.param.toNat = 0 → b.args = [] → familyOn s 0x10 = true → ∃ t, exec (.custList j) s = .next t ∧
      Ended j c { status := .ok, resp := (s.cust.pkgs.map fun e => e.2.record).flatten } t) ∧
    (∀ place p r k q u, let n := bits b.param.toNat 9 0; AtWork 0x1001 j c s → (∀ y ∈ s.cust.runs, y.job ≠ some j) →
      b.param.toNat / 1024 = 0 → 768 ≤ n → b.args.length ≤ 64 → b.handle = nullHandle → familyOn s 0x10 = true →
      s.routine? n = some (place, p, r) → bit p.instMask b.inst = true → custOperands r b = true →
      (∀ i, i < r.nin → (b.operand i).length ≤ 262144) → slotQuota s c = none → c.prog.unit = some (k, q, u) →
      ∃ t y, exec (.custRun j) s = .next t ∧ y ∈ t.cust.runs ∧ y.core = coreOf c.rgn k u ∧ y.job = some j ∧ y.pc = r.entry ∧
        y.pkg = p ∧ y.inRun = false ∧ y.committed = false ∧ y.counter = 0 ∧ y.stack = [] ∧
        ∀ i, (t.core (coreOf c.rgn k u)).localByte i = b.args.getD i 0)

/-- A region out of service and back (R413-R417, R420-R422): the REGN verbs at work with their checks passed, a drained region diked, its
SRAM wiped, tested, loaded and in service again, or FAILED. -/
def Obligations.RegionsLeaveAndReturn : Prop :=
  ∀ (s : State) (j r : Nat) (c : Cmd), s.enabled r = true →
    let b := c.job.args
    let Is (t : State) (x : RState) : Prop := (t.region r).svc.state = x
    let idle : Prop := waitingFor s 0x0B02 0 r = []
    (fld b 0 1 = r → Passes [paramZero c.job 0xFFFFFFFF, famEnabled s c.job] →
      (AtWork 0x0B01 j c s → bodyIs c.job 4 = none → fld b 1 1 < 2 → 1 ≤ fld b 2 2 → fld b 2 2 ≤ 60000 →
        (Is s .inService → (∃ q ∈ regionNums, q ≠ r ∧ s.inService q = true) ∨ fld b 1 1 = 1 →
          ∃ t, exec (.regnTakeOut j) s = .next t ∧ Is t .draining ∧ (t.region r).svc.outByCmd = true ∧
            (t.region r).path.drainBy = s.tick + fld b 2 2 * 1000000) ∧
        (¬ Is s .inService → ∃ t, exec (.regnTakeOut j) s = .next t ∧ Ended j c (stRes .lifecycle) t)) ∧
      (AtWork 0x0B02 j c s → bodyIs c.job 2 = none → fld b 1 1 < 2 → s.debugHeld r = false →
        (Is s .diked ∨ Is s .failed → (s.region r).path.wiped = true →
          ∃ t, exec (.regnReturn j) s = .next t ∧ Is t .testing ∧ (t.region r).path.full = (fld b 1 1 == 1)) ∧
        (¬ Is s .diked → ¬ Is s .failed → ∃ t, exec (.regnReturn j) s = .next t ∧ Ended j c (stRes .lifecycle) t))) ∧
    (fld b 1 1 = r → Passes [paramZero c.job 0xFFFFFFFF, bodyIs c.job 4, famEnabled s c.job] → AtWork 0x0B03 j c s →
      let i := fld b 0 1
      let l := (s.region r).svc.warm
      fld b 2 1 ≤ 8 → fld b 3 1 ≤ 2 →
        (warmOthers l i (·.lattice) + fld b 2 1 ≤ 16 → warmOthers l i (·.number) + fld b 3 1 ≤ 4 →
          ∃ t, exec (.regnReserveWarm j) s = .next t ∧ Ended j c okRes t ∧ (t.region r).svc.warm = l.filter (fun x => !(x.inst == i)) ++
            if fld b 2 1 = 0 ∧ fld b 3 1 = 0 then [] else [{ inst := i, lattice := fld b 2 1, number := fld b 3 1 }]) ∧
        (16 < warmOthers l i (·.lattice) + fld b 2 1 → ∃ t, exec (.regnReserveWarm j) s = .next t ∧ Ended j c (stRes .quota) t ∧
          (t.region r).svc.warm = l)) ∧
    (Is s .draining →
      ((∀ d ∈ s.cmds, Cmd.ackedBy r d = false) → s.life.opening = none →
        ∃ t, exec (.regionDrained r) s = .next t ∧ Is t .diked ∧ (t.region r).shelf = [] ∧ (t.region r).rng.reservoir = 0 ∧
          (t.region r).keks = [] ∧ (t.region r).path.wiped = false) ∧
      (s.tick < (s.region r).path.drainBy → exec (.drainTimeout r) s = .next s) ∧
      ((s.region r).path.drainBy ≤ s.tick → (∀ d ∈ s.cmds, Cmd.ackedBy r d = false) → s.life.opening = none →
        ∃ t, exec (.drainTimeout r) s = .next t ∧ Is t .diked)) ∧
    (Is s .diked → (s.region r).path.wiped = false → (s.region r).svc.outByFault = false →
      ∃ t, exec (.regionSramWiped r) s = .next t ∧ Is t .diked ∧ (t.region r).path.wiped = true ∧
        ∀ p ∈ panNums, (t.pan r p).svc.pwr = .dormant ∧ (t.pan r p).msg.seeded = false) ∧
    (Is s .testing → idle →
      (∃ t, exec (.regionTestingDone r true) s = .next t ∧ Is t .loading ∧ (t.region r).svc.mod0 = 2 ∧ (t.region r).svc.mod1 = 2 ∧
        ∀ u ∈ t.faults.quarantined, u.region ≠ some r) ∧
      (∃ t, exec (.regionTestingDone r false) s = .next t ∧ Is t .failed ∧ (t.region r).svc.outByFault = true)) ∧
    (∀ oks, Is s .loading → idle →
      ((s.region r).rng.state = .running → bit oks 0 = true ∨ bit oks 1 = true → bit oks 2 = true ∨ bit oks 3 = true →
        ∃ t, exec (.regionLoadingDone r oks) s = .next t ∧ Is t .rejoining ∧
          (t.region r).svc.fallback = (if bit oks 0 then [] else [2]) ++ (if bit oks 2 then [] else [3]) ∧
          (t.region r).svc.image2 = ((s.fw 2).bank (!bit oks 0)).data ∧ (t.region r).svc.image3 = ((s.fw 3).bank (!bit oks 2)).data) ∧
      (bit oks 0 = false → bit oks 1 = false → ∃ t, exec (.regionLoadingDone r oks) s = .next t ∧ Is t .failed)) ∧
    (Is s .rejoining → idle → ∃ t, exec (.regionRejoinDone r) s = .next t ∧ Is t .inService ∧ (t.region r).svc.outByCmd = false ∧
      (t.region r).svc.outByFault = false ∧ (t.region r).cust.held = s.cust.pkgs.map (·.1) ∧
      ∀ p ∈ panNums, (t.pan r p).svc.pwr = .idle)

/-- Points, pans, links, errors and limits of a region (R408, R409, R411, R423-R425, R429, R536). -/
def Obligations.RegionsAreTended : Prop :=
  ∀ (s : State) (r p v slot : Nat), s.enabled r = true → s.faults.slotFor = some slot →
    let g := (s.region r).svc
    let Noted (t : State) (u : FUnit) (x : FCause) (k : FClass) : Prop := ∃ rec, tfind t.faults.ring slot = some rec ∧ rec.on = u ∧
      rec.cause = x ∧ rec.cls = k
    (Reached 0 s →
      ∃ t, exec (.pointWrite r v) s = .next t ∧ OnlyRegion r s t ∧ (t.region r).svc.cfg = g.cfg.write v ∧
        (t.region r).svc.pointNow = g.pointNow ∧
        (g.switching = false → ((t.region r).svc.switching = true ↔ g.pointNow ≠ (bit v 0 || bit s.power.thermEff r)))) ∧
    (∀ mv, g.switching = true → ∃ t, exec (.pointSwitchDone r mv true) s = .next t ∧ (t.region r).svc.pointNow = !g.pointNow ∧
      (t.region r).svc.vddMv = mv ∧ t.out = (emit (.setpoint (setpointFrame r mv 25)) s).out) ∧
    (p < 4 → (s.pan r p).svc.waking = none →
      ((s.pan r p).svc.pwr = .idle → (s.pan r p).svc.held = false → s.panWarm r p = false →
        (s.pan r p).svc.since + 1000 * g.cfg.idleUs ≤ s.tick → ∃ t, exec (.panIdleTimeout r p) s = .next t ∧ OnlyRegion r s t ∧
          (t.pan r p).svc.pwr = .nap ∧ (t.pan r p).msg = (s.pan r p).msg) ∧
      (s.tick < (s.pan r p).svc.since + 1000 * g.cfg.idleUs → exec (.panIdleTimeout r p) s = .next s) ∧
      ((s.pan r p).svc.pwr = .nap → g.cfg.napMs ≠ 0 → s.panKeeps r p = false →
        (s.pan r p).svc.since + 1000000 * g.cfg.napMs ≤ s.tick → ∃ t, exec (.panNapTimeout r p) s = .next t ∧ OnlyRegion r s t ∧
          (t.pan r p).svc.pwr = .dormant ∧ (t.pan r p).msg.seeded = false) ∧
      (g.cfg.napMs = 0 → exec (.panNapTimeout r p) s = .next s)) ∧
    (let l := g.retryTicks.filter fun t => decide (s.tick < t + 1000000000);
      (l.length < 1000 → ∃ t, exec (.linkRetry r) s = .next t ∧ OnlyRegion r s t ∧ (t.region r).svc.retries = inc32 g.retries ∧
        (t.region r).svc.retryTicks = l ++ [s.tick]) ∧
      (1000 ≤ l.length → ∃ t, exec (.linkRetry r) s = .next t ∧ Noted t (regionUnit r .dieLink) .linkRetryRate .contain)) ∧
    (g.mod0 = 2 → g.mod1 = 2 → ∃ t, exec (.linkLaneFailure r false) s = .next t ∧ (t.region r).svc.mod0 = 1 ∧
      Noted t (regionUnit r .dieLink) .linkDegrade .contain) ∧
    (∃ t, exec (.eccError (.free r) true) s = .next t ∧ Noted t (regionUnit r .regionSram) .eccCorr .note ∧ t.regions = s.regions) ∧
    (∀ i k, ∃ t, exec (.eccError (.shelf r i k) false) s = .next t ∧ Noted t (regionUnit r .regionSram) .eccUnc .note ∧
      (t.region r).shelf = (s.region r).shelf.filter fun e => !(e.inst == i && e.keyId == k)) ∧
    (r < 8 → ∃ t, exec (.rakePass r true none) s = .next t ∧ OnlyRegion r s t ∧ (t.region r).svc.rakePasses = inc32 g.rakePasses) ∧
    (∀ target slack, target ≤ 900 → let mv := max 620 ((target + 4) / 5 * 5)
      ∃ t, exec (.agingEvaluation r target slack true) s = .next t ∧ (t.region r).svc.vddMv = mv ∧
        (t.region r).svc.marginPs = min slack 65535 ∧ (t.region r).svc.clockMhz = g.clockMhz ∧
        t.out = if mv = g.vddMv then s.out else (emit (.setpoint (setpointFrame r mv 10)) s).out) ∧
    (r < 8 →
      (∃ t, exec (.thermalThreshold r 2 true) s = .next t ∧ bit t.power.thermEff r = true ∧
        (g.switching = false → g.pointNow = false → (t.region r).svc.switching = true)) ∧
      (∃ t, exec (.thermalThreshold r 3 true) s = .next t ∧ bit t.power.thermHeld r = true ∧
        t = { s with power := { s.power with thermHeld := t.power.thermHeld } }) ∧
      (∃ t, exec (.thermalThreshold r 4 true) s = .next t ∧ Noted t (regionUnit r .steward) .overtemp .fence ∧
        (s.pkg.halted = false → g.state = .inService → s.life.opening = none → (t.region r).svc.state = .diked)))

/-- FLT_ACK from a host that reaches it (R434, R435): a pending record that has not expired is acknowledged; any other write is ignored
and counted under NOTE. What comes of a record (R432, R435): its test ends, marked TRANSIENT where it passes and fewer than three transients of the unit lie
within 60 s; unacknowledged, a CONTAIN of a region escalates to its FENCE, a FENCE to HALT. -/
def Obligations.RecordsAreAcknowledgedAndResolve : Prop :=
  (∀ (s : State) (hi : Nat), Reached 0 s →
    let q := s.faults.ackLo + 2 ^ 32 * (hi % 2 ^ 32)
    ((∃ p ∈ s.faults.pending, p.fseq = q ∧ s.tick < p.end) →
      ∃ t, exec (.fltAck hi) s = .next t ∧ t.faults.pending = s.faults.pending.filter (fun p => !(p.fseq == q)) ∧
        (∀ e ∈ t.faults.ring, e.2.fseq = q → e.2.acked = true) ∧ t.faults.counts = s.faults.counts ∧ t.faults.head = s.faults.head) ∧
    ((∀ p ∈ s.faults.pending, p.fseq = q → p.end ≤ s.tick) →
      ∃ t, exec (.fltAck hi) s = .next t ∧ t.faults.pending = s.faults.pending ∧
        t.faults.counts = setAt s.faults.counts 0 inc32)) ∧
  (∀ (s : State) (q : Nat) (pass : Bool), s.pkg.halted = false → q ≤ s.faults.head →
    (∀ x rec, s.faults.tests.find? (fun t => t.fseq == q) = some x → (s.faults.ring.map (·.2)).find? (fun r => r.fseq == q) = some rec →
      ∃ t, exec (.selfTestResult q pass) s = .next t ∧ (∀ y ∈ t.faults.tests, y.fseq ≠ q) ∧
        (pass = true → recentTransients s.faults x.on rec.tick < 3 →
          (∀ e ∈ t.faults.ring, e.2.fseq = q → e.2.transient = true ∧ e.2.lasting = false) ∧
            (x.cls = .contain → x.on ∉ t.faults.quarantined))) ∧
    (∀ p rec, s.faults.pending.find? (fun p => p.fseq == q) = some p → p.end ≤ s.tick →
      (s.faults.ring.map (·.2)).find? (fun r => r.fseq == q) = some rec →
      (∀ n slot, rec.cls = .contain → rec.escalates = some n → s.enabled n = true → (s.region n).svc.state.fenceable = true →
        ({ s.faults with pending := s.faults.pending.filter fun x => !(x.fseq == q) } : Faults).slotFor = some slot →
        ∃ t, exec (.sluiceExpiry q) s = .next t ∧ (t.region n).svc.state = .diked ∧ (t.region n).svc.outByFault = true) ∧
      (rec.cls = .fence → ∃ t, exec (.sluiceExpiry q) s = .next t ∧ t.pkg.halted = true)))

/-- Faults that a unit meets (R427, R429, R430): the record has the unit, the cause and the class, and takes the slot R437 gives. Injection, the error pair and the fault summary (R440, R443, R444). -/
def Obligations.FaultsAreRecordedAndInjected : Prop :=
  (∀ (s : State) (r n slot : Nat) (k : UnitKind), s.faults.slotFor = some slot →
    let Recorded (t : State) (u : FUnit) (x : FCause) (c : FClass) : Prop := ∃ rec, tfind t.faults.ring slot = some rec ∧
      rec.fseq = s.faults.head + 1 ∧ rec.tick = s.tick ∧ rec.on = u ∧ rec.cause = x ∧ rec.cls = c
    (s.unitThere r k n = true →
      (∃ t, exec (.seqCheckFault r k n) s = .next t ∧ Recorded t (cellUnit r k n) .seqCheck .retry ∧
        t.faults.head = s.faults.head + 1) ∧
      (∃ t, exec (.dupMismatch r k n true) s = .next t ∧ Recorded t (cellUnit r k n) .matchPattern .retry ∧
        t.faults.head = s.faults.head + 1) ∧
      (k ≠ .sym → ∃ t, exec (.dupMismatch r k n false) s = .next t ∧ Recorded t (cellUnit r k n) .dupMismatch .retry)) ∧
    (s.enabled r = true → n < 4 →
      ∃ t, exec (.panWatchdogTrip r n) s = .next t ∧ Recorded t (panUnit r n) .watchdog .contain ∧ s.faults.head < t.faults.head)) ∧
  (∀ (s : State) (v : Nat),
    (Reached 0 s → bit v 31 = true →
      (s.pkg.mode ≠ .factoryTest → exec (.fltInject v) s = .next (s.modFaults fun f => { f with injectDenied := true })) ∧
      (∀ u c slot, s.pkg.mode = .factoryTest → injectUnit v = some u → FCause.ofCode (bits v 7 0) = some c →
        injectedClass c u s.pkg.fuses.rngStrict (s.cmds.any fun d => d.holds false u) = .note → s.faults.slotFor = some slot →
        ∃ t, exec (.fltInject v) s = .next t ∧ t.faults.head = s.faults.head + 1 ∧
          ∃ rec, tfind t.faults.ring slot = some rec ∧ rec.on = u ∧ rec.cause = c ∧ rec.cls = .note ∧ rec.injected = true)) ∧
    (s.pkg.fuses.pairDynamic = true → s.pairFault = false → s.faults.pairSince + 500000 ≤ s.tick → s.pkg.mode ≠ .off →
      s.pkg.mode ≠ .backup → ∃ t, exec .errorPairPhaseToggle s = .next t ∧ t.pair = (s.pair.2, s.pair.1) ∧ t.faults.pairSince = s.tick) ∧
    (s.pkg.mode.mainPower = true → exec .sidebandSummaryRead s = .next (emit (.sideband (summary s)) s) ∧ (summary s).length = 56))

/-- The JRNL verbs (R451, R456, R546), each at work with its checks passed. The journal's own events (R89, R447, R449, R450, R455). -/
def Obligations.JournalIsKept : Prop :=
  (∀ (s : State) (j : Nat) (c : Cmd),
    (AtWork 0x0A01 j c s → Passes [paramZero c.job 0xFFFFFFFF, bodyIs c.job 11,
        check (decide (1 ≤ fld c.job.args 8 2) && decide (fld c.job.args 8 2 ≤ 16384)) .malformed, famEnabled s c.job,
        check (c.job.admin || fld c.job.args 10 1 == c.job.inst) .notPermitted] →
      let sel := (ringEntries s).filter fun e => decide (fld c.job.args 0 8 ≤ e.jseq) && admits (fld c.job.args 10 1) e
      let w := sel.take (min (fld c.job.args 8 2) (outCapacity c.job.frags 0 / 64))
      ∃ t, exec (.jrnlRead j) s = .next t ∧ Ended j c
        (if sel.isEmpty then respRes (zeros 8)
         else if outCapacity c.job.frags 0 < 64 then { status := .outputShort, need := 64 }
         else { status := .ok, outs := [(0, (w.map JEntry.image).flatten)],
                resp := le 4 w.length ++ le 4 (if w.length < sel.length then 1 else 0) }) t) ∧
    (AtWork 0x0A02 j c s → Passes [paramZero c.job 0xFFFFFFFF, bodyIs c.job 1, check (decide (fld c.job.args 0 1 < 2)) .malformed,
        famEnabled s c.job] →
      (bit (fld c.job.args 0 1) 0 = false → ∀ p, newestCp s = some p →
        ∃ t, exec (.jrnlCheckpoint j) s = .next t ∧ Ended j c (outTo c.job 0 (p.object s.pkg.fuses.unit)) t) ∧
      (bit (fld c.job.args 0 1) 0 = true → c.prog.counted = false → s.cpSigning = false →
        ∃ t, exec (.jrnlCheckpoint j) s = .next t ∧ t.jrn.cpOpen = some (cpBody s) ∧ t.jrn.cpTick = s.tick)) ∧
    (AtWork 0x0A03 j c s → Passes [paramZero c.job 0xFFFFFFFF, bodyIs c.job 18,
        check (decide (12 ≤ fld c.job.args 16 1) && decide (fld c.job.args 16 1 ≤ 30) && decide (fld c.job.args 17 1 < 2)) .malformed,
        famEnabled s c.job] →
      ∃ t, exec (.jrnlMirrorSet j) s = .next t ∧ Ended j c okRes t ∧ t.jrn.mirrorBase = fld c.job.args 0 8 ∧
        t.jrn.mirrorCp = fld c.job.args 8 8 ∧ t.jrn.mirrorLog2 = fld c.job.args 16 1 ∧
        t.jrn.mirrorOn = (fld c.job.args 17 1 == 1)) ∧
    (AtWork 0x0A04 j c s → Passes [paramZero c.job 0xFFFFFFFF, bodyIs c.job 1,
        check (decide (fld c.job.args 0 1 < 8) || fld c.job.args 0 1 == 0xFF) .malformed, famEnabled s c.job] →
      ∃ t, exec (.jrnlBtnRead j) s = .next t ∧ Ended j c
        (if fld c.job.args 0 1 = 0xFF then outTo c.job 0 (btnImage s)
         else match tfind s.btn.slots (fld c.job.args 0 1) with
           | some b => outTo c.job 0 b.record
           | none => okRes) t) ∧
    (AtWork 0x0A05 j c s → Passes [paramZero c.job 0xFFFFFFFF, bodyIs c.job 0, famEnabled s c.job] →
      ∃ t, exec (.jrnlBtnList j) s = .next t ∧ Ended j c (outTo c.job 0 ((regionNums.map fun n => match tfind s.btn.slots n with
        | some b => b.header
        | none => zeros 32).flatten)) t)) ∧
  (∀ (s : State),
    let Signable : Prop := ∃ r, regionNums.find? s.inService = some r ∧ attestDraw ≤ (s.region r).rng.reservoir ∧
      (sealPan s r (identityMask s r) none).isSome = true ∧ ∀ p, (sealCheckPlace s r p).isSome = true
    let Verifies (ctx : String) (m : List Byte) : Prop := ∀ rnd p, Config.stdOk "device identity signature" [identityPub s, ascii ctx,
      stdN 4723 "device identity signature" [le 8 s.pkg.fuses.unit, ascii ctx, rnd, le 1 p, m], m] = true
    (s.jrn.raising = true → ∃ t, exec .jseqReserveComplete s = .next t ∧ t.jrn.limit = s.jrn.limit + 2 ^ 36 ∧
      t.jrn.nextJseq = s.jrn.nextJseq + 1 ∧ t.jrn.jpos = s.jrn.jpos + 1) ∧
    (s.pkg.halted = false → ∃ t, exec .batchTimerExpiry s = .next t ∧
      t.jrn.batches = s.jrn.batches.filter (fun b => !decide (b.firstTick + 1000000 ≤ s.tick)) ∧
      t.jrn.jpos = s.jrn.jpos + (s.jrn.batches.filter fun b => decide (b.firstTick + 1000000 ≤ s.tick)).length) ∧
    (s.journals = true → s.cpSigning = false → 0 < s.jrn.jpos → (65536 ≤ s.jrn.cpSince ∨ s.jrn.cpTick + 1000000000 ≤ s.tick) →
      ∃ t, exec .checkpointDue s = .next t ∧ t.jrn.cpOpen = some (cpBody s) ∧ t.jrn.cpSince = 0 ∧ t.jrn.cpTick = s.tick) ∧
    (∀ b, s.jrn.cpHalt.or s.jrn.cpOpen = some b → Signable → s.journals = true → s.pkg.zeroized = false →
      ∃ t, exec .checkpointSigned s = .next t ∧ (Verifies "EXM-JRNL-CP-1" (b.bytes s.pkg.fuses.unit) → ∃ cp e, tfind t.jrn.store s.jrn.cpNext = some cp ∧ cp = { b with sig := cp.sig } ∧
        t.jrn.cpNext = (s.jrn.cpNext + 1) % 16 ∧ t.jrn.cpCount = inc32 s.jrn.cpCount ∧
        tfind t.jrn.ring (s.jrn.jpos % 16384) = some e ∧ e.type = 4 ∧ e.aux = b.lastJseq)) ∧
    (∀ z, s.btn.freeze = some z → s.btn.copyPending = true → Signable → s.journals = true → s.pkg.zeroized = false →
      ∃ t, exec .bitternSlotWritten s = .next t ∧ (Verifies "EXM-BITTERN-1" (btnImage s) → ∃ b, t.btn.freeze = none ∧ t.btn.copyPending = false ∧
        tfind t.btn.slots s.btn.nextSlot = some b ∧ b.bootCount = z.bootCount ∧ b.trigger = z.trigger ∧ b.committed = true ∧
        b.body = btnImage s ∧ t.btn.nextSlot = (s.btn.nextSlot + 1) % 8)))

/-- The verbs of images and sensors (R463, R464, R466, R467, R469), each at work with its checks passed. -/
def Obligations.ImageVerbs : Prop :=
  ∀ (s : State) (j : Nat) (c : Cmd),
    let b := c.job.args
    let k := fld b 0 1
    let Free : Option Status := check (s.mgmt.agent != some .pldm) .deferred
    let Kept (t : State) : Prop := ∀ n, n ≠ k → t.fw n = s.fw n
    (AtWork 0x0C01 j c s → Passes (kindChecks s c.job 8 ++ [check (decide (1 ≤ (c.job.operand 0).length) &&
        decide ((c.job.operand 0).length ≤ 1048576)) .badFragment, check (decide (fld b 4 4 + (c.job.operand 0).length ≤ bankSize k))
        .paramUnsupported, check (s.mgmt.agent != some .pldm && !s.runsOther k) .deferred]) →
      let old := (s.fw k).bank true
      ∃ t, exec (.mgmtFwWrite j) s = .next t ∧ Ended j c okRes t ∧ Kept t ∧ (t.fw k).bank false = (s.fw k).bank false ∧
        (t.fw k).bank true = { data := fit (fld b 4 4) old.data ++ c.job.operand 0 ++ old.data.drop (fld b 4 4 + (c.job.operand 0).length),
                               valid := old.valid && fld b 4 4 != 0 } ∧ t.mgmt.agent = some .mailbox ∧ t.mgmt.agentTick = s.tick) ∧
    (AtWork 0x0C02 j c s → Passes (kindChecks s c.job 4 ++ [Free]) →
      let img := ((s.fw k).bank true).data
      ∃ t, exec (.mgmtFwVerify j) s = .next t ∧ Kept t ∧
        (t.fw k).bank true = { data := img, valid := (imgCheck s k img).isNone } ∧
        Ended j c (match imgCheck s k img with
          | some st => stRes st
          | none => respRes (le 4 (imgBuild img) ++ le 2 (imgRollback img))) t) ∧
    (AtWork 0x0C03 j c s → Passes (kindChecks s c.job 5 ++ [check (fld b 4 1 == 0 || (fld b 4 1 == 1 && k != 1)) .malformed, Free,
        check ((s.fw k).bank true).valid .lifecycle, check (k != 1 || !s.otherLong j) .deferred]) →
      ∃ t, exec (.mgmtFwActivate j) s = .next t ∧ (t.fw k).active = !(s.fw k).active ∧ (t.fw k).trial = true ∧ t.mgmt.agent = none ∧
        (k ≠ 1 → Ended j c okRes t ∧ (fld b 4 1 = 0 → t.mgmt.roll = s.mgmt.roll) ∧ (fld b 4 1 = 1 → t.mgmt.roll =
          some { kind := k, todo := regionNums.filter fun r => s.enabled r && (s.region r).svc.state != .failed })) ∧
        (k = 1 → t.mgmt.activating = some (some j, s.tick) ∧ t.mgmt.running = false ∧ t.mgmt.spdm = [] ∧
          (s.pkg.mode.isService = true → t.pkg.mode = .update))) ∧
    (AtWork 0x0C04 j c s → Passes (kindChecks s c.job 4) →
      (s.runsEverywhere k = true → let n := max (s.fw k).counter (imgRollback ((s.fw k).bank false).data)
        ∃ t, exec (.mgmtFwCommit j) s = .next t ∧ Ended j c okRes t ∧ Kept t ∧ (t.fw k).counter = n ∧ (t.fw k).trial = false ∧
          (t.fw k).bank false = (s.fw k).bank false ∧
          ((t.fw k).bank true).valid = (((s.fw k).bank true).valid && decide (n ≤ imgRollback ((s.fw k).bank true).data))) ∧
      (s.runsEverywhere k = false → ∃ t, exec (.mgmtFwCommit j) s = .next t ∧ Ended j c (stRes .deferred) t ∧ t.mgmt = s.mgmt)) ∧
    (AtWork 0x0C05 j c s → Passes [paramZero c.job 0xFFFFFFFF, bodyIs c.job 0, famEnabled s c.job] →
      ∃ t, exec (.mgmtFwStatus j) s = .next t ∧ Ended j c (respRes (fwRecord s 1 ++ fwRecord s 2 ++ fwRecord s 3)) t) ∧
    (AtWork 0x0C06 j c s → Passes [paramZero c.job 0xFFFFFFFF, bodyIs c.job 4, check (zero? b 1 3) .malformed, famEnabled s c.job,
        check (decide (k < 8) || k == 0xFF) .paramUnsupported] → let u := if k = 0xFF then 8 else k
      ∃ t, exec (.mgmtSensors j) s = .next t ∧ t.mgmt = s.mgmt ∧ Ended j c (respRes (([0, 1, 2].map fun ty =>
        ((List.range (sensorCount u ty)).map fun n => le 2 (s.sensor u ty n)).flatten).flatten)) t)

/-- Activation, roll and heartbeat (R458, R467, R468, R469): the first heartbeat within 40 ms ends UPDATE, or the old bank is loaded;
a roll takes the next region out; a lapse clears MGMT_ALIVE, and the watchdog and a lockstep mismatch stop the package. -/
def Obligations.FirmwareStartsAndLapses : Prop :=
  ∀ (s : State),
    (s.beats = true →
      (s.mgmt.activating = none → exec .mgmtFirstHeartbeat s =
        .next { s with mgmt := { s.mgmt with running := true, alive := true, beat := s.tick } }) ∧
      (∀ j c t0, s.mgmt.activating = some (some j, t0) → s.cmd? j = some c → s.tick ≤ t0 + 40000000 →
        ∃ t, exec .mgmtFirstHeartbeat s = .next t ∧ Ended j c okRes t ∧ t.mgmt.activating = none ∧ t.mgmt.running = true ∧
          t.mgmt.image = ((s.fw 1).bank false).data ∧ t.pkg.mode ≠ .update)) ∧
    (∀ j c t0 bad, s.mgmt.activating = some (some j, t0) → s.cmd? j = some c → bad = true ∨ t0 + 40000000 < s.tick →
      ∃ t, exec (.activationFallback bad) s = .next t ∧ Ended j c (stRes .abortedFault) t ∧ t.mgmt.activating = none ∧
        (t.fw 1).active = !(s.fw 1).active ∧ (t.fw 1).fallback = true ∧ (t.fw 1).trial = false ∧ t.mgmt.image = s.mgmt.image ∧
        t.pkg.mode ≠ .update) ∧
    (∀ x r rest ms full, s.mgmt.roll = some x → s.pkg.halted = false →
      (x.out = none → x.todo = r :: rest → s.rolled x.kind r = false → s.inService r = true → (∃ q ∈ regionNums, q ≠ r ∧ s.inService q = true) →
        ∃ t, exec (.regionRollStep ms full) s = .next t ∧ (t.region r).svc.state = .draining ∧
          t.mgmt.roll = some { x with todo := rest, out := some r }) ∧
      (x.out = some r → (s.region r).svc.state = .diked → (s.region r).path.wiped = true → (s.region r).svc.outByCmd = true →
        s.debugHeld r = false → ∃ t, exec (.regionRollStep ms full) s = .next t ∧ (t.region r).svc.state = .testing) ∧
      (x.out = some r → (s.region r).svc.state = .inService → (s.region r).svc.fallback.contains x.kind = true →
        exec (.regionRollStep ms full) s = .next (s.modMgmt fun m => { m with roll := none }))) ∧
    (s.mgmt.agent.isSome = true →
      (s.tick < s.mgmt.agentTick + 60000000000 → exec .updateAgentTimeout s = .next s) ∧
      (s.mgmt.agentTick + 60000000000 ≤ s.tick →
        exec .updateAgentTimeout s = .next (s.modMgmt fun m => { m with agent := none, pldm := {} }))) ∧
    exec .heartbeatLapse s = .next (s.modMgmt fun m => { m with alive := false }) ∧
    (s.mgmt.running = true → s.mgmt.alive = false → s.mgmt.activating = none → s.mgmt.held = false → s.pkg.halted = false →
      ∃ t, exec .watchdogReset s = .next t ∧ t.pkg.halted = true ∧ t.mgmt.held = true ∧
        (s.btn.freeze = none → s.faults.slotFor ≠ none → ∃ z, t.btn.freeze = some z ∧ z.trigger = 0x12)) ∧
    (s.pkg.mode.mainPower = true → s.pkg.mode ≠ .standby →
      ∃ t, exec .skanelLockstepMismatch s = .next t ∧ t.pkg.halted = true ∧ ∀ slot, s.faults.slotFor = some slot →
        ∃ rec, tfind t.faults.ring slot = some rec ∧ rec.on = apexUnit .skanelPair 0xFF ∧ rec.cause = .lockstep ∧ rec.cls = .halt)

/-- Updates, sessions and acknowledgements over MCTP and DOE (R110, R469, R470, R471, R472): where the device answers, each message moves
the update on, or is answered that the device is not in that state. -/
def Obligations.ManagementMessages : Prop :=
  ∀ (s : State) (pcie last : Bool), s.pldmUp = true →
    let p := s.mgmt.pldm
    let In (st : PldmState) : Prop := s.mgmt.agent = some .pldm ∧ p.st = st
    let Now (t : State) (q : Pldm) : Prop := t.mgmt.pldm = q ∧ t.mgmt.agent = some .pldm ∧ t.mgmt.agentTick = s.tick
    (∃ t, exec (.pldmQueryDeviceIdentifiers pcie) s = .next t ∧ t = { s with out := t.out } ∧ t.out.length = s.out.length + 1) ∧
    (∃ t, exec (.pldmGetFirmwareParameters pcie) s = .next t ∧ t = { s with out := t.out } ∧ t.out.length = s.out.length + 1) ∧
    (∃ t, exec (.pldmGetStatus pcie) s = .next t ∧ t = { s with out := t.out } ∧ t.out.length = s.out.length + 1) ∧
    (s.mgmt.agent = none → ∃ t, exec (.pldmRequestUpdate pcie) s = .next t ∧ Now t { st := .learn }) ∧
    (s.mgmt.agent ≠ none → ∃ t, exec (.pldmRequestUpdate pcie) s = .next t ∧ t = { s with out := t.out }) ∧
    (In .learn → ∃ t, exec (.pldmPassComponentTable pcie last) s = .next t ∧
      Now t { p with st := if last then .ready else .learn }) ∧
    (In .ready →
      (∀ k n, componentOk s k n = true → ∃ t, exec (.pldmUpdateComponent pcie k n) s = .next t ∧
        Now t { p with st := .download, kind := k, size := n, got := 0 }) ∧
      (∀ k n, componentOk s k n = false → ∃ t, exec (.pldmUpdateComponent pcie k n) s = .next t ∧ Now t p) ∧
      (p.applied = [2] → s.mgmt.recovery = false → ((s.fw 2).bank true).valid = true →
        ∃ t, exec (.pldmActivateFirmware pcie) s = .next t ∧ t.mgmt.agent = none ∧ (t.fw 2).active = !(s.fw 2).active ∧
          (t.fw 2).trial = true ∧ ∃ x, t.mgmt.roll = some x ∧ x.kind = 2 ∧ x.out = none ∧
            x.todo = regionNums.filter fun r => s.enabled r && (s.region r).svc.state != .failed)) ∧
    (In .download →
      (∀ d, d.length = min (if pcie then 4096 else 1024) (p.size - p.got) → 0 < d.length →
        ∃ t, exec (.pldmRequestFirmwareData pcie d) s = .next t ∧ Now t { p with got := p.got + d.length } ∧
          ((t.fw p.kind).bank true).data = fit p.got ((s.fw p.kind).bank true).data ++ d ++
            ((s.fw p.kind).bank true).data.drop (p.got + d.length)) ∧
      (p.got = p.size → ∃ t, exec (.pldmTransferComplete pcie) s = .next t ∧ Now t { p with st := .verify }) ∧
      ∃ t, exec (.pldmCancelUpdateComponent pcie) s = .next t ∧ Now t { p with st := .ready, kind := 0, size := 0, got := 0 }) ∧
    (In .verify → let bad := imgCheck s p.kind ((s.fw p.kind).bank true).data
      ∃ t, exec (.pldmVerifyComplete pcie) s = .next t ∧ Now t (if bad.isNone then { p with st := .apply } else p) ∧
        ((t.fw p.kind).bank true).valid = bad.isNone) ∧
    (In .apply → ∃ t, exec (.pldmApplyComplete pcie) s = .next t ∧ Now t { p with st := .ready, applied := p.applied ++ [p.kind] }) ∧
    (s.mgmt.agent = some .pldm → p.st ≠ .idle → ∃ t, exec (.pldmCancelUpdate pcie) s = .next t ∧ t.mgmt.agent = none ∧
      t.mgmt.pldm = {} ∧ t.mgmt.kinds = s.mgmt.kinds) ∧
    (∀ e msg, ∃ t, exec (.mctpControlMessage pcie (some e) msg) s = .next t ∧ t.mgmt = { s.mgmt with eid := e % 256 }) ∧
    (s.mctpUp = true →
      (∀ n d, n ≤ 3 → ∃ t, exec (.spdmRequest pcie (.openSession n d)) s = .next t ∧
        t.mgmt = { s.mgmt with spdm := s.mgmt.spdm ++ [{ slot := s.holdsSlot n, doe := d && pcie }] }) ∧
      (∀ n chain, 1 ≤ n → n ≤ 3 → s.lcState = 3 → ∃ t, exec (.spdmRequest pcie (.setCertificate n chain)) s = .next t ∧
        tget (fun _ => []) t.mgmt.chains n = chain) ∧
      (∀ n x, s.mgmt.spdm[n]? = some x →
        (x.doe = true → ∀ m, m ≤ 32 → ∃ t, exec (.spdmRequest true (.ideKm n m)) s = .next t ∧ m ∈ t.pkg.ideSecure) ∧
        (x.slot = 0 → ∀ q, exec (.mctpFaultAck n q) s = .next s) ∧
        (1 ≤ x.slot → x.slot ≤ 3 → ∀ q, (∃ y ∈ s.faults.pending, y.fseq = q ∧ s.tick < y.end) → q < 2 ^ 64 →
          ∃ t, exec (.mctpFaultAck n q) s = .next t ∧
            t.faults.pending = s.faults.pending.filter (fun y => !(y.fseq == q)))))

/-- Acknowledgement over MCTP (R472): inside an SPDM session whose requester holds a certificate in slot 1 to 3 the message acknowledges
the pending record that it names; in any other session, and with none, it does nothing. -/
def Obligations.AcknowledgementOverMctp : Prop :=
  ∀ (s : State) (n q : Nat), s.mctpUp = true → q < 2 ^ 64 →
    ((∃ x, s.mgmt.spdm[n]? = some x ∧ 1 ≤ x.slot ∧ x.slot ≤ 3) → (∃ p ∈ s.faults.pending, p.fseq = q ∧ s.tick < p.end) →
      ∃ t, exec (.mctpFaultAck n q) s = .next t ∧ t.faults.pending = s.faults.pending.filter (fun p => !(p.fseq == q)) ∧
        (∀ e ∈ t.faults.ring, e.2.fseq = q → e.2.acked = true) ∧ t = { s with faults := t.faults } ∧
        t.faults.counts = s.faults.counts) ∧
    ((∀ x, s.mgmt.spdm[n]? = some x → ¬ (1 ≤ x.slot ∧ x.slot ≤ 3)) → exec (.mctpFaultAck n q) s = .next s)

/-- Transitions (R474, R477-R482): the first failing check of R480 decides the status and nothing changes; otherwise the steps of the
operation are carried out with their marks, and DONE ends the request, or, cut short, the marks show how far it came. -/
def Obligations.LifeCycleTransitions : Prop :=
  ∀ (s : State) (j cut : Nat) (c : Cmd), AtWork 0x0D02 j c s →
    let b := c.job.request
    let op := lcOp b
    let checks := paramZero c.job 0xFFFFFFFF :: famEnabled s c.job :: lcChecks s b
    (∀ st, firstBad checks = some st → ∃ t, exec (.lifeTransition j cut) s = .next t ∧ Ended j c (stRes st) t ∧ t.life = s.life ∧
      t.vault = s.vault ∧ t.mgmt = s.mgmt) ∧
    (Passes checks → op = 7 → ∃ t, exec (.lifeTransition j cut) s = .next t ∧ Ended j c okRes t ∧ t.life.session = none ∧
      t.life.otp = { s.life.otp with dbgCount := s.life.otp.dbgCount + 1 }) ∧
    (Passes checks → op ≠ 7 → stepsOf op < cut → (op = 3 ∨ op = 5 → ∀ d ∈ s.cmds, ∀ r, Cmd.ackedBy r d = false) →
      ∃ t, exec (.lifeTransition j cut) s = .next t ∧ Ended j c okRes t ∧
        tfind t.life.otp.progress (slotOf s op) = some (slotWord op (stepsOf op) true) ∧
        (op = 1 → t.life.otp.stage = 2 ∧ t.life.otp.voucher = true) ∧
        (op = 2 → t.life.otp.stage = 3 ∧ t.life.otp.authHash = lcHash b ∧ t.life.otp.ownerCfg = lcBlock b) ∧
        (op = 3 ∨ op = 4 → t.life.otp.lcCount = s.life.otp.lcCount + 1 ∧ t.life.session = none) ∧
        (op = 3 ∨ op = 5 → t.vault.epoch = min 128 (s.vault.epoch + 1) ∧ t.vault.handles = [] ∧ t.vault.ownerSeed = none ∧
          t.vault.kumSlot = none) ∧
        (op = 4 → t.vault.epoch = s.vault.epoch) ∧
        (op = 5 → t.life.otp.stage = 4 ∧ t.mgmt.chains = []) ∧
        (op = 6 → t.life.otp.stage = 5 ∧ t.life.otp.pufHelper = false)) ∧
    (Passes checks → op ≠ 7 → 1 ≤ cut → cut ≤ stepsOf op → (op = 3 ∨ op = 5 → ∀ d ∈ s.cmds, ∀ r, Cmd.ackedBy r d = false) →
      ∃ t d, exec (.lifeTransition j cut) s = .next t ∧ t.cmd? j = some d ∧ d.prog.phase = .running ∧ t.life.inTransition = true ∧
        tfind t.life.otp.progress (slotOf s op) = some (slotWord op (cut - 1) false))

/-- Debug sessions (R487-R490): a request that passes the checks of R490 opens a session over its regions, which drain first; one that
fails leaves none; closed, its regions return through TESTING; the window of a certificate ends it. -/
def Obligations.DebugSessions : Prop :=
  ∀ (s : State) (j r : Nat) (c : Cmd) (b : List Byte),
    let a := debugAsk b
    let d : DebugSession := { byCert := a.cert, rights := a.rights, held := a.regions % 256, notAfter := a.notAfter }
    let checks := debugChecks s b c.job.acceptTick c.job.acceptTq
    let now := debugChecks s b s.tick s.time.quality.code
    let Draining (t : State) : Prop := bit a.regions r = true → r < 8 → (t.region r).svc.state = .draining ∧
      (t.region r).svc.outByCmd = true ∧ (t.region r).path.drainBy = s.tick + 100000000
    (AtWork 0x0D03 j c s → c.job.request = b → Passes [paramZero c.job 0xFFFFFFFF, famEnabled s c.job] →
      (Passes checks → a.regions % 256 = 0 → ∃ t, exec (.lifeDebugOpen j) s = .next t ∧ Ended j c okRes t ∧
        t.life.session = some d ∧ (s.pkg.mode.isService = true → t.pkg.mode = .debug)) ∧
      (Passes checks → a.regions % 256 ≠ 0 → ∃ t, exec (.lifeDebugOpen j) s = .next t ∧ Draining t ∧ t.life.session = none ∧
        t.life.opening = some { job := some j, session := d }) ∧
      (∀ st, firstBad checks = some st → ∃ t, exec (.lifeDebugOpen j) s = .next t ∧ Ended j c (stRes st) t ∧ t.life = s.life)) ∧
    (s.pkg.mode.mainPower = true → s.lcState = 3 ∨ s.lcState = 4 →
      (Passes now → a.regions % 256 = 0 → ∃ t, exec (.tapDbgAuth b) s = .next t ∧ t.life.session = some d ∧ t.life.dbgAuth = 0) ∧
      (Passes now → a.regions % 256 ≠ 0 → ∃ t, exec (.tapDbgAuth b) s = .next t ∧ Draining t ∧
        t.life.opening = some { job := none, session := d }) ∧
      (∀ st, firstBad now = some st → exec (.tapDbgAuth b) s =
        .next { s with life := { s.life with tapIr := 0x20, dbgAuth := st.code } })) ∧
    (∀ x, s.life.session = some x →
      let Closed (t : State) : Prop := t.life.session = none ∧ t.life.opening = none ∧ t.life.halted = [] ∧ t.life.otp = s.life.otp ∧
        (bit x.held r = true → r < 8 → (s.region r).svc.state = .diked → (t.region r).svc.state = .testing ∧
          (t.region r).path.full = false)
      (AtWork 0x0D04 j c s → Passes [paramZero c.job 0xFFFFFFFF, bodyIs c.job 0, famEnabled s c.job] →
        ∃ t, exec (.lifeDebugClose j) s = .next t ∧ Closed t ∧ Ended j c okRes t) ∧
      (s.pkg.mode.mainPower = true → ∃ t, exec .tapDbgClose s = .next t ∧ Closed t) ∧
      (x.byCert = true → x.notAfter ≤ s.tick → ∃ t, exec .debugWindowEnd s = .next t ∧ Closed t) ∧
      (x.byCert = false ∨ s.tick < x.notAfter → exec .debugWindowEnd s = .next s)) ∧
    (AtWork 0x0D01 j c s → Passes [paramZero c.job 0xFFFFFFFF, bodyIs c.job 0, famEnabled s c.job] →
      ∃ t, exec (.lifeStatus j) s = .next t ∧ t.life = s.life ∧ Ended j c (respRes (le 1 s.lcState ++ le 2 s.life.otp.lcCount ++
        le 1 s.life.otp.dbgCount ++ le 4 s.lcsDebug ++ zeros 8)) t)

/-- The test access port (R489, R491): public instructions in every state, the EXTEST group while PERST_N is low, and the vendor's
instructions where their condition holds; otherwise each acts as R491 says, with its flag set in LCS_TAP. -/
def Obligations.TestAccessPort : Prop :=
  ∀ (s : State) (pins tdi : List Byte), s.pkg.mode.mainPower = true →
    let Outs (t : State) (ir : Nat) (l : List Byte) : Prop := t = { s with life := t.life, out := s.out ++ [.tdo l] } ∧
      t.life.tapIr = ir ∧ t.life.otp = s.life.otp ∧ t.life.session = s.life.session
    let one : List Byte := le tdi.length (2 * unle tdi)
    let kept := s.life.boundary
    (∃ t, exec (.tapSamplePreload pins tdi) s = .next t ∧ Outs t 0x01 pins ∧ t.life.boundary = tdi) ∧
    (∃ t, exec .tapIdcode s = .next t ∧ Outs t 0x02 (le 4 (idcode s))) ∧
    (∃ t, exec .tapLcStatus s = .next t ∧ Outs t 0x10 (le 16 (lcStatus s))) ∧
    (∃ t, exec (.tapBypass tdi) s = .next t ∧ Outs t 0xFF one) ∧
    (∀ n x, (n, x) ∈ [(0, Instr.tapExtest pins tdi), (5, .tapExtestPulse pins tdi), (6, .tapExtestTrain pins tdi), (3, .tapHighz pins tdi),
        (4, .tapClamp pins tdi)] →
      ∃ t, exec x s = .next t ∧
        (s.pkg.perstHigh = true → Outs t n pins ∧ t.life.extestDenied = true ∧ t.life.boundary = tdi) ∧
        (s.pkg.perstHigh = false → n = 3 ∨ n = 4 → Outs t n one ∧ t.life.boundary = kept) ∧
        (s.pkg.perstHigh = false → n ≠ 3 → n ≠ 4 → Outs t n pins ∧ t.life.boundary = tdi ∧
          t.life.extestDenied = s.life.extestDenied)) ∧
    (∀ x o c n args ins f, (∀ ok code y, (ok, code, y) ∈ [(spaceOk s x, 0x22, Instr.tapDbgRead x),
          (s.life.session.isSome && s.lcState == 4, 0x23, .tapDbgWrite 0 n 0), (s.right 0 && s.holdsCore c, 0x24, .tapDbgHalt c o),
          (s.right 3 && s.holdsCore c, 0x25, .tapDbgRun c n args ins), (s.pkg.mode == .factoryTest || s.lcState == 0, 0x32, .tapFtFuse f),
          (s.life.session.isSome, 0x21, .tapDbgClose)] → ok = false →
        ∃ t, exec y s = .next t ∧ Outs t code [] ∧ t.life.dbgDenied = true) ∧
      (spaceOk s x = true → ∃ t, exec (.tapDbgRead x) s = .next t ∧ ∃ l, t.out = s.out ++ [.tdo l] ∧
        (∀ k, x = .register 0 k → mailboxBuffer 0 k = false → l = le 4 ((readReg s 0 k).getD 0))) ∧
      (s.right 0 = true → s.holdsCore c = true →
        (∃ t, exec (.tapDbgHalt c .halt) s = .next t ∧ c ∈ t.life.halted) ∧
        (∃ t, exec (.tapDbgHalt c .resume) s = .next t ∧ c ∉ t.life.halted) ∧
        (∃ t, exec (.tapDbgHalt c (.readG n)) s = .next t ∧ Outs t 0x24 (le 8 ((s.core c).rg n).toNat))) ∧
      (∀ i p q k m, s.right 3 = true → s.holdsCore c = true → s.routine? n = some (i, p, q) → c.cell = some (k, m) → k = q.kind →
        s.run? c = none → ∃ t y, exec (.tapDbgRun c n args ins) s = .next t ∧ t.run? c = some y ∧ y.pc = q.entry ∧ y.job = none) ∧
      (s.pkg.mode = .factoryTest ∨ s.lcState = 0 → ∃ t, exec (.tapFtFuse f) s = .next t ∧ t.life.otp.stage = max 1 s.life.otp.stage ∧
        t.pkg.fuses.unit = s.pkg.fuses.unit ||| f.unit % 2 ^ 64 ∧ t.pkg.fuses.enabled = s.pkg.fuses.enabled ||| f.regionEn % 256)) ∧
    (s.life.session.isSome = true → s.lcState = 4 → ∀ v, 10 ≤ v → v ≤ 10000000 →
      ∃ t, exec (.tapDbgWrite 0 0x5008 v) s = .next t ∧ t.faults.sluiceContain = v) ∧
    (s.pkg.mode = .factoryTest → ∀ y ∈ [Instr.tapFtScan tdi, .tapFtBist tdi], ∃ t l, exec y s = .next t ∧ t.out = s.out ++ [.tdo l] ∧
      l.length = tdi.length) ∧
    (s.pkg.mode ≠ .factoryTest → ∀ y ∈ [Instr.tapFtScan tdi, .tapFtBist tdi], ∃ t, exec y s = .next t ∧
      t.out = s.out ++ [.tdo one] ∧ t.life.dbgDenied = true)

/-- Disturbances, the built-in stimulation and the VBAT monitor (R436, R493, R497, R504, R507, R509): a disturbance is recorded as CONTAIN
and counted, and burns nothing; read normal for 10 µs its domain dispatches again, and at 1 ms it is acknowledged. -/
def Obligations.MonitorsAreTendedAndTested : Prop :=
  ∀ (s : State) (u slot : Nat), s.pkg.mode.mainPower = true → s.faults.slotFor = some slot →
    let Noted (t : State) (v : Nat) (x : FCause) : Prop := ∃ rec, tfind t.faults.ring slot = some rec ∧ rec.on = monitorUnit v ∧
      rec.cause = x ∧ rec.cls = .contain ∧ rec.fseq = s.faults.head + 1
    (s.monitor u = true → twoBands u = true →
      ∃ t, exec (.disturbance u) s = .next t ∧ Noted t u .disturbance ∧ t.life = s.life ∧ t.vault = s.vault ∧ t.pkg = s.pkg ∧
        t.tamper.disturb = setAt s.tamper.disturb (disturbIndex u) inc32 ∧
        ({ unit := u, region := disturbDomain u, fseq := s.faults.head + 1 } : Disturb) ∈ t.tamper.disturbs) ∧
    (∀ d ns, s.tamper.disturbs.find? (fun d => d.unit == u) = some d →
      (ns < 10000 → exec (.disturbanceClear u ns) s = .next s) ∧
      (10000 ≤ ns → ns < 1000000 → ∃ t, exec (.disturbanceClear u ns) s = .next t ∧ t = { s with tamper := t.tamper } ∧
        (∀ x ∈ t.tamper.disturbs, x.unit = u → x.resumed = true)) ∧
      (1000000 ≤ ns → ∃ t, exec (.disturbanceClear u ns) s = .next t ∧ (∀ x ∈ t.tamper.disturbs, x.unit ≠ u) ∧
        ((∃ p ∈ s.faults.pending, p.fseq = d.fseq ∧ s.tick < p.end) → ∀ p ∈ t.faults.pending, p.fseq ≠ d.fseq))) ∧
    (let l := monitorList.filter fun x => s.monitor x && hasDetector x
      ∀ v, s.tamper.stimAt ≤ s.tick → l[s.tamper.rotation % l.length]? = some v →
      (∃ t, exec (.monitorStimulation true) s = .next t ∧ t = { s with tamper := t.tamper } ∧ t.suppressed v = true ∧
        t.tamper.rotation = (s.tamper.rotation % l.length + 1) % l.length ∧ t.tamper.monFail = s.tamper.monFail) ∧
      ∃ t, exec (.monitorStimulation false) s = .next t ∧ t.tamper.monFail = true ∧ Noted t v .monitorTest) ∧
    (s.tamper.stims.any (fun x => x.unit == u) = true → ∃ t, exec (.stimulationWindowEnd u false) s = .next t ∧
      t = { s with tamper := t.tamper } ∧ t.suppressed u = false ∧ t.tamper.monFail = s.tamper.monFail) ∧
    (∀ mv, (2200 ≤ mv → exec (.vbatLow mv) s = .next (s.modTamper fun t => { t with vbatMv := min mv 4095 })) ∧
      (mv < 2200 → ∃ t, exec (.vbatLow mv) s = .next t ∧ t.tamper.vbatLow = true ∧ t.tamper.vbatMv = mv ∧
        t.jrn.jpos = s.jrn.jpos + 1)) ∧
    (∀ j c ok, AtWork 0x0E01 j c s → fld c.job.args 0 1 * 16 + fld c.job.args 1 1 = u → Passes [paramZero c.job 0xFFFFFFFF,
        bodyIs c.job 2, famEnabled s c.job, check (decide (fld c.job.args 1 1 < 16) && s.monitor u && hasDetector u) .paramUnsupported] →
      ∃ t, exec (.tampTest j ok) s = .next t ∧ t.tamper.monFail = (s.tamper.monFail || !ok) ∧
        (ok = true → Ended j c (respRes (le 1 1 ++ zeros 3)) t) ∧ (ok = false → Noted t u .monitorTest))

/-- ERASE (R496, R498-R502, R504-R508): a tamper-band alarm, ZEROIZE_N, an enabled TAMP_IN or TAMP.ERASE wipes every store that R498
names and ends the jobs; on VBAT alone the battery key goes and the class is latched; the burns follow and the package reads ZEROIZED. -/
def Obligations.EraseWipesAndBurns : Prop :=
  ∀ (s : State) (u : Nat),
    let Wiped (t : State) : Prop := t.pkg.zeroized = true ∧ t.pkg.batteryKey = none ∧ t.vault.ownerSeed = none ∧
      t.vault.rootReady = false ∧ t.tamper.burnDue = true ∧ t.btn.freeze.isSome = true ∧
      (s.pkg.zeroized = false → t.tamper.epochDue = true) ∧
      (∀ e ∈ t.regions, e.2.shelf = [] ∧ e.2.keks = [] ∧ e.2.kekHere = false ∧ e.2.rng.reservoir = 0) ∧
      (∀ e ∈ t.frames.streams, e.2.key0 = none ∧ e.2.key1 = none) ∧ t.vault.epoch = s.vault.epoch
    let Ends (t : State) : Prop := ∀ d ∈ t.cmds, d.job.has (·.region) = true ∨ d.job.mbx = false →
      d.prog.phase = .returned ∧ d.prog.res = some (stRes .abortedFault)
    let Alarmed (t : State) (v : Nat) : Prop := Wiped t ∧ Ends t ∧ t.tamper.lastTick = s.tick ∧ t.tamper.lastUnit = v ∧
      (s.pkg.zeroized = false → v / 16 ∈ t.tamper.latched)
    let Backed (t : State) (v : Nat) : Prop := t.pkg = { s.pkg with batteryKey := none } ∧ v / 16 ∈ t.tamper.latched ∧
      t.tamper.lastUnit = v ∧ t.regions = s.regions ∧ t.vault = s.vault
    (s.tamperCounts u = true → (monClass u ≠ 5 ∨ s.empSoft = false) →
      (s.pkg.mode.mainPower = true →
        (∀ partner, (partner = true ∧ twoDesigns u = true) ∨ s.suppressed u = false → ∃ t, exec (.tamperAlarm [u] partner) s = .next t ∧ Alarmed t u) ∧
        (s.tamper.stims.any (fun x => x.unit == u) = true → ∃ t, exec (.stimulationWindowEnd u true) s = .next t ∧ Alarmed t u)) ∧
      (s.suppressed u = true → exec (.tamperAlarm [u] false) s = .next s) ∧
      (s.pkg.mode = .backup → twoDesigns u = true ∨ s.suppressed u = false → ∃ t, exec (.tamperAlarm [u] true) s = .next t ∧ Backed t u)) ∧
    (s.tamperCounts u = false → exec (.tamperAlarm [u] true) s = .next s) ∧
    (∀ ns, s.pkg.mode ≠ .off → (ns = 0 ∨ ns < heldFor s 10000 ∨ s.zeroizeDis = true →
        exec (.zeroizeNAssert ns) s = .next (s.modTamper fun t => { t with zeroizeN := ns == 0 })) ∧
      (0 < ns → heldFor s 10000 ≤ ns → s.zeroizeDis = false → ∃ t, exec (.zeroizeNAssert ns) s = .next t ∧
        t.tamper.zeroizeN = false ∧ (s.pkg.mode.mainPower = true → Alarmed t 0x64) ∧ (s.pkg.mode = .backup → Backed t 0x64))) ∧
    (∀ n high ns, n < 4 → s.pkg.mode ≠ .off →
      (bit (s.tamperByte 0) n = false ∨ bit (s.tamperByte 0) (4 + n) ≠ high ∨ ns < heldFor s (tampFilter s n) →
        exec (.tampInAssert n high ns) s = .next (s.modTamper fun t => { t with inputs := putBit t.inputs n high })) ∧
      (bit (s.tamperByte 0) n = true → bit (s.tamperByte 0) (4 + n) = high → heldFor s (tampFilter s n) ≤ ns →
        ∃ t, exec (.tampInAssert n high ns) s = .next t ∧ (s.pkg.mode.mainPower = true → Alarmed t (0x60 + n)) ∧
          (s.pkg.mode = .backup → Backed t (0x60 + n)))) ∧
    (∀ j c, AtWork 0x0E02 j c s → Passes [paramZero c.job 0xFFFFFFFF, bodyIs c.job 0, famEnabled s c.job] →
      ∃ t, exec (.tampErase j) s = .next t ∧ Wiped t ∧ (t.tamper.latched = s.tamper.latched)) ∧
    (s.tamper.burnDue = true → s.pkg.mode.mainPower = true →
      ∃ t, exec .eraseEvidenceBurn s = .next t ∧ t.tamper.latched = [] ∧ t.tamper.burnDue = false ∧
        t.vault.epoch = (if s.tamper.epochDue then min 128 (s.vault.epoch + 1) else s.vault.epoch) ∧
        t.life.otp.evidence = s.tamper.latched.foldl (fun l c => setAt l c fun n => min 256 (n + 1)) s.life.otp.evidence ∧
        (s.pkg.mode ≠ .boot → s.pkg.mode ≠ .selfTest → t.pkg.mode = .zeroized) ∧
        (s.lcState = 3 → s.tamper.epochDue = true → ∃ x, t.mgmt.log.getLast? = some x ∧ x.type = 6 ∧
          x.content = fit 55 (le 4 t.vault.epoch ++ le 1 0)))

/-- The card port (R511, R512, R514, R515, R518, R522, R523): a valid insertion powers and scans the card; a removal and EJECT power it
down, and an operation short of its commit point ends with ST_CARD_REMOVED. What a card operation does on the bus (R512, R513, R517, R521, R522): what is written is busy until DAT0 returns high; the commit
block follows the record and ends the verb; a first error is retried, a second one ends it with ST_CARD_IO. -/
def Obligations.CardPort : Prop :=
  (∀ (s : State) (ns : Nat),
    let c := s.card
    (∀ blocks hdr recs mode phase, s.cardPort = true → c.present = false → c.notBefore ≤ s.tick → c.railOk = true →
      (ns < 10000000 → exec (.cardInsert ns blocks hdr recs true mode phase) s = .next s) ∧
      (10000000 ≤ ns →
        (∃ t, exec (.cardInsert ns blocks hdr recs true mode phase) s = .next t ∧ t = { s with card := t.card } ∧
          t.card.present = true ∧ t.card.powered = true ∧ t.card.discharge = false ∧ t.card.formatted = hdr.isSome ∧
          t.card.recs = (if hdr.isSome then committedRun blocks 2 recs else []) ∧ t.card.blocks = blocks ∧ t.card.inserts = inc32 c.inserts ∧ t.card.errors = c.errors ∧
          (c.v18 = false → t.card.mode = min 1 (min mode c.maxMode)) ∧ (c.v18 = true → 2 ≤ t.card.mode ∧ t.card.mode ≤ 3)) ∧
        ∃ t, exec (.cardInsert ns blocks hdr recs false mode phase) s = .next t ∧ t.card.powered = false ∧
          t.card.errors = inc32 c.errors)) ∧
    (c.present = true →
      let Down (t : State) : Prop := t.card.powered = false ∧ t.card.discharge = true ∧ t.card.op = none ∧
        t.card.notBefore = s.tick + 10008000 ∧ t.card.mode = 0
      (ns < 2000 → exec (.cardRemove ns) s = .next s) ∧
      (2000 ≤ ns →
        (c.op = none → ∃ t, exec (.cardRemove ns) s = .next t ∧ Down t ∧ t.card.present = false ∧ t.card.removedOp = c.removedOp) ∧
        (∀ o d, c.op = some o → s.cmd? o.job = some d → ∃ t, exec (.cardRemove ns) s = .next t ∧ Down t ∧ t.card.present = false ∧
          Ended o.job d (if o.committed then okRes else stRes .cardRemoved) t ∧
          t.card.removedOp = if o.committed then c.removedOp else inc32 c.removedOp)) ∧
      (Reached 0 s →
        (c.op = none → c.powered = true → ∃ t, exec .cardEject s = .next t ∧ Down t ∧ t.card.present = true) ∧
        (c.op.isSome = true → exec .cardEject s = .next (s.modCard fun k => { k with ejecting := true }))))) ∧
  (∀ (s : State) (o : CardOp) (c : Cmd), s.card.op = some o → s.cmd? o.job = some c → s.card.ejecting = false →
    let again := { o with retried := true, busy := false }
    let Erred (x : Instr) : Prop :=
      (o.retried = false → ∃ t, exec x s = .next t ∧ t.card = { s.card with op := some again, errors := inc32 s.card.errors }) ∧
      (o.retried = true → ∃ t, exec x s = .next t ∧ Ended o.job c (stRes .cardIo) t ∧
        t.card = { s.card with op := none, errors := inc32 s.card.errors })
    (o.busy = false → Erred (.cardCommandResponse false) ∧
      (o.phase ≠ .read → exec (.cardCommandResponse true) s =
        .next (s.modCard fun k => { k with op := some { o with busy := true, busySince := s.tick } })) ∧
      (o.phase = .read → slice o.header 0x28 32 ≠ sha3 o.body → ∃ t, exec (.cardCommandResponse true) s = .next t ∧
        Ended o.job c (stRes .cardFormat) t ∧ t.vault = s.vault ∧ t.card = { s.card with op := none }) ∧
      (o.phase = .read → slice o.header 0x28 32 = sha3 o.body → ∀ st,
        firstBad (check (s.lcState != 4 && s.lcState != 5) .lifecycle :: kumChecks s o.body) = some st →
        ∃ t, exec (.cardCommandResponse true) s = .next t ∧ Ended o.job c (stRes st) t ∧ t.vault = s.vault)) ∧
    (o.busy = true →
      (o.busySince + 250000000 < s.tick → Erred .cardBusyTimeout) ∧
      (s.tick ≤ o.busySince + 250000000 → exec .cardBusyTimeout s = .next s) ∧
      (o.phase = .data → ∃ t, exec .cardBusyEnd s = .next t ∧ t.cmds = s.cmds ∧
        t.card = { s.card with op := some { o with phase := .commit, busy := false, retried := false } } ∧
        t.out = s.out ++ [.card (o.lba + 1 + blocksOf o.body.length) (commitBlock o.lba o.header)]) ∧
      (o.phase = .commit → ∃ t, exec .cardBusyEnd s = .next t ∧ Ended o.job c (respRes (le 1 1 ++ zeros 3 ++ le 4 o.lba)) t ∧
        t.card = { s.card with op := none, recs := s.card.recs ++ [{ lba := o.lba, header := o.header, body := o.body }] }) ∧
      (o.phase = .header0 → ∃ t, exec .cardBusyEnd s = .next t ∧ t.out = s.out ++ [.card 1 o.header]) ∧
      (o.phase = .header1 → ∃ t p, exec .cardBusyEnd s = .next t ∧ t.card.op = some p ∧ p.committed = true ∧ p.phase = .zero ∧
        t.card.formatted = true ∧ t.out = s.out ++ [.card 2 (zeros 512)]) ∧
      (o.phase = .zero → ∃ t, exec .cardBusyEnd s = .next t ∧ Ended o.job c okRes t ∧ t.card = { s.card with op := none, recs := [] })))

/-- The CARD verbs (R516-R521), each at work with its checks passed. -/
def Obligations.CardVerbs : Prop :=
  ∀ (s : State) (j : Nat) (c : Cmd),
    let k := s.card
    let b := c.job.args
    (AtWork 0x0F01 j c s → Passes [paramZero c.job 0xFFFFFFFF, bodyIs c.job 0, famEnabled s c.job, check k.railOk .cardIo] →
      ∃ t, exec (.cardStatus j) s = .next t ∧ t.card = k ∧ Ended j c (respRes (le 4 s.crdStatus ++ le 8 k.cardId ++
        le 4 (if k.formatted then k.append else 0) ++ le 4 k.blocks)) t) ∧
    (AtWork 0x0F02 j c s → Passes (bodyIs c.job 4 :: check (zero? b 0 4) .malformed :: cardChecks s c.job true ++
        [check s.anyInService .noRegion]) →
      ∃ t id, exec (.cardFormat j) s = .next t ∧
        t.card.op = some { job := j, phase := .header0, lba := 0, header := cardHeader id s.pkg.fuses.unit } ∧ t.out = s.out ++ [.card 0 (cardHeader id s.pkg.fuses.unit)]) ∧
    (AtWork 0x0F03 j c s → Passes (bodyIs c.job 4 :: check (zero? b 2 2) .malformed :: cardChecks s c.job false) → fld b 0 1 ≠ 4 →
      (∀ st, exportOf s c.job = .error st → ∃ t, exec (.cardExport j) s = .next t ∧ Ended j c (stRes st) t ∧ t.card = k) ∧
      (∀ ty id body, exportOf s c.job = .ok (ty, id, body) →
        let same := k.recs.find? fun r => recType r.header == ty && recId r.header == id && fld r.header 0x10 8 == s.pkg.fuses.unit
        (∀ r, same = some r → ∃ t, exec (.cardExport j) s = .next t ∧ t.card = k ∧
          Ended j c (respRes (le 1 0 ++ zeros 3 ++ le 4 r.lba)) t) ∧
        (same = none → k.blocks < k.append + 2 + blocksOf body.length → ∃ t, exec (.cardExport j) s = .next t ∧ t.card = k ∧
          Ended j c (stRes .cardFull) t) ∧
        (same = none → k.append + 2 + blocksOf body.length ≤ k.blocks → ∃ t o, exec (.cardExport j) s = .next t ∧
          t.card = { k with op := some o } ∧ o.job = j ∧ o.phase = .data ∧ o.lba = k.append ∧ o.body = body ∧
          o.header = recHeader ty body.length s.pkg.fuses.unit id s.tick body ∧
          t.out = s.out ++ [.card k.append (o.header ++ fit (512 * blocksOf body.length) body)]))) ∧
    (AtWork 0x0F03 j c s → Passes (bodyIs c.job 12 :: check (zero? b 2 2 && zero? b 8 4) .malformed :: cardChecks s c.job false) →
      fld b 0 1 = 4 → fld b 1 1 = 0 → let h : U32 := BitVec.ofNat 32 (fld b 4 4)
      ∀ x e, checkHandle s { c.job with handle := h } (fun _ => true) = none → s.key? h = some x → ¬ (x.cls = 1 ∧ famOf x.alg = some .mce) →
        s.onShelf x.home x.inst x.keyId = some e → (∀ r ∈ k.recs, recType r.header ≠ 4) →
        ∀ r, regionNums.find? s.inService = some r → attestDraw ≤ (s.region r).rng.reservoir →
        (sealPan s r (identityMask s r) none).isSome = true → (∀ p, (sealCheckPlace s r p).isSome = true) →
        let m := statement s { c.job with handle := h } x e.secret e.pub (le 8 k.cardId ++ zeros 24)
        k.append + 2 + blocksOf (m.length + 4723 + e.pub.length) ≤ k.blocks → ∃ t, exec (.cardExport j) s = .next t ∧
          ((∀ rnd p, Config.stdOk "device identity signature" [identityPub s, ascii "EXM-KEY-ATTEST-1", stdN 4723
            "device identity signature" [le 8 s.pkg.fuses.unit, ascii "EXM-KEY-ATTEST-1", rnd, le 1 p, m], m] = true) →
            ∃ sig o, sig.length = 4723 ∧ t.card = { k with op := some o } ∧ o.job = j ∧ o.phase = .data ∧ o.lba = k.append ∧
              o.body = m ++ sig ++ e.pub ∧ o.header = recHeader 4 o.body.length s.pkg.fuses.unit x.keyId s.tick o.body)) ∧
    (AtWork 0x0F04 j c s → Passes (bodyIs c.job 4 :: check (zero? b 2 2) .malformed :: cardChecks s c.job false) →
      ∃ t, exec (.cardList j) s = .next t ∧ t.card = k ∧
        Ended j c (respRes (((k.recs.drop (56 * fld b 0 2)).take 56).flatMap fun r => fit 72 r.header)) t) ∧
    (AtWork 0x0F05 j c s → Passes (bodyIs c.job 8 :: cardChecks s c.job false) →
      let found := k.recs.find? fun r => recType r.header == 3 && recId r.header == fld b 0 8
      (found = none → ∃ t, exec (.cardImportKum j) s = .next t ∧ Ended j c (stRes .paramUnsupported) t) ∧
      (∀ r, found = some r → headerFits r.header = false → ∃ t, exec (.cardImportKum j) s = .next t ∧ t.card = k ∧
        Ended j c (stRes .malformed) t) ∧
      (∀ r, found = some r → headerFits r.header = true → ∃ t, exec (.cardImportKum j) s = .next t ∧
        t.card = { k with op := some { job := j, phase := .read, lba := r.lba, header := r.header, body := r.body } }))

/-- Boot (R30, R465, R483, R485, R486, R499): from the rise of main power, PERST_N and the ways out of STANDBY, a boot whose OTP, PUF
and images are good reaches SELF_TEST with every enabled region in TESTING; otherwise it stops or serves recovery as R465 and R486 say. -/
def Obligations.BootReachesSelfTest : Prop :=
  ∀ (s : State) (b : BootIn) (n ns : Nat), s.life.otp.progress.find? (fun e => bit e.2 4 && !bit e.2 15) = none →
    let good : Prop := b.otpOk = true ∧ b.pufOk = true ∧ s.life.otp.pufHelper = true ∧ s.lcState ≠ 0 ∧ s.lcState ≠ 6 ∧
      ∀ k ∈ [1, 2, 3], b.none k = false
    let Boots (t : State) (quick : Bool) : Prop := t.pkg.mode = .selfTest ∧ t.pkg.bootCount = s.pkg.bootCount + 1 ∧
      t.mgmt.running = false ∧ t.mgmt.image = ((s.fw 1).bank (b.other 1)).data ∧ (∀ k ∈ [1, 2, 3], (t.fw k).fallback = b.other k) ∧
      t.jrn.limit = s.jrn.limit + 2 ^ 36 ∧ t.life.quick = quick ∧
      (s.tamper.latched ≠ [] → t.tamper.latched = [] ∧ t.life.evidenceBurned = true) ∧
      ∀ r, r < 8 → s.enabled r = true → (t.region r).svc.state = .testing ∧ (t.region r).path.full = !quick
    let Stops (t : State) : Prop :=
      (b.otpOk = false → t.pkg.halted = true ∧ t.pkg.mode = .boot ∧ t.life.otpFail = true) ∧
      (b.otpOk = true → s.lcState = 0 ∨ s.lcState = 6 → t.pkg.halted = true ∧ t.pkg.mode = .boot) ∧
      (b.otpOk = true → s.lcState ≠ 0 → s.lcState ≠ 6 → b.pufOk = false → t.pkg.halted = true ∧ t.life.pufFail = true) ∧
      (b.otpOk = true → b.pufOk = true → s.life.otp.pufHelper = true → s.lcState ≠ 0 → s.lcState ≠ 6 → ∀ k ∈ [1, 2, 3],
        b.none k = true → t.pkg.mode = .boot ∧ t.mgmt.recovery = true)
    (s.pkg.mode = .off ∨ s.pkg.mode = .backup ∨ (s.pkg.mode = .boot ∧ s.pkg.booting = true ∧ s.pkg.halted = false) →
      ∃ t, exec (.pwrgdMainRise n b) s = .next t ∧ Stops t ∧ t.mgmt.sbAddr = 0x64 + n % 4 ∧
        (good → Boots t (bit s.ownerFlags 3) ∧ t.life.testEn = bit n 4 ∧ t.time.quality = .coarse)) ∧
    (s.pkg.perstHigh = true → s.pkg.mode.mainPower = true →
      ∃ t, exec (.perstNAssert b) s = .next t ∧ Stops t ∧ (good → Boots t (bit s.ownerFlags 3)) ∧ t.pkg.perstHigh = false ∧
        t.cmds = [] ∧ t.vault.handles = [] ∧ (∀ e ∈ t.regions, e.2.shelf = []) ∧ (∀ i, (t.inst i).sqs = []) ∧ t.tick = s.tick ∧
        (s.time.quality = .locked → t.time.quality = .holdover)) ∧
    (s.wakeable = true →
      (10000 ≤ ns → ∃ t, exec (.wakeNLow ns b) s = .next t ∧ Stops t ∧ (good → Boots t true)) ∧
      (ns < 10000 → exec (.wakeNLow ns b) s = .next s) ∧
      (∃ t, exec (.pcieLinkWake b) s = .next t ∧ Stops t ∧ (good → Boots t true)) ∧
      (s.time.armed = true → s.time.alarmSec * 1000000000 ≤ s.tick → s.pkg.pwrgdAon = true →
        ∃ t, exec (.timeAlarmFire b) s = .next t ∧ t.time.armed = false ∧ t.pkg.wakePull = true ∧ (good → Boots t true))) ∧
    (s.wakeable = false → exec (.wakeNLow ns b) s = .next s ∧ exec (.pcieLinkWake b) s = .next s)

/-- Power and the end of SELF_TEST (R29, R30, R454, R496, R506, R507, R528, R531). -/
def Obligations.PowerComesAndGoes : Prop :=
  ∀ (s : State) (b : BootIn) (apex : Bool),
    let Gone (t : State) : Prop := t.pkg.mode = (if s.pkg.vbat then .backup else .off) ∧ t.pkg.pwrgdMain = false ∧ t.cmds = [] ∧
      t.insts = [] ∧ (∀ e ∈ t.regions, e.2.shelf = []) ∧ t.vault.handles = [] ∧ t.life.otp = s.life.otp ∧ t.card.powered = false ∧
      t.vault.epoch = s.vault.epoch
    (s.pkg.mode.mainPower = true →
      (∃ t, exec .pwrgdMainFall s = .next t ∧ Gone t ∧ t.btn.freeze.isSome = true ∧ t.pkg.batteryKey = s.pkg.batteryKey) ∧
      (s.pkg.pwrgdAon = true → ∃ t, exec .pwrgdAonFall s = .next t ∧ Gone t ∧ t.pkg.pwrgdAon = false ∧ t.time.armed = false ∧
        (s.pkg.vbat = true → t.btn.freeze.isSome = true ∧ t.pkg.batteryKey = s.pkg.batteryKey ∧ t.tamper.latched = s.tamper.latched) ∧
        (s.pkg.vbat = false → t.tamper.backupLost = true ∧ t.pkg.batteryKey = none ∧ t.btn.freeze = none))) ∧
    (s.pkg.mode.mainPower = false → exec .pwrgdMainFall s = .next (s.modPkg fun p => { p with pwrgdMain := false })) ∧
    (s.pkg.pwrgdAon = false → exec .pwrgdAonFall s = .next s) ∧
    exec .vbatApplied s = .next (s.modPkg fun p => { p with vbat := true, mode := if p.mode = .off then .backup else p.mode }) ∧
    (∃ t, exec .vbatLost s = .next t ∧ t.pkg.vbat = false ∧
      t.pkg.mode = (if s.pkg.mode = .backup then .off else s.pkg.mode) ∧
      (s.pkg.pwrgdAon = true → t.tamper = s.tamper ∧ t.pkg.batteryKey = s.pkg.batteryKey) ∧
      (s.pkg.vbat = true → s.pkg.pwrgdAon = false → t.tamper.backupLost = true ∧ t.pkg.batteryKey = none)) ∧
    (s.pkg.perstHigh = false → exec (.perstNAssert b) s = .next s) ∧
    (s.pkg.perstHigh = true → s.pkg.mode.mainPower = false → exec (.perstNAssert b) s =
      .next (s.modPkg fun p => { p with perstHigh := false })) ∧
    exec .perstNDeassert s = .next (s.modPkg fun p => { p with perstHigh := true, wakePull := false }) ∧
    (s.pkg.mode = .selfTest → s.pkg.halted = false →
      (∃ t, exec (.selfTestComplete false) s = .next t ∧ t.pkg.halted = true ∧ t.pkg.mode = .selfTest) ∧
      (regionNums.all s.tested = true → ∃ t, exec (.selfTestComplete true) s = .next t ∧ t.pkg.mode = s.afterTest ∧
        t.regions = s.regions ∧ t.pkg.halted = false) ∧
      (regionNums.all s.tested = false → exec (.selfTestComplete true) s = .next s)) ∧
    (s.pkg.mode ≠ .selfTest → exec (.selfTestComplete apex) s = .next s)

/-- Registers right after reset (R36, R98, R181, R261, R426, R445, R473, R510, R523): each reads as its map's Reset column says. -/
def Obligations.RegistersAfterReset : Prop :=
  ∀ e ∈ [(0x4, 0x00B1A20C), (0x10, 0x3), (0x14, 0xFFFFFF), (0x2010, 0x05000010), (0x2014, 1000 + 1000 * 65536), (0x2018, 37),
      (0x201C, 0xFFFFFFFF), (0x2020, 100), (0x3000, 135), (0x5008, 5000), (0x500C, 5000), (0x6004, 0x02 + 32 * 256), (0x6024, 10),
      (0x7000, 0), (0x10008, 32 + 1 * 256 + 256 * 65536), (0x1000C, 40 + 1024 * 65536), (0x10010, 64 * 65536), (0x22040, 60),
      (0x23004, 3), (0x101C000, 2 + 50 * 64 + 10 * 65536)],
    readReg State.reset 0 e.1 = some e.2
end

