-- ==== Sys2Proof/Laws/State.lean ====
section
/-! SUPPORT. One lemma for each field of State under each named update: the update leaves it as it was. -/

namespace Sys2Proof.Machine

section Frames
variable (s : State)

@[simp] theorem State.setInst_pending (i : Nat) (v : Inst) : (s.setInst i v).pending = s.pending := rfl
@[simp] theorem State.setInst_tick (i : Nat) (v : Inst) : (s.setInst i v).tick = s.tick := rfl
@[simp] theorem State.setInst_time (i : Nat) (v : Inst) : (s.setInst i v).time = s.time := rfl
@[simp] theorem State.setInst_pkg (i : Nat) (v : Inst) : (s.setInst i v).pkg = s.pkg := rfl
@[simp] theorem State.setInst_power (i : Nat) (v : Inst) : (s.setInst i v).power = s.power := rfl
@[simp] theorem State.setInst_faults (i : Nat) (v : Inst) : (s.setInst i v).faults = s.faults := rfl
@[simp] theorem State.setInst_jrn (i : Nat) (v : Inst) : (s.setInst i v).jrn = s.jrn := rfl
@[simp] theorem State.setInst_btn (i : Nat) (v : Inst) : (s.setInst i v).btn = s.btn := rfl
@[simp] theorem State.setInst_cmds (i : Nat) (v : Inst) : (s.setInst i v).cmds = s.cmds := rfl
@[simp] theorem State.setInst_nextId (i : Nat) (v : Inst) : (s.setInst i v).nextId = s.nextId := rfl
@[simp] theorem State.setInst_rr (i : Nat) (v : Inst) : (s.setInst i v).rr = s.rr := rfl
@[simp] theorem State.setInst_regions (i : Nat) (v : Inst) : (s.setInst i v).regions = s.regions := rfl
@[simp] theorem State.setInst_vault (i : Nat) (v : Inst) : (s.setInst i v).vault = s.vault := rfl
@[simp] theorem State.setInst_digWin (i : Nat) (v : Inst) : (s.setInst i v).digWin = s.digWin := rfl
@[simp] theorem State.setInst_frames (i : Nat) (v : Inst) : (s.setInst i v).frames = s.frames := rfl
@[simp] theorem State.setInst_mgmt (i : Nat) (v : Inst) : (s.setInst i v).mgmt = s.mgmt := rfl
@[simp] theorem State.setInst_life (i : Nat) (v : Inst) : (s.setInst i v).life = s.life := rfl
@[simp] theorem State.setInst_tamper (i : Nat) (v : Inst) : (s.setInst i v).tamper = s.tamper := rfl
@[simp] theorem State.setInst_card (i : Nat) (v : Inst) : (s.setInst i v).card = s.card := rfl
@[simp] theorem State.setInst_cust (i : Nat) (v : Inst) : (s.setInst i v).cust = s.cust := rfl
@[simp] theorem State.setInst_cores (i : Nat) (v : Inst) : (s.setInst i v).cores = s.cores := rfl
@[simp] theorem State.setInst_free (i : Nat) (v : Inst) : (s.setInst i v).free = s.free := rfl
@[simp] theorem State.setInst_out (i : Nat) (v : Inst) : (s.setInst i v).out = s.out := rfl
@[simp] theorem State.modInst_pending (i : Nat) (f : Inst → Inst) : (s.modInst i f).pending = s.pending := rfl
@[simp] theorem State.modInst_tick (i : Nat) (f : Inst → Inst) : (s.modInst i f).tick = s.tick := rfl
@[simp] theorem State.modInst_time (i : Nat) (f : Inst → Inst) : (s.modInst i f).time = s.time := rfl
@[simp] theorem State.modInst_pkg (i : Nat) (f : Inst → Inst) : (s.modInst i f).pkg = s.pkg := rfl
@[simp] theorem State.modInst_power (i : Nat) (f : Inst → Inst) : (s.modInst i f).power = s.power := rfl
@[simp] theorem State.modInst_faults (i : Nat) (f : Inst → Inst) : (s.modInst i f).faults = s.faults := rfl
@[simp] theorem State.modInst_jrn (i : Nat) (f : Inst → Inst) : (s.modInst i f).jrn = s.jrn := rfl
@[simp] theorem State.modInst_btn (i : Nat) (f : Inst → Inst) : (s.modInst i f).btn = s.btn := rfl
@[simp] theorem State.modInst_cmds (i : Nat) (f : Inst → Inst) : (s.modInst i f).cmds = s.cmds := rfl
@[simp] theorem State.modInst_nextId (i : Nat) (f : Inst → Inst) : (s.modInst i f).nextId = s.nextId := rfl
@[simp] theorem State.modInst_rr (i : Nat) (f : Inst → Inst) : (s.modInst i f).rr = s.rr := rfl
@[simp] theorem State.modInst_regions (i : Nat) (f : Inst → Inst) : (s.modInst i f).regions = s.regions := rfl
@[simp] theorem State.modInst_vault (i : Nat) (f : Inst → Inst) : (s.modInst i f).vault = s.vault := rfl
@[simp] theorem State.modInst_digWin (i : Nat) (f : Inst → Inst) : (s.modInst i f).digWin = s.digWin := rfl
@[simp] theorem State.modInst_frames (i : Nat) (f : Inst → Inst) : (s.modInst i f).frames = s.frames := rfl
@[simp] theorem State.modInst_mgmt (i : Nat) (f : Inst → Inst) : (s.modInst i f).mgmt = s.mgmt := rfl
@[simp] theorem State.modInst_life (i : Nat) (f : Inst → Inst) : (s.modInst i f).life = s.life := rfl
@[simp] theorem State.modInst_tamper (i : Nat) (f : Inst → Inst) : (s.modInst i f).tamper = s.tamper := rfl
@[simp] theorem State.modInst_card (i : Nat) (f : Inst → Inst) : (s.modInst i f).card = s.card := rfl
@[simp] theorem State.modInst_cust (i : Nat) (f : Inst → Inst) : (s.modInst i f).cust = s.cust := rfl
@[simp] theorem State.modInst_cores (i : Nat) (f : Inst → Inst) : (s.modInst i f).cores = s.cores := rfl
@[simp] theorem State.modInst_free (i : Nat) (f : Inst → Inst) : (s.modInst i f).free = s.free := rfl
@[simp] theorem State.modInst_out (i : Nat) (f : Inst → Inst) : (s.modInst i f).out = s.out := rfl
@[simp] theorem State.modSq_pending (i q : Nat) (f : Sq → Sq) : (s.modSq i q f).pending = s.pending := rfl
@[simp] theorem State.modSq_tick (i q : Nat) (f : Sq → Sq) : (s.modSq i q f).tick = s.tick := rfl
@[simp] theorem State.modSq_time (i q : Nat) (f : Sq → Sq) : (s.modSq i q f).time = s.time := rfl
@[simp] theorem State.modSq_pkg (i q : Nat) (f : Sq → Sq) : (s.modSq i q f).pkg = s.pkg := rfl
@[simp] theorem State.modSq_power (i q : Nat) (f : Sq → Sq) : (s.modSq i q f).power = s.power := rfl
@[simp] theorem State.modSq_faults (i q : Nat) (f : Sq → Sq) : (s.modSq i q f).faults = s.faults := rfl
@[simp] theorem State.modSq_jrn (i q : Nat) (f : Sq → Sq) : (s.modSq i q f).jrn = s.jrn := rfl
@[simp] theorem State.modSq_btn (i q : Nat) (f : Sq → Sq) : (s.modSq i q f).btn = s.btn := rfl
@[simp] theorem State.modSq_cmds (i q : Nat) (f : Sq → Sq) : (s.modSq i q f).cmds = s.cmds := rfl
@[simp] theorem State.modSq_nextId (i q : Nat) (f : Sq → Sq) : (s.modSq i q f).nextId = s.nextId := rfl
@[simp] theorem State.modSq_rr (i q : Nat) (f : Sq → Sq) : (s.modSq i q f).rr = s.rr := rfl
@[simp] theorem State.modSq_regions (i q : Nat) (f : Sq → Sq) : (s.modSq i q f).regions = s.regions := rfl
@[simp] theorem State.modSq_vault (i q : Nat) (f : Sq → Sq) : (s.modSq i q f).vault = s.vault := rfl
@[simp] theorem State.modSq_digWin (i q : Nat) (f : Sq → Sq) : (s.modSq i q f).digWin = s.digWin := rfl
@[simp] theorem State.modSq_frames (i q : Nat) (f : Sq → Sq) : (s.modSq i q f).frames = s.frames := rfl
@[simp] theorem State.modSq_mgmt (i q : Nat) (f : Sq → Sq) : (s.modSq i q f).mgmt = s.mgmt := rfl
@[simp] theorem State.modSq_life (i q : Nat) (f : Sq → Sq) : (s.modSq i q f).life = s.life := rfl
@[simp] theorem State.modSq_tamper (i q : Nat) (f : Sq → Sq) : (s.modSq i q f).tamper = s.tamper := rfl
@[simp] theorem State.modSq_card (i q : Nat) (f : Sq → Sq) : (s.modSq i q f).card = s.card := rfl
@[simp] theorem State.modSq_cust (i q : Nat) (f : Sq → Sq) : (s.modSq i q f).cust = s.cust := rfl
@[simp] theorem State.modSq_cores (i q : Nat) (f : Sq → Sq) : (s.modSq i q f).cores = s.cores := rfl
@[simp] theorem State.modSq_free (i q : Nat) (f : Sq → Sq) : (s.modSq i q f).free = s.free := rfl
@[simp] theorem State.modSq_out (i q : Nat) (f : Sq → Sq) : (s.modSq i q f).out = s.out := rfl
@[simp] theorem State.modCq_pending (i c : Nat) (f : Cq → Cq) : (s.modCq i c f).pending = s.pending := rfl
@[simp] theorem State.modCq_tick (i c : Nat) (f : Cq → Cq) : (s.modCq i c f).tick = s.tick := rfl
@[simp] theorem State.modCq_time (i c : Nat) (f : Cq → Cq) : (s.modCq i c f).time = s.time := rfl
@[simp] theorem State.modCq_pkg (i c : Nat) (f : Cq → Cq) : (s.modCq i c f).pkg = s.pkg := rfl
@[simp] theorem State.modCq_power (i c : Nat) (f : Cq → Cq) : (s.modCq i c f).power = s.power := rfl
@[simp] theorem State.modCq_faults (i c : Nat) (f : Cq → Cq) : (s.modCq i c f).faults = s.faults := rfl
@[simp] theorem State.modCq_jrn (i c : Nat) (f : Cq → Cq) : (s.modCq i c f).jrn = s.jrn := rfl
@[simp] theorem State.modCq_btn (i c : Nat) (f : Cq → Cq) : (s.modCq i c f).btn = s.btn := rfl
@[simp] theorem State.modCq_cmds (i c : Nat) (f : Cq → Cq) : (s.modCq i c f).cmds = s.cmds := rfl
@[simp] theorem State.modCq_nextId (i c : Nat) (f : Cq → Cq) : (s.modCq i c f).nextId = s.nextId := rfl
@[simp] theorem State.modCq_rr (i c : Nat) (f : Cq → Cq) : (s.modCq i c f).rr = s.rr := rfl
@[simp] theorem State.modCq_regions (i c : Nat) (f : Cq → Cq) : (s.modCq i c f).regions = s.regions := rfl
@[simp] theorem State.modCq_vault (i c : Nat) (f : Cq → Cq) : (s.modCq i c f).vault = s.vault := rfl
@[simp] theorem State.modCq_digWin (i c : Nat) (f : Cq → Cq) : (s.modCq i c f).digWin = s.digWin := rfl
@[simp] theorem State.modCq_frames (i c : Nat) (f : Cq → Cq) : (s.modCq i c f).frames = s.frames := rfl
@[simp] theorem State.modCq_mgmt (i c : Nat) (f : Cq → Cq) : (s.modCq i c f).mgmt = s.mgmt := rfl
@[simp] theorem State.modCq_life (i c : Nat) (f : Cq → Cq) : (s.modCq i c f).life = s.life := rfl
@[simp] theorem State.modCq_tamper (i c : Nat) (f : Cq → Cq) : (s.modCq i c f).tamper = s.tamper := rfl
@[simp] theorem State.modCq_card (i c : Nat) (f : Cq → Cq) : (s.modCq i c f).card = s.card := rfl
@[simp] theorem State.modCq_cust (i c : Nat) (f : Cq → Cq) : (s.modCq i c f).cust = s.cust := rfl
@[simp] theorem State.modCq_cores (i c : Nat) (f : Cq → Cq) : (s.modCq i c f).cores = s.cores := rfl
@[simp] theorem State.modCq_free (i c : Nat) (f : Cq → Cq) : (s.modCq i c f).free = s.free := rfl
@[simp] theorem State.modCq_out (i c : Nat) (f : Cq → Cq) : (s.modCq i c f).out = s.out := rfl
@[simp] theorem State.modFring_pending (i r : Nat) (f : FrameRing → FrameRing) : (s.modFring i r f).pending = s.pending := rfl
@[simp] theorem State.modFring_tick (i r : Nat) (f : FrameRing → FrameRing) : (s.modFring i r f).tick = s.tick := rfl
@[simp] theorem State.modFring_time (i r : Nat) (f : FrameRing → FrameRing) : (s.modFring i r f).time = s.time := rfl
@[simp] theorem State.modFring_pkg (i r : Nat) (f : FrameRing → FrameRing) : (s.modFring i r f).pkg = s.pkg := rfl
@[simp] theorem State.modFring_power (i r : Nat) (f : FrameRing → FrameRing) : (s.modFring i r f).power = s.power := rfl
@[simp] theorem State.modFring_faults (i r : Nat) (f : FrameRing → FrameRing) : (s.modFring i r f).faults = s.faults := rfl
@[simp] theorem State.modFring_jrn (i r : Nat) (f : FrameRing → FrameRing) : (s.modFring i r f).jrn = s.jrn := rfl
@[simp] theorem State.modFring_btn (i r : Nat) (f : FrameRing → FrameRing) : (s.modFring i r f).btn = s.btn := rfl
@[simp] theorem State.modFring_cmds (i r : Nat) (f : FrameRing → FrameRing) : (s.modFring i r f).cmds = s.cmds := rfl
@[simp] theorem State.modFring_nextId (i r : Nat) (f : FrameRing → FrameRing) : (s.modFring i r f).nextId = s.nextId := rfl
@[simp] theorem State.modFring_rr (i r : Nat) (f : FrameRing → FrameRing) : (s.modFring i r f).rr = s.rr := rfl
@[simp] theorem State.modFring_regions (i r : Nat) (f : FrameRing → FrameRing) : (s.modFring i r f).regions = s.regions := rfl
@[simp] theorem State.modFring_vault (i r : Nat) (f : FrameRing → FrameRing) : (s.modFring i r f).vault = s.vault := rfl
@[simp] theorem State.modFring_digWin (i r : Nat) (f : FrameRing → FrameRing) : (s.modFring i r f).digWin = s.digWin := rfl
@[simp] theorem State.modFring_frames (i r : Nat) (f : FrameRing → FrameRing) : (s.modFring i r f).frames = s.frames := rfl
@[simp] theorem State.modFring_mgmt (i r : Nat) (f : FrameRing → FrameRing) : (s.modFring i r f).mgmt = s.mgmt := rfl
@[simp] theorem State.modFring_life (i r : Nat) (f : FrameRing → FrameRing) : (s.modFring i r f).life = s.life := rfl
@[simp] theorem State.modFring_tamper (i r : Nat) (f : FrameRing → FrameRing) : (s.modFring i r f).tamper = s.tamper := rfl
@[simp] theorem State.modFring_card (i r : Nat) (f : FrameRing → FrameRing) : (s.modFring i r f).card = s.card := rfl
@[simp] theorem State.modFring_cust (i r : Nat) (f : FrameRing → FrameRing) : (s.modFring i r f).cust = s.cust := rfl
@[simp] theorem State.modFring_cores (i r : Nat) (f : FrameRing → FrameRing) : (s.modFring i r f).cores = s.cores := rfl
@[simp] theorem State.modFring_free (i r : Nat) (f : FrameRing → FrameRing) : (s.modFring i r f).free = s.free := rfl
@[simp] theorem State.modFring_out (i r : Nat) (f : FrameRing → FrameRing) : (s.modFring i r f).out = s.out := rfl
@[simp] theorem State.modMbx_pending (i : Nat) (f : Mbx → Mbx) : (s.modMbx i f).pending = s.pending := rfl
@[simp] theorem State.modMbx_tick (i : Nat) (f : Mbx → Mbx) : (s.modMbx i f).tick = s.tick := rfl
@[simp] theorem State.modMbx_time (i : Nat) (f : Mbx → Mbx) : (s.modMbx i f).time = s.time := rfl
@[simp] theorem State.modMbx_pkg (i : Nat) (f : Mbx → Mbx) : (s.modMbx i f).pkg = s.pkg := rfl
@[simp] theorem State.modMbx_power (i : Nat) (f : Mbx → Mbx) : (s.modMbx i f).power = s.power := rfl
@[simp] theorem State.modMbx_faults (i : Nat) (f : Mbx → Mbx) : (s.modMbx i f).faults = s.faults := rfl
@[simp] theorem State.modMbx_jrn (i : Nat) (f : Mbx → Mbx) : (s.modMbx i f).jrn = s.jrn := rfl
@[simp] theorem State.modMbx_btn (i : Nat) (f : Mbx → Mbx) : (s.modMbx i f).btn = s.btn := rfl
@[simp] theorem State.modMbx_cmds (i : Nat) (f : Mbx → Mbx) : (s.modMbx i f).cmds = s.cmds := rfl
@[simp] theorem State.modMbx_nextId (i : Nat) (f : Mbx → Mbx) : (s.modMbx i f).nextId = s.nextId := rfl
@[simp] theorem State.modMbx_rr (i : Nat) (f : Mbx → Mbx) : (s.modMbx i f).rr = s.rr := rfl
@[simp] theorem State.modMbx_regions (i : Nat) (f : Mbx → Mbx) : (s.modMbx i f).regions = s.regions := rfl
@[simp] theorem State.modMbx_vault (i : Nat) (f : Mbx → Mbx) : (s.modMbx i f).vault = s.vault := rfl
@[simp] theorem State.modMbx_digWin (i : Nat) (f : Mbx → Mbx) : (s.modMbx i f).digWin = s.digWin := rfl
@[simp] theorem State.modMbx_frames (i : Nat) (f : Mbx → Mbx) : (s.modMbx i f).frames = s.frames := rfl
@[simp] theorem State.modMbx_mgmt (i : Nat) (f : Mbx → Mbx) : (s.modMbx i f).mgmt = s.mgmt := rfl
@[simp] theorem State.modMbx_life (i : Nat) (f : Mbx → Mbx) : (s.modMbx i f).life = s.life := rfl
@[simp] theorem State.modMbx_tamper (i : Nat) (f : Mbx → Mbx) : (s.modMbx i f).tamper = s.tamper := rfl
@[simp] theorem State.modMbx_card (i : Nat) (f : Mbx → Mbx) : (s.modMbx i f).card = s.card := rfl
@[simp] theorem State.modMbx_cust (i : Nat) (f : Mbx → Mbx) : (s.modMbx i f).cust = s.cust := rfl
@[simp] theorem State.modMbx_cores (i : Nat) (f : Mbx → Mbx) : (s.modMbx i f).cores = s.cores := rfl
@[simp] theorem State.modMbx_free (i : Nat) (f : Mbx → Mbx) : (s.modMbx i f).free = s.free := rfl
@[simp] theorem State.modMbx_out (i : Nat) (f : Mbx → Mbx) : (s.modMbx i f).out = s.out := rfl
@[simp] theorem State.modRegion_pending (r : Nat) (f : Region → Region) : (s.modRegion r f).pending = s.pending := rfl
@[simp] theorem State.modRegion_tick (r : Nat) (f : Region → Region) : (s.modRegion r f).tick = s.tick := rfl
@[simp] theorem State.modRegion_time (r : Nat) (f : Region → Region) : (s.modRegion r f).time = s.time := rfl
@[simp] theorem State.modRegion_pkg (r : Nat) (f : Region → Region) : (s.modRegion r f).pkg = s.pkg := rfl
@[simp] theorem State.modRegion_power (r : Nat) (f : Region → Region) : (s.modRegion r f).power = s.power := rfl
@[simp] theorem State.modRegion_faults (r : Nat) (f : Region → Region) : (s.modRegion r f).faults = s.faults := rfl
@[simp] theorem State.modRegion_jrn (r : Nat) (f : Region → Region) : (s.modRegion r f).jrn = s.jrn := rfl
@[simp] theorem State.modRegion_btn (r : Nat) (f : Region → Region) : (s.modRegion r f).btn = s.btn := rfl
@[simp] theorem State.modRegion_insts (r : Nat) (f : Region → Region) : (s.modRegion r f).insts = s.insts := rfl
@[simp] theorem State.modRegion_cmds (r : Nat) (f : Region → Region) : (s.modRegion r f).cmds = s.cmds := rfl
@[simp] theorem State.modRegion_nextId (r : Nat) (f : Region → Region) : (s.modRegion r f).nextId = s.nextId := rfl
@[simp] theorem State.modRegion_rr (r : Nat) (f : Region → Region) : (s.modRegion r f).rr = s.rr := rfl
@[simp] theorem State.modRegion_vault (r : Nat) (f : Region → Region) : (s.modRegion r f).vault = s.vault := rfl
@[simp] theorem State.modRegion_digWin (r : Nat) (f : Region → Region) : (s.modRegion r f).digWin = s.digWin := rfl
@[simp] theorem State.modRegion_frames (r : Nat) (f : Region → Region) : (s.modRegion r f).frames = s.frames := rfl
@[simp] theorem State.modRegion_mgmt (r : Nat) (f : Region → Region) : (s.modRegion r f).mgmt = s.mgmt := rfl
@[simp] theorem State.modRegion_life (r : Nat) (f : Region → Region) : (s.modRegion r f).life = s.life := rfl
@[simp] theorem State.modRegion_tamper (r : Nat) (f : Region → Region) : (s.modRegion r f).tamper = s.tamper := rfl
@[simp] theorem State.modRegion_card (r : Nat) (f : Region → Region) : (s.modRegion r f).card = s.card := rfl
@[simp] theorem State.modRegion_cust (r : Nat) (f : Region → Region) : (s.modRegion r f).cust = s.cust := rfl
@[simp] theorem State.modRegion_cores (r : Nat) (f : Region → Region) : (s.modRegion r f).cores = s.cores := rfl
@[simp] theorem State.modRegion_free (r : Nat) (f : Region → Region) : (s.modRegion r f).free = s.free := rfl
@[simp] theorem State.modRegion_out (r : Nat) (f : Region → Region) : (s.modRegion r f).out = s.out := rfl
@[simp] theorem State.modSvc_pending (r : Nat) (f : Svc → Svc) : (s.modSvc r f).pending = s.pending := rfl
@[simp] theorem State.modSvc_tick (r : Nat) (f : Svc → Svc) : (s.modSvc r f).tick = s.tick := rfl
@[simp] theorem State.modSvc_time (r : Nat) (f : Svc → Svc) : (s.modSvc r f).time = s.time := rfl
@[simp] theorem State.modSvc_pkg (r : Nat) (f : Svc → Svc) : (s.modSvc r f).pkg = s.pkg := rfl
@[simp] theorem State.modSvc_power (r : Nat) (f : Svc → Svc) : (s.modSvc r f).power = s.power := rfl
@[simp] theorem State.modSvc_faults (r : Nat) (f : Svc → Svc) : (s.modSvc r f).faults = s.faults := rfl
@[simp] theorem State.modSvc_jrn (r : Nat) (f : Svc → Svc) : (s.modSvc r f).jrn = s.jrn := rfl
@[simp] theorem State.modSvc_btn (r : Nat) (f : Svc → Svc) : (s.modSvc r f).btn = s.btn := rfl
@[simp] theorem State.modSvc_insts (r : Nat) (f : Svc → Svc) : (s.modSvc r f).insts = s.insts := rfl
@[simp] theorem State.modSvc_cmds (r : Nat) (f : Svc → Svc) : (s.modSvc r f).cmds = s.cmds := rfl
@[simp] theorem State.modSvc_nextId (r : Nat) (f : Svc → Svc) : (s.modSvc r f).nextId = s.nextId := rfl
@[simp] theorem State.modSvc_rr (r : Nat) (f : Svc → Svc) : (s.modSvc r f).rr = s.rr := rfl
@[simp] theorem State.modSvc_vault (r : Nat) (f : Svc → Svc) : (s.modSvc r f).vault = s.vault := rfl
@[simp] theorem State.modSvc_digWin (r : Nat) (f : Svc → Svc) : (s.modSvc r f).digWin = s.digWin := rfl
@[simp] theorem State.modSvc_frames (r : Nat) (f : Svc → Svc) : (s.modSvc r f).frames = s.frames := rfl
@[simp] theorem State.modSvc_mgmt (r : Nat) (f : Svc → Svc) : (s.modSvc r f).mgmt = s.mgmt := rfl
@[simp] theorem State.modSvc_life (r : Nat) (f : Svc → Svc) : (s.modSvc r f).life = s.life := rfl
@[simp] theorem State.modSvc_tamper (r : Nat) (f : Svc → Svc) : (s.modSvc r f).tamper = s.tamper := rfl
@[simp] theorem State.modSvc_card (r : Nat) (f : Svc → Svc) : (s.modSvc r f).card = s.card := rfl
@[simp] theorem State.modSvc_cust (r : Nat) (f : Svc → Svc) : (s.modSvc r f).cust = s.cust := rfl
@[simp] theorem State.modSvc_cores (r : Nat) (f : Svc → Svc) : (s.modSvc r f).cores = s.cores := rfl
@[simp] theorem State.modSvc_free (r : Nat) (f : Svc → Svc) : (s.modSvc r f).free = s.free := rfl
@[simp] theorem State.modSvc_out (r : Nat) (f : Svc → Svc) : (s.modSvc r f).out = s.out := rfl
@[simp] theorem State.modPan_pending (r p : Nat) (f : Pan → Pan) : (s.modPan r p f).pending = s.pending := rfl
@[simp] theorem State.modPan_tick (r p : Nat) (f : Pan → Pan) : (s.modPan r p f).tick = s.tick := rfl
@[simp] theorem State.modPan_time (r p : Nat) (f : Pan → Pan) : (s.modPan r p f).time = s.time := rfl
@[simp] theorem State.modPan_pkg (r p : Nat) (f : Pan → Pan) : (s.modPan r p f).pkg = s.pkg := rfl
@[simp] theorem State.modPan_power (r p : Nat) (f : Pan → Pan) : (s.modPan r p f).power = s.power := rfl
@[simp] theorem State.modPan_faults (r p : Nat) (f : Pan → Pan) : (s.modPan r p f).faults = s.faults := rfl
@[simp] theorem State.modPan_jrn (r p : Nat) (f : Pan → Pan) : (s.modPan r p f).jrn = s.jrn := rfl
@[simp] theorem State.modPan_btn (r p : Nat) (f : Pan → Pan) : (s.modPan r p f).btn = s.btn := rfl
@[simp] theorem State.modPan_insts (r p : Nat) (f : Pan → Pan) : (s.modPan r p f).insts = s.insts := rfl
@[simp] theorem State.modPan_cmds (r p : Nat) (f : Pan → Pan) : (s.modPan r p f).cmds = s.cmds := rfl
@[simp] theorem State.modPan_nextId (r p : Nat) (f : Pan → Pan) : (s.modPan r p f).nextId = s.nextId := rfl
@[simp] theorem State.modPan_rr (r p : Nat) (f : Pan → Pan) : (s.modPan r p f).rr = s.rr := rfl
@[simp] theorem State.modPan_vault (r p : Nat) (f : Pan → Pan) : (s.modPan r p f).vault = s.vault := rfl
@[simp] theorem State.modPan_digWin (r p : Nat) (f : Pan → Pan) : (s.modPan r p f).digWin = s.digWin := rfl
@[simp] theorem State.modPan_frames (r p : Nat) (f : Pan → Pan) : (s.modPan r p f).frames = s.frames := rfl
@[simp] theorem State.modPan_mgmt (r p : Nat) (f : Pan → Pan) : (s.modPan r p f).mgmt = s.mgmt := rfl
@[simp] theorem State.modPan_life (r p : Nat) (f : Pan → Pan) : (s.modPan r p f).life = s.life := rfl
@[simp] theorem State.modPan_tamper (r p : Nat) (f : Pan → Pan) : (s.modPan r p f).tamper = s.tamper := rfl
@[simp] theorem State.modPan_card (r p : Nat) (f : Pan → Pan) : (s.modPan r p f).card = s.card := rfl
@[simp] theorem State.modPan_cust (r p : Nat) (f : Pan → Pan) : (s.modPan r p f).cust = s.cust := rfl
@[simp] theorem State.modPan_cores (r p : Nat) (f : Pan → Pan) : (s.modPan r p f).cores = s.cores := rfl
@[simp] theorem State.modPan_free (r p : Nat) (f : Pan → Pan) : (s.modPan r p f).free = s.free := rfl
@[simp] theorem State.modPan_out (r p : Nat) (f : Pan → Pan) : (s.modPan r p f).out = s.out := rfl
@[simp] theorem State.modRng_pending (r : Nat) (f : Rng → Rng) : (s.modRng r f).pending = s.pending := rfl
@[simp] theorem State.modRng_tick (r : Nat) (f : Rng → Rng) : (s.modRng r f).tick = s.tick := rfl
@[simp] theorem State.modRng_time (r : Nat) (f : Rng → Rng) : (s.modRng r f).time = s.time := rfl
@[simp] theorem State.modRng_pkg (r : Nat) (f : Rng → Rng) : (s.modRng r f).pkg = s.pkg := rfl
@[simp] theorem State.modRng_power (r : Nat) (f : Rng → Rng) : (s.modRng r f).power = s.power := rfl
@[simp] theorem State.modRng_faults (r : Nat) (f : Rng → Rng) : (s.modRng r f).faults = s.faults := rfl
@[simp] theorem State.modRng_jrn (r : Nat) (f : Rng → Rng) : (s.modRng r f).jrn = s.jrn := rfl
@[simp] theorem State.modRng_btn (r : Nat) (f : Rng → Rng) : (s.modRng r f).btn = s.btn := rfl
@[simp] theorem State.modRng_insts (r : Nat) (f : Rng → Rng) : (s.modRng r f).insts = s.insts := rfl
@[simp] theorem State.modRng_cmds (r : Nat) (f : Rng → Rng) : (s.modRng r f).cmds = s.cmds := rfl
@[simp] theorem State.modRng_nextId (r : Nat) (f : Rng → Rng) : (s.modRng r f).nextId = s.nextId := rfl
@[simp] theorem State.modRng_rr (r : Nat) (f : Rng → Rng) : (s.modRng r f).rr = s.rr := rfl
@[simp] theorem State.modRng_vault (r : Nat) (f : Rng → Rng) : (s.modRng r f).vault = s.vault := rfl
@[simp] theorem State.modRng_digWin (r : Nat) (f : Rng → Rng) : (s.modRng r f).digWin = s.digWin := rfl
@[simp] theorem State.modRng_frames (r : Nat) (f : Rng → Rng) : (s.modRng r f).frames = s.frames := rfl
@[simp] theorem State.modRng_mgmt (r : Nat) (f : Rng → Rng) : (s.modRng r f).mgmt = s.mgmt := rfl
@[simp] theorem State.modRng_life (r : Nat) (f : Rng → Rng) : (s.modRng r f).life = s.life := rfl
@[simp] theorem State.modRng_tamper (r : Nat) (f : Rng → Rng) : (s.modRng r f).tamper = s.tamper := rfl
@[simp] theorem State.modRng_card (r : Nat) (f : Rng → Rng) : (s.modRng r f).card = s.card := rfl
@[simp] theorem State.modRng_cust (r : Nat) (f : Rng → Rng) : (s.modRng r f).cust = s.cust := rfl
@[simp] theorem State.modRng_cores (r : Nat) (f : Rng → Rng) : (s.modRng r f).cores = s.cores := rfl
@[simp] theorem State.modRng_free (r : Nat) (f : Rng → Rng) : (s.modRng r f).free = s.free := rfl
@[simp] theorem State.modRng_out (r : Nat) (f : Rng → Rng) : (s.modRng r f).out = s.out := rfl
@[simp] theorem State.modMsg_pending (r p : Nat) (f : Msg → Msg) : (s.modMsg r p f).pending = s.pending := rfl
@[simp] theorem State.modMsg_tick (r p : Nat) (f : Msg → Msg) : (s.modMsg r p f).tick = s.tick := rfl
@[simp] theorem State.modMsg_time (r p : Nat) (f : Msg → Msg) : (s.modMsg r p f).time = s.time := rfl
@[simp] theorem State.modMsg_pkg (r p : Nat) (f : Msg → Msg) : (s.modMsg r p f).pkg = s.pkg := rfl
@[simp] theorem State.modMsg_power (r p : Nat) (f : Msg → Msg) : (s.modMsg r p f).power = s.power := rfl
@[simp] theorem State.modMsg_faults (r p : Nat) (f : Msg → Msg) : (s.modMsg r p f).faults = s.faults := rfl
@[simp] theorem State.modMsg_jrn (r p : Nat) (f : Msg → Msg) : (s.modMsg r p f).jrn = s.jrn := rfl
@[simp] theorem State.modMsg_btn (r p : Nat) (f : Msg → Msg) : (s.modMsg r p f).btn = s.btn := rfl
@[simp] theorem State.modMsg_insts (r p : Nat) (f : Msg → Msg) : (s.modMsg r p f).insts = s.insts := rfl
@[simp] theorem State.modMsg_cmds (r p : Nat) (f : Msg → Msg) : (s.modMsg r p f).cmds = s.cmds := rfl
@[simp] theorem State.modMsg_nextId (r p : Nat) (f : Msg → Msg) : (s.modMsg r p f).nextId = s.nextId := rfl
@[simp] theorem State.modMsg_rr (r p : Nat) (f : Msg → Msg) : (s.modMsg r p f).rr = s.rr := rfl
@[simp] theorem State.modMsg_vault (r p : Nat) (f : Msg → Msg) : (s.modMsg r p f).vault = s.vault := rfl
@[simp] theorem State.modMsg_digWin (r p : Nat) (f : Msg → Msg) : (s.modMsg r p f).digWin = s.digWin := rfl
@[simp] theorem State.modMsg_frames (r p : Nat) (f : Msg → Msg) : (s.modMsg r p f).frames = s.frames := rfl
@[simp] theorem State.modMsg_mgmt (r p : Nat) (f : Msg → Msg) : (s.modMsg r p f).mgmt = s.mgmt := rfl
@[simp] theorem State.modMsg_life (r p : Nat) (f : Msg → Msg) : (s.modMsg r p f).life = s.life := rfl
@[simp] theorem State.modMsg_tamper (r p : Nat) (f : Msg → Msg) : (s.modMsg r p f).tamper = s.tamper := rfl
@[simp] theorem State.modMsg_card (r p : Nat) (f : Msg → Msg) : (s.modMsg r p f).card = s.card := rfl
@[simp] theorem State.modMsg_cust (r p : Nat) (f : Msg → Msg) : (s.modMsg r p f).cust = s.cust := rfl
@[simp] theorem State.modMsg_cores (r p : Nat) (f : Msg → Msg) : (s.modMsg r p f).cores = s.cores := rfl
@[simp] theorem State.modMsg_free (r p : Nat) (f : Msg → Msg) : (s.modMsg r p f).free = s.free := rfl
@[simp] theorem State.modMsg_out (r p : Nat) (f : Msg → Msg) : (s.modMsg r p f).out = s.out := rfl
@[simp] theorem State.modSym_pending (r : Nat) (f : Sym → Sym) : (s.modSym r f).pending = s.pending := rfl
@[simp] theorem State.modSym_tick (r : Nat) (f : Sym → Sym) : (s.modSym r f).tick = s.tick := rfl
@[simp] theorem State.modSym_time (r : Nat) (f : Sym → Sym) : (s.modSym r f).time = s.time := rfl
@[simp] theorem State.modSym_pkg (r : Nat) (f : Sym → Sym) : (s.modSym r f).pkg = s.pkg := rfl
@[simp] theorem State.modSym_power (r : Nat) (f : Sym → Sym) : (s.modSym r f).power = s.power := rfl
@[simp] theorem State.modSym_faults (r : Nat) (f : Sym → Sym) : (s.modSym r f).faults = s.faults := rfl
@[simp] theorem State.modSym_jrn (r : Nat) (f : Sym → Sym) : (s.modSym r f).jrn = s.jrn := rfl
@[simp] theorem State.modSym_btn (r : Nat) (f : Sym → Sym) : (s.modSym r f).btn = s.btn := rfl
@[simp] theorem State.modSym_insts (r : Nat) (f : Sym → Sym) : (s.modSym r f).insts = s.insts := rfl
@[simp] theorem State.modSym_cmds (r : Nat) (f : Sym → Sym) : (s.modSym r f).cmds = s.cmds := rfl
@[simp] theorem State.modSym_nextId (r : Nat) (f : Sym → Sym) : (s.modSym r f).nextId = s.nextId := rfl
@[simp] theorem State.modSym_rr (r : Nat) (f : Sym → Sym) : (s.modSym r f).rr = s.rr := rfl
@[simp] theorem State.modSym_vault (r : Nat) (f : Sym → Sym) : (s.modSym r f).vault = s.vault := rfl
@[simp] theorem State.modSym_digWin (r : Nat) (f : Sym → Sym) : (s.modSym r f).digWin = s.digWin := rfl
@[simp] theorem State.modSym_frames (r : Nat) (f : Sym → Sym) : (s.modSym r f).frames = s.frames := rfl
@[simp] theorem State.modSym_mgmt (r : Nat) (f : Sym → Sym) : (s.modSym r f).mgmt = s.mgmt := rfl
@[simp] theorem State.modSym_life (r : Nat) (f : Sym → Sym) : (s.modSym r f).life = s.life := rfl
@[simp] theorem State.modSym_tamper (r : Nat) (f : Sym → Sym) : (s.modSym r f).tamper = s.tamper := rfl
@[simp] theorem State.modSym_card (r : Nat) (f : Sym → Sym) : (s.modSym r f).card = s.card := rfl
@[simp] theorem State.modSym_cust (r : Nat) (f : Sym → Sym) : (s.modSym r f).cust = s.cust := rfl
@[simp] theorem State.modSym_cores (r : Nat) (f : Sym → Sym) : (s.modSym r f).cores = s.cores := rfl
@[simp] theorem State.modSym_free (r : Nat) (f : Sym → Sym) : (s.modSym r f).free = s.free := rfl
@[simp] theorem State.modSym_out (r : Nat) (f : Sym → Sym) : (s.modSym r f).out = s.out := rfl
@[simp] theorem State.modCmd_pending (j : Nat) (f : Cmd → Cmd) : (s.modCmd j f).pending = s.pending := rfl
@[simp] theorem State.modCmd_tick (j : Nat) (f : Cmd → Cmd) : (s.modCmd j f).tick = s.tick := rfl
@[simp] theorem State.modCmd_time (j : Nat) (f : Cmd → Cmd) : (s.modCmd j f).time = s.time := rfl
@[simp] theorem State.modCmd_pkg (j : Nat) (f : Cmd → Cmd) : (s.modCmd j f).pkg = s.pkg := rfl
@[simp] theorem State.modCmd_power (j : Nat) (f : Cmd → Cmd) : (s.modCmd j f).power = s.power := rfl
@[simp] theorem State.modCmd_faults (j : Nat) (f : Cmd → Cmd) : (s.modCmd j f).faults = s.faults := rfl
@[simp] theorem State.modCmd_jrn (j : Nat) (f : Cmd → Cmd) : (s.modCmd j f).jrn = s.jrn := rfl
@[simp] theorem State.modCmd_btn (j : Nat) (f : Cmd → Cmd) : (s.modCmd j f).btn = s.btn := rfl
@[simp] theorem State.modCmd_insts (j : Nat) (f : Cmd → Cmd) : (s.modCmd j f).insts = s.insts := rfl
@[simp] theorem State.modCmd_nextId (j : Nat) (f : Cmd → Cmd) : (s.modCmd j f).nextId = s.nextId := rfl
@[simp] theorem State.modCmd_rr (j : Nat) (f : Cmd → Cmd) : (s.modCmd j f).rr = s.rr := rfl
@[simp] theorem State.modCmd_regions (j : Nat) (f : Cmd → Cmd) : (s.modCmd j f).regions = s.regions := rfl
@[simp] theorem State.modCmd_vault (j : Nat) (f : Cmd → Cmd) : (s.modCmd j f).vault = s.vault := rfl
@[simp] theorem State.modCmd_digWin (j : Nat) (f : Cmd → Cmd) : (s.modCmd j f).digWin = s.digWin := rfl
@[simp] theorem State.modCmd_frames (j : Nat) (f : Cmd → Cmd) : (s.modCmd j f).frames = s.frames := rfl
@[simp] theorem State.modCmd_mgmt (j : Nat) (f : Cmd → Cmd) : (s.modCmd j f).mgmt = s.mgmt := rfl
@[simp] theorem State.modCmd_life (j : Nat) (f : Cmd → Cmd) : (s.modCmd j f).life = s.life := rfl
@[simp] theorem State.modCmd_tamper (j : Nat) (f : Cmd → Cmd) : (s.modCmd j f).tamper = s.tamper := rfl
@[simp] theorem State.modCmd_card (j : Nat) (f : Cmd → Cmd) : (s.modCmd j f).card = s.card := rfl
@[simp] theorem State.modCmd_cust (j : Nat) (f : Cmd → Cmd) : (s.modCmd j f).cust = s.cust := rfl
@[simp] theorem State.modCmd_cores (j : Nat) (f : Cmd → Cmd) : (s.modCmd j f).cores = s.cores := rfl
@[simp] theorem State.modCmd_free (j : Nat) (f : Cmd → Cmd) : (s.modCmd j f).free = s.free := rfl
@[simp] theorem State.modCmd_out (j : Nat) (f : Cmd → Cmd) : (s.modCmd j f).out = s.out := rfl
@[simp] theorem State.modProg_pending (j : Nat) (f : Prog → Prog) : (s.modProg j f).pending = s.pending := rfl
@[simp] theorem State.modProg_tick (j : Nat) (f : Prog → Prog) : (s.modProg j f).tick = s.tick := rfl
@[simp] theorem State.modProg_time (j : Nat) (f : Prog → Prog) : (s.modProg j f).time = s.time := rfl
@[simp] theorem State.modProg_pkg (j : Nat) (f : Prog → Prog) : (s.modProg j f).pkg = s.pkg := rfl
@[simp] theorem State.modProg_power (j : Nat) (f : Prog → Prog) : (s.modProg j f).power = s.power := rfl
@[simp] theorem State.modProg_faults (j : Nat) (f : Prog → Prog) : (s.modProg j f).faults = s.faults := rfl
@[simp] theorem State.modProg_jrn (j : Nat) (f : Prog → Prog) : (s.modProg j f).jrn = s.jrn := rfl
@[simp] theorem State.modProg_btn (j : Nat) (f : Prog → Prog) : (s.modProg j f).btn = s.btn := rfl
@[simp] theorem State.modProg_insts (j : Nat) (f : Prog → Prog) : (s.modProg j f).insts = s.insts := rfl
@[simp] theorem State.modProg_nextId (j : Nat) (f : Prog → Prog) : (s.modProg j f).nextId = s.nextId := rfl
@[simp] theorem State.modProg_rr (j : Nat) (f : Prog → Prog) : (s.modProg j f).rr = s.rr := rfl
@[simp] theorem State.modProg_regions (j : Nat) (f : Prog → Prog) : (s.modProg j f).regions = s.regions := rfl
@[simp] theorem State.modProg_vault (j : Nat) (f : Prog → Prog) : (s.modProg j f).vault = s.vault := rfl
@[simp] theorem State.modProg_digWin (j : Nat) (f : Prog → Prog) : (s.modProg j f).digWin = s.digWin := rfl
@[simp] theorem State.modProg_frames (j : Nat) (f : Prog → Prog) : (s.modProg j f).frames = s.frames := rfl
@[simp] theorem State.modProg_mgmt (j : Nat) (f : Prog → Prog) : (s.modProg j f).mgmt = s.mgmt := rfl
@[simp] theorem State.modProg_life (j : Nat) (f : Prog → Prog) : (s.modProg j f).life = s.life := rfl
@[simp] theorem State.modProg_tamper (j : Nat) (f : Prog → Prog) : (s.modProg j f).tamper = s.tamper := rfl
@[simp] theorem State.modProg_card (j : Nat) (f : Prog → Prog) : (s.modProg j f).card = s.card := rfl
@[simp] theorem State.modProg_cust (j : Nat) (f : Prog → Prog) : (s.modProg j f).cust = s.cust := rfl
@[simp] theorem State.modProg_cores (j : Nat) (f : Prog → Prog) : (s.modProg j f).cores = s.cores := rfl
@[simp] theorem State.modProg_free (j : Nat) (f : Prog → Prog) : (s.modProg j f).free = s.free := rfl
@[simp] theorem State.modProg_out (j : Nat) (f : Prog → Prog) : (s.modProg j f).out = s.out := rfl
@[simp] theorem State.dropCmd_pending (j : Nat) : (s.dropCmd j).pending = s.pending := rfl
@[simp] theorem State.dropCmd_tick (j : Nat) : (s.dropCmd j).tick = s.tick := rfl
@[simp] theorem State.dropCmd_time (j : Nat) : (s.dropCmd j).time = s.time := rfl
@[simp] theorem State.dropCmd_pkg (j : Nat) : (s.dropCmd j).pkg = s.pkg := rfl
@[simp] theorem State.dropCmd_power (j : Nat) : (s.dropCmd j).power = s.power := rfl
@[simp] theorem State.dropCmd_faults (j : Nat) : (s.dropCmd j).faults = s.faults := rfl
@[simp] theorem State.dropCmd_jrn (j : Nat) : (s.dropCmd j).jrn = s.jrn := rfl
@[simp] theorem State.dropCmd_btn (j : Nat) : (s.dropCmd j).btn = s.btn := rfl
@[simp] theorem State.dropCmd_insts (j : Nat) : (s.dropCmd j).insts = s.insts := rfl
@[simp] theorem State.dropCmd_nextId (j : Nat) : (s.dropCmd j).nextId = s.nextId := rfl
@[simp] theorem State.dropCmd_rr (j : Nat) : (s.dropCmd j).rr = s.rr := rfl
@[simp] theorem State.dropCmd_regions (j : Nat) : (s.dropCmd j).regions = s.regions := rfl
@[simp] theorem State.dropCmd_vault (j : Nat) : (s.dropCmd j).vault = s.vault := rfl
@[simp] theorem State.dropCmd_digWin (j : Nat) : (s.dropCmd j).digWin = s.digWin := rfl
@[simp] theorem State.dropCmd_frames (j : Nat) : (s.dropCmd j).frames = s.frames := rfl
@[simp] theorem State.dropCmd_mgmt (j : Nat) : (s.dropCmd j).mgmt = s.mgmt := rfl
@[simp] theorem State.dropCmd_life (j : Nat) : (s.dropCmd j).life = s.life := rfl
@[simp] theorem State.dropCmd_tamper (j : Nat) : (s.dropCmd j).tamper = s.tamper := rfl
@[simp] theorem State.dropCmd_card (j : Nat) : (s.dropCmd j).card = s.card := rfl
@[simp] theorem State.dropCmd_cust (j : Nat) : (s.dropCmd j).cust = s.cust := rfl
@[simp] theorem State.dropCmd_cores (j : Nat) : (s.dropCmd j).cores = s.cores := rfl
@[simp] theorem State.dropCmd_free (j : Nat) : (s.dropCmd j).free = s.free := rfl
@[simp] theorem State.dropCmd_out (j : Nat) : (s.dropCmd j).out = s.out := rfl
@[simp] theorem State.modPkg_pending (f : Pkg → Pkg) : (s.modPkg f).pending = s.pending := rfl
@[simp] theorem State.modPkg_tick (f : Pkg → Pkg) : (s.modPkg f).tick = s.tick := rfl
@[simp] theorem State.modPkg_time (f : Pkg → Pkg) : (s.modPkg f).time = s.time := rfl
@[simp] theorem State.modPkg_power (f : Pkg → Pkg) : (s.modPkg f).power = s.power := rfl
@[simp] theorem State.modPkg_faults (f : Pkg → Pkg) : (s.modPkg f).faults = s.faults := rfl
@[simp] theorem State.modPkg_jrn (f : Pkg → Pkg) : (s.modPkg f).jrn = s.jrn := rfl
@[simp] theorem State.modPkg_btn (f : Pkg → Pkg) : (s.modPkg f).btn = s.btn := rfl
@[simp] theorem State.modPkg_insts (f : Pkg → Pkg) : (s.modPkg f).insts = s.insts := rfl
@[simp] theorem State.modPkg_cmds (f : Pkg → Pkg) : (s.modPkg f).cmds = s.cmds := rfl
@[simp] theorem State.modPkg_nextId (f : Pkg → Pkg) : (s.modPkg f).nextId = s.nextId := rfl
@[simp] theorem State.modPkg_rr (f : Pkg → Pkg) : (s.modPkg f).rr = s.rr := rfl
@[simp] theorem State.modPkg_regions (f : Pkg → Pkg) : (s.modPkg f).regions = s.regions := rfl
@[simp] theorem State.modPkg_vault (f : Pkg → Pkg) : (s.modPkg f).vault = s.vault := rfl
@[simp] theorem State.modPkg_digWin (f : Pkg → Pkg) : (s.modPkg f).digWin = s.digWin := rfl
@[simp] theorem State.modPkg_frames (f : Pkg → Pkg) : (s.modPkg f).frames = s.frames := rfl
@[simp] theorem State.modPkg_mgmt (f : Pkg → Pkg) : (s.modPkg f).mgmt = s.mgmt := rfl
@[simp] theorem State.modPkg_life (f : Pkg → Pkg) : (s.modPkg f).life = s.life := rfl
@[simp] theorem State.modPkg_tamper (f : Pkg → Pkg) : (s.modPkg f).tamper = s.tamper := rfl
@[simp] theorem State.modPkg_card (f : Pkg → Pkg) : (s.modPkg f).card = s.card := rfl
@[simp] theorem State.modPkg_cust (f : Pkg → Pkg) : (s.modPkg f).cust = s.cust := rfl
@[simp] theorem State.modPkg_cores (f : Pkg → Pkg) : (s.modPkg f).cores = s.cores := rfl
@[simp] theorem State.modPkg_free (f : Pkg → Pkg) : (s.modPkg f).free = s.free := rfl
@[simp] theorem State.modPkg_out (f : Pkg → Pkg) : (s.modPkg f).out = s.out := rfl
@[simp] theorem State.modFaults_pending (f : Faults → Faults) : (s.modFaults f).pending = s.pending := rfl
@[simp] theorem State.modFaults_tick (f : Faults → Faults) : (s.modFaults f).tick = s.tick := rfl
@[simp] theorem State.modFaults_time (f : Faults → Faults) : (s.modFaults f).time = s.time := rfl
@[simp] theorem State.modFaults_pkg (f : Faults → Faults) : (s.modFaults f).pkg = s.pkg := rfl
@[simp] theorem State.modFaults_power (f : Faults → Faults) : (s.modFaults f).power = s.power := rfl
@[simp] theorem State.modFaults_jrn (f : Faults → Faults) : (s.modFaults f).jrn = s.jrn := rfl
@[simp] theorem State.modFaults_btn (f : Faults → Faults) : (s.modFaults f).btn = s.btn := rfl
@[simp] theorem State.modFaults_insts (f : Faults → Faults) : (s.modFaults f).insts = s.insts := rfl
@[simp] theorem State.modFaults_cmds (f : Faults → Faults) : (s.modFaults f).cmds = s.cmds := rfl
@[simp] theorem State.modFaults_nextId (f : Faults → Faults) : (s.modFaults f).nextId = s.nextId := rfl
@[simp] theorem State.modFaults_rr (f : Faults → Faults) : (s.modFaults f).rr = s.rr := rfl
@[simp] theorem State.modFaults_regions (f : Faults → Faults) : (s.modFaults f).regions = s.regions := rfl
@[simp] theorem State.modFaults_vault (f : Faults → Faults) : (s.modFaults f).vault = s.vault := rfl
@[simp] theorem State.modFaults_digWin (f : Faults → Faults) : (s.modFaults f).digWin = s.digWin := rfl
@[simp] theorem State.modFaults_frames (f : Faults → Faults) : (s.modFaults f).frames = s.frames := rfl
@[simp] theorem State.modFaults_mgmt (f : Faults → Faults) : (s.modFaults f).mgmt = s.mgmt := rfl
@[simp] theorem State.modFaults_life (f : Faults → Faults) : (s.modFaults f).life = s.life := rfl
@[simp] theorem State.modFaults_tamper (f : Faults → Faults) : (s.modFaults f).tamper = s.tamper := rfl
@[simp] theorem State.modFaults_card (f : Faults → Faults) : (s.modFaults f).card = s.card := rfl
@[simp] theorem State.modFaults_cust (f : Faults → Faults) : (s.modFaults f).cust = s.cust := rfl
@[simp] theorem State.modFaults_cores (f : Faults → Faults) : (s.modFaults f).cores = s.cores := rfl
@[simp] theorem State.modFaults_free (f : Faults → Faults) : (s.modFaults f).free = s.free := rfl
@[simp] theorem State.modFaults_out (f : Faults → Faults) : (s.modFaults f).out = s.out := rfl
@[simp] theorem State.modJrn_pending (f : Journal → Journal) : (s.modJrn f).pending = s.pending := rfl
@[simp] theorem State.modJrn_tick (f : Journal → Journal) : (s.modJrn f).tick = s.tick := rfl
@[simp] theorem State.modJrn_time (f : Journal → Journal) : (s.modJrn f).time = s.time := rfl
@[simp] theorem State.modJrn_pkg (f : Journal → Journal) : (s.modJrn f).pkg = s.pkg := rfl
@[simp] theorem State.modJrn_power (f : Journal → Journal) : (s.modJrn f).power = s.power := rfl
@[simp] theorem State.modJrn_faults (f : Journal → Journal) : (s.modJrn f).faults = s.faults := rfl
@[simp] theorem State.modJrn_btn (f : Journal → Journal) : (s.modJrn f).btn = s.btn := rfl
@[simp] theorem State.modJrn_insts (f : Journal → Journal) : (s.modJrn f).insts = s.insts := rfl
@[simp] theorem State.modJrn_cmds (f : Journal → Journal) : (s.modJrn f).cmds = s.cmds := rfl
@[simp] theorem State.modJrn_nextId (f : Journal → Journal) : (s.modJrn f).nextId = s.nextId := rfl
@[simp] theorem State.modJrn_rr (f : Journal → Journal) : (s.modJrn f).rr = s.rr := rfl
@[simp] theorem State.modJrn_regions (f : Journal → Journal) : (s.modJrn f).regions = s.regions := rfl
@[simp] theorem State.modJrn_vault (f : Journal → Journal) : (s.modJrn f).vault = s.vault := rfl
@[simp] theorem State.modJrn_digWin (f : Journal → Journal) : (s.modJrn f).digWin = s.digWin := rfl
@[simp] theorem State.modJrn_frames (f : Journal → Journal) : (s.modJrn f).frames = s.frames := rfl
@[simp] theorem State.modJrn_mgmt (f : Journal → Journal) : (s.modJrn f).mgmt = s.mgmt := rfl
@[simp] theorem State.modJrn_life (f : Journal → Journal) : (s.modJrn f).life = s.life := rfl
@[simp] theorem State.modJrn_tamper (f : Journal → Journal) : (s.modJrn f).tamper = s.tamper := rfl
@[simp] theorem State.modJrn_card (f : Journal → Journal) : (s.modJrn f).card = s.card := rfl
@[simp] theorem State.modJrn_cust (f : Journal → Journal) : (s.modJrn f).cust = s.cust := rfl
@[simp] theorem State.modJrn_cores (f : Journal → Journal) : (s.modJrn f).cores = s.cores := rfl
@[simp] theorem State.modJrn_free (f : Journal → Journal) : (s.modJrn f).free = s.free := rfl
@[simp] theorem State.modJrn_out (f : Journal → Journal) : (s.modJrn f).out = s.out := rfl
@[simp] theorem State.modBtn_pending (f : Bittern → Bittern) : (s.modBtn f).pending = s.pending := rfl
@[simp] theorem State.modBtn_tick (f : Bittern → Bittern) : (s.modBtn f).tick = s.tick := rfl
@[simp] theorem State.modBtn_time (f : Bittern → Bittern) : (s.modBtn f).time = s.time := rfl
@[simp] theorem State.modBtn_pkg (f : Bittern → Bittern) : (s.modBtn f).pkg = s.pkg := rfl
@[simp] theorem State.modBtn_power (f : Bittern → Bittern) : (s.modBtn f).power = s.power := rfl
@[simp] theorem State.modBtn_faults (f : Bittern → Bittern) : (s.modBtn f).faults = s.faults := rfl
@[simp] theorem State.modBtn_jrn (f : Bittern → Bittern) : (s.modBtn f).jrn = s.jrn := rfl
@[simp] theorem State.modBtn_insts (f : Bittern → Bittern) : (s.modBtn f).insts = s.insts := rfl
@[simp] theorem State.modBtn_cmds (f : Bittern → Bittern) : (s.modBtn f).cmds = s.cmds := rfl
@[simp] theorem State.modBtn_nextId (f : Bittern → Bittern) : (s.modBtn f).nextId = s.nextId := rfl
@[simp] theorem State.modBtn_rr (f : Bittern → Bittern) : (s.modBtn f).rr = s.rr := rfl
@[simp] theorem State.modBtn_regions (f : Bittern → Bittern) : (s.modBtn f).regions = s.regions := rfl
@[simp] theorem State.modBtn_vault (f : Bittern → Bittern) : (s.modBtn f).vault = s.vault := rfl
@[simp] theorem State.modBtn_digWin (f : Bittern → Bittern) : (s.modBtn f).digWin = s.digWin := rfl
@[simp] theorem State.modBtn_frames (f : Bittern → Bittern) : (s.modBtn f).frames = s.frames := rfl
@[simp] theorem State.modBtn_mgmt (f : Bittern → Bittern) : (s.modBtn f).mgmt = s.mgmt := rfl
@[simp] theorem State.modBtn_life (f : Bittern → Bittern) : (s.modBtn f).life = s.life := rfl
@[simp] theorem State.modBtn_tamper (f : Bittern → Bittern) : (s.modBtn f).tamper = s.tamper := rfl
@[simp] theorem State.modBtn_card (f : Bittern → Bittern) : (s.modBtn f).card = s.card := rfl
@[simp] theorem State.modBtn_cust (f : Bittern → Bittern) : (s.modBtn f).cust = s.cust := rfl
@[simp] theorem State.modBtn_cores (f : Bittern → Bittern) : (s.modBtn f).cores = s.cores := rfl
@[simp] theorem State.modBtn_free (f : Bittern → Bittern) : (s.modBtn f).free = s.free := rfl
@[simp] theorem State.modBtn_out (f : Bittern → Bittern) : (s.modBtn f).out = s.out := rfl
@[simp] theorem State.modTime_pending (f : TimeUnit → TimeUnit) : (s.modTime f).pending = s.pending := rfl
@[simp] theorem State.modTime_tick (f : TimeUnit → TimeUnit) : (s.modTime f).tick = s.tick := rfl
@[simp] theorem State.modTime_pkg (f : TimeUnit → TimeUnit) : (s.modTime f).pkg = s.pkg := rfl
@[simp] theorem State.modTime_power (f : TimeUnit → TimeUnit) : (s.modTime f).power = s.power := rfl
@[simp] theorem State.modTime_faults (f : TimeUnit → TimeUnit) : (s.modTime f).faults = s.faults := rfl
@[simp] theorem State.modTime_jrn (f : TimeUnit → TimeUnit) : (s.modTime f).jrn = s.jrn := rfl
@[simp] theorem State.modTime_btn (f : TimeUnit → TimeUnit) : (s.modTime f).btn = s.btn := rfl
@[simp] theorem State.modTime_insts (f : TimeUnit → TimeUnit) : (s.modTime f).insts = s.insts := rfl
@[simp] theorem State.modTime_cmds (f : TimeUnit → TimeUnit) : (s.modTime f).cmds = s.cmds := rfl
@[simp] theorem State.modTime_nextId (f : TimeUnit → TimeUnit) : (s.modTime f).nextId = s.nextId := rfl
@[simp] theorem State.modTime_rr (f : TimeUnit → TimeUnit) : (s.modTime f).rr = s.rr := rfl
@[simp] theorem State.modTime_regions (f : TimeUnit → TimeUnit) : (s.modTime f).regions = s.regions := rfl
@[simp] theorem State.modTime_vault (f : TimeUnit → TimeUnit) : (s.modTime f).vault = s.vault := rfl
@[simp] theorem State.modTime_digWin (f : TimeUnit → TimeUnit) : (s.modTime f).digWin = s.digWin := rfl
@[simp] theorem State.modTime_frames (f : TimeUnit → TimeUnit) : (s.modTime f).frames = s.frames := rfl
@[simp] theorem State.modTime_mgmt (f : TimeUnit → TimeUnit) : (s.modTime f).mgmt = s.mgmt := rfl
@[simp] theorem State.modTime_life (f : TimeUnit → TimeUnit) : (s.modTime f).life = s.life := rfl
@[simp] theorem State.modTime_tamper (f : TimeUnit → TimeUnit) : (s.modTime f).tamper = s.tamper := rfl
@[simp] theorem State.modTime_card (f : TimeUnit → TimeUnit) : (s.modTime f).card = s.card := rfl
@[simp] theorem State.modTime_cust (f : TimeUnit → TimeUnit) : (s.modTime f).cust = s.cust := rfl
@[simp] theorem State.modTime_cores (f : TimeUnit → TimeUnit) : (s.modTime f).cores = s.cores := rfl
@[simp] theorem State.modTime_free (f : TimeUnit → TimeUnit) : (s.modTime f).free = s.free := rfl
@[simp] theorem State.modTime_out (f : TimeUnit → TimeUnit) : (s.modTime f).out = s.out := rfl
@[simp] theorem State.modVault_pending (f : Vault → Vault) : (s.modVault f).pending = s.pending := rfl
@[simp] theorem State.modVault_tick (f : Vault → Vault) : (s.modVault f).tick = s.tick := rfl
@[simp] theorem State.modVault_time (f : Vault → Vault) : (s.modVault f).time = s.time := rfl
@[simp] theorem State.modVault_pkg (f : Vault → Vault) : (s.modVault f).pkg = s.pkg := rfl
@[simp] theorem State.modVault_power (f : Vault → Vault) : (s.modVault f).power = s.power := rfl
@[simp] theorem State.modVault_faults (f : Vault → Vault) : (s.modVault f).faults = s.faults := rfl
@[simp] theorem State.modVault_jrn (f : Vault → Vault) : (s.modVault f).jrn = s.jrn := rfl
@[simp] theorem State.modVault_btn (f : Vault → Vault) : (s.modVault f).btn = s.btn := rfl
@[simp] theorem State.modVault_insts (f : Vault → Vault) : (s.modVault f).insts = s.insts := rfl
@[simp] theorem State.modVault_cmds (f : Vault → Vault) : (s.modVault f).cmds = s.cmds := rfl
@[simp] theorem State.modVault_nextId (f : Vault → Vault) : (s.modVault f).nextId = s.nextId := rfl
@[simp] theorem State.modVault_rr (f : Vault → Vault) : (s.modVault f).rr = s.rr := rfl
@[simp] theorem State.modVault_regions (f : Vault → Vault) : (s.modVault f).regions = s.regions := rfl
@[simp] theorem State.modVault_digWin (f : Vault → Vault) : (s.modVault f).digWin = s.digWin := rfl
@[simp] theorem State.modVault_frames (f : Vault → Vault) : (s.modVault f).frames = s.frames := rfl
@[simp] theorem State.modVault_mgmt (f : Vault → Vault) : (s.modVault f).mgmt = s.mgmt := rfl
@[simp] theorem State.modVault_life (f : Vault → Vault) : (s.modVault f).life = s.life := rfl
@[simp] theorem State.modVault_tamper (f : Vault → Vault) : (s.modVault f).tamper = s.tamper := rfl
@[simp] theorem State.modVault_card (f : Vault → Vault) : (s.modVault f).card = s.card := rfl
@[simp] theorem State.modVault_cust (f : Vault → Vault) : (s.modVault f).cust = s.cust := rfl
@[simp] theorem State.modVault_cores (f : Vault → Vault) : (s.modVault f).cores = s.cores := rfl
@[simp] theorem State.modVault_free (f : Vault → Vault) : (s.modVault f).free = s.free := rfl
@[simp] theorem State.modVault_out (f : Vault → Vault) : (s.modVault f).out = s.out := rfl
@[simp] theorem State.modWin_pending (f : DigWin → DigWin) : (s.modWin f).pending = s.pending := rfl
@[simp] theorem State.modWin_tick (f : DigWin → DigWin) : (s.modWin f).tick = s.tick := rfl
@[simp] theorem State.modWin_time (f : DigWin → DigWin) : (s.modWin f).time = s.time := rfl
@[simp] theorem State.modWin_pkg (f : DigWin → DigWin) : (s.modWin f).pkg = s.pkg := rfl
@[simp] theorem State.modWin_power (f : DigWin → DigWin) : (s.modWin f).power = s.power := rfl
@[simp] theorem State.modWin_faults (f : DigWin → DigWin) : (s.modWin f).faults = s.faults := rfl
@[simp] theorem State.modWin_jrn (f : DigWin → DigWin) : (s.modWin f).jrn = s.jrn := rfl
@[simp] theorem State.modWin_btn (f : DigWin → DigWin) : (s.modWin f).btn = s.btn := rfl
@[simp] theorem State.modWin_insts (f : DigWin → DigWin) : (s.modWin f).insts = s.insts := rfl
@[simp] theorem State.modWin_cmds (f : DigWin → DigWin) : (s.modWin f).cmds = s.cmds := rfl
@[simp] theorem State.modWin_nextId (f : DigWin → DigWin) : (s.modWin f).nextId = s.nextId := rfl
@[simp] theorem State.modWin_rr (f : DigWin → DigWin) : (s.modWin f).rr = s.rr := rfl
@[simp] theorem State.modWin_regions (f : DigWin → DigWin) : (s.modWin f).regions = s.regions := rfl
@[simp] theorem State.modWin_vault (f : DigWin → DigWin) : (s.modWin f).vault = s.vault := rfl
@[simp] theorem State.modWin_frames (f : DigWin → DigWin) : (s.modWin f).frames = s.frames := rfl
@[simp] theorem State.modWin_mgmt (f : DigWin → DigWin) : (s.modWin f).mgmt = s.mgmt := rfl
@[simp] theorem State.modWin_life (f : DigWin → DigWin) : (s.modWin f).life = s.life := rfl
@[simp] theorem State.modWin_tamper (f : DigWin → DigWin) : (s.modWin f).tamper = s.tamper := rfl
@[simp] theorem State.modWin_card (f : DigWin → DigWin) : (s.modWin f).card = s.card := rfl
@[simp] theorem State.modWin_cust (f : DigWin → DigWin) : (s.modWin f).cust = s.cust := rfl
@[simp] theorem State.modWin_cores (f : DigWin → DigWin) : (s.modWin f).cores = s.cores := rfl
@[simp] theorem State.modWin_free (f : DigWin → DigWin) : (s.modWin f).free = s.free := rfl
@[simp] theorem State.modWin_out (f : DigWin → DigWin) : (s.modWin f).out = s.out := rfl
@[simp] theorem State.modFrames_pending (f : Frames → Frames) : (s.modFrames f).pending = s.pending := rfl
@[simp] theorem State.modFrames_tick (f : Frames → Frames) : (s.modFrames f).tick = s.tick := rfl
@[simp] theorem State.modFrames_time (f : Frames → Frames) : (s.modFrames f).time = s.time := rfl
@[simp] theorem State.modFrames_pkg (f : Frames → Frames) : (s.modFrames f).pkg = s.pkg := rfl
@[simp] theorem State.modFrames_power (f : Frames → Frames) : (s.modFrames f).power = s.power := rfl
@[simp] theorem State.modFrames_faults (f : Frames → Frames) : (s.modFrames f).faults = s.faults := rfl
@[simp] theorem State.modFrames_jrn (f : Frames → Frames) : (s.modFrames f).jrn = s.jrn := rfl
@[simp] theorem State.modFrames_btn (f : Frames → Frames) : (s.modFrames f).btn = s.btn := rfl
@[simp] theorem State.modFrames_insts (f : Frames → Frames) : (s.modFrames f).insts = s.insts := rfl
@[simp] theorem State.modFrames_cmds (f : Frames → Frames) : (s.modFrames f).cmds = s.cmds := rfl
@[simp] theorem State.modFrames_nextId (f : Frames → Frames) : (s.modFrames f).nextId = s.nextId := rfl
@[simp] theorem State.modFrames_rr (f : Frames → Frames) : (s.modFrames f).rr = s.rr := rfl
@[simp] theorem State.modFrames_regions (f : Frames → Frames) : (s.modFrames f).regions = s.regions := rfl
@[simp] theorem State.modFrames_vault (f : Frames → Frames) : (s.modFrames f).vault = s.vault := rfl
@[simp] theorem State.modFrames_digWin (f : Frames → Frames) : (s.modFrames f).digWin = s.digWin := rfl
@[simp] theorem State.modFrames_mgmt (f : Frames → Frames) : (s.modFrames f).mgmt = s.mgmt := rfl
@[simp] theorem State.modFrames_life (f : Frames → Frames) : (s.modFrames f).life = s.life := rfl
@[simp] theorem State.modFrames_tamper (f : Frames → Frames) : (s.modFrames f).tamper = s.tamper := rfl
@[simp] theorem State.modFrames_card (f : Frames → Frames) : (s.modFrames f).card = s.card := rfl
@[simp] theorem State.modFrames_cust (f : Frames → Frames) : (s.modFrames f).cust = s.cust := rfl
@[simp] theorem State.modFrames_cores (f : Frames → Frames) : (s.modFrames f).cores = s.cores := rfl
@[simp] theorem State.modFrames_free (f : Frames → Frames) : (s.modFrames f).free = s.free := rfl
@[simp] theorem State.modFrames_out (f : Frames → Frames) : (s.modFrames f).out = s.out := rfl
@[simp] theorem State.modPort_pending (p : Nat) (f : Port → Port) : (s.modPort p f).pending = s.pending := rfl
@[simp] theorem State.modPort_tick (p : Nat) (f : Port → Port) : (s.modPort p f).tick = s.tick := rfl
@[simp] theorem State.modPort_time (p : Nat) (f : Port → Port) : (s.modPort p f).time = s.time := rfl
@[simp] theorem State.modPort_pkg (p : Nat) (f : Port → Port) : (s.modPort p f).pkg = s.pkg := rfl
@[simp] theorem State.modPort_power (p : Nat) (f : Port → Port) : (s.modPort p f).power = s.power := rfl
@[simp] theorem State.modPort_faults (p : Nat) (f : Port → Port) : (s.modPort p f).faults = s.faults := rfl
@[simp] theorem State.modPort_jrn (p : Nat) (f : Port → Port) : (s.modPort p f).jrn = s.jrn := rfl
@[simp] theorem State.modPort_btn (p : Nat) (f : Port → Port) : (s.modPort p f).btn = s.btn := rfl
@[simp] theorem State.modPort_insts (p : Nat) (f : Port → Port) : (s.modPort p f).insts = s.insts := rfl
@[simp] theorem State.modPort_cmds (p : Nat) (f : Port → Port) : (s.modPort p f).cmds = s.cmds := rfl
@[simp] theorem State.modPort_nextId (p : Nat) (f : Port → Port) : (s.modPort p f).nextId = s.nextId := rfl
@[simp] theorem State.modPort_rr (p : Nat) (f : Port → Port) : (s.modPort p f).rr = s.rr := rfl
@[simp] theorem State.modPort_regions (p : Nat) (f : Port → Port) : (s.modPort p f).regions = s.regions := rfl
@[simp] theorem State.modPort_vault (p : Nat) (f : Port → Port) : (s.modPort p f).vault = s.vault := rfl
@[simp] theorem State.modPort_digWin (p : Nat) (f : Port → Port) : (s.modPort p f).digWin = s.digWin := rfl
@[simp] theorem State.modPort_mgmt (p : Nat) (f : Port → Port) : (s.modPort p f).mgmt = s.mgmt := rfl
@[simp] theorem State.modPort_life (p : Nat) (f : Port → Port) : (s.modPort p f).life = s.life := rfl
@[simp] theorem State.modPort_tamper (p : Nat) (f : Port → Port) : (s.modPort p f).tamper = s.tamper := rfl
@[simp] theorem State.modPort_card (p : Nat) (f : Port → Port) : (s.modPort p f).card = s.card := rfl
@[simp] theorem State.modPort_cust (p : Nat) (f : Port → Port) : (s.modPort p f).cust = s.cust := rfl
@[simp] theorem State.modPort_cores (p : Nat) (f : Port → Port) : (s.modPort p f).cores = s.cores := rfl
@[simp] theorem State.modPort_free (p : Nat) (f : Port → Port) : (s.modPort p f).free = s.free := rfl
@[simp] theorem State.modPort_out (p : Nat) (f : Port → Port) : (s.modPort p f).out = s.out := rfl
@[simp] theorem State.modHvw_pending (f : Hvw → Hvw) : (s.modHvw f).pending = s.pending := rfl
@[simp] theorem State.modHvw_tick (f : Hvw → Hvw) : (s.modHvw f).tick = s.tick := rfl
@[simp] theorem State.modHvw_time (f : Hvw → Hvw) : (s.modHvw f).time = s.time := rfl
@[simp] theorem State.modHvw_pkg (f : Hvw → Hvw) : (s.modHvw f).pkg = s.pkg := rfl
@[simp] theorem State.modHvw_power (f : Hvw → Hvw) : (s.modHvw f).power = s.power := rfl
@[simp] theorem State.modHvw_faults (f : Hvw → Hvw) : (s.modHvw f).faults = s.faults := rfl
@[simp] theorem State.modHvw_jrn (f : Hvw → Hvw) : (s.modHvw f).jrn = s.jrn := rfl
@[simp] theorem State.modHvw_btn (f : Hvw → Hvw) : (s.modHvw f).btn = s.btn := rfl
@[simp] theorem State.modHvw_insts (f : Hvw → Hvw) : (s.modHvw f).insts = s.insts := rfl
@[simp] theorem State.modHvw_cmds (f : Hvw → Hvw) : (s.modHvw f).cmds = s.cmds := rfl
@[simp] theorem State.modHvw_nextId (f : Hvw → Hvw) : (s.modHvw f).nextId = s.nextId := rfl
@[simp] theorem State.modHvw_rr (f : Hvw → Hvw) : (s.modHvw f).rr = s.rr := rfl
@[simp] theorem State.modHvw_regions (f : Hvw → Hvw) : (s.modHvw f).regions = s.regions := rfl
@[simp] theorem State.modHvw_vault (f : Hvw → Hvw) : (s.modHvw f).vault = s.vault := rfl
@[simp] theorem State.modHvw_digWin (f : Hvw → Hvw) : (s.modHvw f).digWin = s.digWin := rfl
@[simp] theorem State.modHvw_mgmt (f : Hvw → Hvw) : (s.modHvw f).mgmt = s.mgmt := rfl
@[simp] theorem State.modHvw_life (f : Hvw → Hvw) : (s.modHvw f).life = s.life := rfl
@[simp] theorem State.modHvw_tamper (f : Hvw → Hvw) : (s.modHvw f).tamper = s.tamper := rfl
@[simp] theorem State.modHvw_card (f : Hvw → Hvw) : (s.modHvw f).card = s.card := rfl
@[simp] theorem State.modHvw_cust (f : Hvw → Hvw) : (s.modHvw f).cust = s.cust := rfl
@[simp] theorem State.modHvw_cores (f : Hvw → Hvw) : (s.modHvw f).cores = s.cores := rfl
@[simp] theorem State.modHvw_free (f : Hvw → Hvw) : (s.modHvw f).free = s.free := rfl
@[simp] theorem State.modHvw_out (f : Hvw → Hvw) : (s.modHvw f).out = s.out := rfl
@[simp] theorem State.modMgmt_pending (f : Mgmt → Mgmt) : (s.modMgmt f).pending = s.pending := rfl
@[simp] theorem State.modMgmt_tick (f : Mgmt → Mgmt) : (s.modMgmt f).tick = s.tick := rfl
@[simp] theorem State.modMgmt_time (f : Mgmt → Mgmt) : (s.modMgmt f).time = s.time := rfl
@[simp] theorem State.modMgmt_pkg (f : Mgmt → Mgmt) : (s.modMgmt f).pkg = s.pkg := rfl
@[simp] theorem State.modMgmt_power (f : Mgmt → Mgmt) : (s.modMgmt f).power = s.power := rfl
@[simp] theorem State.modMgmt_faults (f : Mgmt → Mgmt) : (s.modMgmt f).faults = s.faults := rfl
@[simp] theorem State.modMgmt_jrn (f : Mgmt → Mgmt) : (s.modMgmt f).jrn = s.jrn := rfl
@[simp] theorem State.modMgmt_btn (f : Mgmt → Mgmt) : (s.modMgmt f).btn = s.btn := rfl
@[simp] theorem State.modMgmt_insts (f : Mgmt → Mgmt) : (s.modMgmt f).insts = s.insts := rfl
@[simp] theorem State.modMgmt_cmds (f : Mgmt → Mgmt) : (s.modMgmt f).cmds = s.cmds := rfl
@[simp] theorem State.modMgmt_nextId (f : Mgmt → Mgmt) : (s.modMgmt f).nextId = s.nextId := rfl
@[simp] theorem State.modMgmt_rr (f : Mgmt → Mgmt) : (s.modMgmt f).rr = s.rr := rfl
@[simp] theorem State.modMgmt_regions (f : Mgmt → Mgmt) : (s.modMgmt f).regions = s.regions := rfl
@[simp] theorem State.modMgmt_vault (f : Mgmt → Mgmt) : (s.modMgmt f).vault = s.vault := rfl
@[simp] theorem State.modMgmt_digWin (f : Mgmt → Mgmt) : (s.modMgmt f).digWin = s.digWin := rfl
@[simp] theorem State.modMgmt_frames (f : Mgmt → Mgmt) : (s.modMgmt f).frames = s.frames := rfl
@[simp] theorem State.modMgmt_life (f : Mgmt → Mgmt) : (s.modMgmt f).life = s.life := rfl
@[simp] theorem State.modMgmt_tamper (f : Mgmt → Mgmt) : (s.modMgmt f).tamper = s.tamper := rfl
@[simp] theorem State.modMgmt_card (f : Mgmt → Mgmt) : (s.modMgmt f).card = s.card := rfl
@[simp] theorem State.modMgmt_cust (f : Mgmt → Mgmt) : (s.modMgmt f).cust = s.cust := rfl
@[simp] theorem State.modMgmt_cores (f : Mgmt → Mgmt) : (s.modMgmt f).cores = s.cores := rfl
@[simp] theorem State.modMgmt_free (f : Mgmt → Mgmt) : (s.modMgmt f).free = s.free := rfl
@[simp] theorem State.modMgmt_out (f : Mgmt → Mgmt) : (s.modMgmt f).out = s.out := rfl
@[simp] theorem State.modLife_pending (f : Life → Life) : (s.modLife f).pending = s.pending := rfl
@[simp] theorem State.modLife_tick (f : Life → Life) : (s.modLife f).tick = s.tick := rfl
@[simp] theorem State.modLife_time (f : Life → Life) : (s.modLife f).time = s.time := rfl
@[simp] theorem State.modLife_pkg (f : Life → Life) : (s.modLife f).pkg = s.pkg := rfl
@[simp] theorem State.modLife_power (f : Life → Life) : (s.modLife f).power = s.power := rfl
@[simp] theorem State.modLife_faults (f : Life → Life) : (s.modLife f).faults = s.faults := rfl
@[simp] theorem State.modLife_jrn (f : Life → Life) : (s.modLife f).jrn = s.jrn := rfl
@[simp] theorem State.modLife_btn (f : Life → Life) : (s.modLife f).btn = s.btn := rfl
@[simp] theorem State.modLife_insts (f : Life → Life) : (s.modLife f).insts = s.insts := rfl
@[simp] theorem State.modLife_cmds (f : Life → Life) : (s.modLife f).cmds = s.cmds := rfl
@[simp] theorem State.modLife_nextId (f : Life → Life) : (s.modLife f).nextId = s.nextId := rfl
@[simp] theorem State.modLife_rr (f : Life → Life) : (s.modLife f).rr = s.rr := rfl
@[simp] theorem State.modLife_regions (f : Life → Life) : (s.modLife f).regions = s.regions := rfl
@[simp] theorem State.modLife_vault (f : Life → Life) : (s.modLife f).vault = s.vault := rfl
@[simp] theorem State.modLife_digWin (f : Life → Life) : (s.modLife f).digWin = s.digWin := rfl
@[simp] theorem State.modLife_frames (f : Life → Life) : (s.modLife f).frames = s.frames := rfl
@[simp] theorem State.modLife_mgmt (f : Life → Life) : (s.modLife f).mgmt = s.mgmt := rfl
@[simp] theorem State.modLife_tamper (f : Life → Life) : (s.modLife f).tamper = s.tamper := rfl
@[simp] theorem State.modLife_card (f : Life → Life) : (s.modLife f).card = s.card := rfl
@[simp] theorem State.modLife_cust (f : Life → Life) : (s.modLife f).cust = s.cust := rfl
@[simp] theorem State.modLife_cores (f : Life → Life) : (s.modLife f).cores = s.cores := rfl
@[simp] theorem State.modLife_free (f : Life → Life) : (s.modLife f).free = s.free := rfl
@[simp] theorem State.modLife_out (f : Life → Life) : (s.modLife f).out = s.out := rfl
@[simp] theorem State.modOtp_pending (f : Otp → Otp) : (s.modOtp f).pending = s.pending := rfl
@[simp] theorem State.modOtp_tick (f : Otp → Otp) : (s.modOtp f).tick = s.tick := rfl
@[simp] theorem State.modOtp_time (f : Otp → Otp) : (s.modOtp f).time = s.time := rfl
@[simp] theorem State.modOtp_pkg (f : Otp → Otp) : (s.modOtp f).pkg = s.pkg := rfl
@[simp] theorem State.modOtp_power (f : Otp → Otp) : (s.modOtp f).power = s.power := rfl
@[simp] theorem State.modOtp_faults (f : Otp → Otp) : (s.modOtp f).faults = s.faults := rfl
@[simp] theorem State.modOtp_jrn (f : Otp → Otp) : (s.modOtp f).jrn = s.jrn := rfl
@[simp] theorem State.modOtp_btn (f : Otp → Otp) : (s.modOtp f).btn = s.btn := rfl
@[simp] theorem State.modOtp_insts (f : Otp → Otp) : (s.modOtp f).insts = s.insts := rfl
@[simp] theorem State.modOtp_cmds (f : Otp → Otp) : (s.modOtp f).cmds = s.cmds := rfl
@[simp] theorem State.modOtp_nextId (f : Otp → Otp) : (s.modOtp f).nextId = s.nextId := rfl
@[simp] theorem State.modOtp_rr (f : Otp → Otp) : (s.modOtp f).rr = s.rr := rfl
@[simp] theorem State.modOtp_regions (f : Otp → Otp) : (s.modOtp f).regions = s.regions := rfl
@[simp] theorem State.modOtp_vault (f : Otp → Otp) : (s.modOtp f).vault = s.vault := rfl
@[simp] theorem State.modOtp_digWin (f : Otp → Otp) : (s.modOtp f).digWin = s.digWin := rfl
@[simp] theorem State.modOtp_frames (f : Otp → Otp) : (s.modOtp f).frames = s.frames := rfl
@[simp] theorem State.modOtp_mgmt (f : Otp → Otp) : (s.modOtp f).mgmt = s.mgmt := rfl
@[simp] theorem State.modOtp_tamper (f : Otp → Otp) : (s.modOtp f).tamper = s.tamper := rfl
@[simp] theorem State.modOtp_card (f : Otp → Otp) : (s.modOtp f).card = s.card := rfl
@[simp] theorem State.modOtp_cust (f : Otp → Otp) : (s.modOtp f).cust = s.cust := rfl
@[simp] theorem State.modOtp_cores (f : Otp → Otp) : (s.modOtp f).cores = s.cores := rfl
@[simp] theorem State.modOtp_free (f : Otp → Otp) : (s.modOtp f).free = s.free := rfl
@[simp] theorem State.modOtp_out (f : Otp → Otp) : (s.modOtp f).out = s.out := rfl
@[simp] theorem State.modTamper_pending (f : Tamper → Tamper) : (s.modTamper f).pending = s.pending := rfl
@[simp] theorem State.modTamper_tick (f : Tamper → Tamper) : (s.modTamper f).tick = s.tick := rfl
@[simp] theorem State.modTamper_time (f : Tamper → Tamper) : (s.modTamper f).time = s.time := rfl
@[simp] theorem State.modTamper_pkg (f : Tamper → Tamper) : (s.modTamper f).pkg = s.pkg := rfl
@[simp] theorem State.modTamper_power (f : Tamper → Tamper) : (s.modTamper f).power = s.power := rfl
@[simp] theorem State.modTamper_faults (f : Tamper → Tamper) : (s.modTamper f).faults = s.faults := rfl
@[simp] theorem State.modTamper_jrn (f : Tamper → Tamper) : (s.modTamper f).jrn = s.jrn := rfl
@[simp] theorem State.modTamper_btn (f : Tamper → Tamper) : (s.modTamper f).btn = s.btn := rfl
@[simp] theorem State.modTamper_insts (f : Tamper → Tamper) : (s.modTamper f).insts = s.insts := rfl
@[simp] theorem State.modTamper_cmds (f : Tamper → Tamper) : (s.modTamper f).cmds = s.cmds := rfl
@[simp] theorem State.modTamper_nextId (f : Tamper → Tamper) : (s.modTamper f).nextId = s.nextId := rfl
@[simp] theorem State.modTamper_rr (f : Tamper → Tamper) : (s.modTamper f).rr = s.rr := rfl
@[simp] theorem State.modTamper_regions (f : Tamper → Tamper) : (s.modTamper f).regions = s.regions := rfl
@[simp] theorem State.modTamper_vault (f : Tamper → Tamper) : (s.modTamper f).vault = s.vault := rfl
@[simp] theorem State.modTamper_digWin (f : Tamper → Tamper) : (s.modTamper f).digWin = s.digWin := rfl
@[simp] theorem State.modTamper_frames (f : Tamper → Tamper) : (s.modTamper f).frames = s.frames := rfl
@[simp] theorem State.modTamper_mgmt (f : Tamper → Tamper) : (s.modTamper f).mgmt = s.mgmt := rfl
@[simp] theorem State.modTamper_life (f : Tamper → Tamper) : (s.modTamper f).life = s.life := rfl
@[simp] theorem State.modTamper_card (f : Tamper → Tamper) : (s.modTamper f).card = s.card := rfl
@[simp] theorem State.modTamper_cust (f : Tamper → Tamper) : (s.modTamper f).cust = s.cust := rfl
@[simp] theorem State.modTamper_cores (f : Tamper → Tamper) : (s.modTamper f).cores = s.cores := rfl
@[simp] theorem State.modTamper_free (f : Tamper → Tamper) : (s.modTamper f).free = s.free := rfl
@[simp] theorem State.modTamper_out (f : Tamper → Tamper) : (s.modTamper f).out = s.out := rfl
@[simp] theorem State.modCard_pending (f : Card → Card) : (s.modCard f).pending = s.pending := rfl
@[simp] theorem State.modCard_tick (f : Card → Card) : (s.modCard f).tick = s.tick := rfl
@[simp] theorem State.modCard_time (f : Card → Card) : (s.modCard f).time = s.time := rfl
@[simp] theorem State.modCard_pkg (f : Card → Card) : (s.modCard f).pkg = s.pkg := rfl
@[simp] theorem State.modCard_power (f : Card → Card) : (s.modCard f).power = s.power := rfl
@[simp] theorem State.modCard_faults (f : Card → Card) : (s.modCard f).faults = s.faults := rfl
@[simp] theorem State.modCard_jrn (f : Card → Card) : (s.modCard f).jrn = s.jrn := rfl
@[simp] theorem State.modCard_btn (f : Card → Card) : (s.modCard f).btn = s.btn := rfl
@[simp] theorem State.modCard_insts (f : Card → Card) : (s.modCard f).insts = s.insts := rfl
@[simp] theorem State.modCard_cmds (f : Card → Card) : (s.modCard f).cmds = s.cmds := rfl
@[simp] theorem State.modCard_nextId (f : Card → Card) : (s.modCard f).nextId = s.nextId := rfl
@[simp] theorem State.modCard_rr (f : Card → Card) : (s.modCard f).rr = s.rr := rfl
@[simp] theorem State.modCard_regions (f : Card → Card) : (s.modCard f).regions = s.regions := rfl
@[simp] theorem State.modCard_vault (f : Card → Card) : (s.modCard f).vault = s.vault := rfl
@[simp] theorem State.modCard_digWin (f : Card → Card) : (s.modCard f).digWin = s.digWin := rfl
@[simp] theorem State.modCard_frames (f : Card → Card) : (s.modCard f).frames = s.frames := rfl
@[simp] theorem State.modCard_mgmt (f : Card → Card) : (s.modCard f).mgmt = s.mgmt := rfl
@[simp] theorem State.modCard_life (f : Card → Card) : (s.modCard f).life = s.life := rfl
@[simp] theorem State.modCard_tamper (f : Card → Card) : (s.modCard f).tamper = s.tamper := rfl
@[simp] theorem State.modCard_cust (f : Card → Card) : (s.modCard f).cust = s.cust := rfl
@[simp] theorem State.modCard_cores (f : Card → Card) : (s.modCard f).cores = s.cores := rfl
@[simp] theorem State.modCard_free (f : Card → Card) : (s.modCard f).free = s.free := rfl
@[simp] theorem State.modCard_out (f : Card → Card) : (s.modCard f).out = s.out := rfl
@[simp] theorem State.modKey_pending (h : U32) (f : KeyRec → KeyRec) : (s.modKey h f).pending = s.pending := rfl
@[simp] theorem State.modKey_tick (h : U32) (f : KeyRec → KeyRec) : (s.modKey h f).tick = s.tick := rfl
@[simp] theorem State.modKey_time (h : U32) (f : KeyRec → KeyRec) : (s.modKey h f).time = s.time := rfl
@[simp] theorem State.modKey_pkg (h : U32) (f : KeyRec → KeyRec) : (s.modKey h f).pkg = s.pkg := rfl
@[simp] theorem State.modKey_power (h : U32) (f : KeyRec → KeyRec) : (s.modKey h f).power = s.power := rfl
@[simp] theorem State.modKey_faults (h : U32) (f : KeyRec → KeyRec) : (s.modKey h f).faults = s.faults := rfl
@[simp] theorem State.modKey_jrn (h : U32) (f : KeyRec → KeyRec) : (s.modKey h f).jrn = s.jrn := rfl
@[simp] theorem State.modKey_btn (h : U32) (f : KeyRec → KeyRec) : (s.modKey h f).btn = s.btn := rfl
@[simp] theorem State.modKey_insts (h : U32) (f : KeyRec → KeyRec) : (s.modKey h f).insts = s.insts := rfl
@[simp] theorem State.modKey_cmds (h : U32) (f : KeyRec → KeyRec) : (s.modKey h f).cmds = s.cmds := rfl
@[simp] theorem State.modKey_nextId (h : U32) (f : KeyRec → KeyRec) : (s.modKey h f).nextId = s.nextId := rfl
@[simp] theorem State.modKey_rr (h : U32) (f : KeyRec → KeyRec) : (s.modKey h f).rr = s.rr := rfl
@[simp] theorem State.modKey_regions (h : U32) (f : KeyRec → KeyRec) : (s.modKey h f).regions = s.regions := rfl
@[simp] theorem State.modKey_digWin (h : U32) (f : KeyRec → KeyRec) : (s.modKey h f).digWin = s.digWin := rfl
@[simp] theorem State.modKey_frames (h : U32) (f : KeyRec → KeyRec) : (s.modKey h f).frames = s.frames := rfl
@[simp] theorem State.modKey_mgmt (h : U32) (f : KeyRec → KeyRec) : (s.modKey h f).mgmt = s.mgmt := rfl
@[simp] theorem State.modKey_life (h : U32) (f : KeyRec → KeyRec) : (s.modKey h f).life = s.life := rfl
@[simp] theorem State.modKey_tamper (h : U32) (f : KeyRec → KeyRec) : (s.modKey h f).tamper = s.tamper := rfl
@[simp] theorem State.modKey_card (h : U32) (f : KeyRec → KeyRec) : (s.modKey h f).card = s.card := rfl
@[simp] theorem State.modKey_cust (h : U32) (f : KeyRec → KeyRec) : (s.modKey h f).cust = s.cust := rfl
@[simp] theorem State.modKey_cores (h : U32) (f : KeyRec → KeyRec) : (s.modKey h f).cores = s.cores := rfl
@[simp] theorem State.modKey_free (h : U32) (f : KeyRec → KeyRec) : (s.modKey h f).free = s.free := rfl
@[simp] theorem State.modKey_out (h : U32) (f : KeyRec → KeyRec) : (s.modKey h f).out = s.out := rfl
@[simp] theorem emit_pending (o : Out) : (emit o s).pending = s.pending := rfl
@[simp] theorem emit_tick (o : Out) : (emit o s).tick = s.tick := rfl
@[simp] theorem emit_time (o : Out) : (emit o s).time = s.time := rfl
@[simp] theorem emit_pkg (o : Out) : (emit o s).pkg = s.pkg := rfl
@[simp] theorem emit_power (o : Out) : (emit o s).power = s.power := rfl
@[simp] theorem emit_faults (o : Out) : (emit o s).faults = s.faults := rfl
@[simp] theorem emit_jrn (o : Out) : (emit o s).jrn = s.jrn := rfl
@[simp] theorem emit_btn (o : Out) : (emit o s).btn = s.btn := rfl
@[simp] theorem emit_insts (o : Out) : (emit o s).insts = s.insts := rfl
@[simp] theorem emit_cmds (o : Out) : (emit o s).cmds = s.cmds := rfl
@[simp] theorem emit_nextId (o : Out) : (emit o s).nextId = s.nextId := rfl
@[simp] theorem emit_rr (o : Out) : (emit o s).rr = s.rr := rfl
@[simp] theorem emit_regions (o : Out) : (emit o s).regions = s.regions := rfl
@[simp] theorem emit_vault (o : Out) : (emit o s).vault = s.vault := rfl
@[simp] theorem emit_digWin (o : Out) : (emit o s).digWin = s.digWin := rfl
@[simp] theorem emit_frames (o : Out) : (emit o s).frames = s.frames := rfl
@[simp] theorem emit_mgmt (o : Out) : (emit o s).mgmt = s.mgmt := rfl
@[simp] theorem emit_life (o : Out) : (emit o s).life = s.life := rfl
@[simp] theorem emit_tamper (o : Out) : (emit o s).tamper = s.tamper := rfl
@[simp] theorem emit_card (o : Out) : (emit o s).card = s.card := rfl
@[simp] theorem emit_cust (o : Out) : (emit o s).cust = s.cust := rfl
@[simp] theorem emit_cores (o : Out) : (emit o s).cores = s.cores := rfl
@[simp] theorem emit_free (o : Out) : (emit o s).free = s.free := rfl
@[simp] theorem drawNat_pending : (drawNat s).2.pending = s.pending := rfl
@[simp] theorem drawNat_tick : (drawNat s).2.tick = s.tick := rfl
@[simp] theorem drawNat_time : (drawNat s).2.time = s.time := rfl
@[simp] theorem drawNat_pkg : (drawNat s).2.pkg = s.pkg := rfl
@[simp] theorem drawNat_power : (drawNat s).2.power = s.power := rfl
@[simp] theorem drawNat_faults : (drawNat s).2.faults = s.faults := rfl
@[simp] theorem drawNat_jrn : (drawNat s).2.jrn = s.jrn := rfl
@[simp] theorem drawNat_btn : (drawNat s).2.btn = s.btn := rfl
@[simp] theorem drawNat_insts : (drawNat s).2.insts = s.insts := rfl
@[simp] theorem drawNat_cmds : (drawNat s).2.cmds = s.cmds := rfl
@[simp] theorem drawNat_nextId : (drawNat s).2.nextId = s.nextId := rfl
@[simp] theorem drawNat_rr : (drawNat s).2.rr = s.rr := rfl
@[simp] theorem drawNat_regions : (drawNat s).2.regions = s.regions := rfl
@[simp] theorem drawNat_vault : (drawNat s).2.vault = s.vault := rfl
@[simp] theorem drawNat_digWin : (drawNat s).2.digWin = s.digWin := rfl
@[simp] theorem drawNat_frames : (drawNat s).2.frames = s.frames := rfl
@[simp] theorem drawNat_mgmt : (drawNat s).2.mgmt = s.mgmt := rfl
@[simp] theorem drawNat_life : (drawNat s).2.life = s.life := rfl
@[simp] theorem drawNat_tamper : (drawNat s).2.tamper = s.tamper := rfl
@[simp] theorem drawNat_card : (drawNat s).2.card = s.card := rfl
@[simp] theorem drawNat_cust : (drawNat s).2.cust = s.cust := rfl
@[simp] theorem drawNat_cores : (drawNat s).2.cores = s.cores := rfl
@[simp] theorem drawNat_out : (drawNat s).2.out = s.out := rfl
@[simp] theorem drawBytes_pending (n : Nat) : (drawBytes n s).2.pending = s.pending := rfl
@[simp] theorem drawBytes_tick (n : Nat) : (drawBytes n s).2.tick = s.tick := rfl
@[simp] theorem drawBytes_time (n : Nat) : (drawBytes n s).2.time = s.time := rfl
@[simp] theorem drawBytes_pkg (n : Nat) : (drawBytes n s).2.pkg = s.pkg := rfl
@[simp] theorem drawBytes_power (n : Nat) : (drawBytes n s).2.power = s.power := rfl
@[simp] theorem drawBytes_faults (n : Nat) : (drawBytes n s).2.faults = s.faults := rfl
@[simp] theorem drawBytes_jrn (n : Nat) : (drawBytes n s).2.jrn = s.jrn := rfl
@[simp] theorem drawBytes_btn (n : Nat) : (drawBytes n s).2.btn = s.btn := rfl
@[simp] theorem drawBytes_insts (n : Nat) : (drawBytes n s).2.insts = s.insts := rfl
@[simp] theorem drawBytes_cmds (n : Nat) : (drawBytes n s).2.cmds = s.cmds := rfl
@[simp] theorem drawBytes_nextId (n : Nat) : (drawBytes n s).2.nextId = s.nextId := rfl
@[simp] theorem drawBytes_rr (n : Nat) : (drawBytes n s).2.rr = s.rr := rfl
@[simp] theorem drawBytes_regions (n : Nat) : (drawBytes n s).2.regions = s.regions := rfl
@[simp] theorem drawBytes_vault (n : Nat) : (drawBytes n s).2.vault = s.vault := rfl
@[simp] theorem drawBytes_digWin (n : Nat) : (drawBytes n s).2.digWin = s.digWin := rfl
@[simp] theorem drawBytes_frames (n : Nat) : (drawBytes n s).2.frames = s.frames := rfl
@[simp] theorem drawBytes_mgmt (n : Nat) : (drawBytes n s).2.mgmt = s.mgmt := rfl
@[simp] theorem drawBytes_life (n : Nat) : (drawBytes n s).2.life = s.life := rfl
@[simp] theorem drawBytes_tamper (n : Nat) : (drawBytes n s).2.tamper = s.tamper := rfl
@[simp] theorem drawBytes_card (n : Nat) : (drawBytes n s).2.card = s.card := rfl
@[simp] theorem drawBytes_cust (n : Nat) : (drawBytes n s).2.cust = s.cust := rfl
@[simp] theorem drawBytes_cores (n : Nat) : (drawBytes n s).2.cores = s.cores := rfl
@[simp] theorem drawBytes_out (n : Nat) : (drawBytes n s).2.out = s.out := rfl
@[simp] theorem drawEnergy_pending : (drawEnergy s).2.pending = s.pending := rfl
@[simp] theorem drawEnergy_tick : (drawEnergy s).2.tick = s.tick := rfl
@[simp] theorem drawEnergy_time : (drawEnergy s).2.time = s.time := rfl
@[simp] theorem drawEnergy_pkg : (drawEnergy s).2.pkg = s.pkg := rfl
@[simp] theorem drawEnergy_power : (drawEnergy s).2.power = s.power := rfl
@[simp] theorem drawEnergy_faults : (drawEnergy s).2.faults = s.faults := rfl
@[simp] theorem drawEnergy_jrn : (drawEnergy s).2.jrn = s.jrn := rfl
@[simp] theorem drawEnergy_btn : (drawEnergy s).2.btn = s.btn := rfl
@[simp] theorem drawEnergy_insts : (drawEnergy s).2.insts = s.insts := rfl
@[simp] theorem drawEnergy_cmds : (drawEnergy s).2.cmds = s.cmds := rfl
@[simp] theorem drawEnergy_nextId : (drawEnergy s).2.nextId = s.nextId := rfl
@[simp] theorem drawEnergy_rr : (drawEnergy s).2.rr = s.rr := rfl
@[simp] theorem drawEnergy_regions : (drawEnergy s).2.regions = s.regions := rfl
@[simp] theorem drawEnergy_vault : (drawEnergy s).2.vault = s.vault := rfl
@[simp] theorem drawEnergy_digWin : (drawEnergy s).2.digWin = s.digWin := rfl
@[simp] theorem drawEnergy_frames : (drawEnergy s).2.frames = s.frames := rfl
@[simp] theorem drawEnergy_mgmt : (drawEnergy s).2.mgmt = s.mgmt := rfl
@[simp] theorem drawEnergy_life : (drawEnergy s).2.life = s.life := rfl
@[simp] theorem drawEnergy_tamper : (drawEnergy s).2.tamper = s.tamper := rfl
@[simp] theorem drawEnergy_card : (drawEnergy s).2.card = s.card := rfl
@[simp] theorem drawEnergy_cust : (drawEnergy s).2.cust = s.cust := rfl
@[simp] theorem drawEnergy_cores : (drawEnergy s).2.cores = s.cores := rfl
@[simp] theorem drawEnergy_out : (drawEnergy s).2.out = s.out := rfl

end Frames

end Sys2Proof.Machine
end

