-- ==== Sys2Proof/Laws/Tables.lean ====
section
/-! SUPPORT. Sparse tables: what a read gives after a write, and that a write keeps the canonical form. -/

namespace Sys2Proof.Machine

section Tables
variable {α : Type} (d : Nat → α)

@[simp] theorem tget_nil (k : Nat) : tget d [] k = d k := rfl

theorem tget_tdel_self (t : Tbl α) (k : Nat) : tget d (tdel t k) k = d k := by
  induction t with
  | nil => rfl
  | cons e t ih =>
    obtain ⟨k', v⟩ := e
    by_cases h : k' = k
    · simp [tdel, h, ih]
    · simp [tdel, h, tget, ih]

theorem tget_tdel_ne (t : Tbl α) (k k' : Nat) (hk : k' ≠ k) : tget d (tdel t k) k' = tget d t k' := by
  induction t with
  | nil => rfl
  | cons e t ih =>
    obtain ⟨a, v⟩ := e
    by_cases h : a = k
    · have : a ≠ k' := fun x => hk (x ▸ h)
      simp [tdel, h, ih, tget]
      intro hx; exact absurd (h ▸ hx.symm) (by rw [h]; exact hk)
    · simp [tdel, h, tget, ih]

theorem tget_tins_self (t : Tbl α) (k : Nat) (v : α) : tget d (tins k v t) k = v := by
  induction t with
  | nil => simp [tins, tget]
  | cons e t ih =>
    obtain ⟨a, w⟩ := e
    simp only [tins]
    split
    · simp [tget]
    · split
      · simp [tget]
      · rename_i h1 h2
        have : a ≠ k := fun h => h2 h.symm
        simp [tget, this, ih]

theorem tget_tins_ne (t : Tbl α) (k k' : Nat) (v : α) (hk : k' ≠ k) : tget d (tins k v t) k' = tget d t k' := by
  induction t with
  | nil => simp [tins, tget, Ne.symm hk]
  | cons e t ih =>
    obtain ⟨a, w⟩ := e
    simp only [tins]
    split
    · simp [tget, Ne.symm hk]
    · split
      · rename_i h1 h2
        subst h2
        simp [tget, Ne.symm hk]
      · simp [tget, ih]

/-- A read after a write of the same key. -/
@[simp] theorem tget_tset_self [DecidableEq α] (t : Tbl α) (k : Nat) (v : α) : tget d (tset d t k v) k = v := by
  unfold tset
  split
  · rename_i h; rw [tget_tdel_self, h]
  · exact tget_tins_self d t k v

/-- A write of one key leaves every other as it was. -/
theorem tget_tset_ne [DecidableEq α] (t : Tbl α) (k k' : Nat) (v : α) (hk : k' ≠ k) :
    tget d (tset d t k v) k' = tget d t k' := by
  unfold tset
  split
  · exact tget_tdel_ne d t k k' hk
  · exact tget_tins_ne d t k k' v hk

theorem tdel_mem (t : Tbl α) (k : Nat) (e : Nat × α) (he : e ∈ tdel t k) : e ∈ t := by
  induction t with
  | nil => simp [tdel] at he
  | cons f t ih =>
    obtain ⟨a, w⟩ := f
    by_cases h : a = k
    · simp [tdel, h] at he; exact List.mem_cons_of_mem _ (ih he)
    · simp [tdel, h] at he
      rcases he with he | he
      · rw [he]; exact List.mem_cons_self
      · exact List.mem_cons_of_mem _ (ih he)

theorem tins_head (t : Tbl α) (k : Nat) (v : α) (e : Nat × α) (he : e ∈ (tins k v t).head?) :
    e = (k, v) ∨ e ∈ t.head? := by
  cases t with
  | nil => simp [tins] at he; exact Or.inl he.symm
  | cons f t =>
    obtain ⟨a, w⟩ := f
    simp only [tins] at he
    split at he
    · simp at he; exact Or.inl he.symm
    · split at he
      · simp at he; exact Or.inl he.symm
      · simp at he; right; simp [he]

end Tables

section Canon
variable {α : Type} [DecidableEq α] (d : Nat → α)

/-- The canonical form, entry by entry. -/
theorem tcanon_cons (k : Nat) (v : α) (t : Tbl α) :
    tcanon d ((k, v) :: t) = true ↔ v ≠ d k ∧ (∀ e ∈ t.head?, k < e.1) ∧ tcanon d t = true := by
  cases t with
  | nil => simp [tcanon]
  | cons e t =>
    obtain ⟨k', v'⟩ := e
    simp [tcanon, and_assoc]

theorem tcanon_below (k : Nat) (v : α) (t : Tbl α) (h : tcanon d ((k, v) :: t) = true) : ∀ e ∈ t, k < e.1 := by
  induction t generalizing k v with
  | nil => simp
  | cons e t ih =>
    obtain ⟨k', v'⟩ := e
    have h1 := (tcanon_cons d k v _).1 h
    have hk : k < k' := h1.2.1 (k', v') (by simp)
    intro e he
    rcases List.mem_cons.1 he with h2 | h2
    · rw [h2]; exact hk
    · exact lt_trans hk (ih k' v' h1.2.2 e h2)

theorem tcanon_tdel (t : Tbl α) (k : Nat) (h : tcanon d t = true) : tcanon d (tdel t k) = true := by
  induction t with
  | nil => rfl
  | cons e t ih =>
    obtain ⟨a, v⟩ := e
    have h1 := (tcanon_cons d a v t).1 h
    by_cases hk : a = k
    · simpa [tdel, hk] using ih h1.2.2
    · simp only [tdel, hk, if_false]
      refine (tcanon_cons d a v _).2 ⟨h1.1, ?_, ih h1.2.2⟩
      intro e he
      exact tcanon_below d a v t h e (tdel_mem t k e (List.mem_of_mem_head? he))

theorem tcanon_tins (t : Tbl α) (k : Nat) (v : α) (h : tcanon d t = true) (hv : v ≠ d k) :
    tcanon d (tins k v t) = true := by
  induction t with
  | nil => simpa [tins, tcanon] using hv
  | cons e t ih =>
    obtain ⟨a, w⟩ := e
    have h1 := (tcanon_cons d a w t).1 h
    simp only [tins]
    split
    · rename_i hlt
      exact (tcanon_cons d k v _).2 ⟨hv, by simpa using hlt, h⟩
    · split
      · rename_i heq
        subst heq
        exact (tcanon_cons d k v t).2 ⟨hv, h1.2.1, h1.2.2⟩
      · rename_i h2 h3
        refine (tcanon_cons d a w _).2 ⟨h1.1, ?_, ih h1.2.2⟩
        intro e he
        rcases tins_head t k v e he with h4 | h4
        · rw [h4]; simp only; omega
        · exact h1.2.1 e h4

/-- Every write keeps the canonical form. -/
theorem tcanon_tset (t : Tbl α) (k : Nat) (v : α) (h : tcanon d t = true) : tcanon d (tset d t k v) = true := by
  unfold tset
  split
  · exact tcanon_tdel d t k h
  · rename_i hv; exact tcanon_tins d t k v h hv

/-- A run of bytes written into a buffer keeps the canonical form. -/
theorem tcanon_writeBuf (t : Tbl Byte) (a : Nat) (bs : List Byte) (h : tcanon (fun _ => (0 : Byte)) t = true) :
    tcanon (fun _ => (0 : Byte)) (writeBuf t a bs) = true := by
  induction bs generalizing t a with
  | nil => exact h
  | cons b bs ih => exact ih _ _ (tcanon_tset _ t a b h)

end Canon

section Access
variable (s : State)

@[simp] theorem State.inst_setInst_self (i : Nat) (v : Inst) : (s.setInst i v).inst i = v := by
  simp [State.inst, State.setInst]

theorem State.inst_setInst_ne (i k : Nat) (v : Inst) (h : k ≠ i) : (s.setInst i v).inst k = s.inst k := by
  simp [State.inst, State.setInst, tget_tset_ne _ _ _ _ _ h]

@[simp] theorem State.inst_modInst_self (i : Nat) (f : Inst → Inst) : (s.modInst i f).inst i = f (s.inst i) := by
  simp [State.modInst]

theorem State.inst_modInst_ne (i k : Nat) (f : Inst → Inst) (h : k ≠ i) : (s.modInst i f).inst k = s.inst k := by
  simp [State.modInst, State.inst_setInst_ne s i k _ h]

@[simp] theorem State.inst_modMbx_self (i : Nat) (f : Mbx → Mbx) :
    (s.modMbx i f).inst i = { s.inst i with mbx := f (s.inst i).mbx } := by
  simp [State.modMbx]

@[simp] theorem State.sq_modSq_self (i q : Nat) (f : Sq → Sq) : (s.modSq i q f).sq i q = f (s.sq i q) := by
  simp [State.sq, State.modSq]

@[simp] theorem State.cq_modCq_self (i c : Nat) (f : Cq → Cq) : (s.modCq i c f).cq i c = f (s.cq i c) := by
  simp [State.cq, State.modCq]

@[simp] theorem State.fring_modFring_self (i r : Nat) (f : FrameRing → FrameRing) :
    (s.modFring i r f).fring i r = f (s.fring i r) := by
  simp [State.fring, State.modFring]

@[simp] theorem State.region_modRegion_self (r : Nat) (f : Region → Region) :
    (s.modRegion r f).region r = f (s.region r) := by
  simp [State.region, State.modRegion]

theorem State.region_modRegion_ne (r q : Nat) (f : Region → Region) (h : q ≠ r) :
    (s.modRegion r f).region q = s.region q := by
  simp [State.region, State.modRegion, tget_tset_ne _ _ _ _ _ h]

@[simp] theorem State.region_modSvc_self (r : Nat) (f : Svc → Svc) :
    (s.modSvc r f).region r = { s.region r with svc := f (s.region r).svc } := by
  simp [State.modSvc]

theorem State.region_modSvc_ne (r q : Nat) (f : Svc → Svc) (h : q ≠ r) : (s.modSvc r f).region q = s.region q := by
  simp [State.modSvc, State.region_modRegion_ne s r q _ h]

@[simp] theorem State.pan_modPan_self (r p : Nat) (f : Pan → Pan) : (s.modPan r p f).pan r p = f (s.pan r p) := by
  simp [State.pan, State.modPan, Region.modPan]

theorem State.pan_modPan_ne (r p q : Nat) (f : Pan → Pan) (h : q ≠ p) : (s.modPan r p f).pan r q = s.pan r q := by
  simp [State.pan, State.modPan, Region.modPan, tget_tset_ne _ _ _ _ _ h]

end Access

end Sys2Proof.Machine
end

