-- ==== Sys2Proof/Laws/Path.lean ====
section
/-! SUPPORT. The path of a command: what ending its work leaves as it was, and what becomes of the command. -/

namespace Sys2Proof.Machine

section Regions
variable (s : State)

/-- Every field but the regions is the same. -/
def SameButRegions (s t : State) : Prop := t = { s with regions := t.regions }

theorem SameButRegions.refl : SameButRegions s s := rfl

theorem SameButRegions.trans {s t u : State} (h : SameButRegions s t) (k : SameButRegions t u) : SameButRegions s u := by
  unfold SameButRegions at *
  rw [k, h]

theorem SameButRegions.foldl {β : Type} (f : State → β → State) (h : ∀ s x, SameButRegions s (f s x)) (l : List β) :
    SameButRegions s (l.foldl f s) := by
  induction l generalizing s with
  | nil => exact SameButRegions.refl s
  | cons x l ih => exact (h s x).trans (ih (f s x))

theorem modRegion_same (r : Nat) (f : Region → Region) : SameButRegions s (s.modRegion r f) := rfl

theorem restPans_same : SameButRegions s (restPans s) := by
  refine SameButRegions.foldl s _ (fun s r => SameButRegions.foldl s _ (fun s p => ?_) _) _
  split
  · rfl
  · rfl

theorem takeWarmKind_same (r : Nat) (k : UnitKind) (i want : Nat) : SameButRegions s (takeWarmKind r k i want s) := by
  refine SameButRegions.foldl s _ (fun s n => ?_) _
  dsimp only
  split
  · rfl
  · split <;> rfl

theorem takeWarm_same (r : Nat) : SameButRegions s (takeWarm r s) := by
  unfold takeWarm
  split
  · refine SameButRegions.foldl s _ (fun s w => ?_) _
    split
    · exact (takeWarmKind_same s _ _ _ _).trans (takeWarmKind_same _ _ _ _ _)
    · rfl
  · rfl

theorem dropCryst_same (r : Nat) (p : CrystEntry → Bool) : SameButRegions s (dropCryst r p s) := rfl

theorem settleCryst_same : SameButRegions s (settleCryst s) := by
  unfold settleCryst
  exact SameButRegions.foldl s _ (fun s r => dropCryst_same s r _) _

/-- Every field but the regions, the key records and the cores is the same. -/
def SameButUnits (s t : State) : Prop := t = { s with regions := t.regions, vault := t.vault, cores := t.cores }

theorem SameButRegions.units {s t : State} (h : SameButRegions s t) : SameButUnits s t := by
  unfold SameButRegions at h
  unfold SameButUnits
  rw [h]

theorem SameButUnits.trans {s t u : State} (h : SameButUnits s t) (k : SameButUnits t u) : SameButUnits s u := by
  unfold SameButUnits at *
  rw [k, h]

theorem SameButUnits.foldl {β : Type} (f : State → β → State) (h : ∀ s x, SameButUnits s (f s x)) (l : List β) :
    SameButUnits s (l.foldl f s) := by
  induction l generalizing s with
  | nil => exact (SameButRegions.refl s).units
  | cons x l ih => exact (h s x).trans (ih (f s x))

theorem settleShelf_same : SameButUnits s (settleShelf s) := rfl

/-- Work that leaves units changes the regions and the key records alone (R409, R413, R133, R350). -/
theorem settleUnits_same : SameButUnits s (settleUnits s) := by
  unfold settleUnits
  exact ((((SameButRegions.foldl s _ (fun s r => takeWarm_same s r) _).trans (restPans_same _)).trans (settleCryst_same _)).units).trans
    (settleShelf_same _)

theorem wipeLocal_same (r : Nat) (u : UnitKind × Nat) : SameButUnits s (wipeLocal r u s) := by
  unfold wipeLocal
  split <;> rfl

theorem freeSlots_same (j : Nat) : SameButUnits s (freeSlots j s) := by
  unfold freeSlots
  split
  · rfl
  · exact ((SameButRegions.foldl s _ (fun s x => modRegion_same s _ _) _).units).trans
      (SameButUnits.foldl _ _ (fun s q => SameButUnits.foldl s _ (fun s u => wipeLocal_same s q u) _) _)

theorem countJobOn_same (r : Nat) (k : UnitKind) (n : Nat) : SameButRegions s (countJobOn r k n s) := by
  unfold countJobOn
  split <;> rfl

theorem countJob_same (j : Nat) : SameButRegions s (countJob j s) := by
  unfold countJob
  split
  · rfl
  · split
    · dsimp only
      split
      · exact (countJobOn_same s _ _ _).trans (countJobOn_same _ _ _ _)
      · exact countJobOn_same s _ _ _
    · rfl

@[simp] theorem settleUnits_pending : (settleUnits s).pending = s.pending := by rw [settleUnits_same]
@[simp] theorem settleUnits_tick : (settleUnits s).tick = s.tick := by rw [settleUnits_same]
@[simp] theorem settleUnits_time : (settleUnits s).time = s.time := by rw [settleUnits_same]
@[simp] theorem settleUnits_pkg : (settleUnits s).pkg = s.pkg := by rw [settleUnits_same]
@[simp] theorem settleUnits_power : (settleUnits s).power = s.power := by rw [settleUnits_same]
@[simp] theorem settleUnits_faults : (settleUnits s).faults = s.faults := by rw [settleUnits_same]
@[simp] theorem settleUnits_jrn : (settleUnits s).jrn = s.jrn := by rw [settleUnits_same]
@[simp] theorem settleUnits_btn : (settleUnits s).btn = s.btn := by rw [settleUnits_same]
@[simp] theorem settleUnits_insts : (settleUnits s).insts = s.insts := by rw [settleUnits_same]
@[simp] theorem settleUnits_cmds : (settleUnits s).cmds = s.cmds := by rw [settleUnits_same]
@[simp] theorem settleUnits_nextId : (settleUnits s).nextId = s.nextId := by rw [settleUnits_same]
@[simp] theorem settleUnits_rr : (settleUnits s).rr = s.rr := by rw [settleUnits_same]
@[simp] theorem settleUnits_digWin : (settleUnits s).digWin = s.digWin := by rw [settleUnits_same]
@[simp] theorem settleUnits_frames : (settleUnits s).frames = s.frames := by rw [settleUnits_same]
@[simp] theorem settleUnits_mgmt : (settleUnits s).mgmt = s.mgmt := by rw [settleUnits_same]
@[simp] theorem settleUnits_life : (settleUnits s).life = s.life := by rw [settleUnits_same]
@[simp] theorem settleUnits_tamper : (settleUnits s).tamper = s.tamper := by rw [settleUnits_same]
@[simp] theorem settleUnits_card : (settleUnits s).card = s.card := by rw [settleUnits_same]
@[simp] theorem settleUnits_cust : (settleUnits s).cust = s.cust := by rw [settleUnits_same]
@[simp] theorem settleUnits_free : (settleUnits s).free = s.free := by rw [settleUnits_same]
@[simp] theorem settleUnits_out : (settleUnits s).out = s.out := by rw [settleUnits_same]
@[simp] theorem freeSlots_pending (j : Nat) : (freeSlots j s).pending = s.pending := by rw [freeSlots_same]
@[simp] theorem freeSlots_tick (j : Nat) : (freeSlots j s).tick = s.tick := by rw [freeSlots_same]
@[simp] theorem freeSlots_time (j : Nat) : (freeSlots j s).time = s.time := by rw [freeSlots_same]
@[simp] theorem freeSlots_pkg (j : Nat) : (freeSlots j s).pkg = s.pkg := by rw [freeSlots_same]
@[simp] theorem freeSlots_power (j : Nat) : (freeSlots j s).power = s.power := by rw [freeSlots_same]
@[simp] theorem freeSlots_faults (j : Nat) : (freeSlots j s).faults = s.faults := by rw [freeSlots_same]
@[simp] theorem freeSlots_jrn (j : Nat) : (freeSlots j s).jrn = s.jrn := by rw [freeSlots_same]
@[simp] theorem freeSlots_btn (j : Nat) : (freeSlots j s).btn = s.btn := by rw [freeSlots_same]
@[simp] theorem freeSlots_insts (j : Nat) : (freeSlots j s).insts = s.insts := by rw [freeSlots_same]
@[simp] theorem freeSlots_cmds (j : Nat) : (freeSlots j s).cmds = s.cmds := by rw [freeSlots_same]
@[simp] theorem freeSlots_nextId (j : Nat) : (freeSlots j s).nextId = s.nextId := by rw [freeSlots_same]
@[simp] theorem freeSlots_rr (j : Nat) : (freeSlots j s).rr = s.rr := by rw [freeSlots_same]
@[simp] theorem freeSlots_digWin (j : Nat) : (freeSlots j s).digWin = s.digWin := by rw [freeSlots_same]
@[simp] theorem freeSlots_frames (j : Nat) : (freeSlots j s).frames = s.frames := by rw [freeSlots_same]
@[simp] theorem freeSlots_mgmt (j : Nat) : (freeSlots j s).mgmt = s.mgmt := by rw [freeSlots_same]
@[simp] theorem freeSlots_life (j : Nat) : (freeSlots j s).life = s.life := by rw [freeSlots_same]
@[simp] theorem freeSlots_tamper (j : Nat) : (freeSlots j s).tamper = s.tamper := by rw [freeSlots_same]
@[simp] theorem freeSlots_card (j : Nat) : (freeSlots j s).card = s.card := by rw [freeSlots_same]
@[simp] theorem freeSlots_cust (j : Nat) : (freeSlots j s).cust = s.cust := by rw [freeSlots_same]
@[simp] theorem freeSlots_free (j : Nat) : (freeSlots j s).free = s.free := by rw [freeSlots_same]
@[simp] theorem freeSlots_out (j : Nat) : (freeSlots j s).out = s.out := by rw [freeSlots_same]
@[simp] theorem countJob_pending (j : Nat) : (countJob j s).pending = s.pending := by rw [countJob_same]
@[simp] theorem countJob_tick (j : Nat) : (countJob j s).tick = s.tick := by rw [countJob_same]
@[simp] theorem countJob_time (j : Nat) : (countJob j s).time = s.time := by rw [countJob_same]
@[simp] theorem countJob_pkg (j : Nat) : (countJob j s).pkg = s.pkg := by rw [countJob_same]
@[simp] theorem countJob_power (j : Nat) : (countJob j s).power = s.power := by rw [countJob_same]
@[simp] theorem countJob_faults (j : Nat) : (countJob j s).faults = s.faults := by rw [countJob_same]
@[simp] theorem countJob_jrn (j : Nat) : (countJob j s).jrn = s.jrn := by rw [countJob_same]
@[simp] theorem countJob_btn (j : Nat) : (countJob j s).btn = s.btn := by rw [countJob_same]
@[simp] theorem countJob_insts (j : Nat) : (countJob j s).insts = s.insts := by rw [countJob_same]
@[simp] theorem countJob_cmds (j : Nat) : (countJob j s).cmds = s.cmds := by rw [countJob_same]
@[simp] theorem countJob_nextId (j : Nat) : (countJob j s).nextId = s.nextId := by rw [countJob_same]
@[simp] theorem countJob_rr (j : Nat) : (countJob j s).rr = s.rr := by rw [countJob_same]
@[simp] theorem countJob_vault (j : Nat) : (countJob j s).vault = s.vault := by rw [countJob_same]
@[simp] theorem countJob_digWin (j : Nat) : (countJob j s).digWin = s.digWin := by rw [countJob_same]
@[simp] theorem countJob_frames (j : Nat) : (countJob j s).frames = s.frames := by rw [countJob_same]
@[simp] theorem countJob_mgmt (j : Nat) : (countJob j s).mgmt = s.mgmt := by rw [countJob_same]
@[simp] theorem countJob_life (j : Nat) : (countJob j s).life = s.life := by rw [countJob_same]
@[simp] theorem countJob_tamper (j : Nat) : (countJob j s).tamper = s.tamper := by rw [countJob_same]
@[simp] theorem countJob_card (j : Nat) : (countJob j s).card = s.card := by rw [countJob_same]
@[simp] theorem countJob_cust (j : Nat) : (countJob j s).cust = s.cust := by rw [countJob_same]
@[simp] theorem countJob_cores (j : Nat) : (countJob j s).cores = s.cores := by rw [countJob_same]
@[simp] theorem countJob_free (j : Nat) : (countJob j s).free = s.free := by rw [countJob_same]
@[simp] theorem countJob_out (j : Nat) : (countJob j s).out = s.out := by rw [countJob_same]

end Regions

section Commands
variable {s : State} {j : Nat} {c : Cmd}

theorem find_map_id (l : List Cmd) (f : Cmd → Cmd) (hf : ∀ c, (f c).job.id = c.job.id)
    (h : l.find? (fun c => c.job.id == j) = some c) :
    (l.map fun c => if c.job.id == j then f c else c).find? (fun c => c.job.id == j) = some (f c) := by
  induction l with
  | nil => simp at h
  | cons d l ih =>
    by_cases hd : d.job.id = j
    · simp [hd] at h
      rw [List.map_cons, List.find?_cons]
      have hcj : c.job.id = j := h ▸ hd
      simp [h, hf, hcj]
    · have hd' : (d.job.id == j) = false := by simp [hd]
      rw [List.find?_cons, hd'] at h
      rw [List.map_cons, List.find?_cons]
      simp only [hd', Bool.false_eq_true, if_false]
      exact ih h

/-- The command named after its progress changes. -/
theorem cmd_modProg (f : Prog → Prog) (h : s.cmd? j = some c) :
    (s.modProg j f).cmd? j = some { c with prog := f c.prog } :=
  find_map_id s.cmds (fun c => { c with prog := f c.prog }) (fun _ => rfl) h

/-- The command named, where the commands are the same. -/
theorem cmd_congr {t : State} (h : t.cmds = s.cmds) (k : Nat) : t.cmd? k = s.cmd? k := by
  unfold State.cmd?; rw [h]

/-- The end of a command's work: it holds nothing and carries its result (R69, R83). -/
theorem cmd_finish (r : Res) (h : s.cmd? j = some c) :
    (finish j r s).cmd? j = some { c with prog :=
      { c.prog with phase := .returned, unit := none, wait := none, slots := [], pond := 0, check := none, pair := {}, granted := 0,
                    res := some r } } := by
  unfold finish
  rw [cmd_congr (settleUnits_cmds _)]
  exact cmd_modProg _ (by rw [cmd_congr (freeSlots_cmds s j)]; exact h)

/-- Every other command is as it was. -/
theorem find_map_other (l : List Cmd) (f : Cmd → Cmd) (hf : ∀ c, (f c).job.id = c.job.id) (k : Nat) (hk : k ≠ j) :
    (l.map fun c => if c.job.id == j then f c else c).find? (fun c => c.job.id == k) =
      l.find? (fun c => c.job.id == k) := by
  induction l with
  | nil => rfl
  | cons d l ih =>
    rw [List.map_cons, List.find?_cons, List.find?_cons, ih]
    by_cases hd : d.job.id = j
    · have h2 : (j == k) = false := by simp [Ne.symm hk]
      simp [hd, hf, h2]
    · simp [hd]

theorem cmd_modProg_other (f : Prog → Prog) (k : Nat) (hk : k ≠ j) : (s.modProg j f).cmd? k = s.cmd? k :=
  find_map_other s.cmds (fun c => { c with prog := f c.prog }) (fun _ => rfl) k hk

theorem cmd_finish_other (r : Res) (k : Nat) (hk : k ≠ j) : (finish j r s).cmd? k = s.cmd? k := by
  unfold finish
  rw [cmd_congr (settleUnits_cmds _), cmd_modProg_other _ k hk, cmd_congr (freeSlots_cmds s j)]

@[simp] theorem finish_insts (r : Res) : (finish j r s).insts = s.insts := by simp [finish]

/-- A command at work that nothing holds and no kept REQ_ID answers runs its verb. -/
theorem runVerb_of_body {op : Nat} {body : Cmd → State → State × Option Res} {s1 : State} {r : Res}
    (hc : s.cmd? j = some c) (ho : c.job.opcode = op) (hw : c.atWork = true) (hh : s.held c = false)
    (hr : s.repeated c.job = false) (hb : body c (drawEnergy s).2 = (s1, some r)) :
    runVerb op j body s = finish j r (countJob j (s1.modProg j (Prog.endEnergy r.nj (drawEnergy s).1))) := by
  unfold runVerb
  simp [hc, ho, hw, hh, hr]
  rw [show body c (drawEnergy s).2 = (s1, some r) from hb]

/-- A verb whose body waits or hands its result on leaves the state of its body. -/
theorem runVerb_of_wait {op : Nat} {body : Cmd → State → State × Option Res} {s1 : State}
    (hc : s.cmd? j = some c) (ho : c.job.opcode = op) (hw : c.atWork = true) (hh : s.held c = false)
    (hr : s.repeated c.job = false) (hb : body c (drawEnergy s).2 = (s1, none)) : runVerb op j body s = s1 := by
  unfold runVerb
  simp [hc, ho, hw, hh, hr]
  rw [show body c (drawEnergy s).2 = (s1, none) from hb]

end Commands

end Sys2Proof.Machine
end

