-- ==== Sys2Proof/Laws/Faults.lean ====
section
/-! SUPPORT. Raising a NOTE: what it changes, and that it changes nothing else. -/

namespace Sys2Proof.Machine

section Notes
variable (s : State)

/-- Every field but the fault aggregator is the same. -/
def SameButFaults (s t : State) : Prop := t = { s with faults := t.faults }

/-- An event of the host interface counted under NOTE touches the fault aggregator alone (R427, R541). -/
theorem raiseNote_host_same (c : FCause) : SameButFaults s (raiseNote { on := hostUnit, cause := c } s) := by
  unfold raiseNote record
  dsimp only
  split
  · simp [putRecord, announceFault, Raise.toRec, hostUnit, FClass.serious, FClass.code, SameButFaults, State.modFaults]
  · simp [FClass.acked, FClass.serious, FClass.code, SameButFaults, State.modFaults]

theorem noteBadAccess_same : SameButFaults s (noteBadAccess s) := raiseNote_host_same s .badAccess

theorem noteHostMemory_same : SameButFaults s (noteHostMemory s) := raiseNote_host_same s .hostMemory

@[simp] theorem noteBadAccess_insts : (noteBadAccess s).insts = s.insts := by rw [noteBadAccess_same]
@[simp] theorem noteBadAccess_pkg : (noteBadAccess s).pkg = s.pkg := by rw [noteBadAccess_same]
@[simp] theorem noteBadAccess_cmds : (noteBadAccess s).cmds = s.cmds := by rw [noteBadAccess_same]
@[simp] theorem noteBadAccess_regions : (noteBadAccess s).regions = s.regions := by rw [noteBadAccess_same]
@[simp] theorem noteBadAccess_pending : (noteBadAccess s).pending = s.pending := by rw [noteBadAccess_same]
@[simp] theorem noteBadAccess_tick : (noteBadAccess s).tick = s.tick := by rw [noteBadAccess_same]
@[simp] theorem noteBadAccess_out : (noteBadAccess s).out = s.out := by rw [noteBadAccess_same]
@[simp] theorem noteHostMemory_insts : (noteHostMemory s).insts = s.insts := by rw [noteHostMemory_same]
@[simp] theorem noteHostMemory_pkg : (noteHostMemory s).pkg = s.pkg := by rw [noteHostMemory_same]
@[simp] theorem noteHostMemory_cmds : (noteHostMemory s).cmds = s.cmds := by rw [noteHostMemory_same]
@[simp] theorem noteHostMemory_pending : (noteHostMemory s).pending = s.pending := by rw [noteHostMemory_same]
@[simp] theorem noteHostMemory_out : (noteHostMemory s).out = s.out := by rw [noteHostMemory_same]

@[simp] theorem noteBadAccess_inst (i : Nat) : (noteBadAccess s).inst i = s.inst i := by simp [State.inst]
@[simp] theorem noteHostMemory_inst (i : Nat) : (noteHostMemory s).inst i = s.inst i := by simp [State.inst]

theorem find_slot {t : Tbl FaultRec} (l : List Nat) {n : Nat} (h : l.find? (fun n => (tfind t n).isNone) = some n) :
    (tfind t n).isNone := by
  simpa using List.find?_some h

/-- While the ring has room, a NOTE is counted and recorded under the next FSEQ (R427, R430, R437). -/
theorem raiseNote_counts (x : Raise) (hx : x.on.region = none) (n : Nat) (h : s.faults.slotFor = some n) :
    (raiseNote x s).faults = { s.faults.count .note with
      ring := tins n (x.toRec .note s) s.faults.ring, head := s.faults.head + 1, headSlot := n } := by
  unfold raiseNote record
  simp only [h]
  simp [putRecord, announceFault, Raise.toRec, hx, FClass.serious, FClass.code, FClass.acked, State.modFaults, Faults.count]

/-- An access that is not gated is carried out (R91, R110). -/
theorem gated_open (i : Nat) (t : State) (h1 : s.reachable i = true) (h2 : s.ideBlocked i = false) : s.gated i t = t := by
  simp [State.gated, h1, h2]

/-- An access outside the stream that IDE_REQUIRED asks for is dropped and counted (R110). -/
theorem gated_blocked (i : Nat) (t : State) (h1 : s.reachable i = true) (h2 : s.ideBlocked i = true) :
    s.gated i t = noteBadAccess s := by
  simp [State.gated, h1, h2]

end Notes

end Sys2Proof.Machine
end

