-- ==== Sys2Proof/Laws/Resets.lean ====
section
/-! SUPPORT. Generation changes: which operations leave generations, resets and configurations of instances as they are, and what
the start of a reset does. -/

namespace Sys2Proof.Machine

/-- A fold of operations that keep a field keeps it. -/
theorem foldl_keeps {β γ : Type} (g : State → γ) (f : State → β → State) (h : ∀ s x, g (f s x) = g s) (l : List β) (s : State) :
    g (l.foldl f s) = g s := by
  induction l generalizing s with
  | nil => rfl
  | cons x l ih => rw [List.foldl_cons, ih, h]

section Entries
variable (s : State)

@[simp] theorem takeJseq_insts : (takeJseq s).2.insts = s.insts := by
  simp only [takeJseq, reserveIfDue]; split <;> rfl

@[simp] theorem askPage_insts (i addr n : Nat) : (askPage i addr n s).insts = s.insts := by
  unfold askPage; split <;> rfl

@[simp] theorem hostWrite_insts (i addr : Nat) (b : List Byte) (x : Bool) : (hostWrite i addr b x s).insts = s.insts := by
  unfold hostWrite
  split
  · rfl
  · exact askPage_insts s i addr b.length

@[simp] theorem mirrorEntry_insts (p : Nat) (e : JEntry) : (mirrorEntry p e s).insts = s.insts := by
  unfold mirrorEntry; split <;> simp

@[simp] theorem appendEntry_insts (e : JEntry) : (appendEntry e s).insts = s.insts := by simp [appendEntry]

@[simp] theorem closeCommand_insts (c : Cmd) (st : Status) (b : List Byte) : (closeCommand c st b s).insts = s.insts := by
  simp [closeCommand]

@[simp] theorem enterCommit_insts (c : Cmd) : (enterCommit c s).insts = s.insts := rfl

@[simp] theorem enterWaiting_insts : (enterWaiting s).insts = s.insts := by
  unfold enterWaiting
  refine foldl_keeps (·.insts) _ (fun s c => ?_) _ _
  split <;> simp

@[simp] theorem writeBatch_insts (b : Batch) (z : Bool) : (writeBatch b z s).insts = s.insts := by
  simp [writeBatch]

@[simp] theorem closeBatches_insts (p : Batch → Bool) : (closeBatches p s).insts = s.insts := by
  unfold closeBatches
  rw [foldl_keeps (·.insts) _ (fun s b => writeBatch_insts s b false)]
  rfl

@[simp] theorem wipeCore_insts (c : CoreId) : (wipeCore c s).insts = s.insts := rfl

@[simp] theorem abortWork_insts (j : Nat) : (abortWork j s).insts = s.insts := by
  unfold abortWork
  simp only [dropRun]
  rw [foldl_keeps (·.insts) _ (fun s k => wipeCore_insts s k)]
  simp

end Entries

/-! ### Generations -/

/-- Generations, resets and configurations of instances are the same. -/
def GenKept (s t : State) : Prop := ∀ k, (t.inst k).gen = (s.inst k).gen ∧ (t.inst k).resetting = (s.inst k).resetting ∧
  (t.inst k).wrapDrain = (s.inst k).wrapDrain ∧ (t.inst k).cfg = (s.inst k).cfg

section Kept
variable {s t u : State}

theorem GenKept.of_insts (h : t.insts = s.insts) : GenKept s t := fun k => by simp [State.inst, h]

theorem GenKept.trans (h : GenKept s t) (h' : GenKept t u) : GenKept s u := fun k => by
  obtain ⟨a, b, c, d⟩ := h k
  obtain ⟨a', b', c', d'⟩ := h' k
  exact ⟨a'.trans a, b'.trans b, c'.trans c, d'.trans d⟩

theorem GenKept.modInst (i : Nat) (f : Inst → Inst) (hf : ∀ n, (f n).gen = n.gen ∧ (f n).resetting = n.resetting ∧
    (f n).wrapDrain = n.wrapDrain ∧ (f n).cfg = n.cfg) : GenKept s (s.modInst i f) := fun k => by
  by_cases h : k = i
  · subst h; simpa using hf (s.inst k)
  · rw [State.inst_modInst_ne s i k f h]; exact ⟨rfl, rfl, rfl, rfl⟩

theorem GenKept.foldl {β : Type} (f : State → β → State) (h : ∀ s x, GenKept s (f s x)) (l : List β) (s : State) :
    GenKept s (l.foldl f s) := by
  induction l generalizing s with
  | nil => exact GenKept.of_insts rfl
  | cons x l ih => exact (h s x).trans (ih (f s x))

/-- A wrap drain ends only once every region has reported (R105). -/
def MayDrain (i : Nat) (s : State) : Prop := (s.inst i).wrapDrain = true ∧ (s.inst i).awaited = []

theorem drainIfDone_kept (i : Nat) (h : ¬ MayDrain i s) : drainIfDone i s = s := by
  unfold drainIfDone
  rw [if_neg]
  intro hc
  simp only [Bool.and_eq_true, List.isEmpty_iff] at hc
  exact h ⟨hc.1.1, hc.1.2⟩

theorem closeGone_kept (st : Status) (c : Cmd) (h : ¬ MayDrain c.job.inst s) : GenKept s (closeGone st c s) := by
  unfold closeGone
  dsimp only
  have hi : (enterWaiting ((if c.job.jseq = 0 ∨ s.pkg.halted = true ∨ c.job.mbx = true ∧ ¬(c.job.has fun x => x.sc) = true then
        addEnergy c.job.inst (min max32 c.prog.energy) s
      else closeCommand c st [] (addEnergy c.job.inst (min max32 c.prog.energy) s)).dropCmd c.job.id)).insts =
      (addEnergy c.job.inst (min max32 c.prog.energy) s).insts := by
    rw [enterWaiting_insts]
    split <;> simp [State.dropCmd]
  have hd : ¬ MayDrain c.job.inst (addEnergy c.job.inst (min max32 c.prog.energy) s) := by
    simpa [MayDrain, addEnergy] using h
  rw [drainIfDone_kept]
  · refine (GenKept.modInst c.job.inst (fun n => { n with energy := satAdd max64 n.energy (min max32 c.prog.energy) })
      fun n => ⟨rfl, rfl, rfl, rfl⟩).trans (GenKept.of_insts (hi.trans ?_))
    rfl
  · intro hm
    refine hd ?_
    unfold MayDrain State.inst at hm ⊢
    rw [hi] at hm
    exact hm

theorem abandonRequest_kept (i : Nat) (h : ∀ k, ¬ MayDrain k s) : GenKept s (abandonRequest i s) := by
  unfold abandonRequest
  dsimp only
  refine GenKept.trans ?_ (GenKept.modInst i _ fun n => ⟨rfl, rfl, rfl, rfl⟩)
  split
  · exact GenKept.of_insts rfl
  · rename_i c _
    refine (GenKept.of_insts (abortWork_insts s c.job.id)).trans ((closeGone_kept .instanceReset c ?_).trans (GenKept.of_insts ?_))
    · unfold MayDrain State.inst
      rw [abortWork_insts]
      exact h _
    · split <;> simp

end Kept

end Sys2Proof.Machine
end

