-- ==== Sys2Proof/Laws/Shares.lean ====
section
/-! SUPPORT. Shares (R116): sharing, refreshing, expanding and combining keep the value that the shares combine to. -/

namespace Sys2Proof.Machine

theorem xorBytes_comm (a b : List Byte) : xorBytes a b = xorBytes b a := by
  unfold xorBytes
  induction a generalizing b with
  | nil => cases b <;> rfl
  | cons x a ih => cases b with
    | nil => rfl
    | cons y b => simp only [List.zipWith_cons_cons, ih, BitVec.xor_comm]

theorem xorBytes_assoc (a b c : List Byte) : xorBytes (xorBytes a b) c = xorBytes a (xorBytes b c) := by
  unfold xorBytes
  induction a generalizing b c with
  | nil => simp
  | cons x a ih => cases b with
    | nil => simp
    | cons y b => cases c with
      | nil => simp
      | cons z c => simp only [List.zipWith_cons_cons, ih, BitVec.xor_assoc]

/-- A mask that is applied twice is gone. -/
theorem xorBytes_cancel (m a : List Byte) (h : a.length ≤ m.length) : xorBytes m (xorBytes m a) = a := by
  unfold xorBytes
  induction a generalizing m with
  | nil => simp
  | cons x a ih => cases m with
    | nil => simp at h
    | cons y m =>
      simp only [List.zipWith_cons_cons, ih m (by simpa using h)]
      rw [← BitVec.xor_assoc, BitVec.xor_self, BitVec.zero_xor]

@[simp] theorem xorBytes_length (a b : List Byte) : (xorBytes a b).length = min a.length b.length := by simp [xorBytes]

theorem combine_cons (a : List Byte) (t : List (List Byte)) (h : t ≠ []) : combine (a :: t) = xorBytes a (combine t) := by
  cases t with
  | nil => exact absurd rfl h
  | cons b t => rfl

theorem share_ne_nil (ms : List (List Byte)) (x : List Byte) : share ms x ≠ [] := by
  cases ms <;> simp [share]

/-- The shares of a value combine to it. -/
theorem combine_share (ms : List (List Byte)) (x : List Byte) (h : ∀ m ∈ ms, m.length = x.length) : combine (share ms x) = x := by
  induction ms generalizing x with
  | nil => rfl
  | cons m ms ih =>
    have hm := h m (by simp)
    have hx : (xorBytes m x).length = x.length := by simp [hm]
    rw [share, combine_cons _ _ (share_ne_nil ms _), ih _ (fun m' h' => by rw [hx]; exact h m' (by simp [h'])),
      xorBytes_cancel m x (by omega)]

@[simp] theorem refresh_length (ms l : List (List Byte)) : (refresh ms l).length = l.length := by
  induction ms generalizing l with
  | nil => cases l <;> rfl
  | cons m ms ih => match l with
    | [] => rfl
    | [_] => rfl
    | a :: b :: t => simp [refresh, ih]

/-- Taking a mask into the first share and into the next keeps the value. -/
theorem combine_masked (m b : List Byte) (t : List (List Byte)) :
    combine (xorBytes m b :: t) = xorBytes m (combine (b :: t)) := by
  cases t with
  | nil => rfl
  | cons c t => exact xorBytes_assoc m b (combine (c :: t))

/-- Refreshed shares combine to the same value. -/
theorem combine_refresh (ms l : List (List Byte)) (n : Nat) (hm : ∀ m ∈ ms, m.length = n) (hl : (combine l).length ≤ n) :
    combine (refresh ms l) = combine l := by
  induction ms generalizing l with
  | nil => cases l <;> rfl
  | cons m ms ih => match l with
    | [] => rfl
    | [_] => rfl
    | a :: b :: t =>
      have hn := hm m (by simp)
      have hc := combine_masked m b t
      have hne : refresh ms (xorBytes m b :: t) ≠ [] := by
        intro h
        have := congrArg List.length h
        simp at this
      rw [refresh, combine_cons _ _ hne, ih (xorBytes m b :: t) (fun m' h' => hm m' (by simp [h'])) (by rw [hc]; simp; omega), hc,
        combine_cons a (b :: t) (by simp), xorBytes_assoc, ← xorBytes_assoc a, xorBytes_comm a m, xorBytes_assoc m a,
        xorBytes_cancel]
      rw [combine_cons a (b :: t) (by simp)] at hl
      omega

/-- One more share for each mask: the same value. -/
theorem combine_expand (ms l : List (List Byte)) (n : Nat) (hm : ∀ m ∈ ms, m.length = n) (hl : (combine l).length ≤ n) :
    combine (expandShares ms l) = combine l := by
  induction ms generalizing l with
  | nil => rfl
  | cons m ms ih =>
    have hn := hm m (by simp)
    unfold expandShares
    rw [List.foldl_cons]
    match l with
    | [] => exact ih [] (fun m' h' => hm m' (by simp [h'])) hl
    | a :: t =>
      have hs : combine (m :: xorBytes m a :: t) = combine (a :: t) := by
        rw [combine_cons _ _ (by simp), combine_masked m a t, xorBytes_cancel]
        omega
      exact (ih _ (fun m' h' => hm m' (by simp [h'])) (by rw [hs]; exact hl)).trans hs

/-- Shares that go into their neighbours: the same value. -/
theorem combine_merge (k : Nat) (l : List (List Byte)) : combine (mergeShares k l) = combine l := by
  induction k generalizing l with
  | zero => rfl
  | succ k ih => match l with
    | [] => rfl
    | [_] => rfl
    | a :: b :: t =>
      rw [mergeShares, ih, combine_masked a b t, combine_cons a (b :: t) (by simp)]

/-- The shares of a cell combine to what those of the shelf do. -/
theorem combine_toShares (n k : Nat) (ms l : List (List Byte)) (hm : ∀ m ∈ ms, m.length = k) (hl : (combine l).length ≤ k) :
    combine (toShares n ms l) = combine l := by
  have h := combine_refresh ms l k hm hl
  unfold toShares
  dsimp only
  split
  · rw [combine_expand _ _ k (fun m h' => hm m (List.mem_of_mem_drop (List.mem_of_mem_take h'))) (by rw [h]; exact hl), h]
  · rw [combine_merge, h]

theorem fit_length (n : Nat) (b : List Byte) : (fit n b).length = n := by simp [fit, zeros]

theorem drawMasks_length (n len : Nat) (s : State) : ∀ m ∈ (drawMasks n len s).1, m.length = len := by
  intro m hm
  obtain ⟨i, _, rfl⟩ := List.mem_map.mp hm
  exact fit_length _ _

/-- A key in its cell is the key of the shelf (R116): only the shares differ. -/
@[simp] theorem toCell_secret (e : ShelfKey) (order : Nat) (s : State) : (e.toCell order s).1.secret = e.secret := by
  unfold ShelfKey.secret ShelfKey.toCell
  dsimp only
  rw [combine_toShares _ (combine e.lattice).length _ _ (drawMasks_length _ _ _) (Nat.le_refl _),
    combine_refresh _ _ (combine e.other).length (drawMasks_length _ _ _) (Nat.le_refl _)]

@[simp] theorem toCell_pub (e : ShelfKey) (order : Nat) (s : State) : (e.toCell order s).1.pub = e.pub := rfl

/-- A key in its cell takes masks alone, which are free bytes. -/
theorem toCell_state (e : ShelfKey) (order : Nat) (s : State) : (e.toCell order s).2 = { s with free := (e.toCell order s).2.free } := rfl

end Sys2Proof.Machine
end

