-- ==== Sys2Proof/Laws/Verbs.lean ====
section
/-! SUPPORT. The steps that verbs share: counting a key's use, the key on its shelf, random bytes, and the end of the work. -/

namespace Sys2Proof.Machine

open Sys2Proof.Safety

section Steps
variable {s : State} {c : Cmd}

/-- The command keeps its place and its job. -/
def Keeps (c : Cmd) (s : State) : Prop := ∃ d, s.cmd? c.job.id = some d ∧ d.job = c.job

theorem Keeps.of_cmds {t : State} (h : t.cmds = s.cmds) (k : Keeps c s) : Keeps c t := by
  obtain ⟨d, hd, hj⟩ := k
  exact ⟨d, by rw [cmd_congr h]; exact hd, hj⟩

theorem Keeps.modProg {f : Prog → Prog} (j : Nat) (hj : j = c.job.id) (k : Keeps c s) : Keeps c (s.modProg j f) := by
  subst hj
  obtain ⟨d, hd, hj⟩ := k
  exact ⟨_, cmd_modProg f hd, hj⟩

theorem orBad_passes {l : List (Option Status)} (h : Passes l) (k : State → State × Option Res) : orBad l s k = k s := by
  unfold orBad
  rw [show firstBad l = none from h]

theorem find_map_key (l : List KeyRec) (h : U32) (f : KeyRec → KeyRec) (p : KeyRec → Bool) (hp : ∀ k, p (f k) = p k) :
    (l.map fun k => if k.handle = h then f k else k).find? p =
      (l.find? p).map fun k => if k.handle = h then f k else k := by
  induction l with
  | nil => rfl
  | cons k l ih =>
    rw [List.map_cons, List.find?_cons, List.find?_cons, ih]
    by_cases hk : k.handle = h
    · simp only [hk, if_true, hp]
      cases p k <;> simp [hk]
    · simp only [hk, if_false]
      cases p k <;> simp [hk]

/-- The record a handle names after a change that keeps what finds it. -/
theorem key_modKey (h x : U32) (f : KeyRec → KeyRec) (hf : ∀ k, (f k).inst = k.inst ∧ (f k).idx = k.idx ∧ (f k).cls = k.cls ∧ (f k).dead = k.dead) :
    (s.modKey h f).key? x = (s.key? x).map fun k => if k.handle = h then f k else k := by
  unfold State.key? State.modKey
  exact find_map_key _ _ _ _ fun k => by simp [KeyRec.named, (hf k).1, (hf k).2.1, (hf k).2.2.1, (hf k).2.2.2]

/-- The record a command works with after a change that keeps what finds it. -/
theorem jobKey_modKey (h : U32) (j : Job) (f : KeyRec → KeyRec) (hf : ∀ k, (f k).inst = k.inst ∧ (f k).idx = k.idx ∧ (f k).cls = k.cls ∧
    (f k).dead = k.dead ∧ (f k).keep = k.keep) :
    jobKey (s.modKey h f) j = (jobKey s j).map fun k => if k.handle = h then f k else k := by
  unfold jobKey State.keyOf State.modKey
  split
  · rfl
  · exact find_map_key _ _ _ _ fun k => by
      obtain ⟨h1, h2, h3, h4, h5⟩ := hf k
      simp [KeyRec.named, h1, h2, h3, h4, h5]

/-- Counting a use goes on, and leaves everything but the counter and the mark of the command (R544). -/
theorem countThen_usable {n lim : Nat} (h : KeyUsable c n lim s) (hc : Keeps c s) :
    ∃ s1, (∀ k, countThen c n lim s k = k s1) ∧ Keeps c s1 ∧ s1.regions = s.regions ∧ s1.insts = s.insts ∧ s1.pkg = s.pkg ∧
      s1.tick = s.tick ∧ s1.time = s.time ∧
      (∀ sk pub, KeyHere c sk pub s → KeyHere c sk pub s1) ∧ (∀ m, RandomHere c m s → RandomHere c m s1) := by
  unfold KeyUsable at h
  cases hk : jobKey s c.job with
  | none =>
    refine ⟨s, fun k => ?_, hc, rfl, rfl, rfl, rfl, rfl, fun _ _ h => h, fun _ h => h⟩
    simp [countThen, useKey, hk]
  | some k =>
    rw [hk] at h
    obtain ⟨h1, h2⟩ := h
    by_cases hz : lim = 0 ∨ c.prog.counted = true
    · refine ⟨s, fun f => ?_, hc, rfl, rfl, rfl, rfl, rfl, fun _ _ h => h, fun _ h => h⟩
      simp [countThen, useKey, hk, countUse, hz, h2]
    · have h3 : k.spent = false ∧ k.usage + n ≤ lim ∧ k.usage ≠ lim := by
        rcases h1 with h1 | h1 | h1
        · exact absurd (Or.inl h1) hz
        · exact absurd (Or.inr h1) hz
        · exact h1
      have h4 : ¬ (lim < k.usage + n ∨ k.usage = lim) := by omega
      refine ⟨(s.modKey k.handle fun k => { k with usage := k.usage + n }).modProg c.job.id fun p => { p with counted := true },
        fun f => ?_, Keeps.modProg _ rfl (Keeps.of_cmds rfl hc), rfl, rfl, rfl, rfl, rfl, ?_, ?_⟩
      · simp [countThen, useKey, hk, countUse, hz, h3.1, h4, h2]
      · intro sk pub hh
        have hq : jobKey ((s.modKey k.handle fun k => { k with usage := k.usage + n }).modProg c.job.id
            fun p => { p with counted := true }) c.job = (jobKey s c.job).map fun x =>
              if x.handle = k.handle then { x with usage := x.usage + n } else x :=
          jobKey_modKey k.handle c.job (fun k => { k with usage := k.usage + n }) fun k => ⟨rfl, rfl, rfl, rfl, rfl⟩
        rcases hh with ⟨h0, _⟩ | ⟨k', e, h5, h6, h7⟩
        · rw [hk] at h0; exact absurd h0 (by simp)
        · rw [hk] at h5
          obtain rfl : k = k' := Option.some.inj h5
          exact Or.inr ⟨{ k with usage := k.usage + n }, e, by rw [hq, hk]; simp, h6, h7⟩
      · intro m hm
        rcases hm with hm | ⟨hm, hr⟩
        · exact Or.inl hm
        · refine Or.inr ⟨?_, hr⟩
          rw [← hm]
          simp only [State.modProg, State.modCmd, State.modKey, List.any_map]
          congr 1
          funext d
          simp only [Function.comp]
          split <;> rfl

/-- Who waits for a mask-stream seed of a region is read from its pans alone (R319). -/
theorem seedWaiters_congr {t : State} {r : Nat} (h : (t.region r).pans = (s.region r).pans) :
    seedWaiters t r = seedWaiters s r := by
  simp only [seedWaiters, State.pan, h]

/-- The lattice part of the regions may differ, and nothing else. -/
def SameButLat (s t : State) : Prop := SameButRegions s t ∧ ∀ q, t.region q = { s.region q with lat := (t.region q).lat }

theorem SameButLat.refl (s : State) : SameButLat s s := ⟨SameButRegions.refl s, fun _ => rfl⟩

theorem SameButLat.trans {s t u : State} (h : SameButLat s t) (k : SameButLat t u) : SameButLat s u :=
  ⟨h.1.trans k.1, fun q => by rw [k.2 q, h.2 q]⟩

theorem modLat_same (s : State) (r : Nat) (f : Region → Lat) : SameButLat s (s.modRegion r fun g => { g with lat := f g }) := by
  refine ⟨modRegion_same s r _, fun q => ?_⟩
  by_cases h : q = r
  · subst h; simp
  · rw [State.region_modRegion_ne s r q _ h]

theorem evictCryst_same (all : Bool) (r i n quota : Nat) (may : CrystEntry → Bool) (m : Nat) (s : State) :
    SameButLat s (evictCryst all r i n quota may m s) := by
  induction m generalizing s with
  | zero => exact SameButLat.refl s
  | succ m ih =>
    unfold evictCryst
    split
    · exact SameButLat.refl s
    · split
      · exact SameButLat.refl s
      · exact ((modLat_same s r _).trans (modLat_same _ r _)).trans (ih _)

/-- Entering an entry changes the crystallizers alone (R130). -/
theorem fillCryst_same (r : Nat) (f : CrystEntry) (s : State) : SameButLat s (fillCryst r f s) := by
  unfold fillCryst
  dsimp only
  split
  · exact SameButLat.refl s
  · split
    · exact (evictCryst_same _ _ _ _ _ _ _ s).trans (modLat_same _ r _)
    · exact evictCryst_same _ _ _ _ _ _ _ s

/-- The first use of a pinned key in its region changes the crystallizers and the key's record alone (R131). -/
theorem repin_same (r : Nat) (k : KeyRec) (s : State) :
    ∃ h, SameButLat { s with vault := { s.vault with handles := h } } (repin r k s) := by
  unfold repin
  split
  · exact ⟨s.vault.handles, SameButLat.refl s⟩
  · refine ⟨(s.modKey k.handle fun x => { x with pinAt := r }).vault.handles, ?_⟩
    dsimp only
    split
    · exact modLat_same _ r _
    · exact fillCryst_same r _ _

/-- A job finds its key on the shelf (R116, R344, R345). -/
theorem withKey_here {sk pub : List Byte} (h : KeyHere c sk pub s) (hc : Keeps c s) :
    ∃ s1, (∀ k, withKey c s k = k sk pub s1) ∧ Keeps c s1 ∧ s1.insts = s.insts ∧ s1.pkg = s.pkg ∧
      (∃ h, s1.vault = { s.vault with handles := h }) ∧ s1.tick = s.tick ∧ s1.time = s.time ∧
      (∀ m, RandomHere c m s → RandomHere c m s1) := by
  rcases h with ⟨hk, h1, h2⟩ | ⟨k, e, hk, he, h1, h2⟩
  · exact ⟨s, fun k => by simp [withKey, hk, h1, h2], hc, rfl, rfl, ⟨_, rfl⟩, rfl, rfl, fun _ h => h⟩
  · obtain ⟨l, hs, hr⟩ := repin_same (s.shelfRegion c k) k s
    have hn : ∃ s1, needKey c k s = (.here e, s1) ∧ Keeps c s1 ∧ s1.insts = s.insts ∧ s1.pkg = s.pkg ∧
        s1.vault = { s.vault with handles := l } ∧ s1.tick = s.tick ∧ s1.time = s.time ∧
        (∀ m, RandomHere c m s → RandomHere c m s1) := by
      unfold SameButRegions at hs
      refine ⟨(needKey c k s).2, ?_⟩
      simp only [needKey, he]
      refine ⟨trivial, Keeps.modProg _ rfl (Keeps.of_cmds ?_ hc), ?_, ?_, ?_, ?_, ?_, fun m hm => ?_⟩
      · rw [State.modRegion_cmds, hs]
      · simp only [State.modProg_insts, State.modRegion_insts]; rw [hs]
      · simp only [State.modProg_pkg, State.modRegion_pkg]; rw [hs]
      · simp only [State.modProg_vault, State.modRegion_vault]; rw [hs]
      · simp only [State.modProg_tick, State.modRegion_tick]; rw [hs]
      · simp only [State.modProg_time, State.modRegion_time]; rw [hs]
      · rcases hm with hm | ⟨hm, hw, hv⟩
        · exact Or.inl hm
        · have hcm : (repin (s.shelfRegion c k) k s).cmds = s.cmds := by rw [hs]
          have hreg : ∀ (t : State) (j : Nat) (f : Prog → Prog) (r : Nat), (t.modProg j f).region r = t.region r := fun _ _ _ _ => rfl
          have hsr : ∀ f : Region → Region, (∀ g, (f g).rng = g.rng ∧ (f g).pans = g.pans) → ∀ q,
              (((repin (s.shelfRegion c k) k s).modRegion (s.shelfRegion c k) f).region q).rng = (s.region q).rng ∧
              (((repin (s.shelfRegion c k) k s).modRegion (s.shelfRegion c k) f).region q).pans = (s.region q).pans := by
            intro f hf q
            by_cases hq : q = s.shelfRegion c k
            · subst hq
              rw [State.region_modRegion_self, (hf _).1, (hf _).2, hr]
              exact ⟨rfl, rfl⟩
            · rw [State.region_modRegion_ne _ _ _ _ hq, hr]
              exact ⟨rfl, rfl⟩
          refine Or.inr ⟨?_, ?_, ?_⟩
          · simp only [State.modProg, State.modCmd, State.modRegion, List.any_map, List.any_eq_false, Function.comp, hcm] at hm ⊢
            intro d hd
            have := hm d hd
            split
            · simp
            · exact this
          · refine (seedWaiters_congr ?_).trans hw
            rw [hreg]
            refine (hsr _ ?_ _).2
            exact fun g => ⟨rfl, rfl⟩
          · rw [hreg]
            refine Nat.le_trans hv (Nat.le_of_eq (congrArg Rng.reservoir (hsr _ ?_ _).1.symm))
            exact fun g => ⟨rfl, rfl⟩
    obtain ⟨s1, hn, hc1, h3, h4, h5, h6, h7, h8⟩ := hn
    refine ⟨(e.toCell c.prog.order s1).2, fun f => ?_, Keeps.of_cmds rfl hc1, h3, h4, ⟨l, h5⟩, h6, h7, h8⟩
    have hp : (e.toCell c.prog.order s1).1.pub = pub := h2
    have hq : (e.toCell c.prog.order s1).1.secret = sk := (toCell_secret e _ s1).trans h1
    simp only [withKey, hk, hn, hp, hq]

/-- A job draws random bytes that are at hand (R319). -/
theorem withRandom_here {n : Nat} (h : RandomHere c n s) (hc : Keeps c s) :
    ∃ s1 b, b.length = n ∧ (∀ k, withRandom n c s k = k b s1) ∧ Keeps c s1 ∧ s1.insts = s.insts ∧ s1.pkg = s.pkg ∧
      s1.vault = s.vault ∧ s1.tick = s.tick ∧ s1.time = s.time := by
  have hl : (fit n (Config.freeBytes s.free n)).length = n := by simp [fit, zeros]
  have hs : ∃ s1, takeRandom n c s = (some (fit n (Config.freeBytes s.free n)), s1) ∧ Keeps c s1 ∧ s1.insts = s.insts ∧
      s1.pkg = s.pkg ∧ s1.vault = s.vault ∧ s1.tick = s.tick ∧ s1.time = s.time := by
    by_cases hg : n ≤ c.prog.granted
    · refine ⟨(takeRandom n c s).2, ?_, ?_, ?_⟩ <;> simp only [takeRandom, hg, if_true, drawBytes]
      · exact Keeps.modProg _ rfl (Keeps.of_cmds rfl hc)
      · exact ⟨rfl, rfl, rfl, rfl, rfl⟩
    · rcases h with h | ⟨h1, h3, h2⟩
      · exact absurd h hg
      · refine ⟨(takeRandom n c s).2, ?_, ?_, ?_⟩ <;>
          simp only [takeRandom, hg, if_false, drawBytes, h1, h2, h3, List.isEmpty_nil, Bool.not_false, decide_true, Bool.and_self, if_true]
        · exact Keeps.of_cmds rfl hc
        · exact ⟨rfl, rfl, rfl, rfl, rfl⟩
  obtain ⟨s1, h1, h2⟩ := hs
  exact ⟨s1, _, hl, fun k => by simp [withRandom, h1], h2⟩

/-- Changes to the pans alone leave a key where it lies. -/
theorem KeyHere.of_shelf {t : State} {sk pub : List Byte} (hv : t.vault = s.vault) (hs : ∀ r, (t.region r).shelf = (s.region r).shelf)
    (hi : ∀ r, t.inService r = s.inService r) (h : KeyHere c sk pub s) : KeyHere c sk pub t := by
  have hk : jobKey t c.job = jobKey s c.job := by simp [jobKey, State.keyOf, hv]
  rcases h with ⟨h0, h1, h2⟩ | ⟨k, e, h0, h3, h1, h2⟩
  · exact Or.inl ⟨hk.trans h0, h1, h2⟩
  · refine Or.inr ⟨k, e, hk.trans h0, ?_, h1, h2⟩
    have hr : t.shelfRegion c k = s.shelfRegion c k := by simp [State.shelfRegion, hi]
    rw [hr, ← h3]
    simp [State.shelfFor, State.onShelf, hs]

/-- A draw that leaves a mask stream short of 768 KiB asks for no seed (R119). -/
theorem seedWaiters_drawMask {r p n : Nat} (h : (s.pan r p).msg.used + n < 786432) :
    seedWaiters (drawMask r p n s).2 r = seedWaiters s r := by
  refine List.filter_congr fun q _ => ?_
  by_cases hq : q = p
  · subst hq
    have hk : (s.pan r q).msg.used + min n (s.pan r q).msg.room < 786432 := by omega
    have hk2 : ¬ (1048576 ≤ (s.pan r q).msg.used + min n (s.pan r q).msg.room) := by omega
    have hp : (drawMask r q n s).2.pan r q = _ := State.pan_modPan_self (drawNat s).2 r q _
    rw [hp]
    have h0 : (drawNat s).2.pan r q = s.pan r q := rfl
    simp only [h0, Nat.not_le.2 hk, hk2, decide_false, Bool.or_false]
  · have hp : (drawMask r p n s).2.pan r q = _ := State.pan_modPan_ne (drawNat s).2 r p q _ hq
    rw [hp]
    rfl

/-- A job draws mask bytes that its pan's generator holds (R119, R121). -/
theorem withMask_here {n : Nat} (h : MasksHere c n s) (hc : Keeps c s) :
    ∃ s1, (∀ k, withMask n c s k = k s1) ∧ Keeps c s1 ∧ s1.insts = s.insts ∧ s1.pkg = s.pkg ∧ s1.vault = s.vault ∧
      s1.tick = s.tick ∧ s1.time = s.time ∧ (∀ sk pub, KeyHere c sk pub s → KeyHere c sk pub s1) ∧
      (∀ m, RandomHere c m s → RandomHere c m s1) := by
  by_cases hn : n ≤ c.prog.masked
  · exact ⟨s, fun k => by simp [withMask, hn], hc, rfl, rfl, rfl, rfl, rfl, fun _ _ h => h, fun _ h => h⟩
  · rcases h with h | ⟨h1, h2, h3⟩
    · exact absurd h hn
    · have hroom : min (n - c.prog.masked) (s.pan c.rgn c.pan).msg.room = n - c.prog.masked := by
        simp [Msg.room, h1, h2]; omega
      have hg : (drawMask c.rgn c.pan (n - c.prog.masked) s).1 = n - c.prog.masked := hroom
      have hall : n ≤ c.prog.masked + (n - c.prog.masked) := by omega
      have hreg : ∀ q, ((drawMask c.rgn c.pan (n - c.prog.masked) s).2.region q).shelf = (s.region q).shelf ∧
          ((drawMask c.rgn c.pan (n - c.prog.masked) s).2.region q).rng = (s.region q).rng ∧
          ((drawMask c.rgn c.pan (n - c.prog.masked) s).2.region q).svc = (s.region q).svc := by
        intro q
        by_cases hq : q = c.rgn
        · subst hq; simp [drawMask, drawNat, State.modPan]; exact ⟨rfl, rfl, rfl⟩
        · simp only [drawMask, drawNat, State.modPan]
          rw [State.region_modRegion_ne _ _ _ _ hq]
          exact ⟨rfl, rfl, rfl⟩
      refine ⟨(drawMask c.rgn c.pan (n - c.prog.masked) s).2.modProg c.job.id fun p =>
          { p with masked := p.masked + (n - c.prog.masked), wait := none }, fun k => ?_, ?_, rfl, rfl, rfl, rfl, rfl, ?_, ?_⟩
      · simp only [withMask, hn, if_false, hg, hall, decide_true, if_true]
      · exact Keeps.modProg _ rfl (Keeps.of_cmds rfl hc)
      · intro sk pub hk
        refine KeyHere.of_shelf ?_ (fun r => (hreg r).1) (fun r => ?_) hk
        · rfl
        · have := (hreg r).2.2
          simp only [State.inService, State.enabled] 
          rw [show ∀ (t : State) (j : Nat) (f : Prog → Prog) (r : Nat), (t.modProg j f).region r = t.region r from fun _ _ _ _ => rfl, this]
          rfl
      · intro m hm
        rcases hm with hm | ⟨ha, hb, hd⟩
        · exact Or.inl hm
        · refine Or.inr ⟨?_, (seedWaiters_drawMask h3).trans hb, ?_⟩
          · rw [List.any_eq_false] at ha ⊢
            intro d hd
            obtain ⟨e, he, rfl⟩ := List.mem_map.1 hd
            split
            · simp
            · exact ha e he
          · exact hd.trans_eq (congrArg Rng.reservoir (hreg _).2.1).symm

/-- The end of a verb whose body answers a result. -/
theorem ended_of_body {op j : Nat} {body : Cmd → State → State × Option Res} {s1 : State} {r : Res} (hw : AtWork op j c s)
    (hb : body c (drawEnergy s).2 = (s1, some r)) (hk : Keeps c s1) :
    Ended j c r (runVerb op j body s) := by
  obtain ⟨h1, h2, h3, h4, h5⟩ := hw
  rw [runVerb_of_body h1 h2 h3 h4 h5 hb]
  have hj : c.job.id = j := by
    have := List.find?_some h1
    simpa using this
  obtain ⟨d, hd, hdj⟩ := hk
  rw [hj] at hd
  have h6 : (countJob j (s1.modProg j (Prog.endEnergy r.nj (drawEnergy s).1))).cmd? j =
      some { d with prog := d.prog.endEnergy r.nj (drawEnergy s).1 } := by
    rw [cmd_congr (countJob_cmds _ _)]
    exact cmd_modProg _ hd
  exact ⟨_, r.nj, cmd_finish r h6, hdj, rfl, rfl⟩

/-- A verb at work whose body answers a result without touching the commands: it completes with that result (R20, R69). -/
theorem ended_of {op j : Nat} {body : Cmd → State → State × Option Res} {s1 : State} {r : Res} (hw : AtWork op j c s)
    (hb : body c (drawEnergy s).2 = (s1, some r)) (hk : s1.cmds = s.cmds) :
    ∃ t, (Host.Outcome.next (runVerb op j body s) : Host.Outcome State Fault Refusal) = .next t ∧ Ended j c r t := by
  have hj : c.job.id = j := by
    have := List.find?_some hw.1
    simpa using this
  exact ⟨_, rfl, ended_of_body hw hb ⟨c, by rw [cmd_congr hk, hj]; exact hw.1, rfl⟩⟩

end Steps

end Sys2Proof.Machine
end

