-- ==== Sys2Proof/WellFormed.lean ====
section
/-! DEFINITION. When a command is well formed: every operand lies in the range that the spec gives its place (instances R92, queues
R70, regions R18, pans and cells of chapter 05 and chapter 08, ports R262, streams R269, register values R35). -/

namespace Sys2Proof.WellFormed

/-- A region position (R18). -/
def isRegion (n : Nat) : Bool := decide (n < 8)
/-- A pan of a region (R19). -/
def isPan (n : Nat) : Bool := decide (n < 4)
/-- A frame port (R262). -/
def isPort (n : Nat) : Bool := decide (n < 16)
/-- An instance, or the function of a BAR: 0 the physical one (R92). -/
def isInst (n : Nat) : Bool := decide (n < 256)
/-- A submission queue or completion ring (R70). -/
def isQueue (n : Nat) : Bool := decide (n < 32)
/-- A frame ring (R283). -/
def isFRing (n : Nat) : Bool := decide (n < 8)
/-- A completion ring or a frame ring (R70, R283). -/
def isRing (c : Machine.RingNo) : Bool :=
  match c with
  | .completion n => isQueue n
  | .frame n => isFRing n
/-- The value of a 32-bit access (R35). -/
def isWord (n : Nat) : Bool := decide (n < 2 ^ 32)
/-- The value of a 64-bit access (R35). -/
def isDword (n : Nat) : Bool := decide (n < 2 ^ 64)
/-- A half of a window word, or the whole of it (R179). -/
def isPart (n : Nat) : Bool := decide (n < 3)
/-- An offset of a 4 KiB window (R54, R230). -/
def isOffset (n : Nat) : Bool := decide (n < 4096)
/-- A selective IDE stream, or 32 for the link stream (R110). -/
def isIde (n : Nat) : Bool := decide (n < 33)
/-- A stream (R269). -/
def isStream (n : Nat) : Bool := decide (n < 4095)
/-- A die: a region, or 8 for the apex (R536). -/
def isDie (n : Nat) : Bool := decide (n < 9)
/-- A level of R536: 1 to 4 for 100, 108, 115 and 125 °C, and 0 for below 100 °C. -/
def isLevel (n : Nat) : Bool := decide (n < 5)
/-- A TAMP_IN pin (R508). -/
def isPin (n : Nat) : Bool := decide (n < 4)
/-- An interrupt source of a core (R386). -/
def isSource (n : Nat) : Bool := decide (n < 32)
/-- A customer routine's number (R400). -/
def isRoutine (n : Nat) : Bool := decide (n < 1024)

/-- A unit of its kind in a region: 32 lattice cells, 8 number cells, 8 hash cells, 4 sponge farms, 2 symmetric engines, and one
vault cipher and one randomness (chapter 01). -/
def isUnit (k : Machine.UnitKind) (n : Nat) : Bool :=
  match k with
  | .lattice => decide (n < 32)
  | .number => decide (n < 8)
  | .hash => decide (n < 8)
  | .sponge => decide (n < 4)
  | .sym => decide (n < 2)
  | .vault => n == 0
  | .random => n == 0

/-- A core of the package (R359). -/
def isCore (c : Machine.CoreId) : Bool :=
  match c with
  | .lattice r n => isRegion r && isUnit .lattice n
  | .number r n => isRegion r && isUnit .number n
  | .hash r n => isRegion r && isUnit .hash n
  | .panCtl r p => isRegion r && isPan p
  | .steward r => isRegion r
  | .skanel => true

end Sys2Proof.WellFormed

namespace Sys2Proof

open WellFormed

/-- The command is well formed. -/
def Instr.wf (i : Instr) : Bool :=
  match i with
  | .sysNop _ => true
  | .sysFeatures _ => true
  | .sysStandby _ => true
  | .keyGenerate _ => true
  | .keyImport _ => true
  | .keyDerive _ => true
  | .keyLoad _ => true
  | .keyEvict _ => true
  | .keyDelete _ => true
  | .keyPinPublic _ => true
  | .keyAttest _ => true
  | .keyList _ => true
  | .keyIdentity _ => true
  | .keyTransfer _ => true
  | .keyUpdate _ => true
  | .kemMlkemEncaps _ => true
  | .kemMlkemDecaps _ => true
  | .kemHybEncaps _ => true
  | .kemHybDecaps _ => true
  | .kemRsaEncrypt _ => true
  | .kemRsaDecrypt _ => true
  | .kemEcdh _ => true
  | .kemMceEncaps _ => true
  | .kemMceDecaps _ => true
  | .kemHqcEncaps _ => true
  | .kemHqcDecaps _ => true
  | .sigMldsaSign _ => true
  | .sigMldsaVerify _ => true
  | .sigFndsaVerify _ => true
  | .sigCompSign _ => true
  | .sigCompVerify _ => true
  | .sigSlhdsaSign _ => true
  | .sigSlhdsaVerify _ => true
  | .sigLmsSign _ => true
  | .lmsReservationComplete _ => true
  | .sigLmsVerify _ => true
  | .sigXmssVerify _ => true
  | .sigRsaSign _ => true
  | .sigRsaVerify _ => true
  | .sigEcdsaSign _ => true
  | .sigEcdsaVerify _ => true
  | .sigEddsaSign _ => true
  | .sigEddsaVerify _ => true
  | .digHash _ => true
  | .digMac _ => true
  | .digMacVerify _ => true
  | .digKdf _ => true
  | .symAeadEncrypt _ => true
  | .symAeadDecrypt _ => true
  | .symCipherEncrypt _ => true
  | .symCipherDecrypt _ => true
  | .symMac _ => true
  | .symMacVerify _ => true
  | .symWrap _ => true
  | .symUnwrap _ => true
  | .rngGenerate _ => true
  | .rngKat _ => true
  | .rngRaw _ => true
  | .frmSend _ => true
  | .frmSendEgress _ => true
  | .frmSubscribe _ => true
  | .frmUnsubscribe _ => true
  | .frmPortSet _ => true
  | .frmStreamSet _ => true
  | .frmStreamClear _ => true
  | .frmKeySet _ => true
  | .frmStreamRelease _ => true
  | .frmStreamStatus _ => true
  | .frmHarvestSet _ => true
  | .frmHarvestStatus _ => true
  | .timeRead _ => true
  | .timeSet _ => true
  | .jrnlRead _ => true
  | .jrnlCheckpoint _ => true
  | .jrnlMirrorSet _ => true
  | .jrnlBtnRead _ => true
  | .jrnlBtnList _ => true
  | .regnTakeOut _ => true
  | .regnReturn _ => true
  | .regnReserveWarm _ => true
  | .mgmtFwWrite _ => true
  | .mgmtFwVerify _ => true
  | .mgmtFwActivate _ => true
  | .mgmtFirstHeartbeat => true
  | .activationFallback _ => true
  | .regionRollStep _ _ => true
  | .mgmtFwCommit _ => true
  | .mgmtFwStatus _ => true
  | .mgmtSensors _ => true
  | .updateAgentTimeout => true
  | .pldmQueryDeviceIdentifiers _ => true
  | .pldmGetFirmwareParameters _ => true
  | .pldmRequestUpdate _ => true
  | .pldmPassComponentTable _ _ => true
  | .pldmUpdateComponent _ _ _ => true
  | .pldmRequestFirmwareData _ _ => true
  | .pldmTransferComplete _ => true
  | .pldmVerifyComplete _ => true
  | .pldmApplyComplete _ => true
  | .pldmActivateFirmware _ => true
  | .pldmGetStatus _ => true
  | .pldmCancelUpdateComponent _ => true
  | .pldmCancelUpdate _ => true
  | .spdmRequest _ _ => true
  | .mctpControlMessage _ _ _ => true
  | .mctpFaultAck _ _ => true
  | .sidebandSummaryRead => true
  | .lifeStatus _ => true
  | .lifeTransition _ _ => true
  | .lifeDebugOpen _ => true
  | .lifeDebugClose _ => true
  | .debugWindowEnd => true
  | .tampTest _ _ => true
  | .tampErase _ => true
  | .cardStatus _ => true
  | .cardFormat _ => true
  | .cardExport _ => true
  | .cardList _ => true
  | .cardImportKum _ => true
  | .custRun _ => true
  | .custLoad _ => true
  | .custUnload _ => true
  | .custList _ => true
  | .custPartitionReload r p => isRegion r && isPan p
  | .mailboxDoorbell i v => isInst i && isWord v
  | .mailboxBufferWrite i o v => isInst i && isOffset o && isWord v
  | .mailboxRequestDone i => isInst i
  | .mailboxHoldRelease _ => true
  | .sqEnable i q => isInst i && isQueue q
  | .cqEnable i c => isInst i && isQueue c
  | .sqDoorbell i q v => isInst i && isQueue q && isWord v
  | .cqDoorbell i c v => isInst i && isQueue c && isWord v
  | .queueFetch _ => true
  | .jseqReserveComplete => true
  | .jobSend _ => true
  | .regionAck _ => true
  | .jobDispatch _ => true
  | .panWakeComplete r p => isRegion r && isPan p
  | .panAdmit r p => isRegion r && isPan p
  | .powerSample _ => true
  | .resourceFreedDispatch _ => true
  | .shelfMissBlobArrival _ _ => true
  | .crystallizerFillComplete r => isRegion r
  | .jobYield _ => true
  | .digestQuantumExpiry _ => true
  | .numberQuantumExpiry _ => true
  | .symQuantumExpiry _ => true
  | .jobResume _ => true
  | .releaseCheckDone _ _ => true
  | .jobResultReturn _ => true
  | .batchTimerExpiry => true
  | .coalesceTimerExpiry i c => isInst i && isRing c
  | .checkpointDue => true
  | .checkpointSigned => true
  | .flrStart i => isInst i
  | .regionGenerationReport i r => isInst i && isRegion r
  | .wrapDrainTimeout i => isInst i
  | .flrComplete i => isInst i
  | .pcieHotReset => true
  | .vfEnableSet n => isInst n
  | .vfEnableClear => true
  | .atsInvalidationRequest i _ _ => isInst i
  | .ideStreamFailure n => isIde n
  | .instAdmReassign i => isInst i
  | .instAdmClrEnergy i => isInst i
  | .instAdmQuotaWrite i _ v => isInst i && isWord v
  | .instAdmCfgWrite i v => isInst i && isWord v
  | .instXlatClr i => isInst i
  | .vltHcapWrite v => isWord v
  | .slotLenWrite r p v => isRegion r && isPan p && isWord v
  | .slotLengthApply r p => isRegion r && isPan p
  | .slotInspectRead r offset => isRegion r && isOffset offset
  | .clrCounts r _ => isRegion r
  | .digWinClaim _ => true
  | .digWinData _ part v => isPart part && isDword v
  | .digWinLast _ _ _ => true
  | .digWinRelease _ _ => true
  | .digWinTimeout => true
  | .timNowRead => true
  | .timCfgWrite v => isWord v
  | .timeAlarmFire _ => true
  | .sourceQualified _ => true
  | .sourceLost _ => true
  | .lockAchieved => true
  | .holdoverExpiry => true
  | .ptpMessageReceive p _ _ _ _ _ _ _ _ => isPort p
  | .irigFrameReceive _ _ _ _ _ _ => true
  | .ppsInEdge => true
  | .leapSecondBoundary => true
  | .ppsOutPulse => true
  | .frameReceive p _ _ _ => isPort p
  | .frameEgress p => isPort p
  | .streamSilenceExpiry n => isStream n
  | .rateSecondBoundary => true
  | .quarantineHoldExpiry n => isStream n
  | .timeAllowedToLiveExpiry n => isStream n
  | .frameRingEnable i n v => isInst i && isFRing n && isWord v
  | .frameRingDoorbell i n v => isInst i && isFRing n && isWord v
  | .harvestWindowClose n => isStream n
  | .harvestSealDone n _ => isStream n
  | .harvestVerifyDone n => isStream n
  | .assemblyTimeout n => isStream n
  | .pendingFrameTimeout n => isStream n
  | .noiseWindowComplete r _ _ => isRegion r
  | .seedConditioned r => isRegion r
  | .reseedDue r => isRegion r
  | .expanderGenerate r => isRegion r
  | .randomDrawServed r => isRegion r
  | .randomDrawTimeout _ => true
  | .donorSeedWrap asker => isRegion asker
  | .borrowedSeedArrival r _ => isRegion r
  | .seedRequestRetry r => isRegion r
  | .borrowAdvanceDue r => isRegion r
  | .sourceRestartDone r _ => isRegion r
  | .rngStartupComplete r => isRegion r
  | .maskSeedArrival r p => isRegion r && isPan p
  | .maskStreamLockstepFault r p => isRegion r && isPan p
  | .rootReady => true
  | .eccError _ _ => true
  | .dupMismatch r k n _ => isRegion r && isUnit k n
  | .seqCheckFault r k n => isRegion r && isUnit k n
  | .panWatchdogTrip r p => isRegion r && isPan p
  | .selfTestResult _ _ => true
  | .sluiceExpiry _ => true
  | .fltAck hi => isWord hi
  | .fltInject v => isWord v
  | .disturbance _ => true
  | .disturbanceClear _ _ => true
  | .tamperAlarm _ _ => true
  | .eraseEvidenceBurn => true
  | .zeroizeNAssert _ => true
  | .tampInAssert n _ _ => isPin n
  | .monitorStimulation _ => true
  | .vbatLow _ => true
  | .pwrgdMainRise _ _ => true
  | .pwrgdMainFall => true
  | .pwrgdAonFall => true
  | .perstNAssert _ => true
  | .vbatApplied => true
  | .vbatLost => true
  | .wakeNLow _ _ => true
  | .pcieLinkWake _ => true
  | .selfTestComplete _ => true
  | .regionDrained r => isRegion r
  | .drainTimeout r => isRegion r
  | .regionTestingDone r _ => isRegion r
  | .regionLoadingDone r _ => isRegion r
  | .regionRejoinDone r => isRegion r
  | .pointWrite r v => isRegion r && isWord v
  | .pointSwitchDone r _ _ => isRegion r
  | .panIdleTimeout r p => isRegion r && isPan p
  | .panNapTimeout r p => isRegion r && isPan p
  | .linkRetry r => isRegion r
  | .linkLaneFailure r _ => isRegion r
  | .rakePass r _ _ => isRegion r
  | .agingEvaluation r _ _ _ => isRegion r
  | .thermalThreshold die level _ => isDie die && isLevel level
  | .heartbeatLapse => true
  | .watchdogReset => true
  | .skanelLockstepMismatch => true
  | .bitternSlotWritten => true
  | .cardInsert _ _ _ _ _ _ _ => true
  | .cardRemove _ => true
  | .cardEject => true
  | .cardBusyEnd => true
  | .cardBusyTimeout => true
  | .badAccess fn _ _ _ => isInst fn
  | .registerWrite fn _ wide v => isInst fn && (if wide then isDword v else isWord v)
  | .kInterruptEntry c n => isCore c && isSource n
  | .custYield c => isCore c
  | .safePointWatchdogTrip c _ => isCore c
  | .seqStep c => isCore c
  | .seqBranch c => isCore c
  | .seqCall c => isCore c
  | .seqRet c => isCore c
  | .seqRun c => isCore c
  | .seqEnd c => isCore c
  | .seqFail c => isCore c
  | .kAluOp c _ _ => isCore c
  | .kMulU c _ _ => isCore c
  | .kMulS c _ _ => isCore c
  | .kMacU c _ _ => isCore c
  | .kLd c _ _ => isCore c
  | .kSt c _ _ => isCore c
  | .kLda c _ _ => isCore c
  | .kSta c _ _ => isCore c
  | .kBranch c _ _ => isCore c
  | .kJmp c _ _ => isCore c
  | .kCall c _ _ => isCore c
  | .kJmpr c _ _ => isCore c
  | .kCallr c _ _ => isCore c
  | .kRet c _ _ => isCore c
  | .kLoop c _ _ => isCore c
  | .kRep c _ _ _ => isCore c
  | .kRepi c _ _ _ => isCore c
  | .kFpOp c _ _ => isCore c
  | .kPackedOp c _ _ => isCore c
  | .kFldD c _ _ => isCore c
  | .kFstD c _ _ => isCore c
  | .kSetvl c _ _ => isCore c
  | .kVectorArith c _ _ => isCore c
  | .kVld c _ _ => isCore c
  | .kVldFirstFault c _ _ => isCore c
  | .kVst c _ _ => isCore c
  | .kVectorMove c _ _ => isCore c
  | .kDatapathCommand c _ _ => isCore c
  | .kCtlrd c _ _ => isCore c
  | .kCtlwr c _ _ => isCore c
  | .kCtlset c _ _ => isCore c
  | .kCtlclr c _ _ => isCore c
  | .kFence c _ _ => isCore c
  | .kWfi c _ _ => isCore c
  | .kRete c _ _ => isCore c
  | .kTrap c _ _ => isCore c
  | .kBreak c _ _ => isCore c
  | .kPairedWord c _ _ => isCore c
  | .tapExtest _ _ => true
  | .tapSamplePreload _ _ => true
  | .tapIdcode => true
  | .tapHighz _ _ => true
  | .tapClamp _ _ => true
  | .tapExtestPulse _ _ => true
  | .tapExtestTrain _ _ => true
  | .tapLcStatus => true
  | .tapDbgAuth _ => true
  | .tapDbgClose => true
  | .tapDbgRead _ => true
  | .tapDbgWrite _ _ v => isWord v
  | .tapDbgHalt c _ => isCore c
  | .tapDbgRun c n _ _ => isCore c && isRoutine n
  | .tapFtScan _ => true
  | .tapFtBist _ => true
  | .tapFtFuse _ => true
  | .tapBypass _ => true
  | .regionSramWiped r => isRegion r
  | .perstNDeassert => true
  | .framePortLinkChange p _ => isPort p
  | .tcxoToleranceChange _ => true
  | .lmsNextTreeReady _ => true
  | .stimulationWindowEnd _ _ => true
  | .errorPairPhaseToggle => true
  | .hostMemoryCompletion _ _ => true
  | .cardCommandResponse _ => true
  | .digWinCompressionDone => true

end Sys2Proof
end

