-- ==== Sys2Proof/Tests/Slice0.lean ====
section
/-! SUPPORT. The model's own tests: ill-formed commands, worked examples of the spec, and for each statement with hypotheses a state and
operands that meet them. -/

namespace Sys2Proof.Tests

open Sys2Proof.Machine Sys2Proof.Safety

set_option maxRecDepth 8000

/-! ### Small states and commands -/

/-- A mailbox request of instance 0, about to run. -/
def ask (op : Nat) (args : List Byte) : Cmd :=
  { job := { id := 1, src := .mbx, inst := 0, gen := 0, opcode := op, handle := nullHandle, param := 0, args := args },
    prog := { phase := .ready } }

/-- A job of queue 0 of instance 0 that runs on unit 0 of its kind in region 0, with operands. -/
def runs (k : UnitKind) (op : Nat) (args : List Byte) (ps : Tbl (List Byte)) : Cmd :=
  { job := { id := 1, src := .sq 0, inst := 0, gen := 0, opcode := op, handle := nullHandle, param := 0, args := args, parts := ps },
    prog := { phase := .running, region := some 0, unit := some (k, 0, 0) } }

/-- A pan that is IDLE with its mask seed. -/
def awake : Pan := { svc := { pwr := .idle }, msg := { seeded := true } }

/-- Region 0 stands in `x` with its pans awake and randomness running; the package serves. -/
def regionIn (x : RState) (cs : List Cmd) : State :=
  { State.reset with
      pkg := { State.reset.pkg with mode := .service, booting := false }, cmds := cs,
      regions := [(0, { svc := { state := x }, kekHere := true, rng := { state := .running, reservoir := 65536, ready := true },
                        pans := [(0, awake), (1, awake), (2, awake), (3, awake)] })],
      vault := { State.reset.vault with rootReady := true }, jrn := { State.reset.jrn with nextJseq := 1, limit := 2 ^ 37 } }

/-- The package serves with region 0 IN_SERVICE. -/
def serving (cs : List Cmd) : State := regionIn .inService cs

/-- A package mode and nothing else. -/
def inMode (m : Mode) : State := { State.reset with pkg := { State.reset.pkg with mode := m, booting := false } }

/-- A key of instance 0 with handle index 0, at home in region 0. -/
def key (alg cls uses : Nat) : KeyRec :=
  { inst := 0, cls := cls, gen := 0, idx := 0, keyId := 1, alg := alg, pol := { uses := uses, minOrder := 1 }, home := 0, blobAddr := 0, blobLen := 256 }

/-- The shelf entry of that key. -/
def shelved : ShelfKey := { inst := 0, keyId := 1, entries := 1, lru := 0, lattice := [[1]], other := [[]], pub := [2] }

/-- A job of queue 0 on unit 0 of its kind, under the key of `handle`, with PARAM, arguments and operands. -/
def keyed (k : UnitKind) (op param handle : Nat) (args : List Byte) (l : List (Nat × List Byte)) : Cmd :=
  let frags : List Frag := l.map fun e => { addr := 0, len := e.2.length, kind := .input, operand := e.1, noSnoop := false }
  { runs k op args (l.zipIdx.map fun e => (e.2, e.1.2)) with
      job := { (runs k op args (l.zipIdx.map fun e => (e.2, e.1.2))).job with
        handle := BitVec.ofNat 32 handle, param := BitVec.ofNat 32 param, frags := frags } }

/-- The key lies in the shelf of region 0, and the queues of instance 0 stand. -/
def withKeys (k : KeyRec) (cs : List Cmd) : State :=
  let s := serving cs
  { s with
      vault := { s.vault with handles := [k] }, insts := [(0, { cfg := { shelf := 64, slotKib := 4096, pins := 4 } })],
      regions := s.regions.map fun e => (e.1, { e.2 with shelf := [shelved] }) }

/-! ### States and operands that meet the hypotheses of the statements -/

theorem wit_IdleStepCountsTheTick : let s : State := { serving [] with time := { State.reset.time with quality := .locked, slewFrom := -1, slewCount := 9999 } }
    s.pending = [] ∧ s.pkg.pwrgdAon = true ∧ s.time.quality ≠ .coarse ∧ s.time.slewFrom ≠ 0 ∧ 10000 ≤ s.time.slewCount + 1 := by decide

theorem wit_HaltLasts : let s : State := { serving [] with pkg := { (serving []).pkg with halted := true } }
    s.pkg.halted = true ∧ s.pkg.mode.mainPower = true ∧ ∃ t, step s = .next t := ⟨rfl, rfl, _, rfl⟩

theorem wit_SystemVerbsAndMailboxes_standby : let c := ask 0x0102 []; let s := serving [c]
    AtWork 0x0102 1 c s ∧ Passes [paramZero c.job 0xFFFFFFFF, bodyIs c.job 0,
      check (s.cmds.all (·.job.mbx) && s.pkg.mode.isService) .deferred] := by decide

theorem wit_SystemVerbsAndMailboxes_features : let c := { ask 0x0101 [] with job := { (ask 0x0101 []).job with param := 1 } }
    AtWork 0x0101 1 c (serving [c]) ∧ Passes [paramZero c.job 0xFFFFFF00, check (c.job.handle == nullHandle) .malformed,
      check (featuresLen (bits c.job.param.toNat 7 0)).isSome .paramUnsupported] := by decide

/-- Instance 0 as `n`, the package serving. -/
def withInst (n : Inst) (cs : List Cmd) : State := { serving cs with insts := [(0, n)] }

theorem wit_SystemVerbsAndMailboxes_mailbox : let s := withInst { mbx := { state := .idle } } []
    Reached 0 s ∧ s.mbxClosed 0 = false ∧ (s.inst 0).mbx.state ≠ .busy ∧ s.jseqWait = false ∧
      headerBad 0 7 (readBuf (s.inst 0).mbx.req 0 4096) = true := by decide

theorem wit_SystemVerbsAndMailboxes_answer :
    let c := { ask 0x0100 [] with prog := { phase := .returned, res := some okRes } }
    let s := withInst { mbx := { state := .busy, cur := some 1 } } [c]
    (s.inst 0).mbx.state = .busy ∧ (s.inst 0).mbx.cur = some 1 ∧ s.cmd? 1 = some c ∧ c.prog.res = some okRes ∧
      c.prog.wait ≠ some .object ∧ s.answersFirst c = false ∧ s.pkg.halted = false ∧ s.pkg.perstHigh = true ∧
      s.pkg.mode.mainPower = true ∧ s.ideBlocked 0 = false ∧ s.missingPage 0 (okRes.spans c.job) = none ∧ c.job.opcode ≠ 0x0102 := by decide

/-- Instance 0 with queue 31 and ring 31 enabled on 4 KiB each. -/
def queued : Inst := { cfg := { maxQp := 32 }, sqs := [(31, { enable := true, cq := 31, tail := 1 })], cqs := [(31, { enable := true, w := 1, tail := 1, unsignalled := [0], timeUs := 1, ien := true })], msixEn := true }

theorem wit_QueuesAndDoorbells : let s := withInst queued []
    Reached 0 s ∧ (s.sq 0 30).enable = false ∧ sizeOkLog2 (s.sq 0 30).log2 = true ∧ noWrap (s.sq 0 30).base (2 ^ (s.sq 0 30).log2) = true ∧
      (s.sq 0 31).enable = true ∧ (s.cq 0 31).enable = true ∧ 0 < (s.cq 0 31).w := by decide

theorem wit_QueueEntriesAndResults_fetch : let s := withInst queued []
    s.turn = some 31 ∧ ((s.sq 0 31).tail + (s.sq 0 31).units - (s.sq 0 31).head) % (s.sq 0 31).units = 1 ∧
      (s.sq 0 31).head < (s.sq 0 31).units ∧ bits (fld [1, 0, 1, 1] 0 2) 8 0 = 1 ∧ fld [1, 0, 1, 1] 2 2 ≠ 0 ∧ (s.sq 0 31).buf = [] := by decide

theorem wit_QueueEntriesAndResults_post :
    let c : Cmd := { job := { (ask 0x0100 []).job with src := .sq 31 }, prog := { phase := .returned, res := some okRes } }
    let s := withInst queued [c]
    s.cmd? 1 = some c ∧ s.queuesUp = true ∧ s.current c.job = true ∧ s.ideBlocked 0 = false ∧ (s.cq 0 31).writeStopped = false ∧
      s.postMiss c okRes 31 = none := by decide

theorem wit_RegisterAccesses : let s := serving []
    Reached 0 s ∧ readReg s 0 0x5FF8 = none ∧ 0x5FF8 % 4 = 0 ∧ 0x5FF8 < skanelBase ∧ (s.inst 0).resetting = false := by decide

theorem wit_RegisterAccesses_dropped : let s := withInst { cfg := { ideRequired := true } } []
    s.reachable 0 = true ∧ s.ideBlocked 0 = true ∧ 0x1FFC < cfgBase := by decide

theorem wit_AdministrativeViewAndFunctions : let s := serving []
    Reached 0 s ∧ s.sumsOk 5 ((s.inst 5).cfg.quota false 0) = true ∧ s.useOk 5 ((s.inst 5).cfg.quota false 0) = true ∧
      s.pkg.mode.mainPower = true ∧ s.pkg.perstHigh = true ∧ s.pkg.vfEnable = false ∧ s.present 0 = true := by decide

theorem wit_GenerationChanges : let s : State := { serving [] with
      pkg := { (serving []).pkg with vfEnable := true, numVfs := 255 }, insts := [(255, { gen := 65535 })] }
    (s.inst 255).resetting = false ∧ (s.inst 255).gen = 65535 ∧ s.notified ≠ [] ∧ s.present 255 = true ∧ Reached 0 s := by decide

theorem wit_GenerationChanges_end : let s := withInst { resetting := true, wrapDrain := true, awaited := [7] } []
    (s.inst 0).resetting = true ∧ 7 ∈ (s.inst 0).awaited ∧ (s.inst 0).wrapDrain = true := by decide

/-- A SHA-2 job that the region has acknowledged and no unit holds. -/
def acked : Cmd := { runs .hash 0x0501 [] [] with prog := { phase := .acked, region := some 0 } }

theorem wit_JobsAreSentAndDispatched_send : let c := { acked with prog := { phase := .ready } }; let s := withInst queued [c]
    s.cmd? 1 = some c ∧ c.job.has (·.region) = true ∧ s.held c = false ∧ c.prog.wait ≠ some .object ∧ s.pkg.halted = false ∧
      s.current c.job = true ∧ s.repeated c.job = false ∧ selectRegion s c = some 0 := by decide

theorem wit_JobsAreSentAndDispatched_dispatch : let c := acked
    let s : State := { withInst queued [c] with regions := (withInst queued [c]).regions.map fun e =>
      (e.1, { e.2 with pans := [(0, { svc := { pwr := .active } }), (1, { svc := { pwr := .active } }), (2, { svc := { pwr := .active } }),
        (3, { svc := { pwr := .active } })] }) }
    s.cmd? 1 = some c ∧ s.current c.job = true ∧ c.job.paired = false ∧ s.dispatches 0 = true ∧ s.held c = false ∧
      s.heldForDisturbance c 0 = false ∧ s.slhOk c 0 = true ∧ (∃ k, s.jobKind c 0 = some k ∧ k ≠ .sym ∧ s.outranked c 0 k = false ∧
      s.pondOk c 0 = true ∧ ∃ n, s.pickUnit c 0 k (s.freeUnits c 0 k) = some n) := by
  refine ⟨by decide, by decide, by decide, by decide, by decide, by decide, by decide, _, rfl, by decide, by decide, by decide, _, rfl⟩

theorem wit_PansWakeUnderTheCeiling : let s : State := { serving [] with tick := 1000000, regions := [(0, { svc := { state := .inService }, pans := [(3, { svc := { waking := some 0 } })] })] }
    s.enabled 0 = true ∧ (s.pan 0 3).svc.waking = some 0 ∧ 0 + (s.pan 0 3).svc.pwr.wakeNs ≤ s.tick ∧ s.wakers 0 3 = [] ∧
      s.checksIn 0 3 = [] := by decide

theorem wit_JobsYieldAndResume : let c := { runs .number 0x0410 [] [] with prog := { phase := .yielded, region := some 0, unit := some (.number, 0, 1) } }
    let s := withInst queued [c]
    s.cmd? 1 = some c ∧ s.current c.job = true ∧ c.prog.wait = none ∧ c.prog.pair.cell = none ∧ s.dispatches 0 = true ∧
      s.heldForDisturbance c 0 = false ∧ s.outranked c 0 .number = false := by decide

theorem wit_ChecksKeysAndFills : let c := { runs .lattice 0x0401 [] [] with
      prog := { phase := .checking, region := some 0, unit := some (.lattice, 0, 0), check := some (0, 8), res := some okRes } }
    let s : State := { withInst queued [c] with regions := [(0, { svc := { state := .inService }, pans := [(1, { svc := { pwr := .active } })] })] }
    s.cmd? 1 = some c ∧ c.job.paired = false ∧ (s.pan 0 ((c.checkKind.pan 8).getD 0)).svc.pwr = .active ∧
      c.job.has (·.stateful) = false ∧ s.faults.slotFor = some 0 := by decide

theorem wit_LatticeKeyEncapsulation : let c := keyed .lattice 0x0301 3 0 [] []; let s := withKeys (key 3 0 0xFFFF) [c]
    KeyUsable c 1 (keyLimit s c.job) s ∧ KeyHere c shelved.secret shelved.pub s ∧ AtWork 0x0301 1 c s ∧
      Passes (kemChecks s c.job [0, 1] 2 (!c.job.pbit 13 || (c.job.operand 3).length == pubLen c.job.alg)) ∧
      MasksHere c (maskScale c.prog.order (maskBytes 0 (latticeAlg c.job.alg))) s ∧ RandomHere c 32 s :=
  ⟨And.intro (Or.inl rfl) rfl, Or.inr ⟨_, _, rfl, rfl, rfl, rfl⟩, by decide, by decide, Or.inr (by decide), Or.inr (by decide)⟩

theorem wit_LatticeSignatures : let c := keyed .lattice 0x0401 0x11 0 (zeros 16) []; let s := withKeys (key 0x11 0 0xFFFF) [c]
    KeyUsable c 1 (keyLimit s c.job) s ∧ KeyHere c shelved.secret shelved.pub s ∧ AtWork 0x0401 1 c s ∧ Passes (sigChecks s c.job [0] 0) ∧
      MasksHere c (maskScale c.prog.order (maskBytes 2 c.job.alg)) s ∧ RandomHere c 32 s :=
  ⟨And.intro (Or.inl rfl) rfl, Or.inr ⟨_, _, rfl, rfl, rfl, rfl⟩, by decide, by decide, Or.inr (by decide), Or.inr (by decide)⟩

theorem wit_DigestsAndTheWindow : let c := keyed .hash 0x0501 2 0xFFFFFFFF (zeros 16) []; let s := serving [c]
    AtWork 0x0501 1 c s ∧ Passes (digChecks s c.job) ∧ Reached 0 s ∧ s.digWin.owner = none := by decide

theorem wit_DigestsAndTheWindow_owned : let w : DigWin := { State.reset.digWin with owner := some true, closing := some 8, busy := true }
    w.owner = some true ∧ w.busy = true ∧ w.closing = some 8 := by decide

theorem wit_HashBasedSignatures : let c := keyed .hash 0x0406 0x51 0 (zeros 16) []; let s := withKeys (key 0x51 0 0xFFFF) [c]
    KeyUsable c 1 (keyLimit s c.job) s ∧ KeyHere c shelved.secret shelved.pub s ∧ AtWork 0x0406 1 c s ∧ Passes (slhChecks s c.job [0] 0) ∧
      Passes [tqStep c.job] ∧ RandomHere c (if c.job.pbit 10 then 0 else pubLen 0x51 / 2) s :=
  ⟨And.intro (Or.inl rfl) rfl, Or.inr ⟨_, _, rfl, rfl, rfl, rfl⟩, by decide, by decide, by decide, Or.inr (by decide)⟩

theorem wit_StatefulSigning : let c := keyed .hash 0x0408 0x61 0 [] []
    let k := { key 0x61 0 0xFFFF with lmsId := 7 }
    let l : LmsRec := { id := 7, inst := 0, keyId := 1, q := 1023, rl := 1024, leaves := 32768 }
    let s : State := { withKeys k [c] with vault := { (withKeys k [c]).vault with lms := [l] } }
    AtWork 0x0408 1 c s ∧ jobKey s c.job = some k ∧ s.lmsOf k = some l ∧ c.prog.committed = false ∧ l.q < l.leaves ∧ l.q < l.rl ∧
      Passes [keyChecks s c.job [0] (· == c.job.alg) 0 fun _ => true,
        check (c.job.param.toNat &&& 0xFFFFFF00 == 0 && c.job.args.isEmpty) .malformed,
        check (famOf c.job.alg == some .lms) .paramUnsupported, famEnabled s c.job] := by decide

theorem wit_RsaOperations : let c := keyed .number 0x0305 0x84 0 (zeros 16) []; let s := withKeys { key 0x84 0 0x1FFFF with size := 2048 } [c]
    KeyUsable c 1 (keyLimit s c.job) s ∧ KeyHere c shelved.secret shelved.pub s ∧ AtWork 0x0305 1 c s ∧ Passes [slotQuota s c] ∧
      Passes (numChecks s c.job [0, 1] 5) :=
  ⟨And.intro (Or.inl rfl) rfl, Or.inr ⟨_, _, rfl, rfl, rfl, rfl⟩, by decide, by decide, by decide⟩

theorem wit_CurvesAndCodes : let c := keyed .number 0x040F 0xA1 0 (zeros 16) []; let s := withKeys (key 0xA1 0 0xFFFF) [c]
    KeyUsable c 1 (keyLimit s c.job) s ∧ KeyHere c shelved.secret shelved.pub s ∧ AtWork 0x040F 1 c s ∧ Passes [slotQuota s c] ∧
      Passes (numChecks s c.job [0] 0) ∧ RandomHere c (8 + pubLen 0xA1) s :=
  ⟨And.intro (Or.inl rfl) rfl, Or.inr ⟨_, _, rfl, rfl, rfl, rfl⟩, by decide, by decide, by decide, Or.inr (by decide)⟩

theorem wit_CurvesAndCodes_decaps : let c := keyed .number 0x0309 0xC1 0 [] [(0, zeros 194)]; let s := withKeys (key 0xC1 0 0xFFFF) [c]
    AtWork 0x0309 1 c s ∧ Passes [slotQuota s c] ∧ Passes (numChecks s c.job [0] 3) ∧ KeyHere c shelved.secret shelved.pub s :=
  ⟨by decide, by decide, by decide, Or.inr ⟨_, _, rfl, rfl, rfl, rfl⟩⟩

theorem wit_CurvesAndCodes_slots : Reached 0 (serving []) ∧ (serving []).enabled 7 = true ∧ 4 ≤ 64 % 128 ∧ 64 % 128 ≤ 64 := by decide

theorem wit_SymmetricVerbs : let c := keyed .sym 0x0601 1 0x200000 (16 :: 12 :: zeros 14) [(0, zeros 16), (3, zeros 12)]
    let s := withKeys (key 0xE1 2 0xFFFF) [c]
    AtWork 0x0601 1 c s ∧ Passes (symChecks s c.job) ∧ KeyUsable c (symCount c.job).1 (symLimit s c.job) s ∧
      KeyHere c shelved.secret shelved.pub s :=
  ⟨by decide, by decide, And.intro (Or.inr (Or.inr (by decide))) rfl, Or.inr ⟨_, _, rfl, rfl, rfl, rfl⟩⟩

theorem wit_TimeIsReadAndSet : let c := ask 0x0902 [255, 255, 255, 255, 255, 255, 255, 255]; let s := serving [c]
    AtWork 0x0902 1 c s ∧ Passes [paramZero c.job 0xFFFFFFFF, bodyIs c.job 8, famEnabled s c.job] ∧ s.time.quality.code < 2 ∧ Reached 0 s ∧
      s.pkg.pwrgdAon = true ∧ s.wakeable = false := by decide

theorem wit_TimeSourcesAndInputs : let s : State := { serving [] with tick := 10000000000, time := { State.reset.time with
      irig := { validSince := some 0 }, cfg := { State.reset.time.cfg with irigEn := true } } }
    (s.time.src .irig).validSince = some 0 ∧ (s.time.src .irig).qualified = false ∧ s.time.cfg.en .irig = true ∧
      0 + s.time.cfg.qualifyS * 1000000000 ≤ s.tick := by decide

/-- A stream of instance 0. -/
def stream (kind : Nat) : Stream :=
  { cfg := { kind := kind, owner := 0, srcMac := zeros 6, vlan := 0x1000, appid := 0, ports := 1, auth := 2, flags := 15, silenceMs := 10,
             rateCeil := 0, burst := 0, rateFloor := 0, failLimit := 0, failWindowMs := 0, quarS := 1, smpRate := 0, svAgeUs := 0,
             egress := 0 } }

/-- Stream 4,094 stands, and port 0 is an ENDPOINT whose link is up. -/
def framed (st : Stream) (q : List Egress) (cs : List Cmd) : State :=
  let s := serving cs
  { s with frames := { s.frames with streams := [(4094, st)], ports := [(0, { mode := .endpoint, link := true, queue := q })] } }

theorem wit_FrameConfiguration_subscribe : let c := ask 0x0802 [0xFE, 0x0F, 7, 2, 0, 0, 0, 0]; let s := framed (stream 3) [] [c]
    s.stream? (fld c.job.args 0 2) = some (stream 3) ∧ famEnabled s c.job = none ∧ paramZero c.job 0xFFFFFFFF = none ∧ AtWork 0x0802 1 c s ∧
      bodyIs c.job 8 = none ∧ fld c.job.args 2 1 ≤ 7 ∧ fld c.job.args 3 1 ≤ 2 ∧ zero? c.job.args 4 4 = true ∧
      (stream 3).cfg.owner = c.job.targetInst ∧ bit (stream 3).cfg.flags 3 = true := by decide

theorem wit_FrameConfiguration_key :
    let c := ask 0x0807 ([0xFE, 0x0F, 1, 32] ++ zeros 12 ++ [1] ++ zeros 7 ++ zeros 32); let s := framed (stream 3) [] [c]
    s.stream? (fld c.job.args 0 2) = some (stream 3) ∧ AtWork 0x0807 1 c s ∧ bodyIs c.job 0x38 = none ∧
      fld c.job.args 8 8 < fld c.job.args 0x10 8 ∧ keySuits 2 32 = true := by decide

theorem wit_FrameConfiguration_stream : let c := ask 0x0805 ([0xFE, 0x0F, 4, 0] ++ zeros 10 ++ [1, 0] ++ zeros 8 ++ [1, 0, 0, 0, 0, 0, 1, 0, 1, 0] ++ zeros 6); let s := framed (stream 3) [] [c]
    AtWork 0x0805 1 c s ∧ bodyIs c.job 0x28 = none ∧ (readStream c.job.args).ok = true ∧ zero? c.job.args 0x27 1 = true ∧
      (∀ e ∈ s.frames.streams, e.1 ≠ fld c.job.args 0 2 → (readStream c.job.args).overlaps e.2.cfg = false) := by decide

theorem wit_FrameConfiguration_port : let c := ask 0x0804 [15, 1, 0, 0, 0xEE, 5, 0xFF, 3]; let s := serving [c]
    AtWork 0x0804 1 c s ∧ bodyIs c.job 8 = none ∧ fld c.job.args 0 1 < 16 ∧ portMode (fld c.job.args 1 1) = .tap ∧ portSource s 15 = none ∧
      1518 ≤ fld c.job.args 4 2 := by decide

theorem wit_FramesAreSent_ring : let s := serving []
    Reached 0 s ∧ s.present 0 = true ∧ (s.fring 0 7).enable = false ∧ 16 ≤ (s.fring 0 7).log2 ∧
      (s.fring 0 7).base + 2 ^ (s.fring 0 7).log2 ≤ 2 ^ 64 := by decide

theorem wit_FramesAreSent_send :
    let c := { keyed .sym 0x0801 4094 0xFFFFFFFF [] [(0, zeros 60)] with prog := { phase := .ready } }; let s := framed (stream 3) [] [c]
    AtWork 0x0801 1 c s ∧ Passes [paramZero c.job 0xFFFFC000, check c.job.args.isEmpty .malformed, famEnabled s c.job, sendBad s c.job] ∧
      s.stream? (bits c.job.param.toNat 11 0) = some (stream 3) := by decide

theorem wit_FramesAreSent_egress : let e : Egress := { data := zeros 60, prio := 7, ttl := some 5, ingress := 0 }; let s := framed (stream 3) [e] []
    nextEgress (s.port 0).queue = some e ∧ s.canSend 0 = true ∧ e.send = none ∧ e.ttl = some 5 ∧ s.tick < e.ingress + 5 := by decide

theorem wit_FramesAreJudged :
    let st := { stream 3 with st := .active }; let b := zeros 12 ++ [0x88, 0xB8] ++ zeros 50; let s := framed st [] []
    s.linkUp 0 = true ∧ streamOf s 0 b = none ∧ st.silence = some 10000000 ∧
      (s.tick / 1000000000 = st.second ∧ st.st = .active) := by decide

theorem wit_FramesAreJudged_frame :
    let st := stream 1; let b := zeros 12 ++ [0x88, 0xB8] ++ zeros 50; let s := framed st [] []
    streamOf s 0 b = some 4094 ∧ s.stream? 4094 = some st ∧ st.cfg.kind ≠ 4 ∧ 60 ≤ b.length ∧ netLength (s.red 0) b ≤ (s.port 0).mtu ∧
      (parseFrame (s.red 0) b).et ≠ 0x88F7 ∧ redTag (s.red 0) b = none := by decide

theorem wit_FramesAreJudged_quarantine :
    let s : State := { framed { stream 1 with st := .quarantined, second := 4 } [] [] with tick := 5000000000 }
    s.stream? 4094 = some { stream 1 with st := .quarantined, second := 4 } ∧ 0 + (stream 1).cfg.quarS * 1000000000 ≤ s.tick ∧
      s.tick / 1000000000 = 4 + 1 := by decide

/-- A session of stream 4,094 under the key with handle index 0. -/
def session : Session :=
  { hstream := 7, role := 1, sigAlg := 0x11, windowUs := 100, waitUs := 0, cls := 0, format := 0, dst := [], pcp := 0, handle := 0, fromWin := 0 }

/-- Streams 4,094 and 7 stand with a session, and the key is in the shelf. -/
def harvested (x : Session) (cs : List Cmd) : State :=
  let s := withKeys (key 0x11 0 3) cs
  { s with
      tick := 1000000
      frames := { s.frames with
        streams := [(7, { stream 4 with cfg := { (stream 4).cfg with auth := 0 } }), (4094, stream 1)]
        ports := [(0, { mode := .endpoint, link := true })]
        sessions := [(4094, x)] } }

theorem wit_HarvestWindows_set :
    let c0 := ask 0x080A ([0xFE, 0x0F, 7, 0, 1, 0x11, 100, 0] ++ zeros 16); let c := { c0 with job := { c0.job with handle := 0 } }
    let s := harvested session [c]; let h : Stream := { stream 4 with cfg := { (stream 4).cfg with auth := 0 } }
    paramZero c.job 0xFFFFFFFF = none ∧ famEnabled s c.job = none ∧ s.stream? 4094 = some (stream 1) ∧ AtWork 0x080A 1 c s ∧
      bodyIs c.job 0x18 = none ∧ harvestForm c.job = true ∧ s.stream? 7 = some h ∧ harvestParams s c.job (stream 1) h = true ∧
      harvestPort s 1 h = true ∧ harvestKey s c.job 1 0 0x11 = none ∧ (s.session? 4094).isSome = true := by decide

theorem wit_HarvestWindows_close : let o : OpenWin := { win := 9, count := 1, first := 0, last := 0, chain := [] }
    let x := { session with window := some o }; let s := harvested x []
    s.session? 4094 = some x ∧ s.stream? 4094 = some (stream 1) ∧ (o.win + 1) * x.t ≤ s.tick ∧ s.anyInService = true := by decide

theorem wit_HarvestWindows_seal : let x := { session with sealing := [{ win := 9, record := [] }] }; let s := harvested x []
    sealStatus s x = none ∧ sealStatus s { x with handle := 1 } = some .badHandle ∧ (s.session? 4094).map (·.sealing) = some [{ win := 9, record := [] }] := by
  decide

theorem wit_HarvestWindows_verify : let x := { session with verify := [{ record := zeros 64, sig := [] }] }; let s := harvested x []
    s.key? x.handle = some (key 0x11 0 3) ∧ sealRegion s (key 0x11 0 3) = some 0 ∧ s.onShelf 0 0 1 = some shelved := by decide

/-- Region 0 in service with the random unit `g`, and region 1 in service with a spare seed. -/
def randomly (g : Rng) (cs : List Cmd) : State :=
  let s := serving cs
  { s with
      regions := (s.regions.map fun e => (e.1, { e.2 with rng := g })) ++
        [(1, { svc := { state := .inService }, rng := { state := .running, spare := true } })]
      vault := { s.vault with starKey := true } }

theorem wit_RandomBytesAreMade : let s := randomly { state := .running, samples := 1280 } []
    s.enabled 0 = true ∧ s.samples 0 = true ∧ (s.region 0).rng.lasting = false ∧ (s.region 0).rng.restarting = false ∧
      (s.region 0).rng.state = .running ∧ 1280 ≤ (s.region 0).rng.samples ∧ (s.region 0).rng.reservoir < 61440 ∧
      ¬ (67108864 ≤ (s.region 0).rng.since ∨ (s.region 0).rng.seedTick + 100000000 ≤ s.tick) := by decide

theorem wit_RandomBytesAreMade_due : let s := randomly { state := .running, since := 67108864, ready := true, reservoir := 61440 } []
    67108864 ≤ (s.region 0).rng.since ∧ (s.region 0).rng.state = .running ∧ (s.region 0).rng.ready = true ∧ 61440 ≤ (s.region 0).rng.reservoir := by
  decide

theorem wit_RandomBytesAreMade_startup : let s := randomly { state := .starting, ready := true } []
    s.enabled 0 = true ∧ (s.region 0).rng.state = .starting ∧ (s.region 0).rng.ready = true ∧ (s.region 0).svc.state = .inService ∧
      s.pkg.zeroized = false := by decide

theorem wit_SeedsAreBorrowed : let s := randomly { state := .hold, asked := true, donor := some 1 } []
    s.enabled 0 = true ∧ s.vault.starKey = true ∧ (s.region 0).rng.asked = true ∧ (s.region 0).rng.donor = some 1 ∧
      (s.region 0).rng.wrapped = false ∧ (s.region 1).rng.spare = true ∧ (s.region 1).rng.state = .running := by decide

theorem wit_SeedsAreBorrowed_advance : let s := randomly { state := .borrowed, lasting := true, since := 50331648, restarting := true } []
    (s.region 0).rng.state = .borrowed ∧ (s.region 0).rng.asked = false ∧ (s.region 0).rng.ready = false ∧ 50331648 ≤ (s.region 0).rng.since ∧
      (s.region 0).rng.restarting = true ∧ s.pkg.fuses.rngStrict = false ∧ s.faults.slotFor.isSome = true := by decide

/-- A draw of 64 bytes in region 0 that waits. -/
def drawing : Cmd :=
  { runs .number 0x0701 [] [] with prog := { (runs .number 0x0701 [] []).prog with phase := .running, need := 64, wait := some .random } }

theorem wit_RandomBytesAreDrawn : let s := serving [drawing]
    drawWaiters s 0 = [drawing] ∧ s.cmd? drawing.job.id = some drawing ∧ (s.region 0).rng.test = false ∧ 64 ≤ (s.region 0).rng.reservoir ∧
      s.tick < drawing.job.acceptTick + (s.region 0).rng.waitLimit * 1000000 ∧ seedWaiters s 0 = [] := by decide

theorem wit_RandomBytesAreDrawn_seed : let s0 := serving []
    let s := { s0 with regions := s0.regions.map fun e => (e.1, { e.2 with pans := [(0, awake), (1, awake), (3, awake)] }) }
    (seedWaiters s 0).head? = none ∧ (seedWaiters (s.modPan 0 3 fun p => { p with msg := { p.msg with seeded := false } }) 0).head? = some 3 := by
  decide

theorem wit_RandomBytesAreDrawn_generate : let c := { runs .number 0x0701 [] [] with job := { (runs .number 0x0701 [] []).job with param := 4096 } }
    let s := serving [c]
    AtWork 0x0701 1 c s ∧ Passes [check (c.job.param.toNat &&& 0xFFFFE000 == 0 && c.job.args.isEmpty) .malformed,
      check (decide (1 ≤ bits c.job.param.toNat 12 0) && decide (bits c.job.param.toNat 12 0 ≤ 4096)) .lengthMismatch, famEnabled s c.job] ∧
      RandomHere c 4096 s := ⟨by decide, by decide, Or.inr (by decide)⟩

theorem wit_RandomBytesAreDrawn_kat : let c0 := runs .number 0x0702 [] [(0, zeros 48)]
    let c := { c0 with job := { c0.job with
      param := 8
      frags := [{ addr := 0, len := 48, kind := .input, operand := 0, noSnoop := false },
        { addr := 0, len := 16, kind := .output, operand := 1, noSnoop := false }] } }
    let s := serving [c]
    AtWork 0x0702 1 c s ∧ c.job.pbit 3 = true ∧ (c.job.operand 0).length = 48 ∧ outCapacity c.job.frags 1 = 16 ∧ famEnabled s c.job = none := by
  decide

theorem wit_RandomBytesAreDrawn_raw : let c0 := runs .number 0x0703 [] []
    let c := { c0 with job := { c0.job with frags := [{ addr := 0, len := 16, kind := .output, operand := 1, noSnoop := false }] } }
    let s := serving [c]
    let t : State := { s with pkg := { s.pkg with mode := .factoryTest } }
    AtWork 0x0703 1 c s ∧ famEnabled s c.job = none ∧ s.pkg.mode ≠ .factoryTest ∧ AtWork 0x0703 1 c t ∧ outCapacity c.job.frags 1 = 16 := by decide

/-- The policy and parameters of a creation: all uses in `uses`, valid always, MIN_ORDER 2. -/
def policy (uses order : Nat) : List Byte :=
  zeros 4 ++ le 4 uses ++ zeros 8 ++ le 8 (2 ^ 64 - 1) ++ zeros 8 ++ [BitVec.ofNat 8 order] ++ zeros 47

/-- The vault holds an owner seed and the key, and instance 0 may hold eight handles. -/
def owned (k : KeyRec) (cs : List Cmd) : State :=
  let s := withKeys k cs
  { s with
      vault := { s.vault with ownerSeed := some (zeros 32) }
      insts := [(0, { cfg := { shelf := 64, slotKib := 4096, pins := 4, hcap := 8, cryst := 1 } })] }

theorem wit_KeysAreCreated_generate : let c := keyed .lattice 0x0201 3 0xFFFFFFFF (policy 4 2) []; let s := owned (key 3 0 3) [c]
    AtWork 0x0201 1 c s ∧ Passes (createChecks s c.job 0xFFFFFF00 0 (generates 3) true ++ [capOk s 0 3, slotQuota s c]) ∧
      MasksHere c (maskScale c.prog.order (maskBytes 3 3)) s ∧ RandomHere c (genDraw 3) s :=
  ⟨by decide, by decide, Or.inr (by decide), Or.inr (by decide)⟩

theorem wit_KeysAreCreated_import : let c := keyed .sym 0x0202 0xE1 0xFFFFFFFF (policy 0x20 0) [(0, zeros 16)]; let s := owned (key 0xE1 2 3) [c]
    AtWork 0x0202 1 c s ∧ Passes (createChecks s c.job 0xFFFFFC00 2 (importKnown c.job) (importLens c.job false) ++
      [check (importClass c.job != 1 && c.job.inst == 0) .notPermitted, capOk s 0 0xE1]) := by decide

theorem wit_KeysAreCreated_derive : let c := keyed .hash 0x0203 0x54E1 0x300000 (policy 0x20 0) [(0, zeros 8)]; let s := owned { key 0xE8 3 0xFFFF with size := 32 } [c]
    AtWork 0x0203 1 c s ∧ jobKey s c.job = some { key 0xE8 3 0xFFFF with size := 32 } ∧
      Passes (keyChecks s c.job [2, 3] (· == 0xE8) 11 (fun _ => true) :: createChecks s c.job 0xFFFF0000 3 (isSym c.job.alg && kdfFunc 0x54)
        (decide ((c.job.operand 0).length ≤ 255)) ++ [capOk s 0 c.job.alg, deriveStep8 s c.job 0x54 { key 0xE8 3 0xFFFF with size := 32 }]) ∧
      KeyUsable c 1 (keyLimit s c.job) s ∧ KeyHere c shelved.secret shelved.pub s :=
  ⟨by decide, by decide, by decide, And.intro (Or.inl rfl) rfl, Or.inr ⟨_, _, rfl, rfl, rfl, rfl⟩⟩

/-- The head of a blob of KEY_ID `n` of a key of instance 0. -/
def blob (n : Nat) : List Byte := ascii "EXMBLOB1" ++ [1, 0, 3, 0, 0, 1] ++ zeros 10 ++ le 8 n ++ zeros 40

theorem wit_KeysAreLoadedAndUpdated : let c := keyed .lattice 0x0204 0 0xFFFFFFFF [] [(0, blob 1)]; let s := owned (key 3 0 3) [c]
    AtWork 0x0204 1 c s ∧ loadHasPub c.job (readHdr (c.job.operand 0)) = true ∧ s.vault.ownerSeed.isSome = true ∧
      s.keyById 0 (readHdr (c.job.operand 0)).keyId = some (key 3 0 3) ∧ (s.onShelf c.rgn 0 1).isSome = true := by decide

theorem wit_KeysAreLoadedAndUpdated_new : let c := keyed .lattice 0x0204 0 0xFFFFFFFF [] [(0, blob 2)]; let s := owned (key 3 0 3) [c]
    AtWork 0x0204 1 c s ∧ s.keyById 0 (readHdr (c.job.operand 0)).keyId = none ∧ capOk s 0 0 = none := by decide

theorem wit_KeysAreLoadedAndUpdated_update : let c := ask 0x020C []; let s := owned (key 3 0 3) [c]
    AtWork 0x020C 1 c s ∧ s.lcState ≠ 4 ∧ s.lcState ≠ 5 ∧ fld (c.job.operand 0) 0x48 4 = 0 := by decide

theorem wit_KeysAreManaged : let c0 := ask 0x0206 []; let c := { c0 with job := { c0.job with handle := 0 } }; let s := owned (key 3 0 3) [c]
    jobKey s c.job = some (key 3 0 3) ∧ checkHandle s c.job (fun _ => true) = none ∧ keyUsers s 1 true (key 3 0 3) = [] ∧
      keyStands s (key 3 0 3) = false ∧ AtWork 0x0206 1 c s := by decide

theorem wit_KeysAreManaged_pin : let c := keyed .lattice 0x0207 0 0 [] []; let s := owned (key 3 0 3) [c]
    AtWork 0x0207 1 c s ∧ granules (latticeAlg 3) ≠ 0 ∧ crystPinned (s.region c.rgn) 0 + granules (latticeAlg 3) ≤ 46 * (s.inst 0).cfg.cryst := by
  decide

theorem wit_KeysAreManaged_mce : let c := { keyed .lattice 0x0207 0 0 [] [] with prog := { phase := .running, region := some 0 } }
    let s := owned (key 0xC1 1 3) [c]
    AtWork 0x0207 1 c s ∧ famOf 0xC1 = some .mce ∧ pinOf s c.rgn (key 0xC1 1 3) = none ∧ pinRoom s c.rgn 0 = true := by decide

theorem wit_KeysAreManaged_transfer : let c := keyed .lattice 0x020B 0 0 [] []; let s := owned (key 3 0 3) [c]
    AtWork 0x020B 1 c s ∧ (key 3 0 3).attr 1 = false ∧ (key 3 0 3).attr 7 = false ∧ s.vault.ownerSeed.isSome = true ∧
      KeyHere c shelved.secret shelved.pub s := ⟨by decide, by decide, by decide, by decide, Or.inr ⟨_, _, rfl, rfl, rfl, rfl⟩⟩

theorem wit_KeysAreManaged_attest : let c0 := ask 0x0208 (zeros 32)
    let c := { c0 with job := { c0.job with handle := 0 }, prog := { phase := .running, region := some 0 } }; let s := owned (key 3 0 3) [c]
    AtWork 0x0208 1 c s ∧ jobKey s c.job = some (key 3 0 3) ∧ Passes [checkHandle s c.job fun _ => true, paramZero c.job 0xFFFFFFFF, bodyIs c.job 32] ∧
      KeyHere c shelved.secret shelved.pub s ∧ RandomHere c attestDraw s ∧ (sealPan s c.rgn (identityMask s c.rgn) none).isSome = true ∧
      ∀ p ∈ panNums, (sealCheckPlace s c.rgn p).isSome = true :=
  ⟨by decide, by decide, by decide, Or.inr ⟨_, _, rfl, rfl, rfl, rfl⟩, Or.inr (by decide), by decide, by decide⟩

theorem wit_KeysAreManaged_list : let c := ask 0x0209 []; let s := owned (key 3 0 3) [c]
    AtWork 0x0209 1 c s ∧ key 3 0 3 ∈ s.vault.handles ∧ (key 3 0 3).dead = false ∧ s.vault.handles.length ≤ 254 := by decide

theorem wit_KeysAreManaged_identity : AtWork 0x020A 1 (ask 0x020A []) (owned (key 3 0 3) [ask 0x020A []]) := by decide

theorem wit_VaultRows : let s := owned (key 3 0 3) []
    Reached 0 s ∧ s.vault.hsel < 256 ∧ s.enabled 0 = true ∧ s.pkg.mode.mainPower = true ∧
      ({ s with vault := { s.vault with rootReady := false } } : State).batteryDue = false ∧ (tfind s.regions 0).isSome = true := by decide

/-- A long operation word (R362). -/
def word (op rd rs1 low : Nat) : Nat := op * 2 ^ 24 + rd * 2 ^ 19 + rs1 * 2 ^ 14 + low

/-- Core `c` stands at `pc` with g2 4,096, g3 5 and a handler. -/
def onCore (c : CoreId) (pc : Nat) : State :=
  { serving [] with cores := [(c, { pc := pc, g := [(2, 4096), (3, 5)], ctl := [(0x020, 0x1000100)] })] }

/-- Lattice core 0 of region 0 at the first word of its store. -/
def onCell : State := onCore (.lattice 0 0) 0x01000000

theorem wit_AtWord : AtWord (.lattice 0 0) 0 (onCell.core (.lattice 0 0)) onCell := by unfold AtWord AtAnyWord; decide

theorem wit_AtWord_skanel : let s := onCore .skanel 0x100; AtWord .skanel 0 (s.core .skanel) s := by unfold AtWord AtAnyWord; decide

theorem wit_IntegerWords : let k := onCell.core (.lattice 0 0)
    kclass (word 1 31 3 0) = some .alu ∧ wOP (word 1 31 3 0) = 1 ∧ wFN (word 1 31 3 13) = 13 ∧ kclass (word 8 0 3 2) = some .macU ∧
      kclass (word 0x61 3 0 0x030) = some .ctlwr ∧ ctlRead (.lattice 0 0) k 0x030 = some 0 ∧
      (ctlWrite (.lattice 0 0) k 0x030 5).isSome = true ∧ kclass 0x84640906 = some .paired ∧ kclass 0 = none ∧
      noHandler (.lattice 0 0) k = false := by decide

theorem wit_IntegerWords_paired : let k := onCell.core (.lattice 0 0)
    ∃ p q, shortOp k (bits 0x84640906 30 16) = some p ∧ shortOp k (bits 0x84640906 15 1) = some q ∧ bit 0x84640906 0 = false ∧ p.clash q = false :=
  ⟨_, _, rfl, rfl, by decide, by decide⟩

theorem wit_MemoryWords : let k := onCell.core (.lattice 0 0)
    kclass (word 0x13 4 2 0) = some .ld ∧ (k.readBytes (.lattice 0 0) none 4096 8).isSome = true ∧ kclass (word 0x1B 4 2 0) = some .st ∧
      kclass (word 0x18 4 2 1) = some .st ∧ kclass (word 0x1C 4 0 0x3000) = some .lda ∧ addrUpdate k (word 0x1C 4 0 0x3000) = some 0 ∧
      kclass (word 0x32 4 2 0) = some .fld ∧ kclass (word 0x33 4 2 0) = some .fst ∧ kclass (word 0x42 4 2 0) = some .vld ∧
      kclass (word 0x42 4 2 2) = some .vldFirst ∧ kclass (word 0x43 4 2 0) = some .vst ∧ 4096 % k.ew = 0 ∧ k.ew = 4 ∧ k.rc kVSTART = 0 := by
  decide

theorem wit_MemoryWords_first : let k := { onCell.core (.lattice 0 0) with vl := 2, g := [(2, (CoreId.lattice 0 0).lmemBytes - 4)] }
    ∃ i e y, vloads (.lattice 0 0) none (word 0x42 4 2 2) k (vrange k) (k.rv 4) = (y, some (i, e)) ∧ i ≠ (k.rc kVSTART).toNat :=
  ⟨1, _, _, rfl, by decide⟩

theorem wit_ControlWords : let k := onCell.core (.lattice 0 0)
    kclass (word 0x20 3 3 0x2800) = some .branch ∧ bits (word 0x20 3 3 0x2800) 13 11 = 5 ∧ kclass (word 0x21 0 0 1) = some .jmp ∧
      kclass (word 0x23 0 2 0) = some .jmpr ∧ kclass (word 0x28 0 0 2) = some .loop ∧ k.inh = false ∧ kclass (word 0x29 3 0 0) = some .rep ∧
      kclass (word 0x2A 3 0 0) = some .repi ∧ kclass (word 2 4 4 1) = some .alu ∧ kclass (word 0x70 0 0 0) = some .fence ∧
      kclass (word 0x70 0 0 0x0800) = some .wfi ∧ kclass (word 0x70 0 0 0x1000) = some .rete ∧ kclass (word 0x70 0 0 0x1FFF) = some .trap ∧
      kclass (word 0x70 0 0 0x2000) = some .break := by decide

theorem wit_ControlWords_interrupt : let s : State := { onCell with cores := [(.lattice 0 0, { onCell.core (.lattice 0 0) with ie := true })] }
    (s.core (.lattice 0 0)).pending = [] ∧ (s.core (.lattice 0 0)).ie = true ∧ (s.core (.lattice 0 0)).flight = [] := by decide

theorem wit_DataWords : let k := onCell.core (.lattice 0 0)
    kclass (word 0x30 4 3 0) = some .fp ∧ kclass (word 0x31 4 3 0x107) = some .packed ∧ bits (word 0x31 4 3 0x107) 8 7 ≠ 3 ∧
      kclass (word 0x40 4 3 8) = some .setvl ∧ kclass (word 0x50 4 3 0) = some .datapath ∧ dpOn (.lattice 0 0) 0x50 = true ∧
      kclass (word 0x41 4 3 10) = some .vArith ∧ kclass (word 0x44 4 3 5) = some .vMove ∧ 0 < 8 * k.ew ∧
      k.vl * (8 * k.ew) ≤ (CoreId.lattice 0 0).vlen := by decide

theorem wit_DataWords_fp : ∃ n m e, f64.unpack 0x3FF0000000000000 = .fin n m e ∧ m ≠ 0 := ⟨_, _, _, rfl, by decide⟩

theorem wit_CallsAndReturns : let k := onCell.core (.lattice 0 0); let sp := k.rg 2 - 8
    kclass (word 0x22 0 0 1) = some .call ∧ (k.rc kSLIM).toNat ≤ sp.toNat ∧ sp.toNat % 8 = 0 ∧ sp.toNat + 8 ≤ (CoreId.lattice 0 0).lmemBytes ∧
      kclass (word 0x24 0 3 0) = some .callr ∧ kclass (word 0x25 0 0 0) = some .ret ∧ (k.readBytes (.lattice 0 0) none 4096 8).isSome = true := by
  decide

theorem wit_CallsAndReturns_limit : let k := { onCell.core (.lattice 0 0) with ctl := [(0x020, 0x1000100), (0x028, 8192)] }
    noHandler (.lattice 0 0) k = false ∧ (k.rg 2 - 8).toNat < (k.rc kSLIM).toNat := by decide

theorem wit_CallsAndReturns_line : let k := { onCell.core (.lattice 0 0) with g := [(2, 4097)] }
    noHandler (.lattice 0 0) k = false ∧ (k.rc kSLIM).toNat ≤ (k.rg 2 - 8).toNat ∧ (k.rg 2 - 8).toNat % 8 ≠ 0 := by decide

/-- A customer package of instance 0 with one routine, number 768, whose words are `ws`. -/
def package (poll : Bool) (ws : List Nat) : CustPkg :=
  { id := 1, version := 1, base := 0x3000, instMask := 1, words := ws, bytes := [],
    routines := [{ number := 768, entry := 0x3000, poll := poll, cell := 1, scratchKib := 0, saveKib := 0, maxUs := 1, nin := 1, nout := 1 }] }

/-- The job of CUST.RUN that runs the routine on lattice cell 0 of region 0. -/
def running : Cmd := { runs .lattice 0x1001 [] [] with job := { (runs .lattice 0x1001 [] []).job with param := 768 } }

/-- A routine of that package at its entry. -/
def routine (poll : Bool) (ws : List Nat) : CustRun :=
  { job := some 1, core := .lattice 0 0, pkg := package poll ws, pc := 0x3000, counter := 4095, stack := [0x3001],
    rt := { number := 768, entry := 0x3000, poll := poll, cell := 1, scratchKib := 0, saveKib := 0, maxUs := 1, nin := 1, nout := 1 } }

/-- The package is loaded, and the routine runs. -/
def customers (x : CustRun) : State :=
  let s := serving [running]
  { s with cust := { s.cust with pkgs := [(0, x.pkg)], runs := [x] } }

theorem wit_CustomerRoutines : let x := routine false [2 * 2 ^ 18 + 0x3002]; let s := customers x
    s.run? (.lattice 0 0) = some x ∧ s.runLive x = true ∧ s.frozen (.lattice 0 0) = false ∧ x.inRun = false ∧
      x.word? x.pc = some (2 * 2 ^ 18 + 0x3002) ∧ cTYPE (2 * 2 ^ 18 + 0x3002) = 0 ∧ cXDIR (2 * 2 ^ 18 + 0x3002) = 0 ∧ x.rt.poll = false ∧
      cSEQ (2 * 2 ^ 18 + 0x3002) = 2 ∧ x.stack.length < 4 ∧ s.cmd? 1 = some running := by decide

theorem wit_CustomerRoutines_watch : let x := { routine true [] with mark := 0 }
    let s0 := customers x; let s : State := { s0 with cores := [(.lattice 0 0, { pc := 0, cycle := 4097 })], tick := 5000 }
    s.run? (.lattice 0 0) = some x ∧ s.runLive x = true ∧ s.watchDue x = true ∧ s.maxDue x = true ∧ s0.watchDue x = false := by decide

theorem wit_CustomerRoutines_yield : let c := { running with job := { running.job with cls := 2 } }
    let d : Cmd := { job := { running.job with id := 2, cls := 1 }, prog := { phase := .acked, region := some 0 } }
    let x := routine true []; let s0 := customers x; let s : State := { s0 with cmds := [c, d], tick := 1000000000 }
    s.cmd? 1 = some c ∧ x.job = some 1 ∧ yieldDue s c (s.region c.rgn).cust.quantumUs = true := by decide

/-- A package file with no valid signature: one routine of one word. -/
def packageFile : List Byte :=
  ascii "EXMCUST1" ++ zeros 56 ++ [1, 0, 1, 0, 0, 0x30, 1, 0, 1, 0, 0x13] ++ zeros 5 ++ [1] ++ zeros 31 ++
    ([0, 3, 0, 0x30, 0, 1, 0, 0, 0, 0, 1, 0, 1, 1] ++ zeros 2) ++ zeros 20 ++ zeros 4627

set_option maxRecDepth 40000 in
theorem wit_CustomerVerbs_load : (readRoutines packageFile 0x70 1).isSome = true ∧ fld packageFile 8 8 = 0 ∧
    pkgBody packageFile + sigLen 0x13 = 4775 := by decide

theorem wit_CustomerVerbs : let c := ask 0x1003 [1, 0, 0, 0]; let s : State := { customers (routine false []) with cmds := [c] }
    AtWork 0x1003 1 c s ∧ familyOn s 0x10 = true ∧ zero? c.job.args 2 2 = true ∧
      s.cust.pkgs.find? (fun e => e.2.id == fld c.job.args 0 2) = some (0, package false []) := by decide

theorem wit_CustomerVerbs_list : AtWork 0x1004 1 (ask 0x1004 []) (serving [ask 0x1004 []]) ∧ AtWork 0x1002 1 (ask 0x1002 []) (serving [ask 0x1002 []]) := by
  decide

theorem wit_CustomerVerbs_run : let s0 := customers (routine false []); let s : State := { s0 with cust := { s0.cust with runs := [] } }
    AtWork 0x1001 1 running s ∧ (∀ y ∈ s.cust.runs, y.job ≠ some 1) ∧ running.job.param.toNat / 1024 = 0 ∧ running.job.handle = nullHandle ∧
      s.routine? 768 = some (0, package false [], (routine false []).rt) ∧ bit 1 running.job.inst = true ∧
      custOperands (routine false []).rt running.job = true ∧ slotQuota s running = none ∧ running.prog.unit = some (.lattice, 0, 0) := by decide

theorem wit_RegionsLeaveAndReturn_out : let c := ask 0x0B01 [0, 1, 0x60, 0xEA]; let s := serving [c]
    s.enabled 0 = true ∧ fld c.job.args 0 1 = 0 ∧ Passes [paramZero c.job 0xFFFFFFFF, famEnabled s c.job] ∧ AtWork 0x0B01 1 c s ∧
      bodyIs c.job 4 = none ∧ fld c.job.args 1 1 < 2 ∧ 1 ≤ fld c.job.args 2 2 ∧ fld c.job.args 2 2 ≤ 60000 ∧
      (s.region 0).svc.state = .inService ∧ fld c.job.args 1 1 = 1 := by decide

theorem wit_RegionsLeaveAndReturn_back : let c := ask 0x0B02 [0, 1]; let s := regionIn .diked [c]
    AtWork 0x0B02 1 c s ∧ Passes [paramZero c.job 0xFFFFFFFF, famEnabled s c.job] ∧ bodyIs c.job 2 = none ∧ fld c.job.args 1 1 < 2 ∧
      s.debugHeld 0 = false ∧ (s.region 0).svc.state = .diked ∧ (s.region 0).path.wiped = true ∧ waitingFor s 0x0B02 0 0 = [] := by decide

theorem wit_RegionsAreTended : let s := serving []
    s.enabled 0 = true ∧ s.faults.slotFor = some 0 ∧ Reached 0 s ∧ (s.pan 0 3).svc.waking = none ∧ (s.pan 0 3).svc.pwr = .idle ∧
      (s.region 0).svc.mod0 = 2 ∧ (s.region 0).svc.state = .inService ∧ s.life.opening = none := by decide

/-- A record that awaits its acknowledgement until tick 10,000. -/
def pended (cls : FClass) (on : FUnit) : State :=
  let s := { serving [] with tick := 9999 }
  { s with faults := { s.faults with
      head := 5, pending := [{ fseq := 5, expiry := 10000 }], tests := [{ on := on, fseq := 5, cls := cls, endBy := 20000 }],
      ring := [(0, { fseq := 5, tick := 1, cls := cls, on := on, cause := .watchdog, from' := cls })] } }

theorem wit_RecordsAreAcknowledgedAndResolve_ack : let s : State := { pended .contain (panUnit 0 0) with
      faults := { (pended .contain (panUnit 0 0)).faults with ackLo := 5 } }
    Reached 0 s ∧ ∃ p ∈ s.faults.pending, p.fseq = s.faults.ackLo + 2 ^ 32 * (0 % 2 ^ 32) ∧ s.tick < p.end := by decide

theorem wit_RecordsAreAcknowledgedAndResolve_expiry : let s := { pended .contain (panUnit 0 0) with tick := 10000 }
    s.pkg.halted = false ∧ 5 ≤ s.faults.head ∧ (∃ p, s.faults.pending.find? (fun p => p.fseq == 5) = some p ∧ p.end ≤ s.tick) ∧
      (∃ rec, (s.faults.ring.map (·.2)).find? (fun r => r.fseq == 5) = some rec ∧ rec.cls = .contain ∧ rec.escalates = some 0) ∧
      s.enabled 0 = true ∧ (s.region 0).svc.state.fenceable = true ∧
      ({ s.faults with pending := s.faults.pending.filter fun x => !(x.fseq == 5) } : Faults).slotFor = some 1 :=
  ⟨rfl, by decide, ⟨_, rfl, by decide⟩, ⟨_, rfl, rfl, by decide⟩, by decide, by decide, by decide⟩

theorem wit_FaultsAreRecordedAndInjected : let s := inMode .factoryTest
    s.faults.slotFor = some 0 ∧ s.unitThere 0 .lattice 31 = true ∧ s.enabled 7 = true ∧ Reached 0 s ∧
      injectUnit 0x80001001 = some (cellUnit 0 .lattice 0) ∧ FCause.ofCode (bits 0x80001001 7 0) = some .eccCorr ∧
      injectedClass .eccCorr (cellUnit 0 .lattice 0) s.pkg.fuses.rngStrict false = .note := by decide

theorem wit_JournalIsKept_read : let c := ask 0x0A01 [0, 0, 0, 0, 0, 0, 0, 0, 1, 0, 0]; let s := serving [c]
    AtWork 0x0A01 1 c s ∧ Passes [paramZero c.job 0xFFFFFFFF, bodyIs c.job 11,
        check (decide (1 ≤ fld c.job.args 8 2) && decide (fld c.job.args 8 2 ≤ 16384)) .malformed, famEnabled s c.job,
        check (c.job.admin || fld c.job.args 10 1 == c.job.inst) .notPermitted] := by decide

theorem wit_JournalIsKept_signed : let s : State := { serving [] with jrn := { State.reset.jrn with cpOpen := some (cpBody State.reset) } }
    regionNums.find? s.inService = some 0 ∧ attestDraw ≤ (s.region 0).rng.reservoir ∧ (sealPan s 0 0 none).isSome = true ∧
      (sealCheckPlace s 0 0).isSome = true ∧ (s.jrn.cpHalt.or s.jrn.cpOpen).isSome = true ∧ s.journals = true ∧
      s.pkg.zeroized = false := by decide

theorem wit_ImageVerbs : let c := ask 0x0C02 [3, 0, 0, 0]; let s := serving [c]
    AtWork 0x0C02 1 c s ∧ Passes (kindChecks s c.job 4 ++ [check (s.mgmt.agent != some .pldm) .deferred]) := by decide

/-- Management firmware runs, `act` the activation under way. -/
def managed (act : Option (Option Nat × Nat)) (cs : List Cmd) : State :=
  { serving cs with mgmt := { State.reset.mgmt with running := true, activating := act } }

theorem wit_FirmwareStartsAndLapses : let c := ask 0x0C03 [1, 0, 0, 0, 0]
    let s := { managed (some (some 1, 0)) [c] with tick := 40000000 }
    s.beats = true ∧ s.cmd? 1 = some c ∧ s.tick ≤ 0 + 40000000 := by decide

theorem wit_FirmwareStartsAndLapses_watchdog : let s := managed none []
    s.mgmt.running = true ∧ s.mgmt.alive = false ∧ s.mgmt.activating = none ∧ s.mgmt.held = false ∧ s.pkg.halted = false ∧
      s.btn.freeze = none ∧ s.faults.slotFor ≠ none := by decide

theorem wit_ManagementMessages : let s : State := { managed none [] with
      mgmt := { (managed none []).mgmt with agent := some .pldm, pldm := { st := .ready } } }
    s.pldmUp = true ∧ s.mgmt.agent = some .pldm ∧ s.mgmt.pldm.st = .ready ∧ componentOk s 3 0x200000 = true := by decide

theorem wit_AcknowledgementOverMctp : let s : State := { pended .contain (panUnit 0 0) with
      mgmt := { State.reset.mgmt with running := true, spdm := [{ slot := 3, doe := false }] } }
    s.mctpUp = true ∧ (∃ x, s.mgmt.spdm[0]? = some x ∧ 1 ≤ x.slot ∧ x.slot ≤ 3) ∧
      ∃ p ∈ s.faults.pending, p.fseq = 5 ∧ s.tick < p.end :=
  ⟨by decide, ⟨_, rfl, by decide⟩, by decide⟩

/-- A unit whose life cycle stands at CLEARED. -/
def cleared (cs : List Cmd) : State :=
  let s := serving cs
  { s with life := { s.life with otp := { s.life.otp with lcCount := 1 } } }

theorem wit_LifeCycleTransitions : let c := ask 0x0D02 []; let s := serving [c]
    AtWork 0x0D02 1 c s ∧ firstBad (paramZero c.job 0xFFFFFFFF :: famEnabled s c.job :: lcChecks s c.job.request) = some .malformed := by
  decide

theorem wit_DebugSessions : let c := ask 0x0D03 [1, 0, 0, 0]; let s : State := { cleared [c] with
      life := { (cleared [c]).life with otp := { (cleared [c]).life.otp with ownerCfg := 1 :: zeros 31 } } }
    AtWork 0x0D03 1 c s ∧ s.lcState = 4 ∧ Passes [paramZero c.job 0xFFFFFFFF, famEnabled s c.job] ∧
      Passes (debugChecks s c.job.request c.job.acceptTick c.job.acceptTq) ∧ (debugAsk c.job.request).regions % 256 = 1 := by decide

theorem wit_TestAccessPort : let s : State := { cleared [] with
      life := { (cleared []).life with session := some { byCert := false, rights := 31, held := 1, notAfter := max64 } } }
    s.pkg.mode.mainPower = true ∧ s.right 0 = true ∧ s.holdsCore (.lattice 0 31) = true ∧ s.lcState = 4 ∧
      spaceOk s (.register 0 0) = true := by decide

theorem wit_MonitorsAreTendedAndTested : let s := serving []
    s.pkg.mode.mainPower = true ∧ s.faults.slotFor = some 0 ∧ s.monitor 0x50 = true ∧ twoBands 0x50 = true ∧
      s.tamper.stimAt ≤ s.tick ∧
      (monitorList.filter fun x => s.monitor x && hasDetector x)[s.tamper.rotation %
        (monitorList.filter fun x => s.monitor x && hasDetector x).length]? = some 0x00 := by decide

theorem wit_MonitorsAreTendedAndTested_test : let c := ask 0x0E01 [5, 8]; let s := serving [c]
    AtWork 0x0E01 1 c s ∧ Passes [paramZero c.job 0xFFFFFFFF, bodyIs c.job 2, famEnabled s c.job,
      check (decide (fld c.job.args 1 1 < 16) && s.monitor 0x58 && hasDetector 0x58) .paramUnsupported] := by decide

theorem wit_EraseWipesAndBurns : let c := ask 0x0E02 []; let s := serving [c]
    s.tamperCounts 0x3A = false ∧ s.tamperCounts 0x37 = true ∧ s.suppressed 0x37 = false ∧ s.empSoft = false ∧
      heldFor s 10000 ≤ 10000 ∧ s.zeroizeDis = false ∧ AtWork 0x0E02 1 c s ∧
      Passes [paramZero c.job 0xFFFFFFFF, bodyIs c.job 0, famEnabled s c.job] := by decide

theorem wit_EraseWipesAndBurns_backup : (inMode .backup).tamperCounts 0x48 = true ∧ heldFor (inMode .backup) 10000 ≤ 2000000 := by decide

/-- A card of `n` blocks is seated, powered and formatted. -/
def carded (n : Nat) (op : Option CardOp) (cs : List Cmd) : State :=
  { serving cs with card := { State.reset.card with
      present := true, powered := true, formatted := true, railOk := true, blocks := n, op := op } }

theorem wit_CardPort : let s := serving []
    s.cardPort = true ∧ s.card.present = false ∧ s.card.notBefore ≤ s.tick ∧ s.card.railOk = true := by decide

theorem wit_CardPort_bus : let c := ask 0x0F02 [0, 0, 0, 0]
    let s := carded 100 (some { job := 1, phase := .header1, lba := 0, header := [], busy := true }) [c]
    s.cmd? 1 = some c ∧ s.card.ejecting = false ∧ s.card.op.any (·.busy) = true := by decide

theorem wit_CardVerbs_list : let c := ask 0x0F04 [0, 0, 0, 0]; let s := carded 100 none [c]
    AtWork 0x0F04 1 c s ∧ Passes (bodyIs c.job 4 :: check (zero? c.job.args 2 2) .malformed :: cardChecks s c.job false) := by decide

theorem wit_CardVerbs_format : let c := ask 0x0F02 [0, 0, 0, 0]; let s := carded 100 none [c]
    AtWork 0x0F02 1 c s ∧ Passes (bodyIs c.job 4 :: check (zero? c.job.args 0 4) .malformed :: cardChecks s c.job true ++
      [check s.anyInService .noRegion]) := by decide

theorem wit_BootReachesSelfTest : let s := State.reset; let b : BootIn := { otpOk := true, pufOk := true, banks := 0x15, rgnMv := 750, apxMv := 800 }
    s.life.otp.progress.find? (fun e => bit e.2 4 && !bit e.2 15) = none ∧ s.pkg.mode = .boot ∧ s.pkg.booting = true ∧
      s.pkg.halted = false ∧ b.otpOk = true ∧ b.pufOk = true ∧ s.life.otp.pufHelper = true ∧ s.lcState ≠ 0 ∧ s.lcState ≠ 6 ∧
      ∀ k ∈ [1, 2, 3], b.none k = false := by decide

theorem wit_BootReachesSelfTest_wake : (inMode .standby).wakeable = true := by decide

theorem wit_PowerComesAndGoes : (serving []).pkg.mode.mainPower = true ∧ (serving []).pkg.pwrgdAon = true ∧
    (inMode .selfTest).pkg.halted = false ∧ regionNums.all (inMode .selfTest).tested = true := by decide

/-! ### Ill-formed commands: one for each check -/

theorem test_wf : Instr.wf (.regionDrained 7) = true ∧ Instr.wf (.dupMismatch 7 .lattice 31 false) = true ∧
    Instr.wf (.kInterruptEntry (.panCtl 7 3) 31) = true := by decide
theorem test_wf_region : Instr.wf (.regionDrained 8) = false := by decide
theorem test_wf_pan : Instr.wf (.panWakeComplete 0 4) = false := by decide
theorem test_wf_port : Instr.wf (.framePortLinkChange 16 true) = false := by decide
theorem test_wf_inst : Instr.wf (.flrStart 256) = false := by decide
theorem test_wf_queue : Instr.wf (.sqEnable 0 32) = false := by decide
theorem test_wf_fring : Instr.wf (.frameRingEnable 0 8 0) = false ∧ Instr.wf (.coalesceTimerExpiry 0 (.frame 8)) = false := by decide
theorem test_wf_word : Instr.wf (.sqDoorbell 0 0 (2 ^ 32)) = false := by decide
theorem test_wf_dword : Instr.wf (.digWinData true 2 (2 ^ 64)) = false := by decide
theorem test_wf_part : Instr.wf (.digWinData true 3 0) = false := by decide
theorem test_wf_offset : Instr.wf (.mailboxBufferWrite 0 4096 0) = false := by decide
theorem test_wf_ide : Instr.wf (.ideStreamFailure 33) = false := by decide
theorem test_wf_stream : Instr.wf (.streamSilenceExpiry 4095) = false := by decide
theorem test_wf_die_level : Instr.wf (.thermalThreshold 9 0 true) = false ∧ Instr.wf (.thermalThreshold 8 5 true) = false := by decide
theorem test_wf_pin : Instr.wf (.tampInAssert 4 true 0) = false := by decide
theorem test_wf_unit : Instr.wf (.dupMismatch 0 .number 8 false) = false ∧ Instr.wf (.dupMismatch 0 .vault 1 false) = false := by decide
theorem test_wf_core_source : Instr.wf (.kInterruptEntry (.steward 8) 0) = false ∧ Instr.wf (.kInterruptEntry .skanel 32) = false := by decide

/-! ### Worked examples of the spec -/

/-- R525's example: VDD_RGN3 to 785 mV at 10 mV/us. -/
theorem test_setpoint_frame : setpointFrame 3 785 10 = 0x37110A83 := by decide

/-- R364's example: one paired word exchanges g3 and g4. -/
theorem test_paired_exchange : let s := onCore (.lattice 0 0) 0x01000000
    ((match exec (.kPairedWord (.lattice 0 0) 0 0x84640906) s with
      | .next t => some ((t.core (.lattice 0 0)).rg 3, (t.core (.lattice 0 0)).rg 4)
      | _ => none) = some (0, 5)) := by decide

/-- Eight words of 64 bits through the ring of a1 in bit-reversed order. -/
def reversed : Nat → Nat → List Nat
  | 0, _ => []
  | n + 1, a =>
    let k : Core := { (onCore (.number 0 0) 0x01000000).core (.number 0 0) with ctl := [(0x041, 0x2000), (0x049, 64), (0x051, BitVec.ofNat 64 a)] }
    (a - 0x2000) / 8 :: reversed n ((addrUpdate k (word 0x1E 8 4 0x3000 + 0x8000)).getD 0)

/-- R378's example: Y indices 0, 4, 2, 6, 1, 5, 3 and 7. -/
theorem test_bit_reversed_order : reversed 8 0x2000 = [0, 4, 2, 6, 1, 5, 3, 7] := by decide

/-- R244's example: the nonces of segments 1 and 2. -/
theorem test_segment_nonces :
    let n : List Byte := [0x3C, 0x81, 0x0F, 0x6E, 0xA2, 0x57, 0xD4, 0x19, 0x6B, 0x02, 0xE5, 0x90]
    let j (i p : Nat) : Job := { (ask 0x0602 ([16, 12, 18, 0] ++ le 4 i)).job with param := BitVec.ofNat 32 p }
    segNonce (j 1 1025) n = [0x3C, 0x81, 0x0F, 0x6E, 0xA2, 0x57, 0xD4, 0x19, 0x6B, 0x02, 0xE4, 0x90] ∧
      segNonce (j 2 3073) n = [0x3C, 0x81, 0x0F, 0x6E, 0xA2, 0x57, 0xD4, 0x19, 0x6B, 0x02, 0xE7, 0x91] := by decide

/-- R247's figures in R244's example: ENERGY_NJ of 262,144 and 90,112 bytes of checked AES-256-GCM. -/
theorem test_symmetric_energy : symNj 1 0xE3 false true false 262144 = some 4408 ∧ symNj 1 0xE3 false true false 90112 = some 1518 := by decide

/-- R178's example: the claim after token 6 reads 0x0007_0000, and the firmware's claim then 0x0000_0502. -/
theorem test_window_claim : let s := (serving []).modWin fun w => { w with token := 6 }
    (match exec (.digWinClaim false) s with
      | .next t => (match exec (.digWinClaim true) t with
        | .next u => some u.out
        | _ => none)
      | _ => none) = some [.value 0x00070000, .value 0x0502] := by decide

/-- R116: the shares of a secret combine to it. -/
theorem test_shares_combine : combine [[0xA5], [0x5A], [0xFF]] = [0x00] := by decide

end Sys2Proof.Tests
end

section
/-! PROOFS. Register accesses and the rows of the vault (R8, R11, R35, R110, R333, R335, R358, R445): what a write through a BAR does
where its function is reached, and where it is turned away. -/

namespace Sys2Proof.Machine
open Safety

/-! ### What is counted under NOTE -/

section Counted
variable (s : State)

/-- A NOTE on the host interface is counted whether or not the fault ring has a slot for its record (R427, R437). -/
theorem raiseNote_host_counts (c : FCause) :
    (raiseNote { on := hostUnit, cause := c } s).faults.counts = setAt s.faults.counts 0 inc32 := by
  cases h : s.faults.slotFor with
  | some n => rw [raiseNote_counts s _ rfl n h]; rfl
  | none =>
    simp only [raiseNote, record, h]
    rfl

/-- BAD_ACCESS counts under NOTE (R541). -/
@[simp] theorem noteBadAccess_counts : (noteBadAccess s).faults.counts = setAt s.faults.counts 0 inc32 :=
  raiseNote_host_counts s .badAccess

@[simp] theorem noteBadAccess_vault : (noteBadAccess s).vault = s.vault := by rw [noteBadAccess_same]

theorem gatedRead_open (i : Nat) (t : State) (h1 : s.reachable i = true) (h2 : s.ideBlocked i = false) : s.gatedRead i t = t := by
  simp [State.gatedRead, h1, h2]

theorem gatedRead_blocked (i : Nat) (t : State) (h1 : s.reachable i = true) (h2 : s.ideBlocked i = true) :
    s.gatedRead i t = emit (.ur i) (noteBadAccess s) := by
  simp [State.gatedRead, h1, h2]

end Counted

/-! ### Writes of registers -/

section RegisterWrites
variable {s : State} {i a v : Nat}

/-- A write through a BAR is subject to R91 and R110. -/
theorem exec_registerWrite_bar (w : Bool) (ha : a < cfgBase) :
    exec (.registerWrite i a w v) s = .next (s.gated i (writeRegs i a w v s)) := by
  have hs : ¬ skanelBase ≤ a := by simp only [skanelBase, cfgBase] at *; omega
  show execRegisterWrite i a w v s = _
  simp only [execRegisterWrite, hs, Nat.not_le.2 ha, if_false]

/-- An aligned 32-bit write that reaches its function is one write of a register (R35). -/
theorem exec_registerWrite_word (h : Reached i s) (ha : a % 4 = 0) (hk : a < skanelBase) (hv : v < 2 ^ 32) :
    exec (.registerWrite i a false v) s = .next (writeReg i a v s) := by
  have hw : writeRegs i a false v s = writeReg i a v s := by
    simp only [writeRegs, Bool.false_eq_true, if_false, ha, ne_eq, not_true, Nat.mod_eq_of_lt hv]
  by_cases hc : a < cfgBase
  · rw [exec_registerWrite_bar false hc, gated_open s i _ h.1 h.2, hw]
  · show execRegisterWrite i a false v s = _
    simp only [execRegisterWrite, Nat.not_le.2 hk, Nat.not_lt.1 hc, h.1, hw, if_true, if_false]

/-- A write of a reserved offset is ignored and counted (R35). -/
theorem writeReg_unmapped (hk : a < skanelBase) (hr : readReg s i a = none) : writeReg i a v s = noteBadAccess s := by
  simp only [writeReg, Nat.not_le.2 hk, hr, Option.isNone_none, if_true, if_false]

/-- A write of a package register of the map takes its meaning there (R33). -/
theorem writeReg_package (ha : a < 0x100000) (hr : (packageReg s a).isSome) (h4 : a % 4 = 0) :
    writeReg 0 a v s = packageWrite a v s := by
  have hk : ¬ skanelBase ≤ a := by simp only [skanelBase]; omega
  have hc : ¬ cfgBase ≤ a := by simp only [cfgBase]; omega
  have hb : ¬ bar2Base ≤ a := by simp only [bar2Base]; omega
  have hm : (readReg s 0 a).isNone = false := by
    simpa [readReg, hk, hc, hb, pfReg, h4, ha, Option.isNone_eq_false_iff] using hr
  simp [writeReg, hk, hm, hc, hb, pfWrite, ha]

/-- A 32-bit write of a package register that reaches the package. -/
theorem exec_registerWrite_package (h : Reached 0 s) (hv : v < 2 ^ 32) (ha : a < 0x100000) (h4 : a % 4 = 0)
    (hr : (packageReg s a).isSome) : exec (.registerWrite 0 a false v) s = .next (packageWrite a v s) := by
  rw [exec_registerWrite_word h h4 (by simp only [skanelBase]; omega) hv, writeReg_package ha hr h4]

/-- A write of FLT_STATUS, FLT_CFG or FLT_SLUICE_CONTAIN that reaches the package (R445). -/
theorem exec_registerWrite_flt (h : Reached 0 s) (hv : v < 2 ^ 32) {o : Nat} (ho : o = 0 ∨ o = 4 ∨ o = 8) :
    exec (.registerWrite 0 (0x5000 + o) false v) s = .next (fltWrite o v s) := by
  have hm : (packageReg s (0x5000 + o)).isSome := by rcases ho with rfl | rfl | rfl <;> rfl
  rw [exec_registerWrite_package h hv (by omega) (by omega) hm]
  rcases ho with rfl | rfl | rfl <;> rfl

/-- A write of PWR_CEILING that reaches the package (R426). -/
theorem exec_registerWrite_ceiling (h : Reached 0 s) (hv : v < 2 ^ 32) :
    exec (.registerWrite 0 0x3000 false v) s = .next (pwrWrite 0 v s) :=
  exec_registerWrite_package h hv (by decide) (by decide) rfl

theorem within_iff (lo hi n : Nat) : within lo hi n = true ↔ lo ≤ n ∧ n ≤ hi := by
  simp [within]

/-- A sluice time within its range is taken, and any other leaves the register (R11, R445). -/
theorem fltWrite_sluice_faults : (fltWrite 8 v s).faults = { s.faults with
    sluiceContain := if 10 ≤ bits v 23 0 ∧ bits v 23 0 ≤ 10000000 then bits v 23 0 else s.faults.sluiceContain } := by
  simp only [fltWrite, rw, within_iff, State.modFaults]

theorem pwrWrite_ceiling : (pwrWrite 0 v s).power.ceiling =
    if 40 ≤ bits v 7 0 ∧ bits v 7 0 ≤ s.variant.maxCeiling then bits v 7 0 else s.power.ceiling := by
  simp only [pwrWrite, rw, within_iff, if_true]

end RegisterWrites

/-! ### Accesses outside the map, and those that IDE turns away -/

section Turned
variable {s : State} {i a : Nat}

/-- A 32-bit write outside the map is counted and ignored (R35). -/
theorem exec_badAccess_unmapped_write (h : Reached i s) (hr : readReg s i a = none) :
    exec (.badAccess i a 4 true) s = .next (noteBadAccess s) := by
  show execBadAccess i a 4 true s = _
  simp [execBadAccess, badAt, hr, gated_open s i _ h.1 h.2]

/-- An aligned 32-bit read outside the map is counted and reads as zero (R35). -/
theorem exec_badAccess_unmapped_read (h : Reached i s) (hr : readReg s i a = none) (ha : a % 4 = 0) :
    exec (.badAccess i a 4 false) s = .next (emit (.value 0) (noteBadAccess s)) := by
  show execBadAccess i a 4 false s = _
  simp [execBadAccess, badAt, badValue, hr, ha, gatedRead_open s i _ h.1 h.2]

/-- A read that IDE turns away is counted and completes with UR (R110). -/
theorem exec_badAccess_blocked_read (h1 : s.reachable i = true) (h2 : s.ideBlocked i = true) (n : Nat) :
    exec (.badAccess i a n false) s = .next (emit (.ur i) (noteBadAccess s)) :=
  congrArg Host.Outcome.next (gatedRead_blocked s i _ h1 h2)

/-- Every write and doorbell through a BAR that IDE turns away is dropped and counted (R110). -/
theorem exec_blocked {o v : Nat} {w : Bool} (h1 : s.reachable i = true) (h2 : s.ideBlocked i = true) (ho : o < cfgBase) :
    ∀ x ∈ [Instr.registerWrite i o w v, .sqDoorbell i o v, .cqDoorbell i o v, .sqEnable i o, .cqEnable i o, .mailboxDoorbell i v,
      .mailboxBufferWrite i o v, .instXlatClr i, .frameRingEnable i o v, .frameRingDoorbell i o v],
      exec x s = .next (noteBadAccess s) := by
  have drop (x : Instr) (t : State) (hx : exec x s = .next (s.gated i t)) : exec x s = .next (noteBadAccess s) := by
    rw [hx, gated_blocked s i t h1 h2]
  simp only [List.forall_mem_cons, List.not_mem_nil, false_implies, implies_true, and_true]
  exact ⟨drop _ _ (exec_registerWrite_bar w ho), drop _ _ rfl, drop _ _ rfl, drop _ _ rfl, drop _ _ rfl, drop _ _ rfl,
    drop _ _ rfl, drop _ _ rfl, drop _ _ rfl, drop _ _ rfl⟩

end Turned

/-- Settles O7: a write inside the map is the write of its register, and every access outside the map or its stream is one
BAD_ACCESS. -/
theorem registerAccesses : Obligations.RegisterAccesses := by
  unfold Obligations.RegisterAccesses
  refine ⟨fun s v a h hv => ⟨?cfg, ?sluice, ?status, ?ceiling, ?unmapped⟩, fun s i o v w h1 h2 ho => ⟨?read, ?writes⟩⟩
  case cfg => exact ⟨_, exec_registerWrite_flt h hv (o := 4) (by decide), rfl, rfl, rfl⟩
  case sluice =>
    refine ⟨_, exec_registerWrite_flt h hv (o := 8) (by decide), fun hlo hhi => ?_, fun hout => ?_⟩
    · rw [fltWrite_sluice_faults, if_pos ⟨hlo, hhi⟩]
    · rw [fltWrite_sluice_faults, if_neg hout]
  case status => exact ⟨_, exec_registerWrite_flt h hv (o := 0) (by decide), rfl⟩
  case ceiling => exact ⟨_, exec_registerWrite_ceiling h hv, pwrWrite_ceiling⟩
  case unmapped =>
    intro hr ha hk
    have hw : exec (.registerWrite 0 a false v) s = .next (noteBadAccess s) := by
      rw [exec_registerWrite_word h ha hk hv, writeReg_unmapped hk hr]
    exact ⟨⟨_, hw, noteBadAccess_same s, noteBadAccess_counts s⟩,
      ⟨_, exec_badAccess_unmapped_write h hr, noteBadAccess_same s, noteBadAccess_counts s⟩,
      _, exec_badAccess_unmapped_read h hr ha, by simp [emit], noteBadAccess_counts s⟩
  case read => exact ⟨_, exec_badAccess_blocked_read h1 h2 4, noteBadAccess_counts s, by simp [emit]⟩
  case writes =>
    intro x hx
    exact ⟨_, exec_blocked h1 h2 ho x hx, noteBadAccess_same s, noteBadAccess_counts s⟩

/-! ### The vault -/

section Maps
variable {α : Type} (d : Nat → α)

/-- A change of every listed entry changes the entry of a listed key. -/
theorem tget_map_of_listed (f : α → α) {t : Tbl α} {k : Nat} (h : (tfind t k).isSome = true) :
    tget d (t.map fun e => (e.1, f e.2)) k = f (tget d t k) := by
  induction t with
  | nil => simp [tfind] at h
  | cons e t ih =>
    obtain ⟨a, x⟩ := e
    by_cases ha : a = k
    · simp [tget, ha]
    · simp only [tfind, ha, if_false] at h
      simp [tget, ha, ih h]

end Maps

section Vault
variable {s : State} {v r : Nat}

/-- The handle caps of the instances other than the one VLT_HSEL selects (R335). -/
def hcapOthers (s : State) : Nat := ((List.range 256).map fun k => if k = s.vault.hsel then 0 else (s.inst k).cfg.hcap).sum

/-- A handle cap that the package holds is taken (R335). -/
theorem vltHcapWriteAt_fits (hn : v % 32768 ≤ 16384) (hs : hcapOthers s + v % 32768 ≤ 16384) :
    vltHcapWriteAt v s = s.modInst s.vault.hsel fun x => { x with cfg := { x.cfg with hcap := v % 32768 } } := by
  unfold hcapOthers at hs
  simp only [vltHcapWriteAt, Nat.not_lt.2 hn, Nat.not_lt.2 hs, if_false]

/-- A handle cap past what the package holds is ignored, flagged and counted (R335). -/
theorem vltHcapWriteAt_flagged (hn : v % 32768 ≤ 16384) (hs : 16384 < hcapOthers s + v % 32768) :
    vltHcapWriteAt v s = noteBadAccess { s with vault := { s.vault with cfgErr := true } } := by
  unfold hcapOthers at hs
  simp only [vltHcapWriteAt, Nat.not_lt.2 hn, hs, if_false, if_true]

/-- A reserved handle cap leaves everything as it was (R11). -/
theorem vltHcapWriteAt_reserved (hn : 16384 < v % 32768) : vltHcapWriteAt v s = s := by
  simp only [vltHcapWriteAt, hn, if_true]

theorem exec_vltHcapWrite (h : Reached 0 s) : exec (.vltHcapWrite v) s = .next (vltHcapWriteAt v s) :=
  congrArg Host.Outcome.next (gated_open s 0 _ h.1 h.2)

theorem exec_clrCounts (h : Reached 0 s) (b : Bool) : exec (.clrCounts r b) s = .next (clrCountsAt r b s) :=
  congrArg Host.Outcome.next (gated_open s 0 _ h.1 h.2)

theorem modRegion_onlyRegion (f : Region → Region) : OnlyRegion r s (s.modRegion r f) :=
  ⟨rfl, fun q hq => State.region_modRegion_ne s r q f hq⟩

/-- CLR_COUNTS of the shelf (R358). -/
theorem clrCountsAt_shelf (he : s.enabled r = true) :
    clrCountsAt r true s = s.modRegion r fun g => { g with shelfHits := tdel g.shelfHits g.shelfSel } := by
  simp [clrCountsAt, he]

/-- CLR_COUNTS of the crystallizer (R135). -/
theorem clrCountsAt_cryst (he : s.enabled r = true) :
    clrCountsAt r false s = s.modRegion r fun g => { g with lat := { g.lat with hits := tdel g.lat.hits g.lat.sel } } := by
  simp [clrCountsAt, he]

/-- Region `g` after KEK_root is derived: a region in service has it (R333). -/
def Region.takeKek (g : Region) : Region := if g.svc.state = .inService then { g with kekHere := true } else g

/-- The battery key after KEK_root is derived: drawn where one is due (R333). -/
def State.rootBatteryKey (s : State) : Option (List Byte) := if s.batteryDue then some (drawBytes 32 s).1 else s.pkg.batteryKey

/-- What ROOT_READY does where nothing holds it back (R333). -/
theorem exec_rootReady (hm : s.pkg.mode.mainPower = true) (hr : s.vault.rootReady = false)
    (hb : s.batteryDue = false ∨ regionNums.any s.randomRuns = true) :
    ∃ t, exec .rootReady s = .next t ∧ t.vault = { s.vault with rootReady := true } ∧
      t.pkg.batteryKey = s.rootBatteryKey ∧ t.regions = s.regions.map fun e => (e.1, e.2.takeKek) := by
  have hgo : (!s.pkg.mode.mainPower || s.vault.rootReady || (s.batteryDue && !regionNums.any s.randomRuns)) = false := by
    rcases hb with hb | hb <;> simp [hm, hr, hb]
  refine ⟨_, rfl, ?_⟩
  simp only [hgo, Bool.false_eq_true, if_false]
  cases hd : s.batteryDue <;> simp only [State.rootBatteryKey, hd] <;> exact ⟨rfl, rfl, rfl⟩

/-- In battery mode a battery key stands once KEK_root is derived (R333). -/
theorem rootBatteryKey_isSome (h : s.pkg.fuses.batteryMode = true) : s.rootBatteryKey.isSome = true := by
  cases hd : s.batteryDue with
  | true => simp [State.rootBatteryKey, hd]
  | false =>
    have : s.pkg.batteryKey.isSome = true := by simpa [State.batteryDue, h] using hd
    simpa [State.rootBatteryKey, hd] using this

end Vault

/-- Settles O34, row by row; for KEK_root by the change that ROOT_READY makes to every listed region. -/
theorem vaultRows : Obligations.VaultRows := by
  unfold Obligations.VaultRows
  intro s v r h
  refine ⟨fun hn hs => ?fits, fun hn hs => ?flagged, fun hn => ?reserved, fun he => ⟨?shelf, ?cryst⟩, fun hm hr hb => ?root⟩
  case fits =>
    refine ⟨_, exec_vltHcapWrite h, ?_⟩
    rw [vltHcapWriteAt_fits hn hs]
    exact ⟨by simp, by simp, fun i hi => State.inst_modInst_ne s _ i _ hi⟩
  case flagged =>
    refine ⟨_, exec_vltHcapWrite h, ?_⟩
    rw [vltHcapWriteAt_flagged hn hs]
    exact ⟨by simp, by simp⟩
  case reserved => rw [exec_vltHcapWrite h, vltHcapWriteAt_reserved hn]
  case shelf =>
    refine ⟨_, exec_clrCounts h true, ?_⟩
    rw [clrCountsAt_shelf he, State.region_modRegion_self]
    exact ⟨modRegion_onlyRegion _, tget_tdel_self _ _ _⟩
  case cryst =>
    refine ⟨_, exec_clrCounts h false, ?_⟩
    rw [clrCountsAt_cryst he, State.region_modRegion_self]
    exact ⟨modRegion_onlyRegion _, tget_tdel_self _ _ _⟩
  case root =>
    obtain ⟨t, ht, hv, hk, hg⟩ := exec_rootReady hm hr hb
    refine ⟨t, ht, by rw [hv], by rw [hv], fun hf => by rw [hk, rootBatteryKey_isSome hf], fun q hq hl => ?_⟩
    have hreg : t.region q = (s.region q).takeKek := by
      rw [State.region, hg]
      exact tget_map_of_listed region0 Region.takeKek hl
    simp [hreg, Region.takeKek, hq]

end Sys2Proof.Machine
end

section
/-! PROOFS. HALT in main power (R31): the predicate, and what each operation of the model leaves of it. An operation that leaves the
package alone says so (`_pkg`); one that writes other fields of it keeps HALT both ways or one way (`_inHalt`); the body of a verb keeps
it from any state (`_keepsHalt`). The lemmas follow the order of the model, one heading to a file. -/

namespace Sys2Proof.Machine

/-- The package is in HALT with main power: what only PERST_N or a fall of power ends (R31). -/
def Pkg.inHalt (p : Pkg) : Prop := p.halted = true ∧ p.mode.mainPower = true

theorem Pkg.inHalt.halted {p : Pkg} (h : p.inHalt) : p.halted = true := h.1

theorem Pkg.inHalt.mainPower {p : Pkg} (h : p.inHalt) : p.mode.mainPower = true := h.2

theorem foldl_pkg {α : Type} {f : State → α → State} (h : ∀ s x, (f s x).pkg = s.pkg) (l : List α) (s : State) :
    (l.foldl f s).pkg = s.pkg := by
  induction l generalizing s with
  | nil => rfl
  | cons x l ih => rw [List.foldl_cons, ih, h]

theorem foldl_inHalt {α : Type} {f : State → α → State} (hf : ∀ s x, s.pkg.inHalt → (f s x).pkg.inHalt) (l : List α) {s : State}
    (h : s.pkg.inHalt) : (l.foldl f s).pkg.inHalt := by
  induction l generalizing s with
  | nil => exact h
  | cons x l ih => exact ih (hf s x h)

/-- The body of a verb leaves a package in HALT there. -/
def KeepsHalt (body : Cmd → State → State × Option Res) : Prop := ∀ c s, s.pkg.inHalt → (body c s).1.pkg.inHalt

theorem foldl_inHalt_iff {α : Type} {f : State → α → State} (hf : ∀ s x, (f s x).pkg.inHalt ↔ s.pkg.inHalt) (l : List α) (s : State) :
    (l.foldl f s).pkg.inHalt ↔ s.pkg.inHalt := by
  induction l generalizing s with
  | nil => rfl
  | cons x l ih => exact (ih _).trans (hf s x)

theorem ite_inHalt {p : Prop} [Decidable p] {x y : State × Option Res} (hx : x.1.pkg.inHalt) (hy : y.1.pkg.inHalt) :
    (if p then x else y).1.pkg.inHalt := by
  split
  · exact hx
  · exact hy

/-! ### Ops -/

@[simp] theorem raiseVector_pkg (i v : Nat) (s : State) : (raiseVector i v s).pkg = s.pkg := by
  unfold raiseVector
  repeat' split
  all_goals simp

@[simp] theorem hostRead_inHalt (u : HostUse) (i addr len : Nat) (noSnoop : Bool) (s : State) :
    (hostRead u i addr len noSnoop s).pkg.inHalt ↔ s.pkg.inHalt := by
  unfold hostRead
  split
  · rfl
  · rfl

@[simp] theorem askPage_pkg (i addr len : Nat) (s : State) : (askPage i addr len s).pkg = s.pkg := by
  unfold askPage
  split <;> simp

@[simp] theorem hostWrite_pkg (i addr : Nat) (b : List Byte) (noSnoop : Bool) (s : State) :
    (hostWrite i addr b noSnoop s).pkg = s.pkg := by
  unfold hostWrite
  split <;> simp

@[simp] theorem State.modPkg_pkg (s : State) (f : Pkg → Pkg) : (s.modPkg f).pkg = f s.pkg := rfl

@[simp] theorem mlog_pkg (ty : Nat) (content : List Byte) (s : State) : (mlog ty content s).pkg = s.pkg := by
  unfold mlog
  rw [emit_pkg]

/-! ### Journal -/

@[simp] theorem reserveIfDue_pkg (s : State) : (reserveIfDue s).pkg = s.pkg := by
  unfold reserveIfDue
  split <;> simp

@[simp] theorem takeJseq_pkg (s : State) : (takeJseq s).2.pkg = s.pkg := by
  simp [takeJseq]

@[simp] theorem mirrorEntry_pkg (p : Nat) (e : JEntry) (s : State) : (mirrorEntry p e s).pkg = s.pkg := by
  unfold mirrorEntry
  split <;> simp

@[simp] theorem appendEntry_pkg (e : JEntry) (s : State) : (appendEntry e s).pkg = s.pkg := by
  simp [appendEntry]

@[simp] theorem btnEvent_pkg (src ev a0 a1 : Nat) (s : State) : (btnEvent src ev a0 a1 s).pkg = s.pkg := by
  simp only [btnEvent]
  repeat' split
  all_goals simp

@[simp] theorem btnRegion_pkg (r ev a0 a1 : Nat) (s : State) : (btnRegion r ev a0 a1 s).pkg = s.pkg := by
  simp only [btnRegion]
  repeat' split
  all_goals simp

@[simp] theorem journalEvent_pkg (ev a0 a1 : Nat) (rgn : Option Nat) (a2 : Nat) (s : State) :
    (journalEvent ev a0 a1 rgn a2 s).pkg = s.pkg := by
  simp [journalEvent]

/-- A mode in main power leaves the package in HALT there. -/
@[simp] theorem setMode_inHalt (m : Mode) (s : State) (hm : m.mainPower = true) (h : s.pkg.inHalt) : (setMode m s).pkg.inHalt := by
  unfold setMode
  split
  · exact h
  · rw [journalEvent_pkg]
    exact ⟨h.halted, hm⟩

@[simp] theorem mainPower_standby : Mode.standby.mainPower = true := by simp [Mode.mainPower]

@[simp] theorem serviceMode_mainPower (s : State) : s.serviceMode.mainPower = true := by
  unfold State.serviceMode
  repeat' split
  all_goals rfl

@[simp] theorem remode_inHalt (s : State) (h : s.pkg.inHalt) : (remode s).pkg.inHalt := by
  unfold remode
  split <;> simp [h]

@[simp] theorem setRegionState_inHalt (r : Nat) (x : RState) (fence : Bool) (s : State) (h : s.pkg.inHalt) :
    (setRegionState r x fence s).pkg.inHalt := by
  simp [setRegionState, h]

@[simp] theorem closeCommand_pkg (c : Cmd) (st : Status) (out : List Byte) (s : State) :
    (closeCommand c st out s).pkg = s.pkg := by
  simp [closeCommand]

@[simp] theorem writeBatch_pkg (b : Batch) (froze : Bool) (s : State) : (writeBatch b froze s).pkg = s.pkg := by
  simp [writeBatch]

@[simp] theorem closeBatches_pkg (p : Batch → Bool) (s : State) : (closeBatches p s).pkg = s.pkg := by
  simp [closeBatches, foldl_pkg]

@[simp] theorem countInBatch_pkg (i q jseq : Nat) (image : List Byte) (s : State) :
    (countInBatch i q jseq image s).pkg = s.pkg := by
  simp [countInBatch]

@[simp] theorem enterCommit_pkg (c : Cmd) (s : State) : (enterCommit c s).pkg = s.pkg := rfl

@[simp] theorem commit_pkg (j : Nat) (s : State) : (commit j s).pkg = s.pkg := by
  unfold commit
  repeat' split
  all_goals simp

@[simp] theorem takeCheckpoint_pkg (s : State) : (takeCheckpoint s).pkg = s.pkg := rfl

@[simp] theorem addedEvent_pkg (ev : Nat) (s : State) : (addedEvent ev s).pkg = s.pkg := by
  simp [addedEvent]

@[simp] theorem freezeBtn_pkg (ev : Nat) (haltCp : Option Checkpoint) (s : State) : (freezeBtn ev haltCp s).pkg = s.pkg := by
  unfold freezeBtn
  split <;> simp

/-! ### Faults -/

@[simp] theorem announceFault_pkg (r : FaultRec) (s : State) : (announceFault r s).pkg = s.pkg := by
  unfold announceFault
  repeat' split
  all_goals simp

@[simp] theorem putRecord_pkg (n : Nat) (r : FaultRec) (s : State) : (putRecord n r s).pkg = s.pkg := by
  simp [putRecord]

@[simp] theorem putUnheld_pkg (r : FaultRec) (s : State) : (putUnheld r s).pkg = s.pkg := by
  simp [putUnheld]

@[simp] theorem subsume_pkg (p : FaultRec → Bool) (s : State) : (subsume p s).pkg = s.pkg := rfl

@[simp] theorem wipeLocal_pkg (r : Nat) (u : UnitKind × Nat) (s : State) : (wipeLocal r u s).pkg = s.pkg := by
  unfold wipeLocal
  split <;> simp

@[simp] theorem dropCryst_pkg (r : Nat) (p : CrystEntry → Bool) (s : State) : (dropCryst r p s).pkg = s.pkg := rfl

@[simp] theorem restPans_pkg (s : State) : (restPans s).pkg = s.pkg := by rw [restPans_same]

@[simp] theorem takeWarmKind_pkg (r : Nat) (k : UnitKind) (i want : Nat) (s : State) : (takeWarmKind r k i want s).pkg = s.pkg := by
  rw [takeWarmKind_same]

@[simp] theorem takeWarm_pkg (r : Nat) (s : State) : (takeWarm r s).pkg = s.pkg := by rw [takeWarm_same]

@[simp] theorem countJobOn_pkg (r : Nat) (k : UnitKind) (n : Nat) (s : State) : (countJobOn r k n s).pkg = s.pkg := by
  unfold countJobOn
  split <;> simp

@[simp] theorem countCheckFail_pkg (r : Nat) (k : UnitKind) (s : State) : (countCheckFail r k s).pkg = s.pkg := rfl

@[simp] theorem finish_pkg (j : Nat) (r : Res) (s : State) : (finish j r s).pkg = s.pkg := by
  simp [finish]

@[simp] theorem fail_pkg (j : Nat) (st : Status) (s : State) : (fail j st s).pkg = s.pkg := by
  simp [fail]

@[simp] theorem fetchInputs_inHalt (j : Nat) (s : State) : (fetchInputs j s).pkg.inHalt ↔ s.pkg.inHalt := by
  unfold fetchInputs
  split
  · rfl
  · rw [State.modCmd_pkg]
    exact foldl_inHalt_iff (fun s i => by split <;> simp) _ s

@[simp] theorem reissue_inHalt (j : Nat) (s : State) : (reissue j s).pkg.inHalt ↔ s.pkg.inHalt := by
  simp [reissue]

@[simp] theorem retryJobFrom_inHalt (a : Option (UnitKind × Nat × Nat)) (pan : Bool) (onFail : Status) (j : Nat) (s : State) :
    (retryJobFrom a pan onFail j s).pkg.inHalt ↔ s.pkg.inHalt := by
  simp only [retryJobFrom]
  repeat' split
  all_goals simp

@[simp] theorem retryJobOff_inHalt (pan : Bool) (onFail : Status) (j : Nat) (s : State) :
    (retryJobOff pan onFail j s).pkg.inHalt ↔ s.pkg.inHalt := by
  simp [retryJobOff]

@[simp] theorem retryJob_inHalt (onFail : Status) (j : Nat) (s : State) : (retryJob onFail j s).pkg.inHalt ↔ s.pkg.inHalt := by
  simp [retryJob]

@[simp] theorem recheck_pkg (wide : Bool) (u : FUnit) (j : Nat) (s : State) : (recheck wide u j s).pkg = s.pkg := by
  unfold recheck
  repeat' split
  all_goals simp

@[simp] theorem retryJobsOf_inHalt (wide : Bool) (u : FUnit) (onFail : Status) (s : State) :
    (retryJobsOf wide u onFail s).pkg.inHalt ↔ s.pkg.inHalt := by
  unfold retryJobsOf
  rw [foldl_pkg fun s j => recheck_pkg wide u j s]
  exact foldl_inHalt_iff (fun s j => retryJobFrom_inHalt ..) _ s

@[simp] theorem startTestOf_pkg (block : Option SramBlock) (r : FaultRec) (s : State) : (startTestOf block r s).pkg = s.pkg := by
  unfold startTestOf
  repeat' split
  all_goals simp

@[simp] theorem startTest_pkg (r : FaultRec) (s : State) : (startTest r s).pkg = s.pkg := by
  simp [startTest]

@[simp] theorem haltMailboxes_pkg (s : State) : (haltMailboxes s).pkg = s.pkg := rfl

@[simp] theorem doHaltAs_inHalt (ev : Nat) (s : State) (h : s.pkg.inHalt) : (doHaltAs ev s).pkg.inHalt := by
  unfold doHaltAs
  rw [if_pos h.halted]
  simp [h]

@[simp] theorem doHalt_inHalt (s : State) (h : s.pkg.inHalt) : (doHalt s).pkg.inHalt := by
  simp [doHalt, h]

@[simp] theorem record_inHalt (x : Raise) (c : FClass) (s : State) (h : s.pkg.inHalt) : (record x c s).2.pkg.inHalt := by
  unfold record
  repeat' split
  all_goals simp [h]

theorem record_note_pkg (x : Raise) (s : State) : (record x .note s).2.pkg = s.pkg := by
  unfold record
  dsimp only
  split
  · simp
  · rfl

@[simp] theorem raiseNote_pkg (x : Raise) (s : State) : (raiseNote x s).pkg = s.pkg := record_note_pkg x s

theorem record_inHalt' {x : Raise} {c : FClass} {s s1 : State} {r : Option FaultRec} (e : record x c s = (r, s1)) (h : s.pkg.inHalt) :
    s1.pkg.inHalt := by
  have := record_inHalt x c s h
  rwa [e] at this

@[simp] theorem raiseHalt_inHalt (x : Raise) (s : State) (h : s.pkg.inHalt) : (raiseHalt x s).pkg.inHalt := by
  simp [raiseHalt, h]

/-! ### Reactions -/

@[simp] theorem gated_inHalt (s : State) (i : Nat) (t : State) (h : s.pkg.inHalt) (ht : t.pkg.inHalt) : (s.gated i t).pkg.inHalt := by
  unfold State.gated
  repeat' split
  all_goals simp [h, ht]

@[simp] theorem gatedRead_inHalt (s : State) (i : Nat) (t : State) (h : s.pkg.inHalt) (ht : t.pkg.inHalt) :
    (s.gatedRead i t).pkg.inHalt := by
  unfold State.gatedRead
  repeat' split
  all_goals simp [h, ht]

@[simp] theorem loseJob_inHalt (j : Nat) (s : State) : (loseJob j s).pkg.inHalt ↔ s.pkg.inHalt := by
  unfold loseJob
  repeat' split
  all_goals simp

@[simp] theorem unsend_pkg (r : Nat) (s : State) : (unsend r s).pkg = s.pkg := rfl

@[simp] theorem uncheck_pkg (r : Nat) (s : State) : (uncheck r s).pkg = s.pkg := rfl

@[simp] theorem dropCores_pkg (r : Nat) (s : State) : (dropCores r s).pkg = s.pkg := rfl

@[simp] theorem dike_pkg (r : Nat) (s : State) : (dike r s).pkg = s.pkg := rfl

@[simp] theorem endWaiting_pkg (op r : Nat) (res : Res) (s : State) : (endWaiting op r res s).pkg = s.pkg := by
  simp [endWaiting, foldl_pkg]

@[simp] theorem openIfDue_inHalt (s : State) (h : s.pkg.inHalt) : (openIfDue s).pkg.inHalt := by
  have opened (p : Prop) [Decidable p] (t : State) (ht : t.pkg.inHalt) : (if p then setMode .debug t else t).pkg.inHalt := by
    split
    · exact setMode_inHalt .debug t rfl ht
    · exact ht
  unfold openIfDue
  split
  · exact h
  · split
    · dsimp only
      split
      · rw [finish_pkg]
        refine opened _ _ ?_
        exact h
      · refine opened _ _ ?_
        exact h
    · exact h

@[simp] theorem fenceRegion_inHalt (r : Nat) (s : State) (h : s.pkg.inHalt) : (fenceRegion r s).pkg.inHalt := by
  unfold fenceRegion
  dsimp only
  split
  · refine openIfDue_inHalt _ ?_
    rw [endWaiting_pkg, uncheck_pkg, unsend_pkg]
    refine foldl_inHalt (fun s j h => (loseJob_inHalt j s).2 h) _ (setRegionState_inHalt _ _ _ _ ?_)
    rw [dike_pkg, State.modRegion_pkg, State.modFaults_pkg, subsume_pkg]
    exact h
  · rwa [subsume_pkg]

@[simp] theorem raiseFence_inHalt (x : Raise) (s : State) (h : s.pkg.inHalt) : (raiseFence x s).pkg.inHalt := by
  have h1 := record_inHalt x .fence s h
  unfold raiseFence
  dsimp only
  split
  · split
    · exact h1
    · exact fenceRegion_inHalt _ _ h1
  · exact h1

@[simp] theorem raiseContain_inHalt (x : Raise) (s : State) (h : s.pkg.inHalt) : (raiseContain x s).pkg.inHalt := by
  unfold raiseContain
  split
  next s1 e => exact record_inHalt' e h
  next rec s1 e =>
    have h1 : s1.pkg.inHalt := record_inHalt' e h
    rw [if_pos (by simp [h1.halted])]
    exact h1

@[simp] theorem raiseRetry_inHalt (x : Raise) (onFail : Status) (s : State) (h : s.pkg.inHalt) : (raiseRetry x onFail s).pkg.inHalt := by
  unfold raiseRetry
  split
  next s1 e => simpa using record_inHalt' e h
  next rec s1 e =>
    have h1 : s1.pkg.inHalt := record_inHalt' e h
    rw [if_pos h1.halted]
    exact h1

@[simp] theorem ackRecord_pkg (q : Nat) (s : State) : (ackRecord q s).2.pkg = s.pkg := by
  unfold ackRecord
  split <;> simp

@[simp] theorem rerunElsewhere_inHalt (j : Nat) (s : State) : (rerunElsewhere j s).pkg.inHalt ↔ s.pkg.inHalt := by
  unfold rerunElsewhere
  repeat' split
  all_goals simp

/-! ### Path -/

theorem runVerb_inHalt (op j : Nat) {body : Cmd → State → State × Option Res} (hb : KeepsHalt body) {s : State} (h : s.pkg.inHalt) :
    (runVerb op j body s).pkg.inHalt := by
  unfold runVerb
  split
  · exact h
  next c _ =>
    split
    · split
      · simpa using h
      · have hd : (body c (drawEnergy s).2).1.pkg.inHalt := hb c _ h
        dsimp only
        split
        next s1 e => rwa [e] at hd
        next s1 r e =>
          rw [e] at hd
          simpa using hd
    · exact h

/-! ### KeyUse -/

@[simp] theorem countUse_pkg (c : Cmd) (k : KeyRec) (n lim : Nat) (s : State) : (countUse c k n lim s).2.pkg = s.pkg := by
  unfold countUse
  repeat' split
  all_goals simp

@[simp] theorem ShelfKey.toCell_pkg (e : ShelfKey) (order : Nat) (s : State) : (e.toCell order s).2.pkg = s.pkg := rfl

@[simp] theorem evictFor_pkg (r i n m : Nat) (s : State) : (evictFor r i n m s).pkg = s.pkg := by
  induction m generalizing s with
  | zero => rfl
  | succ m ih =>
    unfold evictFor
    split
    · rfl
    · split
      · rfl
      · rw [ih, State.modRegion_pkg]

@[simp] theorem fitShelf_pkg (i : Nat) (s : State) : (fitShelf i s).pkg = s.pkg := by
  simp [fitShelf, foldl_pkg]

@[simp] theorem shelve_pkg (r : Nat) (e : ShelfKey) (s : State) : (shelve r e s).2.pkg = s.pkg := by
  simp only [shelve]
  repeat' split
  all_goals simp

@[simp] theorem evictCryst_pkg (all : Bool) (r i n quota : Nat) (may : CrystEntry → Bool) (m : Nat) (s : State) :
    (evictCryst all r i n quota may m s).pkg = s.pkg := by
  rw [(evictCryst_same all r i n quota may m s).1]

@[simp] theorem fillCryst_pkg (r : Nat) (f : CrystEntry) (s : State) : (fillCryst r f s).pkg = s.pkg := by
  simp only [fillCryst]
  repeat' split
  all_goals simp

@[simp] theorem settleFills_pkg (r : Nat) (s : State) : (settleFills r s).pkg = s.pkg := by
  simp [settleFills, foldl_pkg]

@[simp] theorem repin_pkg (r : Nat) (k : KeyRec) (s : State) : (repin r k s).pkg = s.pkg := by
  simp only [repin]
  repeat' split
  all_goals simp

@[simp] theorem probeTag_pkg (r i alg : Nat) (digest : List Byte) (start : Nat) (s0 : State) :
    (probeTag r i alg digest start s0).2.pkg = s0.pkg := by
  simp only [probeTag]
  repeat' split
  all_goals simp

@[simp] theorem probeCryst_pkg (r i alg : Nat) (pk : List Byte) (start : Nat) (s : State) :
    (probeCryst r i alg pk start s).2.pkg = s.pkg := by
  simp [probeCryst]

@[simp] theorem leaveUnit_pkg (j : Nat) (w : Wait) (s : State) : (leaveUnit j w s).pkg = s.pkg := by
  simp [leaveUnit]

@[simp] theorem needKey_inHalt (c : Cmd) (k : KeyRec) (s : State) : (needKey c k s).2.pkg.inHalt ↔ s.pkg.inHalt := by
  simp only [needKey]
  repeat' split
  all_goals simp

@[simp] theorem takeRandom_pkg (n : Nat) (c : Cmd) (s : State) : (takeRandom n c s).2.pkg = s.pkg := by
  simp only [takeRandom]
  repeat' split
  all_goals simp

@[simp] theorem toCheck_pkg (j : Nat) (r : Res) (s : State) : (toCheck j r s).pkg = s.pkg := by
  simp [toCheck]

@[simp] theorem drawMask_pkg (r p n : Nat) (s : State) : (drawMask r p n s).2.pkg = s.pkg := rfl

theorem withMask_inHalt (n : Nat) (c : Cmd) {s : State} {k : State → State × Option Res} (h : s.pkg.inHalt)
    (hk : ∀ s, s.pkg.inHalt → (k s).1.pkg.inHalt) : (withMask n c s k).1.pkg.inHalt := by
  unfold withMask
  split
  · exact hk s h
  · dsimp only
    split
    · exact hk _ (by simpa using h)
    · simpa using h

/-! ### Blobs -/

@[simp] theorem takeKeyId_pkg (s : State) : (takeKeyId s).2.pkg = s.pkg := rfl

@[simp] theorem sharedOut_pkg (wrap : Bool) (i : Nat) (k : Option KeyRec) (ss : List Byte) (s : State) :
    (sharedOut wrap i k ss s).2.pkg = s.pkg := by
  unfold sharedOut
  split <;> simp

@[simp] theorem useKey_pkg (c : Cmd) (n lim : Nat) (s : State) : (useKey c n lim s).2.pkg = s.pkg := by
  simp only [useKey]
  repeat' split
  all_goals simp

theorem withKey_inHalt (c : Cmd) {s : State} {k : List Byte → List Byte → State → State × Option Res} (h : s.pkg.inHalt)
    (hk : ∀ sk pub s, s.pkg.inHalt → (k sk pub s).1.pkg.inHalt) : (withKey c s k).1.pkg.inHalt := by
  unfold withKey
  split
  · exact hk _ _ s h
  next key _ =>
    have hn : (needKey c key s).2.pkg.inHalt := by simpa using h
    split
    next e s1 he =>
      rw [he] at hn
      exact hk _ _ _ (by simpa using hn)
    next s1 he => rwa [he] at hn
    next st s1 he => rwa [he] at hn

theorem withRandom_inHalt (n : Nat) (c : Cmd) {s : State} {k : List Byte → State → State × Option Res} (h : s.pkg.inHalt)
    (hk : ∀ b s, s.pkg.inHalt → (k b s).1.pkg.inHalt) : (withRandom n c s k).1.pkg.inHalt := by
  unfold withRandom
  have hr : (takeRandom n c s).2.pkg.inHalt := by simpa using h
  split
  next b s1 he => exact hk b s1 (by rwa [he] at hr)
  next s1 he => rwa [he] at hr

theorem withDraw_inHalt (n m : Nat) (c : Cmd) {s : State} {k : List Byte → State → State × Option Res} (h : s.pkg.inHalt)
    (hk : ∀ b s, s.pkg.inHalt → (k b s).1.pkg.inHalt) : (withDraw n m c s k).1.pkg.inHalt :=
  withRandom_inHalt n c h fun _ _ h => hk _ _ h

theorem orBad_inHalt (l : List (Option Status)) {s : State} {k : State → State × Option Res} (h : s.pkg.inHalt)
    (hk : ∀ s, s.pkg.inHalt → (k s).1.pkg.inHalt) : (orBad l s k).1.pkg.inHalt := by
  unfold orBad
  split
  · exact h
  · exact hk s h

theorem countThen_inHalt (c : Cmd) (n lim : Nat) {s : State} {k : State → State × Option Res} (h : s.pkg.inHalt)
    (hk : ∀ s, s.pkg.inHalt → (k s).1.pkg.inHalt) : (countThen c n lim s k).1.pkg.inHalt := by
  unfold countThen
  have hr : (useKey c n lim s).2.pkg.inHalt := by simpa using h
  split
  next st s1 he => rwa [he] at hr
  next s1 he => exact hk s1 (by rwa [he] at hr)

/-! ### Random -/

@[simp] theorem askSeed_pkg (r : Nat) (s : State) : (askSeed r s).pkg = s.pkg := rfl

@[simp] theorem rngLastingBy_inHalt (injected : Bool) (r : Nat) (s : State) (h : s.pkg.inHalt) :
    (rngLastingBy injected r s).pkg.inHalt := by
  unfold rngLastingBy
  split <;> simp [h]

@[simp] theorem rngLasting_inHalt (r : Nat) (s : State) (h : s.pkg.inHalt) : (rngLasting r s).pkg.inHalt := by
  simp [rngLasting, h]

@[simp] theorem healthFailed_pkg (r : Nat) (s : State) : (healthFailed r s).pkg = s.pkg := by
  unfold healthFailed
  split <;> simp

@[simp] theorem startFailed_inHalt (r : Nat) (s : State) (h : s.pkg.inHalt) : (startFailed r s).pkg.inHalt := by
  unfold startFailed
  split
  · rw [endWaiting_pkg, uncheck_pkg, unsend_pkg]
    exact foldl_inHalt (fun s j h => (loseJob_inHalt j s).2 h) _ (setRegionState_inHalt _ _ _ _ h)
  · exact h

@[simp] theorem wakeMasked_pkg (r : Nat) (s : State) : (wakeMasked r s).pkg = s.pkg := rfl

@[simp] theorem giveSeed_pkg (r p : Nat) (s : State) : (giveSeed r p s).pkg = s.pkg := by
  unfold giveSeed
  split <;> simp

@[simp] theorem maskFault_inHalt (injected : Bool) (r p : Nat) (s : State) (h : s.pkg.inHalt) :
    (maskFault injected r p s).pkg.inHalt := by
  unfold maskFault
  extract_lets js
  have hr (x : Raise) := record_inHalt x .retry s h
  split
  next x s1 e =>
    have h2 : (match x with | some x => startTest x s1 | none => s1).pkg.inHalt := by
      have h1 : s1.pkg.inHalt := record_inHalt' e h
      split <;> simpa using h1
    exact (congrArg (fun t : State => t.pkg.inHalt) (if_pos h2.halted)).mpr h2

theorem rngGenerate_keepsHalt : KeepsHalt rngGenerate := fun c _ h =>
  orBad_inHalt _ h fun _ h => withRandom_inHalt _ c h fun _ _ h => h

theorem rngKat_keepsHalt : KeepsHalt rngKat := fun c s h =>
  orBad_inHalt _ h fun s h => by
    repeat' split
    all_goals simpa using h

theorem rngRaw_keepsHalt : KeepsHalt rngRaw := fun c s h =>
  orBad_inHalt _ h fun s h => by simpa using h

/-! ### Symmetric -/

@[simp] theorem takeSym_pkg (c : Cmd) (r : Nat) (s : State) : (takeSym c r s).pkg = s.pkg := by
  simp only [takeSym]
  repeat' split
  all_goals simp

theorem symRun_inHalt (c : Cmd) {s : State} {f : List Byte → State → State × Option Res} (h : s.pkg.inHalt)
    (hf : ∀ sk s, s.pkg.inHalt → (f sk s).1.pkg.inHalt) : (symRun c s f).1.pkg.inHalt :=
  orBad_inHalt _ h fun s h => countThen_inHalt c _ _ h fun s h => withKey_inHalt c h fun sk _ s h => by
    have hr := hf sk s h
    split
    next s1 r he => rwa [he] at hr
    · exact hr

theorem aeadEncrypt_keepsHalt : KeepsHalt aeadEncrypt := fun c _ h =>
  symRun_inHalt c h fun _ _ h => withRandom_inHalt _ c h fun _ _ h => h

theorem aeadDecrypt_keepsHalt : KeepsHalt aeadDecrypt := fun c s h =>
  symRun_inHalt c h fun k s h => by
    dsimp only
    split <;> simpa using h

theorem cipher_keepsHalt (f : String) : KeepsHalt (cipher f) := fun c _ h => symRun_inHalt c h fun _ _ h => h

theorem symMac_keepsHalt : KeepsHalt symMac := fun c _ h =>
  symRun_inHalt c h fun _ _ h => h

theorem symMacVerify_keepsHalt : KeepsHalt symMacVerify := fun c s h =>
  symRun_inHalt c h fun k s h => by
    split <;> simpa using h

theorem symWrap_keepsHalt : KeepsHalt symWrap := fun c _ h =>
  symRun_inHalt c h fun _ _ h => h

theorem symUnwrap_keepsHalt : KeepsHalt symUnwrap := fun c s h =>
  symRun_inHalt c h fun k s h => by
    dsimp only
    split <;> simpa using h

/-! ### Time -/

@[simp] theorem State.holdAt_pkg (s : State) (e : Nat) : (s.holdAt e).pkg = s.pkg := rfl

@[simp] theorem State.rebase_pkg (s : State) : (s.rebase).pkg = s.pkg := by
  unfold State.rebase
  split <;> simp

@[simp] theorem State.ppsHeld_pkg (s : State) : (s.ppsHeld).pkg = s.pkg := rfl

@[simp] theorem stepTick_pkg (d : ℤ) (s : State) : (stepTick d s).pkg = s.pkg := by
  simp [stepTick]

@[simp] theorem slewTo_pkg (x : TSrc) (s : State) : (slewTo x s).pkg = s.pkg := rfl

@[simp] theorem lockIfDue_pkg (s : State) : (lockIfDue s).pkg = s.pkg := by
  unfold lockIfDue
  repeat' split
  all_goals simp

@[simp] theorem setUtc_pkg (off : Nat) (l61 l59 : Bool) (s : State) : (setUtc off l61 l59 s).pkg = s.pkg := rfl

@[simp] theorem utcOf_pkg (x : TSrc) (s : State) : (utcOf x s).pkg = s.pkg := by
  unfold utcOf
  split <;> simp

@[simp] theorem takeSource_pkg (x : TSrc) (s : State) : (takeSource x s).pkg = s.pkg := by
  simp only [takeSource]
  repeat' split
  all_goals simp

@[simp] theorem selectSource_pkg (s : State) : (selectSource s).pkg = s.pkg := by
  unfold selectSource
  repeat' split
  all_goals simp

@[simp] theorem dropActive_pkg (e : Nat) (s : State) : (dropActive e s).pkg = s.pkg := by
  simp only [dropActive]
  repeat' split
  all_goals simp

@[simp] theorem loseSource_pkg (x : TSrc) (s : State) : (loseSource x s).pkg = s.pkg := by
  unfold loseSource
  split <;> simp

@[simp] theorem measured_pkg (x : TSrc) (off : ℤ) (err : Nat) (s : State) : (measured x off err s).pkg = s.pkg := by
  simp only [measured]
  repeat' split
  all_goals simp

@[simp] theorem utcFrom_pkg (x : TSrc) (off : Nat) (l61 l59 : Bool) (s : State) : (utcFrom x off l61 l59 s).pkg = s.pkg := by
  unfold utcFrom
  split <;> simp

@[simp] theorem timNowReadAt_pkg (s : State) : (timNowReadAt s).pkg = s.pkg := rfl

@[simp] theorem timCfgWriteAt_pkg (v : Nat) (s : State) : (timCfgWriteAt v s).pkg = s.pkg := by
  unfold timCfgWriteAt
  dsimp only
  rw [State.ppsHeld_pkg, foldl_pkg fun s x => by split <;> simp, State.modTime_pkg, State.rebase_pkg]
  split <;> simp

@[simp] theorem timeCoarse_pkg (s : State) : (timeCoarse s).pkg = s.pkg := rfl

@[simp] theorem countTick_pkg (s : State) : (countTick s).pkg = s.pkg := by
  unfold countTick
  split <;> simp

theorem timeRead_keepsHalt : KeepsHalt timeRead := fun _ _ h =>
  orBad_inHalt _ h fun _ h => h

theorem timeSet_keepsHalt : KeepsHalt timeSet := fun c s h =>
  orBad_inHalt _ h fun s h => by
    dsimp only
    split <;> simpa using h

/-! ### Frames -/

@[simp] theorem State.modStream_pkg (s : State) (n : Nat) (f : Stream → Stream) : (s.modStream n f).pkg = s.pkg := rfl

@[simp] theorem State.modSession_pkg (s : State) (n : Nat) (f : Session → Session) : (s.modSession n f).pkg = s.pkg := rfl

@[simp] theorem raiseRing_pkg (i n : Nat) (s : State) : (raiseRing i n s).pkg = s.pkg := by
  simp only [raiseRing]
  repeat' split
  all_goals simp

@[simp] theorem ringSignal_pkg (i n l : Nat) (now : Bool) (s : State) : (ringSignal i n l now s).pkg = s.pkg := by
  simp only [ringSignal]
  repeat' split
  all_goals simp

@[simp] theorem putEntry_pkg (i n typ flen : Nat) (body : List Byte) (now : Bool) (s : State) :
    (putEntry i n typ flen body now s).2.pkg = s.pkg := by
  simp only [putEntry]
  repeat' split
  all_goals simp

@[simp] theorem streamEvent_pkg (n ev tick : Nat) (s : State) : (streamEvent n ev tick s).pkg = s.pkg := by
  simp only [streamEvent]
  repeat' split
  all_goals simp [foldl_pkg]

@[simp] theorem deliverTo_pkg (n : Nat) (f : Judged) (hstate win : Nat) (x : Sub) (s : State) :
    (deliverTo n f hstate win x s).pkg = s.pkg := by
  simp [deliverTo]

@[simp] theorem deliverAll_pkg (n : Nat) (f : Judged) (hstate win : Nat) (p : Sub → Bool) (s : State) :
    (deliverAll n f hstate win p s).pkg = s.pkg := by
  simp only [deliverAll]
  repeat' split
  all_goals simp [foldl_pkg]

@[simp] theorem rateRoll_pkg (n tick : Nat) (s : State) : (rateRoll n tick s).pkg = s.pkg := by
  simp only [rateRoll]
  repeat' split
  all_goals simp

@[simp] theorem streamPass_pkg (n ingress ttl : Nat) (s : State) : (streamPass n ingress ttl s).pkg = s.pkg := by
  unfold streamPass
  repeat' split
  all_goals simp

@[simp] theorem streamFail_pkg (n t : Nat) (s : State) : (streamFail n t s).pkg = s.pkg := by
  simp only [streamFail]
  repeat' split
  all_goals simp

@[simp] theorem streamRelease_pkg (n : Nat) (s : State) : (streamRelease n s).pkg = s.pkg := by
  unfold streamRelease
  repeat' split
  all_goals simp

@[simp] theorem frameRingEnableAt_pkg (i n v : Nat) (s : State) : (frameRingEnableAt i n v s).pkg = s.pkg := by
  simp only [frameRingEnableAt]
  repeat' split
  all_goals simp

@[simp] theorem frameRingDoorbellAt_pkg (i n v : Nat) (s : State) : (frameRingDoorbellAt i n v s).pkg = s.pkg := by
  simp only [frameRingDoorbellAt]
  repeat' split
  all_goals simp

@[simp] theorem ringTimer_pkg (i n : Nat) (s : State) : (ringTimer i n s).pkg = s.pkg := by
  simp only [ringTimer]
  repeat' split
  all_goals simp

/-! ### Harvest -/

@[simp] theorem deliverHeld_pkg (n hstate : Nat) (win : PFrame → Nat) (ps : List PFrame) (s : State) :
    (deliverHeld n hstate win ps s).pkg = s.pkg :=
  foldl_pkg (fun s p => by split <;> simp) ps s

@[simp] theorem harvestEntry_pkg (n result reason count win tq start : Nat) (s : State) :
    (harvestEntry n result reason count win tq start s).pkg = s.pkg := by
  simp only [harvestEntry]
  repeat' split
  all_goals simp [foldl_pkg]

@[simp] theorem resolveEach_pkg (n reason : Nat) (x : Session) (ps : List PFrame) (s : State) :
    (resolveEach n reason x ps s).pkg = s.pkg := by
  simp [resolveEach, foldl_pkg]

@[simp] theorem resolveLost_pkg (n : Nat) (x : Session) (ps : List PFrame) (s : State) : (resolveLost n x ps s).pkg = s.pkg := by
  simp [resolveLost]

@[simp] theorem dropShards_pkg (k : Nat) (s : State) : (dropShards k s).pkg = s.pkg := rfl

@[simp] theorem endSession_pkg (n : Nat) (s : State) : (endSession n s).pkg = s.pkg := by
  unfold endSession
  split <;> simp

@[simp] theorem endSessionsOf_pkg (n : Nat) (s : State) : (endSessionsOf n s).pkg = s.pkg := by
  simp [endSessionsOf, foldl_pkg]

@[simp] theorem sealFail_pkg (n w r : Nat) (st : Status) (s : State) : (sealFail n w r st s).pkg = s.pkg := by
  simp [sealFail]

@[simp] theorem enqueue_pkg (p : Nat) (e : Egress) (s : State) : (enqueue p e s).pkg = s.pkg := by
  unfold enqueue
  repeat' split
  all_goals simp

@[simp] theorem sendSealed_pkg (x : Session) (y : Sealing) (obj : List Byte) (s : State) :
    (sendSealed x y obj s).pkg = s.pkg := by
  simp only [sendSealed]
  repeat' split
  all_goals simp [foldl_pkg]

@[simp] theorem flushSealed_pkg (n m : Nat) (s : State) : (flushSealed n m s).pkg = s.pkg := by
  induction m generalizing s with
  | zero => rfl
  | succ m ih =>
    unfold flushSealed
    repeat' split
    all_goals simp [ih]

@[simp] theorem closeWindow_pkg (n : Nat) (s : State) : (closeWindow n s).pkg = s.pkg := by
  unfold closeWindow
  repeat' split
  all_goals simp

@[simp] theorem foldSeal_pkg (n : Nat) (bare : List Byte) (s : State) : (foldSeal n bare s).pkg = s.pkg := by
  simp only [foldSeal]
  repeat' split
  all_goals simp

@[simp] theorem shelfSecret_pkg (s : State) (k : KeyRec) (order : Nat) : (shelfSecret s k order).2.pkg = s.pkg := by
  unfold shelfSecret
  split <;> simp

@[simp] theorem sessionEnergy_pkg (i : Nat) (nj : Option Nat) (s : State) : (sessionEnergy i nj s).pkg = s.pkg := by
  simp only [sessionEnergy]
  repeat' split
  all_goals simp

@[simp] theorem sessionBatch_pkg (i : Nat) (s : State) : (sessionBatch i s).pkg = s.pkg := by
  simp [sessionBatch]

@[simp] theorem sealOnce_pkg (x : Session) (k : KeyRec) (record : List Byte) (r p n : Nat) (at' : Nat × Nat) (s : State) :
    (sealOnce x k record r p n at' s).2.2.pkg = s.pkg := by
  simp only [sealOnce]
  repeat' split
  all_goals simp

@[simp] theorem sealCheckFail_inHalt (r p : Nat) (s : State) (h : s.pkg.inHalt) : (sealCheckFail r p s).pkg.inHalt := by
  have h1 (x f) := record_inHalt x .retry (s.modRegion r f) h
  unfold sealCheckFail
  dsimp only
  split
  · rw [startTest_pkg]
    exact h1 _ _
  · exact h1 _ _

/-- A signing that keeps HALT keeps it through its release check and the one repetition (R124). -/
theorem checkedSign_inHalt (r n : Nat) {once : Nat → Nat × Nat → State → Except Status Bool × List Byte × State}
    (ho : ∀ p a s, s.pkg.inHalt → (once p a s).2.2.pkg.inHalt) {s : State} (h : s.pkg.inHalt) :
    ∀ x ∈ checkedSign r n once s, x.2.pkg.inHalt := by
  have run {p a} {s : State} (h : s.pkg.inHalt) {x b s1} (e : once p a s = (x, b, s1)) : s1.pkg.inHalt := by
    have := ho p a s h
    rwa [e] at this
  unfold checkedSign
  repeat' split
  all_goals simp only [Option.mem_def, Option.some.injEq, forall_eq', reduceCtorEq, false_implies, implies_true]
  all_goals grind [sealCheckFail_inHalt]

theorem sealSign_inHalt (x : Session) (k : KeyRec) (record : List Byte) {s : State} (h : s.pkg.inHalt) :
    ∀ y ∈ sealSign x k record s, y.2.pkg.inHalt := by
  unfold sealSign
  split
  · simpa using h
  · dsimp only
    split
    · simp
    · exact checkedSign_inHalt _ _ (fun p a s h => by simpa using h) h

@[simp] theorem failRecord_pkg (n : Nat) (rec : List Byte) (reason : Nat) (s : State) :
    (failRecord n rec reason s).pkg = s.pkg := by
  unfold failRecord
  repeat' split
  all_goals simp

@[simp] theorem passRecord_pkg (n : Nat) (rec : List Byte) (s : State) : (passRecord n rec s).pkg = s.pkg := by
  unfold passRecord
  split <;> simp

@[simp] theorem recordComplete_pkg (n : Nat) (a : Assembly) (s : State) : (recordComplete n a s).pkg = s.pkg := by
  simp only [recordComplete]
  repeat' split
  all_goals simp

@[simp] theorem takeShard_pkg (h : Nat) (b : List Byte) (s : State) : (takeShard h b s).pkg = s.pkg := by
  simp only [takeShard]
  repeat' split
  all_goals simp

@[simp] theorem foldVerify_pkg (n : Nat) (bare : List Byte) (h : Held) (ingress : Nat) (deliverable : Bool) (s : State) :
    (foldVerify n bare h ingress deliverable s).2.pkg = s.pkg := by
  simp only [foldVerify]
  repeat' split
  all_goals simp

theorem frmHarvestSet_keepsHalt : KeepsHalt frmHarvestSet := fun c s h =>
  orBad_inHalt _ h fun s h => by
    split
    · simpa using h
    · split
      · exact orBad_inHalt _ h fun s h => by simpa using h
      · exact h

theorem frmHarvestStatus_keepsHalt : KeepsHalt frmHarvestStatus := fun _ _ h =>
  orBad_inHalt _ h fun _ h => h

/-! ### FramePath -/

@[simp] theorem forward_pkg (p : Nat) (e : Egress) (s : State) : (forward p e s).pkg = s.pkg := by
  simp [forward]

@[simp] theorem answerPdelay_pkg (p : Nat) (b : List Byte) (s : State) : (answerPdelay p b s).pkg = s.pkg := by
  simp [answerPdelay]

@[simp] theorem rxPtp_pkg (p : Nat) (b : List Byte) (s : State) : (rxPtp p b s).pkg = s.pkg := by
  simp only [rxPtp]
  repeat' split
  all_goals simp

@[simp] theorem rxUnknown_pkg (p : Nat) (b : List Byte) (s : State) : (rxUnknown p b s).pkg = s.pkg := by
  simp only [rxUnknown]
  repeat' split
  all_goals simp

@[simp] theorem notePass_pkg (n kind : Nat) (bare : List Byte) (ingress : Nat) (s : State) :
    (notePass n kind bare ingress s).pkg = s.pkg := by
  simp [notePass]

@[simp] theorem rxDeliver_pkg (n : Nat) (st : Stream) (f : Judged) (bare : List Byte) (folds : Bool) (s : State) :
    (rxDeliver n st f bare folds s).pkg = s.pkg := by
  simp only [rxDeliver]
  repeat' split
  all_goals simp

@[simp] theorem rxStream_inHalt (p n : Nat) (b : List Byte) (fault : Bool) (s : State) (h : s.pkg.inHalt) :
    (rxStream p n b fault s).pkg.inHalt := by
  unfold rxStream
  split
  · exact h
  · dsimp only
    have pick {c : Prop} [Decidable c] {a b : State} (ha : a.pkg.inHalt) (hb : a.pkg.inHalt → b.pkg.inHalt) :
        (if c then b else a).pkg.inHalt := by
      split
      · exact hb ha
      · exact ha
    refine pick ?_ fun h => by simpa using h
    rw [rxDeliver_pkg]
    refine pick ?_ fun h => by simpa using h
    refine pick ?_ fun h => by simpa using h
    refine pick ?_ fun h => by simpa using h
    refine pick ?_ fun h => by simpa using h
    exact pick (by simpa using h) fun h => raiseRetry_inHalt _ _ _ h

@[simp] theorem depart_pkg (p : Nat) (e : Egress) (s : State) : (depart p e s).pkg = s.pkg := by
  unfold depart
  repeat' split
  all_goals simp

theorem frmSend_keepsHalt : KeepsHalt frmSend := fun c s h =>
  orBad_inHalt _ h fun s h => by
    dsimp only
    repeat' split
    all_goals simpa using h

@[simp] theorem retrain_pkg (p : Nat) (s : State) : (retrain p s).pkg = s.pkg := by
  simp [retrain, foldl_pkg]

@[simp] theorem setPortMode_pkg (p : Nat) (m : PortMode) (s : State) : (setPortMode p m s).pkg = s.pkg := by
  unfold setPortMode
  split <;> simp

theorem frmPortSet_keepsHalt : KeepsHalt frmPortSet := fun c s h =>
  orBad_inHalt _ h fun s h => by
    dsimp only
    rw [State.modPort_pkg]
    repeat' split
    all_goals simpa using h

theorem frmStreamSet_keepsHalt : KeepsHalt frmStreamSet := fun c s h =>
  orBad_inHalt _ h fun s h => by
    dsimp only
    repeat' split
    all_goals simpa using h

theorem frmStreamClear_keepsHalt : KeepsHalt frmStreamClear := fun c s h =>
  orBad_inHalt _ h fun s h => by simpa using h

theorem frmStreamRelease_keepsHalt : KeepsHalt frmStreamRelease := fun c s h =>
  orBad_inHalt _ h fun s h => by simpa using h

theorem frmStreamStatus_keepsHalt : KeepsHalt frmStreamStatus := fun c s h =>
  orBad_inHalt _ h fun s h => by split <;> exact h

theorem frmKeySet_keepsHalt : KeepsHalt frmKeySet := fun c s h =>
  orBad_inHalt _ h fun s h => by simpa using h

theorem frmSubscribe_keepsHalt : KeepsHalt frmSubscribe := fun c s h =>
  orBad_inHalt _ h fun s h => by simpa using h

theorem frmUnsubscribe_keepsHalt : KeepsHalt frmUnsubscribe := fun c s h =>
  orBad_inHalt _ h fun s h => by simpa using h

theorem frmChecked_keepsHalt (f : Cmd → State → State × Option Res) : KeepsHalt (frmChecked f) := fun _ _ h => h

theorem frmConfig_keepsHalt {n : Nat} {f : Cmd → State → State × Option Res} (e : frmConfig n = some f) : KeepsHalt f := by
  unfold frmConfig at e
  split at e <;> cases e
  · exact frmSubscribe_keepsHalt
  · exact frmUnsubscribe_keepsHalt
  · exact frmPortSet_keepsHalt
  · exact frmStreamSet_keepsHalt
  · exact frmStreamClear_keepsHalt
  · exact frmKeySet_keepsHalt
  · exact frmHarvestSet_keepsHalt

@[simp] theorem frmSettled_inHalt (c : Cmd) (r : Res) (s : State) (h : s.pkg.inHalt) : (frmSettled c r s).1.pkg.inHalt := by
  unfold frmSettled
  split
  next f e =>
    split
    · exact frmConfig_keepsHalt e c s h
    · exact h
  · exact h

@[simp] theorem framesGeneration_pkg (i : Nat) (s : State) : (framesGeneration i s).pkg = s.pkg := by
  unfold framesGeneration
  dsimp only
  rw [foldl_pkg fun s n => endSession_pkg n s, foldl_pkg fun s e => foldl_pkg (fun s h => State.modPort_pkg ..) _ s]

/-! ### Kertor -/

@[simp] theorem State.setCore_pkg (s : State) (c : CoreId) (k : Core) : (s.setCore c k).pkg = s.pkg := rfl

/-! ### Keys -/

@[simp] theorem newRecord_pkg (j : Job) (n : NewKey) (home blobOperand lmsId : Nat) (s : State) :
    (newRecord j n home blobOperand lmsId s).2.pkg = s.pkg := rfl

@[simp] theorem shelfOf_pkg (k : KeyRec) (n : NewKey) (s : State) : (shelfOf k n s).2.pkg = s.pkg := rfl

@[simp] theorem takeLms_pkg (s : State) : (takeLms s).2.pkg = s.pkg := rfl

@[simp] theorem created_pkg (c : Cmd) (n : NewKey) (outs : List (Nat × List Byte)) (s : State) :
    (created c n outs s).1.pkg = s.pkg := by
  simp only [created]
  repeat' split
  all_goals simp

@[simp] theorem enterKey_pkg (r : Res) (s : State) : (enterKey r s).pkg = s.pkg := by
  simp only [enterKey]
  repeat' split
  all_goals simp

theorem withSeed_inHalt (c : Cmd) {s : State} {k : List Byte → State → State × Option Res} (h : s.pkg.inHalt)
    (hk : ∀ b s, s.pkg.inHalt → (k b s).1.pkg.inHalt) : (withSeed c s k).1.pkg.inHalt :=
  withMask_inHalt _ c h fun _ h => withDraw_inHalt _ _ c h hk

@[simp] theorem mceAttempts_pkg (alg : Nat) (s : State) : (mceAttempts alg s).2.pkg = s.pkg := by
  unfold mceAttempts
  split <;> simp

@[simp] theorem countAttempts_pkg (r n : Nat) (s : State) : (countAttempts r n s).pkg = s.pkg := by
  unfold countAttempts
  split <;> simp

@[simp] theorem attemptsFault_inHalt (c : Cmd) (s : State) (h : s.pkg.inHalt) : (attemptsFault c s).pkg.inHalt := by
  simp [attemptsFault, h]

theorem keyGenerate_keepsHalt : KeepsHalt keyGenerate := fun c s h =>
  orBad_inHalt _ h fun s h => withSeed_inHalt c h fun d s h => by
    have h1 : (countAttempts c.rgn (mceAttempts c.job.alg s).1 (mceAttempts c.job.alg s).2).pkg.inHalt := by simpa using h
    dsimp only
    repeat' split
    · exact attemptsFault_inHalt c _ h1
    · exact h1
    all_goals simpa using h

theorem keyImport_keepsHalt : KeepsHalt keyImport := fun c s h =>
  orBad_inHalt _ h fun s h => by
    dsimp only
    repeat' split
    all_goals simpa using h

theorem keyDerive_keepsHalt : KeepsHalt keyDerive := fun c s h =>
  orBad_inHalt _ h fun s h => countThen_inHalt c _ _ h fun s h => withKey_inHalt c h fun sk pub s h => by simpa using h

@[simp] theorem countUnwrap_pkg (r i : Nat) (s : State) : (countUnwrap r i s).pkg = s.pkg := rfl

@[simp] theorem unwrapped_pkg (r i : Nat) (b : List Byte) (s : State) : (unwrapped r i b s).pkg = s.pkg := by
  unfold unwrapped
  split <;> simp

@[simp] theorem countBlobFail_pkg (s : State) : (countBlobFail s).pkg = s.pkg := rfl

theorem keyLoad_keepsHalt : KeepsHalt keyLoad := fun c s h => by
  unfold keyLoad
  dsimp only
  refine orBad_inHalt _ h fun s h => ?_
  split
  · repeat' split
    all_goals simpa using h
  · refine orBad_inHalt _ h fun s h => ?_
    repeat' split
    all_goals simpa using h

@[simp] theorem loadShelf_pkg (j : Nat) (b : List Byte) (s : State) : (loadShelf j b s).pkg = s.pkg := by
  unfold loadShelf
  split
  · rfl
  · split
    · rfl
    · dsimp only
      have opened (c : Prop) [Decidable c] (r i : Nat) : (if c then s else unwrapped r i b s).pkg = s.pkg := by split <;> simp
      split
      · rfl
      · split
        · rw [foldl_pkg fun s j => fail_pkg j .blobInvalid s, countBlobFail_pkg, opened]
        · have shelved (c : Prop) [Decidable c] (r : Nat) (e : ShelfKey) (t : State) :
              (if c then (false, t) else shelve r e t).2.pkg = t.pkg := by split <;> simp
          split
          next s2 e =>
            rw [foldl_pkg fun s j => State.modProg_pkg .., State.modCmd_pkg, ← congrArg (·.2.pkg) e]
            simp [shelved, opened]
          next s2 e =>
            rw [State.modCmd_pkg, ← congrArg (·.2.pkg) e]
            simp [shelved, opened]

@[simp] theorem dropShelf_pkg (j : Nat) (k : KeyRec) (s : State) : (dropShelf j k s).pkg = s.pkg := rfl

theorem actOnKey_inHalt (c : Cmd) {act : KeyRec → State → State} (ha : ∀ k s, (act k s).pkg = s.pkg) {s : State} (h : s.pkg.inHalt) :
    (actOnKey c act s).1.pkg.inHalt :=
  orBad_inHalt _ h fun s h => by
    split
    · exact h
    · dsimp only
      split
      · exact h
      · simpa [ha] using h

theorem keyEvict_keepsHalt : KeepsHalt keyEvict := fun c _ h =>
  actOnKey_inHalt c (fun _ _ => rfl) h

@[simp] theorem dropPins_pkg (k : KeyRec) (s : State) : (dropPins k s).pkg = s.pkg :=
  foldl_pkg (fun s r => by simp) regionNums s

@[simp] theorem deleteKey_pkg (j : Nat) (k : KeyRec) (s : State) : (deleteKey j k s).pkg = s.pkg := by
  unfold deleteKey
  dsimp only
  rw [commit_pkg, State.modKey_pkg, dropPins_pkg]

theorem keyDelete_keepsHalt : KeepsHalt keyDelete := fun c _ h =>
  actOnKey_inHalt c (fun k s => deleteKey_pkg _ k s) h

@[simp] theorem pinCryst_pkg (c : Cmd) (k : KeyRec) (pk : List Byte) (s : State) : (pinCryst c k pk s).1.pkg = s.pkg := by
  simp only [pinCryst]
  repeat' split
  all_goals simp

theorem streamKey_inHalt (c : Cmd) (k : KeyRec) {s : State} {f : List Byte → State → State × Option Res} (h : s.pkg.inHalt)
    (hf : ∀ b s, s.pkg.inHalt → (f b s).1.pkg.inHalt) : (streamKey c k s f).1.pkg.inHalt := by
  unfold streamKey
  split
  · exact hf _ s h
  · split
    · exact h
    · simpa using h

@[simp] theorem pinPlace_pkg (r : Nat) (k : KeyRec) (pub : List Byte) (s : State) : (pinPlace r k pub s).pkg = s.pkg := rfl

@[simp] theorem rehome_pkg (r : Nat) (k : KeyRec) (s : State) : (rehome r k s).2.pkg = s.pkg := by
  unfold rehome
  split <;> simp

theorem pinMce_inHalt (c : Cmd) (k : KeyRec) {s : State} (h : s.pkg.inHalt) : (pinMce c k s).1.pkg.inHalt := by
  have hr : (rehome c.rgn k s).2.pkg.inHalt := by simpa using h
  unfold pinMce
  dsimp only
  repeat' split
  · simpa using hr
  · simpa using hr
  · exact hr
  · exact streamKey_inHalt c _ hr fun b s h => by simpa using h

theorem mceKey_inHalt (c : Cmd) (k : KeyRec) {s : State} {f : Bool → List Byte → State → State × Option Res} (h : s.pkg.inHalt)
    (hf : ∀ x b s, s.pkg.inHalt → (f x b s).1.pkg.inHalt) : (mceKey c k s f).1.pkg.inHalt := by
  have hr : (rehome c.rgn k s).2.pkg.inHalt := by simpa using h
  unfold mceKey
  dsimp only
  split
  · exact hf _ _ _ hr
  · refine streamKey_inHalt c _ hr fun b s h => hf _ _ _ ?_
    split
    · simpa using h
    · exact h

theorem keyPinPublic_keepsHalt : KeepsHalt keyPinPublic := fun c s h =>
  orBad_inHalt _ h fun s h => by
    split
    · exact h
    · split
      · exact pinMce_inHalt c _ h
      · split
        · exact h
        · exact withKey_inHalt c h fun sk pub s h => by simpa using h

theorem keyList_keepsHalt : KeepsHalt keyList := fun _ _ h =>
  orBad_inHalt _ h fun _ h => h

theorem keyIdentity_keepsHalt : KeepsHalt keyIdentity := fun _ _ h =>
  orBad_inHalt _ h fun _ h => h

theorem keyTransfer_keepsHalt : KeepsHalt keyTransfer := fun c s h =>
  orBad_inHalt _ h fun s h => by
    split
    · exact h
    · exact withKey_inHalt c h fun sk pub s h => by
        split
        · exact mceKey_inHalt c _ h fun _ b s h => by simpa using h
        · simpa using h

theorem setVault_pkg (t : State) (v : Vault) : ({ t with vault := v } : State).pkg = t.pkg := rfl

@[simp] theorem revokeAll_pkg (s : State) : (revokeAll s).pkg = s.pkg :=
  (setVault_pkg _ _).trans (foldl_pkg (fun _ _ => State.modRegion_pkg ..) _ s)

@[simp] theorem revokeInst_pkg (i : Nat) (s : State) : (revokeInst i s).pkg = s.pkg :=
  (setVault_pkg _ _).trans (foldl_pkg (fun s r => by rw [dropCryst_pkg, State.modRegion_pkg]) _ s)

@[simp] theorem dropPkgs_pkg (s : State) : (dropPkgs s).pkg = s.pkg := by
  unfold dropPkgs
  dsimp only
  exact foldl_pkg (fun s r => State.modRegion_pkg ..) _ s

@[simp] theorem applyKum_pkg (m : KumSlot) (s : State) : (applyKum m s).pkg = s.pkg := by
  unfold applyKum
  split <;> simp

@[simp] theorem reprovision_inHalt (m : KumSlot) (s : State) (h : s.pkg.inHalt) : (reprovision m s).pkg.inHalt := by
  unfold reprovision
  split
  · refine setMode_inHalt .selfTest _ rfl ?_
    rw [mlog_pkg]
    exact h
  · exact h

@[simp] theorem carryKum_inHalt (j : Option Nat) (b : List Byte) (s : State) (h : s.pkg.inHalt) : (carryKum j b s).pkg.inHalt := by
  unfold carryKum
  refine reprovision_inHalt _ _ ?_
  rw [applyKum_pkg]
  split <;> simpa using h

theorem keyUpdate_keepsHalt : KeepsHalt keyUpdate := fun c s h =>
  orBad_inHalt _ h fun s h => by
    have hk := carryKum_inHalt (some c.job.id) (c.job.operand 0) s h
    simpa using hk

@[simp] theorem vltHcapWriteAt_pkg (v : Nat) (s : State) : (vltHcapWriteAt v s).pkg = s.pkg := by
  simp only [vltHcapWriteAt]
  repeat' split
  all_goals simp

@[simp] theorem clrCountsAt_pkg (r : Nat) (shelf : Bool) (s : State) : (clrCountsAt r shelf s).pkg = s.pkg := by
  unfold clrCountsAt
  repeat' split
  all_goals simp

/-! ### Lattice -/

theorem withMasks_inHalt (op : Nat) (c : Cmd) {s : State} {k : State → State × Option Res} (h : s.pkg.inHalt)
    (hk : ∀ s, s.pkg.inHalt → (k s).1.pkg.inHalt) : (withMasks op c s k).1.pkg.inHalt := withMask_inHalt _ c h hk

theorem mlkemEncaps_keepsHalt : KeepsHalt mlkemEncaps := fun c s h =>
  orBad_inHalt _ h fun s h => countThen_inHalt c _ _ h fun s h => withMasks_inHalt _ c h fun s h =>
    withKey_inHalt c h fun sk pub s h => withRandom_inHalt _ c h fun d s h => by
    dsimp only
    split <;> simpa using h

theorem mlkemDecaps_keepsHalt : KeepsHalt mlkemDecaps := fun c s h =>
  orBad_inHalt _ h fun s h => countThen_inHalt c _ _ h fun s h => withMasks_inHalt _ c h fun s h =>
    withKey_inHalt c h fun sk pub s h => by simpa using h

theorem hybEncaps_keepsHalt : KeepsHalt hybEncaps := fun c s h =>
  orBad_inHalt _ h fun s h => countThen_inHalt c _ _ h fun s h => orBad_inHalt _ h fun s h => withMasks_inHalt _ c h fun s h =>
    withKey_inHalt c h fun sk pub s h => withRandom_inHalt _ c h fun d s h => by
    dsimp only
    split <;> simpa using h

theorem hybDecaps_keepsHalt : KeepsHalt hybDecaps := fun c s h =>
  orBad_inHalt _ h fun s h => countThen_inHalt c _ _ h fun s h => orBad_inHalt _ h fun s h => withMasks_inHalt _ c h fun s h =>
    withKey_inHalt c h fun sk pub s h => withRandom_inHalt _ c h fun d s h => by
    dsimp only
    split <;> simpa using h

@[simp] theorem releaseSig_pkg (c : Cmd) (nj : Option Nat) (sig : List Byte) (s : State) :
    (releaseSig c nj sig s).1.pkg = s.pkg := by
  simp only [releaseSig]
  repeat' split
  all_goals simp

theorem mldsaSign_keepsHalt : KeepsHalt mldsaSign := fun c s h =>
  orBad_inHalt _ h fun s h => countThen_inHalt c _ _ h fun s h => orBad_inHalt _ h fun s h => withMasks_inHalt _ c h fun s h =>
    withKey_inHalt c h fun sk pub s h => withRandom_inHalt _ c h fun d s h => by
    dsimp only
    repeat' split
    all_goals simpa using h

theorem mldsaVerify_keepsHalt : KeepsHalt mldsaVerify := fun c s h =>
  orBad_inHalt _ h fun s h => countThen_inHalt c _ _ h fun s h => withKey_inHalt c h fun sk pub s h => by simpa using h

theorem fndsaVerify_keepsHalt : KeepsHalt fndsaVerify := fun c s h =>
  orBad_inHalt _ h fun s h => countThen_inHalt c _ _ h fun s h => withKey_inHalt c h fun sk pub s h => by
    dsimp only
    split <;> simpa using h

theorem compSign_keepsHalt : KeepsHalt compSign := fun c s h =>
  orBad_inHalt _ h fun s h => countThen_inHalt c _ _ h fun s h => orBad_inHalt _ h fun s h => by
    have signed (l : Nat) (k : List Byte → List Byte → State → State × Option Res)
        (hk : ∀ sk d s, s.pkg.inHalt → (k sk d s).1.pkg.inHalt) (s : State) (h : s.pkg.inHalt) :
        (withKey c s fun sk _ s => withRandom l c s fun d s => k sk d s).1.pkg.inHalt :=
      withKey_inHalt c h fun sk _ s h => withRandom_inHalt l c h fun d s h => hk sk d s h
    dsimp only
    split
    · exact withMasks_inHalt _ c h fun s h => signed _ _ (fun sk d s h => by
        repeat' split
        all_goals simpa using h) s h
    · exact signed _ _ (fun sk d s h => by
        repeat' split
        all_goals simpa using h) s h

theorem compVerify_keepsHalt : KeepsHalt compVerify := fun c s h =>
  orBad_inHalt _ h fun s h => countThen_inHalt c _ _ h fun s h => orBad_inHalt _ h fun s h => withKey_inHalt c h fun sk pub s h => by
    dsimp only
    split <;> simpa using h

/-! ### Number -/

theorem numRun_inHalt (c : Cmd) (cls : List Nat) (use : Nat) {s : State} {f : State → State × Option Res} (h : s.pkg.inHalt)
    (hf : ∀ s, s.pkg.inHalt → (f s).1.pkg.inHalt) : (numRun c cls use s f).1.pkg.inHalt :=
  orBad_inHalt _ h fun s h => countThen_inHalt c _ _ h fun s h => orBad_inHalt _ h fun s h => by
    have hr := hf (drawNat s).2 h
    dsimp only
    split
    next s1 r he => rwa [he] at hr
    · exact hr

@[simp] theorem releaseNum_pkg (c : Cmd) (sig : List Byte) (s : State) : (releaseNum c sig s).1.pkg = s.pkg := by
  simp [releaseNum]

theorem rsaEncrypt_keepsHalt : KeepsHalt rsaEncrypt := fun c s h =>
  numRun_inHalt c _ _ h fun s h => withKey_inHalt c h fun sk pub s h => withDraw_inHalt _ _ c h fun d s h => by
    dsimp only
    split <;> simpa using h

theorem rsaDecrypt_keepsHalt : KeepsHalt rsaDecrypt := fun c s h =>
  numRun_inHalt c _ _ h fun s h => withKey_inHalt c h fun sk pub s h => withRandom_inHalt _ c h fun d s h => by
    dsimp only
    repeat' split
    all_goals simpa using h

theorem rsaSign_keepsHalt : KeepsHalt rsaSign := fun c s h =>
  numRun_inHalt c _ _ h fun s h => withKey_inHalt c h fun sk pub s h => withRandom_inHalt _ c h fun d s h => by simpa using h

theorem rsaVerify_keepsHalt : KeepsHalt rsaVerify := fun c _ h =>
  numRun_inHalt c _ _ h fun _ h => withKey_inHalt c h fun _ _ _ h => h

theorem ecdsaSign_keepsHalt : KeepsHalt ecdsaSign := fun c s h =>
  numRun_inHalt c _ _ h fun s h => withKey_inHalt c h fun sk pub s h => withRandom_inHalt _ c h fun d s h => by simpa using h

theorem ecdsaVerify_keepsHalt : KeepsHalt ecdsaVerify := fun c s h =>
  numRun_inHalt c _ _ h fun s h => withKey_inHalt c h fun sk pub s h => by
    dsimp only
    split <;> simpa using h

theorem eddsaSign_keepsHalt : KeepsHalt eddsaSign := fun c s h =>
  numRun_inHalt c _ _ h fun s h => withKey_inHalt c h fun sk pub s h => withRandom_inHalt _ c h fun d s h => by simpa using h

theorem eddsaVerify_keepsHalt : KeepsHalt eddsaVerify := fun c s h =>
  numRun_inHalt c _ _ h fun s h => withKey_inHalt c h fun sk pub s h => by
    dsimp only
    split <;> simpa using h

theorem kemEcdh_keepsHalt : KeepsHalt kemEcdh := fun c s h =>
  numRun_inHalt c _ _ h fun s h => withKey_inHalt c h fun sk pub s h => withDraw_inHalt _ _ c h fun d s h => by
    dsimp only
    repeat' split
    all_goals simpa using h

theorem withStream_inHalt (c : Cmd) {s : State} {f : List Byte → State → State × Option Res} (h : s.pkg.inHalt)
    (hf : ∀ b s, s.pkg.inHalt → (f b s).1.pkg.inHalt) : (withStream c s f).1.pkg.inHalt := by
  unfold withStream
  dsimp only
  repeat' split
  · exact hf _ s h
  · exact h
  · exact (foldl_inHalt_iff (fun s i => by split <;> simp) _ _).2 h

theorem mceEncaps_keepsHalt : KeepsHalt mceEncaps := fun c s h =>
  numRun_inHalt c _ _ h fun s h => by
    dsimp only
    split
    · exact withStream_inHalt c h fun pk s h => withDraw_inHalt _ _ c h fun d s h => by simpa using h
    · exact mceKey_inHalt c _ h fun x pk s h => withDraw_inHalt _ _ c h fun d s h => by simpa using h

theorem codeDecaps_keepsHalt (f : String) : KeepsHalt (codeDecaps f) := fun c s h =>
  numRun_inHalt c _ _ h fun s h => withKey_inHalt c h fun sk pub s h => by simpa using h

theorem hqcEncaps_keepsHalt : KeepsHalt hqcEncaps := fun c s h =>
  numRun_inHalt c _ _ h fun s h => withKey_inHalt c h fun sk pub s h => withDraw_inHalt _ _ c h fun d s h => by simpa using h

@[simp] theorem applySlotLen_pkg (r p : Nat) (s : State) : (applySlotLen r p s).pkg = s.pkg := by
  unfold applySlotLen
  repeat' split
  all_goals simp

@[simp] theorem slotLenWriteAt_pkg (r p v : Nat) (s : State) : (slotLenWriteAt r p v s).pkg = s.pkg := by
  simp only [slotLenWriteAt]
  repeat' split
  all_goals simp

@[simp] theorem slotInspectReadAt_pkg (r offset : Nat) (s : State) : (slotInspectReadAt r offset s).pkg = s.pkg := by
  unfold slotInspectReadAt
  repeat' split
  all_goals simp

/-! ### Places -/

@[simp] theorem yieldJob_pkg (j : Nat) (s : State) : (yieldJob j s).pkg = s.pkg := by
  simp only [yieldJob]
  repeat' split
  all_goals simp [foldl_pkg]

/-! ### Custom -/

@[simp] theorem State.dropRunOn_pkg (s : State) (c : CoreId) : (s.dropRunOn c).pkg = s.pkg := rfl

@[simp] theorem State.modRun_pkg (s : State) (c : CoreId) (f : CustRun → CustRun) : (s.modRun c f).pkg = s.pkg := rfl

@[simp] theorem dropRun_pkg (j : Nat) (s : State) : (dropRun j s).pkg = s.pkg := rfl

@[simp] theorem State.modCust_pkg (s : State) (r : Nat) (f : CustReg → CustReg) : (s.modCust r f).pkg = s.pkg := rfl

@[simp] theorem wipeCore_pkg (c : CoreId) (s : State) : (wipeCore c s).pkg = s.pkg := rfl

@[simp] theorem endRun_pkg (x : CustRun) (res : Res) (s : State) : (endRun x res s).pkg = s.pkg := by
  unfold endRun
  split <;> simp

@[simp] theorem abortRun_pkg (x : CustRun) (wdog : Bool) (s : State) : (abortRun x wdog s).pkg = s.pkg := by
  simp [abortRun]

@[simp] theorem matchFault_inHalt (x : CustRun) (s : State) (h : s.pkg.inHalt) : (matchFault x s).pkg.inHalt := by
  unfold matchFault
  dsimp only
  split
  · exact raiseRetry_inHalt _ _ _ h
  · exact h

@[simp] theorem takeYield_pkg (x : CustRun) (s : State) : (takeYield x s).pkg = s.pkg := by
  unfold takeYield
  repeat' split
  all_goals simp

@[simp] theorem custPoint_pkg (c : CoreId) (s : State) : (custPoint c s).pkg = s.pkg := by
  simp only [custPoint]
  repeat' split
  all_goals simp

@[simp] theorem seqAct_inHalt (w : Nat) (x : CustRun) (s : State) (h : s.pkg.inHalt) : (seqAct w x s).pkg.inHalt := by
  simp only [seqAct]
  repeat' split
  all_goals simp [h]

@[simp] theorem stepped_pkg (c : CoreId) (s : State) : (stepped c s).pkg = s.pkg := rfl

@[simp] theorem seqStep_inHalt (n : Nat) (c : CoreId) (s : State) (h : s.pkg.inHalt) : (seqStep n c s).pkg.inHalt := by
  unfold seqStep
  split
  · exact h
  next x _ =>
    split
    · exact h
    · rw [stepped_pkg]
      split
      · simpa using h
      · split
        · simpa using h
        · split
          · exact h
          · dsimp only
            rw [custPoint_pkg]
            exact seqAct_inHalt _ _ _ h

@[simp] theorem coreFault_inHalt (c : CoreId) (s : State) (h : s.pkg.inHalt) : (coreFault c s).pkg.inHalt := by
  unfold coreFault
  dsimp only
  split
  · exact raiseContain_inHalt _ _ h
  · exact raiseFence_inHalt _ _ h
  · exact raiseHalt_inHalt _ _ h
  · split
    · exact raiseRetry_inHalt _ _ _ h
    · exact h

theorem handled_inHalt (c : CoreId) (k : Core) (e v : Nat) (s : State) (h : s.pkg.inHalt) :
    (if noHandler c k then coreFault c (s.setCore c k) else s.setCore c (k.exception c e v)).pkg.inHalt := by
  split
  · exact coreFault_inHalt _ _ h
  · exact h

@[simp] theorem kraise_inHalt (c : CoreId) (k : Core) (e v : Nat) (s : State) (h : s.pkg.inHalt) : (kraise c k e v s).pkg.inHalt := by
  unfold kraise
  split
  · split
    · split
      · exact h
      · simpa using h
    · exact handled_inHalt c k e v s h
  · exact handled_inHalt c k e v s h

@[simp] theorem kdone_inHalt (c : CoreId) (pc : Nat) (o : KOut) (s : State) (h : s.pkg.inHalt) : (kdone c pc o s).pkg.inHalt := by
  unfold kdone
  repeat' split
  all_goals simp [h]

@[simp] theorem kexec_inHalt (cl : KClass) (c : CoreId) (stall : Nat) (w : U32) (s : State) (run : Reach → Nat → Nat → Core → KOut)
    (h : s.pkg.inHalt) : (kexec cl c stall w s run).pkg.inHalt := by
  unfold kexec
  split
  · dsimp only
    split
    · exact h
    · rw [stepped_pkg]
      exact kraise_inHalt _ _ _ _ _ h
    · rw [stepped_pkg]
      exact kdone_inHalt _ _ _ _ h
  · exact h

theorem custLoad_keepsHalt : KeepsHalt custLoad := fun c s h =>
  by
    unfold custLoad
    dsimp only
    repeat' split
    all_goals exact h

@[simp] theorem placePkg_pkg (p : CustPkg) (s : State) : (placePkg p s).pkg = s.pkg := by
  unfold placePkg
  dsimp only
  rw [foldl_pkg fun s r => State.modCust_pkg s r _]

@[simp] theorem clearPlace_pkg (k : Nat) (s : State) : (clearPlace k s).pkg = s.pkg := by
  unfold clearPlace
  dsimp only
  rw [foldl_pkg fun s r => State.modCust_pkg s r _]

theorem custUnload_keepsHalt : KeepsHalt custUnload := fun c s h =>
  orBad_inHalt _ h fun s h => by split <;> exact h

@[simp] theorem custSettled_pkg (c : Cmd) (r : Res) (s : State) : (custSettled c r s).pkg = s.pkg := by
  unfold custSettled
  repeat' split
  all_goals simp

theorem custList_keepsHalt : KeepsHalt custList := fun _ _ h =>
  orBad_inHalt _ h fun _ h => h

@[simp] theorem startRun_pkg (job : Option Nat) (core : CoreId) (p : CustPkg) (r : Routine) (args : List Byte) (ins : Nat → List Byte)
    (s : State) :
    (startRun job core p r args ins s).pkg = s.pkg := rfl

theorem custRun_keepsHalt : KeepsHalt custRun := fun c s h => by
  unfold custRun
  dsimp only
  split
  · exact h
  · refine orBad_inHalt _ h fun s h => ?_
    split
    · exact h
    · refine orBad_inHalt _ h fun s h => ?_
      split <;> simpa using h

/-! ### Images -/

@[simp] theorem State.modFw_pkg (s : State) (k : Nat) (f : FwKind → FwKind) : (s.modFw k f).pkg = s.pkg := rfl

/-! ### Regions -/

@[simp] theorem failRegion_inHalt (r : Nat) (s : State) (h : s.pkg.inHalt) : (failRegion r s).pkg.inHalt := by
  unfold failRegion
  dsimp only
  rw [endWaiting_pkg]
  exact setRegionState_inHalt _ _ _ _ h

@[simp] theorem startReturn_inHalt (r : Nat) (full : Bool) (s : State) (h : s.pkg.inHalt) : (startReturn r full s).pkg.inHalt :=
  setRegionState_inHalt _ _ _ _ h

@[simp] theorem repair_inHalt (r : Nat) (s : State) (h : s.pkg.inHalt) : (repair r s).pkg.inHalt := by
  simp only [repair]
  repeat' split
  all_goals simp [h]

theorem regnTakeOut_keepsHalt : KeepsHalt regnTakeOut := fun c s h =>
  orBad_inHalt _ h fun s h => setRegionState_inHalt _ _ _ _ (by simpa using h)

theorem regnReturn_keepsHalt : KeepsHalt regnReturn := fun c s h =>
  orBad_inHalt _ h fun s h => by
    split
    · exact startReturn_inHalt _ _ _ (by simpa using h)
    · exact h

theorem regnReserveWarm_keepsHalt : KeepsHalt regnReserveWarm := fun c s h =>
  orBad_inHalt _ h fun s h => by
    dsimp only
    split <;> simpa using h

@[simp] theorem dikeDrained_inHalt (r : Nat) (s : State) (h : s.pkg.inHalt) : (dikeDrained r s).pkg.inHalt := by
  refine openIfDue_inHalt _ ?_
  rw [endWaiting_pkg, uncheck_pkg, unsend_pkg]
  exact setRegionState_inHalt _ _ _ _ h

@[simp] theorem dormant_pkg (r p : Nat) (s : State) : (dormant r p s).pkg = s.pkg := rfl

@[simp] theorem wipeSram_pkg (r : Nat) (s : State) : (wipeSram r s).pkg = s.pkg :=
  foldl_pkg (fun s p => dormant_pkg r p s) panNums s

@[simp] theorem startDeferredCp_pkg (s : State) : (startDeferredCp s).pkg = s.pkg := by
  unfold startDeferredCp
  split <;> simp

@[simp] theorem enterService_inHalt (r : Nat) (s : State) (h : s.pkg.inHalt) : (enterService r s).pkg.inHalt := by
  unfold enterService
  dsimp only
  rw [takeWarm_pkg]
  exact setRegionState_inHalt _ _ _ _ h

@[simp] theorem journalAged_pkg (r mhz : Nat) (s : State) : (journalAged r mhz s).pkg = s.pkg := by
  simp [journalAged]

@[simp] theorem lowerClock_pkg (r : Nat) (s : State) : (lowerClock r s).pkg = s.pkg := by
  simp [lowerClock]

@[simp] theorem setpoint_pkg (r mv slew : Nat) (ok : Bool) (s : State) : (setpoint r mv slew ok s).pkg = s.pkg := by
  simp only [setpoint]
  repeat' split
  all_goals simp

@[simp] theorem startSwitch_pkg (r : Nat) (s : State) : (startSwitch r s).pkg = s.pkg := by
  simp only [startSwitch]
  repeat' split
  all_goals simp

@[simp] theorem pointWriteAt_pkg (r v : Nat) (s : State) : (pointWriteAt r v s).pkg = s.pkg := by
  unfold pointWriteAt
  split <;> simp

@[simp] theorem degradeLink_inHalt (r : Nat) (m : Bool) (s : State) (h : s.pkg.inHalt) : (degradeLink r m s).pkg.inHalt := by
  unfold degradeLink
  dsimp only
  split
  · exact raiseFence_inHalt _ _ h
  · exact raiseContain_inHalt _ _ h

@[simp] theorem loseEntry_pkg (r n : Nat) (s : State) : (loseEntry r n s).pkg = s.pkg := rfl

theorem retryFold_inHalt (l : List Nat) {s : State} (h : s.pkg.inHalt) :
    (l.foldl (fun s j => retryJob .abortedFault j (dropRun j s)) s).pkg.inHalt :=
  foldl_inHalt (fun s j h => (retryJob_inHalt _ j _).2 (by rwa [dropRun_pkg])) l h

@[simp] theorem eccUncorrectable_inHalt (a : EccAt) (s : State) (h : s.pkg.inHalt) : (eccUncorrectable a s).pkg.inHalt := by
  unfold eccUncorrectable
  dsimp only
  split
  · simpa using h
  · exact raiseRetry_inHalt _ _ _ h
  · split
    · rw [raiseNote_pkg]
      exact h
    · refine retryFold_inHalt _ ?_
      split
      · rw [startTest_pkg]
        exact record_inHalt _ _ _ h
      · exact record_inHalt _ _ _ h
  · simpa using h
  · split
    · exact h
    · refine (retryJob_inHalt _ _ _).2 ?_
      split
      · rw [startTestOf_pkg]
        exact record_inHalt _ _ _ h
      · exact record_inHalt _ _ _ h
  · simpa using h
  · split
    · exact raiseRetry_inHalt _ _ _ h
    · simpa using h
  · exact raiseHalt_inHalt _ _ h

@[simp] theorem eccCorrected_pkg (a : EccAt) (s : State) : (eccCorrected a s).pkg = s.pkg := by
  unfold eccCorrected
  split <;> simp

/-! ### Tamper -/

@[simp] theorem disturbBy_inHalt (injected : Bool) (u : Nat) (s : State) (h : s.pkg.inHalt) : (disturbBy injected u s).pkg.inHalt := by
  unfold disturbBy
  dsimp only
  exact foldl_inHalt (fun s j h => (rerunElsewhere_inHalt j s).2 h) _ (raiseContain_inHalt _ _ (by simpa using h))

@[simp] theorem disturb_inHalt (u : Nat) (s : State) (h : s.pkg.inHalt) : (disturb u s).pkg.inHalt := by
  simp [disturb, h]

@[simp] theorem eraseStores_inHalt (s : State) : (eraseStores s).pkg.inHalt ↔ s.pkg.inHalt := Iff.rfl

@[simp] theorem eraseJobs_pkg (s : State) : (eraseJobs s).pkg = s.pkg := by
  simp [eraseJobs, foldl_pkg]

@[simp] theorem doErase_inHalt (xs : List Raise) (cls : List Nat) (s : State) (h : s.pkg.inHalt) : (doErase xs cls s).pkg.inHalt := by
  have h1 : (xs.foldl (fun s x => (record x .erase (addedEvent evTamper s)).2) s).pkg.inHalt :=
    foldl_inHalt (fun s x h => record_inHalt _ _ _ (by simpa using h)) xs h
  have h2 : (eraseJobs (eraseStores (freezeBtn evErase none (subsume (fun r => r.cause == .disturbance)
      (xs.foldl (fun s x => (record x .erase (addedEvent evTamper s)).2) s))))).pkg.inHalt := by
    rw [eraseJobs_pkg, eraseStores_inHalt, freezeBtn_pkg, subsume_pkg]
    exact h1
  exact h2

@[simp] theorem eraseBackup_inHalt (cls : List Nat) (s : State) : (eraseBackup cls s).pkg.inHalt ↔ s.pkg.inHalt := Iff.rfl

@[simp] theorem alarms_inHalt (us : List Nat) (s : State) (h : s.pkg.inHalt) : (alarms us s).pkg.inHalt := by
  unfold alarms
  repeat' split
  all_goals simp [h]

@[simp] theorem burnEvidence_pkg (s : State) : (burnEvidence s).pkg = s.pkg := by
  simp only [burnEvidence]
  repeat' split
  all_goals simp

@[simp] theorem stimulate_inHalt (u : Nat) (responds : Bool) (s : State) (h : s.pkg.inHalt) : (stimulate u responds s).pkg.inHalt := by
  unfold stimulate
  dsimp only
  split
  · exact h
  · exact raiseContain_inHalt _ _ h

theorem tampTest_keepsHalt (responds : Bool) : KeepsHalt (tampTest responds) := fun _ _ h =>
  orBad_inHalt _ h fun s h => stimulate_inHalt _ _ s h

theorem tampErase_keepsHalt : KeepsHalt tampErase := fun c s h =>
  orBad_inHalt _ h fun s h => doErase_inHalt _ _ _ (by simpa using h)

/-! ### FaultRows -/

@[simp] theorem countUnitFault_pkg (r : Nat) (k : UnitKind) (n : Nat) (pair : Bool) (s : State) :
    (countUnitFault r k n pair s).pkg = s.pkg := rfl

@[simp] theorem unitRetry_inHalt (r : Nat) (k : UnitKind) (n : Nat) (cause : FCause) (onFail : Status) (s : State) (h : s.pkg.inHalt) :
    (unitRetry r k n cause onFail s).pkg.inHalt := by
  simp [unitRetry, h]

@[simp] theorem withhold_pkg (t : SelfTest) (s : State) : (withhold t s).pkg = s.pkg := by
  unfold withhold
  split <;> simp

@[simp] theorem lasting_inHalt (t : SelfTest) (rec : FaultRec) (s : State) (h : s.pkg.inHalt) : (lasting t rec s).pkg.inHalt := by
  have contained (x : Raise) : (record x .contain s).2.pkg.inHalt := record_inHalt _ _ _ h
  have finished (s2 : State) (h2 : s2.pkg.inHalt) : (if s2.pkg.halted then s2
      else if t.on.kind.fences then raiseFence { on := t.on, cause := rec.cause } s2 else fenceIfDue t.on rec.cause s2).pkg.inHalt := by
    rw [if_pos h2.halted]
    exact h2
  have narrowed (s1 : State) (h1 : s1.pkg.inHalt) : (match t.on.region with
      | some r => if rec.cause = FCause.linkDegrade then s1.modSvc r fun v => narrow (narrowest v) v else s1
      | none => s1).pkg.inHalt := by
    split
    · split
      · exact h1
      · exact h1
    · exact h1
  unfold lasting
  refine finished _ (narrowed _ ?_)
  split
  · split
    · exact contained _
    · exact contained _
  · split
    · dsimp only
      have h0 := contained { on := t.on, cause := rec.cause, jseq := rec.jseq, injected := rec.injected, from' := some .retry }
      rw [← withhold_pkg t] at h0
      rw [if_pos h0.halted]
      exact h0
    · exact h

@[simp] theorem hostAck_pkg (q : Nat) (s : State) : (hostAck q s).pkg = s.pkg := by
  have hp := ackRecord_pkg q s
  unfold hostAck
  split
  next s1 e => rwa [e] at hp
  next s1 e =>
    rw [e] at hp
    exact (noteBadAccess_pkg s1).trans hp

@[simp] theorem fltAckAt_pkg (hi : Nat) (s : State) : (fltAckAt hi s).pkg = s.pkg := by
  simp [fltAckAt]

@[simp] theorem countInjected_pkg (u : FUnit) (cause : FCause) (s : State) : (countInjected u cause s).pkg = s.pkg := by
  unfold countInjected
  split <;> simp

@[simp] theorem inject_inHalt (u : FUnit) (cause : FCause) (s0 : State) (h : s0.pkg.inHalt) : (inject u cause s0).pkg.inHalt := by
  simp only [inject]
  repeat' split
  all_goals simp [h]

@[simp] theorem fltInjectAt_inHalt (v : Nat) (s : State) (h : s.pkg.inHalt) : (fltInjectAt v s).pkg.inHalt := by
  unfold fltInjectAt
  repeat' split
  all_goals simp [h]

/-! ### Sys -/

theorem sysNop_keepsHalt : KeepsHalt sysNop := fun _ _ h =>
  orBad_inHalt _ h fun _ h => h

theorem sysFeatures_keepsHalt : KeepsHalt sysFeatures := fun _ _ h =>
  orBad_inHalt _ h fun _ h => h

theorem sysStandby_keepsHalt : KeepsHalt sysStandby := fun c s h =>
  orBad_inHalt _ h fun s h => by simpa using h

@[simp] theorem identityOnce_pkg (ctx : String) (b rnd : List Byte) (r n p : Nat) (a : Nat × Nat) (s : State) :
    (identityOnce ctx b rnd r n p a s).2.2.pkg = s.pkg := rfl

theorem identitySign_inHalt (ctx : String) (r : Nat) (b rnd : List Byte) {s : State} (h : s.pkg.inHalt) :
    ∀ x ∈ identitySign ctx r b rnd s, x.2.pkg.inHalt :=
  checkedSign_inHalt _ _ (fun p a s h => by simpa using h) h

theorem keyAttest_keepsHalt : KeepsHalt keyAttest := fun c s h =>
  orBad_inHalt _ h fun s h => by
    split
    · exact h
    · have attested (b : List Byte) (s : State) (h : s.pkg.inHalt) :
          (withRandom attestDraw c s fun rnd s => match identitySign "EXM-KEY-ATTEST-1" c.rgn b rnd s with
            | none => (s, none)
            | some (.error bad, s1) => (s1, some (stRes bad))
            | some (.ok sig, s1) => (s1, some (outTo c.job 0 (b ++ sig)))).1.pkg.inHalt :=
        withRandom_inHalt _ c h fun rnd s h => by
          have hs := identitySign_inHalt "EXM-KEY-ATTEST-1" c.rgn b rnd h
          split
          · exact h
          next e => exact hs _ e
          next e => exact hs _ e
      exact withKey_inHalt c h fun sk pub s h => by
        dsimp only
        repeat' split
        · exact mceKey_inHalt c _ h fun _ pk s h => by
            split
            · exact h
            · exact attested _ s h
        · exact h
        · exact attested _ s h

/-! ### JournalRows -/

theorem jrnlRead_keepsHalt : KeepsHalt jrnlRead := fun c s h => by
  unfold jrnlRead orBad
  dsimp only
  split
  · exact h
  · repeat' split
    all_goals exact h

theorem jrnlCheckpoint_keepsHalt : KeepsHalt jrnlCheckpoint := fun c s h =>
  orBad_inHalt _ h fun s h => by
    repeat' split
    all_goals simpa using h

theorem jrnlMirrorSet_keepsHalt : KeepsHalt jrnlMirrorSet := fun c s h =>
  orBad_inHalt _ h fun s h => by simpa using h

theorem jrnlBtnRead_keepsHalt : KeepsHalt jrnlBtnRead := fun c s h =>
  orBad_inHalt _ h fun s h => by
    repeat' split
    all_goals exact h

theorem jrnlBtnList_keepsHalt : KeepsHalt jrnlBtnList := fun _ _ h =>
  orBad_inHalt _ h fun _ h => h

theorem firmwareSign_inHalt (ctx : String) (b : List Byte) {s : State} (h : s.pkg.inHalt) :
    ∀ x ∈ firmwareSign ctx b s, x.2.pkg.inHalt := by
  unfold firmwareSign
  split
  · simp
  · split
    · simp
    · exact identitySign_inHalt _ _ _ _ h

@[simp] theorem storeCheckpoint_pkg (cp : Checkpoint) (s : State) : (storeCheckpoint cp s).pkg = s.pkg := by
  unfold storeCheckpoint
  split <;> simp

@[simp] theorem reenter_pkg (s : State) : (reenter s).pkg = s.pkg := by
  refine foldl_pkg (fun s c => ?_) _ s
  split
  · exact enterCommit_pkg c s
  · exact enterCommit_pkg c s

@[simp] theorem saveBittern_pkg (z : Freeze) (body sig : List Byte) (s : State) : (saveBittern z body sig s).pkg = s.pkg := by
  unfold saveBittern
  dsimp only
  rw [journalEvent_pkg, reenter_pkg, emit_pkg, foldl_pkg fun s e => State.modBtn_pkg s _, State.modBtn_pkg]

/-! ### Card -/

@[simp] theorem State.modOp_pkg (s : State) (f : CardOp → CardOp) : (s.modOp f).pkg = s.pkg := rfl

@[simp] theorem endCard_pkg (r : Res) (s : State) : (endCard r s).pkg = s.pkg := by
  simp only [endCard]
  repeat' split
  all_goals simp

@[simp] theorem cardDown_pkg (s : State) : (cardDown s).pkg = s.pkg := by
  unfold cardDown
  repeat' split
  all_goals simp

@[simp] theorem cardEjectAt_pkg (s : State) : (cardEjectAt s).pkg = s.pkg := by
  unfold cardEjectAt
  repeat' split
  all_goals simp

@[simp] theorem writeBlocks_pkg (lba : Nat) (b : List Byte) (s : State) : (writeBlocks lba b s).pkg = s.pkg := rfl

@[simp] theorem sendPhase_pkg (o : CardOp) (s : State) : (sendPhase o s).pkg = s.pkg := by
  unfold sendPhase
  split <;> simp

@[simp] theorem startOp_pkg (o : CardOp) (s : State) : (startOp o s).pkg = s.pkg := by
  simp [startOp]

@[simp] theorem nextPhase_pkg (p : CardPhase) (s : State) : (nextPhase p s).pkg = s.pkg := by
  unfold nextPhase
  split <;> simp

@[simp] theorem cardError_pkg (s : State) : (cardError s).pkg = s.pkg := by
  simp only [cardError]
  repeat' split
  all_goals simp

@[simp] theorem submitKum_inHalt (j : Nat) (b : List Byte) (s : State) (h : s.pkg.inHalt) : (submitKum j b s).2.pkg.inHalt := by
  unfold submitKum
  split <;> simp [h]

theorem cardStatus_keepsHalt : KeepsHalt cardStatus := fun _ _ h =>
  orBad_inHalt _ h fun _ h => h

theorem cardFormat_keepsHalt : KeepsHalt cardFormat := fun c s h =>
  orBad_inHalt _ h fun s h => by simpa using h

@[simp] theorem exportRecord_pkg (j : Job) (ty id : Nat) (body : List Byte) (s : State) :
    (exportRecord j ty id body s).1.pkg = s.pkg := by
  simp only [exportRecord]
  repeat' split
  all_goals simp

theorem exportKey_inHalt (c : Cmd) (k : KeyRec) {s : State} {f : List Byte → List Byte → State → State × Option Res} (h : s.pkg.inHalt)
    (hf : ∀ sk pub s, s.pkg.inHalt → (f sk pub s).1.pkg.inHalt) : (exportKey c k s f).1.pkg.inHalt := by
  unfold exportKey
  extract_lets take
  have taken (e : ShelfKey) (s : State) (h : s.pkg.inHalt) : (take e s).1.pkg.inHalt := by
    have h1 (n) : (e.toCell n s).2.pkg.inHalt := by simpa using h
    unfold take
    dsimp only
    split
    · exact mceKey_inHalt c k (h1 _) fun _ pk s h => hf _ _ s h
    · exact hf _ _ _ (h1 _)
  split
  · exact taken _ s h
  · split
    · exact h
    · split
      · split
        · exact h
        · simpa using h
      · extract_lets s1
        split
        · simpa [s1] using h
        · refine taken _ _ ?_
          simpa [s1] using h

theorem exportAttest_keepsHalt : KeepsHalt exportAttest := fun c s h => by
  unfold exportAttest
  dsimp only
  split
  · exact h
  · exact h
  · exact h
  · split
    · exact h
    · refine exportKey_inHalt _ _ h fun secret pub s h => ?_
      have hs (b) := firmwareSign_inHalt "EXM-KEY-ATTEST-1" b h
      split
      · exact h
      next e => exact hs _ _ e
      next e => simpa using hs _ _ e

theorem cardExport_keepsHalt : KeepsHalt cardExport := fun c s h =>
  orBad_inHalt _ h fun s h => by
    split
    · exact exportAttest_keepsHalt c s h
    · split <;> simpa using h

theorem cardList_keepsHalt : KeepsHalt cardList := fun _ _ h =>
  orBad_inHalt _ h fun _ h => h

theorem cardImportKum_keepsHalt : KeepsHalt cardImportKum := fun c s h =>
  orBad_inHalt _ h fun s h => by
    repeat' split
    all_goals simpa using h

/-! ### Hash -/

theorem withKmacMask_inHalt (c : Cmd) {s : State} {k : State → State × Option Res} (h : s.pkg.inHalt)
    (hk : ∀ s, s.pkg.inHalt → (k s).1.pkg.inHalt) : (withKmacMask c s k).1.pkg.inHalt := by
  unfold withKmacMask
  split
  · exact withMask_inHalt _ c h hk
  · exact hk s h

theorem digHash_keepsHalt : KeepsHalt digHash := fun _ _ h =>
  orBad_inHalt _ h fun _ h => h

theorem digMac_keepsHalt : KeepsHalt digMac := fun c _ h =>
  orBad_inHalt _ h fun _ h => countThen_inHalt c _ _ h fun _ h => withKmacMask_inHalt c h fun _ h => withKey_inHalt c h fun _ _ _ h => h

theorem digMacVerify_keepsHalt : KeepsHalt digMacVerify := fun c _ h =>
  orBad_inHalt _ h fun _ h => countThen_inHalt c _ _ h fun _ h => withKmacMask_inHalt c h fun _ h => withKey_inHalt c h fun _ _ _ h => h

theorem digKdf_keepsHalt : KeepsHalt digKdf := fun c _ h =>
  orBad_inHalt _ h fun _ h => countThen_inHalt c _ _ h fun _ h => withKmacMask_inHalt c h fun _ h => withKey_inHalt c h fun _ _ _ h => h

theorem slhSign_keepsHalt : KeepsHalt slhSign := fun c s h =>
  orBad_inHalt _ h fun s h => countThen_inHalt c _ _ h fun s h => orBad_inHalt _ h fun s h =>
    withKey_inHalt c h fun sk pub s h => withRandom_inHalt _ c h fun d s h => by simpa using h

theorem slhVerify_keepsHalt : KeepsHalt slhVerify := fun c s h =>
  orBad_inHalt _ h fun s h => countThen_inHalt c _ _ h fun s h => withKey_inHalt c h fun sk pub s h => by simpa using h

@[simp] theorem State.modLms_pkg (s : State) (id : Nat) (f : LmsRec → LmsRec) : (s.modLms id f).pkg = s.pkg := rfl

@[simp] theorem raiseIfDue_pkg (id : Nat) (s : State) : (raiseIfDue id s).pkg = s.pkg := by
  unfold raiseIfDue
  repeat' split
  all_goals simp

@[simp] theorem takeLeaf_pkg (c : Cmd) (l : LmsRec) (s : State) : (takeLeaf c l s).2.pkg = s.pkg := by
  simp only [takeLeaf]
  repeat' split
  all_goals simp

theorem lmsSign_keepsHalt : KeepsHalt lmsSign := fun c s h =>
  orBad_inHalt _ h fun s h => countThen_inHalt c _ _ h fun s h => withKey_inHalt c h fun sk _ s h => by
    split
    · exact h
    next l _ =>
      have hl : (takeLeaf c l s).2.pkg.inHalt := by simpa using h
      split
      next e => rwa [e] at hl
      next e => rwa [e] at hl
      next e =>
        rw [e] at hl
        extract_lets
        split <;> simpa using hl

theorem statefulVerify_keepsHalt (fam : Fam) (f : String) : KeepsHalt (statefulVerify fam f) := fun c _ h =>
  orBad_inHalt _ h fun _ h => countThen_inHalt c _ _ h fun _ h => withKey_inHalt c h fun _ _ _ h => ite_inHalt h h

@[simp] theorem digWinClaimAt_pkg (p : DigPort) (s : State) : (digWinClaimAt p s).pkg = s.pkg := by
  unfold digWinClaimAt
  repeat' split
  all_goals simp

@[simp] theorem winOwned_pkg (p : DigPort) (s : State) (f : DigWin → DigWin) : (winOwned p s f).pkg = s.pkg := by
  unfold winOwned
  split <;> simp

@[simp] theorem digWinDataAt_pkg (p : DigPort) (part v : Nat) (s : State) : (digWinDataAt p part v s).pkg = s.pkg := by
  simp [digWinDataAt]

@[simp] theorem digWinLastAt_pkg (p : DigPort) (valid token : Nat) (s : State) : (digWinLastAt p valid token s).pkg = s.pkg := by
  simp [digWinLastAt]

@[simp] theorem digWinReleaseAt_pkg (p : DigPort) (token : Nat) (s : State) : (digWinReleaseAt p token s).pkg = s.pkg := by
  simp [digWinReleaseAt]

/-! ### Manage -/

@[simp] theorem reopen_pkg (i : Nat) (s : State) : (reopen i s).pkg = s.pkg := by
  unfold reopen
  repeat' split
  all_goals simp

@[simp] theorem endUpdate_inHalt (s : State) (h : s.pkg.inHalt) : (endUpdate s).pkg.inHalt := by
  have h1 : (s.instances.foldl (fun s i => reopen i s) s).pkg.inHalt := foldl_inHalt (fun s i h => by rwa [reopen_pkg]) _ h
  unfold endUpdate
  dsimp only
  split
  · refine setMode_inHalt _ _ ?_ h1
    split
    · rfl
    · exact serviceMode_mainPower _
  · exact h1

@[simp] theorem logActivation_pkg (k : Nat) (s : State) : (logActivation k s).pkg = s.pkg := by
  simp [logActivation]

@[simp] theorem switchBank_pkg (k : Nat) (s : State) : (switchBank k s).pkg = s.pkg := by
  simp [switchBank]

@[simp] theorem enterUpdate_inHalt (j : Option Nat) (s : State) (h : s.pkg.inHalt) : (enterUpdate j s).pkg.inHalt := by
  unfold enterUpdate
  extract_lets s1 s2 s3
  have h3 : s3.pkg.inHalt := by
    rw [show s3.pkg = s2.pkg from switchBank_pkg 1 s2]
    exact h
  split
  · exact setMode_inHalt .update s3 rfl h3
  · exact h3

@[simp] theorem activateRegions_pkg (k : Nat) (roll : Bool) (s : State) : (activateRegions k roll s).pkg = s.pkg := by
  unfold activateRegions
  split <;> simp

@[simp] theorem takeAgent_pkg (a : Agent) (s : State) : (takeAgent a s).pkg = s.pkg := rfl

@[simp] theorem touchAgent_pkg (s : State) : (touchAgent s).pkg = s.pkg := rfl

@[simp] theorem dropAgent_pkg (s : State) : (dropAgent s).pkg = s.pkg := rfl

@[simp] theorem writeBank_pkg (k o : Nat) (d : List Byte) (s : State) : (writeBank k o d s).pkg = s.pkg := rfl

theorem mgmtFwWrite_keepsHalt : KeepsHalt mgmtFwWrite := fun c s h =>
  orBad_inHalt _ h fun s h => by simpa using h

theorem mgmtFwVerify_keepsHalt : KeepsHalt mgmtFwVerify := fun c s h =>
  orBad_inHalt _ h fun s h => by simpa using h

theorem mgmtFwActivate_keepsHalt : KeepsHalt mgmtFwActivate := fun c s h =>
  orBad_inHalt _ h fun s h => by
    dsimp only
    split
    · exact enterUpdate_inHalt _ _ (by simpa using h)
    · simpa using h

theorem mgmtFwCommit_keepsHalt : KeepsHalt mgmtFwCommit := fun c s h =>
  orBad_inHalt _ h fun s h => by simpa using h

theorem mgmtFwStatus_keepsHalt : KeepsHalt mgmtFwStatus := fun _ _ h =>
  orBad_inHalt _ h fun _ h => h

theorem mgmtSensors_keepsHalt : KeepsHalt mgmtSensors := fun _ _ h =>
  orBad_inHalt _ h fun _ h => h

@[simp] theorem answer_pkg (pcie : Bool) (name : String) (parts : List (List Byte)) (s : State) :
    (answer pcie name parts s).pkg = s.pkg := rfl

@[simp] theorem serveSpdm_inHalt (doe : Bool) (x : SpdmReq) (s : State) : (serveSpdm doe x s).pkg.inHalt ↔ s.pkg.inHalt := by
  unfold serveSpdm
  split
  · simp
  · simp
  · split
    · simp
    · simp
  · split
    · exact Iff.rfl
    · simp
  · simp

@[simp] theorem serveHeld_inHalt (s : State) : (serveHeld s).pkg.inHalt ↔ s.pkg.inHalt :=
  foldl_inHalt_iff (fun s x => serveSpdm_inHalt true x s) _ _

@[simp] theorem endActivating_pkg (st : Status) (s : State) : (endActivating st s).pkg = s.pkg := by
  unfold endActivating
  split <;> simp

@[simp] theorem beatNow_pkg (s : State) : (beatNow s).pkg = s.pkg := rfl

@[simp] theorem rollOut_inHalt (x : Roll) (ms : Nat) (s : State) (h : s.pkg.inHalt) : (rollOut x ms s).pkg.inHalt := by
  unfold rollOut
  split
  · exact h
  · split
    · exact setRegionState_inHalt _ _ _ _ h
    · exact h

@[simp] theorem State.modPldm_pkg (s : State) (f : Pldm → Pldm) : (s.modPldm f).pkg = s.pkg := rfl

@[simp] theorem pldmIn_inHalt (pcie : Bool) (st : List PldmState) (name : String) {k : State → State} {s : State} (h : s.pkg.inHalt)
    (hk : ∀ s, s.pkg.inHalt → (k s).pkg.inHalt) : (pldmIn pcie st name k s).pkg.inHalt := by
  unfold pldmIn
  repeat' split
  · exact hk _ (by simpa using h)
  · simpa using h
  · exact h

@[simp] theorem askBlock_pkg (pcie : Bool) (s : State) : (askBlock pcie s).pkg = s.pkg := by
  simp only [askBlock]
  repeat' split
  all_goals simp

@[simp] theorem activateApplied_inHalt (s : State) (h : s.pkg.inHalt) : (activateApplied s).pkg.inHalt := by
  have h2 (ks : List Nat) : (([2, 3].filter fun k => ks.contains k).foldl (fun s k =>
      if ((s.fw k).bank true).valid then activateRegions k true s else s) (dropAgent s)).pkg.inHalt := by
    refine foldl_inHalt (fun s k h => ?_) _ h
    split
    · rwa [activateRegions_pkg]
    · exact h
  unfold activateApplied
  dsimp only
  split
  · exact enterUpdate_inHalt none _ (h2 _)
  · exact h2 _

@[simp] theorem recoverApplied_inHalt (s : State) : (recoverApplied s).pkg.inHalt ↔ s.pkg.inHalt :=
  foldl_inHalt_iff (fun s k => by rw [switchBank_pkg]) s.mgmt.pldm.applied (dropAgent s)

/-! ### Life -/

@[simp] theorem applyOwnerCfg_inHalt (s : State) : (applyOwnerCfg s).pkg.inHalt ↔ s.pkg.inHalt := Iff.rfl

@[simp] theorem returnHeld_inHalt (r : Nat) (s : State) (h : s.pkg.inHalt) : (returnHeld r s).pkg.inHalt := by
  unfold returnHeld
  repeat' split
  all_goals simp [h]

@[simp] theorem closeSession_inHalt (s : State) (h : s.pkg.inHalt) : (closeSession s).pkg.inHalt := by
  have returned (l : List Nat) (t : State) (ht : t.pkg.inHalt) : (l.foldl (fun s r => returnHeld r s) t).pkg.inHalt :=
    foldl_inHalt (fun s r h => returnHeld_inHalt r s h) l ht
  have left (p : Prop) [Decidable p] (t : State) (ht : t.pkg.inHalt) : (if p then setMode t.serviceMode t else t).pkg.inHalt := by
    split
    · exact setMode_inHalt _ _ (serviceMode_mainPower t) ht
    · exact ht
  unfold closeSession
  refine left _ _ (returned _ _ ?_)
  exact h

@[simp] theorem startSession_inHalt (job : Option Nat) (a : DebugAsk) (s : State) (h : s.pkg.inHalt) :
    (startSession job a s).pkg.inHalt := by
  refine openIfDue_inHalt _ (foldl_inHalt (fun s r h => ?_) _ h)
  exact setRegionState_inHalt _ _ _ _ h

theorem lifeDebugOpen_keepsHalt : KeepsHalt lifeDebugOpen := fun c s h =>
  orBad_inHalt _ h fun s h => startSession_inHalt _ _ _ (by simpa using h)

theorem lifeDebugClose_keepsHalt : KeepsHalt lifeDebugClose := fun c s h =>
  orBad_inHalt _ h fun s h => closeSession_inHalt _ (by simpa using h)

theorem lifeStatus_keepsHalt : KeepsHalt lifeStatus := fun _ _ h =>
  orBad_inHalt _ h fun _ h => h

@[simp] theorem dikeAll_inHalt (s : State) (h : s.pkg.inHalt) : (dikeAll s).pkg.inHalt := by
  unfold dikeAll
  dsimp only
  rw [foldl_pkg (fun s r => by rw [uncheck_pkg, unsend_pkg])]
  refine foldl_inHalt (fun s j h => (loseJob_inHalt j s).2 h) _ (foldl_inHalt (fun s r h => ?_) _ h)
  exact setRegionState_inHalt _ _ _ _ h

@[simp] theorem clearVault_pkg (s : State) : (clearVault s).pkg = s.pkg := rfl

@[simp] theorem returnAll_inHalt (s : State) (h : s.pkg.inHalt) : (returnAll s).pkg.inHalt :=
  foldl_inHalt (fun s r h => returnHeld_inHalt r s h) _ h

@[simp] theorem clearM1_inHalt (s : State) (h : s.pkg.inHalt) : (clearM1 s).pkg.inHalt := by
  simp [clearM1, h]

@[simp] theorem lifeStep_inHalt (op m : Nat) (s : State) (h : s.pkg.inHalt) : (lifeStep op m s).pkg.inHalt := by
  unfold lifeStep
  split <;> simp [h]

@[simp] theorem putSlot_pkg (n v : Nat) (s : State) : (putSlot n v s).pkg = s.pkg := rfl

@[simp] theorem cancelZeroize_pkg (op : Nat) (s : State) : (cancelZeroize op s).pkg = s.pkg := by
  unfold cancelZeroize
  split <;> simp

theorem runSteps_inHalt (n op fuel m : Nat) (s : State) (h : s.pkg.inHalt) : (runSteps n op fuel m s).pkg.inHalt := by
  induction fuel generalizing m s with
  | zero => exact h
  | succ fuel ih =>
    unfold runSteps
    split
    · rwa [cancelZeroize_pkg, putSlot_pkg]
    · exact ih _ _ (lifeStep_inHalt op m s h)

@[simp] theorem afterTransition_inHalt (op : Nat) (s : State) (h : s.pkg.inHalt) : (afterTransition op s).pkg.inHalt := by
  have noted (t : State) (ht : t.pkg.inHalt) : (if (addedEvent evLifeCycle t).pkg.mode = .factoryTest then
      setMode .boot ((addedEvent evLifeCycle t).modPkg fun p => { p with booting := true })
      else addedEvent evLifeCycle t).pkg.inHalt := by
    rw [← addedEvent_pkg evLifeCycle] at ht
    split
    · exact setMode_inHalt .boot _ rfl ht
    · exact ht
  unfold afterTransition
  refine noted _ ?_
  split
  · exact returnAll_inHalt s h
  · exact h

@[simp] theorem dataBurns_inHalt (b : List Byte) (s : State) : (dataBurns b s).pkg.inHalt ↔ s.pkg.inHalt := by
  unfold dataBurns
  split <;> exact Iff.rfl

@[simp] theorem partBurns_pkg (b : List Byte) (s : State) : (partBurns b s).pkg = s.pkg := by
  unfold partBurns
  split <;> simp

theorem lifeTransition_keepsHalt (cut : Nat) : KeepsHalt (lifeTransition cut) := fun c s h => by
  have burnt (n v j : Nat) (b : List Byte) (t : State) (ht : t.pkg.inHalt) :
      (commit j (putSlot n v (dataBurns b t))).pkg.inHalt := by
    rw [commit_pkg, putSlot_pkg]
    exact (dataBurns_inHalt b t).2 ht
  have waited (t : State) (ht : t.pkg.inHalt) : ((t.modLife fun l => { l with inTransition := true }).modProg c.job.id fun p =>
      { p with phase := .running }).pkg.inHalt := ht
  unfold lifeTransition
  refine orBad_inHalt _ h fun s h => ?_
  split
  · refine closeSession_inHalt _ ?_
    rw [State.modOtp_pkg, commit_pkg]
    exact h
  · split
    · refine waited _ ?_
      rwa [partBurns_pkg]
    · exact ite_inHalt (afterTransition_inHalt _ _ (runSteps_inHalt _ _ _ _ _ (burnt _ _ _ _ _ h)))
        (waited _ (runSteps_inHalt _ _ _ _ _ (burnt _ _ _ _ _ h)))

/-! ### Queues -/

@[simp] theorem sqEnableAt_pkg (i q : Nat) (s : State) : (sqEnableAt i q s).pkg = s.pkg := by
  simp only [sqEnableAt]
  repeat' split
  all_goals simp

@[simp] theorem cqEnableAt_pkg (i c : Nat) (s : State) : (cqEnableAt i c s).pkg = s.pkg := by
  simp only [cqEnableAt]
  repeat' split
  all_goals simp

@[simp] theorem sqDoorbellAt_pkg (i q v : Nat) (s : State) : (sqDoorbellAt i q v s).pkg = s.pkg := by
  simp only [sqDoorbellAt]
  repeat' split
  all_goals simp

@[simp] theorem cqDoorbellAt_pkg (i c v : Nat) (s : State) : (cqDoorbellAt i c v s).pkg = s.pkg := by
  simp only [cqDoorbellAt]
  repeat' split
  all_goals simp

@[simp] theorem acceptEntry_inHalt (i q : Nat) (b : List Byte) (bad : Option Status) (s : State) :
    (acceptEntry i q b bad s).pkg.inHalt ↔ s.pkg.inHalt := by
  simp only [acceptEntry]
  repeat' split
  all_goals simp

@[simp] theorem readEntries_inHalt (i q fuel n : Nat) (b : List Byte) (s : State) :
    (readEntries i q fuel n b s).pkg.inHalt ↔ s.pkg.inHalt := by
  induction fuel generalizing n b s with
  | zero => exact Iff.rfl
  | succ fuel ih =>
    have passed (m : Nat) (b : List Byte) (k : Nat) (rest : Bool) :
        (readEntries i q fuel m b (advance i q k rest s)).pkg.inHalt ↔ s.pkg.inHalt := ih m b _
    have accepted (m : Nat) (b b' : List Byte) (bad : Option Status) (t : State) (ht : t.pkg = s.pkg) :
        (readEntries i q fuel m b (acceptEntry i q b' bad t)).pkg.inHalt ↔ s.pkg.inHalt := by
      rw [ih, acceptEntry_inHalt, ht]
    unfold readEntries
    dsimp only
    split
    · exact Iff.rfl
    · split
      · split
        · exact passed _ _ _ _
        · split
          · exact Iff.rfl
          · exact passed _ _ _ _
      · split
        · exact Iff.rfl
        · split
          · exact accepted _ _ _ _ _ rfl
          · split
            · exact accepted _ _ _ _ _ rfl
            · split
              · exact Iff.rfl
              · split
                · exact Iff.rfl
                · exact accepted _ _ _ _ _ rfl

@[simp] theorem xlatFault_pkg (i addr access cause : Nat) (s : State) : (xlatFault i addr access cause s).pkg = s.pkg := rfl

@[simp] theorem fetchFault_pkg (i q cause : Nat) (s : State) : (fetchFault i q cause s).pkg = s.pkg := by
  simp [fetchFault]

@[simp] theorem takeTurn_inHalt (i q : Nat) (ans : HostAns) (s : State) : (takeTurn i q ans s).pkg.inHalt ↔ s.pkg.inHalt := by
  have asked (a n : Nat) : (emit (.read i a n (s.tagOf i false)) (askPage i a n { s with rr := 32 * i + q })).pkg.inHalt ↔
      s.pkg.inHalt := by
    rw [emit_pkg, askPage_pkg]
  unfold takeTurn
  dsimp only
  split
  · rw [readEntries_inHalt, State.modSq_pkg, asked]
  · rw [fetchFault_pkg, asked]

@[simp] theorem enterWaiting_pkg (s : State) : (enterWaiting s).pkg = s.pkg := by
  refine foldl_pkg (fun s c => ?_) _ s
  split
  · rfl
  · exact enterCommit_pkg c s

@[simp] theorem raiseCq_pkg (i c : Nat) (s : State) : (raiseCq i c s).pkg = s.pkg := by
  simp only [raiseCq]
  repeat' split
  all_goals simp

@[simp] theorem writeFrags_pkg (i : Nat) (fs : List Frag) (b : List Byte) (s : State) : (writeFrags i fs b s).pkg = s.pkg := by
  induction fs generalizing b s with
  | nil => rfl
  | cons f fs ih =>
    unfold writeFrags
    split
    · rfl
    · rw [ih, hostWrite_pkg]

@[simp] theorem writeOutputs_pkg (j : Job) (r : Res) (s : State) : (writeOutputs j r s).pkg = s.pkg := by
  simp [writeOutputs, foldl_pkg]

@[simp] theorem addEnergy_pkg (i e : Nat) (s : State) : (addEnergy i e s).pkg = s.pkg := rfl

@[simp] theorem release_pkg (c : Cmd) (r : Res) (s : State) : (release c r s).pkg = s.pkg := by
  unfold release
  repeat' split
  all_goals simp

@[simp] theorem endDrain_pkg (i : Nat) (s : State) : (endDrain i s).pkg = s.pkg := rfl

@[simp] theorem drainIfDone_pkg (i : Nat) (s : State) : (drainIfDone i s).pkg = s.pkg := by
  unfold drainIfDone
  split <;> simp

@[simp] theorem discard_pkg (c : Cmd) (s : State) : (discard c s).pkg = s.pkg := by
  unfold discard
  split <;> simp

@[simp] theorem post_pkg (c : Cmd) (r : Res) (q : Nat) (s : State) : (post c r q s).pkg = s.pkg := by
  simp only [post]
  repeat' split
  all_goals simp

@[simp] theorem cqTimer_pkg (i c : Nat) (s : State) : (cqTimer i c s).pkg = s.pkg := by
  simp only [cqTimer]
  repeat' split
  all_goals simp

/-! ### Mailbox -/

@[simp] theorem offRegions_inHalt (s : State) : (offRegions s).pkg.inHalt ↔ s.pkg.inHalt :=
  foldl_inHalt_iff (fun s j => loseJob_inHalt j s) _ _

@[simp] theorem settleLms_pkg (s : State) : (settleLms s).pkg = s.pkg := rfl

@[simp] theorem enterStandby_inHalt (s : State) (h : s.pkg.inHalt) : (enterStandby s).pkg.inHalt := by
  simp [enterStandby, h]

@[simp] theorem raiseMbx_pkg (i : Nat) (s : State) : (raiseMbx i s).pkg = s.pkg := by
  unfold raiseMbx
  split <;> simp

@[simp] theorem respond_pkg (i : Nat) (bytes : List Byte) (s : State) : (respond i bytes s).pkg = s.pkg := by
  simp [respond]

@[simp] theorem acceptRequest_inHalt (i seq : Nat) (b : List Byte) (s : State) :
    (acceptRequest i seq b s).pkg.inHalt ↔ s.pkg.inHalt := by
  simp only [acceptRequest]
  repeat' split
  all_goals simp

@[simp] theorem mailboxDoorbellAt_inHalt (i v : Nat) (s : State) : (mailboxDoorbellAt i v s).pkg.inHalt ↔ s.pkg.inHalt := by
  simp only [mailboxDoorbellAt]
  repeat' split
  all_goals simp

@[simp] theorem mailboxBufferWriteAt_pkg (i o v : Nat) (s : State) : (mailboxBufferWriteAt i o v s).pkg = s.pkg := by
  unfold mailboxBufferWriteAt
  repeat' split
  all_goals simp

@[simp] theorem answerRequest_inHalt (i : Nat) (c : Cmd) (r : Res) (s : State) (h : s.pkg.inHalt) :
    (answerRequest i c r s).pkg.inHalt := by
  have hf := frmSettled_inHalt c r (custSettled c r s) (by simpa using h)
  unfold answerRequest
  split
  next t q e =>
    rw [e] at hf
    extract_lets s1 c1 s2 s3 s4 s5
    have h3 : s3.pkg.inHalt := by
      unfold s3
      split <;> simpa [s2, s1] using hf
    have h5 : s5.pkg.inHalt := by simpa [s5, s4] using h3
    split
    · exact enterStandby_inHalt s5 h5
    · exact h5

/-! ### HostMemory -/

@[simp] theorem fragmentDone_pkg (j n : Nat) (a : HostAns) (s : State) : (fragmentDone j n a s).pkg = s.pkg := by
  simp only [fragmentDone]
  repeat' split
  all_goals simp

@[simp] theorem outputDone_pkg (j n : Nat) (a : HostAns) (s : State) : (outputDone j n a s).pkg = s.pkg := by
  unfold outputDone
  repeat' split
  all_goals simp

@[simp] theorem sqReadDone_inHalt (i q : Nat) (a : HostAns) (s : State) : (sqReadDone i q a s).pkg.inHalt ↔ s.pkg.inHalt := by
  unfold sqReadDone
  split <;> simp

@[simp] theorem cqWriteDone_pkg (i c : Nat) (a : HostAns) (s : State) : (cqWriteDone i c a s).pkg = s.pkg := by
  unfold cqWriteDone
  repeat' split
  all_goals simp

@[simp] theorem ringWriteDone_pkg (i n : Nat) (a : HostAns) (s : State) : (ringWriteDone i n a s).pkg = s.pkg := by
  unfold ringWriteDone
  repeat' split
  all_goals simp

@[simp] theorem keyReadDone_pkg (j : Nat) (a : HostAns) (s : State) : (keyReadDone j a s).pkg = s.pkg := by
  simp only [keyReadDone]
  repeat' split
  all_goals simp [foldl_pkg]

@[simp] theorem mirrorDone_pkg (addr : Nat) (a : HostAns) (s : State) : (mirrorDone addr a s).pkg = s.pkg := by
  unfold mirrorDone
  repeat' split
  all_goals simp

@[simp] theorem answerUse_inHalt (u : HostUse) (a : HostAns) (s : State) : (answerUse u a s).pkg.inHalt ↔ s.pkg.inHalt := by
  unfold answerUse
  split <;> simp

@[simp] theorem releaseHeld_inHalt (i page size : Nat) (s : State) : (releaseHeld i page size s).pkg.inHalt ↔ s.pkg.inHalt := by
  refine foldl_inHalt_iff (fun s h => ?_) _ s
  split
  · exact Iff.rfl
  · split
    · rw [emit_pkg]
    · exact Iff.rfl

@[simp] theorem translationDone_inHalt (i page size : Nat) (a : HostAns) (s : State) :
    (translationDone i page size a s).pkg.inHalt ↔ s.pkg.inHalt := by
  unfold translationDone
  split
  · exact Iff.rfl
  · dsimp only
    split
    · exact releaseHeld_inHalt _ _ _ _
    · exact foldl_inHalt_iff (fun s h => answerUse_inHalt _ a s) _ _

@[simp] theorem settleInval_inHalt (s : State) : (settleInval s).pkg.inHalt ↔ s.pkg.inHalt :=
  foldl_inHalt_iff (fun s x => by rw [emit_pkg]) _ _

/-! ### Insts -/

@[simp] theorem closeGone_pkg (st : Status) (c : Cmd) (s : State) : (closeGone st c s).pkg = s.pkg := by
  unfold closeGone
  split <;> simp

@[simp] theorem abortWork_pkg (j : Nat) (s : State) : (abortWork j s).pkg = s.pkg := by
  unfold abortWork
  dsimp only
  rw [dropRun_pkg, foldl_pkg (fun s k => wipeCore_pkg k s)]
  simp

@[simp] theorem abortOld_pkg (c : Cmd) (s : State) : (abortOld c s).pkg = s.pkg := by
  simp [abortOld]

@[simp] theorem dropOld_pkg (c : Cmd) (s : State) : (dropOld c s).pkg = s.pkg := by
  simp [dropOld]

@[simp] theorem abandonRequest_pkg (i : Nat) (s : State) : (abandonRequest i s).pkg = s.pkg := by
  simp only [abandonRequest]
  repeat' split
  all_goals simp

@[simp] theorem dropSubs_pkg (i : Nat) (s : State) : (dropSubs i s).pkg = s.pkg := by
  simp [dropSubs]

@[simp] theorem dropWarm_pkg (i : Nat) (s : State) : (dropWarm i s).pkg = s.pkg := rfl

@[simp] theorem clearHits_pkg (i : Nat) (s : State) : (clearHits i s).pkg = s.pkg := rfl

@[simp] theorem startReset_inHalt (i : Nat) (s : State) : (startReset i s).pkg.inHalt ↔ s.pkg.inHalt := by
  have closed (l : List Cmd) (t : State) (ht : t.pkg.inHalt ↔ s.pkg.inHalt) :
      (l.foldl (fun s c => closeGone .staleGeneration c s)
        (if t.pkg.halted then t else closeBatches (fun b => b.inst == i) t)).pkg.inHalt ↔ s.pkg.inHalt := by
    rw [foldl_pkg fun s c => closeGone_pkg .staleGeneration c s]
    split
    · exact ht
    · rw [closeBatches_pkg]
      exact ht
  unfold startReset
  split
  · exact Iff.rfl
  · refine closed _ _ ?_
    rw [clearHits_pkg, dropWarm_pkg, dropSubs_pkg]
    exact Iff.rfl

@[simp] theorem resetFunction_inHalt (i : Nat) (s : State) : (resetFunction i s).pkg.inHalt ↔ s.pkg.inHalt := by
  simp [resetFunction]

@[simp] theorem resetPcie_inHalt (i : Nat) (s : State) : (resetPcie i s).pkg.inHalt ↔ s.pkg.inHalt := by
  simp [resetPcie]

@[simp] theorem resetAll_inHalt (s : State) : (resetAll s).pkg.inHalt ↔ s.pkg.inHalt :=
  foldl_inHalt_iff (fun s i => resetPcie_inHalt i s) s.instances s

@[simp] theorem wipeInstance_pkg (i : Nat) (s : State) : (wipeInstance i s).pkg = s.pkg := rfl

@[simp] theorem instAdmReassignAt_inHalt (i : Nat) (s : State) : (instAdmReassignAt i s).pkg.inHalt ↔ s.pkg.inHalt := by
  unfold instAdmReassignAt
  repeat' split
  all_goals simp

@[simp] theorem instAdmClrEnergyAt_pkg (i : Nat) (s : State) : (instAdmClrEnergyAt i s).pkg = s.pkg := by
  unfold instAdmClrEnergyAt
  split <;> simp

@[simp] theorem refuseAdm_pkg (i : Nat) (s : State) : (refuseAdm i s).pkg = s.pkg := by
  simp [refuseAdm]

@[simp] theorem trimCryst_pkg (i r : Nat) (s : State) : (trimCryst i r s).pkg = s.pkg := by
  simp [trimCryst]

@[simp] theorem trimQuotas_pkg (i : Nat) (s : State) : (trimQuotas i s).pkg = s.pkg := by
  simp [trimQuotas, foldl_pkg]

@[simp] theorem instAdmQuotaWriteAt_pkg (i : Nat) (w : Bool) (v : Nat) (s : State) :
    (instAdmQuotaWriteAt i w v s).pkg = s.pkg := by
  simp only [instAdmQuotaWriteAt]
  repeat' split
  all_goals simp

@[simp] theorem instAdmCfgWriteAt_pkg (i v : Nat) (s : State) : (instAdmCfgWriteAt i v s).pkg = s.pkg := by
  simp only [instAdmCfgWriteAt]
  repeat' split
  all_goals simp

@[simp] theorem instXlatClrAt_pkg (i : Nat) (s : State) : (instXlatClrAt i s).pkg = s.pkg := by
  unfold instXlatClrAt
  split <;> simp

/-! ### Jobs -/

@[simp] theorem wakeFor_pkg (r p : Nat) (chk : Bool) (s : State) : (wakeFor r p chk s).pkg = s.pkg := by
  simp only [wakeFor]
  repeat' split
  all_goals simp

@[simp] theorem wakeOther_pkg (c : Cmd) (r p : Nat) (s : State) : (wakeOther c r p s).pkg = s.pkg := by
  unfold wakeOther
  repeat' split
  all_goals simp

@[simp] theorem startOn_pkg (j : Nat) (s : State) : (startOn j s).pkg = s.pkg := by
  simp only [startOn]
  repeat' split
  all_goals simp

@[simp] theorem startPlaced_pkg (j : Nat) (s : State) : (startPlaced j s).pkg = s.pkg := by
  simp only [startPlaced]
  repeat' split
  all_goals simp [foldl_pkg]

@[simp] theorem placeOn_pkg (j : Nat) (k : UnitKind) (n : Nat) (s : State) : (placeOn j k n s).pkg = s.pkg := by
  simp [placeOn]

@[simp] theorem waitFor_pkg (j : Nat) (w : Wait) (s : State) : (waitFor j w s).pkg = s.pkg := by
  unfold waitFor
  repeat' split
  all_goals simp

@[simp] theorem takePlace_pkg (c : Cmd) (r : Nat) (k : UnitKind) (n : Nat) (s : State) : (takePlace c r k n s).pkg = s.pkg := by
  unfold takePlace
  repeat' split
  all_goals simp

@[simp] theorem dispatchJob_pkg (j : Nat) (s : State) : (dispatchJob j s).pkg = s.pkg := by
  simp only [dispatchJob]
  repeat' split
  all_goals simp

@[simp] theorem putCheck_pkg (c : Cmd) (k : UnitKind) (q p : Nat) (s : State) : (putCheck c k q p s).pkg = s.pkg := by
  unfold putCheck
  repeat' split
  all_goals simp

@[simp] theorem placeCheck_pkg (c : Cmd) (k : UnitKind) (s : State) : (placeCheck c k s).pkg = s.pkg := by
  unfold placeCheck
  repeat' split
  all_goals simp

@[simp] theorem placeChecks_pkg (j : Nat) (s : State) : (placeChecks j s).pkg = s.pkg := by
  unfold placeChecks
  split
  · rfl
  · refine foldl_pkg (fun s k => ?_) _ s
    split
    · split
      · exact placeCheck_pkg _ _ _
      · rfl
    · rfl

@[simp] theorem startReserved_pkg (j : Nat) (s : State) : (startReserved j s).pkg = s.pkg := by
  unfold startReserved
  repeat' split
  all_goals simp

@[simp] theorem wakeSeed_pkg (r p : Nat) (s : State) : (wakeSeed r p s).pkg = s.pkg := by
  unfold wakeSeed
  split <;> simp

@[simp] theorem yieldNow_pkg (c : Cmd) (s : State) : (yieldNow c s).pkg = s.pkg := by
  simp only [yieldNow]
  repeat' split
  all_goals simp

@[simp] theorem yieldPoint_pkg (j : Nat) (may : Cmd → Nat → Bool) (s : State) : (yieldPoint j may s).pkg = s.pkg := by
  unfold yieldPoint
  repeat' split
  all_goals simp

@[simp] theorem restoreRun_pkg (j : Nat) (s : State) : (restoreRun j s).pkg = s.pkg := by
  unfold restoreRun
  repeat' split
  all_goals simp

@[simp] theorem failedOn_inHalt (c : Cmd) (k : UnitKind) (n : Nat) (s : State) (h : s.pkg.inHalt) : (failedOn c k n s).pkg.inHalt := by
  unfold failedOn
  split
  next x s1 e =>
    have h1 := record_inHalt' e (by rwa [countCheckFail_pkg])
    split
    · rwa [startTest_pkg]
    · exact h1

@[simp] theorem failCheck_inHalt (c : Cmd) (s : State) (h : s.pkg.inHalt) : (failCheck c s).pkg.inHalt := by
  unfold failCheck
  repeat' split
  all_goals simp [h]

@[simp] theorem failPart_inHalt (c : Cmd) (classical : Bool) (s : State) (h : s.pkg.inHalt) :
    (failPart c classical s).pkg.inHalt := by
  simp only [failPart]
  repeat' split
  all_goals simp [h]

@[simp] theorem passPart_pkg (c : Cmd) (classical : Bool) (s : State) : (passPart c classical s).pkg = s.pkg := by
  simp only [passPart]
  repeat' split
  all_goals simp

theorem checkDone_inHalt (c : Cmd) (k : UnitKind) (pass : Bool) (s : State) (h : s.pkg.inHalt) :
    (if c.job.paired then if pass then passPart c (k == .number) s else failPart c (k == .number) s
      else if pass then finish c.job.id (c.prog.res.getD okRes) s else failCheck c s).pkg.inHalt := by
  split
  · split
    · rwa [passPart_pkg]
    · exact failPart_inHalt _ _ _ h
  · split
    · rwa [finish_pkg]
    · exact failCheck_inHalt _ _ h

@[simp] theorem endCheck_inHalt (c : Cmd) (k : UnitKind) (q n : Nat) (pass : Bool) (s : State) (h : s.pkg.inHalt) :
    (endCheck c k q n pass s).pkg.inHalt := by
  refine checkDone_inHalt c k pass _ (foldl_inHalt (fun s u h => by rwa [wipeLocal_pkg]) _ ?_)
  rw [countJobOn_pkg]
  split <;> exact h

/-! ### Registers -/

@[simp] theorem lcsWrite_pkg (o v : Nat) (s : State) : (lcsWrite o v s).pkg = s.pkg := by
  unfold lcsWrite
  split <;> simp

@[simp] theorem utcWrite_pkg (v : Nat) (s : State) : (utcWrite v s).pkg = s.pkg := by
  simp only [utcWrite]
  repeat' split
  all_goals simp

@[simp] theorem timWrite_pkg (o v : Nat) (s : State) : (timWrite o v s).pkg = s.pkg := by
  unfold timWrite
  split
  · exact State.modTime_pkg _ _
  · exact timCfgWriteAt_pkg v s
  · exact State.modTime_pkg _ _
  · exact utcWrite_pkg v s
  · exact State.modTime_pkg _ _
  · exact State.modTime_pkg _ _
  · exact State.modTime_pkg _ _
  · rfl

@[simp] theorem pwrWrite_pkg (o v : Nat) (s : State) : (pwrWrite o v s).pkg = s.pkg := by
  unfold pwrWrite
  split <;> simp

@[simp] theorem vltWrite_pkg (o v : Nat) (s : State) : (vltWrite o v s).pkg = s.pkg := by
  unfold vltWrite
  split <;> simp

@[simp] theorem fltWrite_inHalt (o v : Nat) (s : State) (h : s.pkg.inHalt) : (fltWrite o v s).pkg.inHalt := by
  unfold fltWrite
  split <;> simp [h]

@[simp] theorem winSet_pkg (p : DigPort) (f : DigWin → DigWin) (s : State) : (winSet p f s).pkg = s.pkg := by
  unfold winSet
  split <;> simp

@[simp] theorem digWinWrite_pkg (p : DigPort) (o v : Nat) (s : State) : (digWinWrite p o v s).pkg = s.pkg := by
  unfold digWinWrite
  split <;> simp

@[simp] theorem mgtWrite_pkg (o v : Nat) (s : State) : (mgtWrite o v s).pkg = s.pkg := by
  unfold mgtWrite
  split <;> simp

@[simp] theorem sqWrite_pkg (i q o v : Nat) (s : State) : (sqWrite i q o v s).pkg = s.pkg := by
  simp only [sqWrite]
  repeat' split
  all_goals simp

@[simp] theorem cqWrite_pkg (i c o v : Nat) (s : State) : (cqWrite i c o v s).pkg = s.pkg := by
  simp only [cqWrite]
  repeat' split
  all_goals simp

@[simp] theorem fringWrite_pkg (i r o v : Nat) (s : State) : (fringWrite i r o v s).pkg = s.pkg := by
  unfold fringWrite
  repeat' split
  all_goals simp

@[simp] theorem viewWrite_pkg (i o v : Nat) (s : State) : (viewWrite i o v s).pkg = s.pkg := by
  unfold viewWrite
  repeat' split
  all_goals simp

@[simp] theorem admWrite_inHalt (i o v : Nat) (s : State) : (admWrite i o v s).pkg.inHalt ↔ s.pkg.inHalt := by
  unfold admWrite
  repeat' split
  all_goals simp

@[simp] theorem mbxWrite_inHalt (i o v : Nat) (s : State) : (mbxWrite i o v s).pkg.inHalt ↔ s.pkg.inHalt := by
  unfold mbxWrite
  split <;> simp

@[simp] theorem hvwWrite_pkg (o v : Nat) (s : State) : (hvwWrite o v s).pkg = s.pkg := by
  unfold hvwWrite
  repeat' split
  all_goals simp

@[simp] theorem tmpWrite_pkg (o v : Nat) (s : State) : (tmpWrite o v s).pkg = s.pkg := by
  unfold tmpWrite
  split <;> simp

@[simp] theorem crdWrite_pkg (o v : Nat) (s : State) : (crdWrite o v s).pkg = s.pkg := by
  unfold crdWrite
  repeat' split
  all_goals simp

@[simp] theorem regionWrite_pkg (r o v : Nat) (s : State) : (regionWrite r o v s).pkg = s.pkg := by
  unfold regionWrite
  repeat' split
  all_goals simp

@[simp] theorem doorbellWrite_pkg (i o v : Nat) (s : State) : (doorbellWrite i o v s).pkg = s.pkg := by
  unfold doorbellWrite
  repeat' split
  all_goals simp

@[simp] theorem packageWrite_inHalt (a v : Nat) (s : State) (h : s.pkg.inHalt) : (packageWrite a v s).pkg.inHalt := by
  unfold packageWrite
  split <;> simp [h]

@[simp] theorem pfWrite_inHalt (a v : Nat) (s : State) (h : s.pkg.inHalt) : (pfWrite a v s).pkg.inHalt := by
  unfold pfWrite
  repeat' split
  all_goals simp [h]

@[simp] theorem vfWrite_inHalt (i a v : Nat) (s : State) : (vfWrite i a v s).pkg.inHalt ↔ s.pkg.inHalt := by
  unfold vfWrite
  repeat' split
  all_goals simp

@[simp] theorem sendPending_pkg (i v : Nat) (s : State) : (sendPending i v s).pkg = s.pkg := by
  unfold sendPending
  split <;> simp

@[simp] theorem bar2Write_pkg (i o v : Nat) (s : State) : (bar2Write i o v s).pkg = s.pkg := by
  unfold bar2Write
  repeat' split
  all_goals simp

@[simp] theorem configWrite_pkg (fn o v : Nat) (s : State) : (configWrite fn o v s).pkg = s.pkg := by
  simp only [configWrite]
  repeat' split
  all_goals simp [foldl_pkg]

@[simp] theorem skanelWrite_pkg (a v : Nat) (s : State) : (skanelWrite a v s).pkg = s.pkg := by
  unfold skanelWrite
  split <;> simp

@[simp] theorem writeReg_inHalt (fn a v : Nat) (s : State) (h : s.pkg.inHalt) : (writeReg fn a v s).pkg.inHalt := by
  unfold writeReg
  repeat' split
  all_goals simp [h]

@[simp] theorem writeRegs_inHalt (fn a : Nat) (wide : Bool) (v : Nat) (s : State) (h : s.pkg.inHalt) :
    (writeRegs fn a wide v s).pkg.inHalt := by
  unfold writeRegs
  repeat' split
  all_goals simp [h]

@[simp] theorem goodRead_pkg (fn a size : Nat) (s : State) : (goodRead fn a size s).pkg = s.pkg := by
  unfold goodRead
  repeat' split
  all_goals simp

/-! ### Tap -/

@[simp] theorem tapOn_inHalt (s t : State) (h : s.pkg.inHalt) (ht : t.pkg.inHalt) : (tapOn s t).pkg.inHalt := by
  unfold tapOn
  split
  · exact ht
  · exact h

@[simp] theorem tapIr_pkg (n : Nat) (s : State) : (tapIr n s).pkg = s.pkg := rfl

@[simp] theorem bypassed_pkg (tdi : List Byte) (s : State) : (bypassed tdi s).pkg = s.pkg := rfl

@[simp] theorem sampled_pkg (pins tdi : List Byte) (s : State) : (sampled pins tdi s).pkg = s.pkg := rfl

@[simp] theorem extest_inHalt (code : Nat) (act : State → State) (pins tdi : List Byte) {s : State} (h : s.pkg.inHalt)
    (ha : ∀ s, s.pkg.inHalt → (act s).pkg.inHalt) : (extest code act pins tdi s).pkg.inHalt := by
  refine tapOn_inHalt s _ h ?_
  split
  · simpa using h
  · exact ha _ (by simpa using h)

@[simp] theorem vendorOnly_inHalt (code : Nat) (ok : Bool) (tdi : List Byte) (act : State → State) {s : State} (h : s.pkg.inHalt)
    (ha : ∀ s, s.pkg.inHalt → (act s).pkg.inHalt) : (vendorOnly code ok tdi act s).pkg.inHalt := by
  refine tapOn_inHalt s _ h ?_
  split
  · exact ha _ (by simpa using h)
  · simpa using h

@[simp] theorem debugAuth_inHalt (b : List Byte) (s : State) (h : s.pkg.inHalt) : (debugAuth b s).pkg.inHalt := by
  unfold debugAuth
  split <;> simp [h]

@[simp] theorem spaceBytes_pkg (x : DbgSpace) (s : State) : (spaceBytes x s).2.pkg = s.pkg := by
  unfold spaceBytes
  repeat' split
  all_goals simp

@[simp] theorem debugHalt_pkg (c : CoreId) (o : DbgOp) (s : State) : (debugHalt c o s).pkg = s.pkg := by
  unfold debugHalt
  repeat' split
  all_goals simp

@[simp] theorem debugRun_pkg (c : CoreId) (n : Nat) (args : List Byte) (ins : Tbl (List Byte)) (s : State) :
    (debugRun c n args ins s).pkg = s.pkg := by
  unfold debugRun
  repeat' split
  all_goals simp

@[simp] theorem fuseBurn_inHalt (x : FuseIn) (s : State) : (fuseBurn x s).pkg.inHalt ↔ s.pkg.inHalt := Iff.rfl

end Sys2Proof.Machine
end

section
/-! PROOFS. What each command does to a package in HALT (R31): the commands that are not one verb or one Kertor word. -/

namespace Sys2Proof.Machine

/-- A command that ends in a next state leaves the package in HALT with main power. -/
def StaysInHalt : Host.Outcome State Fault Refusal → Prop
  | .next t => t.pkg.inHalt
  | _ => True

@[simp] theorem staysInHalt_next (t : State) : StaysInHalt (.next t) ↔ t.pkg.inHalt := Iff.rfl

theorem iteState_inHalt {p : Prop} [Decidable p] {x y : State} (hx : x.pkg.inHalt) (hy : y.pkg.inHalt) :
    (if p then x else y).pkg.inHalt := by
  split
  · exact hx
  · exact hy

/-! ### Hash -/

theorem execLmsReservationComplete_inHalt (id : Nat) (s : State) (h : s.pkg.inHalt) : StaysInHalt (execLmsReservationComplete id s) := by
  unfold execLmsReservationComplete
  rw [staysInHalt_next]
  repeat' split
  all_goals simp [h]

/-! ### FramePath -/

theorem execFrmSendEgress_inHalt (j : Nat) (s : State) (h : s.pkg.inHalt) : StaysInHalt (execFrmSendEgress j s) := by
  unfold execFrmSendEgress
  rw [staysInHalt_next]
  repeat' split
  all_goals simp [h]

/-! ### Manage -/

theorem execMgmtFirstHeartbeat_inHalt (s : State) (h : s.pkg.inHalt) : StaysInHalt (execMgmtFirstHeartbeat s) := by
  unfold execMgmtFirstHeartbeat
  rw [staysInHalt_next]
  repeat' split
  all_goals simp [h]

theorem execActivationFallback_inHalt (bad : Bool) (s : State) (h : s.pkg.inHalt) : StaysInHalt (execActivationFallback bad s) := by
  unfold execActivationFallback
  rw [staysInHalt_next]
  repeat' split
  all_goals simp [h]

theorem execRegionRollStep_inHalt (ms : Nat) (full : Bool) (s : State) (h : s.pkg.inHalt) :
    StaysInHalt (execRegionRollStep ms full s) := by
  unfold execRegionRollStep
  dsimp only [staysInHalt_next]
  repeat' split
  all_goals simp [h]

theorem execUpdateAgentTimeout_inHalt (s : State) (h : s.pkg.inHalt) : StaysInHalt (execUpdateAgentTimeout s) := by
  unfold execUpdateAgentTimeout
  rw [staysInHalt_next]
  split <;> simp [h]

theorem execPldmQueryDeviceIdentifiers_inHalt (pcie : Bool) (s : State) (h : s.pkg.inHalt) :
    StaysInHalt (execPldmQueryDeviceIdentifiers pcie s) := by
  unfold execPldmQueryDeviceIdentifiers
  rw [staysInHalt_next]
  split <;> simp [h]

theorem execPldmGetFirmwareParameters_inHalt (pcie : Bool) (s : State) (h : s.pkg.inHalt) :
    StaysInHalt (execPldmGetFirmwareParameters pcie s) := by
  unfold execPldmGetFirmwareParameters
  rw [staysInHalt_next]
  split <;> simp [h]

theorem execPldmRequestUpdate_inHalt (pcie : Bool) (s : State) (h : s.pkg.inHalt) : StaysInHalt (execPldmRequestUpdate pcie s) := by
  unfold execPldmRequestUpdate
  rw [staysInHalt_next]
  repeat' split
  all_goals simp [h]

theorem execPldmPassComponentTable_inHalt (pcie last : Bool) (s : State) (h : s.pkg.inHalt) :
    StaysInHalt (execPldmPassComponentTable pcie last s) :=
  pldmIn_inHalt _ _ _ h fun _ h => h

theorem execPldmUpdateComponent_inHalt (pcie : Bool) (kind size : Nat) (s : State) (h : s.pkg.inHalt) :
    StaysInHalt (execPldmUpdateComponent pcie kind size s) :=
  pldmIn_inHalt _ _ _ h fun s h => by
    split
    · simpa using h
    · simpa using h

theorem execPldmRequestFirmwareData_inHalt (pcie : Bool) (data : List Byte) (s : State) (h : s.pkg.inHalt) :
    StaysInHalt (execPldmRequestFirmwareData pcie data s) :=
  pldmIn_inHalt _ _ _ h fun s h => iteState_inHalt (by rwa [askBlock_pkg, State.modPldm_pkg, writeBank_pkg]) h

theorem execPldmTransferComplete_inHalt (pcie : Bool) (s : State) (h : s.pkg.inHalt) :
    StaysInHalt (execPldmTransferComplete pcie s) :=
  pldmIn_inHalt _ _ _ h fun s h => by
    split
    · simpa using h
    · simpa using h

theorem execPldmVerifyComplete_inHalt (pcie : Bool) (s : State) (h : s.pkg.inHalt) :
    StaysInHalt (execPldmVerifyComplete pcie s) :=
  pldmIn_inHalt _ _ _ h fun s h => by
    rw [answer_pkg]
    split
    · exact h
    · exact h

theorem execPldmApplyComplete_inHalt (pcie : Bool) (s : State) (h : s.pkg.inHalt) : StaysInHalt (execPldmApplyComplete pcie s) :=
  pldmIn_inHalt _ _ _ h fun _ h => h

theorem execPldmActivateFirmware_inHalt (pcie : Bool) (s : State) (h : s.pkg.inHalt) :
    StaysInHalt (execPldmActivateFirmware pcie s) :=
  pldmIn_inHalt _ _ _ h fun s h => by
    split
    · exact h
    · split
      · exact (recoverApplied_inHalt _).2 h
      · split
        · exact h
        · exact activateApplied_inHalt _ h

theorem execPldmGetStatus_inHalt (pcie : Bool) (s : State) (h : s.pkg.inHalt) : StaysInHalt (execPldmGetStatus pcie s) := by
  unfold execPldmGetStatus
  rw [staysInHalt_next]
  split <;> simp [h]

theorem execPldmCancelUpdateComponent_inHalt (pcie : Bool) (s : State) (h : s.pkg.inHalt) :
    StaysInHalt (execPldmCancelUpdateComponent pcie s) :=
  pldmIn_inHalt _ _ _ h fun _ h => h

theorem execPldmCancelUpdate_inHalt (pcie : Bool) (s : State) (h : s.pkg.inHalt) : StaysInHalt (execPldmCancelUpdate pcie s) :=
  pldmIn_inHalt _ _ _ h fun _ h => h

theorem execSpdmRequest_inHalt (doe : Bool) (x : SpdmReq) (s : State) (h : s.pkg.inHalt) : StaysInHalt (execSpdmRequest doe x s) := by
  unfold execSpdmRequest
  rw [staysInHalt_next]
  repeat' split
  all_goals simp [h]

theorem execMctpControlMessage_inHalt (pcie : Bool) (eid : Option Nat) (msg : List Byte) (s : State) (h : s.pkg.inHalt) :
    StaysInHalt (execMctpControlMessage pcie eid msg s) := by
  unfold execMctpControlMessage
  rw [staysInHalt_next]
  repeat' split
  all_goals simp [h]

theorem execMctpFaultAck_inHalt (session fseq : Nat) (s : State) (h : s.pkg.inHalt) : StaysInHalt (execMctpFaultAck session fseq s) := by
  unfold execMctpFaultAck
  rw [staysInHalt_next]
  split <;> simp [h]

/-! ### FaultRows -/

theorem execSidebandSummaryRead_inHalt (s : State) (h : s.pkg.inHalt) : StaysInHalt (execSidebandSummaryRead s) := by
  unfold execSidebandSummaryRead
  rw [staysInHalt_next]
  split <;> simp [h]

/-! ### Life -/

theorem execDebugWindowEnd_inHalt (s : State) (h : s.pkg.inHalt) : StaysInHalt (execDebugWindowEnd s) := by
  unfold execDebugWindowEnd
  rw [staysInHalt_next]
  split <;> simp [h]

/-! ### Custom -/

theorem execCustPartitionReload_inHalt (r p : Nat) (s : State) (h : s.pkg.inHalt) : StaysInHalt (execCustPartitionReload r p s) := by
  unfold execCustPartitionReload
  rw [staysInHalt_next]
  split <;> simp [h]

/-! ### Mailbox -/

theorem execMailboxDoorbell_inHalt (_ v : Nat) (s : State) (h : s.pkg.inHalt) : StaysInHalt (execMailboxDoorbell ii v s) := by
  simp [execMailboxDoorbell, h]

theorem execMailboxBufferWrite_inHalt (_ o v : Nat) (s : State) (h : s.pkg.inHalt) : StaysInHalt (execMailboxBufferWrite ii o v s) := by
  simp [execMailboxBufferWrite, h]

theorem execMailboxRequestDone_inHalt (_ : Nat) (s : State) (h : s.pkg.inHalt) : StaysInHalt (execMailboxRequestDone ii s) := by
  unfold execMailboxRequestDone
  rw [staysInHalt_next]
  repeat' split
  all_goals simp [h]

theorem execMailboxHoldRelease_inHalt (j : Nat) (s : State) (h : s.pkg.inHalt) : StaysInHalt (execMailboxHoldRelease j s) := by
  unfold execMailboxHoldRelease
  rw [staysInHalt_next]
  repeat' split
  all_goals simp [h]

/-! ### Queues -/

theorem execSqEnable_inHalt (_ q : Nat) (s : State) (h : s.pkg.inHalt) : StaysInHalt (execSqEnable ii q s) := by
  simp [execSqEnable, h]

theorem execCqEnable_inHalt (_ c : Nat) (s : State) (h : s.pkg.inHalt) : StaysInHalt (execCqEnable ii c s) := by
  simp [execCqEnable, h]

theorem execSqDoorbell_inHalt (_ q v : Nat) (s : State) (h : s.pkg.inHalt) : StaysInHalt (execSqDoorbell ii q v s) := by
  simp [execSqDoorbell, h]

theorem execCqDoorbell_inHalt (_ c v : Nat) (s : State) (h : s.pkg.inHalt) : StaysInHalt (execCqDoorbell ii c v s) := by
  simp [execCqDoorbell, h]

theorem execQueueFetch_inHalt (ans : HostAns) (s : State) (h : s.pkg.inHalt) : StaysInHalt (execQueueFetch ans s) := by
  unfold execQueueFetch
  rw [staysInHalt_next]
  split <;> simp [h]

/-! ### JournalRows -/

theorem execJseqReserveComplete_inHalt (s : State) (h : s.pkg.inHalt) : StaysInHalt (execJseqReserveComplete s) := by
  unfold execJseqReserveComplete
  dsimp only [staysInHalt_next]
  repeat' split
  all_goals simp [h]

/-! ### Jobs -/

theorem execJobSend_inHalt (j : Nat) (s : State) (h : s.pkg.inHalt) : StaysInHalt (execJobSend j s) := by
  unfold execJobSend
  rw [staysInHalt_next]
  repeat' split
  all_goals simp [h]

theorem execRegionAck_inHalt (j : Nat) (s : State) (h : s.pkg.inHalt) : StaysInHalt (execRegionAck j s) := by
  unfold execRegionAck
  rw [staysInHalt_next]
  repeat' split
  all_goals simp [h]

theorem execJobDispatch_inHalt (j : Nat) (s : State) (h : s.pkg.inHalt) : StaysInHalt (execJobDispatch j s) := by
  unfold execJobDispatch
  rw [staysInHalt_next]
  repeat' split
  all_goals simp [h]

theorem execPanWakeComplete_inHalt (r p : Nat) (s : State) (h : s.pkg.inHalt) : StaysInHalt (execPanWakeComplete r p s) := by
  unfold execPanWakeComplete
  rw [staysInHalt_next]
  split
  · exact h
  · split
    · exact h
    · dsimp only
      rw [restPans_pkg, foldl_pkg fun s j => startReserved_pkg j s, State.modPan_pkg, wakeSeed_pkg]
      exact h

theorem execPanAdmit_inHalt (r p : Nat) (s : State) (h : s.pkg.inHalt) : StaysInHalt (execPanAdmit r p s) := by
  unfold execPanAdmit
  dsimp only [staysInHalt_next]
  repeat' split
  all_goals simp [h]

/-! ### Regions -/

theorem execPowerSample_inHalt (mw : Nat) (s : State) (h : s.pkg.inHalt) : StaysInHalt (execPowerSample mw s) := h

/-! ### Jobs -/

theorem execResourceFreedDispatch_inHalt (j : Nat) (s : State) (h : s.pkg.inHalt) : StaysInHalt (execResourceFreedDispatch j s) := by
  unfold execResourceFreedDispatch
  rw [staysInHalt_next]
  repeat' split
  all_goals simp [h]

/-! ### Keys -/

theorem execShelfMissBlobArrival_inHalt (j : Nat) (blob : List Byte) (s : State) (h : s.pkg.inHalt) :
    StaysInHalt (execShelfMissBlobArrival j blob s) := by
  simp [execShelfMissBlobArrival, h]

theorem execCrystallizerFillComplete_inHalt (r : Nat) (s : State) (h : s.pkg.inHalt) :
    StaysInHalt (execCrystallizerFillComplete r s) := by
  simp [execCrystallizerFillComplete, h]

/-! ### Jobs -/

theorem execJobYield_inHalt (j : Nat) (s : State) (h : s.pkg.inHalt) : StaysInHalt (execJobYield j s) := by
  simp [execJobYield, h]

theorem execDigestQuantumExpiry_inHalt (j : Nat) (s : State) (h : s.pkg.inHalt) : StaysInHalt (execDigestQuantumExpiry j s) := by
  simp [execDigestQuantumExpiry, h]

theorem execNumberQuantumExpiry_inHalt (j : Nat) (s : State) (h : s.pkg.inHalt) : StaysInHalt (execNumberQuantumExpiry j s) := by
  simp [execNumberQuantumExpiry, h]

theorem execSymQuantumExpiry_inHalt (j : Nat) (s : State) (h : s.pkg.inHalt) : StaysInHalt (execSymQuantumExpiry j s) := by
  simp [execSymQuantumExpiry, h]

theorem execJobResume_inHalt (j : Nat) (s : State) (h : s.pkg.inHalt) : StaysInHalt (execJobResume j s) := by
  unfold execJobResume
  rw [staysInHalt_next]
  split
  · exact h
  · split
    · dsimp only
      split
      · exact h
      · split
        · exact h
        · rw [restoreRun_pkg, placeOn_pkg, State.modProg_pkg, foldl_pkg fun s x => State.modPan_pkg s _ _ _]
          exact h
    · exact h

theorem execReleaseCheckDone_inHalt (j : Nat) (pass : Bool) (s : State) (h : s.pkg.inHalt) :
    StaysInHalt (execReleaseCheckDone j pass s) := by
  unfold execReleaseCheckDone
  rw [staysInHalt_next]
  split
  · exact h
  · dsimp only
    split
    · exact endCheck_inHalt _ _ _ _ _ _ h
    · exact endCheck_inHalt _ _ _ _ _ _ h
    · split
      · exact h
      · exact failCheck_inHalt _ _ h
    · exact h

/-! ### Queues -/

theorem execJobResultReturn_inHalt (j : Nat) (s : State) (h : s.pkg.inHalt) : StaysInHalt (execJobResultReturn j s) := by
  unfold execJobResultReturn
  rw [staysInHalt_next]
  repeat' split
  all_goals simp [h]

/-! ### JournalRows -/

theorem execBatchTimerExpiry_inHalt (s : State) (h : s.pkg.inHalt) : StaysInHalt (execBatchTimerExpiry s) := by
  unfold execBatchTimerExpiry
  rw [staysInHalt_next]
  split <;> simp [h]

/-! ### Queues -/

theorem execCoalesceTimerExpiry_inHalt (_ : Nat) (c : RingNo) (s : State) (h : s.pkg.inHalt) :
    StaysInHalt (execCoalesceTimerExpiry ii c s) := by
  unfold execCoalesceTimerExpiry
  rw [staysInHalt_next]
  split <;> simp [h]

/-! ### JournalRows -/

theorem execCheckpointDue_inHalt (s : State) (h : s.pkg.inHalt) : StaysInHalt (execCheckpointDue s) := by
  unfold execCheckpointDue
  rw [staysInHalt_next]
  split <;> simp [h]

theorem execCheckpointSigned_inHalt (s : State) (h : s.pkg.inHalt) : StaysInHalt (execCheckpointSigned s) := by
  unfold execCheckpointSigned
  rw [staysInHalt_next]
  split
  · exact h
  next b _ =>
    have signed := firmwareSign_inHalt "EXM-JRNL-CP-1" (b.bytes s.pkg.fuses.unit) h
    split
    · split
      · exact h
      next s1 e => exact signed _ e
      next sig s1 e =>
        rw [storeCheckpoint_pkg]
        exact signed _ e
    · exact h

/-! ### Insts -/

theorem execFlrStart_inHalt (_ : Nat) (s : State) (h : s.pkg.inHalt) : StaysInHalt (execFlrStart ii s) := by
  unfold execFlrStart
  rw [staysInHalt_next]
  repeat' split
  all_goals simp [h]

theorem execRegionGenerationReport_inHalt (_ r : Nat) (s : State) (h : s.pkg.inHalt) :
    StaysInHalt (execRegionGenerationReport ii r s) := by
  unfold execRegionGenerationReport
  rw [staysInHalt_next]
  split
  · exact h
  · have closed (l m : List Cmd) : (m.foldl (fun s c => abortOld c s)
        (l.foldl (fun s c => closeGone .staleGeneration c (abortWork c.job.id s)) s)).pkg.inHalt := by
      rw [foldl_pkg fun s c => abortOld_pkg c s, foldl_pkg fun s c => by rw [closeGone_pkg, abortWork_pkg]]
      exact h
    dsimp only
    split
    · exact closed _ _
    · rw [drainIfDone_pkg]
      exact closed _ _

theorem execWrapDrainTimeout_inHalt (_ : Nat) (s : State) (h : s.pkg.inHalt) : StaysInHalt (execWrapDrainTimeout ii s) := by
  unfold execWrapDrainTimeout
  rw [staysInHalt_next]
  dsimp only
  split
  · rw [endDrain_pkg]
    exact foldl_inHalt (fun s r h => raiseContain_inHalt _ _ h) _ h
  · exact h

theorem execFlrComplete_inHalt (_ : Nat) (s : State) (h : s.pkg.inHalt) : StaysInHalt (execFlrComplete ii s) := by
  unfold execFlrComplete
  dsimp only [staysInHalt_next]
  repeat' split
  all_goals simp [h]

theorem execPcieHotReset_inHalt (s : State) (h : s.pkg.inHalt) : StaysInHalt (execPcieHotReset s) := by
  unfold execPcieHotReset
  rw [staysInHalt_next]
  split <;> simp [h]

theorem execVfEnableSet_inHalt (n : Nat) (s : State) (h : s.pkg.inHalt) : StaysInHalt (execVfEnableSet n s) := by
  unfold execVfEnableSet
  rw [staysInHalt_next]
  split
  · exact h
  · exact h

theorem execVfEnableClear_inHalt (s : State) (h : s.pkg.inHalt) : StaysInHalt (execVfEnableClear s) := by
  unfold execVfEnableClear
  rw [staysInHalt_next]
  split
  · exact (foldl_inHalt_iff (fun s i => resetPcie_inHalt i s) _ s).2 h
  · exact h

theorem execAtsInvalidationRequest_inHalt (_ page size : Nat) (s : State) (h : s.pkg.inHalt) :
    StaysInHalt (execAtsInvalidationRequest ii page size s) := by
  unfold execAtsInvalidationRequest
  rw [staysInHalt_next]
  split
  · exact (settleInval_inHalt _).2 h
  · exact h

theorem execIdeStreamFailure_inHalt (n : Nat) (s : State) (h : s.pkg.inHalt) : StaysInHalt (execIdeStreamFailure n s) := by
  unfold execIdeStreamFailure
  rw [staysInHalt_next]
  split
  · dsimp only
    rw [noteHostMemory_pkg, foldl_pkg fun s i => State.modInst_pkg s _ _]
    exact h
  · exact h

theorem execInstAdmReassign_inHalt (_ : Nat) (s : State) (h : s.pkg.inHalt) : StaysInHalt (execInstAdmReassign ii s) := by
  simp [execInstAdmReassign, h]

theorem execInstAdmClrEnergy_inHalt (_ : Nat) (s : State) (h : s.pkg.inHalt) : StaysInHalt (execInstAdmClrEnergy ii s) := by
  simp [execInstAdmClrEnergy, h]

theorem execInstAdmQuotaWrite_inHalt (_ : Nat) (w : Bool) (v : Nat) (s : State) (h : s.pkg.inHalt) :
    StaysInHalt (execInstAdmQuotaWrite ii w v s) := by
  simp [execInstAdmQuotaWrite, h]

theorem execInstAdmCfgWrite_inHalt (_ v : Nat) (s : State) (h : s.pkg.inHalt) : StaysInHalt (execInstAdmCfgWrite ii v s) := by
  simp [execInstAdmCfgWrite, h]

theorem execInstXlatClr_inHalt (_ : Nat) (s : State) (h : s.pkg.inHalt) : StaysInHalt (execInstXlatClr ii s) := by
  simp [execInstXlatClr, h]

/-! ### Keys -/

theorem execVltHcapWrite_inHalt (v : Nat) (s : State) (h : s.pkg.inHalt) : StaysInHalt (execVltHcapWrite v s) := by
  simp [execVltHcapWrite, h]

/-! ### Number -/

theorem execSlotLenWrite_inHalt (r p v : Nat) (s : State) (h : s.pkg.inHalt) : StaysInHalt (execSlotLenWrite r p v s) := by
  simp [execSlotLenWrite, h]

theorem execSlotLengthApply_inHalt (r p : Nat) (s : State) (h : s.pkg.inHalt) : StaysInHalt (execSlotLengthApply r p s) := by
  simp [execSlotLengthApply, h]

theorem execSlotInspectRead_inHalt (r offset : Nat) (s : State) (h : s.pkg.inHalt) : StaysInHalt (execSlotInspectRead r offset s) := by
  simp [execSlotInspectRead, h]

/-! ### Keys -/

theorem execClrCounts_inHalt (r : Nat) (shelf : Bool) (s : State) (h : s.pkg.inHalt) : StaysInHalt (execClrCounts r shelf s) := by
  simp [execClrCounts, h]

/-! ### Hash -/

theorem execDigWinClaim_inHalt (_ : DigPort) (s : State) (h : s.pkg.inHalt) : StaysInHalt (execDigWinClaim firmware s) := by
  unfold execDigWinClaim
  rw [staysInHalt_next]
  split <;> simp [h]

theorem execDigWinData_inHalt (_ : DigPort) (part v : Nat) (s : State) (h : s.pkg.inHalt) :
    StaysInHalt (execDigWinData firmware part v s) := by
  unfold execDigWinData
  rw [staysInHalt_next]
  split <;> simp [h]

theorem execDigWinLast_inHalt (_ : DigPort) (valid token : Nat) (s : State) (h : s.pkg.inHalt) :
    StaysInHalt (execDigWinLast firmware valid token s) := by
  unfold execDigWinLast
  rw [staysInHalt_next]
  split <;> simp [h]

theorem execDigWinRelease_inHalt (_ : DigPort) (token : Nat) (s : State) (h : s.pkg.inHalt) :
    StaysInHalt (execDigWinRelease firmware token s) := by
  unfold execDigWinRelease
  rw [staysInHalt_next]
  split <;> simp [h]

theorem execDigWinTimeout_inHalt (s : State) (h : s.pkg.inHalt) : StaysInHalt (execDigWinTimeout s) := by
  unfold execDigWinTimeout
  rw [staysInHalt_next]
  split <;> simp [h]

/-! ### Time -/

theorem execTimNowRead_inHalt (s : State) (h : s.pkg.inHalt) : StaysInHalt (execTimNowRead s) :=
  gatedRead_inHalt s 0 _ h (by rwa [timNowReadAt_pkg])

theorem execTimCfgWrite_inHalt (v : Nat) (s : State) (h : s.pkg.inHalt) : StaysInHalt (execTimCfgWrite v s) := by
  simp [execTimCfgWrite, h]

/-! ### Power -/

theorem not_wakeable_of_inHalt {s : State} (h : s.pkg.inHalt) : s.wakeable = false := by
  rw [State.wakeable, h.halted, Bool.not_true, Bool.and_false]

theorem Pkg.inHalt.mode_ne_off {p : Pkg} (h : p.inHalt) : p.mode ≠ .off := fun e => absurd (e ▸ h.mainPower) (by decide)

theorem Pkg.inHalt.mode_ne_backup {p : Pkg} (h : p.inHalt) : p.mode ≠ .backup := fun e => absurd (e ▸ h.mainPower) (by decide)

theorem execTimeAlarmFire_inHalt (b : BootIn) (s : State) (h : s.pkg.inHalt) : StaysInHalt (execTimeAlarmFire b s) := by
  unfold execTimeAlarmFire
  rw [staysInHalt_next, not_wakeable_of_inHalt h]
  split
  · exact h
  · exact h

/-! ### Time -/

theorem execSourceQualified_inHalt (x : TSrc) (s : State) (h : s.pkg.inHalt) : StaysInHalt (execSourceQualified x s) := by
  unfold execSourceQualified
  dsimp only [staysInHalt_next]
  repeat' split
  all_goals simp [h]

theorem execSourceLost_inHalt (x : TSrc) (s : State) (h : s.pkg.inHalt) : StaysInHalt (execSourceLost x s) := by
  unfold execSourceLost
  rw [staysInHalt_next]
  split <;> simp [h]

theorem execLockAchieved_inHalt (s : State) (h : s.pkg.inHalt) : StaysInHalt (execLockAchieved s) := by
  simp [execLockAchieved, h]

theorem execHoldoverExpiry_inHalt (s : State) (h : s.pkg.inHalt) : StaysInHalt (execHoldoverExpiry s) := by
  unfold execHoldoverExpiry
  rw [staysInHalt_next]
  repeat' split
  all_goals simp [h]

/-! ### FramePath -/

theorem execPtpMessageReceive_inHalt (p domain : Nat) (msg : PtpMsg) (interval : Nat) (off : Int) (err utc : Nat) (l61 l59 : Bool)
    (s : State) (h : s.pkg.inHalt) : StaysInHalt (execPtpMessageReceive p domain msg interval off err utc l61 l59 s) := by
  unfold execPtpMessageReceive
  dsimp only [staysInHalt_next]
  repeat' split
  all_goals simp [h]

/-! ### Time -/

theorem execIrigFrameReceive_inHalt (ok : Bool) (off : Int) (err : Nat) (utc : Nat) (l61 l59 : Bool) (s : State) (h : s.pkg.inHalt) :
    StaysInHalt (execIrigFrameReceive ok off err utc l61 l59 s) := by
  unfold execIrigFrameReceive
  rw [staysInHalt_next]
  repeat' split
  all_goals simp [h]

theorem execPpsInEdge_inHalt (s : State) (h : s.pkg.inHalt) : StaysInHalt (execPpsInEdge s) := by
  unfold execPpsInEdge
  rw [staysInHalt_next]
  split <;> simp [h]

theorem execLeapSecondBoundary_inHalt (s : State) (h : s.pkg.inHalt) : StaysInHalt (execLeapSecondBoundary s) := by
  unfold execLeapSecondBoundary
  dsimp only [staysInHalt_next]
  repeat' split
  all_goals simp [h]

theorem execPpsOutPulse_inHalt (s : State) (h : s.pkg.inHalt) : StaysInHalt (execPpsOutPulse s) := h

/-! ### FramePath -/

/-- A frame of a known kind goes to its stream, or counts as unknown; another is forwarded or dropped. -/
theorem routed_inHalt (p : Nat) (b : List Byte) (fault : Bool) (s t : State) (h : t.pkg.inHalt) :
    (match frameKind s (s.red p) b with
      | none =>
        let u := t.modPort p fun x => { x with other := inc32 x.other }
        if (s.port p).fwdOther && (s.port p).mode == PortMode.passThrough then forward p { data := b, prio := 0, ingress := s.tick } u else u
      | some _ => match streamOf s p b with
        | none => rxUnknown p b t
        | some n => rxStream p n b fault t).pkg.inHalt := by
  split
  · refine iteState_inHalt ?_ h
    rw [forward_pkg]
    exact h
  · split
    · rwa [rxUnknown_pkg]
    · exact rxStream_inHalt p _ b fault t h

/-- A damaged or overlong frame counts against its port, and fails the stream it belongs to. -/
theorem badFrame_inHalt (p : Nat) (b : List Byte) (s t : State) (h : t.pkg.inHalt) :
    (match streamOf s p b with
      | some n => streamFail n s.tick (t.modPort p fun x => { x with fail := inc32 x.fail })
      | none => t).pkg.inHalt := by
  split
  · rwa [streamFail_pkg, State.modPort_pkg]
  · exact h

theorem execFrameReceive_inHalt (p : Nat) (b : List Byte) (fcs fault : Bool) (s : State) (h : s.pkg.inHalt) :
    StaysInHalt (execFrameReceive p b fcs fault s) := by
  have ptp (t : State) (ht : t.pkg.inHalt) : (rxPtp p b t).pkg.inHalt := by rwa [rxPtp_pkg]
  unfold execFrameReceive
  refine iteState_inHalt h (iteState_inHalt (badFrame_inHalt p b s _ h) ?_)
  exact iteState_inHalt h (iteState_inHalt (ptp _ h) (routed_inHalt p b fault s _ h))

theorem execFrameEgress_inHalt (p : Nat) (s : State) (h : s.pkg.inHalt) : StaysInHalt (execFrameEgress p s) := by
  unfold execFrameEgress
  rw [staysInHalt_next]
  repeat' split
  all_goals simp [h]

/-! ### Frames -/

theorem execStreamSilenceExpiry_inHalt (n : Nat) (s : State) (h : s.pkg.inHalt) : StaysInHalt (execStreamSilenceExpiry n s) := by
  unfold execStreamSilenceExpiry
  rw [staysInHalt_next]
  repeat' split
  all_goals simp [h]

theorem execRateSecondBoundary_inHalt (s : State) (h : s.pkg.inHalt) : StaysInHalt (execRateSecondBoundary s) := by
  unfold execRateSecondBoundary
  rw [staysInHalt_next, foldl_pkg fun s n => rateRoll_pkg n s.tick s]
  exact h

theorem execQuarantineHoldExpiry_inHalt (n : Nat) (s : State) (h : s.pkg.inHalt) : StaysInHalt (execQuarantineHoldExpiry n s) := by
  unfold execQuarantineHoldExpiry
  rw [staysInHalt_next]
  repeat' split
  all_goals simp [h]

/-! ### Harvest -/

theorem execTimeAllowedToLiveExpiry_inHalt (n : Nat) (s : State) (h : s.pkg.inHalt) : StaysInHalt (execTimeAllowedToLiveExpiry n s) := by
  unfold execTimeAllowedToLiveExpiry
  rw [staysInHalt_next]
  split <;> simp [h]

/-! ### Frames -/

theorem execFrameRingEnable_inHalt (_ n v : Nat) (s : State) (h : s.pkg.inHalt) : StaysInHalt (execFrameRingEnable ii n v s) := by
  simp [execFrameRingEnable, h]

theorem execFrameRingDoorbell_inHalt (_ n v : Nat) (s : State) (h : s.pkg.inHalt) : StaysInHalt (execFrameRingDoorbell ii n v s) := by
  simp [execFrameRingDoorbell, h]

/-! ### Harvest -/

theorem execHarvestWindowClose_inHalt (n : Nat) (s : State) (h : s.pkg.inHalt) : StaysInHalt (execHarvestWindowClose n s) := by
  unfold execHarvestWindowClose
  rw [staysInHalt_next]
  repeat' split
  all_goals simp [h]

theorem execHarvestSealDone_inHalt (n w : Nat) (s : State) (h : s.pkg.inHalt) : StaysInHalt (execHarvestSealDone n w s) := by
  unfold execHarvestSealDone
  rw [staysInHalt_next]
  split
  · split
    · exact h
    next x st _ _ _ y _ =>
      dsimp only
      split
      · rw [flushSealed_pkg, sealFail_pkg]
        exact h
      · exact h
      next k _ _ =>
        have signed := sealSign_inHalt x k y.record h
        split
        · exact h
        next bad s1 e =>
          rw [flushSealed_pkg, sealFail_pkg, sessionEnergy_pkg]
          exact signed _ e
        next sig s1 e =>
          rw [flushSealed_pkg]
          refine Eq.mp (congrArg Pkg.inHalt ?_) (signed _ e)
          simp
  · exact h

theorem execHarvestVerifyDone_inHalt (n : Nat) (s : State) (h : s.pkg.inHalt) : StaysInHalt (execHarvestVerifyDone n s) := by
  unfold execHarvestVerifyDone
  dsimp only [staysInHalt_next]
  repeat' split
  all_goals simp [h]

theorem execAssemblyTimeout_inHalt (n : Nat) (s : State) (h : s.pkg.inHalt) : StaysInHalt (execAssemblyTimeout n s) := by
  unfold execAssemblyTimeout
  rw [staysInHalt_next]
  split <;> simp [h]

theorem execPendingFrameTimeout_inHalt (n : Nat) (s : State) (h : s.pkg.inHalt) : StaysInHalt (execPendingFrameTimeout n s) := by
  unfold execPendingFrameTimeout
  rw [staysInHalt_next]
  split <;> simp [h]

/-! ### Random -/

theorem execNoiseWindowComplete_inHalt (r : Nat) (rct apt : Bool) (s : State) (h : s.pkg.inHalt) :
    StaysInHalt (execNoiseWindowComplete r rct apt s) := by
  unfold execNoiseWindowComplete
  rw [staysInHalt_next]
  split
  · exact h
  · dsimp only
    split
    · split
      · exact startFailed_inHalt _ _ h
      · exact h
      · split
        · exact h
        · rw [healthFailed_pkg]
          exact h
    · split
      · exact h
      · split
        · exact h
        · exact h

theorem execSeedConditioned_inHalt (r : Nat) (s : State) (h : s.pkg.inHalt) : StaysInHalt (execSeedConditioned r s) := by
  unfold execSeedConditioned
  dsimp only [staysInHalt_next]
  repeat' split
  all_goals simp [h]

theorem execReseedDue_inHalt (r : Nat) (s : State) (h : s.pkg.inHalt) : StaysInHalt (execReseedDue r s) := by
  unfold execReseedDue
  dsimp only [staysInHalt_next]
  repeat' split
  all_goals simp [h]

theorem execExpanderGenerate_inHalt (r : Nat) (s : State) (h : s.pkg.inHalt) : StaysInHalt (execExpanderGenerate r s) := by
  unfold execExpanderGenerate
  dsimp only [staysInHalt_next]
  repeat' split
  all_goals simp [h]

theorem execRandomDrawServed_inHalt (r : Nat) (s : State) (h : s.pkg.inHalt) : StaysInHalt (execRandomDrawServed r s) := by
  unfold execRandomDrawServed
  dsimp only [staysInHalt_next]
  repeat' split
  all_goals simp [h]

theorem execRandomDrawTimeout_inHalt (j : Nat) (s : State) (h : s.pkg.inHalt) : StaysInHalt (execRandomDrawTimeout j s) := by
  unfold execRandomDrawTimeout
  dsimp only [staysInHalt_next]
  repeat' split
  all_goals simp [h]

theorem execDonorSeedWrap_inHalt (asker : Nat) (s : State) (h : s.pkg.inHalt) : StaysInHalt (execDonorSeedWrap asker s) := by
  unfold execDonorSeedWrap
  dsimp only [staysInHalt_next]
  repeat' split
  all_goals simp [h]

theorem execBorrowedSeedArrival_inHalt (r : Nat) (ok : Bool) (s : State) (h : s.pkg.inHalt) :
    StaysInHalt (execBorrowedSeedArrival r ok s) := by
  unfold execBorrowedSeedArrival
  dsimp only [staysInHalt_next]
  repeat' split
  all_goals simp [h]

theorem execSeedRequestRetry_inHalt (r : Nat) (s : State) (h : s.pkg.inHalt) : StaysInHalt (execSeedRequestRetry r s) := by
  unfold execSeedRequestRetry
  dsimp only [staysInHalt_next]
  repeat' split
  all_goals simp [h]

theorem execBorrowAdvanceDue_inHalt (r : Nat) (s : State) (h : s.pkg.inHalt) : StaysInHalt (execBorrowAdvanceDue r s) := by
  unfold execBorrowAdvanceDue
  dsimp only [staysInHalt_next]
  repeat' split
  all_goals simp [h]

theorem execSourceRestartDone_inHalt (r : Nat) (pass : Bool) (s : State) (h : s.pkg.inHalt) :
    StaysInHalt (execSourceRestartDone r pass s) := by
  unfold execSourceRestartDone
  dsimp only [staysInHalt_next]
  repeat' split
  all_goals simp [h]

theorem execRngStartupComplete_inHalt (r : Nat) (s : State) (h : s.pkg.inHalt) : StaysInHalt (execRngStartupComplete r s) := by
  unfold execRngStartupComplete
  rw [staysInHalt_next]
  dsimp only
  split
  · rw [wakeMasked_pkg, foldl_pkg fun s p => State.modMsg_pkg s _ _ _]
    exact h
  · exact h

theorem execMaskSeedArrival_inHalt (r p : Nat) (s : State) (h : s.pkg.inHalt) : StaysInHalt (execMaskSeedArrival r p s) := by
  simp [execMaskSeedArrival, h]

theorem execMaskStreamLockstepFault_inHalt (r p : Nat) (s : State) (h : s.pkg.inHalt) :
    StaysInHalt (execMaskStreamLockstepFault r p s) := by
  unfold execMaskStreamLockstepFault
  rw [staysInHalt_next]
  split <;> simp [h]

/-! ### Keys -/

theorem execRootReady_inHalt (s : State) (h : s.pkg.inHalt) : StaysInHalt (execRootReady s) := by
  unfold execRootReady
  rw [staysInHalt_next]
  split
  · exact h
  · dsimp only
    split
    · exact h
    · exact h

/-! ### Regions -/

theorem execEccError_inHalt (a : EccAt) (corrected : Bool) (s : State) (h : s.pkg.inHalt) : StaysInHalt (execEccError a corrected s) := by
  unfold execEccError
  rw [staysInHalt_next]
  repeat' split
  all_goals simp [h]

/-! ### FaultRows -/

theorem execDupMismatch_inHalt (r : Nat) (k : UnitKind) (n : Nat) (pair : Bool) (s : State) (h : s.pkg.inHalt) :
    StaysInHalt (execDupMismatch r k n pair s) := by
  unfold execDupMismatch
  rw [staysInHalt_next]
  dsimp only
  split
  · refine unitRetry_inHalt _ _ _ _ _ _ ?_
    rwa [countUnitFault_pkg]
  · exact h

theorem execSeqCheckFault_inHalt (r : Nat) (k : UnitKind) (n : Nat) (s : State) (h : s.pkg.inHalt) :
    StaysInHalt (execSeqCheckFault r k n s) := by
  unfold execSeqCheckFault
  rw [staysInHalt_next]
  split <;> simp [h]

theorem execPanWatchdogTrip_inHalt (r p : Nat) (s : State) (h : s.pkg.inHalt) : StaysInHalt (execPanWatchdogTrip r p s) := by
  unfold execPanWatchdogTrip
  rw [staysInHalt_next]
  split <;> simp [h]

theorem execSelfTestResult_inHalt (q : Nat) (pass : Bool) (s : State) (h : s.pkg.inHalt) :
    StaysInHalt (execSelfTestResult q pass s) := by
  unfold execSelfTestResult
  rw [staysInHalt_next]
  split
  · dsimp only
    split
    · exact h
    · exact lasting_inHalt _ _ _ h
  · exact h
  · exact h

theorem execSluiceExpiry_inHalt (q : Nat) (s : State) (h : s.pkg.inHalt) : StaysInHalt (execSluiceExpiry q s) := by
  unfold execSluiceExpiry
  rw [staysInHalt_next]
  split
  · split
    · exact h
    · dsimp only
      split
      · exact iteState_inHalt (record_inHalt _ _ _ h) (fenceRegion_inHalt _ _ (record_inHalt _ _ _ h))
      · exact raiseHalt_inHalt _ _ h
  · exact h

theorem execFltAck_inHalt (hi : Nat) (s : State) (h : s.pkg.inHalt) : StaysInHalt (execFltAck hi s) := by
  simp [execFltAck, h]

theorem execFltInject_inHalt (v : Nat) (s : State) (h : s.pkg.inHalt) : StaysInHalt (execFltInject v s) := by
  simp [execFltInject, h]

/-! ### Tamper -/

theorem execDisturbance_inHalt (u : Nat) (s : State) (h : s.pkg.inHalt) : StaysInHalt (execDisturbance u s) := by
  unfold execDisturbance
  rw [staysInHalt_next]
  split <;> simp [h]

theorem execDisturbanceClear_inHalt (u ns : Nat) (s : State) (h : s.pkg.inHalt) : StaysInHalt (execDisturbanceClear u ns s) := by
  unfold execDisturbanceClear
  rw [staysInHalt_next]
  repeat' split
  all_goals simp [h]

theorem execTamperAlarm_inHalt (us : List Nat) (partner : Bool) (s : State) (h : s.pkg.inHalt) :
    StaysInHalt (execTamperAlarm us partner s) :=
  alarms_inHalt _ _ (foldl_inHalt (fun s u h => disturb_inHalt u s h) _ h)

theorem execEraseEvidenceBurn_inHalt (s : State) (h : s.pkg.inHalt) : StaysInHalt (execEraseEvidenceBurn s) := by
  have burnt : (burnEvidence s).pkg.inHalt := by rwa [burnEvidence_pkg]
  unfold execEraseEvidenceBurn
  rw [staysInHalt_next]
  split
  · dsimp only
    split
    · exact burnt
    · exact setMode_inHalt .zeroized _ rfl burnt
  · exact h

theorem execZeroizeNAssert_inHalt (ns : Nat) (s : State) (h : s.pkg.inHalt) : StaysInHalt (execZeroizeNAssert ns s) := by
  unfold execZeroizeNAssert
  rw [staysInHalt_next]
  split
  · exact h
  · dsimp only
    split
    · exact alarms_inHalt _ _ h
    · exact h

theorem execTampInAssert_inHalt (n : Nat) (high : Bool) (ns : Nat) (s : State) (h : s.pkg.inHalt) :
    StaysInHalt (execTampInAssert n high ns s) := by
  unfold execTampInAssert
  rw [staysInHalt_next]
  split
  · exact h
  · dsimp only
    split
    · exact alarms_inHalt _ _ h
    · exact h

theorem execMonitorStimulation_inHalt (responds : Bool) (s : State) (h : s.pkg.inHalt) :
    StaysInHalt (execMonitorStimulation responds s) := by
  unfold execMonitorStimulation
  rw [staysInHalt_next]
  split
  · exact h
  · dsimp only
    split
    · exact stimulate_inHalt _ _ _ h
    · exact h

theorem execVbatLow_inHalt (mv : Nat) (s : State) (h : s.pkg.inHalt) : StaysInHalt (execVbatLow mv s) := by
  unfold execVbatLow
  rw [staysInHalt_next]
  repeat' split
  all_goals simp [h]

/-! ### Power -/

theorem execPwrgdMainRise_inHalt (straps : Nat) (b : BootIn) (s : State) (h : s.pkg.inHalt) :
    StaysInHalt (execPwrgdMainRise straps b s) := by
  have hmain : ¬(s.pkg.mode == .off || s.pkg.mode == .backup) = true := by
    simp [h.mode_ne_off, h.mode_ne_backup]
  unfold execPwrgdMainRise
  rw [staysInHalt_next, if_neg hmain, if_neg (by simp [h.halted])]
  exact h

theorem execVbatApplied_inHalt (s : State) (h : s.pkg.inHalt) : StaysInHalt (execVbatApplied s) := by
  refine ⟨h.halted, ?_⟩
  change (if s.pkg.mode = .off then Mode.backup else s.pkg.mode).mainPower = true
  rw [if_neg h.mode_ne_off]
  exact h.mainPower

theorem execVbatLost_inHalt (s : State) (h : s.pkg.inHalt) : StaysInHalt (execVbatLost s) := by
  have kept : (s.modPkg fun p => { p with vbat := false, mode := if p.mode = .backup then .off else p.mode }).pkg.inHalt := by
    refine ⟨h.halted, ?_⟩
    change (if s.pkg.mode = .backup then Mode.off else s.pkg.mode).mainPower = true
    rw [if_neg h.mode_ne_backup]
    exact h.mainPower
  unfold execVbatLost
  rw [staysInHalt_next]
  dsimp only
  split
  · exact kept
  · exact kept

theorem execWakeNLow_inHalt (ns : Nat) (b : BootIn) (s : State) (h : s.pkg.inHalt) : StaysInHalt (execWakeNLow ns b s) := by
  unfold execWakeNLow
  rw [not_wakeable_of_inHalt h]
  exact h

theorem execPcieLinkWake_inHalt (b : BootIn) (s : State) (h : s.pkg.inHalt) : StaysInHalt (execPcieLinkWake b s) := by
  unfold execPcieLinkWake
  rw [not_wakeable_of_inHalt h]
  exact h

theorem execSelfTestComplete_inHalt (apex : Bool) (s : State) (h : s.pkg.inHalt) : StaysInHalt (execSelfTestComplete apex s) := by
  unfold execSelfTestComplete
  rw [staysInHalt_next, if_pos (by simp [h.halted])]
  exact h

/-! ### Regions -/

theorem execRegionDrained_inHalt (r : Nat) (s : State) (h : s.pkg.inHalt) : StaysInHalt (execRegionDrained r s) := by
  unfold execRegionDrained
  rw [staysInHalt_next]
  split <;> simp [h]

theorem execDrainTimeout_inHalt (r : Nat) (s : State) (h : s.pkg.inHalt) : StaysInHalt (execDrainTimeout r s) := by
  have lost (l : List Nat) : (l.foldl (fun s j => loseJob j s) s).pkg.inHalt :=
    foldl_inHalt (fun s j h => (loseJob_inHalt j s).2 h) l h
  unfold execDrainTimeout
  rw [staysInHalt_next]
  split
  · dsimp only
    split
    · exact lost _
    · exact dikeDrained_inHalt _ _ (lost _)
  · exact h

theorem execRegionTestingDone_inHalt (r : Nat) (pass : Bool) (s : State) (h : s.pkg.inHalt) :
    StaysInHalt (execRegionTestingDone r pass s) := by
  unfold execRegionTestingDone
  rw [staysInHalt_next]
  split
  · split
    · exact failRegion_inHalt _ _ h
    · refine setRegionState_inHalt _ _ _ _ ?_
      rw [dropCores_pkg]
      exact h
  · exact h

theorem execRegionLoadingDone_inHalt (r oks : Nat) (s : State) (h : s.pkg.inHalt) :
    StaysInHalt (execRegionLoadingDone r oks s) := by
  unfold execRegionLoadingDone
  rw [staysInHalt_next]
  dsimp only
  split
  · split
    · exact failRegion_inHalt _ _ h
    · split
      · exact setRegionState_inHalt _ _ _ _ h
      · exact h
  · exact h

theorem execRegionRejoinDone_inHalt (r : Nat) (s : State) (h : s.pkg.inHalt) : StaysInHalt (execRegionRejoinDone r s) := by
  unfold execRegionRejoinDone
  rw [staysInHalt_next]
  split <;> simp [h]

theorem execPointWrite_inHalt (r v : Nat) (s : State) (h : s.pkg.inHalt) : StaysInHalt (execPointWrite r v s) := by
  simp [execPointWrite, h]

theorem execPointSwitchDone_inHalt (r mv : Nat) (ok : Bool) (s : State) (h : s.pkg.inHalt) :
    StaysInHalt (execPointSwitchDone r mv ok s) := by
  unfold execPointSwitchDone
  rw [staysInHalt_next]
  split <;> simp [h]

theorem execPanIdleTimeout_inHalt (r p : Nat) (s : State) (h : s.pkg.inHalt) : StaysInHalt (execPanIdleTimeout r p s) := by
  unfold execPanIdleTimeout
  dsimp only [staysInHalt_next]
  repeat' split
  all_goals simp [h]

theorem execPanNapTimeout_inHalt (r p : Nat) (s : State) (h : s.pkg.inHalt) : StaysInHalt (execPanNapTimeout r p s) := by
  unfold execPanNapTimeout
  dsimp only [staysInHalt_next]
  repeat' split
  all_goals simp [h]

theorem execLinkRetry_inHalt (r : Nat) (s : State) (h : s.pkg.inHalt) : StaysInHalt (execLinkRetry r s) := by
  unfold execLinkRetry
  rw [staysInHalt_next]
  split
  · exact h
  · dsimp only
    split
    · exact raiseContain_inHalt _ _ h
    · exact h

theorem execLinkLaneFailure_inHalt (r : Nat) (m : Bool) (s : State) (h : s.pkg.inHalt) : StaysInHalt (execLinkLaneFailure r m s) := by
  unfold execLinkLaneFailure
  dsimp only [staysInHalt_next]
  repeat' split
  all_goals simp [h]

theorem execRakePass_inHalt (r : Nat) (finished : Bool) (err : Option (EccAt × Bool)) (s : State) (h : s.pkg.inHalt) :
    StaysInHalt (execRakePass r finished err s) := by
  have counted (f : Svc → Svc) : (if r = 8 then s else s.modSvc r f).pkg.inHalt := by
    split
    · exact h
    · exact h
  unfold execRakePass
  rw [staysInHalt_next]
  split
  · exact h
  · dsimp only
    split
    · rw [eccCorrected_pkg]
      exact counted _
    · exact eccUncorrectable_inHalt _ _ (counted _)
    · exact counted _

theorem execAgingEvaluation_inHalt (r target slack : Nat) (ok : Bool) (s : State) (h : s.pkg.inHalt) :
    StaysInHalt (execAgingEvaluation r target slack ok s) := by
  unfold execAgingEvaluation
  dsimp only [staysInHalt_next]
  repeat' split
  all_goals simp [h]

theorem execThermalThreshold_inHalt (die level : Nat) (up : Bool) (s : State) (h : s.pkg.inHalt) :
    StaysInHalt (execThermalThreshold die level up s) := by
  unfold execThermalThreshold
  rw [staysInHalt_next]
  repeat' split
  all_goals simp [h]

/-! ### Manage -/

theorem execHeartbeatLapse_inHalt (s : State) (h : s.pkg.inHalt) : StaysInHalt (execHeartbeatLapse s) := h

theorem execWatchdogReset_inHalt (s : State) (h : s.pkg.inHalt) : StaysInHalt (execWatchdogReset s) := by
  unfold execWatchdogReset
  rw [staysInHalt_next]
  split <;> simp [h]

theorem execSkanelLockstepMismatch_inHalt (s : State) (h : s.pkg.inHalt) : StaysInHalt (execSkanelLockstepMismatch s) := by
  unfold execSkanelLockstepMismatch
  rw [staysInHalt_next]
  split <;> simp [h]

/-! ### JournalRows -/

theorem execBitternSlotWritten_inHalt (s : State) (h : s.pkg.inHalt) : StaysInHalt (execBitternSlotWritten s) := by
  have signed := firmwareSign_inHalt "EXM-BITTERN-1" (btnImage s) h
  unfold execBitternSlotWritten
  rw [staysInHalt_next]
  split
  · exact h
  · split
    · dsimp only
      split
      · exact h
      next s1 e => exact signed _ e
      next sig s1 e =>
        rw [saveBittern_pkg]
        exact signed _ e
    · exact h

/-! ### Card -/

theorem execCardInsert_inHalt (ns blocks : Nat) (hdr : Option (Nat × Nat)) (recs : List CardRec) (init : Bool) (mode phase : Nat)
    (s : State) (h : s.pkg.inHalt) : StaysInHalt (execCardInsert ns blocks hdr recs init mode phase s) := by
  unfold execCardInsert
  dsimp only [staysInHalt_next]
  repeat' split
  all_goals simp [h]

theorem execCardRemove_inHalt (ns : Nat) (s : State) (h : s.pkg.inHalt) : StaysInHalt (execCardRemove ns s) := by
  unfold execCardRemove
  rw [staysInHalt_next]
  split <;> simp [h]

theorem execCardEject_inHalt (s : State) (h : s.pkg.inHalt) : StaysInHalt (execCardEject s) := by
  simp [execCardEject, h]

theorem execCardBusyEnd_inHalt (s : State) (h : s.pkg.inHalt) : StaysInHalt (execCardBusyEnd s) := by
  unfold execCardBusyEnd
  rw [staysInHalt_next]
  repeat' split
  all_goals simp [h]

theorem execCardBusyTimeout_inHalt (s : State) (h : s.pkg.inHalt) : StaysInHalt (execCardBusyTimeout s) := by
  unfold execCardBusyTimeout
  rw [staysInHalt_next]
  split <;> simp [h]

/-! ### Registers -/

theorem execBadAccess_inHalt (fn a size : Nat) (write : Bool) (s : State) (h : s.pkg.inHalt) :
    StaysInHalt (execBadAccess fn a size write s) := by
  unfold execBadAccess
  rw [staysInHalt_next]
  repeat' split
  all_goals simp [h]

theorem execRegisterWrite_inHalt (fn a : Nat) (wide : Bool) (v : Nat) (s : State) (h : s.pkg.inHalt) :
    StaysInHalt (execRegisterWrite fn a wide v s) := by
  unfold execRegisterWrite
  rw [staysInHalt_next]
  repeat' split
  all_goals simp [h]

/-! ### Custom -/

theorem execKInterruptEntry_inHalt (c : CoreId) (n : Nat) (s : State) (h : s.pkg.inHalt) : StaysInHalt (execKInterruptEntry c n s) := by
  unfold execKInterruptEntry
  dsimp only [staysInHalt_next]
  repeat' split
  all_goals simp [h]

theorem execCustYield_inHalt (c : CoreId) (s : State) (h : s.pkg.inHalt) : StaysInHalt (execCustYield c s) := by
  unfold execCustYield
  dsimp only [staysInHalt_next]
  repeat' split
  all_goals simp [h]

theorem execSafePointWatchdogTrip_inHalt (c : CoreId) (maxUs : Bool) (s : State) (h : s.pkg.inHalt) :
    StaysInHalt (execSafePointWatchdogTrip c maxUs s) := by
  unfold execSafePointWatchdogTrip
  rw [staysInHalt_next]
  repeat' split
  all_goals simp [h]

theorem execSeqStep_inHalt (c : CoreId) (s : State) (h : s.pkg.inHalt) : StaysInHalt (execSeqStep c s) := by
  simp [execSeqStep, h]

theorem execSeqBranch_inHalt (c : CoreId) (s : State) (h : s.pkg.inHalt) : StaysInHalt (execSeqBranch c s) := by
  simp [execSeqBranch, h]

theorem execSeqCall_inHalt (c : CoreId) (s : State) (h : s.pkg.inHalt) : StaysInHalt (execSeqCall c s) := by
  simp [execSeqCall, h]

theorem execSeqRet_inHalt (c : CoreId) (s : State) (h : s.pkg.inHalt) : StaysInHalt (execSeqRet c s) := by
  simp [execSeqRet, h]

theorem execSeqRun_inHalt (c : CoreId) (s : State) (h : s.pkg.inHalt) : StaysInHalt (execSeqRun c s) := by
  simp [execSeqRun, h]

theorem execSeqEnd_inHalt (c : CoreId) (s : State) (h : s.pkg.inHalt) : StaysInHalt (execSeqEnd c s) := by
  simp [execSeqEnd, h]

theorem execSeqFail_inHalt (c : CoreId) (s : State) (h : s.pkg.inHalt) : StaysInHalt (execSeqFail c s) := by
  simp [execSeqFail, h]

theorem execKRep_inHalt (c : CoreId) (stall : Nat) (w w2 : U32) (s : State) (h : s.pkg.inHalt) :
    StaysInHalt (execKRep c stall w w2 s) := by
  simp [execKRep, h]

theorem execKRepi_inHalt (c : CoreId) (stall : Nat) (w w2 : U32) (s : State) (h : s.pkg.inHalt) :
    StaysInHalt (execKRepi c stall w w2 s) := by
  simp [execKRepi, h]

/-! ### Tap -/

theorem execTapExtest_inHalt (pins tdi : List Byte) (s : State) (h : s.pkg.inHalt) : StaysInHalt (execTapExtest pins tdi s) :=
  extest_inHalt _ _ _ _ h fun _ h => h

theorem execTapSamplePreload_inHalt (pins tdi : List Byte) (s : State) (h : s.pkg.inHalt) :
    StaysInHalt (execTapSamplePreload pins tdi s) :=
  tapOn_inHalt _ _ h h

theorem execTapIdcode_inHalt (s : State) (h : s.pkg.inHalt) : StaysInHalt (execTapIdcode s) :=
  tapOn_inHalt _ _ h h

theorem execTapHighz_inHalt (pins tdi : List Byte) (s : State) (h : s.pkg.inHalt) : StaysInHalt (execTapHighz pins tdi s) :=
  extest_inHalt _ _ _ _ h fun _ h => h

theorem execTapClamp_inHalt (pins tdi : List Byte) (s : State) (h : s.pkg.inHalt) : StaysInHalt (execTapClamp pins tdi s) :=
  extest_inHalt _ _ _ _ h fun _ h => h

theorem execTapExtestPulse_inHalt (pins tdi : List Byte) (s : State) (h : s.pkg.inHalt) :
    StaysInHalt (execTapExtestPulse pins tdi s) :=
  extest_inHalt _ _ _ _ h fun _ h => h

theorem execTapExtestTrain_inHalt (pins tdi : List Byte) (s : State) (h : s.pkg.inHalt) :
    StaysInHalt (execTapExtestTrain pins tdi s) :=
  extest_inHalt _ _ _ _ h fun _ h => h

theorem execTapLcStatus_inHalt (s : State) (h : s.pkg.inHalt) : StaysInHalt (execTapLcStatus s) :=
  tapOn_inHalt _ _ h h

theorem execTapDbgAuth_inHalt (b : List Byte) (s : State) (h : s.pkg.inHalt) : StaysInHalt (execTapDbgAuth b s) :=
  vendorOnly_inHalt _ _ _ _ h fun s h => debugAuth_inHalt b s h

theorem execTapDbgClose_inHalt (s : State) (h : s.pkg.inHalt) : StaysInHalt (execTapDbgClose s) :=
  vendorOnly_inHalt _ _ _ _ h fun s h => closeSession_inHalt s h

theorem execTapDbgRead_inHalt (x : DbgSpace) (s : State) (h : s.pkg.inHalt) : StaysInHalt (execTapDbgRead x s) := by
  simp [execTapDbgRead, h]

theorem execTapDbgWrite_inHalt (fn a v : Nat) (s : State) (h : s.pkg.inHalt) : StaysInHalt (execTapDbgWrite fn a v s) :=
  vendorOnly_inHalt _ _ _ _ h fun s h => writeRegs_inHalt _ _ _ _ s h

theorem execTapDbgHalt_inHalt (c : CoreId) (o : DbgOp) (s : State) (h : s.pkg.inHalt) : StaysInHalt (execTapDbgHalt c o s) := by
  simp [execTapDbgHalt, h]

theorem execTapDbgRun_inHalt (c : CoreId) (n : Nat) (args : List Byte) (ins : Tbl (List Byte)) (s : State) (h : s.pkg.inHalt) :
    StaysInHalt (execTapDbgRun c n args ins s) := by
  simp [execTapDbgRun, h]

theorem execTapFtScan_inHalt (tdi : List Byte) (s : State) (h : s.pkg.inHalt) : StaysInHalt (execTapFtScan tdi s) :=
  vendorOnly_inHalt _ _ _ _ h fun _ h => h

theorem execTapFtBist_inHalt (tdi : List Byte) (s : State) (h : s.pkg.inHalt) : StaysInHalt (execTapFtBist tdi s) :=
  vendorOnly_inHalt _ _ _ _ h fun _ h => h

theorem execTapFtFuse_inHalt (x : FuseIn) (s : State) (h : s.pkg.inHalt) : StaysInHalt (execTapFtFuse x s) := by
  simp [execTapFtFuse, h]

theorem execTapBypass_inHalt (tdi : List Byte) (s : State) (h : s.pkg.inHalt) : StaysInHalt (execTapBypass tdi s) :=
  tapOn_inHalt _ _ h h

/-! ### Regions -/

theorem execRegionSramWiped_inHalt (r : Nat) (s : State) (h : s.pkg.inHalt) : StaysInHalt (execRegionSramWiped r s) := by
  unfold execRegionSramWiped
  rw [staysInHalt_next]
  split <;> simp [h]

/-! ### Power -/

theorem execPerstNDeassert_inHalt (s : State) (h : s.pkg.inHalt) : StaysInHalt (execPerstNDeassert s) := h

/-! ### FramePath -/

theorem execFramePortLinkChange_inHalt (p : Nat) (up : Bool) (s : State) (h : s.pkg.inHalt) :
    StaysInHalt (execFramePortLinkChange p up s) := by
  unfold execFramePortLinkChange
  rw [staysInHalt_next]
  split <;> simp [h]

/-! ### Time -/

theorem execTcxoToleranceChange_inHalt (ok : Bool) (s : State) (h : s.pkg.inHalt) : StaysInHalt (execTcxoToleranceChange ok s) := by
  simp [execTcxoToleranceChange, h]

/-! ### Hash -/

theorem execLmsNextTreeReady_inHalt (id : Nat) (s : State) (h : s.pkg.inHalt) : StaysInHalt (execLmsNextTreeReady id s) := h

/-! ### Tamper -/

theorem execStimulationWindowEnd_inHalt (u : Nat) (alarm : Bool) (s : State) (h : s.pkg.inHalt) :
    StaysInHalt (execStimulationWindowEnd u alarm s) := by
  unfold execStimulationWindowEnd
  rw [staysInHalt_next]
  split
  · dsimp only
    split
    · exact h
    · split
      · exact disturb_inHalt _ _ h
      · split
        · exact alarms_inHalt _ _ h
        · exact h
  · exact h

/-! ### FaultRows -/

theorem execErrorPairPhaseToggle_inHalt (s : State) (h : s.pkg.inHalt) : StaysInHalt (execErrorPairPhaseToggle s) := by
  unfold execErrorPairPhaseToggle
  rw [staysInHalt_next]
  split <;> simp [h]

/-! ### HostMemory -/

theorem execHostMemoryCompletion_inHalt (u : HostUse) (a : HostAns) (s : State) (h : s.pkg.inHalt) :
    StaysInHalt (execHostMemoryCompletion u a s) := by
  unfold execHostMemoryCompletion
  rw [staysInHalt_next]
  repeat' split
  all_goals simp [h]

/-! ### Card -/

theorem execCardCommandResponse_inHalt (ok : Bool) (s : State) (h : s.pkg.inHalt) : StaysInHalt (execCardCommandResponse ok s) := by
  unfold execCardCommandResponse
  dsimp only [staysInHalt_next]
  repeat' split
  all_goals simp [h]

/-! ### Hash -/

theorem execDigWinCompressionDone_inHalt (s : State) (h : s.pkg.inHalt) : StaysInHalt (execDigWinCompressionDone s) := h

end Sys2Proof.Machine
end

section
/-! PROOFS. HALT lasts (O3): command by command, and with nothing waiting. -/

namespace Sys2Proof.Machine

/-- The commands that end HALT (R31). -/
def endsHalt : Instr → Bool
  | .perstNAssert _ | .pwrgdMainFall | .pwrgdAonFall => true
  | _ => false

/-- Every other command leaves a package in HALT there. -/
theorem exec_staysInHalt (i : Instr) (s : State) (h : s.pkg.inHalt) (hi : endsHalt i = false) : StaysInHalt (exec i s) := by
  cases i with
  | sysNop _ => exact runVerb_inHalt _ _ sysNop_keepsHalt h
  | sysFeatures _ => exact runVerb_inHalt _ _ sysFeatures_keepsHalt h
  | sysStandby _ => exact runVerb_inHalt _ _ sysStandby_keepsHalt h
  | keyGenerate _ => exact runVerb_inHalt _ _ keyGenerate_keepsHalt h
  | keyImport _ => exact runVerb_inHalt _ _ keyImport_keepsHalt h
  | keyDerive _ => exact runVerb_inHalt _ _ keyDerive_keepsHalt h
  | keyLoad _ => exact runVerb_inHalt _ _ keyLoad_keepsHalt h
  | keyEvict _ => exact runVerb_inHalt _ _ keyEvict_keepsHalt h
  | keyDelete _ => exact runVerb_inHalt _ _ keyDelete_keepsHalt h
  | keyPinPublic _ => exact runVerb_inHalt _ _ keyPinPublic_keepsHalt h
  | keyAttest _ => exact runVerb_inHalt _ _ keyAttest_keepsHalt h
  | keyList _ => exact runVerb_inHalt _ _ keyList_keepsHalt h
  | keyIdentity _ => exact runVerb_inHalt _ _ keyIdentity_keepsHalt h
  | keyTransfer _ => exact runVerb_inHalt _ _ keyTransfer_keepsHalt h
  | keyUpdate _ => exact runVerb_inHalt _ _ keyUpdate_keepsHalt h
  | kemMlkemEncaps _ => exact runVerb_inHalt _ _ mlkemEncaps_keepsHalt h
  | kemMlkemDecaps _ => exact runVerb_inHalt _ _ mlkemDecaps_keepsHalt h
  | kemHybEncaps _ => exact runVerb_inHalt _ _ hybEncaps_keepsHalt h
  | kemHybDecaps _ => exact runVerb_inHalt _ _ hybDecaps_keepsHalt h
  | kemRsaEncrypt _ => exact runVerb_inHalt _ _ rsaEncrypt_keepsHalt h
  | kemRsaDecrypt _ => exact runVerb_inHalt _ _ rsaDecrypt_keepsHalt h
  | kemEcdh _ => exact runVerb_inHalt _ _ kemEcdh_keepsHalt h
  | kemMceEncaps _ => exact runVerb_inHalt _ _ mceEncaps_keepsHalt h
  | kemMceDecaps _ => exact runVerb_inHalt _ _ (codeDecaps_keepsHalt _) h
  | kemHqcEncaps _ => exact runVerb_inHalt _ _ hqcEncaps_keepsHalt h
  | kemHqcDecaps _ => exact runVerb_inHalt _ _ (codeDecaps_keepsHalt _) h
  | sigMldsaSign _ => exact runVerb_inHalt _ _ mldsaSign_keepsHalt h
  | sigMldsaVerify _ => exact runVerb_inHalt _ _ mldsaVerify_keepsHalt h
  | sigFndsaVerify _ => exact runVerb_inHalt _ _ fndsaVerify_keepsHalt h
  | sigCompSign _ => exact runVerb_inHalt _ _ compSign_keepsHalt h
  | sigCompVerify _ => exact runVerb_inHalt _ _ compVerify_keepsHalt h
  | sigSlhdsaSign _ => exact runVerb_inHalt _ _ slhSign_keepsHalt h
  | sigSlhdsaVerify _ => exact runVerb_inHalt _ _ slhVerify_keepsHalt h
  | sigLmsSign _ => exact runVerb_inHalt _ _ lmsSign_keepsHalt h
  | lmsReservationComplete id => exact execLmsReservationComplete_inHalt id s h
  | sigLmsVerify _ => exact runVerb_inHalt _ _ (statefulVerify_keepsHalt _ _) h
  | sigXmssVerify _ => exact runVerb_inHalt _ _ (statefulVerify_keepsHalt _ _) h
  | sigRsaSign _ => exact runVerb_inHalt _ _ rsaSign_keepsHalt h
  | sigRsaVerify _ => exact runVerb_inHalt _ _ rsaVerify_keepsHalt h
  | sigEcdsaSign _ => exact runVerb_inHalt _ _ ecdsaSign_keepsHalt h
  | sigEcdsaVerify _ => exact runVerb_inHalt _ _ ecdsaVerify_keepsHalt h
  | sigEddsaSign _ => exact runVerb_inHalt _ _ eddsaSign_keepsHalt h
  | sigEddsaVerify _ => exact runVerb_inHalt _ _ eddsaVerify_keepsHalt h
  | digHash _ => exact runVerb_inHalt _ _ digHash_keepsHalt h
  | digMac _ => exact runVerb_inHalt _ _ digMac_keepsHalt h
  | digMacVerify _ => exact runVerb_inHalt _ _ digMacVerify_keepsHalt h
  | digKdf _ => exact runVerb_inHalt _ _ digKdf_keepsHalt h
  | symAeadEncrypt _ => exact runVerb_inHalt _ _ aeadEncrypt_keepsHalt h
  | symAeadDecrypt _ => exact runVerb_inHalt _ _ aeadDecrypt_keepsHalt h
  | symCipherEncrypt _ => exact runVerb_inHalt _ _ (cipher_keepsHalt _) h
  | symCipherDecrypt _ => exact runVerb_inHalt _ _ (cipher_keepsHalt _) h
  | symMac _ => exact runVerb_inHalt _ _ symMac_keepsHalt h
  | symMacVerify _ => exact runVerb_inHalt _ _ symMacVerify_keepsHalt h
  | symWrap _ => exact runVerb_inHalt _ _ symWrap_keepsHalt h
  | symUnwrap _ => exact runVerb_inHalt _ _ symUnwrap_keepsHalt h
  | rngGenerate _ => exact runVerb_inHalt _ _ rngGenerate_keepsHalt h
  | rngKat _ => exact runVerb_inHalt _ _ rngKat_keepsHalt h
  | rngRaw _ => exact runVerb_inHalt _ _ rngRaw_keepsHalt h
  | frmSend _ => exact runVerb_inHalt _ _ frmSend_keepsHalt h
  | frmSendEgress j => exact execFrmSendEgress_inHalt j s h
  | frmSubscribe _ => exact runVerb_inHalt _ _ (frmChecked_keepsHalt _) h
  | frmUnsubscribe _ => exact runVerb_inHalt _ _ (frmChecked_keepsHalt _) h
  | frmPortSet _ => exact runVerb_inHalt _ _ (frmChecked_keepsHalt _) h
  | frmStreamSet _ => exact runVerb_inHalt _ _ (frmChecked_keepsHalt _) h
  | frmStreamClear _ => exact runVerb_inHalt _ _ (frmChecked_keepsHalt _) h
  | frmKeySet _ => exact runVerb_inHalt _ _ (frmChecked_keepsHalt _) h
  | frmStreamRelease _ => exact runVerb_inHalt _ _ frmStreamRelease_keepsHalt h
  | frmStreamStatus _ => exact runVerb_inHalt _ _ frmStreamStatus_keepsHalt h
  | frmHarvestSet _ => exact runVerb_inHalt _ _ (frmChecked_keepsHalt _) h
  | frmHarvestStatus _ => exact runVerb_inHalt _ _ frmHarvestStatus_keepsHalt h
  | timeRead _ => exact runVerb_inHalt _ _ timeRead_keepsHalt h
  | timeSet _ => exact runVerb_inHalt _ _ timeSet_keepsHalt h
  | jrnlRead _ => exact runVerb_inHalt _ _ jrnlRead_keepsHalt h
  | jrnlCheckpoint _ => exact runVerb_inHalt _ _ jrnlCheckpoint_keepsHalt h
  | jrnlMirrorSet _ => exact runVerb_inHalt _ _ jrnlMirrorSet_keepsHalt h
  | jrnlBtnRead _ => exact runVerb_inHalt _ _ jrnlBtnRead_keepsHalt h
  | jrnlBtnList _ => exact runVerb_inHalt _ _ jrnlBtnList_keepsHalt h
  | regnTakeOut _ => exact runVerb_inHalt _ _ regnTakeOut_keepsHalt h
  | regnReturn _ => exact runVerb_inHalt _ _ regnReturn_keepsHalt h
  | regnReserveWarm _ => exact runVerb_inHalt _ _ regnReserveWarm_keepsHalt h
  | mgmtFwWrite _ => exact runVerb_inHalt _ _ mgmtFwWrite_keepsHalt h
  | mgmtFwVerify _ => exact runVerb_inHalt _ _ mgmtFwVerify_keepsHalt h
  | mgmtFwActivate _ => exact runVerb_inHalt _ _ mgmtFwActivate_keepsHalt h
  | mgmtFirstHeartbeat => exact execMgmtFirstHeartbeat_inHalt s h
  | activationFallback bad => exact execActivationFallback_inHalt bad s h
  | regionRollStep ms full => exact execRegionRollStep_inHalt ms full s h
  | mgmtFwCommit _ => exact runVerb_inHalt _ _ mgmtFwCommit_keepsHalt h
  | mgmtFwStatus _ => exact runVerb_inHalt _ _ mgmtFwStatus_keepsHalt h
  | mgmtSensors _ => exact runVerb_inHalt _ _ mgmtSensors_keepsHalt h
  | updateAgentTimeout => exact execUpdateAgentTimeout_inHalt s h
  | pldmQueryDeviceIdentifiers pcie => exact execPldmQueryDeviceIdentifiers_inHalt pcie s h
  | pldmGetFirmwareParameters pcie => exact execPldmGetFirmwareParameters_inHalt pcie s h
  | pldmRequestUpdate pcie => exact execPldmRequestUpdate_inHalt pcie s h
  | pldmPassComponentTable pcie last => exact execPldmPassComponentTable_inHalt pcie last s h
  | pldmUpdateComponent pcie kind size => exact execPldmUpdateComponent_inHalt pcie kind size s h
  | pldmRequestFirmwareData pcie data => exact execPldmRequestFirmwareData_inHalt pcie data s h
  | pldmTransferComplete pcie => exact execPldmTransferComplete_inHalt pcie s h
  | pldmVerifyComplete pcie => exact execPldmVerifyComplete_inHalt pcie s h
  | pldmApplyComplete pcie => exact execPldmApplyComplete_inHalt pcie s h
  | pldmActivateFirmware pcie => exact execPldmActivateFirmware_inHalt pcie s h
  | pldmGetStatus pcie => exact execPldmGetStatus_inHalt pcie s h
  | pldmCancelUpdateComponent pcie => exact execPldmCancelUpdateComponent_inHalt pcie s h
  | pldmCancelUpdate pcie => exact execPldmCancelUpdate_inHalt pcie s h
  | spdmRequest doe x => exact execSpdmRequest_inHalt doe x s h
  | mctpControlMessage pcie eid msg => exact execMctpControlMessage_inHalt pcie eid msg s h
  | mctpFaultAck session fseq => exact execMctpFaultAck_inHalt session fseq s h
  | sidebandSummaryRead => exact execSidebandSummaryRead_inHalt s h
  | lifeStatus _ => exact runVerb_inHalt _ _ lifeStatus_keepsHalt h
  | lifeTransition _ _ => exact runVerb_inHalt _ _ (lifeTransition_keepsHalt _) h
  | lifeDebugOpen _ => exact runVerb_inHalt _ _ lifeDebugOpen_keepsHalt h
  | lifeDebugClose _ => exact runVerb_inHalt _ _ lifeDebugClose_keepsHalt h
  | debugWindowEnd => exact execDebugWindowEnd_inHalt s h
  | tampTest _ _ => exact runVerb_inHalt _ _ (tampTest_keepsHalt _) h
  | tampErase _ => exact runVerb_inHalt _ _ tampErase_keepsHalt h
  | cardStatus _ => exact runVerb_inHalt _ _ cardStatus_keepsHalt h
  | cardFormat _ => exact runVerb_inHalt _ _ cardFormat_keepsHalt h
  | cardExport _ => exact runVerb_inHalt _ _ cardExport_keepsHalt h
  | cardList _ => exact runVerb_inHalt _ _ cardList_keepsHalt h
  | cardImportKum _ => exact runVerb_inHalt _ _ cardImportKum_keepsHalt h
  | custRun _ => exact runVerb_inHalt _ _ custRun_keepsHalt h
  | custLoad _ => exact runVerb_inHalt _ _ custLoad_keepsHalt h
  | custUnload _ => exact runVerb_inHalt _ _ custUnload_keepsHalt h
  | custList _ => exact runVerb_inHalt _ _ custList_keepsHalt h
  | custPartitionReload r p => exact execCustPartitionReload_inHalt r p s h
  | mailboxDoorbell ii v => exact execMailboxDoorbell_inHalt ii v s h
  | mailboxBufferWrite ii o v => exact execMailboxBufferWrite_inHalt ii o v s h
  | mailboxRequestDone ii => exact execMailboxRequestDone_inHalt ii s h
  | mailboxHoldRelease j => exact execMailboxHoldRelease_inHalt j s h
  | sqEnable ii q => exact execSqEnable_inHalt ii q s h
  | cqEnable ii c => exact execCqEnable_inHalt ii c s h
  | sqDoorbell ii q v => exact execSqDoorbell_inHalt ii q v s h
  | cqDoorbell ii c v => exact execCqDoorbell_inHalt ii c v s h
  | queueFetch ans => exact execQueueFetch_inHalt ans s h
  | jseqReserveComplete => exact execJseqReserveComplete_inHalt s h
  | jobSend j => exact execJobSend_inHalt j s h
  | regionAck j => exact execRegionAck_inHalt j s h
  | jobDispatch j => exact execJobDispatch_inHalt j s h
  | panWakeComplete r p => exact execPanWakeComplete_inHalt r p s h
  | panAdmit r p => exact execPanAdmit_inHalt r p s h
  | powerSample mw => exact execPowerSample_inHalt mw s h
  | resourceFreedDispatch j => exact execResourceFreedDispatch_inHalt j s h
  | shelfMissBlobArrival j blob => exact execShelfMissBlobArrival_inHalt j blob s h
  | crystallizerFillComplete r => exact execCrystallizerFillComplete_inHalt r s h
  | jobYield j => exact execJobYield_inHalt j s h
  | digestQuantumExpiry j => exact execDigestQuantumExpiry_inHalt j s h
  | numberQuantumExpiry j => exact execNumberQuantumExpiry_inHalt j s h
  | symQuantumExpiry j => exact execSymQuantumExpiry_inHalt j s h
  | jobResume j => exact execJobResume_inHalt j s h
  | releaseCheckDone j pass => exact execReleaseCheckDone_inHalt j pass s h
  | jobResultReturn j => exact execJobResultReturn_inHalt j s h
  | batchTimerExpiry => exact execBatchTimerExpiry_inHalt s h
  | coalesceTimerExpiry ii c => exact execCoalesceTimerExpiry_inHalt ii c s h
  | checkpointDue => exact execCheckpointDue_inHalt s h
  | checkpointSigned => exact execCheckpointSigned_inHalt s h
  | flrStart ii => exact execFlrStart_inHalt ii s h
  | regionGenerationReport ii r => exact execRegionGenerationReport_inHalt ii r s h
  | wrapDrainTimeout ii => exact execWrapDrainTimeout_inHalt ii s h
  | flrComplete ii => exact execFlrComplete_inHalt ii s h
  | pcieHotReset => exact execPcieHotReset_inHalt s h
  | vfEnableSet n => exact execVfEnableSet_inHalt n s h
  | vfEnableClear => exact execVfEnableClear_inHalt s h
  | atsInvalidationRequest ii page size => exact execAtsInvalidationRequest_inHalt ii page size s h
  | ideStreamFailure n => exact execIdeStreamFailure_inHalt n s h
  | instAdmReassign ii => exact execInstAdmReassign_inHalt ii s h
  | instAdmClrEnergy ii => exact execInstAdmClrEnergy_inHalt ii s h
  | instAdmQuotaWrite ii w v => exact execInstAdmQuotaWrite_inHalt ii w v s h
  | instAdmCfgWrite ii v => exact execInstAdmCfgWrite_inHalt ii v s h
  | instXlatClr ii => exact execInstXlatClr_inHalt ii s h
  | vltHcapWrite v => exact execVltHcapWrite_inHalt v s h
  | slotLenWrite r p v => exact execSlotLenWrite_inHalt r p v s h
  | slotLengthApply r p => exact execSlotLengthApply_inHalt r p s h
  | slotInspectRead r offset => exact execSlotInspectRead_inHalt r offset s h
  | clrCounts r shelf => exact execClrCounts_inHalt r shelf s h
  | digWinClaim firmware => exact execDigWinClaim_inHalt firmware s h
  | digWinData firmware part v => exact execDigWinData_inHalt firmware part v s h
  | digWinLast firmware valid token => exact execDigWinLast_inHalt firmware valid token s h
  | digWinRelease firmware token => exact execDigWinRelease_inHalt firmware token s h
  | digWinTimeout => exact execDigWinTimeout_inHalt s h
  | timNowRead => exact execTimNowRead_inHalt s h
  | timCfgWrite v => exact execTimCfgWrite_inHalt v s h
  | timeAlarmFire b => exact execTimeAlarmFire_inHalt b s h
  | sourceQualified x => exact execSourceQualified_inHalt x s h
  | sourceLost x => exact execSourceLost_inHalt x s h
  | lockAchieved => exact execLockAchieved_inHalt s h
  | holdoverExpiry => exact execHoldoverExpiry_inHalt s h
  | ptpMessageReceive p domain msg interval off err utc l61 l59 =>
      exact execPtpMessageReceive_inHalt p domain msg interval off err utc l61 l59 s h
  | irigFrameReceive ok off err utc l61 l59 => exact execIrigFrameReceive_inHalt ok off err utc l61 l59 s h
  | ppsInEdge => exact execPpsInEdge_inHalt s h
  | leapSecondBoundary => exact execLeapSecondBoundary_inHalt s h
  | ppsOutPulse => exact execPpsOutPulse_inHalt s h
  | frameReceive p b fcs fault => exact execFrameReceive_inHalt p b fcs fault s h
  | frameEgress p => exact execFrameEgress_inHalt p s h
  | streamSilenceExpiry n => exact execStreamSilenceExpiry_inHalt n s h
  | rateSecondBoundary => exact execRateSecondBoundary_inHalt s h
  | quarantineHoldExpiry n => exact execQuarantineHoldExpiry_inHalt n s h
  | timeAllowedToLiveExpiry n => exact execTimeAllowedToLiveExpiry_inHalt n s h
  | frameRingEnable ii n v => exact execFrameRingEnable_inHalt ii n v s h
  | frameRingDoorbell ii n v => exact execFrameRingDoorbell_inHalt ii n v s h
  | harvestWindowClose n => exact execHarvestWindowClose_inHalt n s h
  | harvestSealDone n w => exact execHarvestSealDone_inHalt n w s h
  | harvestVerifyDone n => exact execHarvestVerifyDone_inHalt n s h
  | assemblyTimeout n => exact execAssemblyTimeout_inHalt n s h
  | pendingFrameTimeout n => exact execPendingFrameTimeout_inHalt n s h
  | noiseWindowComplete r rct apt => exact execNoiseWindowComplete_inHalt r rct apt s h
  | seedConditioned r => exact execSeedConditioned_inHalt r s h
  | reseedDue r => exact execReseedDue_inHalt r s h
  | expanderGenerate r => exact execExpanderGenerate_inHalt r s h
  | randomDrawServed r => exact execRandomDrawServed_inHalt r s h
  | randomDrawTimeout j => exact execRandomDrawTimeout_inHalt j s h
  | donorSeedWrap asker => exact execDonorSeedWrap_inHalt asker s h
  | borrowedSeedArrival r ok => exact execBorrowedSeedArrival_inHalt r ok s h
  | seedRequestRetry r => exact execSeedRequestRetry_inHalt r s h
  | borrowAdvanceDue r => exact execBorrowAdvanceDue_inHalt r s h
  | sourceRestartDone r pass => exact execSourceRestartDone_inHalt r pass s h
  | rngStartupComplete r => exact execRngStartupComplete_inHalt r s h
  | maskSeedArrival r p => exact execMaskSeedArrival_inHalt r p s h
  | maskStreamLockstepFault r p => exact execMaskStreamLockstepFault_inHalt r p s h
  | rootReady => exact execRootReady_inHalt s h
  | eccError a corrected => exact execEccError_inHalt a corrected s h
  | dupMismatch r k n pair => exact execDupMismatch_inHalt r k n pair s h
  | seqCheckFault r k n => exact execSeqCheckFault_inHalt r k n s h
  | panWatchdogTrip r p => exact execPanWatchdogTrip_inHalt r p s h
  | selfTestResult q pass => exact execSelfTestResult_inHalt q pass s h
  | sluiceExpiry q => exact execSluiceExpiry_inHalt q s h
  | fltAck n => exact execFltAck_inHalt n s h
  | fltInject v => exact execFltInject_inHalt v s h
  | disturbance u => exact execDisturbance_inHalt u s h
  | disturbanceClear u ns => exact execDisturbanceClear_inHalt u ns s h
  | tamperAlarm us partner => exact execTamperAlarm_inHalt us partner s h
  | eraseEvidenceBurn => exact execEraseEvidenceBurn_inHalt s h
  | zeroizeNAssert ns => exact execZeroizeNAssert_inHalt ns s h
  | tampInAssert n high ns => exact execTampInAssert_inHalt n high ns s h
  | monitorStimulation responds => exact execMonitorStimulation_inHalt responds s h
  | vbatLow mv => exact execVbatLow_inHalt mv s h
  | pwrgdMainRise straps b => exact execPwrgdMainRise_inHalt straps b s h
  | vbatApplied => exact execVbatApplied_inHalt s h
  | vbatLost => exact execVbatLost_inHalt s h
  | wakeNLow ns b => exact execWakeNLow_inHalt ns b s h
  | pcieLinkWake b => exact execPcieLinkWake_inHalt b s h
  | selfTestComplete apex => exact execSelfTestComplete_inHalt apex s h
  | regionDrained r => exact execRegionDrained_inHalt r s h
  | drainTimeout r => exact execDrainTimeout_inHalt r s h
  | regionTestingDone r pass => exact execRegionTestingDone_inHalt r pass s h
  | regionLoadingDone r oks => exact execRegionLoadingDone_inHalt r oks s h
  | regionRejoinDone r => exact execRegionRejoinDone_inHalt r s h
  | pointWrite r v => exact execPointWrite_inHalt r v s h
  | pointSwitchDone r mv ok => exact execPointSwitchDone_inHalt r mv ok s h
  | panIdleTimeout r p => exact execPanIdleTimeout_inHalt r p s h
  | panNapTimeout r p => exact execPanNapTimeout_inHalt r p s h
  | linkRetry r => exact execLinkRetry_inHalt r s h
  | linkLaneFailure r m => exact execLinkLaneFailure_inHalt r m s h
  | rakePass r finished err => exact execRakePass_inHalt r finished err s h
  | agingEvaluation r target slack ok => exact execAgingEvaluation_inHalt r target slack ok s h
  | thermalThreshold die level up => exact execThermalThreshold_inHalt die level up s h
  | heartbeatLapse => exact execHeartbeatLapse_inHalt s h
  | watchdogReset => exact execWatchdogReset_inHalt s h
  | skanelLockstepMismatch => exact execSkanelLockstepMismatch_inHalt s h
  | bitternSlotWritten => exact execBitternSlotWritten_inHalt s h
  | cardInsert ns blocks hdr recs init mode phase => exact execCardInsert_inHalt ns blocks hdr recs init mode phase s h
  | cardRemove ns => exact execCardRemove_inHalt ns s h
  | cardEject => exact execCardEject_inHalt s h
  | cardBusyEnd => exact execCardBusyEnd_inHalt s h
  | cardBusyTimeout => exact execCardBusyTimeout_inHalt s h
  | badAccess fn a size write => exact execBadAccess_inHalt fn a size write s h
  | registerWrite fn a wide v => exact execRegisterWrite_inHalt fn a wide v s h
  | kInterruptEntry c n => exact execKInterruptEntry_inHalt c n s h
  | custYield c => exact execCustYield_inHalt c s h
  | safePointWatchdogTrip c maxUs => exact execSafePointWatchdogTrip_inHalt c maxUs s h
  | seqStep c => exact execSeqStep_inHalt c s h
  | seqBranch c => exact execSeqBranch_inHalt c s h
  | seqCall c => exact execSeqCall_inHalt c s h
  | seqRet c => exact execSeqRet_inHalt c s h
  | seqRun c => exact execSeqRun_inHalt c s h
  | seqEnd c => exact execSeqEnd_inHalt c s h
  | seqFail c => exact execSeqFail_inHalt c s h
  | kAluOp _ _ _ => exact kexec_inHalt _ _ _ _ _ _ h
  | kMulU _ _ _ => exact kexec_inHalt _ _ _ _ _ _ h
  | kMulS _ _ _ => exact kexec_inHalt _ _ _ _ _ _ h
  | kMacU _ _ _ => exact kexec_inHalt _ _ _ _ _ _ h
  | kLd _ _ _ => exact kexec_inHalt _ _ _ _ _ _ h
  | kSt _ _ _ => exact kexec_inHalt _ _ _ _ _ _ h
  | kLda _ _ _ => exact kexec_inHalt _ _ _ _ _ _ h
  | kSta _ _ _ => exact kexec_inHalt _ _ _ _ _ _ h
  | kBranch _ _ _ => exact kexec_inHalt _ _ _ _ _ _ h
  | kJmp _ _ _ => exact kexec_inHalt _ _ _ _ _ _ h
  | kCall _ _ _ => exact kexec_inHalt _ _ _ _ _ _ h
  | kJmpr _ _ _ => exact kexec_inHalt _ _ _ _ _ _ h
  | kCallr _ _ _ => exact kexec_inHalt _ _ _ _ _ _ h
  | kRet _ _ _ => exact kexec_inHalt _ _ _ _ _ _ h
  | kLoop _ _ _ => exact kexec_inHalt _ _ _ _ _ _ h
  | kRep c stall w w2 => exact execKRep_inHalt c stall w w2 s h
  | kRepi c stall w w2 => exact execKRepi_inHalt c stall w w2 s h
  | kFpOp _ _ _ => exact kexec_inHalt _ _ _ _ _ _ h
  | kPackedOp _ _ _ => exact kexec_inHalt _ _ _ _ _ _ h
  | kFldD _ _ _ => exact kexec_inHalt _ _ _ _ _ _ h
  | kFstD _ _ _ => exact kexec_inHalt _ _ _ _ _ _ h
  | kSetvl _ _ _ => exact kexec_inHalt _ _ _ _ _ _ h
  | kVectorArith _ _ _ => exact kexec_inHalt _ _ _ _ _ _ h
  | kVld _ _ _ => exact kexec_inHalt _ _ _ _ _ _ h
  | kVldFirstFault _ _ _ => exact kexec_inHalt _ _ _ _ _ _ h
  | kVst _ _ _ => exact kexec_inHalt _ _ _ _ _ _ h
  | kVectorMove _ _ _ => exact kexec_inHalt _ _ _ _ _ _ h
  | kDatapathCommand _ _ _ => exact kexec_inHalt _ _ _ _ _ _ h
  | kCtlrd _ _ _ => exact kexec_inHalt _ _ _ _ _ _ h
  | kCtlwr _ _ _ => exact kexec_inHalt _ _ _ _ _ _ h
  | kCtlset _ _ _ => exact kexec_inHalt _ _ _ _ _ _ h
  | kCtlclr _ _ _ => exact kexec_inHalt _ _ _ _ _ _ h
  | kFence _ _ _ => exact kexec_inHalt _ _ _ _ _ _ h
  | kWfi _ _ _ => exact kexec_inHalt _ _ _ _ _ _ h
  | kRete _ _ _ => exact kexec_inHalt _ _ _ _ _ _ h
  | kTrap _ _ _ => exact kexec_inHalt _ _ _ _ _ _ h
  | kBreak _ _ _ => exact kexec_inHalt _ _ _ _ _ _ h
  | kPairedWord _ _ _ => exact kexec_inHalt _ _ _ _ _ _ h
  | tapExtest pins tdi => exact execTapExtest_inHalt pins tdi s h
  | tapSamplePreload pins tdi => exact execTapSamplePreload_inHalt pins tdi s h
  | tapIdcode => exact execTapIdcode_inHalt s h
  | tapHighz pins tdi => exact execTapHighz_inHalt pins tdi s h
  | tapClamp pins tdi => exact execTapClamp_inHalt pins tdi s h
  | tapExtestPulse pins tdi => exact execTapExtestPulse_inHalt pins tdi s h
  | tapExtestTrain pins tdi => exact execTapExtestTrain_inHalt pins tdi s h
  | tapLcStatus => exact execTapLcStatus_inHalt s h
  | tapDbgAuth b => exact execTapDbgAuth_inHalt b s h
  | tapDbgClose => exact execTapDbgClose_inHalt s h
  | tapDbgRead x => exact execTapDbgRead_inHalt x s h
  | tapDbgWrite fn a v => exact execTapDbgWrite_inHalt fn a v s h
  | tapDbgHalt c o => exact execTapDbgHalt_inHalt c o s h
  | tapDbgRun c n args ins => exact execTapDbgRun_inHalt c n args ins s h
  | tapFtScan tdi => exact execTapFtScan_inHalt tdi s h
  | tapFtBist tdi => exact execTapFtBist_inHalt tdi s h
  | tapFtFuse x => exact execTapFtFuse_inHalt x s h
  | tapBypass tdi => exact execTapBypass_inHalt tdi s h
  | regionSramWiped r => exact execRegionSramWiped_inHalt r s h
  | perstNDeassert => exact execPerstNDeassert_inHalt s h
  | framePortLinkChange p up => exact execFramePortLinkChange_inHalt p up s h
  | tcxoToleranceChange ok => exact execTcxoToleranceChange_inHalt ok s h
  | lmsNextTreeReady id => exact execLmsNextTreeReady_inHalt id s h
  | stimulationWindowEnd u alarm => exact execStimulationWindowEnd_inHalt u alarm s h
  | errorPairPhaseToggle => exact execErrorPairPhaseToggle_inHalt s h
  | hostMemoryCompletion u a => exact execHostMemoryCompletion_inHalt u a s h
  | cardCommandResponse ok => exact execCardCommandResponse_inHalt ok s h
  | digWinCompressionDone => exact execDigWinCompressionDone_inHalt s h
  | pwrgdMainFall => cases hi
  | pwrgdAonFall => cases hi
  | perstNAssert _ => cases hi

theorem endsHalt_iff (i : Instr) :
    endsHalt i = true ↔ (∃ b, i = .perstNAssert b) ∨ i = .pwrgdMainFall ∨ i = .pwrgdAonFall := by
  constructor
  · intro h
    unfold endsHalt at h
    split at h
    · exact .inl ⟨_, rfl⟩
    · exact .inr (.inl rfl)
    · exact .inr (.inr rfl)
    · cases h
  · rintro (⟨b, rfl⟩ | rfl | rfl) <;> rfl

theorem idle_inHalt (s : State) (h : s.pkg.inHalt) : (idle s).pkg.inHalt := by
  unfold idle countTick
  split
  · split
    · exact h
    · exact h
  · exact h

/-- Settles O3: HALT with main power is kept by every command but the three, command by command, and by a step with none waiting. -/
theorem haltLasts : Obligations.HaltLasts := by
  unfold Obligations.HaltLasts
  intro s t hh hm hs
  have h : s.pkg.inHalt := ⟨hh, hm⟩
  unfold step at hs
  split at hs
  next i rest e =>
    by_cases hi : endsHalt i = true
    · exact .inr ⟨i, by rw [e]; rfl, (endsHalt_iff i).1 hi⟩
    · have stays := exec_staysInHalt i { s with pending := rest } h (by simpa using hi)
      rw [hs] at stays
      exact .inl stays
  · cases hs
    exact .inl (idle_inHalt s h)

end Sys2Proof.Machine
end

section
/-! PROOFS. Power, and the end of SELF_TEST (O59): what the freeze of the bittern area and the card's power-down leave, then the fall of
each supply. -/

namespace Sys2Proof.Machine

section Freeze
variable (s : State)

/-- Every field but the bittern area and the free draws is the same. -/
def SameButBtn (s t : State) : Prop := t = { s with btn := t.btn, free := t.free }

theorem btnEvent_same (src ev a0 a1 : Nat) : SameButBtn s (btnEvent src ev a0 a1 s) := by
  unfold btnEvent
  dsimp only
  split
  · split
    · rfl
    · rfl
  · rfl

theorem addedEvent_same (ev : Nat) : SameButBtn s (addedEvent ev s) := btnEvent_same _ _ _ _ _

/-- A freeze touches the bittern area alone (R454). -/
theorem freezeBtn_same (ev : Nat) (cp : Option Checkpoint) : SameButBtn s (freezeBtn ev cp s) := by
  unfold freezeBtn
  split
  · rfl
  · have h := addedEvent_same s ev
    unfold SameButBtn at h ⊢
    dsimp only
    rw [h]
    rfl

theorem freezeBtn_frozen (ev : Nat) (cp : Option Checkpoint) : (freezeBtn ev cp s).btn.freeze.isSome = true := by
  unfold freezeBtn
  split
  next z hz => exact (congrArg Option.isSome hz).trans rfl
  · rfl

@[simp] theorem freezeBtn_vault (ev : Nat) (cp : Option Checkpoint) : (freezeBtn ev cp s).vault = s.vault := by rw [freezeBtn_same]
@[simp] theorem freezeBtn_life (ev : Nat) (cp : Option Checkpoint) : (freezeBtn ev cp s).life = s.life := by rw [freezeBtn_same]
@[simp] theorem freezeBtn_tamper (ev : Nat) (cp : Option Checkpoint) : (freezeBtn ev cp s).tamper = s.tamper := by rw [freezeBtn_same]

end Freeze

section CardDown
variable {γ : Type} (g : State → γ)

/-- What a change of the card port and the end of a command leave, the card's power-down leaves (R515). -/
theorem cardDown_keeps (hc : ∀ s f, g (s.modCard f) = g s) (hf : ∀ j r s, g (finish j r s) = g s) (s : State) :
    g (cardDown s) = g s := by
  have ended (r : Res) (s : State) : g (endCard r s) = g s := by
    unfold endCard
    split
    · rfl
    · dsimp only
      split
      · rw [hc, hf, hc]
      · rw [hf, hc]
  unfold cardDown
  dsimp only
  rw [hc]
  split
  · rfl
  · split
    · exact ended _ s
    · rw [ended, hc]

end CardDown

section Finish
variable (s : State) (j : Nat) (r : Res)

@[simp] theorem finish_btn : (finish j r s).btn = s.btn := by simp [finish]
@[simp] theorem finish_life : (finish j r s).life = s.life := by simp [finish]
@[simp] theorem finish_tamper : (finish j r s).tamper = s.tamper := by simp [finish]

theorem freeSlots_vault : (freeSlots j s).vault = s.vault := by
  have wiped (q : Nat) (u : UnitKind × Nat) (s : State) : (wipeLocal q u s).vault = s.vault := by
    unfold wipeLocal
    split <;> rfl
  unfold freeSlots
  split
  · rfl
  · dsimp only
    rw [foldl_keeps (·.vault) _ fun s q => foldl_keeps (·.vault) _ (fun s u => wiped q u s) _ s]
    exact foldl_keeps (·.vault) _ (fun s x => State.modPan_vault s _ _ _) _ s

theorem settleUnits_epoch : (settleUnits s).vault.epoch = s.vault.epoch := by
  unfold settleUnits settleShelf
  dsimp only
  rw [settleCryst_same, restPans_same, SameButRegions.foldl s _ (fun s r => takeWarm_same s r) _]

theorem finish_epoch : (finish j r s).vault.epoch = s.vault.epoch := by
  unfold finish
  rw [settleUnits_epoch, State.modProg_vault, freeSlots_vault]

end Finish

section CardDownFields
variable (s : State)

@[simp] theorem cardDown_btn : (cardDown s).btn = s.btn :=
  cardDown_keeps (·.btn) State.modCard_btn (fun j r s => finish_btn s j r) s
@[simp] theorem cardDown_life : (cardDown s).life = s.life :=
  cardDown_keeps (·.life) State.modCard_life (fun j r s => finish_life s j r) s
@[simp] theorem cardDown_tamper : (cardDown s).tamper = s.tamper :=
  cardDown_keeps (·.tamper) State.modCard_tamper (fun j r s => finish_tamper s j r) s
@[simp] theorem cardDown_epoch : (cardDown s).vault.epoch = s.vault.epoch :=
  cardDown_keeps (·.vault.epoch) (fun _ _ => rfl) (fun j r s => finish_epoch s j r) s

end CardDownFields

/-! ### The supplies -/

/-- What stands after main power falls is the restarted package in OFF or BACKUP (R30, R496). -/
theorem powerDown_main {s : State} (h : s.pkg.mode.mainPower = true) :
    powerDown s = timeCoarse (((restart (cardDown (freezeBtn evPowerFail none s))).modLcs
      fun l => { l with tapIr := 2, boundary := [] }).modPkg
      fun p => { p with mode := if s.pkg.vbat then .backup else .off, pwrgdMain := false, booting := false, halted := false,
                        wakePull := false }) := by
  unfold powerDown
  rw [if_pos h]

/-- The package after a fall of main power from `s`: every volatile store is empty; the OTP and its counters stay (R30, R496). -/
structure PoweredDown (s t : State) : Prop where
  mode : t.pkg.mode = if s.pkg.vbat then .backup else .off
  pwrgdMain : t.pkg.pwrgdMain = false
  cmds : t.cmds = []
  insts : t.insts = []
  shelf : ∀ e ∈ t.regions, e.2.shelf = []
  handles : t.vault.handles = []
  otp : t.life.otp = s.life.otp
  card : t.card.powered = false
  epoch : t.vault.epoch = s.vault.epoch

theorem restart_shelf (s : State) : ∀ e ∈ (restart s).regions, e.2.shelf = [] := by
  change ∀ e ∈ State.reset.regions, e.2.shelf = []
  decide

theorem powerDown_poweredDown {s : State} (h : s.pkg.mode.mainPower = true) : PoweredDown s (powerDown s) := by
  rw [powerDown_main h]
  exact {
    mode := rfl
    pwrgdMain := rfl
    cmds := rfl
    insts := rfl
    shelf := restart_shelf (cardDown (freezeBtn evPowerFail none s))
    handles := rfl
    otp := (congrArg Life.otp (cardDown_life _)).trans (congrArg Life.otp (freezeBtn_life s _ _))
    card := rfl
    epoch := (cardDown_epoch _).trans (congrArg Vault.epoch (freezeBtn_vault s _ _)) }

theorem powerDown_freeze {s : State} (h : s.pkg.mode.mainPower = true) : (powerDown s).btn.freeze.isSome = true := by
  rw [powerDown_main h]
  change (cardDown (freezeBtn evPowerFail none s)).btn.freeze.isSome = true
  rw [cardDown_btn]
  exact freezeBtn_frozen s _ _

theorem powerDown_pkgKept {s : State} (h : s.pkg.mode.mainPower = true) :
    (powerDown s).pkg.batteryKey = s.pkg.batteryKey ∧ (powerDown s).pkg.vbat = s.pkg.vbat := by
  have kept : (cardDown (freezeBtn evPowerFail none s)).pkg = s.pkg := by rw [cardDown_pkg, freezeBtn_pkg]
  have hkey := congrArg Pkg.batteryKey kept
  have hvbat := congrArg Pkg.vbat kept
  rw [powerDown_main h]
  exact ⟨hkey, hvbat⟩

theorem powerDown_latched {s : State} (h : s.pkg.mode.mainPower = true) : (powerDown s).tamper.latched = s.tamper.latched := by
  rw [powerDown_main h]
  change (cardDown (freezeBtn evPowerFail none s)).tamper.latched = s.tamper.latched
  rw [cardDown_tamper, freezeBtn_tamper]

/-- A fall of VDD_AON leaves every volatile store as it was. -/
theorem loseAon_poweredDown {s t : State} (h : PoweredDown s t) : PoweredDown s (loseAon t) := by
  obtain ⟨hmode, hmain, hcmds, hinsts, hshelf, hhandles, hotp, hcard, hepoch⟩ := h
  unfold loseAon
  dsimp only
  split
  · exact ⟨hmode, hmain, hcmds, hinsts, hshelf, hhandles, hotp, hcard, hepoch⟩
  · exact ⟨hmode, hmain, hcmds, hinsts, hshelf, hhandles, hotp, hcard, hepoch⟩

theorem loseAon_aon (t : State) : (loseAon t).pkg.pwrgdAon = false ∧ (loseAon t).time.armed = false := by
  unfold loseAon
  dsimp only
  split
  · exact ⟨rfl, rfl⟩
  · exact ⟨rfl, rfl⟩

/-- With VBAT the backup domain stays (R507). -/
theorem loseAon_vbat {t : State} (h : t.pkg.vbat = true) : (loseAon t).btn.freeze = t.btn.freeze ∧
    (loseAon t).pkg.batteryKey = t.pkg.batteryKey ∧ (loseAon t).tamper = t.tamper := by
  unfold loseAon
  rw [if_pos h]
  exact ⟨rfl, rfl, rfl⟩

/-- Without VBAT the backup domain is lost (R454, R507). -/
theorem loseAon_noVbat {t : State} (h : t.pkg.vbat = false) :
    (loseAon t).tamper.backupLost = true ∧ (loseAon t).pkg.batteryKey = none ∧ (loseAon t).btn.freeze = none := by
  unfold loseAon
  rw [if_neg (by simp [h])]
  exact ⟨rfl, rfl, rfl⟩

/-! ### The end of SELF_TEST -/

theorem setMode_mode (m : Mode) (s : State) : (setMode m s).pkg.mode = m := by
  unfold setMode
  split
  next h => exact h
  · rw [journalEvent_pkg]
    rfl

theorem doHalt_pkg (s : State) : (doHalt s).pkg = { s.pkg with halted := true } := by
  unfold doHalt doHaltAs
  split
  next h => rw [freezeBtn_pkg, ← h]
  · change { (freezeBtn evHalt _ s).pkg with halted := true } = _
    rw [freezeBtn_pkg]

/-- A record changes of the package no more than HALTED (R437, R438). -/
theorem record_mode (x : Raise) (c : FClass) (s : State) : (record x c s).2.pkg.mode = s.pkg.mode := by
  unfold record
  dsimp only
  split
  · rw [putRecord_pkg]
  · split
    · rw [doHalt_pkg, putUnheld_pkg]
    · split
      · rw [putUnheld_pkg]
      · rfl

theorem raiseHalt_halted (x : Raise) (s : State) : (raiseHalt x s).pkg.halted = true ∧ (raiseHalt x s).pkg.mode = s.pkg.mode := by
  unfold raiseHalt
  rw [doHalt_pkg]
  exact ⟨rfl, record_mode x .halt s⟩

/-! ### A journal entry -/

section Journal
variable (s : State)

/-- Every field but the journal, the bittern area and the outward actions is the same. -/
def SameButJournal (s t : State) : Prop := t = { s with jrn := t.jrn, btn := t.btn, out := t.out }

theorem SameButJournal.trans {s t u : State} (h : SameButJournal s t) (k : SameButJournal t u) : SameButJournal s u := by
  unfold SameButJournal at *
  rw [k, h]

theorem modJrn_same (f : Journal → Journal) : SameButJournal s (s.modJrn f) := rfl

theorem takeJseq_same : SameButJournal s (takeJseq s).2 := by
  unfold takeJseq reserveIfDue
  dsimp only
  split <;> rfl

theorem hostWrite_same (i addr : Nat) (b : List Byte) (x : Bool) : SameButJournal s (hostWrite i addr b x s) := by
  unfold hostWrite askPage
  split
  · rfl
  · split <;> rfl

theorem appendEntry_same (e : JEntry) : SameButJournal s (appendEntry e s) := by
  unfold appendEntry mirrorEntry
  dsimp only
  split
  · exact (modJrn_same s _).trans (hostWrite_same _ _ _ _ _)
  · rfl

theorem journalEvent_same (ev a0 a1 : Nat) (rgn : Option Nat) (i : Nat) : SameButJournal s (journalEvent ev a0 a1 rgn i s) := by
  have bittern (src : Nat) (t : State) : SameButJournal t (btnEvent src ev a0 a1 t) := by
    unfold btnEvent
    dsimp only
    split
    · split <;> rfl
    · rfl
  exact ((takeJseq_same s).trans (appendEntry_same _ _)).trans (bittern _ _)

@[simp] theorem journalEvent_regions (ev a0 a1 : Nat) (rgn : Option Nat) (i : Nat) :
    (journalEvent ev a0 a1 rgn i s).regions = s.regions := by
  rw [journalEvent_same]

end Journal

@[simp] theorem setMode_pkg (m : Mode) (s : State) : (setMode m s).pkg = { s.pkg with mode := m } := by
  unfold setMode
  split
  next h => rw [← h]
  · rw [journalEvent_pkg]
    rfl

@[simp] theorem setMode_regions (m : Mode) (s : State) : (setMode m s).regions = s.regions := by
  unfold setMode
  split
  · rfl
  · rw [journalEvent_regions]
    rfl

/-- Settles O59, supply by supply; then the pins, and the end of SELF_TEST. -/
theorem powerComesAndGoes : Obligations.PowerComesAndGoes := by
  unfold Obligations.PowerComesAndGoes
  intro s b apex Gone
  have gone (t : State) (h : PoweredDown s t) : Gone t :=
    ⟨h.mode, h.pwrgdMain, h.cmds, h.insts, h.shelf, h.handles, h.otp, h.card, h.epoch⟩
  refine ⟨fun hm => ⟨?main, fun ha => ?aon⟩, fun hm => ?mainOff, fun ha => ?aonOff, rfl, ?vbatLost, fun hp => ?perstLow,
    fun hp hm => ?perstOff, rfl, fun ht hh => ⟨?fails, fun hr => ?passes, fun hr => ?waits⟩, fun ht => ?elsewhere⟩
  case main =>
    exact ⟨powerDown s, rfl, gone _ (powerDown_poweredDown hm), powerDown_freeze hm, (powerDown_pkgKept hm).1⟩
  case aon =>
    obtain ⟨hkey, hvbat⟩ := powerDown_pkgKept hm
    refine ⟨loseAon (powerDown s), ?_, gone _ (loseAon_poweredDown (powerDown_poweredDown hm)), (loseAon_aon _).1, (loseAon_aon _).2,
      fun hv => ?_, fun hv => ?_⟩
    · change Host.Outcome.next (if s.pkg.pwrgdAon then loseAon (powerDown s) else s) = _
      rw [if_pos ha]
    · obtain ⟨hfreeze, hk, htamper⟩ := loseAon_vbat (hvbat.trans hv)
      rw [hfreeze, hk, htamper]
      exact ⟨powerDown_freeze hm, hkey, powerDown_latched hm⟩
    · exact loseAon_noVbat (hvbat.trans hv)
  case mainOff =>
    change Host.Outcome.next (powerDown s) = _
    rw [powerDown, if_neg (by simp [hm])]
  case aonOff =>
    change Host.Outcome.next (if s.pkg.pwrgdAon then loseAon (powerDown s) else s) = _
    rw [if_neg (by simp [ha])]
  case vbatLost =>
    by_cases hv : (s.pkg.vbat && !s.pkg.pwrgdAon) = true
    · refine ⟨_, congrArg Host.Outcome.next (if_pos hv), rfl, rfl, fun ha => ?_, fun _ _ => ⟨rfl, rfl⟩⟩
      simp [ha] at hv
    · refine ⟨_, congrArg Host.Outcome.next (if_neg hv), rfl, rfl, fun _ => ⟨rfl, rfl⟩, fun h1 h2 => ?_⟩
      simp [h1, h2] at hv
  case perstLow =>
    exact congrArg Host.Outcome.next (if_pos (by simp [hp]))
  case perstOff =>
    exact congrArg Host.Outcome.next ((if_neg (by simp [hp])).trans (if_neg (by simp [hm])))
  case fails =>
    obtain ⟨hhalt, hmode⟩ := raiseHalt_halted { on := apexUnit .apexSram 0xFF, cause := .selfTest } s
    exact ⟨_, congrArg Host.Outcome.next ((if_neg (by simp [ht, hh])).trans (if_pos rfl)), hhalt, hmode.trans ht⟩
  case passes =>
    refine ⟨_, congrArg Host.Outcome.next ((if_neg (by simp [ht, hh])).trans ((if_neg (by simp)).trans (if_pos hr))), ?_, ?_, ?_⟩
    · exact congrArg Pkg.mode (setMode_pkg s.afterTest s)
    · exact setMode_regions s.afterTest s
    · exact (congrArg Pkg.halted (setMode_pkg s.afterTest s)).trans hh
  case waits =>
    exact congrArg Host.Outcome.next ((if_neg (by simp [ht, hh])).trans ((if_neg (by simp)).trans (if_neg (by simp [hr]))))
  case elsewhere =>
    exact congrArg Host.Outcome.next (if_pos (by simp [ht]))

end Sys2Proof.Machine
end
section
/-! PROOFS. The way of a job to its region and its unit (O10): what sending, acknowledgement and dropping make of the command, then what
a dispatch keeps while it takes the key's use, the slots and the unit. -/

namespace Sys2Proof.Machine
open Sys2Proof.Safety

/-! ### A command that is closed -/

section Closed
variable {s : State} {j : Nat} {c : Cmd}

theorem cmd_id (h : s.cmd? j = some c) : c.job.id = j := by
  simpa using List.find?_some h

theorem cmd_dropCmd_self (s : State) (j : Nat) : (s.dropCmd j).cmd? j = none := by
  simp [State.cmd?, State.dropCmd]

theorem enterWaiting_cmds (s : State) : (enterWaiting s).cmds = s.cmds := by
  unfold enterWaiting
  refine foldl_keeps (·.cmds) _ (fun s c => ?_) _ s
  split
  · rfl
  · rfl

theorem drainIfDone_cmds (i : Nat) (s : State) : (drainIfDone i s).cmds = s.cmds := by
  unfold drainIfDone
  split
  · rfl
  · rfl

/-- A command that is closed without a result is gone. -/
theorem cmd_closeGone (st : Status) (c : Cmd) (s : State) : (closeGone st c s).cmd? c.job.id = none := by
  unfold closeGone
  dsimp only
  rw [cmd_congr (drainIfDone_cmds _ _), cmd_congr (enterWaiting_cmds _)]
  exact cmd_dropCmd_self _ _

/-- A job of an older generation is dropped (R103). -/
theorem cmd_dropOld (s : State) (h : c.job.id = j) : (dropOld c s).cmd? j = none := h ▸ cmd_closeGone _ _ _

end Closed

/-! ### Sending and acknowledgement -/

section Sent
variable {s : State} {j : Nat} {c : Cmd}

/-- The command could be sent now. -/
def Sends (s : State) (c : Cmd) : Prop := c.prog.phase = .ready ∧ c.job.has (·.region) = true ∧ s.held c = false ∧
  c.prog.wait ≠ some .object ∧ s.pkg.halted = false

theorem Sends.not_refused (h : Sends s c) : ¬(c.prog.phase ≠ .ready ∨ ¬c.job.has (·.region) = true ∨ s.held c = true ∨
    c.prog.wait = some .object ∨ s.pkg.halted = true) := by
  obtain ⟨hphase, hregion, hheld, hwait, hhalt⟩ := h
  simp [hphase, hregion, hheld, hwait, hhalt]

/-- A job that can be sent goes by its generation (R103), the kept pair (R67) and the region selected (R20). -/
theorem exec_jobSend (hc : s.cmd? j = some c) (h : Sends s c) : exec (.jobSend j) s = .next (
    if !c.job.mbx && !s.current c.job then dropOld c s
    else if s.repeated c.job then fail j .okAlready s
    else match selectRegion s c with
      | none => fail j .noRegion s
      | some r => (if s.demotes c && !c.prog.demoted then s.modInst c.job.inst fun n => { n with demoted := inc32 n.demoted }
          else s).modProg j fun p => { p with phase := .sent, region := some r, demoted := s.demotes c }) := by
  change execJobSend j s = _
  unfold execJobSend
  rw [hc]
  dsimp only
  exact congrArg Host.Outcome.next (if_neg h.not_refused)

theorem exec_regionAck (hc : s.cmd? j = some c) (h : c.prog.phase = .sent) : exec (.regionAck j) s = .next (
    if !c.job.mbx && !s.current c.job then dropOld c s
    else if s.inService c.rgn then s.modProg j fun p => { p with phase := .acked, since := s.tick }
    else s.modProg j fun p => { p with phase := .ready, region := none }) := by
  change execRegionAck j s = _
  unfold execRegionAck
  rw [hc]
  dsimp only
  rw [if_neg (not_not.2 h)]

/-- The job is of the present generation, or of a mailbox. -/
def State.lives (s : State) (c : Cmd) : Prop := c.job.mbx = true ∨ s.current c.job = true

theorem State.lives.not_old (h : s.lives c) : ¬(!c.job.mbx && !s.current c.job) = true := by
  rcases h with h | h
  · simp [h]
  · simp [h]

theorem fail_ended (st : Status) (hc : s.cmd? j = some c) : Ended j c (stRes st) (fail j st s) :=
  ⟨_, none, cmd_finish _ hc, rfl, rfl, rfl⟩

theorem jobSend_selected (hc : s.cmd? j = some c) (h : Sends s c) (hl : s.lives c) (hr : s.repeated c.job = false) {r : Nat}
    (hs : selectRegion s c = some r) : ∃ t d, exec (.jobSend j) s = .next t ∧ t.cmd? j = some d ∧ d.job = c.job ∧
      d.prog.phase = .sent ∧ d.prog.region = some r ∧ d.prog.demoted = s.demotes c := by
  rw [exec_jobSend hc h, if_neg hl.not_old, if_neg (by simp [hr]), hs]
  refine ⟨_, _, rfl, cmd_modProg _ (c := c) ?_, rfl, rfl, rfl, rfl⟩
  split
  · exact hc
  · exact hc

theorem jobSend_noRegion (hc : s.cmd? j = some c) (h : Sends s c) (hl : s.lives c) (hr : s.repeated c.job = false)
    (hs : selectRegion s c = none) : ∃ t, exec (.jobSend j) s = .next t ∧ Ended j c (stRes .noRegion) t := by
  rw [exec_jobSend hc h, if_neg hl.not_old, if_neg (by simp [hr]), hs]
  exact ⟨_, rfl, fail_ended _ hc⟩

theorem jobSend_old (hc : s.cmd? j = some c) (h : Sends s c) (ho : (!c.job.mbx && !s.current c.job) = true) :
    ∃ t, exec (.jobSend j) s = .next t ∧ t.cmd? j = none := by
  rw [exec_jobSend hc h, if_pos ho]
  exact ⟨_, rfl, cmd_dropOld s (cmd_id hc)⟩

theorem regionAck_taken (hc : s.cmd? j = some c) (h : c.prog.phase = .sent) (hl : s.lives c) (hs : s.inService c.rgn = true) :
    ∃ t d, exec (.regionAck j) s = .next t ∧ t.cmd? j = some d ∧ d.prog.phase = .acked ∧ d.prog.region = c.prog.region ∧
      d.prog.since = s.tick := by
  rw [exec_regionAck hc h, if_neg hl.not_old, if_pos hs]
  exact ⟨_, _, rfl, cmd_modProg _ hc, rfl, rfl, rfl⟩

theorem regionAck_returned (hc : s.cmd? j = some c) (h : c.prog.phase = .sent) (hl : s.lives c) (hs : s.inService c.rgn = false) :
    ∃ t d, exec (.regionAck j) s = .next t ∧ t.cmd? j = some d ∧ d.prog.phase = .ready ∧ d.prog.region = none := by
  rw [exec_regionAck hc h, if_neg hl.not_old, if_neg (by simp [hs])]
  exact ⟨_, _, rfl, cmd_modProg _ hc, rfl, rfl⟩

theorem regionAck_old (hc : s.cmd? j = some c) (h : c.prog.phase = .sent) (ho : (!c.job.mbx && !s.current c.job) = true) :
    ∃ t, exec (.regionAck j) s = .next t ∧ t.cmd? j = none := by
  rw [exec_regionAck hc h, if_pos ho]
  exact ⟨_, rfl, cmd_dropOld s (cmd_id hc)⟩

end Sent

/-! ### What a dispatch keeps until the job has its unit -/

/-- The tick, the power state of every pan, and of command `j` the job, the region and the parts are the same. -/
structure DispatchKept (j : Nat) (s t : State) : Prop where
  tick : t.tick = s.tick
  pwr : ∀ r p, (t.pan r p).svc.pwr = (s.pan r p).svc.pwr
  cmd : ∀ c, s.cmd? j = some c →
    ∃ d, t.cmd? j = some d ∧ d.job = c.job ∧ d.prog.region = c.prog.region ∧ d.prog.pair = c.prog.pair

section Kept
variable {j : Nat} {s t u : State}

theorem DispatchKept.refl (j : Nat) (s : State) : DispatchKept j s s := ⟨rfl, fun _ _ => rfl, fun c h => ⟨c, h, rfl, rfl, rfl⟩⟩

theorem DispatchKept.trans (h : DispatchKept j s t) (k : DispatchKept j t u) : DispatchKept j s u where
  tick := k.tick.trans h.tick
  pwr r p := (k.pwr r p).trans (h.pwr r p)
  cmd c hc := by
    obtain ⟨d, hd, hjob, hregion, hpair⟩ := h.cmd c hc
    obtain ⟨e, he, hjob', hregion', hpair'⟩ := k.cmd d hd
    exact ⟨e, he, hjob'.trans hjob, hregion'.trans hregion, hpair'.trans hpair⟩

theorem modProg_dispatchKept (s : State) {f : Prog → Prog} (hregion : ∀ p, (f p).region = p.region)
    (hpair : ∀ p, (f p).pair = p.pair) : DispatchKept j s (s.modProg j f) :=
  ⟨rfl, fun _ _ => rfl, fun _ h => ⟨_, cmd_modProg f h, rfl, hregion _, hpair _⟩⟩

theorem modKey_dispatchKept (s : State) (h : U32) (f : KeyRec → KeyRec) : DispatchKept j s (s.modKey h f) :=
  ⟨rfl, fun _ _ => rfl, fun c hc => ⟨c, hc, rfl, rfl, rfl⟩⟩

/-- A change of a region that leaves the power of its pans. -/
theorem modRegion_dispatchKept (s : State) (r : Nat) {f : Region → Region}
    (hf : ∀ g p, (tget pan0 (f g).pans p).svc.pwr = (tget pan0 g.pans p).svc.pwr) : DispatchKept j s (s.modRegion r f) where
  tick := rfl
  cmd c hc := ⟨c, hc, rfl, rfl, rfl⟩
  pwr q p := by
    unfold State.pan
    by_cases hq : q = r
    · subst hq
      rw [State.region_modRegion_self]
      exact hf _ p
    · rw [State.region_modRegion_ne s r q f hq]

theorem modSym_dispatchKept (s : State) (r : Nat) (f : Sym → Sym) : DispatchKept j s (s.modSym r f) :=
  modRegion_dispatchKept s r fun _ _ => rfl

theorem modPan_dispatchKept (s : State) (r p : Nat) {f : Pan → Pan} (hf : ∀ x, (f x).svc = x.svc) :
    DispatchKept j s (s.modPan r p f) := by
  refine modRegion_dispatchKept s r fun g q => ?_
  by_cases hq : q = p
  · subst hq
    simp [Region.modPan, hf]
  · simp [Region.modPan, tget_tset_ne _ _ _ _ _ hq]

/-- Counting a key's use (R240) leaves the place of its job. -/
theorem countUse_dispatchKept (c : Cmd) (k : KeyRec) (n lim : Nat) (s : State) :
    DispatchKept c.job.id s (countUse c k n lim s).2 := by
  unfold countUse
  split
  · exact .refl _ _
  · split
    · exact .refl _ _
    · split
      · exact modKey_dispatchKept _ _ _
      · refine (modKey_dispatchKept s k.handle fun k => { k with usage := k.usage + n }).trans ?_
        exact modProg_dispatchKept _ (f := fun p => { p with counted := true }) (fun _ => rfl) fun _ => rfl

theorem takeSym_dispatchKept (c : Cmd) (r : Nat) (s : State) : DispatchKept c.job.id s (takeSym c r s) := by
  have pond := modProg_dispatchKept (j := c.job.id) s (f := fun p => { p with pond := if p.pond = 0 then pondNeed c.job else p.pond })
    (fun _ => rfl) fun _ => rfl
  have counted (t : State) : DispatchKept c.job.id t (match jobKey s c.job with
      | none => t
      | some k => (countUse c k (symCount c.job).1 (symLimit s c.job) t).2) := by
    split
    · exact .refl _ _
    · exact countUse_dispatchKept _ _ _ _ _
  have demoted (b : Bool) (t : State) : DispatchKept c.job.id t (if b then t.modSym r fun y => { y with demoted := inc32 y.demoted }
      else t) := by
    split
    · exact modSym_dispatchKept _ _ _
    · exact .refl _ _
  unfold takeSym
  dsimp only
  split
  · exact pond
  · exact ((pond.trans (counted _)).trans (demoted _ _)).trans (modProg_dispatchKept _ (fun _ => rfl) fun _ => rfl)

end Kept

/-! ### The start of a job on its unit -/

section Started
variable {j n : Nat} {k : UnitKind} {c d : Cmd} {s t : State}

theorem wakeOther_cmds (c : Cmd) (r p : Nat) (s : State) : (wakeOther c r p s).cmds = s.cmds := by
  unfold wakeOther
  split
  · rfl
  · split
    · split
      · rfl
      · rfl
    · rfl

/-- The command `j` runs on unit `u` since tick `n`. -/
def RunsSince (j : Nat) (u : UnitKind × Nat × Nat) (n : Nat) (t : State) : Prop :=
  ∃ d, t.cmd? j = some d ∧ d.prog.phase = .running ∧ d.prog.unit = some u ∧ d.prog.startTick = n

theorem startOn_runs {u : UnitKind × Nat × Nat} (hd : t.cmd? j = some d) (hu : d.prog.unit = some u) :
    RunsSince j u t.tick (startOn j t) := by
  obtain ⟨k, p, n⟩ := u
  unfold startOn
  rw [hd]
  dsimp only
  rw [hu]
  dsimp only
  split
  · exact ⟨_, (cmd_congr (wakeOther_cmds _ _ _ _) j).trans (cmd_modProg _ hd), rfl, hu, rfl⟩
  · exact ⟨_, cmd_modProg _ hd, rfl, hu, rfl⟩

/-- The pans of every unit that a place on unit `n` takes are ACTIVE. -/
def PansActive (c : Cmd) (k : UnitKind) (n : Nat) (s : State) : Prop :=
  ∀ u ∈ c.job.takesUnits k n, ∀ p, u.1.pan u.2 = some p → (s.pan c.rgn p).svc.pwr = .active

theorem pansUp_of_active {p : Nat} (hu : d.prog.unit = some (k, p, n)) (hcell : d.prog.pair.cell = none) (h : PansActive d k n t) :
    t.pansUp d = true := by
  have hown : d.ownUnits = d.job.takesUnits k n := by simp [Cmd.ownUnits, hu, hcell]
  simp only [State.pansUp, Cmd.pans, hown, List.all_eq_true, beq_iff_eq]
  intro q hq
  obtain ⟨u, hmem, hpan⟩ := List.mem_filterMap.1 hq
  exact h u hmem q hpan

theorem startPlaced_runs {p : Nat} (hd : t.cmd? j = some d) (hu : d.prog.unit = some (k, p, n)) (hcell : d.prog.pair.cell = none)
    (h : PansActive d k n t) : RunsSince j (k, p, n) t.tick (startPlaced j t) := by
  unfold startPlaced
  rw [hd]
  dsimp only
  rw [if_pos (pansUp_of_active hu hcell h)]
  exact startOn_runs hd hu

/-- A job of one part that is placed on a unit in ACTIVE pans runs there at once. -/
theorem placeOn_runs (h : DispatchKept j s t) (hc : s.cmd? j = some c) (hcell : c.prog.pair.cell = none) (hup : PansActive c k n s) :
    RunsSince j (k, (k.pan n).getD 0, n) s.tick (placeOn j k n t) := by
  obtain ⟨d, hd, hjob, hregion, hpair⟩ := h.cmd c hc
  rw [← h.tick]
  refine startPlaced_runs (cmd_modProg _ hd) rfl (by rw [hpair]; exact hcell) fun u hu p hp => ?_
  have hu' : u ∈ c.job.takesUnits k n := hjob ▸ hu
  have hr : d.rgn = c.rgn := congrArg (·.getD 0) hregion
  exact (h.pwr d.rgn p).trans (hr ▸ hup u hu' p hp)

theorem takePlace_runs (h : DispatchKept j s t) (hc : s.cmd? j = some c) (hpaired : c.job.paired = false)
    (hcell : c.prog.pair.cell = none) (hup : PansActive c k n s) :
    RunsSince j (k, (k.pan n).getD 0, n) s.tick (takePlace c c.rgn k n t) := by
  have counted (sp : Nat) : DispatchKept j t (if c.prog.wait = some .slots then
      t.modPan c.rgn sp fun x => { x with slots := { x.slots with waits := inc32 x.slots.waits } } else t) := by
    split
    · exact modPan_dispatchKept t c.rgn sp fun _ => rfl
    · exact .refl _ _
  unfold takePlace
  dsimp only
  rw [cmd_id hc]
  refine placeOn_runs ((h.trans (counted _)).trans (modProg_dispatchKept _ (fun _ => rfl) fun x => ?_)) hc hcell hup
  exact if_neg (by rw [hpaired]; decide)

end Started

/-! ### The dispatch -/

section Dispatched
variable {s : State} {j n : Nat} {k : UnitKind} {c : Cmd}

/-- The state in which a job chooses its unit: one of the symmetric engines has counted its key's use and taken its pond units (R240,
R242). -/
def atChoice (s : State) (j : Nat) (c : Cmd) (k : UnitKind) : State :=
  if k = .sym then takeSym c c.rgn (s.modProg j fun p => { p with wait := none }) else s

theorem atChoice_dispatchKept (k : UnitKind) (hc : s.cmd? j = some c) : DispatchKept j s (atChoice s j c k) := by
  unfold atChoice
  split
  · have sym := takeSym_dispatchKept c c.rgn (s.modProg j fun p => { p with wait := none })
    rw [cmd_id hc] at sym
    exact (modProg_dispatchKept s (f := fun p => { p with wait := none }) (fun _ => rfl) fun _ => rfl).trans sym
  · exact .refl _ _

/-- Job `c` wants kind `k` of its region, which dispatches, and nothing holds or outranks it. -/
structure Dispatchable (s : State) (c : Cmd) (k : UnitKind) : Prop where
  lives : s.lives c
  dispatches : s.dispatches c.rgn = true
  held : s.held c = false
  quiet : s.heldForDisturbance c c.rgn = false
  slh : s.slhOk c c.rgn = true
  kind : s.jobKind c c.rgn = some k
  first : s.outranked c c.rgn k = false
  pond : s.pondOk c c.rgn = true

theorem dispatchJob_takes (hc : s.cmd? j = some c) (h : Dispatchable s c k)
    (hn : (atChoice s j c k).pickUnit c c.rgn k ((atChoice s j c k).freeUnits c c.rgn k) = some n) :
    dispatchJob j s = takePlace c c.rgn k n (atChoice s j c k) := by
  unfold atChoice at hn ⊢
  unfold dispatchJob
  rw [hc]
  dsimp only
  rw [if_neg h.lives.not_old, if_neg (by simp [h.dispatches, h.held, h.quiet, h.slh]), h.kind]
  dsimp only
  rw [if_neg (by simp [h.first]), if_neg (by simp [h.pond]), hn]

theorem dispatchJob_runs (hc : s.cmd? j = some c) (h : Dispatchable s c k) (hpaired : c.job.paired = false)
    (hcell : c.prog.pair.cell = none)
    (hn : (atChoice s j c k).pickUnit c c.rgn k ((atChoice s j c k).freeUnits c c.rgn k) = some n) (hup : PansActive c k n s) :
    RunsSince j (k, (k.pan n).getD 0, n) s.tick (dispatchJob j s) := by
  rw [dispatchJob_takes hc h hn]
  exact takePlace_runs (atChoice_dispatchKept k hc) hc hpaired hcell hup

theorem exec_jobDispatch (hc : s.cmd? j = some c) (hphase : c.prog.phase = .acked) (hunit : c.prog.unit = none)
    (hregion : c.prog.region ≠ none) (hwait : c.prog.wait = none) : exec (.jobDispatch j) s = .next (dispatchJob j s) := by
  have waiting : c.waiting c.rgn = true := by
    obtain ⟨r, hr⟩ := Option.ne_none_iff_exists'.1 hregion
    simp [Cmd.waiting, Cmd.rgn, hr, hphase, hunit, hwait]
  change execJobDispatch j s = _
  unfold execJobDispatch
  rw [hc]
  dsimp only
  rw [if_pos (by rw [waiting]; rfl)]

theorem exec_resourceFreedDispatch (hc : s.cmd? j = some c) (hwait : c.prog.wait = some .slots ∨ c.prog.wait = some .pond) :
    exec (.resourceFreedDispatch j) s = .next (dispatchJob j s) := by
  change execResourceFreedDispatch j s = _
  unfold execResourceFreedDispatch
  rw [hc]
  dsimp only
  rcases hwait with hwait | hwait
  · rw [hwait]
  · rw [hwait]

end Dispatched

/-- Settles O10: the selection, the acknowledgement and the drop are read off the rows; a dispatch keeps the tick, the power of the
pans and the job's place from the key's use to the unit. -/
theorem jobsAreSentAndDispatched : Obligations.JobsAreSentAndDispatched := by
  unfold Obligations.JobsAreSentAndDispatched
  refine ⟨fun s j c hc => ⟨fun hl => ⟨fun hs hr => ⟨fun r hsel => ?selected, fun hsel => ?noRegion⟩,
    fun hp => ⟨fun hin => ?taken, fun hin => ?returned⟩⟩, fun hm ho => ⟨fun hs => ?oldSend, fun hp => ?oldAck⟩⟩, ?dispatch⟩
  case selected => exact jobSend_selected hc hs hl hr hsel
  case noRegion => exact jobSend_noRegion hc hs hl hr hsel
  case taken => exact regionAck_taken hc hp hl hin
  case returned => exact regionAck_returned hc hp hl hin
  case oldSend => exact jobSend_old hc hs (by simp [hm, ho])
  case oldAck => exact regionAck_old hc hp (by simp [hm, ho])
  case dispatch =>
    intro s j n k c hc hphase hunit hl hpaired hcell hd hh hq hslh hk hfirst hpond s1 hn hup Starts
    have runs := dispatchJob_runs hc ⟨hl, hd, hh, hq, hslh, hk, hfirst, hpond⟩ hpaired hcell hn hup
    refine ⟨fun hregion hwait => ?_, fun hwait => ?_⟩
    · obtain ⟨d, hd⟩ := runs
      exact ⟨_, d, exec_jobDispatch hc hphase hunit hregion hwait, hd⟩
    · obtain ⟨d, hd⟩ := runs
      exact ⟨_, d, exec_resourceFreedDispatch hc hwait, hd⟩

end Sys2Proof.Machine
end
section
/-! PROOFS. O58: where PERST_N finds an unlocked tick disciplined by a PTP source, the next source steps the tick. -/

namespace Sys2Proof.Machine
open Sys2Proof

/-- A package in SERVICE whose tick is FREE under PTP A, which is not yet within LOCK_NS, with PPS_IN qualified 1 ms ahead. -/
def freeUnderPtp : State :=
  { State.reset with
    pkg := { State.reset.pkg with mode := .service, perstHigh := true }
    time := { State.reset.time with
      quality := .free, source := some .ptpA, cfg := { State.reset.time.cfg with ppsEn := true, aEn := true }
      ptpA := { qualified := true, err := 5000 }
      pps := { qualified := true, offset := 1000000 } } }

/-- The images of a package whose OTP fails its check, which stops the boot at once (R465). -/
def otpBad : BootIn := { otpOk := false, pufOk := true, banks := 0x15, rgnMv := 750, apxMv := 800 }

/-- The start at PERST_N, before the boot. -/
def perstStart (s : State) : State :=
  restart ((cardDown (timePerst (freezeBtn evPerst none (s.modPkg fun p => { p with perstHigh := false })))).modPkg
    fun p => { p with mode := .boot })

theorem exec_perstNAssert_start (b : BootIn) (s : State) (h : s.pkg.perstHigh = true) (hm : s.pkg.mode.mainPower = true) :
    exec (.perstNAssert b) s = .next (bootRom false b (perstStart s)) := by
  refine congrArg Host.Outcome.next ((if_neg ?_).trans (if_pos hm))
  rw [h]
  decide

theorem bootRom_otpBad_tick (s : State) : (bootRom false otpBad s).tick = s.tick := rfl

/-- PERST_N drops PTP A, and PPS_IN, a full millisecond off, takes over with a step (R252). -/
theorem perstStart_freeUnderPtp_tick : (perstStart freeUnderPtp).tick = 1000000 := by decide

/-- Refutes O58: PERST_N does not always keep the tick. In FREE under a PTP source, the reset of the ports loses that source, and the
next qualified one, 1 ms off or more, steps the tick at once (R250, R252, R254); only a LOCKED tick goes to HOLDOVER unmoved. -/
theorem not_bootReachesSelfTest : ¬ Obligations.BootReachesSelfTest := by
  unfold Obligations.BootReachesSelfTest
  intro h
  obtain ⟨-, perst, -⟩ := h freeUnderPtp otpBad 0 0 (by decide)
  obtain ⟨t, ht, -, -, -, -, -, -, -, htick, -⟩ := perst rfl rfl
  rw [exec_perstNAssert_start otpBad freeUnderPtp rfl rfl] at ht
  cases ht
  rw [bootRom_otpBad_tick, perstStart_freeUnderPtp_tick] at htick
  exact absurd htick (by decide)

end Sys2Proof.Machine
end

section
/-! PROOFS. Registers right after reset (O60). -/

namespace Sys2Proof.Machine

/-- Settles O60: the reset state is closed, so every entry of the table is a register evaluated on it. -/
theorem registersAfterReset : Obligations.RegistersAfterReset := by
  unfold Obligations.RegistersAfterReset
  decide

end Sys2Proof.Machine
end
section
/-! PROOFS. What queues and mailboxes share (R54-R90): the buffers, the vectors, the acceptance of a request, and what the release and
the journal of a result leave as it was. -/

namespace Sys2Proof.Machine

/-! ### Bytes and buffers -/

section Buffers
variable {t : Tbl Byte} {a k : Nat}

@[simp] theorem le_length (n v : Nat) : (le n v).length = n := by
  induction n generalizing v with
  | zero => rfl
  | succ n ih => simp [le, ih]

theorem tget_writeBuf_below (bs : List Byte) (h : k < a) :
    tget (fun _ => (0 : Byte)) (writeBuf t a bs) k = tget (fun _ => (0 : Byte)) t k := by
  induction bs generalizing t a with
  | nil => rfl
  | cons b bs ih => rw [writeBuf, ih (by omega), tget_tset_ne _ _ _ _ _ (by omega)]

theorem tget_writeBuf_above (bs : List Byte) (h : a + bs.length ≤ k) :
    tget (fun _ => (0 : Byte)) (writeBuf t a bs) k = tget (fun _ => (0 : Byte)) t k := by
  induction bs generalizing t a with
  | nil => rfl
  | cons b bs ih =>
    rw [List.length_cons] at h
    rw [writeBuf, ih (by omega), tget_tset_ne _ _ _ _ _ (by omega)]

/-- What is written is read back, whatever is written behind it. -/
theorem readBuf_writeBuf (bs rest : List Byte) : readBuf (writeBuf t a (bs ++ rest)) a bs.length = bs := by
  induction bs generalizing t a with
  | nil => rfl
  | cons b bs ih =>
    rw [List.cons_append, List.length_cons, writeBuf, readBuf, ih, tget_writeBuf_below _ (Nat.lt_succ_self a), tget_tset_self]

theorem writeBuf_append (p q : List Byte) : writeBuf t a (p ++ q) = writeBuf (writeBuf t a p) (a + p.length) q := by
  induction p generalizing t a with
  | nil => rfl
  | cons b p ih => rw [List.cons_append, writeBuf, ih, writeBuf, List.length_cons, Nat.add_right_comm, Nat.add_assoc]

/-- The length of the header of a response (R56). -/
theorem respHeader_length (op st seq len jseq tick e : Nat) : (respHeader op st seq len jseq tick e).length = 32 := by
  simp [respHeader, zeros]

/-- STATUS stands at offset 2 of a response (R56). -/
theorem readBuf_respHeader_status (op st seq len jseq tick e : Nat) :
    readBuf (writeBuf [] 0 ((respHeader op st seq len jseq tick e).take 4096)) 2 2 = le 2 st := by
  rw [List.take_of_length_le (by rw [respHeader_length]; decide)]
  simp only [respHeader, List.append_assoc]
  rw [writeBuf_append, le_length]
  have status := readBuf_writeBuf (t := writeBuf [] 0 (le 2 op)) (a := 2) (le 2 st)
  rw [le_length] at status
  exact status _

end Buffers

/-! ### Vectors and registers of instances -/

section Vectors
variable {s : State} {i : Nat}

/-- Raising a vector leaves every register of a function but its pending bits (R34, R87). -/
theorem raiseVector_inst (i v : Nat) (s : State) (k : Nat) :
    ∃ p, (raiseVector i v s).inst k = { s.inst k with pba := p } := by
  unfold raiseVector
  split
  · exact ⟨(s.inst k).pba, rfl⟩
  · split
    · by_cases h : k = i
      · subst h
        exact ⟨v :: (s.inst k).pba.filter (· != v), State.inst_modInst_self s k _⟩
      · exact ⟨(s.inst k).pba, State.inst_modInst_ne s i k _ h⟩
    · exact ⟨(s.inst k).pba, rfl⟩

/-- Every field but the instances and the outward actions is the same. -/
def SameButVectors (s t : State) : Prop := t = { s with insts := t.insts, out := t.out }

theorem SameButVectors.trans {s t u : State} (h : SameButVectors s t) (k : SameButVectors t u) : SameButVectors s u := by
  unfold SameButVectors at *
  rw [k, h]

theorem raiseVector_same (i v : Nat) (s : State) : SameButVectors s (raiseVector i v s) := by
  unfold raiseVector
  split
  · rfl
  · split
    · rfl
    · rfl

/-- A masked vector waits in the pending bits (R87). -/
theorem raiseVector_masked {v : Nat} (hr : (s.inst i).resetting = false) (he : (s.inst i).msixEn = true) (hh : s.pkg.halted = false)
    (hm : (s.inst i).msixMask = true) :
    raiseVector i v s = s.modInst i fun n => { n with pba := v :: n.pba.filter (· != v) } := by
  simp [raiseVector, hr, he, hh, hm]

theorem raiseVector_sent {v : Nat} (hr : (s.inst i).resetting = false) (he : (s.inst i).msixEn = true) (hh : s.pkg.halted = false)
    (hm : (s.inst i).msixMask = false) (hv : (s.msixEntry i v).masked = false) : raiseVector i v s = emit (.msix i v) s := by
  simp [raiseVector, hr, he, hh, hm, hv]

end Vectors

/-! ### What the release and the journal of a result leave -/

section Released
variable {s t : State} {j : Nat} {c : Cmd}

theorem SameButJournal.foldl {β : Type} {f : State → β → State} (h : ∀ s x, SameButJournal s (f s x)) (l : List β) (s : State) :
    SameButJournal s (l.foldl f s) := by
  induction l generalizing s with
  | nil => rfl
  | cons x l ih => exact (h s x).trans (ih (f s x))

theorem closeCommand_same (c : Cmd) (st : Status) (b : List Byte) (s : State) : SameButJournal s (closeCommand c st b s) :=
  (appendEntry_same s _).trans rfl

theorem writeBatch_same (b : Batch) (z : Bool) (s : State) : SameButJournal s (writeBatch b z s) :=
  (takeJseq_same s).trans (appendEntry_same _ _)

theorem closeBatches_same (p : Batch → Bool) (s : State) : SameButJournal s (closeBatches p s) :=
  (modJrn_same s _).trans (SameButJournal.foldl (fun s b => writeBatch_same b false s) _ _)

theorem countInBatch_same (i q n : Nat) (b : List Byte) (s : State) : SameButJournal s (countInBatch i q n b s) :=
  ((closeBatches_same _ s).trans (modJrn_same _ _)).trans (closeBatches_same _ _)

theorem enterWaiting_same (s : State) : SameButJournal s (enterWaiting s) := by
  refine SameButJournal.foldl (fun s c => ?_) _ s
  split
  · rfl
  · rfl

theorem writeFrags_same (i : Nat) (fs : List Frag) (b : List Byte) (s : State) : SameButJournal s (writeFrags i fs b s) := by
  induction fs generalizing b s with
  | nil => rfl
  | cons f fs ih =>
    unfold writeFrags
    split
    · rfl
    · exact (hostWrite_same s _ _ _ _).trans (ih _ _)

theorem writeOutputs_same (j : Job) (r : Res) (s : State) : SameButJournal s (writeOutputs j r s) := by
  unfold writeOutputs
  exact SameButJournal.foldl (fun s o => writeFrags_same _ _ _ s) _ s

theorem evictFor_same (r i n m : Nat) (s : State) : SameButRegions s (evictFor r i n m s) := by
  induction m generalizing s with
  | zero => rfl
  | succ m ih =>
    unfold evictFor
    split
    · rfl
    · split
      · rfl
      · exact (modRegion_same s r _).trans (ih _)

theorem fitShelf_same (i : Nat) (s : State) : SameButRegions s (fitShelf i s) :=
  SameButRegions.foldl s _ (fun s r => evictFor_same r i 0 _ s) _

theorem shelve_same (r : Nat) (e : ShelfKey) (s : State) : SameButRegions s (shelve r e s).2 := by
  unfold shelve
  dsimp only
  split
  · rfl
  · split
    · exact (evictFor_same _ _ _ _ s).trans rfl
    · exact evictFor_same _ _ _ _ s

/-- The key that a creating verb enters changes the key records and the shelves alone (R350). -/
theorem enterKey_same (r : Res) (s : State) : SameButUnits s (enterKey r s) := by
  unfold enterKey
  split
  · rfl
  · dsimp only
    have entered (v : Vault) : SameButUnits s { s with vault := v } := rfl
    split
    · exact entered _
    · split
      · exact (entered _).trans (shelve_same _ _ _).units
      · exact entered _

/-- The commit point marks the command (R452). -/
theorem cmd_commit (h : s.cmd? j = some c) : (commit j s).cmd? j = some { c with prog := { c.prog with committed := true } } := by
  have marked := cmd_modProg (fun p => { p with committed := true }) h
  unfold commit
  rw [h]
  dsimp only
  split
  · exact marked
  · exact marked

/-- The commit point leaves every register of a function but the kept pairs (R67). -/
theorem commit_inst (j : Nat) (s : State) (k : Nat) : ∃ p, (commit j s).inst k = { s.inst k with kept := p } := by
  unfold commit
  split
  · exact ⟨(s.inst k).kept, rfl⟩
  next c _ =>
    dsimp only
    split
    · exact ⟨(s.inst k).kept, rfl⟩
    · by_cases h : k = c.job.inst
      · subst h
        exact ⟨_, State.inst_modInst_self _ _ _⟩
      · exact ⟨(s.inst k).kept, State.inst_modInst_ne _ _ k _ h⟩

/-- The commit point changes the command, the bittern area and the kept pairs alone (R67, R452). -/
theorem commit_same (j : Nat) (s : State) :
    commit j s = { s with cmds := (commit j s).cmds, btn := (commit j s).btn, insts := (commit j s).insts } := by
  unfold commit
  split
  · rfl
  · dsimp only
    split
    · rfl
    · rfl

/-- A release enters the key of the result and may pass the commit point (R350). -/
theorem release_cases (c : Cmd) (r : Res) (s : State) :
    ∃ t, SameButUnits s t ∧ (release c r s = t ∨ release c r s = commit c.job.id t) := by
  unfold release
  split
  · refine ⟨enterKey r s, enterKey_same r s, ?_⟩
    dsimp only
    split
    · exact .inr rfl
    · exact .inl rfl
  · exact ⟨s, rfl, .inl rfl⟩

theorem release_inst (c : Cmd) (r : Res) (s : State) (k : Nat) : ∃ p, (release c r s).inst k = { s.inst k with kept := p } := by
  obtain ⟨t, ht, h | h⟩ := release_cases c r s
  · rw [h, ht]
    exact ⟨(s.inst k).kept, rfl⟩
  · rw [h]
    obtain ⟨p, hp⟩ := commit_inst c.job.id t k
    rw [hp, ht]
    exact ⟨p, rfl⟩

/-- A release leaves the command with its job and its energy. -/
theorem cmd_release {d : Cmd} (r : Res) (h : s.cmd? c.job.id = some d) :
    ∃ e, (release c r s).cmd? c.job.id = some e ∧ e.job = d.job ∧ e.prog.energy = d.prog.energy := by
  obtain ⟨t, ht, hr | hr⟩ := release_cases c r s
  · rw [hr, ht]
    exact ⟨d, h, rfl, rfl⟩
  · have hd : t.cmd? c.job.id = some d := by
      rw [ht]
      exact h
    rw [hr]
    exact ⟨_, cmd_commit hd, rfl, rfl⟩

end Released

/-! ### Acceptance -/

section Accepted
variable {s : State} {j : Nat} {c : Cmd}

/-- The job `b` is the command `a` as it was accepted, however far its request has been read since (R65). -/
structure SameOrigin (a b : Job) : Prop where
  id : b.id = a.id
  src : b.src = a.src
  inst : b.inst = a.inst
  opcode : b.opcode = a.opcode
  tag : b.tag = a.tag
  jseq : b.jseq = a.jseq
  acceptTick : b.acceptTick = a.acceptTick

theorem SameOrigin.refl (a : Job) : SameOrigin a a := ⟨rfl, rfl, rfl, rfl, rfl, rfl, rfl⟩

theorem SameOrigin.trans {a b c : Job} (h : SameOrigin a b) (k : SameOrigin b c) : SameOrigin a c :=
  ⟨k.id.trans h.id, k.src.trans h.src, k.inst.trans h.inst, k.opcode.trans h.opcode, k.tag.trans h.tag, k.jseq.trans h.jseq,
    k.acceptTick.trans h.acceptTick⟩

theorem hostRead_insts (u : HostUse) (i a n : Nat) (x : Bool) (s : State) : (hostRead u i a n x s).insts = s.insts := by
  unfold hostRead
  split
  · rfl
  · rfl

theorem hostRead_cmds (u : HostUse) (i a n : Nat) (x : Bool) (s : State) : (hostRead u i a n x s).cmds = s.cmds := by
  unfold hostRead
  split
  · rfl
  · rfl

theorem hostRead_rr (u : HostUse) (i a n : Nat) (x : Bool) (s : State) : (hostRead u i a n x s).rr = s.rr := by
  unfold hostRead
  split
  · rfl
  · rfl

/-- The start of an accepted command: it ends at once with the result of its checks, or its inputs are read (R77, R83). -/
def begun (j : Nat) (r : Option Res) (s : State) : State :=
  match r with
  | some r => finish j r s
  | none => fetchInputs j s

/-- A field that neither a host read nor a change of commands touches is left by the start of a command. -/
theorem fetchInputs_keeps {γ : Type} (g : State → γ) (hread : ∀ u i a n x s, g (hostRead u i a n x s) = g s)
    (hcmd : ∀ j f s, g (s.modCmd j f) = g s) (j : Nat) (s : State) : g (fetchInputs j s) = g s := by
  unfold fetchInputs
  split
  · rfl
  · dsimp only
    rw [hcmd]
    refine foldl_keeps g _ (fun s i => ?_) _ s
    split
    · exact hread _ _ _ _ _ _
    · rfl

theorem begun_insts (j : Nat) (r : Option Res) (s : State) : (begun j r s).insts = s.insts := by
  cases r with
  | some r => exact finish_insts r
  | none => exact fetchInputs_keeps (·.insts) hostRead_insts (fun _ _ _ => rfl) j s

theorem begun_rr (j : Nat) (r : Option Res) (s : State) : (begun j r s).rr = s.rr := by
  cases r with
  | some r => simp [begun, finish]
  | none => exact fetchInputs_keeps (·.rr) hostRead_rr (fun _ _ _ => rfl) j s

theorem mem_modCmd {f : Cmd → Cmd} (hf : ∀ c, SameOrigin c.job (f c).job) (h : c ∈ s.cmds) :
    ∃ d ∈ (s.modCmd j f).cmds, SameOrigin c.job d.job := by
  refine ⟨_, List.mem_map_of_mem h, ?_⟩
  split
  · exact hf c
  · exact .refl _

theorem mem_fetchInputs (j : Nat) (h : c ∈ s.cmds) : ∃ d ∈ (fetchInputs j s).cmds, SameOrigin c.job d.job := by
  unfold fetchInputs
  split
  · exact ⟨c, h, .refl _⟩
  · refine mem_modCmd (fun _ => ⟨rfl, rfl, rfl, rfl, rfl, rfl, rfl⟩) ?_
    rw [foldl_keeps (·.cmds)]
    · exact h
    · intro s i
      split
      · exact hostRead_cmds _ _ _ _ _ _
      · rfl

theorem mem_finish (j : Nat) (r : Res) (h : c ∈ s.cmds) : ∃ d ∈ (finish j r s).cmds, SameOrigin c.job d.job := by
  unfold finish
  rw [settleUnits_cmds]
  exact mem_modCmd (fun _ => .refl _) (by rwa [freeSlots_cmds])

theorem mem_begun (j : Nat) (r : Option Res) (h : c ∈ s.cmds) : ∃ d ∈ (begun j r s).cmds, SameOrigin c.job d.job := by
  cases r with
  | some r => exact mem_finish j r h
  | none => exact mem_fetchInputs j h

theorem takeJseq_nextId (s : State) : (takeJseq s).2.nextId = s.nextId := by rw [takeJseq_same]

theorem takeJseq_tick (s : State) : (takeJseq s).2.tick = s.tick := by rw [takeJseq_same]

theorem takeJseq_rr (s : State) : (takeJseq s).2.rr = s.rr := by rw [takeJseq_same]

/-- An accepted command stands among the commands in flight, and where it is STATE_CHANGING in the commit table (R452). -/
def enlisted (c : Cmd) (s : State) : State :=
  let s1 := { s with nextId := s.nextId + 1, cmds := s.cmds ++ [c] }
  if c.job.has (·.sc) && !s1.commitFull then enterCommit c s1 else s1

theorem enlisted_cmds (c : Cmd) (s : State) : (enlisted c s).cmds = s.cmds ++ [c] := by
  unfold enlisted
  dsimp only
  split
  · rfl
  · rfl

theorem enlisted_insts (c : Cmd) (s : State) : (enlisted c s).insts = s.insts := by
  unfold enlisted
  dsimp only
  split
  · rfl
  · rfl

theorem enlisted_rr (c : Cmd) (s : State) : (enlisted c s).rr = s.rr := by
  unfold enlisted
  dsimp only
  split
  · rfl
  · rfl

/-- A command that is accepted and begun is in flight. -/
theorem mem_begun_enlisted (j : Nat) (r : Option Res) (c : Cmd) (s : State) :
    ∃ d ∈ (begun j r (enlisted c s)).cmds, SameOrigin c.job d.job :=
  mem_begun j r (by simp [enlisted_cmds])

end Accepted

end Sys2Proof.Machine
end
section
/-! PROOFS. A change that takes effect at DONE (R272, R402): what a change of frame configuration leaves of the customer packages, and
what a change of packages leaves of the rest. -/

namespace Sys2Proof.Machine

/-! ### The frame unit leaves the customer packages -/

section FramePackages
variable (s : State)

theorem ite_cust {p : Prop} [Decidable p] {a b : State} (ha : a.cust = s.cust) (hb : b.cust = s.cust) :
    (if p then a else b).cust = s.cust := by
  split
  · exact ha
  · exact hb

@[simp] theorem hostWrite_cust (i addr : Nat) (b : List Byte) (x : Bool) : (hostWrite i addr b x s).cust = s.cust := by
  rw [hostWrite_same]

@[simp] theorem raiseVector_cust (i v : Nat) : (raiseVector i v s).cust = s.cust := by
  rw [raiseVector_same]

@[simp] theorem commit_cust (j : Nat) : (commit j s).cust = s.cust := by
  rw [commit_same]

@[simp] theorem fail_cust (j : Nat) (st : Status) : (fail j st s).cust = s.cust := by
  simp [fail, finish]

@[simp] theorem raiseRing_cust (i n : Nat) : (raiseRing i n s).cust = s.cust :=
  ite_cust s (by simp) rfl

@[simp] theorem ringSignal_cust (i n l : Nat) (now : Bool) : (ringSignal i n l now s).cust = s.cust :=
  ite_cust s (by simp) rfl

@[simp] theorem putEntry_cust (i n typ flen : Nat) (body : List Byte) (now : Bool) :
    (putEntry i n typ flen body now s).2.cust = s.cust := by
  unfold putEntry
  dsimp only
  rw [apply_ite Prod.snd]
  refine ite_cust s rfl ?_
  rw [ringSignal_cust, State.modFring_cust, hostWrite_cust]
  exact ite_cust s (hostWrite_cust s _ _ _ _) rfl

@[simp] theorem deliverTo_cust (n : Nat) (f : Judged) (hstate win : Nat) (x : Sub) : (deliverTo n f hstate win x s).cust = s.cust :=
  putEntry_cust s _ _ _ _ _ _

@[simp] theorem deliverAll_cust (n : Nat) (f : Judged) (hstate win : Nat) (p : Sub → Bool) :
    (deliverAll n f hstate win p s).cust = s.cust := by
  unfold deliverAll
  split
  · rfl
  · exact foldl_keeps (·.cust) _ (fun s x => deliverTo_cust s _ _ _ _ x) _ s

@[simp] theorem deliverHeld_cust (n hstate : Nat) (win : PFrame → Nat) (ps : List PFrame) :
    (deliverHeld n hstate win ps s).cust = s.cust := by
  refine foldl_keeps (·.cust) _ (fun s p => ?_) ps s
  split
  · rfl
  · exact deliverAll_cust s _ _ _ _ _

@[simp] theorem harvestEntry_cust (n result reason count win tq start : Nat) :
    (harvestEntry n result reason count win tq start s).cust = s.cust := by
  have counted : (if result = 3 then s.modSession n fun x => { x with failed := satAdd max64 x.failed 1 } else s).cust = s.cust :=
    ite_cust s rfl rfl
  unfold harvestEntry
  dsimp only
  split
  · exact counted
  · exact (foldl_keeps (·.cust) _ (fun s x => putEntry_cust s _ _ _ _ _ _) _ _).trans counted

@[simp] theorem resolveLost_cust (n : Nat) (x : Session) (ps : List PFrame) : (resolveLost n x ps s).cust = s.cust :=
  (foldl_keeps (·.cust) _ (fun s w => harvestEntry_cust s n 3 4 _ w 0 _) _ _).trans (deliverHeld_cust s n 3 (·.win) ps)

@[simp] theorem endSession_cust (n : Nat) : (endSession n s).cust = s.cust := by
  unfold endSession
  split
  · rfl
  · exact resolveLost_cust s n _ _

@[simp] theorem endSessionsOf_cust (n : Nat) : (endSessionsOf n s).cust = s.cust :=
  foldl_keeps (·.cust) _ (fun s k => endSession_cust s k) _ s

@[simp] theorem retrain_cust (p : Nat) : (retrain p s).cust = s.cust :=
  foldl_keeps (·.cust) _ (fun s j => fail_cust s j .portState) _ _

@[simp] theorem setPortMode_cust (p : Nat) (m : PortMode) : (setPortMode p m s).cust = s.cust :=
  ite_cust s rfl (retrain_cust _ p)

/-- A verb whose checks fail changes nothing; its customer packages are those of its body. -/
theorem orBad_cust (l : List (Option Status)) {k : State → State × Option Res} (hk : (k s).1.cust = s.cust) :
    (orBad l s k).1.cust = s.cust := by
  unfold orBad
  split
  · rfl
  · exact hk

theorem frmPortSet_cust (c : Cmd) : (frmPortSet c s).1.cust = s.cust := by
  refine orBad_cust s _ ?_
  have partnered (q : Nat) (m was : PortMode) : (if m = .passThrough then setPortMode q .passThrough (commit c.job.id s)
      else if was = .passThrough then setPortMode q .disabled (commit c.job.id s) else commit c.job.id s).cust = s.cust :=
    ite_cust s (by simp) (ite_cust s (by simp) (by simp))
  dsimp only
  rw [State.modPort_cust]
  exact ite_cust s (by rw [setPortMode_cust, partnered]) (by rw [retrain_cust, setPortMode_cust, partnered])

theorem frmStreamSet_cust (c : Cmd) : (frmStreamSet c s).1.cust = s.cust := by
  refine orBad_cust s _ ?_
  dsimp only
  split
  · split
    · simp
    · simp
  · simp

theorem frmHarvestSet_cust (c : Cmd) : (frmHarvestSet c s).1.cust = s.cust := by
  refine orBad_cust s _ ?_
  dsimp only
  split
  · simp
  · split
    · exact orBad_cust s _ (by simp)
    · rfl

/-- A change of frame configuration leaves the customer packages. -/
theorem frmConfig_cust {n : Nat} {f : Cmd → State → State × Option Res} (h : frmConfig n = some f) (c : Cmd) :
    (f c s).1.cust = s.cust := by
  unfold frmConfig at h
  split at h <;> cases h
  · exact orBad_cust s _ (commit_cust s _)
  · exact orBad_cust s _ (commit_cust s _)
  · exact frmPortSet_cust s c
  · exact frmStreamSet_cust s c
  · exact orBad_cust s _ ((endSessionsOf_cust _ _).trans (commit_cust s _))
  · exact orBad_cust s _ (commit_cust s _)
  · exact frmHarvestSet_cust s c

theorem frmSettled_cust (c : Cmd) (r : Res) : (frmSettled c r s).1.cust = s.cust := by
  unfold frmSettled
  split
  next f hf =>
    split
    · exact frmConfig_cust s hf c
    · rfl
  · rfl

theorem frmSettled_other {c : Cmd} {r : Res} (h : frmConfig c.job.opcode = none) : frmSettled c r s = (s, r) := by
  unfold frmSettled
  rw [h]

end FramePackages

/-! ### A change of customer packages -/

section Packages
variable {s : State} {c : Cmd} {r : Res}

/-- Every field but the customer packages and the regions is the same. -/
def SameButPackages (s t : State) : Prop := t = { s with cust := t.cust, regions := t.regions }

/-- What the regions hold of the packages is all that changes with it. -/
theorem heldPackages_same (f : State → Nat → CustReg → CustReg) (l : List Nat) (s : State) :
    SameButRegions s (l.foldl (fun s r => s.modCust r (f s r)) s) :=
  SameButRegions.foldl s _ (fun s r => modRegion_same s r _) l

theorem placePkg_same (p : CustPkg) (s : State) : SameButPackages s (placePkg p s) := by
  unfold SameButPackages placePkg
  extract_lets k s1
  rw [heldPackages_same fun s r q => { q with held := (q.held.filter fun x => x != k) ++ (if s.inService r then [k] else []) }]

theorem clearPlace_same (k : Nat) (s : State) : SameButPackages s (clearPlace k s) := by
  unfold SameButPackages clearPlace
  extract_lets s1
  rw [heldPackages_same fun _ _ q => { q with held := q.held.filter fun x => x != k }]

/-- At DONE a change of packages is made and committed, or nothing changes (R402). -/
theorem custSettled_cases (c : Cmd) (r : Res) (s : State) :
    custSettled c r s = s ∨ ∃ t, SameButPackages s t ∧ custSettled c r s = commit c.job.id t := by
  unfold custSettled
  split
  · exact .inl rfl
  · split
    · split
      · exact .inr ⟨_, placePkg_same _ s, rfl⟩
      · exact .inl rfl
    · split
      · split
        · exact .inr ⟨_, clearPlace_same _ s, rfl⟩
        · exact .inl rfl
      · exact .inl rfl

theorem custSettled_other (h1 : c.job.opcode ≠ 0x1002) (h2 : c.job.opcode ≠ 0x1003) : custSettled c r s = s := by
  unfold custSettled
  rw [if_neg h1, if_neg h2, ite_self]

theorem custSettled_tick (c : Cmd) (r : Res) (s : State) : (custSettled c r s).tick = s.tick := by
  obtain h | ⟨t, ht, h⟩ := custSettled_cases c r s
  · rw [h]
  · rw [h, commit_same, ht]

theorem custSettled_mbx (c : Cmd) (r : Res) (s : State) (k : Nat) : ((custSettled c r s).inst k).mbx = (s.inst k).mbx := by
  obtain h | ⟨t, ht, h⟩ := custSettled_cases c r s
  · rw [h]
  · obtain ⟨p, hp⟩ := commit_inst c.job.id t k
    rw [h, hp, ht]
    rfl

theorem cmd_custSettled (r : Res) (h : s.cmd? c.job.id = some c) :
    ∃ d, (custSettled c r s).cmd? c.job.id = some d ∧ d.job = c.job ∧ d.prog.energy = c.prog.energy := by
  obtain hs | ⟨t, ht, hs⟩ := custSettled_cases c r s
  · rw [hs]
    exact ⟨c, h, rfl, rfl⟩
  · have hc : t.cmd? c.job.id = some c := by
      rw [ht]
      exact h
    rw [hs]
    exact ⟨_, cmd_commit hc, rfl, rfl⟩

end Packages

end Sys2Proof.Machine
end
section
/-! PROOFS. The SYS verbs and mailboxes (O4): what a doorbell makes of the buffer, and what is left of a served request
once it is answered. -/

namespace Sys2Proof.Machine
open Safety

/-! ### SYS (R44, R49) -/

section Sys
variable {s : State} {j : Nat} {c : Cmd}

theorem sysNop_ended (hw : AtWork 0x0100 j c s)
    (hp : Passes [paramZero c.job 0xFFFFFFFF, check (c.job.handle == nullHandle) .malformed]) :
    ∃ t, exec (.sysNop j) s = .next t ∧ Ended j c okRes t :=
  ended_of (body := sysNop) hw (orBad_passes hp _) rfl

theorem sysFeatures_ended (hw : AtWork 0x0101 j c s)
    (hp : Passes [paramZero c.job 0xFFFFFF00, check (c.job.handle == nullHandle) .malformed,
      check (featuresLen (bits c.job.param.toNat 7 0)).isSome .paramUnsupported]) :
    ∃ t, exec (.sysFeatures j) s = .next t ∧ Ended j c
      (if c.job.mbx then respRes (featuresPage s c.job.inst (bits c.job.param.toNat 7 0))
       else outTo c.job 0 (featuresPage s c.job.inst (bits c.job.param.toNat 7 0))) t :=
  ended_of (body := sysFeatures) (s1 := (drawEnergy s).2) hw (by rw [sysFeatures]; rw [orBad_passes hp]; rfl) rfl

/-- SYS.STANDBY passes its commit point as it completes (R49). -/
theorem sysStandby_ended (hw : AtWork 0x0102 j c s) (hp : Passes [paramZero c.job 0xFFFFFFFF, bodyIs c.job 0,
      check (s.cmds.all (·.job.mbx) && s.pkg.mode.isService) .deferred]) :
    ∃ t, exec (.sysStandby j) s = .next t ∧ Ended j c okRes t := by
  have hc : (drawEnergy s).2.cmd? c.job.id = some c := by rw [cmd_id hw.1]; exact hw.1
  exact ⟨_, rfl, ended_of_body (body := sysStandby) hw (by rw [sysStandby]; exact orBad_passes hp _) ⟨_, cmd_commit hc, rfl⟩⟩

end Sys

/-! ### The request buffer and the doorbell (R54, R57, R58, R62) -/

section Doorbell
variable {s : State} {i o v : Nat}

theorem exec_mailboxBufferWrite_taken (h : Reached i s) (h4 : o % 4 = 0) (ho : o < 4096) (hb : (s.inst i).mbx.state ≠ .busy) :
    exec (.mailboxBufferWrite i o v) s = .next (s.modMbx i fun m => { m with req := writeBuf m.req o (le 4 v) }) := by
  obtain ⟨hr, hide⟩ := h
  change Host.Outcome.next (s.gated i (mailboxBufferWriteAt i o v s)) = _
  rw [gated_open s i _ hr hide, mailboxBufferWriteAt, if_neg (by simp [hr]), if_neg (by simp [h4, ho]), if_neg hb]

/-- The word that is written is read back, and every other byte of the buffer stays (R54). -/
theorem mailboxBufferWrite_reads (h : Reached i s) (h4 : o % 4 = 0) (ho : o < 4096) (hb : (s.inst i).mbx.state ≠ .busy) :
    ∃ t, exec (.mailboxBufferWrite i o v) s = .next t ∧ readBuf (t.inst i).mbx.req o 4 = le 4 v ∧
      (∀ a, (a < o ∨ o + 4 ≤ a) → readBuf (t.inst i).mbx.req a 1 = readBuf (s.inst i).mbx.req a 1) ∧
      ∀ k, k ≠ i → t.inst k = s.inst k := by
  refine ⟨_, exec_mailboxBufferWrite_taken h h4 ho hb, ?word, fun a ha => ?others, fun k hk => State.inst_modInst_ne s i k _ hk⟩
  case word =>
    rw [State.inst_modMbx_self]
    simpa using readBuf_writeBuf (t := (s.inst i).mbx.req) (a := o) (le 4 v) []
  case others =>
    rw [State.inst_modMbx_self]
    refine congrArg (· :: []) ?_
    rcases ha with ha | ha
    · exact tget_writeBuf_below _ ha
    · exact tget_writeBuf_above _ (by simpa using ha)

theorem exec_mailboxDoorbell (h : Reached i s) : exec (.mailboxDoorbell i v) s = .next (mailboxDoorbellAt i v s) := by
  obtain ⟨hr, hide⟩ := h
  exact congrArg Host.Outcome.next (gated_open s i _ hr hide)

theorem mailboxDoorbellAt_closed (h : Reached i s) (hc : s.mbxClosed i = true) :
    mailboxDoorbellAt i v s = s.modMbx i fun m => { m with refused := true } := by
  rw [mailboxDoorbellAt, if_neg (by simp [h.1]), if_pos hc]

theorem mailboxDoorbellAt_busy (h : Reached i s) (hc : s.mbxClosed i = false) (hb : (s.inst i).mbx.state = .busy) :
    mailboxDoorbellAt i v s = s.modMbx i fun m => { m with overrun := true } := by
  rw [mailboxDoorbellAt, if_neg (by simp [h.1]), if_neg (by simp [hc]), if_pos hb]

/-- The SEQ of a doorbell stands in the mailbox before its header is looked at (R57). -/
def withSeq (i v : Nat) (s : State) : State := s.modMbx i fun m => { m with seq := v % 65536 }

/-- A doorbell of an open mailbox that is not BUSY is answered at once or takes the request, by its header (R58). -/
theorem mailboxDoorbellAt_open (h : Reached i s) (hc : s.mbxClosed i = false) (hb : (s.inst i).mbx.state ≠ .busy)
    (hw : s.jseqWait = false) {b : List Byte} (hbuf : readBuf (s.inst i).mbx.req 0 4096 = b) :
    mailboxDoorbellAt i v s = if headerBad i (v % 65536) b then
        respond i (respHeader (fld b 0 2) Status.malformed.code (fld b 4 2) 32 0 s.tick 0) (withSeq i v s)
      else acceptRequest i (v % 65536) b (withSeq i v s) := by
  subst hbuf
  rw [mailboxDoorbellAt, if_neg (by simp [h.1]), if_neg (by simp [hc]), if_neg hb, if_neg (by simp [hw])]
  rfl

end Doorbell

/-! ### The response (R56, R58) -/

section Respond
variable {s : State} {i : Nat}

theorem raiseMbx_inst (i : Nat) (s : State) (k : Nat) : ∃ p, (raiseMbx i s).inst k = { s.inst k with pba := p } := by
  unfold raiseMbx
  split
  · exact raiseVector_inst _ _ _ k
  · exact ⟨(s.inst k).pba, rfl⟩

/-- A response takes the mailbox DONE with the bytes in its buffer. -/
theorem respond_mbx (i : Nat) (b : List Byte) (s : State) : ((respond i b s).inst i).mbx =
    { (s.inst i).mbx with state := .done, cur := none, resp := writeBuf [] 0 (b.take 4096) } := by
  obtain ⟨p, hp⟩ := raiseMbx_inst i (s.modMbx i fun m =>
    { m with state := .done, cur := none, resp := writeBuf [] 0 (b.take 4096) }) i
  rw [respond, hp, State.inst_modMbx_self]

theorem respond_same (i : Nat) (b : List Byte) (s : State) : SameButVectors s (respond i b s) := by
  have answered (t : State) : SameButVectors t (raiseMbx i t) := by
    unfold raiseMbx
    split
    · exact raiseVector_same _ _ t
    · rfl
  have filled (f : Mbx → Mbx) : SameButVectors s (s.modMbx i f) := rfl
  exact (filled _).trans (answered _)

end Respond

/-! ### Acceptance of a request (R58, R65) -/

section Requests
variable {s : State} {i seq : Nat} {b : List Byte}

theorem readMbxBody_origin (b : List Byte) (n : Nat) (j : Job) : SameOrigin j (readMbxBody shapes b n j).1 := by
  unfold readMbxBody
  dsimp only
  split
  · exact .refl j
  · exact ⟨rfl, rfl, rfl, rfl, rfl, rfl, rfl⟩

theorem readTrailing_origin (o : Nat) (k : FragKind) (b : List Byte) (j : Job) : SameOrigin j (readTrailing o k b j).1 := by
  unfold readTrailing
  split
  · exact .refl j
  · split
    · exact .refl j
    · split
      · exact ⟨rfl, rfl, rfl, rfl, rfl, rfl, rfl⟩
      · exact .refl j

theorem readSigned_origin (b : List Byte) (j : Job) : SameOrigin j (readSigned b j).1 := by
  unfold readSigned
  split
  · split
    · exact ⟨rfl, rfl, rfl, rfl, rfl, rfl, rfl⟩
    · exact ⟨rfl, rfl, rfl, rfl, rfl, rfl, rfl⟩
  · exact ⟨rfl, rfl, rfl, rfl, rfl, rfl, rfl⟩

theorem readBody_origin (b : List Byte) (n : Nat) (j : Job) : SameOrigin j (readBody b n j).1 := by
  unfold readBody
  dsimp only
  split
  · exact ⟨rfl, rfl, rfl, rfl, rfl, rfl, rfl⟩
  · split
    · exact readMbxBody_origin b n j
    · split
      · exact readTrailing_origin _ _ _ j
      · split
        · exact readSigned_origin _ j
        · exact ⟨rfl, rfl, rfl, rfl, rfl, rfl, rfl⟩

/-- The checks of a request read its body into the job, which stays the one that was accepted (R540). -/
theorem checkRequest_origin (s : State) (i : Nat) (b : List Byte) (j : Job) : SameOrigin j (checkRequest s i b j).1 := by
  have body := readBody_origin b (fld b 2 2) j
  unfold checkRequest
  split
  · exact .refl j
  · split
    · split
      next h => rw [h] at body; exact body
      next h => rw [h] at body; exact body
    · exact .refl j

/-- The job of a request as its doorbell gives it, under JSEQ `n` (R55, R65). -/
def requestJob (i seq : Nat) (b : List Byte) (n : Nat) (s : State) : Job :=
  { id := s.nextId, src := .mbx, inst := i, gen := (s.inst i).gen, opcode := fld b 0 2, tag := seq,
    handle := BitVec.ofNat 32 (fld b 0x10 4), param := BitVec.ofNat 32 (fld b 0x14 4), reqId := fld b 8 8,
    target := if i = 0 then fld b 0x18 1 else i, jseq := n, acceptTick := s.tick, acceptTq := s.time.quality.code }

/-- A request as it comes in flight: held where entries in flight name an object of it (R66). -/
def requestCmd (j : Job) (s : State) : Cmd :=
  { job := j, prog := { wait := if s.heldForEntries { job := j } then some .object else none } }

/-- Mailbox `i` is BUSY with request `j` (R58). -/
def mbxBusy (i j : Nat) (s : State) : State := s.modMbx i fun m => { m with state := .busy, cur := some j }

/-- An accepted request takes the next JSEQ, passes its checks, and begins in a BUSY mailbox (R58, R65). -/
theorem acceptRequest_eq (i seq : Nat) (b : List Byte) (s : State) : ∃ j r, checkRequest (takeJseq s).2 i b
      (requestJob i seq b (takeJseq s).1 (takeJseq s).2) = (j, r) ∧
    acceptRequest i seq b s = begun j.id r (enlisted (requestCmd j (takeJseq s).2) (mbxBusy i j.id (takeJseq s).2)) :=
  ⟨_, _, rfl, rfl⟩

theorem acceptRequest_busy (i seq : Nat) (b : List Byte) (s : State) :
    ((acceptRequest i seq b s).inst i).mbx.state = .busy ∧ ((acceptRequest i seq b s).inst i).mbx.cur = some s.nextId ∧
    ∃ d ∈ (acceptRequest i seq b s).cmds, SameOrigin (requestJob i seq b s.jrn.nextJseq s) d.job := by
  obtain ⟨j, r, hj, ht⟩ := acceptRequest_eq i seq b s
  have taken : SameOrigin (requestJob i seq b s.jrn.nextJseq s) j := by
    have checked := checkRequest_origin (takeJseq s).2 i b (requestJob i seq b (takeJseq s).1 (takeJseq s).2)
    rw [hj] at checked
    refine SameOrigin.trans ?_ checked
    exact ⟨takeJseq_nextId s, rfl, rfl, rfl, rfl, rfl, takeJseq_tick s⟩
  have busy : (acceptRequest i seq b s).inst i = (mbxBusy i j.id (takeJseq s).2).inst i := by
    unfold State.inst
    rw [ht, begun_insts, enlisted_insts]
  obtain ⟨d, hd, origin⟩ := mem_begun_enlisted j.id r (requestCmd j (takeJseq s).2) (mbxBusy i j.id (takeJseq s).2)
  refine ⟨?_, ?_, d, ht ▸ hd, taken.trans origin⟩
  · rw [busy, mbxBusy, State.inst_modMbx_self]
  · rw [busy, mbxBusy, State.inst_modMbx_self]
    exact congrArg some taken.id

end Requests

/-! ### The answer of a served request (R56, R59, R64, R272, R402) -/

section Answered
variable {s : State} {i j : Nat} {c : Cmd} {r : Res}

/-- The frame unit and the customer packages are the same. -/
structure SettingsKept (s t : State) : Prop where
  frames : t.frames = s.frames
  cust : t.cust = s.cust

theorem SettingsKept.trans {s t u : State} (h : SettingsKept s t) (k : SettingsKept t u) : SettingsKept s u :=
  ⟨k.frames.trans h.frames, k.cust.trans h.cust⟩

theorem SameButJournal.settings {t : State} (h : SameButJournal s t) : SettingsKept s t :=
  ⟨by rw [h], by rw [h]⟩

theorem SameButUnits.settings {t : State} (h : SameButUnits s t) : SettingsKept s t :=
  ⟨by rw [h], by rw [h]⟩

theorem SameButVectors.settings {t : State} (h : SameButVectors s t) : SettingsKept s t :=
  ⟨by rw [h], by rw [h]⟩

theorem commit_settings (j : Nat) (s : State) : SettingsKept s (commit j s) :=
  ⟨by rw [commit_same], by rw [commit_same]⟩

theorem release_settings (c : Cmd) (r : Res) (s : State) : SettingsKept s (release c r s) := by
  obtain ⟨t, ht, h | h⟩ := release_cases c r s
  · rw [h]
    exact ht.settings
  · rw [h]
    exact ht.settings.trans (commit_settings _ t)

/-- The state at the release of a result: its outputs are written, and the key it carries is entered. -/
def released (c : Cmd) (r : Res) (s : State) : State := release c r (writeOutputs c.job r s)

/-- The command as it stands at the release of its result. -/
def atRelease (c : Cmd) (r : Res) (s : State) : Cmd := ((released c r s).cmd? c.job.id).getD c

/-- The state in which the response of a released request goes out: its energy is counted, its journal entry closed and its command
gone (R64). -/
def answering (i : Nat) (c : Cmd) (r : Res) (s : State) : State :=
  let s2 := addEnergy i (min max32 c.prog.energy) (released c r s)
  enterWaiting ((if journalFull s2 (atRelease c r s) r.status then
    closeCommand (atRelease c r s) r.status (r.bytes ++ r.resp) s2 else s2).dropCmd c.job.id)

theorem answerRequest_eq (h : c.job.opcode ≠ 0x0102) {s' : State} {r' : Res} (hs : frmSettled c r (custSettled c r s) = (s', r')) :
    answerRequest i c r s = respond i
      (responseBytes (atRelease c r' s') (r'.answered s' c.job.opcode) (s'.inst i).mbx.seq s'.tick) (answering i c r' s') := by
  have stays : ¬(c.job.opcode = 0x0102 ∧ r'.status = .ok) := fun hc => h hc.1
  unfold answerRequest
  rw [hs]
  exact if_neg stays

theorem answering_settings (i : Nat) (c : Cmd) (r : Res) (s : State) : SettingsKept s (answering i c r s) := by
  have counted (t : State) (e : Nat) : SettingsKept t (addEnergy i e t) := ⟨rfl, rfl⟩
  have closed (d : Cmd) (t : State) : SettingsKept t (if journalFull t d r.status then
      closeCommand d r.status (r.bytes ++ r.resp) t else t) := by
    split
    · exact (closeCommand_same d r.status _ t).settings
    · exact ⟨rfl, rfl⟩
  have dropped (t : State) : SettingsKept t (t.dropCmd c.job.id) := ⟨rfl, rfl⟩
  have freed := (writeOutputs_same c.job r s).settings.trans (release_settings c r _)
  exact (((freed.trans (counted _ _)).trans (closed _ _)).trans (dropped _)).trans (enterWaiting_same _).settings

theorem cmd_answering (i : Nat) (c : Cmd) (r : Res) (s : State) : (answering i c r s).cmd? c.job.id = none := by
  unfold answering
  rw [cmd_congr (enterWaiting_cmds _)]
  exact cmd_dropCmd_self _ _

/-- A command is released with its job and its energy. -/
theorem atRelease_kept {d : Cmd} (r : Res) (h : s.cmd? c.job.id = some d) (hj : d.job = c.job) (he : d.prog.energy = c.prog.energy) :
    (atRelease c r s).job = c.job ∧ (atRelease c r s).prog.energy = c.prog.energy := by
  have written : (writeOutputs c.job r s).cmd? c.job.id = some d := by
    rw [writeOutputs_same]
    exact h
  obtain ⟨e, he', hjob, henergy⟩ := cmd_release r written
  unfold atRelease released
  rw [he']
  exact ⟨hjob.trans hj, henergy.trans he⟩

theorem responseBytes_congr {d : Cmd} (hj : d.job = c.job) (he : d.prog.energy = c.prog.energy) (seq n : Nat) :
    responseBytes d r seq n = responseBytes c r seq n := by
  unfold responseBytes
  rw [hj, he]

/-- A change of customer packages leaves the time that TIME.READ answers (R260). -/
theorem answered_custSettled (c : Cmd) (r : Res) (s : State) :
    r.answered (custSettled c r s) c.job.opcode = r.answered s c.job.opcode := by
  by_cases h : c.job.opcode = 0x0901
  · rw [custSettled_other (by rw [h]; decide) (by rw [h]; decide)]
  · unfold Res.answered
    rw [if_neg fun hc => h hc.1, if_neg fun hc => h hc.1]

/-- Where a request changes no frame configuration, its response carries its result, its SEQ and the present tick (R56). -/
theorem answerRequest_resp (hc : s.cmd? c.job.id = some c) (h : c.job.opcode ≠ 0x0102) (hf : frmConfig c.job.opcode = none) :
    ((answerRequest i c r s).inst i).mbx.resp =
      writeBuf [] 0 ((responseBytes c (r.answered s c.job.opcode) (s.inst i).mbx.seq s.tick).take 4096) := by
  obtain ⟨d, hd, hj, he⟩ := cmd_custSettled r hc
  obtain ⟨hjob, henergy⟩ := atRelease_kept r hd hj he
  rw [answerRequest_eq h (frmSettled_other _ hf), respond_mbx, responseBytes_congr hjob henergy, answered_custSettled,
    custSettled_mbx, custSettled_tick]

/-- The request of mailbox `i` has been served, and nothing holds its response (R56, R58, R59, R110). -/
structure Answerable (i j : Nat) (c : Cmd) (r : Res) (s : State) : Prop where
  busy : (s.inst i).mbx.state = .busy
  cur : (s.inst i).mbx.cur = some j
  cmd : s.cmd? j = some c
  res : c.prog.res = some r
  phase : c.prog.phase = .returned
  wait : c.prog.wait ≠ some .object
  first : s.answersFirst c = false
  halted : s.pkg.halted = false
  perst : s.pkg.perstHigh = true
  power : s.pkg.mode.mainPower = true
  ide : s.ideBlocked i = false
  pages : s.missingPage i (r.spans c.job) = none

theorem exec_mailboxRequestDone (h : Answerable i j c r s) :
    exec (.mailboxRequestDone i) s = .next (fitShelf c.job.targetInst (answerRequest i c r s)) := by
  have cmd : (s.inst i).mbx.cur.bind s.cmd? = some c := by rw [h.cur]; exact h.cmd
  change execMailboxRequestDone i s = _
  unfold execMailboxRequestDone
  rw [h.busy, cmd]
  dsimp only
  rw [h.res]
  dsimp only
  rw [if_neg (by simp [h.phase, h.wait, h.first, h.halted, h.perst, h.power, h.ide]), h.pages]

/-- The mailbox is DONE, the command is gone, and frame configuration and customer packages stand as the request changed them. -/
theorem mailboxRequestDone_answered (h : Answerable i j c r s) (hop : c.job.opcode ≠ 0x0102) :
    ∃ t, exec (.mailboxRequestDone i) s = .next t ∧ (t.inst i).mbx.state = .done ∧ (t.inst i).mbx.cur = none ∧ t.cmd? j = none ∧
      t.frames = (frmSettled c r (custSettled c r s)).1.frames ∧ t.cust.pkgs = (custSettled c r s).cust.pkgs ∧
      (frmConfig c.job.opcode = none → (t.inst i).mbx.resp = writeBuf [] 0
        ((responseBytes c (r.answered s c.job.opcode) (s.inst i).mbx.seq s.tick).take 4096)) := by
  have hj := cmd_id h.cmd
  obtain ⟨s', r', hs⟩ : ∃ s' r', frmSettled c r (custSettled c r s) = (s', r') := ⟨_, _, rfl⟩
  have shelves := fitShelf_same c.job.targetInst (answerRequest i c r s)
  have answer := answerRequest_eq (i := i) hop hs
  have settings : SettingsKept s' (answerRequest i c r s) := by
    rw [answer]
    exact (answering_settings i c r' s').trans (respond_same i _ _).settings
  have cust : s'.cust = (custSettled c r s).cust := by
    rw [← frmSettled_cust (custSettled c r s) c r, hs]
  have mbx : ((answerRequest i c r s).inst i).mbx.state = .done ∧ ((answerRequest i c r s).inst i).mbx.cur = none := by
    rw [answer, respond_mbx]
    exact ⟨rfl, rfl⟩
  have gone : (answerRequest i c r s).cmd? j = none := by
    rw [answer, respond_same, ← hj]
    exact cmd_answering i c r' s'
  refine ⟨_, exec_mailboxRequestDone h, ?_⟩
  rw [shelves]
  exact ⟨mbx.1, mbx.2, gone, settings.frames.trans (by rw [hs]), by rw [settings.cust, cust], answerRequest_resp (hj ▸ h.cmd) hop⟩

theorem exec_mailboxHoldRelease (hc : s.cmd? j = some c) (hm : c.job.mbx = true) (hw : c.prog.wait = some .object)
    (hh : s.heldForEntries c = false) :
    exec (.mailboxHoldRelease j) s = .next (s.modProg j fun p => { p with wait := none }) := by
  change execMailboxHoldRelease j s = _
  unfold execMailboxHoldRelease
  rw [hc]
  exact congrArg Host.Outcome.next (if_pos (by simp [hm, hw, hh]))

end Answered

/-- Settles O4: the SYS verbs are verbs whose checks pass; the buffer and the doorbell are read off the mailbox's state; a request comes
in flight as it was accepted; and what follows the change at DONE leaves that change, the mailbox's SEQ and the command's energy. -/
theorem systemVerbsAndMailboxes : Obligations.SystemVerbsAndMailboxes := by
  unfold Obligations.SystemVerbsAndMailboxes
  refine ⟨fun s j c => ⟨sysNop_ended, sysFeatures_ended, sysStandby_ended⟩, fun s i o v hr =>
      ⟨mailboxBufferWrite_reads hr, fun hc => ?closed, fun hc hb => ?busy,
        fun hc hb hw => ⟨fun hbad => ?malformed, fun hgood => ?taken⟩⟩,
    fun s i c => ⟨fun j r hb hcur hc hres hphase hwait hfirst hhalt hperst hpower hide hpages hop => ?answered,
      fun j => exec_mailboxHoldRelease⟩⟩
  case closed => rw [exec_mailboxDoorbell hr, mailboxDoorbellAt_closed hr hc]
  case busy => rw [exec_mailboxDoorbell hr, mailboxDoorbellAt_busy hr hc hb]
  case malformed =>
    refine ⟨_, exec_mailboxDoorbell hr, ?_⟩
    rw [mailboxDoorbellAt_open hr hc hb hw rfl, if_pos hbad, respond_mbx, withSeq, State.inst_modMbx_self]
    exact ⟨rfl, rfl, readBuf_respHeader_status _ _ _ _ _ _ _⟩
  case taken =>
    obtain ⟨busy, cur, d, hd, origin⟩ := acceptRequest_busy i (v % 65536) (readBuf (s.inst i).mbx.req 0 4096) (withSeq i v s)
    refine ⟨_, exec_mailboxDoorbell hr, ?_⟩
    rw [mailboxDoorbellAt_open hr hc hb hw rfl, if_neg (by simp [hgood])]
    exact ⟨busy, cur, d, hd, origin.id, origin.inst, origin.src, origin.opcode, origin.jseq, origin.acceptTick⟩
  case answered =>
    exact mailboxRequestDone_answered ⟨hb, hcur, hc, hres, hphase, hwait, hfirst, hhalt, hperst, hpower, hide, hpages⟩ hop

end Sys2Proof.Machine
end
section
/-! PROOFS. Submission queues and completion rings (O6): a turn of the fetch with an entry of one unit, the posting of a result, and the
timer of a completion ring. -/

namespace Sys2Proof.Machine

/-! ### Bytes of an entry -/

section Bytes

theorem fit_getD (n : Nat) (b : List Byte) {k : Nat} (h : k < n) : (fit n b).getD k 0 = b.getD k 0 := by
  simp only [fit, zeros, List.getD_eq_getElem?_getD, List.getElem?_take, h, if_true, List.getElem?_append, List.getElem?_replicate]
  split
  · rfl
  next hk =>
    rw [List.getElem?_eq_none (Nat.le_of_not_lt hk)]
    split
    · rfl
    · rfl

/-- A field within the first `m` bytes is read alike where the bytes are cut or filled to `m`. -/
theorem fld_fit (m : Nat) (b : List Byte) {o n : Nat} (h : o + n ≤ m) : fld (fit m b) o n = fld b o n := by
  refine congrArg unle (List.ext_getElem (by simp [slice, fit_length]) fun k hk _ => ?_)
  have hkn : k < n := by simpa [slice, fit_length] using hk
  have at' (b : List Byte) (hb : k < (slice b o n).length) : (slice b o n)[k] = b.getD (o + k) 0 := by
    have drop : (slice b o n).getD k 0 = (b.drop o).getD k 0 := fit_getD n (b.drop o) hkn
    rw [List.getD_eq_getElem _ _ hb] at drop
    simpa [List.getD_eq_getElem?_getD] using drop
  rw [at', at', fit_getD m b (by omega)]

end Bytes

/-! ### Queues and rings -/

section Registers
variable {s t : State} {i k : Nat}

theorem inst_modSq (i q : Nat) (f : Sq → Sq) (s : State) (k : Nat) : ∃ l, (s.modSq i q f).inst k = { s.inst k with sqs := l } := by
  by_cases h : k = i
  · subst h
    exact ⟨_, State.inst_modInst_self s k _⟩
  · exact ⟨(s.inst k).sqs, State.inst_modInst_ne s i k _ h⟩

theorem inst_modCq (i n : Nat) (f : Cq → Cq) (s : State) (k : Nat) : ∃ l, (s.modCq i n f).inst k = { s.inst k with cqs := l } := by
  by_cases h : k = i
  · subst h
    exact ⟨_, State.inst_modInst_self s k _⟩
  · exact ⟨(s.inst k).cqs, State.inst_modInst_ne s i k _ h⟩

theorem sq_modSq_ne {q q' : Nat} (f : Sq → Sq) (h : q' ≠ q) : (s.modSq i q f).sq i q' = s.sq i q' := by
  simp [State.sq, State.modSq, tget_tset_ne _ _ _ _ _ h]

/-- Free slots are counted from the ring, the commands in flight, and the rings that the queues share (R84). -/
theorem freeSlots_congr {c : Nat} (hcmds : t.cmds = s.cmds) (hcqs : (t.inst i).cqs = (s.inst i).cqs)
    (hgen : (t.inst i).gen = (s.inst i).gen) (hreset : (t.inst i).resetting = (s.inst i).resetting)
    (hsq : ∀ q, (t.sq i q).cq = (s.sq i q).cq) : t.freeSlots i c = s.freeSlots i c := by
  have ring : t.cq i c = s.cq i c := by simp only [State.cq, hcqs]
  have reserved : t.reserved i c = s.reserved i c := by
    unfold State.reserved
    rw [hcmds]
    refine congrArg List.length (List.filter_congr fun d _ => ?_)
    by_cases hd : d.job.inst = i
    · subst hd
      have current : t.current d.job = s.current d.job := by
        unfold State.current
        rw [hgen, hreset]
      rw [current]
      cases d.job.src with
      | sq q => dsimp only; rw [hsq]
      | mbx => rfl
    · rw [beq_eq_false_iff_ne.2 hd, Bool.false_and, Bool.false_and, Bool.false_and, Bool.false_and]
  unfold State.freeSlots
  rw [ring, reserved]

/-- A change of a submission queue that leaves its ring leaves the free slots. -/
theorem freeSlots_modSq (q c : Nat) {f : Sq → Sq} (hf : (f (s.sq i q)).cq = (s.sq i q).cq) :
    (s.modSq i q f).freeSlots i c = s.freeSlots i c := by
  obtain ⟨l, hl⟩ := inst_modSq i q f s i
  refine freeSlots_congr rfl (by rw [hl]) (by rw [hl]) (by rw [hl]) fun q' => ?_
  by_cases h : q' = q
  · subst h
    rw [State.sq_modSq_self, hf]
  · rw [sq_modSq_ne f h]

end Registers

/-! ### A turn of the fetch (R81) -/

section Fetch
variable {s : State} {i q : Nat} {b : List Byte}

/-- The queue whose turn it is may be fetched from, and acceptance does not wait for a JSEQ (R81, R449). -/
theorem turn_facts {n : Nat} (h : s.turn = some n) : s.jseqWait = false ∧ s.mayFetch (n / 32) (n % 32) = true := by
  unfold State.turn at h
  split at h
  next hc =>
    simp only [Bool.and_eq_true, Bool.not_eq_true'] at hc
    exact ⟨hc.1.2, List.find?_some (p := fun n => s.mayFetch (n / 32) (n % 32)) h⟩
  · exact absurd h (by simp)

theorem mayFetch_freeSlots (h : s.mayFetch i q = true) : s.freeSlots i (s.sq i q).cq ≠ 0 := by
  unfold State.mayFetch at h
  simp only [Bool.and_eq_true, decide_eq_true_eq] at h
  exact Nat.pos_iff_ne_zero.1 h.2

theorem exec_queueFetch (hq : q < 32) (ht : s.turn = some (32 * i + q)) (ans : HostAns) :
    exec (.queueFetch ans) s = .next (takeTurn i q ans s) := by
  have hi : (32 * i + q) / 32 = i := by omega
  have hm : (32 * i + q) % 32 = q := by omega
  change execQueueFetch ans s = _
  unfold execQueueFetch
  rw [ht]
  dsimp only
  rw [hi, hm]

/-- The state in which the read of a turn is answered: the round robin stands at the queue, and the read is out (R81). -/
def turnRead (i q : Nat) (s : State) : State :=
  let x := s.sq i q
  let a := x.base + 16 * x.head + x.buf.length
  emit (.read i a (16 * min 64 x.unread) (s.tagOf i false)) (askPage i a (16 * min 64 x.unread) { s with rr := 32 * i + q })

theorem askPage_same (i a n : Nat) (s : State) : askPage i a n s = { s with out := (askPage i a n s).out } := by
  unfold askPage
  split
  · rfl
  · rfl

/-- The read of a turn changes the round robin and the outward actions alone. -/
theorem turnRead_same (i q : Nat) (s : State) : turnRead i q s = { s with rr := 32 * i + q, out := (turnRead i q s).out } := by
  unfold turnRead
  dsimp only
  rw [askPage_same]
  rfl

theorem takeTurn_data (hbuf : (s.sq i q).buf = []) : takeTurn i q (.data b) s =
    readEntries i q 320 (min 64 (s.sq i q).unread) (fit (16 * min 64 (s.sq i q).unread) b)
      ((turnRead i q s).modSq i q fun x => { x with buf := [] }) := by
  unfold takeTurn turnRead
  simp [hbuf]

theorem readEntries_end (fuel : Nat) (b : List Byte) (s : State) : readEntries i q fuel 0 b s = s := by
  cases fuel with
  | zero => rfl
  | succ fuel => exact if_pos (.inr rfl)

/-- The bytes begin with an entry of one unit, which is all that its queue has published (R79, R80). -/
structure OneUnit (i q : Nat) (b : List Byte) (s : State) : Prop where
  published : ((s.sq i q).tail + (s.sq i q).units - (s.sq i q).head) % (s.sq i q).units = 1
  inside : (s.sq i q).head < (s.sq i q).units
  length : bits (fld b 0 2) 8 0 = 1
  opcode : fld b 2 2 ≠ 0

/-- An entry of one unit is accepted where its ring has a slot and a JSEQ is reserved (R83, R84). -/
theorem readEntries_unit (h : OneUnit i q b s) (hfree : s.freeSlots i (s.sq i q).cq ≠ 0) (hseq : s.jseqWait = false) (fuel : Nat) :
    readEntries i q (fuel + 1) 1 b s = acceptEntry i q b none (advance i q 1 false s) := by
  obtain ⟨hpub, hin, hlen, hop⟩ := h
  unfold readEntries
  dsimp only
  rw [hpub, hlen, if_neg (by decide), if_neg hop, if_neg (by simp [hfree, hseq]), if_neg (by decide), if_neg (by omega),
    if_neg (by decide), if_neg (by decide), readEntries_end]

/-- The job of an entry as it is taken from its queue, under JSEQ `n` (R65, R75). -/
def entryJob (i q : Nat) (b : List Byte) (n : Nat) (s : State) : Job :=
  { id := s.nextId, src := .sq q, inst := i, gen := (s.inst i).gen, opcode := fld b 2 2, tag := fld b 4 2,
    handle := nullHandle, param := 0, jseq := n, acceptTick := s.tick, acceptTq := s.time.quality.code,
    jfull := bit (fld b 0 2) 11, notify := bit (fld b 0 2) 12,
    order := bit (fld b 0 2) 9 || bit (fld b 0 2) 10, fence := bit (fld b 0 2) 10 }

/-- An accepted entry takes the next JSEQ, is read, and begins (R65, R83). -/
theorem acceptEntry_eq (i q : Nat) (b : List Byte) (s : State) : ∃ j r,
    readEntry shapes b (entryJob i q b (takeJseq s).1 (takeJseq s).2) = (j, r) ∧
    acceptEntry i q b none s = begun j.id r (enlisted { job := j } (takeJseq s).2) :=
  ⟨_, _, rfl, rfl⟩

/-- The checks of an entry read its header and body into the job, which stays the one that was accepted (R83). -/
theorem readEntry_origin (b : List Byte) {j : Job} (hop : j.opcode = fld b 2 2) (htag : j.tag = fld b 4 2) :
    SameOrigin j (readEntry shapes b j).1 := by
  unfold readEntry
  dsimp only
  split
  · exact ⟨rfl, rfl, rfl, hop.symm, htag.symm, rfl, rfl⟩
  · split
    · exact ⟨rfl, rfl, rfl, hop.symm, htag.symm, rfl, rfl⟩
    · split
      · split
        · exact ⟨rfl, rfl, rfl, hop.symm, htag.symm, rfl, rfl⟩
        · exact ⟨rfl, rfl, rfl, hop.symm, htag.symm, rfl, rfl⟩
      · split
        · exact ⟨rfl, rfl, rfl, hop.symm, htag.symm, rfl, rfl⟩
        · exact ⟨rfl, rfl, rfl, hop.symm, htag.symm, rfl, rfl⟩

theorem acceptEntry_accepts (i q : Nat) (b : List Byte) (s : State) :
    (acceptEntry i q b none s).insts = s.insts ∧ (acceptEntry i q b none s).rr = s.rr ∧
    ∃ d ∈ (acceptEntry i q b none s).cmds, SameOrigin (entryJob i q b s.jrn.nextJseq s) d.job := by
  obtain ⟨j, r, hj, ht⟩ := acceptEntry_eq i q b s
  have taken : SameOrigin (entryJob i q b s.jrn.nextJseq s) j := by
    have read := readEntry_origin b (j := entryJob i q b (takeJseq s).1 (takeJseq s).2) rfl rfl
    rw [hj] at read
    refine SameOrigin.trans ?_ read
    exact ⟨takeJseq_nextId s, rfl, rfl, rfl, rfl, rfl, takeJseq_tick s⟩
  obtain ⟨d, hd, origin⟩ := mem_begun_enlisted j.id r { job := j } (takeJseq s).2
  refine ⟨?_, ?_, d, ht ▸ hd, taken.trans origin⟩
  · rw [ht, begun_insts, enlisted_insts, takeJseq_insts]
  · rw [ht, begun_rr, enlisted_rr, takeJseq_rr]

/-- The state in which the units that a turn has read are taken from staging. -/
def turnTaken (i q : Nat) (s : State) : State := (turnRead i q s).modSq i q fun x => { x with buf := [] }

theorem turnTaken_sq (i q : Nat) (s : State) : (turnTaken i q s).sq i q = { s.sq i q with buf := [] } := by
  rw [turnTaken, State.sq_modSq_self, turnRead_same]
  rfl

theorem turnTaken_oneUnit (h : OneUnit i q b s) : OneUnit i q (fit 16 b) (turnTaken i q s) := by
  obtain ⟨hpub, hin, hlen, hop⟩ := h
  refine ⟨?_, ?_, ?_, ?_⟩
  · rw [turnTaken_sq]
    exact hpub
  · rw [turnTaken_sq]
    exact hin
  · rw [fld_fit 16 b (by decide)]
    exact hlen
  · rw [fld_fit 16 b (by decide)]
    exact hop

/-- Taking the units from staging leaves the slots of the ring (R84). -/
theorem turnTaken_freeSlots (c : Nat) : (turnTaken i q s).freeSlots i c = s.freeSlots i c := by
  rw [turnTaken, freeSlots_modSq _ _ rfl, turnRead_same]
  rfl

theorem turnTaken_jseqWait : (turnTaken i q s).jseqWait = s.jseqWait := by
  rw [turnTaken, turnRead_same]
  rfl

/-- A turn that finds one published unit with an entry accepts it (R65, R81, R83). -/
theorem takeTurn_unit (ht : s.turn = some (32 * i + q)) (hq : q < 32) (h : OneUnit i q b s) (hbuf : (s.sq i q).buf = []) :
    takeTurn i q (.data b) s = acceptEntry i q (fit 16 b) none (advance i q 1 false (turnTaken i q s)) := by
  obtain ⟨hseq, hmay⟩ := turn_facts ht
  rw [show (32 * i + q) / 32 = i by omega, show (32 * i + q) % 32 = q by omega] at hmay
  have unread : (s.sq i q).unread = 1 := by
    have inside := h.inside
    simp only [Sq.unread, h.published, hbuf, List.length_nil]
    omega
  rw [takeTurn_data hbuf, unread]
  refine readEntries_unit (turnTaken_oneUnit h) ?_ (turnTaken_jseqWait.trans hseq) 319
  rw [turnTaken_sq, turnTaken_freeSlots]
  exact mayFetch_freeSlots hmay

theorem queueFetch_accepts (ht : s.turn = some (32 * i + q)) (hq : q < 32) (h : OneUnit i q b s) (hbuf : (s.sq i q).buf = []) :
    ∃ t, exec (.queueFetch (.data b)) s = .next t ∧ t.rr = 32 * i + q ∧
      (t.sq i q).head = ((s.sq i q).head + 1) % (s.sq i q).units ∧
      ∃ c ∈ t.cmds, SameOrigin (entryJob i q b s.jrn.nextJseq s) c.job := by
  obtain ⟨insts, rr, d, hd, origin⟩ := acceptEntry_accepts i q (fit 16 b) (advance i q 1 false (turnTaken i q s))
  have accepted : SameOrigin (entryJob i q b s.jrn.nextJseq s) d.job := by
    refine SameOrigin.trans ?_ origin
    rw [advance, turnTaken, turnRead_same]
    exact ⟨rfl, rfl, rfl, fld_fit 16 b (by decide), fld_fit 16 b (by decide), rfl, rfl⟩
  have head : ((advance i q 1 false (turnTaken i q s)).sq i q).head = ((s.sq i q).head + 1) % (s.sq i q).units := by
    rw [advance, State.sq_modSq_self, turnTaken_sq]
    rfl
  have robin : (advance i q 1 false (turnTaken i q s)).rr = 32 * i + q := by
    rw [advance, turnTaken, turnRead_same]
    rfl
  refine ⟨_, exec_queueFetch hq ht _, ?_⟩
  rw [takeTurn_unit ht hq h hbuf]
  refine ⟨rr.trans robin, ?_, d, hd, accepted⟩
  unfold State.sq State.inst at head ⊢
  rw [insts]
  exact head

/-- A failed read stops the queue and counts as a translation fault of its function (R82, R97, R101). -/
theorem fetchFault_stops (i q cause : Nat) (s : State) :
    ((fetchFault i q cause s).sq i q).fetchFault = true ∧ ((fetchFault i q cause s).sq i q).fetchStopped = true ∧
    ((fetchFault i q cause s).inst i).xlatAccess = 0 ∧ ((fetchFault i q cause s).inst i).xlatCause = cause ∧
    (fetchFault i q cause s).cmds = s.cmds := by
  have stopped := State.sq_modSq_self s i q fun x => { x with fetchFault := true, fetchStopped := true }
  unfold State.sq at stopped ⊢
  rw [fetchFault, noteHostMemory_inst, noteHostMemory_cmds, xlatFault, State.inst_modInst_self]
  dsimp only
  rw [stopped]
  exact ⟨rfl, rfl, rfl, rfl, rfl⟩

theorem queueFetch_timeout (ht : s.turn = some (32 * i + q)) (hq : q < 32) :
    ∃ t, exec (.queueFetch .timeout) s = .next t ∧ (t.sq i q).fetchFault = true ∧ (t.sq i q).fetchStopped = true ∧
      (t.inst i).xlatAccess = 0 ∧ (t.inst i).xlatCause = 2 ∧ t.cmds = s.cmds := by
  obtain ⟨fault, stopped, access, cause, cmds⟩ := fetchFault_stops i q 2 (turnRead i q s)
  exact ⟨_, exec_queueFetch hq ht _, fault, stopped, access, cause, cmds.trans (by rw [turnRead_same])⟩

end Fetch

/-! ### Vectors of completion rings (R34, R87) -/

section Signalled
variable {s : State} {i n : Nat}

/-- The state in which every completion of a ring is signalled. -/
def signalled (i n : Nat) (s : State) : State := s.modCq i n fun x => { x with unsignalled := [] }

theorem raiseCq_raises (hien : (s.cq i n).ien = true) (hh : s.pkg.halted = false) (hr : (s.inst i).resetting = false) :
    raiseCq i n s = raiseVector i (s.cq i n).vector (signalled i n s) := by
  unfold raiseCq
  exact if_pos (by simp [hien, hh, hr])

theorem raiseVector_cq (i v : Nat) (s : State) (k n : Nat) : (raiseVector i v s).cq k n = s.cq k n := by
  obtain ⟨p, hp⟩ := raiseVector_inst i v s k
  unfold State.cq
  rw [hp]

/-- Raising a ring's vector leaves the completions it holds. -/
theorem raiseCq_w (i n : Nat) (s : State) : ((raiseCq i n s).cq i n).w = (s.cq i n).w := by
  unfold raiseCq
  dsimp only
  split
  · rw [raiseVector_cq, State.cq_modCq_self]
  · rfl

theorem exec_coalesceTimerExpiry {x : Nat} {l : List Nat} (hl : (s.cq i n).unsignalled = x :: l) (ht : (s.cq i n).timeUs ≠ 0)
    (hage : (x + 1000 * (s.cq i n).timeUs + 999) / 1000 * 1000 ≤ s.tick) :
    exec (.coalesceTimerExpiry i (.completion n)) s = .next (raiseCq i n s) := by
  change Host.Outcome.next (cqTimer i n s) = _
  unfold cqTimer
  exact congrArg Host.Outcome.next (if_pos (by simp [hl, ht, hage]))

/-- A ring's vector is raised, or left pending while it is masked, and the ring's completions are signalled (R34, R87). -/
theorem raiseCq_signals (hien : (s.cq i n).ien = true) (hh : s.pkg.halted = false) (hr : (s.inst i).resetting = false)
    (he : (s.inst i).msixEn = true) : ((raiseCq i n s).cq i n).unsignalled = [] ∧
      ((s.inst i).msixMask = true → (raiseCq i n s).out = s.out ∧ (s.cq i n).vector ∈ ((raiseCq i n s).inst i).pba) ∧
      ((s.inst i).msixMask = false → (s.msixEntry i (s.cq i n).vector).masked = false →
        (raiseCq i n s).out = s.out ++ [.msix i (s.cq i n).vector]) := by
  obtain ⟨cqs, inst⟩ : ∃ l, (signalled i n s).inst i = { s.inst i with cqs := l } := inst_modCq i n _ s i
  have resetting : ((signalled i n s).inst i).resetting = false := by rw [inst]; exact hr
  have enabled : ((signalled i n s).inst i).msixEn = true := by rw [inst]; exact he
  have mask : ((signalled i n s).inst i).msixMask = (s.inst i).msixMask := by rw [inst]
  have entry : (signalled i n s).msixEntry i (s.cq i n).vector = s.msixEntry i (s.cq i n).vector := by
    unfold State.msixEntry
    rw [inst]
  rw [raiseCq_raises hien hh hr]
  refine ⟨?_, fun hm => ?_, fun hm hv => ?_⟩
  · rw [raiseVector_cq, signalled, State.cq_modCq_self]
  · rw [raiseVector_masked resetting enabled hh (mask.trans hm), State.inst_modInst_self]
    exact ⟨rfl, List.mem_cons_self⟩
  · rw [raiseVector_sent resetting enabled hh (mask.trans hm) (by rw [entry]; exact hv)]
    rfl

/-- A ring whose one completion is 1 µs old, in a function whose vectors are masked. -/
def maskedRing : State :=
  { State.reset with
    tick := 1000
    insts := [(1, { inst0 1 with
      msixEn := true, msixMask := true,
      cqs := [(2, { ien := true, vector := 7, timeUs := 1, unsignalled := [0] })] })] }

/-- The timer's clause on a concrete ring: nothing is sent, and vector 7 is pending. -/
theorem maskedRing_pends : ∃ t, exec (.coalesceTimerExpiry 1 (.completion 2)) maskedRing = .next t ∧ t.out = [] ∧ 7 ∈ (t.inst 1).pba := by
  obtain ⟨-, pends, -⟩ := raiseCq_signals (s := maskedRing) (i := 1) (n := 2) rfl rfl rfl rfl
  obtain ⟨out, pba⟩ := pends rfl
  exact ⟨_, exec_coalesceTimerExpiry (s := maskedRing) (i := 1) (n := 2) rfl (by decide) (by decide), out, pba⟩

end Signalled

/-! ### The posting of a result (R24, R85, R104) -/

section Posted
variable {s : State} {j q : Nat} {c : Cmd} {r : Res}

theorem cq_of_insts {t : State} (h : t.insts = s.insts) (i n : Nat) : t.cq i n = s.cq i n := by
  unfold State.cq State.inst
  rw [h]

theorem modSq_cq (i q : Nat) (f : Sq → Sq) (s : State) (n : Nat) : (s.modSq i q f).cq i n = s.cq i n := by
  obtain ⟨l, hl⟩ := inst_modSq i q f s i
  unfold State.cq
  rw [hl]

theorem addEnergy_cq (i e : Nat) (s : State) (n : Nat) : (addEnergy i e s).cq i n = s.cq i n := by
  unfold State.cq
  rw [addEnergy, State.inst_modInst_self]

/-- The release of a result leaves the queues and rings as they were. -/
theorem released_queues (c : Cmd) (r : Res) (s : State) (i : Nat) : (∀ q, (released c r s).sq i q = s.sq i q) ∧
    ∀ n, (released c r s).cq i n = s.cq i n := by
  obtain ⟨p, hp⟩ := release_inst c r (writeOutputs c.job r s) i
  have inst : (released c r s).inst i = { s.inst i with kept := p } := by
    rw [released, hp, writeOutputs_same]
    rfl
  refine ⟨fun q => ?_, fun n => ?_⟩
  · unfold State.sq
    rw [inst]
  · unfold State.cq
    rw [inst]

theorem raiseCq_cmds (i n : Nat) (s : State) : (raiseCq i n s).cmds = s.cmds := by
  unfold raiseCq
  dsimp only
  split
  · rw [raiseVector_same]
    rfl
  · rfl

/-- A posted result takes its command out of flight and fills one slot of the ring of its queue (R85). -/
theorem post_posts (c : Cmd) (r : Res) (q : Nat) (s : State) : (post c r q s).cmd? c.job.id = none ∧
    ((post c r q s).cq c.job.inst (s.sq c.job.inst q).cq).w = (s.cq c.job.inst (s.sq c.job.inst q).cq).w + 1 := by
  obtain ⟨sq, cq⟩ := released_queues c r s c.job.inst
  rw [← sq, ← cq]
  unfold post
  extract_lets i s1 c1 n x b s2 last s3 s4 s5 s6 s7
  have written : (s3.cq i n).w = (s1.cq i n).w + 1 := by
    unfold s3
    rw [State.cq_modCq_self, cq_of_insts (hostWrite_insts s1 _ _ _ _)]
  have journalled : s5.insts = s4.insts := by
    unfold s5
    split
    · exact closeCommand_insts s4 _ _ _
    · rw [countInBatch_same]
  have marked : s7.cq i n = s6.cq i n ∧ s7.cmds = s6.cmds := by
    unfold s7
    split
    · exact ⟨modSq_cq _ _ _ _ _, rfl⟩
    · exact ⟨rfl, rfl⟩
  have filled : (s7.cq i n).w = (s1.cq i n).w + 1 := by
    rw [marked.1, cq_of_insts (enterWaiting_insts _), cq_of_insts (State.dropCmd_insts _ _), cq_of_insts journalled, addEnergy_cq,
      written]
  have gone : s7.cmd? c.job.id = none := by
    rw [cmd_congr marked.2, cmd_congr (enterWaiting_cmds _)]
    exact cmd_dropCmd_self _ _
  split
  · exact ⟨(cmd_congr (raiseCq_cmds _ _ _) _).trans gone, (raiseCq_w _ _ _).trans filled⟩
  · exact ⟨gone, filled⟩

/-- The end of a wrap drain leaves the count of discarded results. -/
theorem drainIfDone_stale (i : Nat) (s : State) : ((drainIfDone i s).inst i).stale = (s.inst i).stale := by
  unfold drainIfDone
  split
  · rw [endDrain, State.inst_modInst_self]
  · rfl

/-- A discarded result takes its command out of flight and is counted (R104). -/
theorem discard_counts (c : Cmd) (s : State) : (discard c s).cmd? c.job.id = none ∧
    ((discard c s).inst c.job.inst).stale = inc32 (s.inst c.job.inst).stale := by
  unfold discard
  extract_lets i s1
  have counted : (s1.inst i).stale = inc32 (s.inst i).stale := by
    unfold s1
    rw [State.inst_modInst_self, addEnergy, State.inst_modInst_self]
  have closed : (enterWaiting ((if c.job.jseq = 0 then s1 else closeCommand c .staleGeneration [] s1).dropCmd c.job.id)).insts =
      s1.insts := by
    rw [enterWaiting_insts, State.dropCmd_insts]
    split
    · rfl
    · exact closeCommand_insts s1 _ _ _
  refine ⟨?_, ?_⟩
  · rw [cmd_congr (drainIfDone_cmds _ _), cmd_congr (enterWaiting_cmds _)]
    exact cmd_dropCmd_self _ _
  · rw [drainIfDone_stale]
    unfold State.inst at counted ⊢
    rw [closed]
    exact counted

/-- A result in apex staging, of an entry of queue `q`, while the queue engine works (R24). -/
structure Staged (j q : Nat) (c : Cmd) (r : Res) (s : State) : Prop where
  cmd : s.cmd? j = some c
  src : c.job.src = .sq q
  res : c.prog.res = some r
  phase : c.prog.phase = .returned
  up : s.queuesUp = true

/-- A staged result is discarded where its generation is over, held where an order, a stream or its ring holds it, and posted else. -/
theorem exec_jobResultReturn (h : Staged j q c r s) : exec (.jobResultReturn j) s = .next (
    if !s.current c.job then fitShelf c.job.inst (discard c s)
    else if (c.job.order && !(s.earlier c).isEmpty) || s.ideBlocked c.job.inst || (s.cq c.job.inst (s.sq c.job.inst q).cq).writeStopped
      then s
    else match s.postMiss c r q with
      | some p => emit (.translate c.job.inst p) s
      | none => fitShelf c.job.inst (post c r q s)) := by
  change execJobResultReturn j s = _
  unfold execJobResultReturn
  rw [h.cmd]
  dsimp only
  rw [h.src, h.res]
  exact congrArg Host.Outcome.next (if_neg (by simp [h.phase, h.up]))

theorem jobResultReturn_posts (h : Staged j q c r s) (hcur : s.current c.job = true) (horder : c.job.order = true → s.earlier c = [])
    (hide : s.ideBlocked c.job.inst = false) (hring : (s.cq c.job.inst (s.sq c.job.inst q).cq).writeStopped = false)
    (hpages : s.postMiss c r q = none) : ∃ t, exec (.jobResultReturn j) s = .next t ∧ t.cmd? j = none ∧
      (t.cq c.job.inst (s.sq c.job.inst q).cq).w = (s.cq c.job.inst (s.sq c.job.inst q).cq).w + 1 := by
  have first : (c.job.order && !(s.earlier c).isEmpty) = false := by
    cases ho : c.job.order with
    | false => rfl
    | true => rw [horder ho]; rfl
  refine ⟨_, exec_jobResultReturn h, ?_⟩
  rw [if_neg (by simp [hcur]), if_neg (by simp [first, hide, hring]), hpages]
  dsimp only
  rw [fitShelf_same, ← cmd_id h.cmd]
  exact post_posts c r q s

theorem jobResultReturn_discards (h : Staged j q c r s) (hcur : s.current c.job = false) :
    ∃ t, exec (.jobResultReturn j) s = .next t ∧ t.cmd? j = none ∧
      (t.inst c.job.inst).stale = inc32 (s.inst c.job.inst).stale := by
  refine ⟨_, exec_jobResultReturn h, ?_⟩
  rw [if_pos (by simp [hcur]), fitShelf_same, ← cmd_id h.cmd]
  exact discard_counts c s

end Posted

/-- Settles O6: a turn that reads one unit accepts one entry as it was taken; after its ring slot is filled a result changes neither the
ring nor the commands but by its own drop; and the timer raises the vector through the MSI-X table. -/
theorem queueEntriesAndResults : Obligations.QueueEntriesAndResults := by
  unfold Obligations.QueueEntriesAndResults
  refine ⟨fun s i q b hq ht => ⟨fun hpub hin hlen hop hbuf => ?fetched, queueFetch_timeout ht hq⟩, fun s i q k j c =>
    ⟨fun r hc hsrc hres hphase hup => ⟨jobResultReturn_posts ⟨hc, hsrc, hres, hphase, hup⟩,
      jobResultReturn_discards ⟨hc, hsrc, hres, hphase, hup⟩⟩, fun x l hl htime hage hien hh hr he => ?timer⟩⟩
  case fetched =>
    obtain ⟨t, ht, robin, head, d, hd, origin⟩ := queueFetch_accepts ht hq ⟨hpub, hin, hlen, hop⟩ hbuf
    exact ⟨t, ht, robin, head, d, hd, origin.id, origin.inst, origin.src, origin.opcode, origin.tag, origin.jseq, origin.acceptTick⟩
  case timer => exact ⟨_, exec_coalesceTimerExpiry hl htime hage, raiseCq_signals hien hh hr he⟩

end Sys2Proof.Machine
end
section
/-! PROOFS. Submission queues and completion rings (O5): the conditions under which they are enabled, and the values that their doorbells
take. -/

namespace Sys2Proof.Machine
open Safety

/-! ### What a refused write leaves (R541) -/

section Refused
variable {s : State}

theorem noteBadAccess_sq (i q : Nat) : (noteBadAccess s).sq i q = s.sq i q := by
  unfold State.sq
  rw [noteBadAccess_inst]

/-- A refused write of a submission queue changes that queue as it does, and is counted under NOTE. -/
theorem refused_sq (i q : Nat) (f : Sq → Sq) (s : State) : (noteBadAccess (s.modSq i q f)).sq i q = f (s.sq i q) ∧
    (noteBadAccess (s.modSq i q f)).faults.counts = setAt s.faults.counts 0 inc32 :=
  ⟨(noteBadAccess_sq i q).trans (State.sq_modSq_self s i q f), noteBadAccess_counts _⟩

/-- A refused write of a completion ring changes that ring as it does, and is counted under NOTE. -/
theorem refused_cq (i q : Nat) (f : Cq → Cq) (s : State) : (noteBadAccess (s.modCq i q f)).cq i q = f (s.cq i q) ∧
    (noteBadAccess (s.modCq i q f)).faults.counts = setAt s.faults.counts 0 inc32 :=
  ⟨(cq_of_insts (noteBadAccess_insts _) i q).trans (State.cq_modCq_self s i q f), noteBadAccess_counts _⟩

end Refused

/-! ### Enabling (R73) -/

/-- The conditions of R73 on submission queue `q`, with the package total of R70. -/
def State.sqInOrder (s : State) (i q : Nat) : Bool :=
  let x := s.sq i q
  sizeOkLog2 x.log2 && noWrap x.base (2 ^ x.log2) && (s.cq i x.cq).enable && decide (q < (s.inst i).cfg.maxQp) &&
    decide (s.sqsEnabled < 4096)

/-- The conditions of R73 on completion ring `q`. -/
def State.cqInOrder (s : State) (i q : Nat) : Bool :=
  let x := s.cq i q
  sizeOkLog2 x.log2 && noWrap x.base (2 ^ x.log2) && decide (q < (s.inst i).cfg.maxQp)

/-- A submission queue as it starts: enabled and empty. -/
def Sq.started (x : Sq) : Sq := { x with enable := true, errCfg := false, head := 0, tail := 0, buf := [], fetchStopped := false }

/-- A completion ring as it starts: enabled and empty, PHASE 1. -/
def Cq.started (x : Cq) : Cq :=
  { x with enable := true, errCfg := false, tail := 0, phase := true, head := 0, w := 0, unsignalled := [] }

section Enabling
variable {s : State} {i q : Nat}

theorem sqInOrder_iff : s.sqInOrder i q = true ↔ sizeOkLog2 (s.sq i q).log2 = true ∧
    noWrap (s.sq i q).base (2 ^ (s.sq i q).log2) = true ∧ (s.cq i (s.sq i q).cq).enable = true ∧ q < (s.inst i).cfg.maxQp ∧
    s.sqsEnabled < 4096 := by
  simp only [State.sqInOrder, Bool.and_eq_true, decide_eq_true_eq, and_assoc]

theorem cqInOrder_iff : s.cqInOrder i q = true ↔ sizeOkLog2 (s.cq i q).log2 = true ∧
    noWrap (s.cq i q).base (2 ^ (s.cq i q).log2) = true ∧ q < (s.inst i).cfg.maxQp := by
  simp only [State.cqInOrder, Bool.and_eq_true, decide_eq_true_eq, and_assoc]

/-- A number from MAX_QP on is not enabled as a queue (R70). -/
theorem not_sqInOrder_of_maxQp (h : (s.inst i).cfg.maxQp ≤ q) : ¬ s.sqInOrder i q = true := fun ho => by
  obtain ⟨-, -, -, pair, -⟩ := sqInOrder_iff.1 ho
  exact Nat.not_lt.2 h pair

/-- A number from MAX_QP on is not enabled as a ring (R70). -/
theorem not_cqInOrder_of_maxQp (h : (s.inst i).cfg.maxQp ≤ q) : ¬ s.cqInOrder i q = true := fun ho => by
  obtain ⟨-, -, pair⟩ := cqInOrder_iff.1 ho
  exact Nat.not_lt.2 h pair

theorem exec_sqEnable (h : Reached i s) (hq : q < 32) (hoff : (s.sq i q).enable = false) : exec (.sqEnable i q) s =
    .next (if s.sqInOrder i q then s.modSq i q Sq.started else noteBadAccess (s.modSq i q fun x => { x with errCfg := true })) := by
  obtain ⟨hr, hide⟩ := h
  change Host.Outcome.next (s.gated i (sqEnableAt i q s)) = _
  rw [gated_open s i _ hr hide, sqEnableAt, if_neg (by simp [hr, hq, hoff])]
  rfl

theorem exec_cqEnable (h : Reached i s) (hq : q < 32) (hoff : (s.cq i q).enable = false) : exec (.cqEnable i q) s =
    .next (if s.cqInOrder i q then s.modCq i q Cq.started else noteBadAccess (s.modCq i q fun x => { x with errCfg := true })) := by
  obtain ⟨hr, hide⟩ := h
  change Host.Outcome.next (s.gated i (cqEnableAt i q s)) = _
  rw [gated_open s i _ hr hide, cqEnableAt, if_neg (by simp [hr, hq, hoff])]
  rfl

theorem sqEnable_starts (h : Reached i s) (hq : q < 32) (hoff : (s.sq i q).enable = false) (ho : s.sqInOrder i q = true) :
    ∃ t, exec (.sqEnable i q) s = .next t ∧ t.sq i q = (s.sq i q).started ∧ t.cmds = s.cmds ∧ t.faults = s.faults := by
  refine ⟨_, exec_sqEnable h hq hoff, ?_⟩
  rw [if_pos ho]
  exact ⟨State.sq_modSq_self s i q _, rfl, rfl⟩

/-- Whichever condition of R73 fails, the queue changes in ERR_CFG alone. -/
theorem sqEnable_refused (h : Reached i s) (hq : q < 32) (hoff : (s.sq i q).enable = false) (ho : ¬ s.sqInOrder i q = true) :
    ∃ t, exec (.sqEnable i q) s = .next t ∧ t.sq i q = { s.sq i q with errCfg := true } ∧
      t.faults.counts = setAt s.faults.counts 0 inc32 := by
  refine ⟨_, exec_sqEnable h hq hoff, ?_⟩
  rw [if_neg ho]
  exact refused_sq i q _ s

theorem cqEnable_starts (h : Reached i s) (hq : q < 32) (hoff : (s.cq i q).enable = false) (ho : s.cqInOrder i q = true) :
    ∃ t, exec (.cqEnable i q) s = .next t ∧ t.cq i q = (s.cq i q).started ∧ t.cmds = s.cmds ∧ t.faults = s.faults := by
  refine ⟨_, exec_cqEnable h hq hoff, ?_⟩
  rw [if_pos ho]
  exact ⟨State.cq_modCq_self s i q _, rfl, rfl⟩

/-- Whichever condition of R73 fails, the ring changes in ERR_CFG alone. -/
theorem cqEnable_refused (h : Reached i s) (hq : q < 32) (hoff : (s.cq i q).enable = false) (ho : ¬ s.cqInOrder i q = true) :
    ∃ t, exec (.cqEnable i q) s = .next t ∧ t.cq i q = { s.cq i q with errCfg := true } ∧
      t.faults.counts = setAt s.faults.counts 0 inc32 := by
  refine ⟨_, exec_cqEnable h hq hoff, ?_⟩
  rw [if_neg ho]
  exact refused_cq i q _ s

end Enabling

/-! ### Doorbells (R78) -/

/-- Position `t` lies in the ring, and no more units lie from the tail to it than are free (R78). -/
abbrev Sq.TakesTail (x : Sq) (t : Nat) : Prop :=
  t < x.units ∧ (t + x.units - x.tail) % x.units ≤ x.units - 1 - (x.tail + x.units - x.head) % x.units

/-- The entries of a ring from its head to `h` (R78). -/
def Cq.ahead (x : Cq) (h : Nat) : Nat := (h + x.entries - x.head) % x.entries

/-- Position `h` lies in the ring, and from the head to it lie completions, all of them written (R78). -/
abbrev Cq.TakesHead (x : Cq) (h : Nat) : Prop := h < x.entries ∧ 0 < x.ahead h ∧ x.ahead h ≤ x.w

/-- A completion ring as a head taken at the tick `now` leaves it: the age of the completions beyond starts anew (R78, R82, R87). -/
def Cq.released (x : Cq) (h now : Nat) : Cq :=
  { x with head := h, w := x.w - x.ahead h, writeStopped := false,
           unsignalled := (x.unsignalled.drop (x.unsignalled.length - (x.w - x.ahead h))).map fun _ => now }

section Doorbells
variable {s : State} {i q v : Nat}

theorem exec_sqDoorbell (h : Reached i s) (hq : q < 32) (hon : (s.sq i q).enable = true) : exec (.sqDoorbell i q v) s =
    .next (if (s.sq i q).TakesTail (v % 2 ^ 18) then s.modSq i q fun x => { x with tail := v % 2 ^ 18, fetchStopped := false }
      else noteBadAccess (s.modSq i q fun x => { x with dbRange := true })) := by
  obtain ⟨hr, hide⟩ := h
  change Host.Outcome.next (s.gated i (sqDoorbellAt i q v s)) = _
  rw [gated_open s i _ hr hide, sqDoorbellAt, if_neg (by simp [hr, hq]), if_neg (by simp [hon])]

theorem exec_cqDoorbell (h : Reached i s) (hq : q < 32) (hon : (s.cq i q).enable = true) : exec (.cqDoorbell i q v) s =
    .next (if (s.cq i q).TakesHead (v % 2 ^ 17) then s.modCq i q fun _ => (s.cq i q).released (v % 2 ^ 17) s.tick
      else noteBadAccess (s.modCq i q fun x => { x with dbRange := true })) := by
  obtain ⟨hr, hide⟩ := h
  change Host.Outcome.next (s.gated i (cqDoorbellAt i q v s)) = _
  rw [gated_open s i _ hr hide, cqDoorbellAt, if_neg (by simp [hr, hq]), if_neg (by simp [hon])]
  rfl

theorem sqDoorbell_taken (h : Reached i s) (hq : q < 32) (hon : (s.sq i q).enable = true)
    (ht : (s.sq i q).TakesTail (v % 2 ^ 18)) : ∃ z, exec (.sqDoorbell i q v) s = .next z ∧
      z.sq i q = { s.sq i q with tail := v % 2 ^ 18, fetchStopped := false } ∧ z.faults = s.faults := by
  refine ⟨_, exec_sqDoorbell h hq hon, ?_⟩
  rw [if_pos ht]
  exact ⟨State.sq_modSq_self s i q _, rfl⟩

theorem sqDoorbell_refused (h : Reached i s) (hq : q < 32) (hon : (s.sq i q).enable = true)
    (ht : ¬ (s.sq i q).TakesTail (v % 2 ^ 18)) : ∃ z, exec (.sqDoorbell i q v) s = .next z ∧
      z.sq i q = { s.sq i q with dbRange := true } ∧ z.faults.counts = setAt s.faults.counts 0 inc32 := by
  refine ⟨_, exec_sqDoorbell h hq hon, ?_⟩
  rw [if_neg ht]
  exact refused_sq i q _ s

theorem cqDoorbell_taken (h : Reached i s) (hq : q < 32) (hon : (s.cq i q).enable = true)
    (hh : (s.cq i q).TakesHead (v % 2 ^ 17)) : ∃ z, exec (.cqDoorbell i q v) s = .next z ∧
      z.cq i q = (s.cq i q).released (v % 2 ^ 17) s.tick ∧ z.faults = s.faults := by
  refine ⟨_, exec_cqDoorbell h hq hon, ?_⟩
  rw [if_pos hh]
  exact ⟨State.cq_modCq_self s i q _, rfl⟩

theorem cqDoorbell_refused (h : Reached i s) (hq : q < 32) (hon : (s.cq i q).enable = true)
    (hh : ¬ (s.cq i q).TakesHead (v % 2 ^ 17)) : ∃ z, exec (.cqDoorbell i q v) s = .next z ∧
      z.cq i q = { s.cq i q with dbRange := true } ∧ z.faults.counts = setAt s.faults.counts 0 inc32 := by
  refine ⟨_, exec_cqDoorbell h hq hon, ?_⟩
  rw [if_neg hh]
  exact refused_cq i q _ s

end Doorbells

/-! ### Runs at the boundaries -/

/-- Queue 2 of the worked example after R91, empty at position 254 of 256, and its ring 1 with one completion at head 37; MAX_QP is 4,
and queues 3 and 4 on the same ring are off. -/
def exampleRings : State :=
  { State.reset with
    pkg := { State.reset.pkg with mode := .service, perstHigh := true }
    insts := [(0, { inst0 0 with
      cfg := { cfg0 0 with maxQp := 4 },
      sqs := [(2, { enable := true, cq := 1, head := 254, tail := 254 }), (3, { cq := 1 }), (4, { cq := 1 })],
      cqs := [(1, { enable := true, head := 37, w := 1, tail := 38 })] })] }

theorem exampleRings_reached : Reached 0 exampleRings := by decide

/-- The last queue below MAX_QP starts, and the next one is refused. -/
theorem exampleRings_enables :
    (∃ t, exec (.sqEnable 0 3) exampleRings = .next t ∧ t.sq 0 3 = { cq := 1, enable := true } ∧ t.cmds = [] ∧ t.faults = {}) ∧
    ∃ t, exec (.sqEnable 0 4) exampleRings = .next t ∧ t.sq 0 4 = { cq := 1, errCfg := true } ∧
      t.faults.counts = setAt exampleRings.faults.counts 0 inc32 :=
  ⟨sqEnable_starts exampleRings_reached (by decide) rfl (by decide), sqEnable_refused exampleRings_reached (by decide) rfl (by decide)⟩

/-- A tail that wraps past the ring's end is taken, as is the last that the free units allow; one outside the ring is refused. -/
theorem exampleRings_tails :
    (∀ v ∈ [3, 253], ∃ z, exec (.sqDoorbell 0 2 v) exampleRings = .next z ∧ (z.sq 0 2).tail = v % 2 ^ 18) ∧
    ∃ z, exec (.sqDoorbell 0 2 256) exampleRings = .next z ∧ (z.sq 0 2).dbRange = true := by
  have takes : ∀ v ∈ [3, 253], (exampleRings.sq 0 2).TakesTail (v % 2 ^ 18) := by decide
  refine ⟨fun v hv => ?_, ?_⟩
  · obtain ⟨z, hz, taken, -⟩ := sqDoorbell_taken exampleRings_reached (by decide) rfl (takes v hv)
    exact ⟨z, hz, congrArg Sq.tail taken⟩
  · obtain ⟨z, hz, refused, -⟩ := sqDoorbell_refused (q := 2) (v := 256) exampleRings_reached (by decide) rfl (by decide)
    exact ⟨z, hz, congrArg Sq.dbRange refused⟩

/-- The head past the one completion is taken, and the head beyond that is refused. -/
theorem exampleRings_heads :
    (∃ z, exec (.cqDoorbell 0 1 38) exampleRings = .next z ∧ (z.cq 0 1).w = 0) ∧
    ∃ z, exec (.cqDoorbell 0 1 39) exampleRings = .next z ∧ (z.cq 0 1).dbRange = true := by
  constructor
  · obtain ⟨z, hz, taken, -⟩ := cqDoorbell_taken (q := 1) (v := 38) exampleRings_reached (by decide) rfl (by decide)
    exact ⟨z, hz, congrArg Cq.w taken⟩
  · obtain ⟨z, hz, refused, -⟩ := cqDoorbell_refused (q := 1) (v := 39) exampleRings_reached (by decide) rfl (by decide)
    exact ⟨z, hz, congrArg Cq.dbRange refused⟩

/-- Settles O5: ENABLE comes down to the conditions of R73, and a doorbell to the range of R78; a refusal sets one flag and counts one
BAD_ACCESS. -/
theorem queuesAndDoorbells : Obligations.QueuesAndDoorbells := by
  unfold Obligations.QueuesAndDoorbells
  refine ⟨fun s i q h hq => ⟨fun hoff => ⟨fun size inside ring pair total => ?sqStarts, fun hmax => ?sqRefused⟩,
      fun hoff => ⟨fun size inside pair => ?cqStarts, fun hmax => ?cqRefused⟩⟩,
    fun s i q v h hq => ⟨fun hon => ⟨fun hin hfree => ?tailTaken, fun hout => ?tailRefused⟩,
      fun hon => ⟨fun hin hnew hw => ?headTaken, fun hout => ?headRefused⟩⟩⟩
  case sqStarts => exact sqEnable_starts h hq hoff (sqInOrder_iff.2 ⟨size, inside, ring, pair, total⟩)
  case sqRefused =>
    obtain ⟨t, ht, flag, -⟩ := sqEnable_refused h hq hoff (not_sqInOrder_of_maxQp hmax)
    exact ⟨t, ht, flag⟩
  case cqStarts => exact cqEnable_starts h hq hoff (cqInOrder_iff.2 ⟨size, inside, pair⟩)
  case cqRefused =>
    obtain ⟨t, ht, flag, -⟩ := cqEnable_refused h hq hoff (not_cqInOrder_of_maxQp hmax)
    exact ⟨t, ht, flag⟩
  case tailTaken => exact sqDoorbell_taken h hq hon ⟨hin, hfree⟩
  case tailRefused => exact sqDoorbell_refused h hq hon hout
  case headTaken =>
    obtain ⟨z, hz, ring, faults⟩ := cqDoorbell_taken h hq hon ⟨hin, hnew, hw⟩
    exact ⟨z, hz, congrArg Cq.head ring, congrArg Cq.w ring, by rw [ring]; rfl, faults⟩
  case headRefused => exact cqDoorbell_refused h hq hon hout

end Sys2Proof.Machine
end
section
/-! PROOFS. Generation changes (O9): what deliveries and ended work leave of a function's era, then the start of a reset, a region's report,
and the end of the drain and of the reset. -/

namespace Sys2Proof.Machine
open Safety

/-! ### What deliveries leave (R283-R285, R293) -/

/-- What `g` reads no delivery changes: neither the frame unit, nor a frame ring, nor host memory, nor a vector. -/
structure DeliveryBlind {γ : Type} (g : State → γ) : Prop where
  frames : ∀ s f, g (s.modFrames f) = g s
  ring : ∀ s i n f, g (s.modFring i n f) = g s
  memory : ∀ s i a b x, g (hostWrite i a b x s) = g s
  vector : ∀ s i v, g (raiseVector i v s) = g s

theorem ite_keeps {γ : Type} (g : State → γ) {s a b : State} {p : Prop} [Decidable p] (ha : g a = g s) (hb : g b = g s) :
    g (if p then a else b) = g s := by
  split
  · exact ha
  · exact hb

section Deliveries
variable {γ : Type} {g : State → γ} (h : DeliveryBlind g) (s : State)
include h

theorem raiseRing_blind (i n : Nat) : g (raiseRing i n s) = g s :=
  ite_keeps g ((h.vector _ _ _).trans (h.ring _ _ _ _)) rfl

theorem ringSignal_blind (i n l : Nat) (now : Bool) : g (ringSignal i n l now s) = g s :=
  ite_keeps g ((raiseRing_blind h _ _ _).trans (h.ring _ _ _ _)) (h.ring _ _ _ _)

theorem putEntry_blind (i n typ flen : Nat) (body : List Byte) (now : Bool) : g (putEntry i n typ flen body now s).2 = g s := by
  unfold putEntry
  dsimp only
  rw [apply_ite Prod.snd]
  dsimp only
  refine ite_keeps g (h.ring _ _ _ _) ?_
  rw [ringSignal_blind h, h.ring, h.memory]
  exact ite_keeps g (h.memory _ _ _ _ _) rfl

theorem deliverTo_blind (n : Nat) (f : Judged) (hstate win : Nat) (x : Sub) : g (deliverTo n f hstate win x s) = g s := by
  unfold deliverTo State.modStream
  rw [h.frames, putEntry_blind h]

theorem deliverHeld_blind (n hstate : Nat) (win : PFrame → Nat) (ps : List PFrame) : g (deliverHeld n hstate win ps s) = g s := by
  refine foldl_keeps g _ (fun s p => ?_) ps s
  split
  · rfl
  · unfold deliverAll
    split
    · rfl
    · exact foldl_keeps g _ (fun s x => deliverTo_blind h s _ _ _ _ x) _ s

theorem harvestEntry_blind (n result reason count win tq start : Nat) :
    g (harvestEntry n result reason count win tq start s) = g s := by
  have counted : g (if result = 3 then s.modSession n fun x => { x with failed := satAdd max64 x.failed 1 } else s) = g s :=
    ite_keeps g (h.frames _ _) rfl
  unfold harvestEntry
  dsimp only
  split
  · exact counted
  · exact (foldl_keeps g _ (fun s x => putEntry_blind h s _ _ _ _ _ _) _ _).trans counted

theorem endSession_blind (n : Nat) : g (endSession n s) = g s := by
  unfold endSession
  split
  · rfl
  · unfold resolveLost State.modHvw
    dsimp only
    rw [h.frames, h.frames]
    exact (foldl_keeps g _ (fun s w => harvestEntry_blind h s n 3 4 _ w 0 _) _ _).trans (deliverHeld_blind h s _ _ _ _)

/-- The end of a function's sessions and subscriptions (R285, R293, R108). -/
theorem dropSubs_blind (i : Nat) : g (dropSubs i s) = g s := by
  unfold dropSubs framesGeneration
  dsimp only
  rw [h.frames, foldl_keeps g _ (fun s n => endSession_blind h s n)]
  exact foldl_keeps g _ (fun s e => foldl_keeps g _ (fun s x => h.frames s _) _ s) _ s

end Deliveries

/-! ### The era of a function (R102, R103, R105)

The laws of GenKept ask that no function may drain and leave the awaited regions out; what follows speaks of one function, whose own drain
alone can change its era. -/

/-- What a generation change makes of a function: its generation, RESETTING, WRAP_DRAIN, and the regions that have yet to report. -/
structure Era where
  gen : Nat
  resetting : Bool
  wrapDrain : Bool
  awaited : List Nat

/-- The era in which a function stands. -/
def Inst.era (n : Inst) : Era := ⟨n.gen, n.resetting, n.wrapDrain, n.awaited⟩

section Eras
variable {s t : State} {i : Nat}

theorem inst_congr (h : t.insts = s.insts) (k : Nat) : t.inst k = s.inst k := by
  unfold State.inst
  rw [h]

theorem inst_modInst_keeps {γ : Type} (p : Inst → γ) {f : Inst → Inst} (hf : ∀ n, p (f n) = p n) (k i : Nat) (s : State) :
    p ((s.modInst k f).inst i) = p (s.inst i) := by
  by_cases h : i = k
  · subst h
    rw [State.inst_modInst_self, hf]
  · rw [State.inst_modInst_ne s k i f h]

theorem era_deliveryBlind (i : Nat) : DeliveryBlind fun s => (s.inst i).era where
  frames _ _ := rfl
  ring s k _ _ := inst_modInst_keeps Inst.era (fun _ => by rfl) k i s
  memory s _ _ _ _ := congrArg Inst.era (inst_congr (hostWrite_insts s _ _ _ _) i)
  vector s k v := by
    obtain ⟨p, hp⟩ := raiseVector_inst k v s i
    rw [hp]
    rfl

theorem handles_deliveryBlind : DeliveryBlind fun s => s.vault.handles where
  frames _ _ := rfl
  ring _ _ _ _ := rfl
  memory s _ _ _ _ := by rw [hostWrite_same]
  vector s _ _ := by rw [raiseVector_same]

theorem mayDrain_congr (h : (t.inst i).era = (s.inst i).era) : MayDrain i t ↔ MayDrain i s := by
  have drain : (t.inst i).wrapDrain = (s.inst i).wrapDrain := congrArg Era.wrapDrain h
  have awaited : (t.inst i).awaited = (s.inst i).awaited := congrArg Era.awaited h
  rw [MayDrain, MayDrain, drain, awaited]

/-- The drain of another function, and one that is not done, leave the era. -/
theorem drainIfDone_era (k : Nat) (hd : ¬ MayDrain i s) : ((drainIfDone k s).inst i).era = (s.inst i).era := by
  by_cases h : i = k
  · subst h
    rw [drainIfDone_kept i hd]
  · unfold drainIfDone
    split
    · exact congrArg Inst.era (State.inst_modInst_ne s k i _ h)
    · rfl

/-- The end of a drain changes the generation and WRAP_DRAIN alone (R105). -/
theorem drainIfDone_keeps {γ : Type} (p : Inst → γ) (hp : ∀ n : Inst, p { n with gen := 0, wrapDrain := false } = p n) (k i : Nat)
    (s : State) : p ((drainIfDone k s).inst i) = p (s.inst i) :=
  ite_keeps (fun s => p (s.inst i)) (inst_modInst_keeps p hp k i s) rfl

end Eras

/-! ### Commands that a reset ends (R91, R103) -/

section Gone
variable {s : State} {i : Nat}

/-- Closing a command changes its function's energy, then a drain that it was the last of may end; the vault and the regions stay. -/
theorem closeGone_cases (st : Status) (c : Cmd) (s : State) : ∃ t, closeGone st c s = drainIfDone c.job.inst t ∧
    t.insts = (addEnergy c.job.inst (min max32 c.prog.energy) s).insts ∧ t.vault = s.vault ∧ t.regions = s.regions := by
  refine ⟨_, rfl, ?_⟩
  have entered (t : State) :
      (enterWaiting t).insts = t.insts ∧ (enterWaiting t).vault = t.vault ∧ (enterWaiting t).regions = t.regions := by
    rw [enterWaiting_same]
    exact ⟨rfl, rfl, rfl⟩
  obtain ⟨insts, vault, regions⟩ := entered ((if c.job.jseq = 0 ∨ s.pkg.halted ∨ (c.job.mbx ∧ ¬ c.job.has (·.sc))
    then addEnergy c.job.inst (min max32 c.prog.energy) s
    else closeCommand c st [] (addEnergy c.job.inst (min max32 c.prog.energy) s)).dropCmd c.job.id)
  rw [insts, vault, regions]
  split
  · exact ⟨rfl, rfl, rfl⟩
  · refine ⟨closeCommand_insts _ _ _ _, ?_, ?_⟩
    · change (closeCommand _ _ _ _).vault = _
      rw [closeCommand_same]
      rfl
    · change (closeCommand _ _ _ _).regions = _
      rw [closeCommand_same]
      rfl

@[simp] theorem modMbx_era (k i : Nat) (f : Mbx → Mbx) (s : State) : ((s.modMbx k f).inst i).era = (s.inst i).era :=
  inst_modInst_keeps Inst.era (fun _ => by rfl) k i s

@[simp] theorem addEnergy_era (k e i : Nat) (s : State) : ((addEnergy k e s).inst i).era = (s.inst i).era :=
  inst_modInst_keeps Inst.era (fun _ => by rfl) k i s

theorem closeGone_era (st : Status) (c : Cmd) (hd : ¬ MayDrain i s) : ((closeGone st c s).inst i).era = (s.inst i).era := by
  obtain ⟨t, ht, insts, -, -⟩ := closeGone_cases st c s
  have era : (t.inst i).era = (s.inst i).era := by
    rw [inst_congr insts]
    exact addEnergy_era _ _ _ _
  rw [ht, drainIfDone_era _ fun hm => hd ((mayDrain_congr era).1 hm), era]

/-- Closing a command changes energies, and generation and WRAP_DRAIN where it ends a drain. -/
theorem closeGone_keeps {γ : Type} (p : Inst → γ) (hdrain : ∀ n : Inst, p { n with gen := 0, wrapDrain := false } = p n)
    (henergy : ∀ (n : Inst) (e : Nat), p { n with energy := e } = p n) (st : Status) (c : Cmd) (i : Nat) (s : State) :
    p ((closeGone st c s).inst i) = p (s.inst i) := by
  obtain ⟨t, ht, insts, -, -⟩ := closeGone_cases st c s
  rw [ht, drainIfDone_keeps p hdrain, inst_congr insts]
  exact inst_modInst_keeps p (fun n => henergy n _) _ i s

@[simp] theorem drainIfDone_vault (k : Nat) (s : State) : (drainIfDone k s).vault = s.vault := by
  unfold drainIfDone
  split
  · rfl
  · rfl

@[simp] theorem drainIfDone_regions (k : Nat) (s : State) : (drainIfDone k s).regions = s.regions := by
  unfold drainIfDone
  split
  · rfl
  · rfl

@[simp] theorem closeGone_vault (st : Status) (c : Cmd) (s : State) : (closeGone st c s).vault = s.vault := by
  obtain ⟨t, ht, -, vault, -⟩ := closeGone_cases st c s
  rw [ht, drainIfDone_vault, vault]

@[simp] theorem closeGone_regions (st : Status) (c : Cmd) (s : State) : (closeGone st c s).regions = s.regions := by
  obtain ⟨t, ht, -, -, regions⟩ := closeGone_cases st c s
  rw [ht, drainIfDone_regions, regions]

/-- Closing commands one after the other leaves the era while no drain may end. -/
theorem foldl_closeGone_era (st : Status) (l : List Cmd) (hd : ¬ MayDrain i s) :
    ((l.foldl (fun s c => closeGone st c s) s).inst i).era = (s.inst i).era := by
  induction l generalizing s with
  | nil => rfl
  | cons c l ih =>
    have era := closeGone_era (i := i) st c hd
    exact (ih fun hm => hd ((mayDrain_congr era).1 hm)).trans era

/-- FLR takes the request that a mailbox serves, if any, out of its region and closes it, then clears the mailbox (R58, R60). -/
theorem abandonRequest_cases (i : Nat) (s : State) : ∃ t, abandonRequest i s = t.modMbx i (fun _ => {}) ∧ (t = s ∨
    ∃ c u, u = closeGone .instanceReset c (abortWork c.job.id s) ∧ t.insts = u.insts ∧ t.regions = (settleUnits u).regions) := by
  unfold abandonRequest
  dsimp only
  split
  · exact ⟨s, rfl, .inl rfl⟩
  next c _ =>
    refine ⟨_, rfl, .inr ⟨c, _, rfl, ?_⟩⟩
    split
    · dsimp only
      exact ⟨settleUnits_insts _, rfl⟩
    · exact ⟨settleUnits_insts _, rfl⟩

theorem abandonRequest_era (hd : ¬ MayDrain i s) : ((abandonRequest i s).inst i).era = (s.inst i).era := by
  obtain ⟨t, ht, rfl | ⟨c, u, rfl, insts, -⟩⟩ := abandonRequest_cases i s
  · rw [ht, modMbx_era]
  · have aborted : ((abortWork c.job.id s).inst i).era = (s.inst i).era := congrArg Inst.era (inst_congr (abortWork_insts s _) i)
    rw [ht, modMbx_era, inst_congr insts, closeGone_era _ _ fun hm => hd ((mayDrain_congr aborted).1 hm), aborted]

end Gone

/-! ### The regions that are told (R103) -/

section Told
variable {s t : State}

/-- An entry's change that keeps its key and what `p` reads of it keeps what `p` reads of the table. -/
theorem tget_map_keeps {α γ : Type} (p : α → γ) {f : Nat × α → Nat × α} (hf : ∀ e, (f e).1 = e.1 ∧ p (f e).2 = p e.2)
    (d : Nat → α) (l : Tbl α) (k : Nat) : p (tget d (l.map f) k) = p (tget d l k) := by
  induction l with
  | nil => rfl
  | cons e l ih =>
    obtain ⟨key, value⟩ := hf e
    rw [List.map_cons, tget, tget, key]
    split
    · exact value
    · exact ih

/-- The state of region `r` (R415). -/
def State.stateAt (r : Nat) (s : State) : RState := (s.region r).svc.state

theorem modRegion_stateAt {f : Region → Region} (hf : ∀ g, (f g).svc.state = g.svc.state) (q r : Nat) (s : State) :
    (s.modRegion q f).stateAt r = s.stateAt r := by
  unfold State.stateAt
  by_cases h : r = q
  · subst h
    rw [State.region_modRegion_self, hf]
  · rw [State.region_modRegion_ne s q r f h]

theorem stateAt_congr (h : t.regions = s.regions) (r : Nat) : t.stateAt r = s.stateAt r := by
  unfold State.stateAt State.region
  rw [h]

theorem freeSlots_stateAt (j r : Nat) (s : State) : (freeSlots j s).stateAt r = s.stateAt r := by
  have wiped (q : Nat) (s : State) (u : UnitKind × Nat) : (wipeLocal q u s).stateAt r = s.stateAt r := by
    unfold wipeLocal
    split
    · rfl
    · rfl
  unfold freeSlots
  split
  · rfl
  · dsimp only
    rw [foldl_keeps (State.stateAt r) _ fun s q => foldl_keeps (State.stateAt r) _ (wiped q) _ s]
    exact foldl_keeps (State.stateAt r) _ (fun s x => modRegion_stateAt (fun _ => by rfl) _ r s) _ s

theorem modCell_svc (k : UnitKind) (n : Nat) (f : CellRec → CellRec) (g : Region) : (g.modCell k n f).svc = g.svc := by
  unfold Region.modCell
  split
  · rfl
  · rfl

theorem takeWarmKind_stateAt (q r : Nat) (k : UnitKind) (i want : Nat) (s : State) :
    (takeWarmKind q k i want s).stateAt r = s.stateAt r := by
  have celled (s : State) (n : Nat) (f : CellRec → CellRec) : (s.modRegion q fun g => g.modCell k n f).stateAt r = s.stateAt r :=
    modRegion_stateAt (fun g => by rw [modCell_svc]) q r s
  exact foldl_keeps (State.stateAt r) _ (fun s n =>
    ite_keeps (State.stateAt r) (celled s n _) (ite_keeps (State.stateAt r) (celled s n _) rfl)) _ s

theorem takeWarm_stateAt (q r : Nat) (s : State) : (takeWarm q s).stateAt r = s.stateAt r :=
  ite_keeps (State.stateAt r) (foldl_keeps (State.stateAt r) _ (fun _ _ => ite_keeps (State.stateAt r)
    ((takeWarmKind_stateAt _ _ _ _ _ _).trans (takeWarmKind_stateAt _ _ _ _ _ _)) rfl) _ s) rfl

/-- Work that leaves its units leaves the state of every region (R409, R413, R133, R350). -/
@[simp] theorem settleUnits_stateAt (r : Nat) (s : State) : (settleUnits s).stateAt r = s.stateAt r := by
  have shelf (s : State) : (settleShelf s).stateAt r = s.stateAt r := by
    unfold settleShelf State.stateAt State.region
    dsimp only
    refine tget_map_keeps (fun g => g.svc.state) ?_ region0 s.regions r
    exact fun _ => ⟨rfl, rfl⟩
  have cryst (s : State) : (settleCryst s).stateAt r = s.stateAt r :=
    foldl_keeps (State.stateAt r) _ (fun s q => modRegion_stateAt (fun _ => by rfl) q r s) _ s
  have pans (s : State) : (restPans s).stateAt r = s.stateAt r :=
    foldl_keeps (State.stateAt r) _ (fun s q => foldl_keeps (State.stateAt r) _ (fun s p =>
      ite_keeps (State.stateAt r) (modRegion_stateAt (fun _ => by rfl) q r s) rfl) _ s) _ s
  unfold settleUnits
  rw [shelf, cryst, pans]
  exact foldl_keeps (State.stateAt r) _ (fun s q => takeWarm_stateAt q r s) _ s

@[simp] theorem abortWork_stateAt (j r : Nat) (s : State) : (abortWork j s).stateAt r = s.stateAt r :=
  (foldl_keeps (State.stateAt r) _ (fun _ _ => by rfl) _ (freeSlots j s)).trans (freeSlots_stateAt j r s)

/-- Which regions are told hangs on the fuses and on the regions' states alone. -/
theorem notified_congr (hpkg : t.pkg = s.pkg) (hstate : ∀ r, t.stateAt r = s.stateAt r) : t.notified = s.notified := by
  unfold State.stateAt at hstate
  unfold State.notified State.enabled State.variant
  simp only [hpkg, hstate]

theorem abandonRequest_notified (i : Nat) (s : State) : (abandonRequest i s).notified = s.notified := by
  refine notified_congr (abandonRequest_pkg i s) fun r => ?_
  obtain ⟨t, ht, rfl | ⟨c, u, rfl, -, regions⟩⟩ := abandonRequest_cases i s
  · rw [ht, stateAt_congr (State.modMbx_regions _ _ _)]
  · rw [ht, stateAt_congr (State.modMbx_regions _ _ _), stateAt_congr regions, settleUnits_stateAt,
      stateAt_congr (closeGone_regions _ _ _), abortWork_stateAt]

end Told

/-! ### The start of a generation change (R102, R105, R108) -/

section Started
variable {s : State} {i : Nat}

/-- A function whose next era begins at `now` while the regions `told` are to report: at 0xFFFF the generation stays and WRAP_DRAIN is
set. -/
def Inst.begun (told : List Nat) (now : Nat) (n : Inst) : Inst :=
  let wraps := decide (65535 ≤ n.gen)
  { n with gen := if wraps then n.gen else n.gen + 1, resetting := true, wrapDrain := wraps, kept := [], awaited := told,
           noticeTick := now }

/-- The function stands in its next era, without handles and without cached translations. -/
def eraBegun (i : Nat) (s : State) : State :=
  let s1 := s.modInst i (Inst.begun s.notified s.tick)
  { s1 with vault := { s1.vault with handles := s1.vault.handles.filter fun k => !(k.inst == i) },
            pkg := { s1.pkg with ats := s1.pkg.ats.filter (fun e => !(e.inst == i)),
                                 atsWait := s1.pkg.atsWait.filter fun h => !(h.inst == i) } }

/-- The next era once subscriptions, reservations and counters have gone and the batches have closed. -/
def eraCleared (i : Nat) (s : State) : State :=
  let t := clearHits i (dropWarm i (dropSubs i (eraBegun i s)))
  if t.pkg.halted then t else closeBatches (fun b => b.inst == i) t

/-- The entries of a function that are not yet dispatched (R103). -/
def undispatched (i : Nat) (s : State) : List Cmd :=
  s.cmds.filter fun c => c.job.inst == i && !c.job.mbx && (c.prog.phase == .fetching || c.prog.phase == .ready)

theorem startReset_resetting (h : (s.inst i).resetting = true) : startReset i s = s := if_pos h

theorem startReset_eq (h : (s.inst i).resetting = false) :
    startReset i s = (undispatched i (eraCleared i s)).foldl (fun s c => closeGone .staleGeneration c s) (eraCleared i s) :=
  if_neg (by simp [h])

theorem eraBegun_era (i : Nat) (s : State) : ((eraBegun i s).inst i).era = ((s.inst i).begun s.notified s.tick).era :=
  congrArg Inst.era (State.inst_modInst_self s i _)

theorem eraCleared_blind {γ : Type} {g : State → γ} (h : DeliveryBlind g) (hregions : ∀ s r, g { s with regions := r } = g s)
    (hjournal : ∀ s t, SameButJournal s t → g t = g s) (i : Nat) (s : State) : g (eraCleared i s) = g (eraBegun i s) := by
  have cleared : g (clearHits i (dropWarm i (dropSubs i (eraBegun i s)))) = g (eraBegun i s) :=
    (hregions _ _).trans ((hregions _ _).trans (dropSubs_blind h _ i))
  exact ite_keeps g cleared ((hjournal _ _ (closeBatches_same _ _)).trans cleared)

theorem eraCleared_era (i : Nat) (s : State) : ((eraCleared i s).inst i).era = ((s.inst i).begun s.notified s.tick).era :=
  (eraCleared_blind (era_deliveryBlind i) (fun _ _ => rfl) (fun _ _ same => by rw [same]; rfl) i s).trans (eraBegun_era i s)

theorem eraCleared_handles (i : Nat) (s : State) : (eraCleared i s).vault.handles = s.vault.handles.filter fun k => !(k.inst == i) :=
  eraCleared_blind handles_deliveryBlind (fun _ _ => rfl) (fun _ _ same => by rw [same]) i s

theorem eraCleared_ats (i : Nat) (s : State) : (eraCleared i s).pkg.ats = s.pkg.ats.filter fun e => !(e.inst == i) := by
  refine congrArg Pkg.ats (Eq.trans ?_ (dropSubs_pkg i (eraBegun i s)))
  exact ite_keeps State.pkg rfl (closeBatches_pkg _ _)

theorem startReset_handles (h : (s.inst i).resetting = false) :
    (startReset i s).vault.handles = s.vault.handles.filter fun k => !(k.inst == i) := by
  rw [startReset_eq h, foldl_keeps State.vault _ fun s c => closeGone_vault _ c s, eraCleared_handles]

theorem startReset_ats (h : (s.inst i).resetting = false) : (startReset i s).pkg.ats = s.pkg.ats.filter fun e => !(e.inst == i) := by
  rw [startReset_eq h, foldl_keeps State.pkg _ fun s c => closeGone_pkg _ c s, eraCleared_ats]

theorem startReset_sets_resetting (h : (s.inst i).resetting = false) : ((startReset i s).inst i).resetting = true := by
  rw [startReset_eq h, foldl_keeps (fun s => (s.inst i).resetting) _ fun s c =>
    closeGone_keeps Inst.resetting (fun _ => rfl) (fun _ _ => rfl) _ c i s]
  exact congrArg Era.resetting (eraCleared_era i s)

/-- The next era has begun, unless it ends at once: at 0xFFFF with no region to report (R102, R105). -/
theorem startReset_era (h : (s.inst i).resetting = false) (hopen : (s.inst i).gen < 65535 ∨ s.notified ≠ []) :
    ((startReset i s).inst i).era = ((s.inst i).begun s.notified s.tick).era := by
  have notDone : ¬ MayDrain i (eraCleared i s) := fun ⟨drain, awaited⟩ => by
    have era := eraCleared_era i s
    have wraps : decide (65535 ≤ (s.inst i).gen) = true := (congrArg Era.wrapDrain era).symm.trans drain
    have none : s.notified = [] := (congrArg Era.awaited era).symm.trans awaited
    have wraps : 65535 ≤ (s.inst i).gen := of_decide_eq_true wraps
    rcases hopen with below | told
    · omega
    · exact told none
  rw [startReset_eq h, foldl_closeGone_era _ _ notDone, eraCleared_era]

theorem begun_era_below {n : Inst} (h : n.gen < 65535) (l : List Nat) (a : Nat) : (n.begun l a).era = ⟨n.gen + 1, true, false, l⟩ := by
  simp [Inst.begun, Inst.era, Nat.not_le.2 h]

theorem begun_era_top {n : Inst} (h : n.gen = 65535) (l : List Nat) (a : Nat) : (n.begun l a).era = ⟨65535, true, true, l⟩ := by
  simp [Inst.begun, Inst.era, h]

theorem begun_era_congr {m n : Inst} (h : m.era = n.era) (l : List Nat) (a b : Nat) : (m.begun l a).era = (n.begun l b).era := by
  have gen : m.gen = n.gen := congrArg Era.gen h
  simp only [Inst.begun, Inst.era, gen]

/-- What a start of a generation change makes of function `i` of `s` (R102, R105, R108). -/
structure Began (i : Nat) (s t : State) : Prop where
  resetting : (t.inst i).resetting = true
  next : (s.inst i).resetting = false → (s.inst i).gen < 65535 ∨ s.notified ≠ [] →
    (t.inst i).era = ((s.inst i).begun s.notified s.tick).era
  absorbed : (s.inst i).resetting = true → (t.inst i).gen = (s.inst i).gen
  handles : (s.inst i).resetting = false → ∀ k ∈ t.vault.handles, k.inst ≠ i
  ats : (s.inst i).resetting = false → ∀ e ∈ t.pkg.ats, e.inst ≠ i

theorem mem_filter_ne {α : Type} {f : α → Nat} {l : List α} : ∀ x ∈ l.filter fun x => !(f x == i), f x ≠ i := by
  intro x hx
  simpa using (List.mem_filter.1 hx).2

/-- A reset of the function as it stands in `u`, which differs from `s` neither in its era nor in the regions that are told. -/
theorem resetFunction_began {u : State} (hd : ¬ MayDrain i s) (hera : (u.inst i).era = (s.inst i).era)
    (hnotified : u.notified = s.notified) : Began i s (resetFunction i u) := by
  have era : ((abandonRequest i u).inst i).era = (s.inst i).era :=
    (abandonRequest_era fun hm => hd ((mayDrain_congr hera).1 hm)).trans hera
  have notified : (abandonRequest i u).notified = s.notified := (abandonRequest_notified i u).trans hnotified
  have resetting : ((abandonRequest i u).inst i).resetting = (s.inst i).resetting := congrArg Era.resetting era
  have gen : ((abandonRequest i u).inst i).gen = (s.inst i).gen := congrArg Era.gen era
  unfold resetFunction
  constructor
  case resetting =>
    cases h : (s.inst i).resetting with
    | false => exact startReset_sets_resetting (resetting.trans h)
    | true => rw [startReset_resetting (resetting.trans h), resetting, h]
  case next =>
    intro h hopen
    rw [startReset_era (resetting.trans h) (by rw [gen, notified]; exact hopen), notified]
    exact begun_era_congr era _ _ _
  case absorbed => exact fun h => by rw [startReset_resetting (resetting.trans h), gen]
  case handles => exact fun h => by rw [startReset_handles (resetting.trans h)]; exact mem_filter_ne
  case ats => exact fun h => by rw [startReset_ats (resetting.trans h)]; exact mem_filter_ne

theorem resetPcie_began (hd : ¬ MayDrain i s) : Began i s (resetPcie i s) := by
  refine resetFunction_began hd ?_ rfl
  rw [State.inst_modInst_self]
  rfl

/-- Clearing registers of the function that no era holds keeps what has begun (R108). -/
theorem Began.modInst {t : State} (h : Began i s t) {f : Inst → Inst} (hf : ∀ n, (f n).era = n.era) : Began i s (t.modInst i f) := by
  have era : ((t.modInst i f).inst i).era = (t.inst i).era := inst_modInst_keeps Inst.era hf i i t
  exact ⟨(congrArg Era.resetting era).trans h.resetting, fun hr hopen => era.trans (h.next hr hopen),
    fun hr => (congrArg Era.gen era).trans (h.absorbed hr), h.handles, h.ats⟩

theorem exec_flrStart (hi : i ≠ 0) (hpresent : s.present i = true) (hmain : s.pkg.mode.mainPower = true)
    (hperst : s.pkg.perstHigh = true) : exec (.flrStart i) s = .next (resetPcie i s) := by
  change Host.Outcome.next _ = _
  rw [if_neg (by simp [hpresent, hmain, hperst]), if_neg hi]

/-- The registers that REASSIGN clears beside the generation change (R108, log 79). -/
def Inst.reassigned (n : Inst) : Inst :=
  { n with stale := 0, energy := 0, xlatAddr := 0, xlatAccess := 0, xlatCause := 0, xlatCount := 0, demoted := 0 }

theorem exec_instAdmReassign (hi : i ≠ 0) (hlt : i < 256) (h : Reached 0 s) :
    exec (.instAdmReassign i) s = .next ((resetFunction i s).modInst i Inst.reassigned) := by
  obtain ⟨hr, hide⟩ := h
  change Host.Outcome.next (s.gated 0 (instAdmReassignAt i s)) = _
  rw [gated_open s 0 _ hr hide, instAdmReassignAt, if_neg (by simp [hr, hlt]), if_neg hi]
  rfl

end Started

/-! ### The report of a region (R103, R104) -/

section Reported
variable {s : State} {i r : Nat}

theorem dropOld_awaited (c : Cmd) (s : State) (i : Nat) : ((dropOld c s).inst i).awaited = (s.inst i).awaited := by
  rw [dropOld, closeGone_keeps Inst.awaited (fun _ => rfl) (fun _ _ => rfl), inst_congr (abortWork_insts s _)]

theorem abortOld_awaited (c : Cmd) (s : State) (i : Nat) : ((abortOld c s).inst i).awaited = (s.inst i).awaited := by
  rw [abortOld, inst_congr (settleUnits_insts _), closeGone_keeps Inst.awaited (fun _ => rfl) (fun _ _ => rfl),
    ← inst_congr (abortWork_insts s c.job.id) i]
  exact inst_modInst_keeps Inst.awaited (fun _ => by rfl) _ i _

/-- A function that region `r` has reported to. -/
def Inst.reported (r : Nat) (n : Inst) : Inst := { n with awaited := n.awaited.filter fun q => !(q == r) }

/-- Where no routine runs on, the region's jobs end and it reports (R103, R396). -/
theorem exec_regionGenerationReport (hres : (s.inst i).resetting = true) (hr : r ∈ (s.inst i).awaited)
    (hruns : ∀ c ∈ s.cmds, c.job.inst = i → c.prog.region = some r → c.prog.phase = .running → s.runsOn c = false) :
    ∃ u : State, exec (.regionGenerationReport i r) s = .next (drainIfDone i (u.modInst i (Inst.reported r))) ∧
      (u.inst i).awaited = (s.inst i).awaited := by
  have none : ¬ (s.cmds.any fun c => (c.job.inst == i && !c.job.mbx) && c.prog.region == some r && c.prog.phase == .running &&
      s.runsOn c) = true := by
    simp only [List.any_eq_true, Bool.and_eq_true, beq_iff_eq, not_exists, not_and]
    rintro c hc ⟨⟨⟨hinst, -⟩, hregion⟩, hphase⟩ hon
    exact absurd (hruns c hc hinst hregion hphase) (by simp [hon])
  refine ⟨_, congrArg Host.Outcome.next ((if_neg (by simp [hres, hr])).trans (if_neg none)), ?_⟩
  rw [foldl_keeps (fun s => (s.inst i).awaited) _ fun s c => abortOld_awaited c s i]
  exact foldl_keeps (fun s => (s.inst i).awaited) _ (fun s c => dropOld_awaited c s i) _ s

theorem regionGenerationReport_reports (hres : (s.inst i).resetting = true) (hr : r ∈ (s.inst i).awaited)
    (hruns : ∀ c ∈ s.cmds, c.job.inst = i → c.prog.region = some r → c.prog.phase = .running → s.runsOn c = false) :
    ∃ t, exec (.regionGenerationReport i r) s = .next t ∧ (t.inst i).awaited = (s.inst i).awaited.filter fun q => !(q == r) := by
  obtain ⟨u, hu, awaited⟩ := exec_regionGenerationReport hres hr hruns
  refine ⟨_, hu, ?_⟩
  rw [drainIfDone_keeps Inst.awaited (fun _ => rfl), State.inst_modInst_self, Inst.reported, awaited]

end Reported

/-! ### The end of the drain and of the reset (R91, R105, R107, R108) -/

section Ended
variable {s : State} {i : Nat}

theorem wrapDrainTimeout_ends (hwrap : (s.inst i).wrapDrain = true) (hawaited : (s.inst i).awaited ≠ [])
    (hdue : (s.inst i).noticeTick + 10000000 ≤ s.tick) : ∃ t, exec (.wrapDrainTimeout i) s = .next t ∧ (t.inst i).gen = 0 ∧
      (t.inst i).wrapDrain = false ∧ (t.inst i).awaited = [] := by
  refine ⟨_, congrArg Host.Outcome.next (if_pos (by simp [hwrap, hawaited, hdue])), ?_⟩
  rw [endDrain, State.inst_modInst_self, State.inst_modInst_self]
  exact ⟨rfl, rfl, rfl⟩

/-- The requests whose accesses have completed are answered in their order, and leave (R100). -/
theorem settleInval_eq (s : State) : settleInval s = { s with
    pkg := { s.pkg with atsInval := s.pkg.atsInval.filter fun x => s.inUse x }
    out := s.out ++ (s.pkg.atsInval.filter fun x => !s.inUse x).map fun x => .atsDone x.inst x.page } := by
  have emits (l : List AtsInval) (t : State) : l.foldl (fun s x => emit (.atsDone x.inst x.page) s) t =
      { t with out := t.out ++ l.map fun x => .atsDone x.inst x.page } := by
    induction l generalizing t with
    | nil => simp
    | cons x l ih =>
      rw [List.foldl_cons, ih]
      simp [emit]
  unfold settleInval
  rw [emits]
  rfl

@[simp] theorem settleInval_insts (s : State) : (settleInval s).insts = s.insts := by
  rw [settleInval_eq]

@[simp] theorem settleInval_regions (s : State) : (settleInval s).regions = s.regions := by
  rw [settleInval_eq]

/-- The state after the wipes and the reset of the function's registers, with the invalidations that this lets through answered. -/
def resetEnded (i : Nat) (s : State) : State := settleInval ((wipeInstance i s).modInst i resetView)

/-- A reset ends once nothing is awaited, and no drain is left after one that is done has ended. -/
theorem exec_flrComplete {u : State} (hu : drainIfDone i s = u) (hres : (u.inst i).resetting = true) (hawaited : (u.inst i).awaited = [])
    (hwrap : (u.inst i).wrapDrain = false) : exec (.flrComplete i) s = .next (resetEnded i u) := by
  subst hu
  exact congrArg Host.Outcome.next (if_pos (by simp [hres, hawaited, hwrap]))

theorem resetEnded_inst (i : Nat) (s : State) : (resetEnded i s).inst i = resetView (s.inst i) := by
  rw [resetEnded, inst_congr (settleInval_insts _), State.inst_modInst_self]
  rfl

theorem resetEnded_inst_ne (s : State) {k : Nat} (h : k ≠ i) : (resetEnded i s).inst k = s.inst k := by
  rw [resetEnded, inst_congr (settleInval_insts _), State.inst_modInst_ne _ i k _ h]
  rfl

theorem resetEnded_shelf (i : Nat) (s : State) : ∀ e ∈ (resetEnded i s).regions, ∀ k ∈ e.2.shelf, k.inst ≠ i := by
  rw [resetEnded, settleInval_regions]
  intro e he
  obtain ⟨f, -, rfl⟩ := List.mem_map.1 he
  exact mem_filter_ne

end Ended

/-! ### A run -/

/-- A virtual function at the last generation, while region 7 holds jobs. -/
def lastGeneration : State :=
  { State.reset with
    pkg := { State.reset.pkg with mode := .service, vfEnable := true, numVfs := 1 }
    insts := [(1, { gen := 65535 })]
    regions := [(7, { svc := { state := .inService } })] }

/-- FLR keeps generation 0xFFFF and waits for region 7. -/
theorem lastGeneration_drains :
    ∃ t, exec (.flrStart 1) lastGeneration = .next t ∧ (t.inst 1).era = ⟨65535, true, true, [7]⟩ := by
  have began : Began 1 lastGeneration (resetPcie 1 lastGeneration) := resetPcie_began fun ⟨hwrap, _⟩ => absurd hwrap (by decide)
  refine ⟨_, exec_flrStart (by decide) (by decide) (by decide) rfl, (began.next (by decide) (.inr (by decide))).trans ?_⟩
  exact (begun_era_top (by decide) _ _).trans (congrArg (Era.mk 65535 true true) (by decide))

/-- Settles O9: a start gives the function its next era, and nothing that follows in the start can end a drain that a region has yet to
report to; a report takes one region off the list whatever drain it ends; and the end of a reset sees the drain that is done. -/
theorem generationChanges : Obligations.GenerationChanges := by
  unfold Obligations.GenerationChanges
  refine ⟨fun s i hi hlt hdrain => ?_, fun s i r => ⟨fun hres hr hruns => ?reported, wrapDrainTimeout_ends,
    fun hres hawaited hwrap => ?completed, fun hres hawaited hwrap hleft => ?wrapped⟩⟩
  · intro Started
    have began {t : State} (h : Began i s t) : Started t := by
      refine ⟨fun hr => ⟨h.resetting, fun hlow => ?_, fun htop htold => ?_, h.handles hr, h.ats hr⟩,
        fun hr => ⟨h.absorbed hr, h.resetting⟩⟩
      · have era := (h.next hr (.inl hlow)).trans (begun_era_below hlow _ _)
        exact ⟨congrArg Era.gen era, congrArg Era.wrapDrain era⟩
      · have era := (h.next hr (.inr htold)).trans (begun_era_top htop _ _)
        exact ⟨congrArg Era.gen era, congrArg Era.wrapDrain era⟩
    have notDone : ¬ MayDrain i s := fun ⟨hwrap, hawaited⟩ => hdrain hwrap hawaited
    exact ⟨fun hpresent hmain hperst => ⟨_, exec_flrStart hi hpresent hmain hperst, began (resetPcie_began notDone)⟩,
      fun h => ⟨_, exec_instAdmReassign hi hlt h, began ((resetFunction_began notDone rfl rfl).modInst fun _ => rfl)⟩⟩
  case reported =>
    obtain ⟨t, ht, awaited⟩ := regionGenerationReport_reports hres hr hruns
    refine ⟨t, ht, ?_, fun q hq hin => ?_⟩
    · rw [awaited]
      exact fun hin => mem_filter_ne (f := id) r hin rfl
    · rw [awaited]
      exact List.mem_filter.2 ⟨hin, by simp [hq]⟩
  case completed =>
    have kept : drainIfDone i s = s := drainIfDone_kept i fun ⟨hw, _⟩ => by simp [hwrap] at hw
    refine ⟨_, exec_flrComplete kept hres hawaited hwrap, ?_⟩
    rw [resetEnded_inst]
    exact ⟨rfl, rfl, rfl, rfl, rfl, resetEnded_shelf i s, fun k hk => resetEnded_inst_ne s hk⟩
  case wrapped =>
    have ended : drainIfDone i s = endDrain i s := if_pos (by simp [hwrap, hawaited, hleft])
    have inst : (endDrain i s).inst i = { s.inst i with gen := 0, wrapDrain := false } := State.inst_modInst_self s i _
    refine ⟨_, exec_flrComplete ended (by rw [inst]; exact hres) (by rw [inst]; exact hawaited) (by rw [inst]), ?_⟩
    rw [resetEnded_inst, inst]
    exact ⟨rfl, rfl⟩

end Sys2Proof.Machine
end
section
/-! PROOFS. The administrative view and functions, links and translations (O8): the rows of the view, the functions that exist, an
invalidation, a stream that fails, and a completion write that times out. -/

namespace Sys2Proof.Machine
open Safety

/-! ### The administrative view (R95-R98, R108) -/

section View
variable {s : State} {i : Nat}

theorem exec_instAdmClrEnergy (h : Reached 0 s) (hi : i < 256) :
    exec (.instAdmClrEnergy i) s = .next (s.modInst i fun n => { n with energy := 0 }) := by
  obtain ⟨hr, hide⟩ := h
  change Host.Outcome.next (s.gated 0 (instAdmClrEnergyAt i s)) = _
  rw [gated_open s 0 _ hr hide, instAdmClrEnergyAt, if_pos (by simp [hr, hi])]

theorem exec_instXlatClr (h : Reached i s) : exec (.instXlatClr i) s = .next (s.modInst i fun n => { n with xlatCount := 0 }) := by
  obtain ⟨hr, hide⟩ := h
  change Host.Outcome.next (s.gated i (instXlatClrAt i s)) = _
  rw [gated_open s i _ hr hide, instXlatClrAt, if_pos hr]

/-- A queue or a ring of the function is enabled, so that its addressing may not change (R98). -/
def Inst.enabled (n : Inst) : Bool := (n.sqs.any fun q => q.2.enable) || n.cqs.any fun q => q.2.enable

theorem exec_instAdmCfgWrite (h : Reached 0 s) (hi : i < 256) (v : Nat) : exec (.instAdmCfgWrite i v) s = .next (
    if (s.inst i).enabled then refuseAdm i s
    else s.modInst i fun n => { n with cfg := { n.cfg with
      pasid := bits v 19 0, pasidEn := bit v 20, ideRequired := bit v 21, ideBind := bit v 22, ideStream := bits v 27 23 } }) := by
  obtain ⟨hr, hide⟩ := h
  change Host.Outcome.next (s.gated 0 (instAdmCfgWriteAt i v s)) = _
  rw [gated_open s 0 _ hr hide, instAdmCfgWriteAt, if_neg (by simp [hr, hi])]
  rfl

theorem exec_instAdmQuotaWrite (h : Reached 0 s) (hi : i < 256) (w : Bool) (v : Nat) : exec (.instAdmQuotaWrite i w v) s = .next (
    if s.sumsOk i ((s.inst i).cfg.quota w v) && s.useOk i ((s.inst i).cfg.quota w v) then
      trimQuotas i (s.modInst i fun n => { n with cfg := (s.inst i).cfg.quota w v })
    else refuseAdm i s) := by
  obtain ⟨hr, hide⟩ := h
  change Host.Outcome.next (s.gated 0 (instAdmQuotaWriteAt i w v s)) = _
  rw [gated_open s 0 _ hr hide, instAdmQuotaWriteAt, if_neg (by simp [hr, hi])]

/-- A refused write sets CFG_ERR and nothing else of the function (R95, R98). -/
@[simp] theorem refuseAdm_inst (i : Nat) (s : State) : (refuseAdm i s).inst i = { s.inst i with cfgErr := true } := by
  rw [refuseAdm, noteBadAccess_inst, State.inst_modInst_self]

@[simp] theorem trimCryst_insts (i r : Nat) (s : State) : (trimCryst i r s).insts = s.insts := by
  obtain ⟨regions, -⟩ := evictCryst_same true r i 0 (s.inst i).cfg.cryst (fun _ => true) (s.region r).lat.cryst.length s
  unfold trimCryst
  dsimp only
  rw [regions]

/-- What lowered quotas evict stands in regions and key records (R95, R132). -/
@[simp] theorem trimQuotas_insts (i : Nat) (s : State) : (trimQuotas i s).insts = s.insts :=
  foldl_keeps State.insts _ (fun s r => by rw [trimCryst_insts, evictFor_same]) _ s

/-- A write of quotas that is taken changes the quotas of its function alone (R95). -/
theorem instAdmQuotaWrite_taken (h : Reached 0 s) (hi : i < 256) {w : Bool} {v : Nat}
    (hsums : s.sumsOk i ((s.inst i).cfg.quota w v) = true) (huse : s.useOk i ((s.inst i).cfg.quota w v) = true) :
    ∃ t, exec (.instAdmQuotaWrite i w v) s = .next t ∧ t.inst i = { s.inst i with cfg := (s.inst i).cfg.quota w v } ∧
      ∀ k, k ≠ i → t.inst k = s.inst k := by
  refine ⟨_, exec_instAdmQuotaWrite h hi w v, ?_⟩
  rw [if_pos (by simp [hsums, huse])]
  refine ⟨?_, fun k hk => ?_⟩
  · rw [inst_congr (trimQuotas_insts _ _), State.inst_modInst_self]
  · rw [inst_congr (trimQuotas_insts _ _), State.inst_modInst_ne s i k _ hk]

end View

/-! ### Functions (R92, R102, R442) -/

section Functions
variable {s : State}

theorem exec_vfEnableSet (hmain : s.pkg.mode.mainPower = true) (hperst : s.pkg.perstHigh = true) (hvf : s.pkg.vfEnable = false) {n : Nat}
    (hn : n ≤ 255) : exec (.vfEnableSet n) s = .next (s.modPkg fun p => { p with vfEnable := true, numVfs := n }) :=
  congrArg Host.Outcome.next (if_neg (by simp [hmain, hperst, hvf, hn]))

theorem vfEnableClear_present (hvf : s.pkg.vfEnable = true) :
    ∃ t, exec .vfEnableClear s = .next t ∧ ∀ k, t.present k = (k == 0) :=
  ⟨_, congrArg Host.Outcome.next (if_pos hvf), fun k => Bool.or_false (k == 0)⟩

/-- A reset of the physical function disables the virtual ones (R102). -/
theorem resetAll_present (s : State) (k : Nat) : (resetAll s).present k = (k == 0) := Bool.or_false (k == 0)

theorem exec_pcieHotReset (hmain : s.pkg.mode.mainPower = true) (hperst : s.pkg.perstHigh = true) :
    exec .pcieHotReset s = .next (resetAll s) := congrArg Host.Outcome.next (if_pos (by simp [hmain, hperst]))

end Functions

/-! ### Translations and streams (R82, R100, R101, R111) -/

section Translations
variable {s : State} {i : Nat}

/-- The cached pages of a request's span are gone, and the request waits for its answer (R100). -/
def invalidated (x : AtsInval) (s : State) : State :=
  s.modPkg fun p => { p with
    ats := p.ats.filter fun e => !(e.inst == x.inst && decide (e.page < x.page + 2 ^ x.size) && decide (x.page < e.page + 2 ^ e.sizeLog2)),
    atsInval := p.atsInval ++ [x] }

theorem exec_atsInvalidationRequest (hmain : s.pkg.mode.mainPower = true) (hperst : s.pkg.perstHigh = true) (hi : s.present i = true)
    (page size : Nat) : exec (.atsInvalidationRequest i page size) s =
      .next (settleInval (invalidated { inst := i, page := page, size := size } s)) :=
  congrArg Host.Outcome.next (if_pos (by simp [hi, hmain, hperst]))

theorem invalidated_ats (x : AtsInval) (s : State) : ∀ e ∈ (settleInval (invalidated x s)).pkg.ats, e ∈ s.pkg.ats ∧
    ¬ (e.inst = x.inst ∧ e.page < x.page + 2 ^ x.size ∧ x.page < e.page + 2 ^ e.sizeLog2) := by
  rw [settleInval_eq]
  intro e he
  obtain ⟨cached, apart⟩ := List.mem_filter.1 he
  exact ⟨cached, fun ⟨hinst, hbelow, habove⟩ => by simp [hinst, hbelow, habove] at apart⟩

/-- The only request is answered at once where no access uses its span, and waits else. -/
theorem invalidated_only (x : AtsInval) (h : s.pkg.atsInval = []) :
    (s.inUse x = false → (settleInval (invalidated x s)).out = s.out ++ [.atsDone x.inst x.page] ∧
      (settleInval (invalidated x s)).pkg.atsInval = []) ∧
    (s.inUse x = true → (settleInval (invalidated x s)).out = s.out ∧ (settleInval (invalidated x s)).pkg.atsInval = [x]) := by
  have waiting : (invalidated x s).pkg.atsInval = [x] := congrArg (· ++ [x]) h
  have inUse : (invalidated x s).inUse x = s.inUse x := rfl
  have out : (invalidated x s).out = s.out := rfl
  rw [settleInval_eq]
  constructor
  · intro free
    simp [waiting, inUse, out, free]
  · intro used
    simp [waiting, inUse, out, used]

theorem ideStreamFailure_drops {n : Nat} (h : n ∈ s.pkg.ideSecure) :
    ∃ t, exec (.ideStreamFailure n) s = .next t ∧ n ∉ t.pkg.ideSecure := by
  refine ⟨_, congrArg Host.Outcome.next (if_pos (List.contains_iff_mem.2 h)), ?_⟩
  rw [noteHostMemory_pkg, foldl_keeps State.pkg _ fun s i => by rfl]
  exact fun hin => mem_filter_ne (f := id) n hin rfl

end Translations

/-! ### A completion write that fails (R82, R101) -/

section Failed
variable {s : State} {i q : Nat}

theorem raiseCq_inst (i n : Nat) (s : State) (k : Nat) : ∃ l p, (raiseCq i n s).inst k = { s.inst k with cqs := l, pba := p } := by
  unfold raiseCq
  dsimp only
  split
  · obtain ⟨p, hp⟩ := raiseVector_inst i (s.cq i n).vector (signalled i n s) k
    obtain ⟨l, hl⟩ := inst_modCq i n (fun x => { x with unsignalled := [] }) s k
    exact ⟨l, p, by rw [signalled, hl] at hp; exact hp⟩
  · exact ⟨(s.inst k).cqs, (s.inst k).pba, rfl⟩

theorem raiseCq_writeFault (i n : Nat) (s : State) : ((raiseCq i n s).cq i n).writeFault = (s.cq i n).writeFault := by
  unfold raiseCq
  dsimp only
  split
  · rw [raiseVector_cq, State.cq_modCq_self]
  · rfl

/-- The ring's fault is marked and its posting stopped; the function counts a translation fault of a completion write (R97). -/
def ringFailed (i q cause : Nat) (s : State) : State :=
  xlatFault i ((s.cq i q).base + 32 * (s.cq i q).tail) 3 cause (s.modCq i q fun x => { x with writeFault := true, writeStopped := true })

theorem ringFailed_writeFault (i q cause : Nat) (s : State) : ((ringFailed i q cause s).cq i q).writeFault = true := by
  unfold ringFailed xlatFault State.cq
  rw [State.inst_modInst_self]
  exact congrArg Cq.writeFault (State.cq_modCq_self s i q _)

theorem ringFailed_counts (i q cause : Nat) (s : State) : ∃ l, (ringFailed i q cause s).inst i = { s.inst i with
    cqs := l, xlatAddr := (s.cq i q).base + 32 * (s.cq i q).tail, xlatAccess := 3, xlatCause := cause,
    xlatCount := satAdd 0xFFFF (s.inst i).xlatCount 1 } := by
  obtain ⟨l, hl⟩ := inst_modCq i q (fun x => { x with writeFault := true, writeStopped := true }) s i
  refine ⟨l, ?_⟩
  unfold ringFailed xlatFault
  rw [State.inst_modInst_self, hl]

theorem exec_cqWrite_timeout (hi : s.present i = true) (hon : (s.cq i q).enable = true)
    (hidle : ∀ h ∈ s.pkg.atsWait, h.use ≠ .cqWrite i q) : exec (.hostMemoryCompletion (.cqWrite i q) .timeout) s =
      .next (settleInval (noteHostMemory (raiseCq i q (ringFailed i q 2 s)))) := by
  have none : ¬ (s.pkg.atsWait.any fun h => h.use == .cqWrite i q) = true := by simpa using hidle
  have failed : cqWriteDone i q .timeout s = noteHostMemory (raiseCq i q (ringFailed i q 2 s)) := if_pos (by simp [hi, hon])
  rw [← failed]
  exact congrArg Host.Outcome.next (if_neg none)

theorem cqWrite_timeout_fails (hi : s.present i = true) (hon : (s.cq i q).enable = true)
    (hidle : ∀ h ∈ s.pkg.atsWait, h.use ≠ .cqWrite i q) : ∃ t, exec (.hostMemoryCompletion (.cqWrite i q) .timeout) s = .next t ∧
      (t.cq i q).writeFault = true ∧ (t.inst i).xlatAccess = 3 ∧
      (t.inst i).xlatCause = 2 ∧ (t.inst i).xlatCount = satAdd 0xFFFF (s.inst i).xlatCount 1 := by
  refine ⟨_, exec_cqWrite_timeout hi hon hidle, ?_⟩
  have insts : (settleInval (noteHostMemory (raiseCq i q (ringFailed i q 2 s)))).insts = (raiseCq i q (ringFailed i q 2 s)).insts :=
    (settleInval_insts _).trans (noteHostMemory_insts _)
  obtain ⟨l, p, raised⟩ := raiseCq_inst i q (ringFailed i q 2 s) i
  obtain ⟨m, counted⟩ := ringFailed_counts i q 2 s
  rw [cq_of_insts insts, raiseCq_writeFault, ringFailed_writeFault, inst_congr insts, raised, counted]
  exact ⟨rfl, rfl, rfl, rfl⟩

end Failed

/-! ### A run -/

/-- A physical function whose completion ring 3 lies at 4096 and is enabled. -/
def enabledRing : State :=
  { State.reset with
    pkg := { State.reset.pkg with mode := .service }
    insts := [(0, { inst0 0 with cqs := [(3, { base := 4096, enable := true })] })] }

/-- A completion write of that ring times out, and it counts as the first translation fault. -/
theorem enabledRing_fails : ∃ t, exec (.hostMemoryCompletion (.cqWrite 0 3) .timeout) enabledRing = .next t ∧
    (t.cq 0 3).writeFault = true ∧ (t.inst 0).xlatCount = 1 := by
  obtain ⟨t, ht, fault, -, -, count⟩ := cqWrite_timeout_fails (s := enabledRing) (i := 0) (q := 3) (by decide) (by decide)
    fun h hh => by cases hh
  exact ⟨t, ht, fault, count⟩

/-- Settles O8: each write of the view comes down to one change of its function, or to CFG_ERR; the evictions that follow lower quotas
leave the functions alone; REASSIGN clears its registers last, so also where a reset absorbs it (log 79); and what follows an
invalidation or a failed write touches neither the cache nor the registers that it reported in. -/
theorem administrativeViewAndFunctions : Obligations.AdministrativeViewAndFunctions := by
  unfold Obligations.AdministrativeViewAndFunctions
  refine ⟨fun s i v w h hi => ⟨exec_instAdmClrEnergy h hi, fun hsq hcq => ?addressed, fun hsq => ?addressRefused,
      instAdmQuotaWrite_taken h hi, fun hbad => ?quotaRefused, fun h0 => ?reassigned, fun k => exec_instXlatClr⟩,
    fun s n i page size q hmain hperst => ⟨fun hvf hn => ?enabled, vfEnableClear_present,
      ⟨_, exec_pcieHotReset hmain hperst, resetAll_present s⟩, fun hi => ?invalidation, ideStreamFailure_drops,
      cqWrite_timeout_fails⟩⟩
  case addressed =>
    rw [exec_instAdmCfgWrite h hi, if_neg (by simp [Inst.enabled, hsq, hcq])]
  case addressRefused =>
    refine ⟨_, exec_instAdmCfgWrite h hi v, ?_⟩
    rw [if_pos (by simp [Inst.enabled, hsq]), refuseAdm_inst]
    exact ⟨rfl, rfl⟩
  case quotaRefused =>
    refine ⟨_, exec_instAdmQuotaWrite h hi w v, ?_⟩
    rw [hbad, if_neg Bool.false_ne_true, refuseAdm_inst]
    exact ⟨rfl, rfl⟩
  case reassigned =>
    refine ⟨_, exec_instAdmReassign h0 hi h, ?_⟩
    rw [State.inst_modInst_self]
    exact ⟨rfl, rfl, rfl, rfl⟩
  case enabled => exact ⟨_, exec_vfEnableSet hmain hperst hvf hn, fun k => rfl, rfl⟩
  case invalidation =>
    exact ⟨_, exec_atsInvalidationRequest hmain hperst hi page size, invalidated_ats _ s, settleInval_insts _, invalidated_only _⟩

end Sys2Proof.Machine
end
section
/-! PROOFS. Management messages (O49): image banks, an activation with its roll, the messages of the update agent state by state, and
SPDM sessions. -/

namespace Sys2Proof.Machine
open Safety

/-! ### Image banks (R460, R466) -/

section Banks
variable (s : State)

theorem bank_modBank (x : FwKind) (o : Bool) (f : Bank → Bank) : (x.modBank o f).bank o = f (x.bank o) := by
  unfold FwKind.modBank
  split
  next h => simp [FwKind.bank, h]
  next h => simp [FwKind.bank, h]

theorem fw_modFw_self (k : Nat) (f : FwKind → FwKind) : (s.modFw k f).fw k = f (s.fw k) := by
  simp [State.fw, State.modFw, State.modMgmt]

/-- A kind whose inactive bank has the bytes `d` from `o` on; a write at 0 clears its validity flag (R466). -/
def FwKind.written (o : Nat) (d : List Byte) (x : FwKind) : FwKind :=
  x.modBank true fun b => { data := fit o b.data ++ d ++ b.data.drop (o + d.length), valid := b.valid && o != 0 }

theorem writeBank_fw (k o : Nat) (d : List Byte) : (writeBank k o d s).fw k = (s.fw k).written o d := fw_modFw_self s k (FwKind.written o d)

theorem written_data (o : Nat) (d : List Byte) (x : FwKind) :
    ((x.written o d).bank true).data = fit o (x.bank true).data ++ d ++ (x.bank true).data.drop (o + d.length) := by
  rw [FwKind.written, bank_modBank]

end Banks

/-! ### An activation (R461, R467) -/

section Activation
variable (s : State)

/-- A kind whose other bank is active, on trial (R467). -/
def FwKind.switched (x : FwKind) : FwKind := { x with active := !x.active, trial := true, fallback := false }

theorem mlog_mgmt (ty : Nat) (b : List Byte) : ∃ l n, (mlog ty b s).mgmt = { s.mgmt with log := l, logSeq := n } := ⟨_, _, rfl⟩

/-- A switch of banks leaves of the management subsystem all but the kind and the log, for its event is in the journal. -/
theorem switchBank_mgmt (k : Nat) : ∃ l n,
    (switchBank k s).mgmt = { (s.modFw k FwKind.switched).mgmt with log := l, logSeq := n } := by
  unfold switchBank
  rw [journalEvent_same]
  exact mlog_mgmt (s.modFw k FwKind.switched) _ _

theorem switchBank_regions (k : Nat) : (switchBank k s).regions = s.regions := by
  unfold switchBank
  rw [journalEvent_regions]
  rfl

theorem switchBank_fw (k : Nat) : (switchBank k s).fw k = (s.fw k).switched := by
  obtain ⟨l, n, kept⟩ := switchBank_mgmt s k
  unfold State.fw
  rw [kept]
  exact fw_modFw_self s k FwKind.switched

/-- An activation with ROLL: the other bank is active on trial, and the roll names every region that is enabled and not FAILED (R467). -/
theorem activateRegions_rolls (k : Nat) : (activateRegions k true s).fw k = (s.fw k).switched ∧
    (activateRegions k true s).mgmt.agent = s.mgmt.agent ∧ (activateRegions k true s).mgmt.roll =
      some { kind := k, todo := regionNums.filter fun r => s.enabled r && (s.region r).svc.state != .failed } := by
  obtain ⟨l, n, kept⟩ := switchBank_mgmt s k
  have enabled (r : Nat) : (switchBank k s).enabled r = s.enabled r := by
    unfold State.enabled State.variant
    rw [switchBank_pkg]
  have region (r : Nat) : (switchBank k s).region r = s.region r := by
    unfold State.region
    rw [switchBank_regions]
  have agent : (switchBank k s).mgmt.agent = s.mgmt.agent := by rw [kept]; rfl
  refine ⟨switchBank_fw s k, agent, ?_⟩
  simp only [activateRegions, if_true, State.modMgmt, enabled, region]

/-- The one component applied is of kind 2: it is activated with ROLL as the role is given up (R470). -/
theorem activateApplied_two (hks : s.mgmt.pldm.applied = [2]) (hv : ((s.fw 2).bank true).valid = true) :
    activateApplied s = activateRegions 2 true (dropAgent s) := by
  have valid : (((dropAgent s).fw 2).bank true).valid = true := hv
  simp [activateApplied, hks, valid]

end Activation

/-! ### Update traffic (R469, R470) -/

/-- A message of the update agent leaves it the role, its traffic of this tick, and the update at `q` (R469). -/
def Traffic (s t : State) (q : Pldm) : Prop := t.mgmt.pldm = q ∧ t.mgmt.agent = some .pldm ∧ t.mgmt.agentTick = s.tick

section Updates
variable {s : State} {pcie : Bool}

theorem pldmIn_taken {l : List PldmState} {name : String} {k : State → State} (hup : s.pldmUp = true)
    (hagent : s.mgmt.agent = some .pldm) (hst : l.contains s.mgmt.pldm.st = true) : pldmIn pcie l name k s = k (touchAgent s) := by
  unfold pldmIn
  rw [if_pos hup, if_pos ⟨hagent, hst⟩]

theorem touchAgent_mgmt (hagent : s.mgmt.agent = some .pldm) : (touchAgent s).mgmt = { s.mgmt with agentTick := s.tick } := by
  simp [touchAgent, State.modMgmt, hagent]

theorem touchAgent_traffic (hagent : s.mgmt.agent = some .pldm) : Traffic s (touchAgent s) s.mgmt.pldm := by
  unfold Traffic
  rw [touchAgent_mgmt hagent]
  exact ⟨rfl, hagent, rfl⟩

theorem Traffic.of_mgmt {t u : State} {q : Pldm} (h : Traffic s t q) (hm : u.mgmt = t.mgmt) : Traffic s u q := by
  unfold Traffic
  rw [hm]
  exact h

theorem Traffic.modPldm {t : State} {q : Pldm} (h : Traffic s t q) (f : Pldm → Pldm) : Traffic s (t.modPldm f) (f q) := by
  obtain ⟨update, agent, tick⟩ := h
  exact ⟨congrArg f update, agent, tick⟩

theorem askBlock_mgmt (pcie : Bool) (s : State) : (askBlock pcie s).mgmt = s.mgmt := by
  unfold askBlock
  dsimp only
  split
  · rfl
  · rfl

/-- An answer goes out, and nothing else changes. -/
theorem answer_only (pcie : Bool) (name : String) (parts : List (List Byte)) (s : State) :
    answer pcie name parts s = { s with out := (answer pcie name parts s).out } ∧
      (answer pcie name parts s).out.length = s.out.length + 1 := ⟨rfl, by simp [answer, emit]⟩

theorem pldmQueryDeviceIdentifiers_answered (hup : s.pldmUp = true) : ∃ t, exec (.pldmQueryDeviceIdentifiers pcie) s = .next t ∧
    t = { s with out := t.out } ∧ t.out.length = s.out.length + 1 :=
  ⟨_, congrArg Host.Outcome.next (if_pos hup), answer_only _ _ _ s⟩

theorem pldmGetFirmwareParameters_answered (hup : s.pldmUp = true) : ∃ t, exec (.pldmGetFirmwareParameters pcie) s = .next t ∧
    t = { s with out := t.out } ∧ t.out.length = s.out.length + 1 :=
  ⟨_, congrArg Host.Outcome.next (if_pos hup), answer_only _ _ _ s⟩

theorem pldmGetStatus_answered (hup : s.pldmUp = true) : ∃ t, exec (.pldmGetStatus pcie) s = .next t ∧
    t = { s with out := t.out } ∧ t.out.length = s.out.length + 1 :=
  ⟨_, congrArg Host.Outcome.next (if_pos hup), answer_only _ _ _ s⟩

theorem pldmRequestUpdate_taken (hup : s.pldmUp = true) (hagent : s.mgmt.agent = none) :
    ∃ t, exec (.pldmRequestUpdate pcie) s = .next t ∧ Traffic s t { st := .learn } :=
  ⟨_, congrArg Host.Outcome.next ((if_pos hup).trans (if_pos hagent)), rfl, rfl, rfl⟩

theorem pldmRequestUpdate_refused (hup : s.pldmUp = true) (hagent : s.mgmt.agent ≠ none) :
    ∃ t, exec (.pldmRequestUpdate pcie) s = .next t ∧ t = { s with out := t.out } :=
  ⟨_, congrArg Host.Outcome.next ((if_pos hup).trans (if_neg hagent)), rfl⟩

end Updates

/-! ### The messages of the update agent, state by state -/

section Agent
variable {s : State} {pcie : Bool}

theorem pldmPassComponentTable_taken (hup : s.pldmUp = true) (hagent : s.mgmt.agent = some .pldm) (hst : s.mgmt.pldm.st = .learn)
    (last : Bool) : ∃ t, exec (.pldmPassComponentTable pcie last) s = .next t ∧
      Traffic s t { s.mgmt.pldm with st := if last then .ready else .learn } :=
  ⟨_, congrArg Host.Outcome.next (pldmIn_taken hup hagent (by rw [hst]; rfl)),
    (touchAgent_traffic hagent).modPldm fun p => { p with st := if last then .ready else .learn }⟩

theorem pldmUpdateComponent_taken (hup : s.pldmUp = true) (hagent : s.mgmt.agent = some .pldm) (hst : s.mgmt.pldm.st = .ready)
    {k n : Nat} (hok : componentOk s k n = true) : ∃ t, exec (.pldmUpdateComponent pcie k n) s = .next t ∧
      Traffic s t { s.mgmt.pldm with st := .download, kind := k, size := n, got := 0 } :=
  ⟨_, congrArg Host.Outcome.next ((pldmIn_taken hup hagent (by rw [hst]; rfl)).trans (if_pos hok)),
    ((touchAgent_traffic hagent).modPldm fun p => { p with st := .download, kind := k, size := n, got := 0 }).of_mgmt
      (askBlock_mgmt _ _)⟩

theorem pldmUpdateComponent_refused (hup : s.pldmUp = true) (hagent : s.mgmt.agent = some .pldm) (hst : s.mgmt.pldm.st = .ready)
    {k n : Nat} (hno : componentOk s k n = false) : ∃ t, exec (.pldmUpdateComponent pcie k n) s = .next t ∧
      Traffic s t s.mgmt.pldm :=
  ⟨_, congrArg Host.Outcome.next ((pldmIn_taken hup hagent (by rw [hst]; rfl)).trans (if_neg (Bool.not_eq_true _ ▸ hno))),
    touchAgent_traffic hagent⟩

theorem pldmActivateFirmware_rolls (hup : s.pldmUp = true) (hagent : s.mgmt.agent = some .pldm) (hst : s.mgmt.pldm.st = .ready)
    (hks : s.mgmt.pldm.applied = [2]) (hrec : s.mgmt.recovery = false) (hv : ((s.fw 2).bank true).valid = true) :
    exec (.pldmActivateFirmware pcie) s = .next (activateRegions 2 true (dropAgent
      (answer pcie "PLDM ActivateFirmware" [ascii "SUCCESS"] (touchAgent s)))) := by
  have update : (touchAgent s).mgmt = { s.mgmt with agentTick := s.tick } := touchAgent_mgmt hagent
  change Host.Outcome.next (pldmIn _ _ _ _ s) = _
  rw [pldmIn_taken hup hagent (by rw [hst]; rfl), update, if_neg (by simp [hks]), if_neg (by simp [hrec]), if_neg (by simp [hks])]
  exact congrArg Host.Outcome.next (activateApplied_two _ hks hv)

/-- The state after a block of the component `p` has been written. -/
def blockWritten (p : Pldm) (d : List Byte) (s : State) : State :=
  (writeBank p.kind p.got d s).modPldm fun p => { p with got := p.got + d.length }

theorem exec_pldmRequestFirmwareData (hup : s.pldmUp = true) (hagent : s.mgmt.agent = some .pldm) (hst : s.mgmt.pldm.st = .download)
    {d : List Byte} (hd : d.length = min (if pcie then 4096 else 1024) (s.mgmt.pldm.size - s.mgmt.pldm.got)) (hpos : 0 < d.length) :
    exec (.pldmRequestFirmwareData pcie d) s = .next (askBlock pcie (blockWritten s.mgmt.pldm d (touchAgent s))) := by
  obtain ⟨update, -, -⟩ := touchAgent_traffic hagent
  change Host.Outcome.next (pldmIn _ _ _ _ s) = _
  rw [pldmIn_taken hup hagent (by rw [hst]; rfl)]
  dsimp only
  rw [update, ← hd, if_pos ⟨rfl, hpos⟩]
  rfl

theorem pldmRequestFirmwareData_taken (hup : s.pldmUp = true) (hagent : s.mgmt.agent = some .pldm) (hst : s.mgmt.pldm.st = .download)
    {d : List Byte} (hd : d.length = min (if pcie then 4096 else 1024) (s.mgmt.pldm.size - s.mgmt.pldm.got)) (hpos : 0 < d.length) :
    ∃ t, exec (.pldmRequestFirmwareData pcie d) s = .next t ∧
      Traffic s t { s.mgmt.pldm with got := s.mgmt.pldm.got + d.length } ∧
      t.fw s.mgmt.pldm.kind = (s.fw s.mgmt.pldm.kind).written s.mgmt.pldm.got d := by
  have kept := askBlock_mgmt pcie (blockWritten s.mgmt.pldm d (touchAgent s))
  have traffic : Traffic s (writeBank s.mgmt.pldm.kind s.mgmt.pldm.got d (touchAgent s)) s.mgmt.pldm := touchAgent_traffic hagent
  refine ⟨_, exec_pldmRequestFirmwareData hup hagent hst hd hpos,
    (traffic.modPldm fun p => { p with got := p.got + d.length }).of_mgmt kept, ?_⟩
  unfold State.fw
  rw [kept]
  exact writeBank_fw (touchAgent s) s.mgmt.pldm.kind s.mgmt.pldm.got d

theorem pldmTransferComplete_taken (hup : s.pldmUp = true) (hagent : s.mgmt.agent = some .pldm) (hst : s.mgmt.pldm.st = .download)
    (hall : s.mgmt.pldm.got = s.mgmt.pldm.size) : ∃ t, exec (.pldmTransferComplete pcie) s = .next t ∧
      Traffic s t { s.mgmt.pldm with st := .verify } :=
  ⟨_, congrArg Host.Outcome.next ((pldmIn_taken hup hagent (by rw [hst]; rfl)).trans (if_pos hall)),
    (touchAgent_traffic hagent).modPldm fun p => { p with st := .verify }⟩

theorem pldmCancelUpdateComponent_taken (hup : s.pldmUp = true) (hagent : s.mgmt.agent = some .pldm) (hst : s.mgmt.pldm.st = .download) :
    ∃ t, exec (.pldmCancelUpdateComponent pcie) s = .next t ∧
      Traffic s t { s.mgmt.pldm with st := .ready, kind := 0, size := 0, got := 0 } :=
  ⟨_, congrArg Host.Outcome.next (pldmIn_taken hup hagent (by rw [hst]; rfl)),
    (touchAgent_traffic hagent).modPldm fun p => { p with st := .ready, kind := 0, size := 0, got := 0 }⟩

theorem pldmApplyComplete_taken (hup : s.pldmUp = true) (hagent : s.mgmt.agent = some .pldm) (hst : s.mgmt.pldm.st = .apply) :
    ∃ t, exec (.pldmApplyComplete pcie) s = .next t ∧
      Traffic s t { s.mgmt.pldm with st := .ready, applied := s.mgmt.pldm.applied ++ [s.mgmt.pldm.kind] } :=
  ⟨_, congrArg Host.Outcome.next (pldmIn_taken hup hagent (by rw [hst]; rfl)),
    (touchAgent_traffic hagent).modPldm fun p => { p with st := .ready, applied := p.applied ++ [p.kind] }⟩

/-- The state after the inactive bank of kind `k` has been judged. -/
def bankJudged (k : Nat) (ok : Bool) (s : State) : State := s.modFw k fun x => x.modBank true fun b => { b with valid := ok }

theorem bankJudged_valid (k : Nat) (ok : Bool) (s : State) : (((bankJudged k ok s).fw k).bank true).valid = ok := by
  rw [bankJudged, fw_modFw_self, bank_modBank]

theorem exec_pldmVerifyComplete (hup : s.pldmUp = true) (hagent : s.mgmt.agent = some .pldm) (hst : s.mgmt.pldm.st = .verify)
    {bad : Option Status} (hbad : imgCheck s s.mgmt.pldm.kind ((s.fw s.mgmt.pldm.kind).bank true).data = bad) :
    let judged := bankJudged s.mgmt.pldm.kind bad.isNone (touchAgent s)
    exec (.pldmVerifyComplete pcie) s = .next (answer pcie "PLDM VerifyComplete" [le 2 ((bad.getD .ok).code)]
      (if bad.isNone then judged.modPldm fun p => { p with st := .apply } else judged)) := by
  obtain ⟨update, -, -⟩ := touchAgent_traffic hagent
  have check : imgCheck (touchAgent s) s.mgmt.pldm.kind (((touchAgent s).fw s.mgmt.pldm.kind).bank true).data = bad := hbad
  change Host.Outcome.next (pldmIn _ _ _ _ s) = _
  rw [pldmIn_taken hup hagent (by rw [hst]; rfl)]
  dsimp only
  rw [update, check]
  rfl

/-- The image is judged; one that verifies goes on to be applied (R463, R470). -/
theorem pldmVerifyComplete_taken (hup : s.pldmUp = true) (hagent : s.mgmt.agent = some .pldm) (hst : s.mgmt.pldm.st = .verify) :
    let bad := imgCheck s s.mgmt.pldm.kind ((s.fw s.mgmt.pldm.kind).bank true).data
    ∃ t, exec (.pldmVerifyComplete pcie) s = .next t ∧
      Traffic s t (if bad.isNone then { s.mgmt.pldm with st := .apply } else s.mgmt.pldm) ∧
      ((t.fw s.mgmt.pldm.kind).bank true).valid = bad.isNone := by
  intro bad
  have traffic : Traffic s (bankJudged s.mgmt.pldm.kind bad.isNone (touchAgent s)) s.mgmt.pldm := touchAgent_traffic hagent
  have valid := bankJudged_valid s.mgmt.pldm.kind bad.isNone (touchAgent s)
  refine ⟨_, exec_pldmVerifyComplete hup hagent hst rfl, ?_⟩
  split
  · exact ⟨traffic.modPldm fun p => { p with st := .apply }, valid⟩
  · exact ⟨traffic, valid⟩

theorem pldmCancelUpdate_taken (hup : s.pldmUp = true) (hagent : s.mgmt.agent = some .pldm) (hst : s.mgmt.pldm.st ≠ .idle) :
    exec (.pldmCancelUpdate pcie) s = .next (answer pcie "PLDM CancelUpdate" [ascii "SUCCESS"] (dropAgent (touchAgent s))) := by
  refine congrArg Host.Outcome.next (pldmIn_taken hup hagent ?_)
  cases h : s.mgmt.pldm.st with
  | idle => exact absurd h hst
  | _ => rfl

end Agent

/-! ### SPDM sessions and control messages (R470-R472, R110) -/

section Sessions
variable {s : State}

theorem exec_mctpControlMessage (hup : s.pldmUp = true) (pcie : Bool) (e : Nat) (msg : List Byte) :
    exec (.mctpControlMessage pcie (some e) msg) s =
      .next (answer pcie "MCTP Set Endpoint ID" [le 1 e] (s.modMgmt fun m => { m with eid := e % 256 })) :=
  congrArg Host.Outcome.next (if_pos hup)

theorem exec_spdmRequest (hup : s.mctpUp = true) (doe : Bool) (x : SpdmReq) :
    exec (.spdmRequest doe x) s = .next (serveSpdm doe x s) := congrArg Host.Outcome.next (if_pos hup)

theorem serveSpdm_setCertificate (doe : Bool) {n : Nat} (chain : List Byte) (h1 : 1 ≤ n) (h3 : n ≤ 3) (hlc : s.lcState = 3) :
    tget (fun _ => []) (serveSpdm doe (.setCertificate n chain) s).mgmt.chains n = chain := by
  unfold serveSpdm
  dsimp only
  rw [if_pos ⟨h1, h3, hlc⟩]
  exact tget_tset_self _ _ _ _

theorem serveSpdm_ideKm {n m : Nat} {x : Spdm} (hx : s.mgmt.spdm[n]? = some x) (hdoe : x.doe = true) (hm : m ≤ 32) :
    m ∈ (serveSpdm true (.ideKm n m) s).pkg.ideSecure := by
  unfold serveSpdm
  dsimp only
  rw [if_pos (by simp [hx, hdoe, hm])]
  change m ∈ (if s.pkg.ideSecure.contains m then s.pkg.ideSecure else s.pkg.ideSecure ++ [m])
  split
  next h => exact List.contains_iff_mem.1 h
  next => exact List.mem_append_right _ List.mem_cons_self

/-- A record that is pending and has not expired is acknowledged (R435). -/
theorem hostAck_taken {q : Nat} (h : ∃ y ∈ s.faults.pending, y.fseq = q ∧ s.tick < y.end) :
    (hostAck q s).faults.pending = s.faults.pending.filter fun y => !(y.fseq == q) := by
  have found : (s.faults.pending.any fun y => y.fseq == q && decide (s.tick < y.end)) = true := by
    simpa [List.any_eq_true] using h
  unfold hostAck ackRecord
  rw [if_pos found]
  rfl

theorem exec_mctpFaultAck_ignored {n : Nat} {x : Spdm} (hx : s.mgmt.spdm[n]? = some x) (h0 : x.slot = 0) (q : Nat) :
    exec (.mctpFaultAck n q) s = .next s := congrArg Host.Outcome.next (if_neg (by simp [hx, h0]))

theorem exec_mctpFaultAck_taken (hup : s.mctpUp = true) {n : Nat} {x : Spdm} (hx : s.mgmt.spdm[n]? = some x) (h1 : 1 ≤ x.slot)
    (h3 : x.slot ≤ 3) {q : Nat} (hq : q < 2 ^ 64) : exec (.mctpFaultAck n q) s = .next (hostAck q s) := by
  refine congrArg Host.Outcome.next ((if_pos (by simp [hup, hx, h1, h3])).trans ?_)
  rw [Nat.mod_eq_of_lt hq]

end Sessions

/-! ### A run -/

/-- An update of region firmware that has been applied, outside recovery, with a valid image in the inactive bank. -/
def appliedUpdate : State :=
  { State.reset with mgmt := { running := true, agent := some .pldm, pldm := { st := .ready, applied := [2] },
                               kinds := [(2, { bankB := { valid := true } })] } }

theorem appliedUpdate_activates : ∃ t, exec (.pldmActivateFirmware true) appliedUpdate = .next t ∧ (t.fw 2).active = true ∧
    t.mgmt.agent = none := by
  obtain ⟨fw, agent, -⟩ := activateRegions_rolls (dropAgent
    (answer true "PLDM ActivateFirmware" [ascii "SUCCESS"] (touchAgent appliedUpdate))) 2
  exact ⟨_, pldmActivateFirmware_rolls (by decide) rfl rfl rfl rfl (by decide), congrArg FwKind.active fw, agent⟩

/-- Settles O49: a message of the agent in its state touches the role and takes one step of the update; an image is judged once and its
verdict is both its flag and the next state (log 53); an activation leaves regions and fuses alone, so the roll is read before it
(log 116); and a session's slot decides whether an acknowledgement counts (log 115). -/
theorem managementMessages : Obligations.ManagementMessages := by
  unfold Obligations.ManagementMessages
  intro s pcie last hup p In Now
  refine ⟨pldmQueryDeviceIdentifiers_answered hup, pldmGetFirmwareParameters_answered hup, pldmGetStatus_answered hup,
    pldmRequestUpdate_taken hup, pldmRequestUpdate_refused hup, fun ⟨hagent, hst⟩ => pldmPassComponentTable_taken hup hagent hst last,
    fun ⟨hagent, hst⟩ => ⟨fun _ _ => pldmUpdateComponent_taken hup hagent hst, fun _ _ => pldmUpdateComponent_refused hup hagent hst,
      fun hks hrec hv => ?activated⟩,
    fun ⟨hagent, hst⟩ => ⟨fun d hd hpos => ?block, pldmTransferComplete_taken hup hagent hst,
      pldmCancelUpdateComponent_taken hup hagent hst⟩,
    fun ⟨hagent, hst⟩ => pldmVerifyComplete_taken hup hagent hst, fun ⟨hagent, hst⟩ => pldmApplyComplete_taken hup hagent hst,
    fun hagent hst => ⟨_, pldmCancelUpdate_taken hup hagent hst, rfl, rfl, rfl⟩,
    fun e msg => ⟨_, exec_mctpControlMessage hup pcie e msg, rfl⟩, fun hmctp => ⟨fun n d _ => ?opened, fun n chain h1 h3 hlc =>
      ⟨_, exec_spdmRequest hmctp pcie _, serveSpdm_setCertificate pcie chain h1 h3 hlc⟩, fun n x hx => ⟨fun hdoe m hm =>
        ⟨_, exec_spdmRequest hmctp true _, serveSpdm_ideKm hx hdoe hm⟩, exec_mctpFaultAck_ignored hx, fun h1 h3 q hpend hq =>
          ⟨_, exec_mctpFaultAck_taken hmctp hx h1 h3 hq, hostAck_taken hpend⟩⟩⟩⟩
  case activated =>
    obtain ⟨fw, agent, roll⟩ := activateRegions_rolls (dropAgent
      (answer pcie "PLDM ActivateFirmware" [ascii "SUCCESS"] (touchAgent s))) 2
    exact ⟨_, pldmActivateFirmware_rolls hup hagent hst hks hrec hv, agent, congrArg FwKind.active fw, congrArg FwKind.trial fw, _, roll,
      rfl, rfl, rfl⟩
  case block =>
    obtain ⟨t, ht, traffic, fw⟩ := pldmRequestFirmwareData_taken hup hagent hst hd hpos
    exact ⟨t, ht, traffic, by rw [fw]; exact written_data _ _ _⟩
  case opened => exact ⟨_, exec_spdmRequest hmctp pcie _, rfl⟩

end Sys2Proof.Machine
end

section
/-! PROOFS. The end of a command's work, and the record of a RETRY: what they leave of the regions, of the commands and of the fault
aggregator (R69, R427, R430, R437). -/

namespace Sys2Proof.Machine
open Safety

/-! ### What work that leaves its units leaves of a region -/

section Units
variable {γ : Type} {p : Region → γ} {s : State}

/-- What `p` reads of a region lies outside its pans, cells, engines, crystallizer and shelf, which the end of work touches. -/
def UnitsBlind (p : Region → γ) : Prop := ∀ g pans latCells numCells lat sym shelf,
  p { g with pans := pans, latCells := latCells, numCells := numCells, lat := lat, sym := sym, shelf := shelf } = p g

theorem rng_unitsBlind : UnitsBlind Region.rng := fun _ _ _ _ _ _ _ => rfl

theorem region_modRegion_keeps {f : Region → Region} (hf : ∀ g, p (f g) = p g) (q r : Nat) (s : State) :
    p ((s.modRegion q f).region r) = p (s.region r) := by
  by_cases h : r = q
  · subst h
    rw [State.region_modRegion_self, hf]
  · rw [State.region_modRegion_ne s q r f h]

theorem region_congr {t : State} (h : t.regions = s.regions) (r : Nat) : t.region r = s.region r := by
  unfold State.region
  rw [h]

section Blind
variable (h : UnitsBlind p)
include h

theorem UnitsBlind.pan (q x r : Nat) (f : Pan → Pan) (s : State) : p ((s.modPan q x f).region r) = p (s.region r) :=
  region_modRegion_keeps (fun g => h g _ g.latCells g.numCells g.lat g.sym g.shelf) q r s

theorem UnitsBlind.cell (k : UnitKind) (n : Nat) (f : CellRec → CellRec) (q r : Nat) (s : State) :
    p ((s.modRegion q fun g => g.modCell k n f).region r) = p (s.region r) := by
  refine region_modRegion_keeps (fun g => ?_) q r s
  unfold Region.modCell
  split
  · exact h g g.pans _ g.numCells g.lat g.sym g.shelf
  · exact h g g.pans g.latCells _ g.lat g.sym g.shelf

theorem UnitsBlind.freeSlots (j r : Nat) (s : State) : p ((freeSlots j s).region r) = p (s.region r) := by
  have wiped (q : Nat) (s : State) (u : UnitKind × Nat) : p ((wipeLocal q u s).region r) = p (s.region r) := by
    unfold wipeLocal
    split
    · rfl
    · rfl
  unfold Machine.freeSlots
  split
  · rfl
  · dsimp only
    rw [foldl_keeps (fun s => p (s.region r)) _ fun s q => foldl_keeps (fun s => p (s.region r)) _ (wiped q) _ s]
    exact foldl_keeps (fun s => p (s.region r)) _ (fun s x => h.pan _ _ r _ s) _ s

theorem UnitsBlind.takeWarm (q r : Nat) (s : State) : p ((takeWarm q s).region r) = p (s.region r) := by
  let g := fun s : State => p (s.region r)
  have kind (k : UnitKind) (i want : Nat) (s : State) : g (takeWarmKind q k i want s) = g s :=
    foldl_keeps g _ (fun s n => ite_keeps g (h.cell k n _ q r s) (ite_keeps g (h.cell k n _ q r s) rfl)) _ s
  exact ite_keeps g (foldl_keeps g _ (fun _ _ => ite_keeps g ((kind _ _ _ _).trans (kind _ _ _ _)) rfl) _ s) rfl

theorem UnitsBlind.settleUnits (r : Nat) (s : State) : p ((settleUnits s).region r) = p (s.region r) := by
  let g := fun s : State => p (s.region r)
  have shelf (s : State) : g (settleShelf s) = g s := by
    refine tget_map_keeps p ?_ region0 s.regions r
    exact fun e => ⟨rfl, h e.2 e.2.pans e.2.latCells e.2.numCells e.2.lat e.2.sym _⟩
  have cryst (s : State) : g (settleCryst s) = g s :=
    foldl_keeps g _ (fun s q => region_modRegion_keeps (fun x => h x x.pans x.latCells x.numCells _ x.sym x.shelf) q r s) _ s
  have pans (s : State) : g (restPans s) = g s :=
    foldl_keeps g _ (fun s q => foldl_keeps g _ (fun s n => ite_keeps g (h.pan q n r _ s) rfl) _ s) _ s
  exact (shelf _).trans ((cryst _).trans ((pans _).trans (foldl_keeps g _ (fun s q => h.takeWarm q r s) _ s)))

theorem UnitsBlind.finish (j : Nat) (x : Res) (r : Nat) (s : State) : p ((finish j x s).region r) = p (s.region r) :=
  (h.settleUnits r _).trans (h.freeSlots j r s)

theorem UnitsBlind.countJobOn (q : Nat) (k : UnitKind) (n r : Nat) (s : State) :
    p ((countJobOn q k n s).region r) = p (s.region r) := by
  unfold Machine.countJobOn
  split
  · exact h.cell .lattice n _ q r s
  · exact h.cell .number n _ q r s
  · exact region_modRegion_keeps (fun g => h g g.pans g.latCells g.numCells g.lat _ g.shelf) q r s
  · rfl

theorem UnitsBlind.countJob (j r : Nat) (s : State) : p ((countJob j s).region r) = p (s.region r) := by
  unfold Machine.countJob
  split
  · rfl
  · split
    · dsimp only
      split
      · exact (h.countJobOn _ _ _ r _).trans (h.countJobOn _ _ _ r s)
      · exact h.countJobOn _ _ _ r s
    · rfl

/-- A verb whose body answers a result leaves its regions as its body left them, units and shelves apart. -/
theorem UnitsBlind.runVerb {op j : Nat} {c : Cmd} {body : Cmd → State → State × Option Res} {s1 : State} {x : Res}
    (hw : AtWork op j c s) (hb : body c (drawEnergy s).2 = (s1, some x)) (r : Nat) :
    p ((runVerb op j body s).region r) = p (s1.region r) := by
  obtain ⟨hc, hop, hat, hheld, hrep⟩ := hw
  rw [runVerb_of_body hc hop hat hheld hrep hb, h.finish, h.countJob]
  rfl

end Blind
end Units

/-! ### What the end of work leaves of the fault aggregator -/

section Faults
variable (s : State)

@[simp] theorem finish_faults (j : Nat) (r : Res) : (finish j r s).faults = s.faults := by simp [finish]

@[simp] theorem fail_faults (j : Nat) (st : Status) : (fail j st s).faults = s.faults := finish_faults s j _

theorem hostRead_faults (u : HostUse) (i a n : Nat) (x : Bool) : (hostRead u i a n x s).faults = s.faults := by
  unfold hostRead
  split
  · rfl
  · rfl

@[simp] theorem fetchInputs_faults (j : Nat) : (fetchInputs j s).faults = s.faults :=
  fetchInputs_keeps (·.faults) (fun u i a n x s => hostRead_faults s u i a n x) (fun _ _ _ => rfl) j s

@[simp] theorem reissue_faults (j : Nat) : (reissue j s).faults = s.faults := by simp [reissue]

/-- What becomes of the jobs that a fault meets changes no record of it (R427, R428). -/
@[simp] theorem retryJobFrom_faults (a : Option (UnitKind × Nat × Nat)) (pan : Bool) (onFail : Status) (j : Nat) :
    (retryJobFrom a pan onFail j s).faults = s.faults := by
  unfold retryJobFrom
  dsimp only
  repeat' split
  all_goals simp

@[simp] theorem retryJobOff_faults (pan : Bool) (onFail : Status) (j : Nat) : (retryJobOff pan onFail j s).faults = s.faults :=
  retryJobFrom_faults s _ pan onFail j

end Faults

/-! ### The record of a RETRY -/

section Records
variable (s : State)

@[simp] theorem tfind_tins_self {α : Type} (k : Nat) (v : α) (t : Tbl α) : tfind (tins k v t) k = some v := by
  induction t with
  | nil => simp [tins, tfind]
  | cons e t ih =>
    simp only [tins]
    split
    · simp [tfind]
    · split
      · simp [tfind]
      next h => simp [tfind, Ne.symm h, ih]

theorem btnRegion_same (r ev a0 a1 : Nat) : btnRegion r ev a0 a1 s = { s with btn := (btnRegion r ev a0 a1 s).btn } := by
  unfold btnRegion
  dsimp only
  split
  · rfl
  · rfl

/-- The record of a class below CONTAIN enters its region's ring alone (R430, R453). -/
theorem announceFault_same {r : FaultRec} (h : r.cls.serious = false) :
    announceFault r s = { s with btn := (announceFault r s).btn } := by
  unfold announceFault
  rw [h]
  split
  · exact btnRegion_same s _ _ _ _
  · rfl

/-- The aggregator once the record of a RETRY stands in the slot `n` (R427, R430, R437). -/
def Faults.retried (n : Nat) (r : FaultRec) (f : Faults) : Faults :=
  { f.count .retry with ring := tins n r f.ring, head := r.fseq, headSlot := n }

/-- While the ring has room, a RETRY is recorded there and its unit's test starts: the aggregator and the bittern record change, and
nothing else. -/
def Tested (x : Raise) (n : Nat) (s t : State) : Prop :=
  (∃ u, record x .retry s = (some (x.toRec .retry s), u) ∧ startTest (x.toRec .retry s) u = t) ∧
    ∃ l, t = { s with faults := { s.faults.retried n (x.toRec .retry s) with tests := l }, btn := t.btn }

theorem startTest_same (r : FaultRec) : ∃ l, startTest r s = { s with faults := { s.faults with tests := l } } := by
  unfold startTest startTestOf
  split
  · exact ⟨_, rfl⟩
  · split
    · exact ⟨_, rfl⟩
    · exact ⟨_, rfl⟩

theorem retry_tested (x : Raise) {n : Nat} (h : s.faults.slotFor = some n) : ∃ t, Tested x n s t := by
  have hrec : record x .retry s = (some (x.toRec .retry s), putRecord n (x.toRec .retry s) s) := by
    unfold record
    rw [h]
  have hput : putRecord n (x.toRec .retry s) s = { s with
      faults := s.faults.retried n (x.toRec .retry s), btn := (putRecord n (x.toRec .retry s) s).btn } := by
    unfold putRecord
    rw [announceFault_same _ rfl]
    rfl
  obtain ⟨l, hl⟩ := startTest_same (putRecord n (x.toRec .retry s) s) (x.toRec .retry s)
  refine ⟨_, ⟨_, hrec, rfl⟩, l, ?_⟩
  rw [hl, hput]

end Records

end Sys2Proof.Machine
end

section
/-! PROOFS. Random bytes are drawn (O30): the waiting draws, mask-stream seeds, the generator's fault, and the RNG verbs. -/

namespace Sys2Proof.Machine
open Safety

/-! ### The waiting draws (R319, R320) -/

section Draws
variable {s : State} {r j : Nat} {c : Cmd}

/-- The draw of `c` in region `r` has been served whole. -/
def drawServed (r : Nat) (c : Cmd) (s : State) : State :=
  (s.modRng r fun g => { g with reservoir := g.reservoir - c.prog.need,
                                waitNs := satAdd max64 g.waitNs (s.tick - c.prog.since) }).modProg c.job.id
    fun p => { p with granted := p.need, wait := none }

theorem exec_randomDrawServed {cs : List Cmd} (hw : drawWaiters s r = c :: cs) (htest : (s.region r).rng.test = false)
    (hfits : c.prog.need ≤ (s.region r).rng.reservoir)
    (htime : s.tick < c.job.acceptTick + (s.region r).rng.waitLimit * 1000000) :
    exec (.randomDrawServed r) s = .next (if seedWaiters s r = [] then drawServed r c s else s) := by
  change execRandomDrawServed r s = _
  unfold execRandomDrawServed
  rw [hw]
  by_cases h : seedWaiters s r = []
  · simp [h, htest, Nat.not_lt.2 hfits, Nat.not_le.2 htime, drawServed]
  · simp [h]

/-- The draw of `c` has met its limit: its wait and the timeout are counted. -/
def drawLate (c : Cmd) (s : State) : State :=
  s.modRng c.rgn fun g => { g with timeouts := inc32 g.timeouts, waitNs := satAdd max64 g.waitNs (s.tick - c.prog.since) }

theorem exec_randomDrawTimeout (hc : s.cmd? j = some c) (hw : c.prog.wait = some .random) :
    exec (.randomDrawTimeout j) s = .next (if c.job.acceptTick + (s.region c.rgn).rng.waitLimit * 1000000 ≤ s.tick then
      fail j .entropyUnavailable (drawLate c s) else s) := by
  change execRandomDrawTimeout j s = _
  unfold execRandomDrawTimeout
  rw [hc]
  simp [awaitsRandom, hw, drawLate]

end Draws

/-! ### Mask-stream seeds and the generator's fault (R119, R122) -/

section Masks
variable {s : State} {r p : Nat}

/-- A generator with a fresh seed. -/
def Msg.fresh (m : Msg) : Msg :=
  { m with seeded := true, waitSeed := false, used := 0, asked := false, reseeds := inc32 m.reseeds }

theorem giveSeed_taken (hp : (seedWaiters s r).head? = some p) (h48 : 48 ≤ (s.region r).rng.reservoir) :
    giveSeed r p s = wakeMasked r ((s.modRng r fun g => { g with reservoir := g.reservoir - 48 }).modMsg r p Msg.fresh) :=
  if_pos (by simp [hp, h48])

theorem region_wakeMasked (q : Nat) (s : State) : (wakeMasked r s).region q = s.region q := rfl

theorem pan_modMsg (f : Msg → Msg) (s : State) : ((s.modMsg r p f).pan r p).msg = f (s.pan r p).msg := by
  rw [State.modMsg, State.pan_modPan_self]

theorem rng_modMsg (f : Msg → Msg) (q : Nat) (s : State) : ((s.modMsg r p f).region q).rng = (s.region q).rng :=
  rng_unitsBlind.pan r p q _ s

theorem rng_modRng_self (f : Rng → Rng) (s : State) : ((s.modRng r f).region r).rng = f (s.region r).rng := by
  rw [State.modRng, State.region_modRegion_self]

theorem pan_modRng (f : Rng → Rng) (s : State) : (s.modRng r f).pan r p = s.pan r p := by
  unfold State.pan State.modRng
  rw [State.region_modRegion_self]

/-- A generator's fault is recorded as a RETRY of its pan, whatever becomes of its jobs and its seed (R122). -/
theorem maskFault_records (injected : Bool) {slot : Nat} (h : s.faults.slotFor = some slot) :
    ∃ x, tfind (maskFault injected r p s).faults.ring slot = some x ∧ x.on = panUnit r p ∧ x.cause = .lockstep ∧ x.cls = .retry := by
  unfold maskFault
  dsimp only
  generalize jobsOn s _ = js
  generalize hx : Raise.mk (panUnit r p) .lockstep (s.soleJob js) false injected none = x
  obtain ⟨t, ⟨u, hrec, htest⟩, l, ht⟩ := retry_tested s x h
  have hring (t : State) : (js.foldl (fun s j => retryJobOff true .abortedFault j s) t).faults = t.faults :=
    foldl_keeps (·.faults) _ (fun s j => retryJobOff_faults s true .abortedFault j) js t
  have hslot : tfind t.faults.ring slot = some (x.toRec .retry s) := by
    rw [ht]
    exact tfind_tins_self slot _ _
  refine ⟨x.toRec .retry s, ?_, by rw [← hx]; rfl, by rw [← hx]; rfl, rfl⟩
  simp only [hrec, htest]
  split
  · exact hslot
  · rw [hring]
    exact hslot

theorem exec_maskStreamLockstepFault (he : s.enabled r = true) (hp : p < 4) :
    exec (.maskStreamLockstepFault r p) s = .next (maskFault false r p s) := by
  change Host.Outcome.next (if (!s.enabled r || decide (4 ≤ p)) = true then s else maskFault false r p s) = _
  rw [if_neg (by simp [he, hp])]

end Masks

/-! ### The RNG verbs (R327, R328) -/

section Verbs
variable {s : State} {j : Nat} {c : Cmd}

theorem keeps_drawEnergy {op : Nat} (hw : AtWork op j c s) : Keeps c (drawEnergy s).2 :=
  ⟨c, by rw [cmd_id hw.1]; exact hw.1, rfl⟩

theorem rngGenerate_ended {n : Nat} (hn : bits c.job.param.toNat 12 0 = n) (hw : AtWork 0x0701 j c s)
    (hp : Passes [check (c.job.param.toNat &&& 0xFFFFE000 == 0 && c.job.args.isEmpty) .malformed,
      check (decide (1 ≤ n) && decide (n ≤ 4096)) .lengthMismatch, famEnabled s c.job]) (hr : RandomHere c n s) :
    ∃ (t : State) (b : List Byte), b.length = n ∧ exec (.rngGenerate j) s = .next t ∧ Ended j c (outTo c.job 1 b) t := by
  subst hn
  obtain ⟨s1, b, hlen, hdraw, hk, -⟩ := withRandom_here (s := (drawEnergy s).2) hr (keeps_drawEnergy hw)
  refine ⟨_, b, hlen, rfl, ended_of_body (body := rngGenerate) (s1 := s1) hw ?_ hk⟩
  rw [rngGenerate]
  exact (orBad_passes hp _).trans (hdraw _)

/-- What a known-answer test leaves of the randomness of its region: a start, or a borrowed seed where the source is lasting. -/
def katWiped (r : Nat) (s : State) : State :=
  if (s.region r).rng.lasting then askSeed r (s.modRng r fun g => { wipeRng g with state := .borrowed, lasting := true, stopped := true })
  else s.modRng r wipeRng

theorem katWiped_rng (r : Nat) (s : State) :
    ((katWiped r s).region r).rng.state = (if (s.region r).rng.lasting then .borrowed else .starting) ∧
      ((katWiped r s).region r).rng.reservoir = 0 := by
  unfold katWiped
  split
  · rw [askSeed, rng_modRng_self, rng_modRng_self]
    exact ⟨rfl, rfl⟩
  · rw [rng_modRng_self]
    exact ⟨rfl, rfl⟩

theorem katWiped_cmds (r : Nat) (s : State) : (katWiped r s).cmds = s.cmds := by
  unfold katWiped
  split
  · rfl
  · rfl

/-- The answer of a known-answer test on the input `i`: of the expander, or of the conditioner. -/
def katAnswer (c : Cmd) : List Byte :=
  if c.job.pbit 3 then stdN (outCapacity c.job.frags 1) "CTR_DRBG AES-256 generate" [c.job.operand 0] else sha3 (c.job.operand 0)

theorem rngKat_ended (hw : AtWork 0x0702 j c s) (hi : c.job.inst = 0) (hpar : c.job.param.toNat &&& 0xFFFFFFF0 = 0) (ha : c.job.args = [])
    (hf : famEnabled s c.job = none)
    (hlen : if c.job.pbit 3 then (c.job.operand 0).length = 48 ∧ 16 ≤ outCapacity c.job.frags 1 ∧ outCapacity c.job.frags 1 ≤ 4096 ∧
        outCapacity c.job.frags 1 % 16 = 0 else 1 ≤ (c.job.operand 0).length ∧ (c.job.operand 0).length ≤ 4096) :
    ∃ t, exec (.rngKat j) s = .next t ∧ Ended j c (outTo c.job 1 (katAnswer c)) t ∧
      (t.region c.rgn).rng.state = (if (s.region c.rgn).rng.lasting then .borrowed else .starting) ∧
      (t.region c.rgn).rng.reservoir = 0 := by
  have hb : rngKat c (drawEnergy s).2 = (katWiped c.rgn (drawEnergy s).2, some (outTo c.job 1 (katAnswer c))) := by
    have hf0 : famEnabled (drawEnergy s).2 c.job = none := hf
    rw [rngKat]
    refine orBad_passes ?_ _
    change firstBad _ = none
    cases h3 : c.job.pbit 3
    · obtain ⟨h1, h4⟩ : 1 ≤ (c.job.operand 0).length ∧ (c.job.operand 0).length ≤ 4096 := by simpa [h3] using hlen
      simp [firstBad, check, hi, hpar, ha, hf0, h1, h4]
    · obtain ⟨h48, h16, h4, hmod⟩ : (c.job.operand 0).length = 48 ∧ 16 ≤ outCapacity c.job.frags 1 ∧
          outCapacity c.job.frags 1 ≤ 4096 ∧ outCapacity c.job.frags 1 % 16 = 0 := by simpa [h3] using hlen
      simp [firstBad, check, hi, hpar, ha, hf0, h48, h16, h4, hmod]
  refine ⟨_, rfl, ended_of_body hw hb (Keeps.of_cmds (katWiped_cmds _ _) (keeps_drawEnergy hw)), ?_⟩
  rw [rng_unitsBlind.runVerb hw hb]
  exact katWiped_rng c.rgn (drawEnergy s).2

/-- What precedes the checks of RNG.RAW on its output. -/
theorem rngRaw_lifecycle (hw : AtWork 0x0703 j c s) (hi : c.job.inst = 0) (hpar : c.job.param.toNat &&& 0xFFFFFFF8 = 0)
    (ha : c.job.args = []) (hmode : s.pkg.mode ≠ .factoryTest) :
    ∃ t, exec (.rngRaw j) s = .next t ∧ Ended j c (stRes .lifecycle) t := by
  refine ended_of (body := rngRaw) hw (s1 := (drawEnergy s).2) ?_ rfl
  simp [rngRaw, orBad, firstBad, check, hi, hpar, ha, hmode]

theorem rngRaw_ended (hw : AtWork 0x0703 j c s) (hi : c.job.inst = 0) (hpar : c.job.param.toNat &&& 0xFFFFFFF8 = 0)
    (ha : c.job.args = []) (hf : famEnabled s c.job = none) (hmode : s.pkg.mode = .factoryTest)
    (h1 : 1 ≤ outCapacity c.job.frags 1) (hmax : outCapacity c.job.frags 1 ≤ 1048576) :
    ∃ (t : State) (b : List Byte), b.length = outCapacity c.job.frags 1 ∧ exec (.rngRaw j) s = .next t ∧
      Ended j c (outTo c.job 1 b) t := by
  have hf0 : famEnabled (drawEnergy s).2 c.job = none := hf
  obtain ⟨t, ht, hend⟩ := ended_of (body := rngRaw) hw (s1 := (drawBytes (outCapacity c.job.frags 1) (drawEnergy s).2).2)
    (r := outTo c.job 1 (drawBytes (outCapacity c.job.frags 1) (drawEnergy s).2).1)
    (by rw [rngRaw]; exact orBad_passes (by change firstBad _ = none; simp [firstBad, check, hi, hpar, ha, hf0, hmode, h1, hmax]) _) rfl
  exact ⟨t, _, fit_length _ _, ht, hend⟩

end Verbs

/-- Settles O30, clause by clause: a draw is served or late as the seeds that wait and its limit say; a seed and a generator's fault
change their pan and the ring; each verb is one whose checks pass. -/
theorem randomBytesAreDrawn : Obligations.RandomBytesAreDrawn := by
  unfold Obligations.RandomBytesAreDrawn
  refine fun s r p j c => ⟨fun cs hw hc htest hfits htime => ⟨fun hnone => ?served, fun hsome => ?held⟩,
    fun hc hw => ⟨fun hlate => ?late, fun hsoon => ?soon⟩, fun hp h48 => ?seed, fun slot he hp hslot => ?fault,
    rngGenerate_ended rfl, fun hw hi hpar ha hf => ⟨fun h3 h48 h16 hmax hmod => ?expander, fun h3 h1 hmax => ?conditioner⟩,
    fun hw hi hpar ha hf => ⟨rngRaw_ended hw hi hpar ha hf, rngRaw_lifecycle hw hi hpar ha⟩⟩
  case served =>
    refine ⟨drawServed r c s, _, (exec_randomDrawServed hw htest hfits htime).trans (by rw [if_pos hnone]), cmd_modProg _ hc, rfl, rfl, ?_⟩
    have hrng := rng_modRng_self (r := r) (fun g => { g with
      reservoir := g.reservoir - c.prog.need, waitNs := satAdd max64 g.waitNs (s.tick - c.prog.since) }) s
    exact ⟨congrArg Rng.reservoir hrng, congrArg Rng.waitNs hrng⟩
  case held => rw [exec_randomDrawServed hw htest hfits htime, if_neg hsome]
  case late =>
    exact ⟨_, (exec_randomDrawTimeout hc hw).trans (by rw [if_pos hlate]), fail_ended (s := drawLate c s) _ hc⟩
  case soon => rw [exec_randomDrawTimeout hc hw, if_neg (Nat.not_le.2 hsoon)]
  case seed =>
    refine ⟨_, rfl, ?_⟩
    rw [giveSeed_taken hp h48]
    refine ⟨?_, ?_⟩
    · rw [region_wakeMasked, rng_modMsg, rng_modRng_self]
    · exact (pan_modMsg Msg.fresh _).trans (by rw [pan_modRng]; rfl)
  case fault =>
    obtain ⟨x, hx, hon, hcause, hcls⟩ := maskFault_records (r := r) (p := p) false hslot
    exact ⟨_, x, exec_maskStreamLockstepFault he hp, hx, hon, hcause, hcls⟩
  case expander => simpa [katAnswer, h3] using rngKat_ended hw hi hpar ha hf (by simp [h3, h48, h16, hmax, hmod])
  case conditioner =>
    obtain ⟨t, ht, hend, -, hempty⟩ := rngKat_ended hw hi hpar ha hf (by simp [h3, h1, hmax])
    exact ⟨t, ht, by simpa [katAnswer, h3] using hend, hempty⟩

end Sys2Proof.Machine
end

section
/-! PROOFS. Release checks, keys and fills (O13): the end of a check, the blob that a shelf miss asked for, and the fills that are due. -/

namespace Sys2Proof.Machine
open Safety

/-! ### The end of a release check (R124, R126, R127) -/

section Checks
variable {s : State} {j q n : Nat} {c : Cmd} {k : UnitKind}

theorem exec_releaseCheckDone (hc : s.cmd? j = some c) (hphase : c.prog.phase = .checking) (hcheck : c.prog.check = some (q, n))
    (hup : (s.pan q ((c.checkKind.pan n).getD 0)).svc.pwr = .active) (pass : Bool) :
    exec (.releaseCheckDone j pass) s = .next (endCheck c c.checkKind q n pass s) := by
  change execReleaseCheckDone j pass s = _
  unfold execReleaseCheckDone
  rw [hc]
  simp [hphase, hcheck, Option.filter, hup]

/-- A check on unit `n` of a kind in region `q` has left it: it is counted there, and the local memory is zero-written. -/
def checkLeft (c : Cmd) (k : UnitKind) (q n : Nat) (s : State) : State :=
  (c.job.takesUnits k n).foldl (fun s u => wipeLocal q u s) (countJobOn q k n (if k == .number then s else
    s.modRegion c.rgn fun g => { g with lat := { g.lat with vbrDone := inc32 g.lat.vbrDone } }))

theorem checkLeft_same (c : Cmd) (k : UnitKind) (q n : Nat) (s : State) : SameButUnits s (checkLeft c k q n s) := by
  refine SameButUnits.trans ?_ (SameButUnits.foldl _ _ (fun s u => wipeLocal_same s q u) _)
  refine (SameButRegions.trans ?_ (countJobOn_same _ q k n)).units
  split
  · rfl
  · rfl

theorem endCheck_pass (hp : c.job.paired = false) {r : Res} (hr : c.prog.res = some r) :
    endCheck c k q n true s = finish c.job.id r (checkLeft c k q n s) := by
  simp [endCheck, hp, hr, checkLeft]

theorem endCheck_fail (hp : c.job.paired = false) : endCheck c k q n false s = failCheck c (checkLeft c k q n s) := by
  simp [endCheck, hp, checkLeft]

/-- A job that has been run again already ends with the status of its failed re-run (R428). -/
theorem retryJobOff_rerun (hc : s.cmd? j = some c) (h : 1 ≤ c.prog.reruns) (pan : Bool) (onFail : Status) :
    retryJobOff pan onFail j s = fail j onFail s := by
  unfold retryJobOff retryJobFrom
  rw [hc]
  exact if_pos h

/-- A failed check leaves the commands, and its record is the newest (R127). -/
theorem failedOn_records {slot : Nat} (h : s.faults.slotFor = some slot) :
    (failedOn c k n s).cmds = s.cmds ∧ (failedOn c k n s).faults.head = s.faults.head + 1 := by
  unfold failedOn
  generalize hx : Raise.mk (cellUnit c.rgn k n) .releaseCheck (some c.job.jseq) false false none = x
  obtain ⟨t, ⟨u, hrec, htest⟩, l, ht⟩ := retry_tested (countCheckFail c.rgn k s) x h
  simp only [hrec, htest]
  rw [ht]
  exact ⟨rfl, rfl⟩

/-- The check of a job that has been run again fails: the fault is recorded, and the job ends (R127). -/
theorem failCheck_ended (hc : s.cmd? c.job.id = some c) (hre : 1 ≤ c.prog.reruns) (hst : c.job.has (·.stateful) = false)
    {u : UnitKind × Nat × Nat} (hu : c.prog.unit = some u) {slot : Nat} (hslot : s.faults.slotFor = some slot) :
    Ended c.job.id c (stRes .releaseCheckFail) (failCheck c s) ∧ (failCheck c s).faults.head = s.faults.head + 1 := by
  obtain ⟨k, p, n⟩ := u
  obtain ⟨hcmds, hhead⟩ := failedOn_records (c := c) (k := k) (n := n) hslot
  have hc' : (failedOn c k n s).cmd? c.job.id = some c := by rw [cmd_congr hcmds, hc]
  have heq : failCheck c s = fail c.job.id .releaseCheckFail (failedOn c k n s) := by
    simp only [failCheck, hu, hst, Bool.false_and, Bool.false_eq_true, if_false]
    exact retryJobOff_rerun hc' hre _ _
  rw [heq, fail_faults]
  exact ⟨fail_ended _ hc', hhead⟩

end Checks

/-! ### Commands that one row meets in turn -/

section Turns

/-- Where every turn keeps `P`, the turn of `a` makes `Q` of it, and every turn keeps `Q`, a round with `a` in it makes `Q` of `P`. -/
theorem foldl_reaches {α : Type} {f : State → α → State} {P Q : State → Prop} {a : α} (keeps : ∀ s x, P s → P (f s x))
    (reaches : ∀ s, P s → Q (f s a)) (stays : ∀ s x, Q s → Q (f s x)) {l : List α} (ha : a ∈ l) {s : State} (h : P s) :
    Q (l.foldl f s) := by
  have all (l : List α) : ∀ s, Q s → Q (l.foldl f s) := by
    induction l with
    | nil => exact fun s h => h
    | cons x l ih => exact fun s h => ih _ (stays s x h)
  induction l generalizing s with
  | nil => cases ha
  | cons x l ih =>
    rcases List.mem_cons.1 ha with rfl | ha
    · exact all l _ (reaches s h)
    · exact ih ha (keeps s x h)

variable {s : State} {j : Nat} {c : Cmd}

theorem mem_jobsOn {p : Cmd → Bool} (hc : s.cmd? j = some c) (hp : p c = true) : j ∈ jobsOn s p :=
  List.mem_map.2 ⟨c, List.mem_filter.2 ⟨List.mem_of_find?_eq_some hc, hp⟩, cmd_id hc⟩

theorem cmd_modCmd (f : Cmd → Cmd) (hf : ∀ c, (f c).job.id = c.job.id) (h : s.cmd? j = some c) : (s.modCmd j f).cmd? j = some (f c) :=
  find_map_id s.cmds f hf h

theorem foldl_fail_ended (st : Status) {l : List Nat} (hj : j ∈ l) (hc : s.cmd? j = some c) :
    Ended j c (stRes st) (l.foldl (fun s j => fail j st s) s) := by
  have ends (s : State) (d : Cmd) (hd : s.cmd? j = some d) (hdj : d.job = c.job) : Ended j c (stRes st) (fail j st s) := by
    obtain ⟨e, nj, he, hej, hph, hres⟩ := fail_ended st hd
    exact ⟨e, nj, he, hej.trans hdj, hph, hres⟩
  have kept (s : State) (i : Nat) (h : i ≠ j) : (fail i st s).cmd? j = s.cmd? j := cmd_finish_other _ j h.symm
  refine foldl_reaches (P := fun s => ∃ d, s.cmd? j = some d ∧ d.job = c.job) (fun s i ⟨d, hd, hdj⟩ => ?keeps)
    (fun s ⟨d, hd, hdj⟩ => ends s d hd hdj) (fun s i ⟨d, nj, hd, hdj, hph, hres⟩ => ?stays) hj ⟨c, hc, rfl⟩
  case keeps =>
    by_cases h : i = j
    · subst h
      obtain ⟨e, nj, he, hej, -⟩ := ends s d hd hdj
      exact ⟨e, he, hej⟩
    · exact ⟨d, by rw [kept s i h]; exact hd, hdj⟩
  case stays =>
    by_cases h : i = j
    · subst h
      exact ends s d hd hdj
    · exact ⟨d, nj, by rw [kept s i h]; exact hd, hdj, hph, hres⟩

/-- The wait of command `j` ends. -/
def goOn (s : State) (j : Nat) : State := s.modProg j fun p => { p with wait := none }

/-- A command whose wait is ended in its turn waits for nothing after the round. -/
theorem foldl_goOn {l : List Nat} (hj : j ∈ l) (hc : s.cmd? j = some c) :
    ∃ d, (l.foldl goOn s).cmd? j = some d ∧ d.prog.wait = none := by
  refine foldl_reaches (f := goOn) (P := fun s => ∃ d, s.cmd? j = some d) (Q := fun s => ∃ d, s.cmd? j = some d ∧ d.prog.wait = none)
    (fun s i ⟨d, hd⟩ => ?keeps) (fun s ⟨d, hd⟩ => ⟨_, cmd_modProg _ hd, rfl⟩) (fun s i ⟨d, hd, hw⟩ => ?stays) hj ⟨c, hc⟩
  case keeps =>
    by_cases h : i = j
    · subst h
      exact ⟨_, cmd_modProg _ hd⟩
    · exact ⟨d, by rw [goOn, cmd_modProg_other _ j (Ne.symm h)]; exact hd⟩
  case stays =>
    by_cases h : i = j
    · subst h
      exact ⟨_, cmd_modProg _ hd, rfl⟩
    · exact ⟨d, by rw [goOn, cmd_modProg_other _ j (Ne.symm h)]; exact hd, hw⟩

end Turns

/-! ### A blob that a shelf miss asked for (R116, R343, R345, R346) -/

section Loads
variable {s : State} {j r : Nat} {b : List Byte} {c : Cmd} {k : KeyRec}

theorem combine_stored (ms : List (List Byte)) (x : List Byte) (h : ∀ m ∈ ms, m.length = x.length) :
    combine (if x.isEmpty then [] else share ms x) = x := by
  cases x with
  | nil => rfl
  | cons a x => exact combine_share ms (a :: x) h

/-- The entry of a key on a shelf holds shares of its secret (R116). -/
theorem shelfOf_secret (k : KeyRec) (n : NewKey) (s : State) : (shelfOf k n s).1.secret = n.secret := by
  have hlen : n.secret.length - otherLen k.alg n.secret.length = (n.secret.take (n.secret.length - otherLen k.alg n.secret.length)).length := by
    rw [List.length_take]; omega
  unfold shelfOf storeShares ShelfKey.secret
  dsimp only
  rw [combine_stored, combine_stored, List.take_append_drop]
  · exact drawMasks_length _ _ _
  · exact fun m hm => (drawMasks_length _ _ _ m hm).trans hlen

theorem evictFor_fits {i n m : Nat} (h : shelfUse (s.region r) i + n ≤ (s.inst i).cfg.shelf) : evictFor r i n m s = s := by
  cases m with
  | zero => rfl
  | succ m => exact if_pos h

/-- An entry for which the quota has room goes on the shelf and evicts nothing (R346). -/
theorem shelve_fits {e : ShelfKey} (h : shelfUse (s.region r) e.inst + e.entries ≤ (s.inst e.inst).cfg.shelf) :
    ∃ t, shelve r e s = (true, t) ∧ t.cmds = s.cmds ∧ e ∈ (t.region r).shelf := by
  unfold shelve
  rw [if_neg (by omega), evictFor_fits h]
  refine ⟨_, if_pos h, rfl, ?_⟩
  rw [State.region_modRegion_self]
  exact List.mem_cons_self

/-- Command `j` waits, first in turn, in region `r` for the blob of its key, which has not come before. -/
structure AwaitsBlob (j r : Nat) (c : Cmd) (k : KeyRec) (s : State) : Prop where
  cmd : s.cmd? j = some c
  key : jobKey s c.job = some k
  handle : c.job.handle = k.handle
  wait : c.prog.wait = some .shelf
  region : s.shelfRegion c k = r
  fresh : tfind c.job.parts 254 = none
  first : loadBefore s c k = false

/-- The blob `b` of the key `k` passes the checks of R343. -/
def goodBlob (s : State) (k : KeyRec) (b : List Byte) : Bool := blobOk s k.inst none b && (readHdr b).keyId == k.keyId

theorem AwaitsBlob.mem_waiters (h : AwaitsBlob j r c k s) : j ∈ shelfWaiters s r k :=
  mem_jobsOn h.cmd (by simp [h.wait, h.region, h.handle])

theorem loadShelf_bad (h : AwaitsBlob j r c k s) (hb : goodBlob s k b = false) : loadShelf j b s =
    (shelfWaiters s r k).foldl (fun s j => fail j .blobInvalid s) (countBlobFail (unwrapped r k.inst b s)) := by
  unfold goodBlob at hb
  unfold loadShelf
  simp only [h.cmd, h.key, h.region, h.wait, h.first, h.fresh, hb, ne_eq, not_true_eq_false, Bool.false_eq_true, false_and, or_self,
    if_false, Option.isSome_none, Bool.not_false, if_true]

/-- The entry of the key that the blob `b` brings to the shelf of region `r`. -/
def loaded (k : KeyRec) (r : Nat) (b : List Byte) (s : State) : ShelfKey × State :=
  shelfOf k (blobKey s k.inst b) (unwrapped r k.inst b s)

theorem loadShelf_good (h : AwaitsBlob j r c k s) (hb : goodBlob s k b = true) {t : State}
    (hs : shelve r (loaded k r b s).1 (loaded k r b s).2 = (true, t)) : loadShelf j b s =
    (shelfWaiters s r k).foldl goOn (t.modCmd j fun c => { c with job := { c.job with parts := tdel c.job.parts 254 } }) := by
  unfold goodBlob at hb
  unfold loaded at hs
  unfold loadShelf
  simp only [h.cmd, h.key, h.region, h.wait, h.first, h.fresh, hb, ne_eq, not_true_eq_false, Bool.false_eq_true, false_and, or_self,
    if_false, Option.isSome_none, Bool.not_true, hs]
  rfl

theorem unwrapped_cmds (i : Nat) : (unwrapped r i b s).cmds = s.cmds := by
  unfold unwrapped
  split
  · rfl
  · rfl

theorem unwrapped_insts (i : Nat) : (unwrapped r i b s).insts = s.insts := by
  unfold unwrapped
  split
  · rfl
  · rfl

theorem unwrapped_shelf (i : Nat) : ((unwrapped r i b s).region r).shelf = (s.region r).shelf := by
  unfold unwrapped
  split
  · rw [countUnwrap, State.region_modRegion_self]
  · rfl

theorem loadShelf_bad_ended (h : AwaitsBlob j r c k s) (hb : goodBlob s k b = false) :
    Ended j c (stRes .blobInvalid) (loadShelf j b s) := by
  rw [loadShelf_bad h hb]
  refine foldl_fail_ended _ h.mem_waiters ?_
  exact (cmd_congr (unwrapped_cmds (r := r) (b := b) (s := s) k.inst) j).trans h.cmd

/-- A blob that passes its checks and for which the quota has room: the job goes on, with the key on the shelf (R346). -/
theorem loadShelf_good_shelves (h : AwaitsBlob j r c k s) (hb : goodBlob s k b = true)
    (hfit : shelfUse (s.region r) k.inst + k.entries ≤ (s.inst k.inst).cfg.shelf) :
    (∃ d, (loadShelf j b s).cmd? j = some d ∧ d.prog.wait = none) ∧ (loaded k r b s).1 ∈ ((loadShelf j b s).region r).shelf := by
  have huse : shelfUse ((loaded k r b s).2.region r) k.inst = shelfUse (s.region r) k.inst :=
    congrArg (fun l => ((l.filter fun e => e.inst == k.inst).map (·.entries)).sum) (unwrapped_shelf k.inst)
  have hquota : ((loaded k r b s).2.inst k.inst) = s.inst k.inst := inst_congr (unwrapped_insts (s := s) k.inst) k.inst
  obtain ⟨t, hs, hcmds, hmem⟩ := shelve_fits (r := r) (e := (loaded k r b s).1) (s := (loaded k r b s).2) (by
    change shelfUse _ k.inst + k.entries ≤ (State.inst _ k.inst).cfg.shelf
    rw [huse, hquota]
    exact hfit)
  rw [loadShelf_good h hb hs]
  refine ⟨foldl_goOn h.mem_waiters (cmd_modCmd _ (fun _ => rfl) (c := c) ?_), ?_⟩
  · exact (cmd_congr (hcmds.trans (unwrapped_cmds (r := r) (b := b) (s := s) k.inst)) j).trans h.cmd
  · rw [region_congr (foldl_keeps (·.regions) goOn (fun _ _ => rfl) _ _)]
    exact hmem

end Loads

/-! ### Fills that are due (R130, R133) -/

section Fills
variable (s : State) (r : Nat)

theorem evictCryst_fills (all : Bool) (q i n quota : Nat) (may : CrystEntry → Bool) (m : Nat) :
    ((evictCryst all q i n quota may m s).region r).lat.fills = (s.region r).lat.fills := by
  induction m generalizing s with
  | zero => rfl
  | succ m ih =>
    unfold evictCryst
    split
    · rfl
    · split
      · rfl
      · rw [ih]
        exact (region_modRegion_keeps (p := fun g => g.lat.fills) (fun _ => by rfl) q r _).trans
          (region_modRegion_keeps (p := fun g => g.lat.fills) (fun _ => by rfl) q r s)

theorem fillCryst_fills (q : Nat) (f : CrystEntry) : ((fillCryst q f s).region r).lat.fills = (s.region r).lat.fills := by
  unfold fillCryst
  dsimp only
  split
  · rfl
  · split
    · exact (region_modRegion_keeps (p := fun g => g.lat.fills) (fun _ => by rfl) q r _).trans (evictCryst_fills s r _ _ _ _ _ _ _)
    · exact evictCryst_fills s r _ _ _ _ _ _ _

theorem settleFills_fills : ((settleFills r s).region r).lat.fills = (s.region r).lat.fills.filter fun f => !decide (f.done ≤ s.tick) := by
  unfold settleFills
  rw [foldl_keeps (fun s => (s.region r).lat.fills) _ (fun s f => fillCryst_fills s r r f), State.region_modRegion_self]

theorem settleFills_cmds : (settleFills r s).cmds = s.cmds :=
  foldl_keeps (·.cmds) _ (fun s f => by rw [(fillCryst_same r f s).1]) _ _

end Fills

/-- Settles O13: a check's end by its outcome, the blob by its checks, and the fills by the tables of the crystallizer. -/
theorem checksKeysAndFills : Obligations.ChecksKeysAndFills := by
  unfold Obligations.ChecksKeysAndFills
  refine ⟨fun s j q n c r hc hphase hcheck hp hr hup => ⟨?passes, fun hre hst u slot hu hslot => ?fails⟩,
    fun s j r b c k => ⟨fun hc hk hh hw hreg hfresh hfirst => ?blob, _, rfl, settleFills_fills s r, settleFills_cmds s r⟩⟩
  all_goals have hid := cmd_id hc
  case passes =>
    refine ⟨_, (exec_releaseCheckDone hc hphase hcheck hup true).trans (by rw [endCheck_pass hp hr]), ?_⟩
    rw [hid]
    exact ⟨_, r.nj, cmd_finish r (by rw [checkLeft_same]; exact hc), rfl, rfl, rfl⟩
  case fails =>
    refine ⟨_, (exec_releaseCheckDone hc hphase hcheck hup false).trans (by rw [endCheck_fail hp]), ?_⟩
    obtain ⟨hend, hhead⟩ := failCheck_ended (c := c) (s := checkLeft c c.checkKind q n s) (by rw [checkLeft_same, hid]; exact hc) hre hst hu
      (by rw [checkLeft_same]; exact hslot)
    rw [hid] at hend
    exact ⟨hend, hhead.trans (by rw [checkLeft_same])⟩
  case blob =>
    have h : AwaitsBlob j r c k s := ⟨hc, hk, hh, hw, hreg, hfresh, hfirst⟩
    refine ⟨fun hb => ⟨_, rfl, loadShelf_bad_ended h hb⟩, fun hb hfit => ?_⟩
    obtain ⟨⟨d, hd, hwait⟩, hmem⟩ := loadShelf_good_shelves h hb hfit
    exact ⟨_, d, rfl, hd, hwait, _, hmem, by simp [KeyRec.owns, loaded, shelfOf], shelfOf_secret k _ _, rfl⟩

end Sys2Proof.Machine
end

section

/-! PROOFS. Why the statement on the management of keys fails: a KEY.EVICT dispatched before a KEY.DELETE of its key still finds the
record of the key, and that record leaves the vault once no command stands for it (R350). -/

namespace Sys2Proof.Machine
open Safety

/-- The key of handle 0, at home in region 0. -/
def keyOfHandle0 : KeyRec :=
  { inst := 0, cls := 0, gen := 0, idx := 0, keyId := 1, alg := 3, pol := {}, home := 0, blobAddr := 0, blobLen := 256 }

/-- A command of submission queue 0 that names handle 0. -/
def onHandle0 (id opcode : Nat) (phase : Phase) : Cmd :=
  { job := { id := id, src := .sq 0, inst := 0, gen := 0, opcode := opcode, handle := 0, param := 0 },
    prog := { phase := phase, region := some 0 } }

/-- The package serves with region 0 IN_SERVICE, one key in the vault and these commands. -/
def vaultOf (k : KeyRec) (cs : List Cmd) : State :=
  { State.reset with
      pkg := { State.reset.pkg with mode := .service, booting := false }
      cmds := cs
      regions := [(0, { svc := { state := .inService } })]
      vault := { State.reset.vault with rootReady := true, handles := [k] } }

/-- The record of that key after the KEY.DELETE of command 2, which command 1 was dispatched before. -/
def freedKey : KeyRec := { keyOfHandle0 with dead := true, keep := [2, 1] }

/-- KEY.EVICT at work for the key that KEY.DELETE has freed, and nothing else. -/
def evictOfFreed : State := vaultOf freedKey [onHandle0 1 0x0205 .running]

set_option maxRecDepth 8000 in
/-- A KEY.DELETE beside a KEY.EVICT that has been sent leaves that record: `freedKey` is what the model makes of the key. -/
theorem keyDelete_keeps_freedKey :
    ∃ t, exec (.keyDelete 2) (vaultOf keyOfHandle0 [onHandle0 1 0x0205 .sent, onHandle0 2 0x0206 .ready]) = .next t ∧
      t.vault.handles = [freedKey] :=
  ⟨_, rfl, by decide⟩

theorem evictOfFreed_atWork : AtWork 0x0205 1 (onHandle0 1 0x0205 .running) evictOfFreed := by decide

/-- The command finds the freed record, with nothing else in its way. -/
theorem evictOfFreed_checked :
    let b := (onHandle0 1 0x0205 .running).job
    jobKey evictOfFreed b = some freedKey ∧ checkHandle evictOfFreed b (fun _ => true) = none ∧
      keyUsers evictOfFreed b.id true freedKey = [] ∧ keyStands evictOfFreed freedKey = false := by decide

set_option maxRecDepth 8000 in
/-- The record leaves the vault when the KEY.EVICT returns. -/
theorem keyEvict_of_freed : ∃ t, exec (.keyEvict 1) evictOfFreed = .next t ∧ t.vault.handles = [] := ⟨_, rfl, by decide⟩

/-- Refutes O33: a KEY.EVICT at work for a key that a later KEY.DELETE has freed is the last command the record stands for, and
leaves no record of that handle in the vault. -/
theorem not_keysAreManaged : ¬ Obligations.KeysAreManaged := by
  intro h
  obtain ⟨hkey, hcheck, husers, hstands⟩ := evictOfFreed_checked
  obtain ⟨managed, -⟩ := h evictOfFreed 1 (onHandle0 1 0x0205 .running) freedKey [] []
  obtain ⟨evictAndDelete, -⟩ := managed hkey hcheck rfl
  obtain ⟨t, ht, -, -, x, hx, -⟩ := (evictAndDelete husers hstands rfl rfl).1 evictOfFreed_atWork
  obtain ⟨u, hu, hempty⟩ := keyEvict_of_freed
  obtain rfl : t = u := Host.Outcome.next.inj (ht.symm.trans hu)
  simp [hempty] at hx

end Sys2Proof.Machine

end

section
/-! PROOFS. Lattice operations (O14, O15): what a job at work has at hand when its computation starts, the lattice verbs, and how they
end. -/

namespace Sys2Proof.Machine
open Safety

/-! ### What a job finds at hand (R121, R143, R344, R544) -/

section AtHand
variable {s t : State} {c : Cmd} {m n lim : Nat} {sk pub : List Byte}

theorem masksHere_of_regions (h : t.regions = s.regions) (hm : MasksHere c m s) : MasksHere c m t := by
  simpa only [MasksHere, State.pan, State.region, h] using hm

/-- The slots that a verb of two parts needs are those of its curve, whatever the state (log 84). -/
theorem slotNeed_congr {b : Job} (h : b.opcode ∈ [0x0303, 0x0304, 0x0404, 0x0405]) : slotNeed t b = slotNeed s b := by
  simp only [List.mem_cons, List.not_mem_nil, or_false] at h
  rcases h with h | h | h | h
  all_goals simp only [slotNeed, h]

theorem slotQuota_congr {op j : Nat} {u : State} (hw : AtWork op j c u) (hop : op ∈ [0x0303, 0x0304, 0x0404, 0x0405])
    (hr : t.regions = s.regions) (hi : t.insts = s.insts) : slotQuota t c = slotQuota s c := by
  obtain ⟨-, rfl, -⟩ := hw
  have hneed : slotNeed t c.job = slotNeed s c.job := slotNeed_congr hop
  have hbytes (p : Nat) : slotBytes t c.rgn p c.job = slotBytes s c.rgn p c.job := by
    simp only [slotBytes, hneed, State.slotLen, State.pan, State.region, hr]
  have hinst : t.inst c.job.inst = s.inst c.job.inst := by rw [State.inst, State.inst, hi]
  rw [slotQuota, slotQuota, hneed, hbytes, hinst]

variable (hc : Keeps c s) (hu : KeyUsable c 1 lim s) (hkey : KeyHere c sk pub s)
include hc hu hkey

/-- A job whose use can be counted, whose later checks pass, and whose mask bytes and key are at hand comes to its computation with the
key; its random bytes stay at hand. -/
theorem counted_masked_keyed (l : State → List (Option Status))
    (hl : ∀ t, t.regions = s.regions → t.insts = s.insts → Passes (l t)) (hm : MasksHere c m s) :
    ∃ s1, Keeps c s1 ∧ (∀ n, RandomHere c n s → RandomHere c n s1) ∧
      ∀ k : List Byte → List Byte → State → State × Option Res,
        (countThen c 1 lim s fun s => orBad (l s) s fun s => withMask m c s fun s => withKey c s k) = k sk pub s1 := by
  obtain ⟨s1, hcount, hc1, hreg, hinst, -, -, -, hkey1, hrand1⟩ := countThen_usable hu hc
  obtain ⟨s2, hmask, hc2, -, -, -, -, -, hkey2, hrand2⟩ := withMask_here (masksHere_of_regions hreg hm) hc1
  obtain ⟨s3, hshelf, hc3, -, -, -, -, -, hrand3⟩ := withKey_here (hkey2 sk pub (hkey1 sk pub hkey)) hc2
  exact ⟨s3, hc3, fun n h => hrand3 n (hrand2 n (hrand1 n h)), fun k => by rw [hcount, orBad_passes (hl s1 hreg hinst), hmask, hshelf]⟩

/-- The same for a job that draws neither mask bytes nor random ones. -/
theorem counted_checked_keyed (l : State → List (Option Status))
    (hl : ∀ t, t.regions = s.regions → t.insts = s.insts → Passes (l t)) :
    ∃ s1, Keeps c s1 ∧ ∀ k : List Byte → List Byte → State → State × Option Res,
      (countThen c 1 lim s fun s => orBad (l s) s fun s => withKey c s k) = k sk pub s1 := by
  obtain ⟨s1, hc1, -, hrun⟩ := counted_masked_keyed hc hu hkey l hl (Or.inl (Nat.zero_le _))
  have hnone (s : State) (k : State → State × Option Res) : withMask 0 c s k = k s := if_pos (Nat.zero_le _)
  exact ⟨s1, hc1, fun k => by simpa only [hnone] using hrun k⟩

/-- The same where no checks follow the count. -/
theorem counted_keyed :
    ∃ s1, Keeps c s1 ∧ ∀ k : List Byte → List Byte → State → State × Option Res,
      (countThen c 1 lim s fun s => withKey c s k) = k sk pub s1 :=
  counted_checked_keyed hc hu hkey (fun _ => []) fun _ _ _ => rfl

/-- The same for a job that draws random bytes too. -/
theorem counted_masked_keyed_drawn (l : State → List (Option Status))
    (hl : ∀ t, t.regions = s.regions → t.insts = s.insts → Passes (l t)) (hm : MasksHere c m s) (hn : RandomHere c n s) :
    ∃ (s1 : State) (d : List Byte), d.length = n ∧ Keeps c s1 ∧
      ∀ k : List Byte → List Byte → List Byte → State → State × Option Res,
        (countThen c 1 lim s fun s => orBad (l s) s fun s => withMask m c s fun s => withKey c s fun sk pub s =>
          withRandom n c s fun d s => k sk pub d s) = k sk pub d s1 := by
  obtain ⟨s1, hc1, hrand, hrun⟩ := counted_masked_keyed hc hu hkey l hl hm
  obtain ⟨s2, d, hd, hdraw, hc2, -⟩ := withRandom_here (hrand n hn) hc1
  exact ⟨s2, d, hd, hc2, fun k => by rw [hrun, hdraw]⟩

end AtHand

/-! ### The ends of a lattice verb (R124, R129, R146) -/

section Ends
variable {s s1 : State} {c : Cmd} {op j : Nat} {body : Cmd → State → State × Option Res} {r : Res}

theorem Keeps.probeCryst {r i alg start : Nat} {pk : List Byte} (h : Keeps c s) :
    Keeps c (Machine.probeCryst r i alg pk start s).2 := by
  refine h.of_cmds ?_
  simp only [Machine.probeCryst, probeTag]
  repeat' split
  all_goals exact settleFills_cmds s r

theorem Keeps.drawNat (h : Keeps c s) : Keeps c (Machine.drawNat s).2 := h.of_cmds rfl

theorem Keeps.sharedOut {wrap : Bool} {i : Nat} {k : Option KeyRec} {ss : List Byte} (h : Keeps c s) :
    Keeps c (Machine.sharedOut wrap i k ss s).2 := by
  refine h.of_cmds ?_
  cases wrap
  · rfl
  · rfl

theorem wrapBlob_length (s : State) (i cls alg form stateId : Nat) (pol : Policy) (secret pub : List Byte) :
    (wrapBlob s i cls alg form stateId pol secret pub).length = blobLen secret.length := by
  have hhdr (h : BlobHdr) : h.bytes.length = 32 := by simp [BlobHdr.bytes, ascii]
  rw [wrapBlob, List.length_append, hhdr, stdN, fit_length, blobLen]
  omega

theorem sharedOut_spec (b : Job) (i : Nat) (k : Option KeyRec) (ss : List Byte) (s : State) :
    SharedOut b (sharedOut (b.pbit 14) i k ss s).1 ss := by
  refine ⟨fun h => ?plain, fun h => ?wrapped⟩
  case plain => rw [h]; rfl
  case wrapped => rw [h]; exact wrapBlob_length _ i 3 0xE8 1 0 _ ss []

/-- A body that answers a result with an energy ends its command with that result. -/
theorem ended_withNj {nj : Option Nat} (hw : AtWork op j c s) (hb : body c (drawEnergy s).2 = (s1, some (r.withNj nj))) (hk : Keeps c s1) :
    Ended j c r (runVerb op j body s) := ended_of_body (r := r.withNj nj) hw hb hk

/-- The same for a body that first judges its input and answers `bad` where it is not valid. -/
theorem ended_of_ite {s2 : State} {p : Prop} [Decidable p] {bad : Res} {nj : Option Nat} (hw : AtWork op j c s)
    (hb : body c (drawEnergy s).2 = if p then (s1, some bad) else (s2, some (r.withNj nj))) (h1 : Keeps c s1) (h2 : Keeps c s2) :
    Ended j c (if p then bad else r) (runVerb op j body s) := by
  by_cases hp : p
  · rw [if_pos hp] at hb ⊢
    exact ended_of_body hw hb h1
  · rw [if_neg hp] at hb ⊢
    exact ended_withNj hw hb h2

/-- The end of a signing: its signature goes to the release check, or, where an output has no room, the job ends (R78, R124). -/
theorem signed_of_body {nj : Option Nat} {sig : List Byte} (hw : AtWork op j c s)
    (hb : body c (drawEnergy s).2 = releaseSig c nj sig s1) (hk : Keeps c s1) :
    Signed j c (outsTo c.job (signOuts c.job sig)) (runVerb op j body s) := by
  unfold Signed
  by_cases hok : (outsTo c.job (signOuts c.job sig)).status = .ok
  · rw [if_pos hok]
    have hb1 := hb.trans (if_pos hok)
    obtain ⟨h1, h2, h3, h4, h5⟩ := hw
    rw [runVerb_of_wait h1 h2 h3 h4 h5 hb1]
    obtain ⟨d, hd, hdj⟩ := Keeps.modProg (f := Prog.endEnergy (c.figure nj) 0) c.job.id rfl hk
    rw [cmd_id h1] at hd ⊢
    have hcmd := (cmd_congr (countJob_cmds _ j) j).trans hd
    exact ⟨_, (outsTo c.job (signOuts c.job sig)).nj, (cmd_congr (settleUnits_cmds _) j).trans (cmd_modProg _ hcmd), hdj, rfl, rfl⟩
  · rw [if_neg hok]
    exact ended_of_body hw (hb.trans (if_neg hok)) hk

/-- A signing that ends within its attempts goes on with its signature; another ends with ST_REJECT_LIMIT (R150). -/
theorem signing_ends {nj : Option Nat} {sig : List Byte} {within : Bool} (hw : AtWork op j c s)
    (hb : body c (drawEnergy s).2 = if !within then (s1, some (stRes .rejectLimit)) else releaseSig c nj sig s1) (hk : Keeps c s1) :
    if within then Signed j c (outsTo c.job (signOuts c.job sig)) (runVerb op j body s)
    else Ended j c (stRes .rejectLimit) (runVerb op j body s) := by
  cases within
  · exact ended_of_body hw hb hk
  · exact signed_of_body hw hb hk

end Ends

/-- Settles O14, verb by verb: each comes to its computation with all it needs at hand, and its computation answers the outputs of its
standard's functions. -/
theorem latticeKeyEncapsulation : Obligations.LatticeKeyEncapsulation := by
  unfold Obligations.LatticeKeyEncapsulation
  intro s j c sk pub a ek n masks hu hkey
  refine ⟨fun hw hp hm hr => ?mlkemEncaps, fun hw hp hm => ?mlkemDecaps, fun hw hp hq hm hr => ?hybEncaps,
    fun hw hp hq hm hr => ?hybDecaps⟩
  all_goals have hc := keeps_drawEnergy hw
  case mlkemEncaps =>
    obtain ⟨s1, m, hlen, hk, hrun⟩ := counted_masked_keyed_drawn hc hu hkey (fun _ => []) (fun _ _ _ => rfl) hm hr
    exact ⟨_, m, _, rfl, hlen, sharedOut_spec _ _ _ _ _,
      ended_of_ite hw (by unfold mlkemEncaps; exact (orBad_passes hp _).trans (hrun _)) hk hk.probeCryst.sharedOut⟩
  case mlkemDecaps =>
    obtain ⟨s1, hk, -, hrun⟩ := counted_masked_keyed hc hu hkey (fun _ => []) (fun _ _ _ => rfl) hm
    exact ⟨_, _, rfl, sharedOut_spec _ _ _ _ _,
      ended_withNj hw (by unfold mlkemDecaps; exact (orBad_passes hp _).trans (hrun _)) hk.probeCryst.sharedOut⟩
  case hybEncaps =>
    obtain ⟨s1, d, hlen, hk, hrun⟩ := counted_masked_keyed_drawn hc hu hkey (fun t => [slotQuota t c])
      (fun _ hr hi => by rw [slotQuota_congr hw (by decide) hr hi]; exact hq) hm hr
    exact ⟨_, d, _, rfl, hlen, sharedOut_spec _ _ _ _ _,
      ended_of_ite hw (by unfold hybEncaps; exact (orBad_passes hp _).trans (hrun _)) hk hk.probeCryst.drawNat.sharedOut⟩
  case hybDecaps =>
    obtain ⟨s1, d, -, hk, hrun⟩ := counted_masked_keyed_drawn hc hu hkey (fun t => [slotQuota t c])
      (fun _ hr hi => by rw [slotQuota_congr hw (by decide) hr hi]; exact hq) hm hr
    exact ⟨_, _, rfl, sharedOut_spec _ _ _ _ _,
      ended_of_ite hw (by unfold hybDecaps; exact (orBad_passes hp _).trans (hrun _)) hk.probeCryst.drawNat
        hk.probeCryst.drawNat.sharedOut⟩

/-! ### Signatures (R147, R149, R150, R154, R155, R157) -/

/-- On its first run a composite signing makes both signatures. -/
theorem compSign_first {c : Cmd} (h : c.prog.pair.again = none) (s : State) :
    let a := latticeAlg c.job.alg
    let l := if c.job.pbit 10 then 0 else 32
    compSign c s =
      orBad (sigChecks s c.job [0] 0 ++ [orderStep s c]) s fun s => countThen c 1 (keyLimit s c.job) s fun s =>
      orBad [tqStep c.job, slotQuota s c] s fun s => withMasks 2 c s fun s => withKey c s fun sk _ s =>
      withRandom (l + compDraw c.job) c s fun d s =>
        let n := sk.length - (classicPart c.job.alg).1
        let args := [le 1 a, sk.take n, [], if c.job.pbit 10 then zeros 32 else d.take l, ascii "pure", compRep c.job]
        if !Config.stdOk "ML-DSA.Sign ends within 256 attempts" args then (s, some (stRes .rejectLimit))
        else releaseSig c none (stdN (sigLen a) "ML-DSA.Sign" args ++ stdN (sigLen c.job.alg - sigLen a)
          "classical signature of a composite" [le 1 c.job.alg, sk.drop n, d.drop l, compRep c.job]) s := by
  cases hdet : c.job.pbit 10
  all_goals simp only [compSign, h, hdet]
  all_goals rfl

/-- Settles O15: a signing verb comes to its computation with its key and its random bytes, and goes on as its attempts say; a
verification comes to it with its key, and what its key and its signature are found to be gives its status. -/
theorem latticeSignatures : Obligations.LatticeSignatures := by
  unfold Obligations.LatticeSignatures
  intro s j c sk pub a pk n SignedWith Rnd l hu hkey
  refine ⟨fun hp hm => ⟨fun hw htq hr => ?mldsaSign, fun hw hfirst hlater hr => ?compSign⟩,
    fun hp => ⟨fun hw => ?mldsaVerify, fun hw => ?fndsaVerify, fun hw hq => ?compVerify⟩⟩
  all_goals have hc := keeps_drawEnergy hw
  case mldsaSign =>
    obtain ⟨s1, d, hlen, hk, hrun⟩ := counted_masked_keyed_drawn hc hu hkey (fun _ => [tqStep c.job]) (fun _ _ _ => htq) hm hr
    exact ⟨_, d, rfl, hlen, signing_ends hw (by unfold mldsaSign; exact (orBad_passes hp _).trans (hrun _)) hk⟩
  case compSign =>
    obtain ⟨s1, d, hlen, hk, hrun⟩ := counted_masked_keyed_drawn hc hu hkey (fun t => [tqStep c.job, slotQuota t c])
      (fun _ hr hi => by rw [slotQuota_congr hw (by decide) hr hi]; exact hlater) hm hr
    exact ⟨_, d, rfl, hlen, signing_ends hw ((compSign_first hfirst _).trans ((orBad_passes hp _).trans (hrun _))) hk⟩
  case mldsaVerify =>
    obtain ⟨s1, hk, hrun⟩ := counted_keyed hc hu hkey
    exact ⟨_, rfl, ended_withNj hw (by unfold mldsaVerify; exact (orBad_passes hp _).trans (hrun _)) hk.probeCryst⟩
  case fndsaVerify =>
    obtain ⟨s1, hk, hrun⟩ := counted_keyed hc hu hkey
    exact ⟨_, rfl, ended_of_ite hw (by unfold fndsaVerify; exact (orBad_passes hp _).trans (hrun _)) hk hk.probeCryst⟩
  case compVerify =>
    obtain ⟨s1, hk, hrun⟩ := counted_checked_keyed hc hu hkey (fun t => [slotQuota t c])
      (fun _ hr hi => by rw [slotQuota_congr hw (by decide) hr hi]; exact hq)
    exact ⟨_, rfl, ended_of_ite hw (by unfold compVerify; exact (orBad_passes hp _).trans (hrun _)) hk.probeCryst.drawNat
      hk.probeCryst.drawNat⟩

end Sys2Proof.Machine
end

section
/-! PROOFS. Yields (O12): the job that leaves its unit with its context saved, and its return to a unit of its pan. -/

namespace Sys2Proof.Machine
open Safety

/-! ### Leaving the unit (R175, R205, R246) -/

section Yielding
variable {s : State} {j q p n x : Nat} {k : UnitKind} {c : Cmd}

theorem num_unitsBlind : UnitsBlind Region.num := fun _ _ _ _ _ _ _ => rfl

/-- The local memory of the units that a command leaves is zero-written. -/
def unitsWiped (c : Cmd) (s : State) : State := c.ownUnits.foldl (fun s u => wipeLocal c.rgn u s) s

theorem unitsWiped_same (c : Cmd) (s : State) : SameButUnits s (unitsWiped c s) :=
  SameButUnits.foldl s _ (fun s u => wipeLocal_same s c.rgn u) _

theorem unitsWiped_regions (c : Cmd) (s : State) : (unitsWiped c s).regions = s.regions := by
  refine foldl_keeps (·.regions) _ (fun s u => ?_) _ s
  unfold wipeLocal
  split
  · rfl
  · rfl

/-- A job that leaves its unit waits from now on among the work of its class. -/
def Prog.yieldedAt (n : Nat) (p : Prog) : Prog := { p with phase := .yielded, since := n }

theorem yieldJob_eq (hc : s.cmd? j = some c) :
    yieldJob j s = settleUnits ((unitsWiped c s).modProg j (Prog.yieldedAt s.tick)) := by
  unfold yieldJob
  rw [hc]
  rfl

theorem cmd_yieldJob (hc : s.cmd? j = some c) : (yieldJob j s).cmd? j = some { c with prog := c.prog.yieldedAt s.tick } := by
  have hcmds : (unitsWiped c s).cmds = s.cmds := by rw [unitsWiped_same]
  rw [yieldJob_eq hc, cmd_congr (settleUnits_cmds _)]
  exact cmd_modProg _ ((cmd_congr hcmds j).trans hc)

theorem yieldJob_num (hc : s.cmd? j = some c) (r : Nat) : ((yieldJob j s).region r).num = (s.region r).num := by
  rw [yieldJob_eq hc, num_unitsBlind.settleUnits]
  exact congrArg Region.num (region_congr (unitsWiped_regions c s) r)

/-- Command `c` has left the unit of kind `k` in pan `p`, its context in the system slot `x` where it is no number job. -/
def LeftUnit (s : State) (j p x : Nat) (k : UnitKind) (c : Cmd) (t : State) : Prop :=
  ∃ d, t.cmd? j = some d ∧ d.job = c.job ∧ d.prog.phase = .yielded ∧ d.prog.since = s.tick ∧
    (k ≠ .number → d.prog.slots = c.prog.slots ++ [(p, x)])

theorem yieldNow_number (hc : s.cmd? j = some c) (hu : c.prog.unit = some (.number, p, n)) :
    LeftUnit s j p x .number c (yieldNow c s) ∧ ((yieldNow c s).region c.rgn).num.yields = inc32 (s.region c.rgn).num.yields := by
  have hnow : yieldNow c s = yieldJob j (s.modRegion c.rgn fun g => { g with num := { g.num with yields := inc32 g.num.yields } }) := by
    simp only [yieldNow, hu, cmd_id hc]
  have hc' : (s.modRegion c.rgn fun g => { g with num := { g.num with yields := inc32 g.num.yields } }).cmd? j = some c := hc
  rw [hnow]
  refine ⟨⟨_, cmd_yieldJob hc', rfl, rfl, rfl, fun h => absurd rfl h⟩, ?_⟩
  rw [yieldJob_num hc', State.region_modRegion_self]

theorem yieldNow_saved (hc : s.cmd? j = some c) (hu : c.prog.unit = some (k, p, n)) (hk : k ≠ .number)
    (hx : (s.freeSystem c.rgn p).head? = some x) : LeftUnit s j p x k c (yieldNow c s) := by
  have counted : ∃ s1 : State, yieldNow c s = yieldJob j (s1.modProg j fun q => { q with slots := q.slots ++ [(p, x)] }) ∧
      s1.cmds = s.cmds ∧ s1.tick = s.tick := by
    refine ⟨if c.job.dig then s.modRegion c.rgn fun g => { g with dig := { g.dig with switches := inc32 g.dig.switches } } else s, ?_, ?_⟩
    · unfold yieldNow
      rw [hu, cmd_id hc]
      cases k
      case number => exact absurd rfl hk
      all_goals simp only [hx]
    · split
      · exact ⟨rfl, rfl⟩
      · exact ⟨rfl, rfl⟩
  obtain ⟨s1, hnow, hcmds, htick⟩ := counted
  have hsaved := cmd_yieldJob (cmd_modProg (fun q => { q with slots := q.slots ++ [(p, x)] }) ((cmd_congr hcmds j).trans hc))
  rw [hnow]
  exact ⟨_, hsaved, rfl, rfl, htick, fun _ => rfl⟩

/-- A running job of the present generation that may yield at its yield point leaves its unit. -/
theorem yieldPoint_yields (hc : s.cmd? j = some c) (hcur : s.current c.job = true) (hphase : c.prog.phase = .running)
    (hq : s.quantum c = some q) {may : Cmd → Nat → Bool} (hmay : may c q = true) : yieldPoint j may s = yieldNow c s := by
  unfold yieldPoint
  rw [hc]
  simp only [hphase, hq, hcur, hmay, ne_eq, not_true_eq_false, if_false, Bool.not_true, Bool.false_eq_true, if_true]

theorem yieldPoint_leaves (hc : s.cmd? j = some c) (hcur : s.current c.job = true) (hphase : c.prog.phase = .running)
    (hq : s.quantum c = some q) (hu : c.prog.unit = some (k, p, n)) (hx : k ≠ .number → (s.freeSystem c.rgn p).head? = some x)
    {may : Cmd → Nat → Bool} (hmay : may c q = true) : LeftUnit s j p x k c (yieldPoint j may s) := by
  rw [yieldPoint_yields hc hcur hphase hq hmay]
  by_cases hk : k = .number
  · subst hk
    exact (yieldNow_number hc hu).1
  · exact yieldNow_saved hc hu hk (hx hk)

end Yielding

/-! ### The return to a unit (R205, R246, R399) -/

section Resuming
variable {s t : State} {j n : Nat} {k : UnitKind} {c : Cmd}

/-- The command `j` is marked as one that has been resumed. -/
def IsResumed (j : Nat) (t : State) : Prop := ∃ d, t.cmd? j = some d ∧ d.prog.resumed = true

theorem IsResumed.modProg {f : Prog → Prog} (hf : ∀ p, (f p).resumed = p.resumed) (h : IsResumed j t) : IsResumed j (t.modProg j f) := by
  obtain ⟨d, hd, hres⟩ := h
  exact ⟨_, cmd_modProg f hd, (hf d.prog).trans hres⟩

theorem IsResumed.of_cmds (h : t.cmds = s.cmds) (hs : IsResumed j s) : IsResumed j t := by
  unfold IsResumed
  rw [cmd_congr h]
  exact hs

theorem wakeFor_cmds (r p : Nat) (b : Bool) (s : State) : (wakeFor r p b s).cmds = s.cmds := by
  unfold wakeFor
  dsimp only
  split
  · rfl
  · split
    · rfl
    · split
      · rfl
      · rfl

/-- The start of a job keeps the mark: its stretch of work is counted by it (R85). -/
theorem IsResumed.startOn (h : IsResumed j t) : IsResumed j (Machine.startOn j t) := by
  obtain ⟨d, hd, hres⟩ := h
  have started := cmd_modProg (s := (drawEnergy t).2) (fun p => { p with
    phase := .running, wait := none, startTick := t.tick, quantumTick := t.tick, energy := p.energy + (drawEnergy t).1,
    stretch := if p.resumed then p.stretch + (drawEnergy t).1 else (drawEnergy t).1 }) hd
  unfold Machine.startOn
  rw [hd]
  dsimp only
  split
  · split
    · exact ⟨_, (cmd_congr (wakeOther_cmds _ _ _ _) j).trans started, hres⟩
    · exact ⟨_, started, hres⟩
  · exact ⟨_, started, hres⟩

theorem IsResumed.placeOn (h : IsResumed j t) (k : UnitKind) (n : Nat) : IsResumed j (Machine.placeOn j k n t) := by
  have placed : IsResumed j (t.modProg j fun x => { x with unit := some (k, (k.pan n).getD 0, n) }) := h.modProg fun _ => rfl
  unfold Machine.placeOn startPlaced
  split
  · exact placed
  · split
    · exact placed.startOn
    · refine IsResumed.of_cmds (foldl_keeps (·.cmds) _ (fun s p => wakeFor_cmds _ p false s) _ _) ?_
      exact placed.modProg fun _ => rfl

theorem restoreRun_cmds (j : Nat) (s : State) : (restoreRun j s).cmds = s.cmds := by
  unfold restoreRun
  split
  · split
    · rfl
    · rfl
  · rfl

/-- A slot that a context lay in is zero-written, which its pan counts. -/
def slotCleared (r : Nat) (s : State) (x : Nat × Nat) : State :=
  s.modPan r x.1 fun y => { y with slots := { y.slots with wipes := inc32 y.slots.wipes } }

/-- The state in which a yielded job is placed again: its context is read back from its system slots. -/
def contextBack (j : Nat) (c : Cmd) (s : State) : State :=
  ((c.prog.slots.filter fun x => decide (8192 ≤ x.2)).foldl (slotCleared c.rgn) s).modProg j fun x =>
    { x with slots := x.slots.filter (fun y => decide (y.2 < 8192)), resumed := true }

theorem contextBack_kept (j : Nat) (c : Cmd) (s : State) : DispatchKept j s (contextBack j c s) := by
  have cleared (l : List (Nat × Nat)) (s : State) : DispatchKept j s (l.foldl (slotCleared c.rgn) s) := by
    induction l generalizing s with
    | nil => exact .refl j s
    | cons x l ih =>
      have one : DispatchKept j s (slotCleared c.rgn s x) := modPan_dispatchKept s c.rgn x.1 fun _ => rfl
      exact one.trans (ih _)
  exact (cleared _ s).trans (modProg_dispatchKept _ (fun _ => rfl) fun _ => rfl)

theorem contextBack_resumed (hc : s.cmd? j = some c) : IsResumed j (contextBack j c s) := by
  have hcmds : ((c.prog.slots.filter fun x => decide (8192 ≤ x.2)).foldl (slotCleared c.rgn) s).cmds = s.cmds :=
    foldl_keeps (·.cmds) (slotCleared c.rgn) (fun _ _ => rfl) _ s
  exact ⟨_, cmd_modProg _ ((cmd_congr hcmds j).trans hc), rfl⟩

theorem exec_jobResume {p m : Nat} (hc : s.cmd? j = some c) (hphase : c.prog.phase = .yielded) (hu : c.prog.unit = some (k, p, n))
    (hw : c.prog.wait = none) (hdisp : s.dispatches c.rgn = true) (hquiet : s.heldForDisturbance c c.rgn = false)
    (hfirst : s.outranked c c.rgn k = false)
    (hm : s.pickUnit c c.rgn k ((s.freeUnits c c.rgn k).filter fun n => (k.pan n).all fun q => q == p) = some m) :
    exec (.jobResume j) s = .next (restoreRun j (placeOn j k m (contextBack j c s))) := by
  change execJobResume j s = _
  unfold execJobResume
  rw [hc]
  simp only [hphase, hu, hw, hdisp, hquiet, hfirst, hm, Option.isSome_none, Bool.not_true, Bool.or_self, Bool.false_eq_true, if_false]
  rfl

/-- A yielded job that is placed on unit `n` in ACTIVE pans runs there, resumed. -/
theorem resumed_runs (hc : s.cmd? j = some c) (hcell : c.prog.pair.cell = none) (hup : PansActive c k n s) :
    ∃ d, (restoreRun j (placeOn j k n (contextBack j c s))).cmd? j = some d ∧ d.prog.phase = .running ∧ d.prog.resumed = true ∧
      d.prog.unit = some (k, (k.pan n).getD 0, n) := by
  obtain ⟨d, hd, hphase, hunit, -⟩ := placeOn_runs (contextBack_kept j c s) hc hcell hup
  obtain ⟨e, he, hres⟩ := (contextBack_resumed hc).placeOn k n
  obtain rfl : d = e := Option.some.inj (hd.symm.trans he)
  exact ⟨d, (cmd_congr (restoreRun_cmds j _) j).trans hd, hphase, hres, hunit⟩

end Resuming

/-- Settles O12: each of the four events is a yield point at which the job may yield; a resumed job is placed as a dispatched one. -/
theorem jobsYieldAndResume : Obligations.JobsYieldAndResume := by
  unfold Obligations.JobsYieldAndResume
  intro s j q p n x k c hc hcur hu Left
  refine ⟨fun hphase hq hx => ?yields, fun hphase hw hcell hdisp hquiet hfirst m hm hup => ?resumes⟩
  case yields =>
    have leaves {may : Cmd → Nat → Bool} (hmay : may c q = true) : Left (yieldPoint j may s) :=
      yieldPoint_leaves hc hcur hphase hq hu hx hmay
    refine ⟨fun hdue => ⟨_, rfl, leaves hdue⟩, fun hk hover => ?number, fun hk hover => ⟨_, rfl, leaves ?sym⟩,
      fun _ hdig hover => ⟨_, rfl, leaves ?digest⟩⟩
    case number =>
      subst hk
      have hmay : (c.prog.unit.any (fun u => u.1 == .number) && s.quantumOver c q) = true := by simp [hu, hover]
      refine ⟨_, rfl, leaves (may := fun c q => c.prog.unit.any (fun u => u.1 == .number) && s.quantumOver c q) hmay, ?_⟩
      rw [yieldPoint_yields hc hcur hphase hq hmay]
      exact (yieldNow_number (x := x) hc hu).2
    case sym => simp [hu, hk, hover]
    case digest => simp [hdig, hover]
  case resumes =>
    obtain ⟨d, hd⟩ := resumed_runs hc hcell hup
    exact ⟨_, d, exec_jobResume hc hphase hu hw hdisp hquiet hfirst hm, hd⟩

end Sys2Proof.Machine
end

section
/-! PROOFS. Digests (O16): what a job's first steps leave of the records of keys, the digest verbs, and the digest window. -/

namespace Sys2Proof.Machine
open Safety

/-! ### Key records that the steps of a verb keep (R191, R338, R544) -/

/-- What no use of a key changes in its record: its policy and the state record it names. -/
def KeyRec.lasting (k : KeyRec) : Policy × Nat := (k.pol, k.lmsId)

/-- The LMS state records, and the lasting part of the record that each handle names, are the same. -/
structure KeysKept (s t : State) : Prop where
  lms : t.vault.lms = s.vault.lms
  record : ∀ j, (t.keyOf j).map KeyRec.lasting = (s.keyOf j).map KeyRec.lasting

section Records
variable {s t u : State} {c : Cmd} {n lim : Nat} {sk pub : List Byte}

theorem KeysKept.of_vault (h : t.vault = s.vault) : KeysKept s t := ⟨by rw [h], fun j => by rw [State.keyOf, State.keyOf, h]⟩

theorem KeysKept.trans (h : KeysKept s t) (k : KeysKept t u) : KeysKept s u :=
  ⟨k.lms.trans h.lms, fun j => (k.record j).trans (h.record j)⟩

/-- A change of a record that neither moves its key nor touches its lasting part. -/
theorem modKey_keysKept (h : U32) (f : KeyRec → KeyRec) (hf : ∀ k, (f k).inst = k.inst ∧ (f k).idx = k.idx ∧ (f k).cls = k.cls ∧
    (f k).dead = k.dead ∧ (f k).keep = k.keep ∧ (f k).lasting = k.lasting) : KeysKept s (s.modKey h f) := by
  refine ⟨rfl, fun j => ?_⟩
  have hfind : (s.modKey h f).keyOf j = (s.keyOf j).map fun k => if k.handle = h then f k else k := by
    unfold State.keyOf State.modKey
    refine find_map_key _ _ _ _ fun k => ?_
    obtain ⟨hinst, hidx, hcls, hdead, hkeep, -⟩ := hf k
    simp [KeyRec.named, hinst, hidx, hcls, hdead, hkeep]
  have hsame (k : KeyRec) : (if k.handle = h then f k else k).lasting = k.lasting := by
    obtain ⟨-, -, -, -, -, hlasting⟩ := hf k
    split
    · exact hlasting
    · rfl
  rw [hfind]
  cases s.keyOf j with
  | none => rfl
  | some k => exact congrArg some (hsame k)

/-- Counting a use changes counters alone (R544). -/
theorem useKey_keysKept (c : Cmd) (n lim : Nat) (s : State) : KeysKept s (useKey c n lim s).2 := by
  have counted (k : KeyRec) : KeysKept s (countUse c k n lim s).2 := by
    unfold countUse
    split
    · exact .of_vault rfl
    · split
      · exact .of_vault rfl
      · split
        · exact modKey_keysKept _ _ fun _ => ⟨rfl, rfl, rfl, rfl, rfl, rfl⟩
        · exact (modKey_keysKept k.handle (fun k => { k with usage := k.usage + n }) fun _ => ⟨rfl, rfl, rfl, rfl, rfl, rfl⟩).trans
            (.of_vault rfl)
  unfold useKey
  split
  · exact .of_vault rfl
  next k _ =>
    have h := counted k
    dsimp only
    split
    · exact h
    · split
      · exact h
      · exact .of_vault rfl

/-- Where the steps after the count agree on what it leaves, so do the whole runs. -/
theorem countThen_congr {k l : State → State × Option Res} (h : k (useKey c n lim s).2 = l (useKey c n lim s).2) :
    countThen c n lim s k = countThen c n lim s l := by
  unfold countThen
  revert h
  cases useKey c n lim s with
  | mk st t => cases st with
    | some st => exact fun _ => rfl
    | none => exact fun h => h

/-- A count that goes on goes on with the state it leaves. -/
theorem useKey_of_goesOn {s1 : State} (h : ∀ k, countThen c n lim s k = k s1) : s1 = (useKey c n lim s).2 := by
  have h := h fun t => (t, none)
  unfold countThen at h
  revert h
  cases useKey c n lim s with
  | mk st t => cases st with
    | some st => exact fun h => nomatch (Prod.mk.inj h).2
    | none => exact fun h => (Prod.mk.inj h).1.symm

/-- A key's first use in a region marks the region in its record (R131). -/
theorem repin_keysKept (r : Nat) (k : KeyRec) (s : State) : KeysKept s (repin r k s) := by
  have marked : KeysKept s (s.modKey k.handle fun x => { x with pinAt := r }) :=
    modKey_keysKept _ _ fun _ => ⟨rfl, rfl, rfl, rfl, rfl, rfl⟩
  unfold repin
  split
  · exact .of_vault rfl
  · dsimp only
    split
    · exact marked.trans (.of_vault rfl)
    · refine marked.trans (.of_vault ?_)
      rw [(fillCryst_same r _ _).1]

/-- A job that finds its key on the shelf goes on with a state that keeps the records (R116, R345). -/
theorem withKey_keysKept (h : KeyHere c sk pub s) {s1 : State} (hrun : ∀ k, withKey c s k = k sk pub s1) : KeysKept s s1 := by
  have hrun := hrun fun _ _ t => (t, none)
  rcases h with ⟨hk, -, -⟩ | ⟨k, e, hk, he, -, -⟩
  · simp only [withKey, hk] at hrun
    exact .of_vault (congrArg (fun x => x.1.vault) hrun.symm)
  · simp only [withKey, hk, needKey, he] at hrun
    rw [← (Prod.mk.inj hrun).1]
    exact (repin_keysKept _ k s).trans (.of_vault rfl)

/-- A job that can count its key's use and finds the key goes on with a state that keeps the records. -/
theorem counted_keyed_kept (hc : Keeps c s) (hu : KeyUsable c n lim s) (hkey : KeyHere c sk pub s) :
    ∃ s1, Keeps c s1 ∧ KeysKept s s1 ∧ ∀ k : List Byte → List Byte → State → State × Option Res,
      (countThen c n lim s fun s => withKey c s k) = k sk pub s1 := by
  obtain ⟨s1, hcount, hc1, -, -, -, -, -, hkey1, -⟩ := countThen_usable hu hc
  obtain ⟨s2, hshelf, hc2, -⟩ := withKey_here (hkey1 sk pub hkey) hc1
  have hkept : KeysKept s s1 := useKey_of_goesOn hcount ▸ useKey_keysKept c n lim s
  exact ⟨s2, hc2, hkept.trans (withKey_keysKept (hkey1 sk pub hkey) hshelf), fun k => by rw [hcount, hshelf]⟩

end Records

/-! ### The digest verbs (R170, R172, R173, R177) -/

section Digests
variable {s t : State} {c : Cmd} {sk pub : List Byte}

/-- Whether a KMAC runs masked is read from the policy of its key (R168, R173). -/
theorem KeysKept.kmacMasked (h : KeysKept s t) (b : Job) : t.kmacMasked b = s.kmacMasked b := by
  have policy (u : State) : ((u.keyOf b).any fun k => bit k.pol.attr 2) = ((u.keyOf b).map KeyRec.lasting).any fun x => bit x.1.attr 2 := by
    cases u.keyOf b <;> rfl
  rw [State.kmacMasked, State.kmacMasked, policy t, policy s, h.record]

/-- The mask bytes of a KMAC job: those of its message where it runs masked, none elsewhere. -/
def kmacBytes (c : Cmd) (s : State) : Nat := if s.kmacMasked c.job then Config.kmacMask c.prog.order (c.job.operand 0).length else 0

theorem withKmacMask_eq (c : Cmd) (s : State) (k : State → State × Option Res) : withKmacMask c s k = withMask (kmacBytes c s) c s k := by
  unfold withKmacMask kmacBytes
  split
  · rfl
  · exact (if_pos (Nat.zero_le _)).symm

/-- A MAC or derivation whose use can be counted, and whose key and mask bytes are at hand, comes to its computation with the key. -/
theorem counted_kmac_keyed (hc : Keeps c s) (hu : KeyUsable c 1 (keyLimit s c.job) s) (hkey : KeyHere c sk pub s)
    (hm : s.kmacMasked c.job = true → MasksHere c (Config.kmacMask c.prog.order (c.job.operand 0).length) s) :
    ∃ s1, Keeps c s1 ∧ ∀ k : List Byte → List Byte → State → State × Option Res,
      (countThen c 1 (keyLimit s c.job) s fun s => withKmacMask c s fun s => withKey c s k) = k sk pub s1 := by
  have hmasks : MasksHere c (kmacBytes c s) s := by
    unfold kmacBytes
    split
    next h => exact hm h
    · exact Or.inl (Nat.zero_le _)
  obtain ⟨s1, hk, -, hrun⟩ := counted_masked_keyed hc hu hkey (fun _ => []) (fun _ _ _ => rfl) hmasks
  refine ⟨s1, hk, fun k => (countThen_congr ?_).trans (hrun k)⟩
  have hbytes : kmacBytes c (useKey c 1 (keyLimit s c.job) s).2 = kmacBytes c s := by
    rw [kmacBytes, kmacBytes, (useKey_keysKept _ _ _ s).kmacMasked]
  rw [withKmacMask_eq, hbytes]
  rfl

end Digests

/-! ### The digest window (R178, R180, R181) -/

section Window
variable {s : State} {p : Bool} {part v valid token : Nat}

theorem exec_digWinClaim (h : p = false → Reached 0 s) : exec (.digWinClaim p) s = .next (digWinClaimAt p s) := by
  refine congrArg Host.Outcome.next ?_
  cases p
  · exact gatedRead_open s 0 _ (h rfl).1 (h rfl).2
  · rfl

/-- A write of the window is carried out through either port (R110). -/
theorem windowWrite_open (h : p = false → Reached 0 s) (t : State) : (if p = false then s.gated 0 t else t) = t := by
  cases p
  · exact gated_open s 0 t (h rfl).1 (h rfl).2
  · rfl

theorem exec_digWinData (h : p = false → Reached 0 s) : exec (.digWinData p part v) s = .next (digWinDataAt p part v s) :=
  congrArg Host.Outcome.next (windowWrite_open h _)

theorem exec_digWinLast (h : p = false → Reached 0 s) : exec (.digWinLast p valid token) s = .next (digWinLastAt p valid token s) :=
  congrArg Host.Outcome.next (windowWrite_open h _)

theorem exec_digWinRelease (h : p = false → Reached 0 s) : exec (.digWinRelease p token) s = .next (digWinReleaseAt p token s) :=
  congrArg Host.Outcome.next (windowWrite_open h _)

theorem winOwned_owner (h : s.digWin.owner = some p) (f : DigWin → DigWin) :
    winOwned p s f = { s with digWin := f { s.digWin with lastAccess := s.tick } } := if_pos h

theorem winOwned_other (h : s.digWin.owner ≠ some p) (f : DigWin → DigWin) :
    winOwned p s f = { s with digWin := { s.digWin with foreign := true } } := if_neg h

theorem digWinDataAt_owner (h : s.digWin.owner = some p) (hb : s.digWin.busy = false) :
    digWinDataAt p part v s = { s with digWin :=
      (if part = 0 then { s.digWin with lastAccess := s.tick, lo := v % 2 ^ 32 }
      else if part = 1 then DigWin.word (s.digWin.lo + 2 ^ 32 * (v % 2 ^ 32)) { s.digWin with lastAccess := s.tick }
      else DigWin.word (v % 2 ^ 64) { s.digWin with lastAccess := s.tick }) } := by
  rw [digWinDataAt, winOwned_owner h]
  simp only [hb, Bool.false_eq_true, if_false]

theorem digWinLastAt_owner (h : s.digWin.owner = some p) (hb : s.digWin.busy = false) (ht : token = s.digWin.token) :
    digWinLastAt p valid token s = { s with digWin :=
      (if s.digWin.lengthOk valid then { s.digWin with lastAccess := s.tick, closing := some valid, busy := true }
      else { ({ s.digWin with lastAccess := s.tick } : DigWin).emptied with lenErr := true }) } := by
  rw [digWinLastAt, winOwned_owner h]
  simp only [ht, hb, ne_eq, not_true_eq_false, Bool.false_eq_true, if_false]
  rfl

theorem digWinReleaseAt_owner (h : s.digWin.owner = some p) :
    digWinReleaseAt p s.digWin.token s = { s with digWin := ({ s.digWin with lastAccess := s.tick } : DigWin).released } := by
  rw [digWinReleaseAt, winOwned_owner h]
  exact congrArg (fun w => { s with digWin := w }) (if_pos rfl)

theorem exec_digWinTimeout (h : s.digWin.owner = some p) (ht : s.digWin.lastAccess + s.digWin.timeoutMs * 1000000 ≤ s.tick) :
    exec .digWinTimeout s = .next { s with digWin := { s.digWin.released with expired := true } } :=
  congrArg Host.Outcome.next (if_pos (by simp [h, ht]))

theorem exec_digWinCompressionDone_last {n : Nat} (hb : s.digWin.busy = true) (hc : s.digWin.closing = some n) :
    exec .digWinCompressionDone s = .next { s with digWin := { s.digWin with
      busy := false, done := true, closing := none,
      result := stdN s.digWin.resultLen "hash or XOF of R170" [le 1 s.digWin.func, s.digWin.message, [], []] } } := by
  refine congrArg (fun w => Host.Outcome.next { s with digWin := w }) ?_
  simp only [hb, hc, Bool.not_true, Bool.false_eq_true, if_false]

end Window

/-- Settles O16: a digest verb comes to its computation with its key and its masks; an access of the window is one of its owner, or of
another port. -/
theorem digestsAndTheWindow : Obligations.DigestsAndTheWindow := by
  unfold Obligations.DigestsAndTheWindow
  refine ⟨fun s j c sk pub hp => ⟨fun hw => ?hash, fun hu hkey hm => ⟨fun hw => ?mac, fun hw => ?verify, fun hw => ?kdf⟩⟩,
    fun s p part v valid token hr => ⟨fun hfree => ?claimed, fun o ho => ?taken, fun hother i hi => ?foreign,
      fun how => ⟨fun hb => ⟨fun hlo => ?low, fun hhi => ?high, fun hwide => ?wide, fun ht => ⟨fun hlen => ?closes, fun hlen => ?empties⟩⟩,
        fun ht => ?released, fun ht => ?expired⟩, fun n => exec_digWinCompressionDone_last⟩⟩
  case hash =>
    exact ⟨_, rfl, ended_withNj hw (by unfold digHash; exact orBad_passes hp _) (keeps_drawEnergy hw)⟩
  case mac =>
    obtain ⟨s1, hk, hrun⟩ := counted_kmac_keyed (keeps_drawEnergy hw) hu hkey hm
    exact ⟨_, rfl, ended_withNj hw (by unfold digMac; exact (orBad_passes hp _).trans (hrun _)) hk⟩
  case verify =>
    obtain ⟨s1, hk, hrun⟩ := counted_kmac_keyed (keeps_drawEnergy hw) hu hkey hm
    have hend := ended_withNj (body := digMacVerify) hw (by unfold digMacVerify; exact (orBad_passes hp _).trans (hrun _)) hk
    simp only [beq_iff_eq] at hend
    exact ⟨_, rfl, hend⟩
  case kdf =>
    obtain ⟨s1, hk, hrun⟩ := counted_kmac_keyed (keeps_drawEnergy hw) hu hkey hm
    exact ⟨_, rfl, ended_of_body hw (by unfold digKdf; exact (orBad_passes hp _).trans (hrun _)) hk⟩
  case claimed =>
    have hclaim : digWinClaimAt p s = emit (.value (65536 * nextToken s.digWin.token))
        { s with digWin := s.digWin.claimed p s.tick } := by
      unfold digWinClaimAt
      rw [hfree]
      rfl
    exact ⟨_, (exec_digWinClaim hr).trans (congrArg _ hclaim), rfl, rfl, rfl, rfl, rfl, rfl, rfl, rfl, rfl⟩
  case taken =>
    refine ⟨_, exec_digWinClaim hr, ?_⟩
    unfold digWinClaimAt
    rw [ho]
    dsimp only
    split
    · exact ⟨ho, rfl, rfl, rfl, rfl⟩
    · exact ⟨ho, rfl, rfl, rfl, rfl⟩
  case foreign =>
    simp only [List.mem_cons, List.not_mem_nil, or_false] at hi
    obtain rfl | rfl | rfl := hi
    · rw [exec_digWinData hr, digWinDataAt, winOwned_other hother]
    · rw [exec_digWinLast hr, digWinLastAt, winOwned_other hother]
    · rw [exec_digWinRelease hr, digWinReleaseAt, winOwned_other hother]
  case low => rw [exec_digWinData hr, digWinDataAt_owner how hb, if_pos hlo]
  case high =>
    refine ⟨_, exec_digWinData hr, ?_⟩
    rw [digWinDataAt_owner how hb, hhi]
    simp [DigWin.word, Nat.dvd_iff_mod_eq_zero]
  case wide =>
    refine ⟨_, exec_digWinData hr, ?_⟩
    rw [digWinDataAt_owner how hb, if_neg (by omega), if_neg (by omega)]
    rfl
  case closes => rw [exec_digWinLast hr, digWinLastAt_owner how hb ht, if_pos hlen]
  case empties =>
    refine ⟨_, exec_digWinLast hr, ?_⟩
    rw [digWinLastAt_owner how hb ht, if_neg (by simp [hlen])]
    exact ⟨rfl, rfl, rfl, how⟩
  case released =>
    subst ht
    refine ⟨_, exec_digWinRelease hr, ?_⟩
    rw [digWinReleaseAt_owner how]
    exact ⟨rfl, rfl, rfl⟩
  case expired => exact ⟨_, exec_digWinTimeout how ht, rfl, rfl, rfl⟩

end Sys2Proof.Machine
end

section
/-! PROOFS. Hash-based signatures (O17): a signing with its key and random bytes, and what the verifications of stateful schemes share. -/

namespace Sys2Proof.Machine
open Safety

/-! ### SIG.SLHDSA_SIGN (R185, R186) -/

section Signing
variable {s : State} {c : Cmd} {n lim : Nat} {sk pub : List Byte}

/-- A signing whose use can be counted, whose later checks pass, and whose key and random bytes are at hand comes to its computation
with both. -/
theorem counted_keyed_drawn (hc : Keeps c s) (hu : KeyUsable c 1 lim s) (hkey : KeyHere c sk pub s) (hn : RandomHere c n s)
    {l : List (Option Status)} (hl : Passes l) :
    ∃ (s1 : State) (d : List Byte), d.length = n ∧ Keeps c s1 ∧
      ∀ k : List Byte → List Byte → List Byte → State → State × Option Res,
        (countThen c 1 lim s fun s => orBad l s fun s => withKey c s fun sk pub s => withRandom n c s fun d s => k sk pub d s) =
          k sk pub d s1 := by
  obtain ⟨s1, d, hd, hc1, hrun⟩ := counted_masked_keyed_drawn hc hu hkey (fun _ => l) (fun _ _ _ => hl) (m := 0)
    (Or.inl (Nat.zero_le _)) hn
  have hnone (s : State) (k : State → State × Option Res) : withMask 0 c s k = k s := if_pos (Nat.zero_le _)
  exact ⟨s1, d, hd, hc1, fun k => by simpa only [hnone] using hrun k⟩

end Signing

/-! ### The verifications of stateful schemes (R189, R195) -/

section Verifying
variable {s : State} {j op : Nat} {c : Cmd} {fam : Fam} {f : String} {sk pub : List Byte}

/-- The checks of a verification of a stateful scheme (R189, R195). -/
def statefulChecks (s : State) (b : Job) (fam : Fam) : List (Option Status) :=
  [if b.handle = nullHandle then none else keyChecks s b [0, 1] (· == b.alg) 1 fun _ => true,
    check (b.param.toNat &&& 0xFFFFDF00 == 0 && (if fam = .xmss then sigArgsOk b 1 && b.ctxLen == 0 else b.args.isEmpty)) .malformed,
    check (famOf b.alg == some fam) .paramUnsupported, famEnabled s b]

theorem passes_cons {a : Option Status} {l : List (Option Status)} : Passes (a :: l) ↔ a = none ∧ Passes l := by
  cases a with
  | none => exact ⟨fun h => ⟨rfl, h⟩, And.right⟩
  | some st => exact ⟨fun h => absurd h (Option.some_ne_none st), fun h => absurd h.1 (Option.some_ne_none st)⟩

theorem check_passes {b : Bool} {st : Status} : check b st = none ↔ b = true := by
  cases b <;> simp [check]

/-- A verification whose checks pass is one of its family. -/
theorem statefulChecks_fam (h : Passes (statefulChecks s c.job fam)) : famOf c.job.alg = some fam := by
  simp only [statefulChecks, passes_cons, check_passes, beq_iff_eq] at h
  obtain ⟨-, -, hfam, -⟩ := h
  exact hfam

/-- What a verification of a stateful scheme finds (R189, R195): a public key of a set that the spec leaves out is not supported. -/
def statefulVerdict (b : Job) (f : String) (pk : List Byte) : Res :=
  if !(if famOf b.alg = some .xmss then xmssKeyOk b.alg pk else hssKeyOk b.alg pk) then stRes .paramUnsupported
  else if Config.stdOk f [le 1 b.alg, pk, b.operand 1, b.operand 0] then okRes else stRes .sigInvalid

theorem statefulVerify_ended (hw : AtWork op j c s) (hp : Passes (statefulChecks s c.job fam)) (hu : KeyUsable c 1 (keyLimit s c.job) s)
    (hkey : KeyHere c sk pub s) :
    Ended j c (statefulVerdict c.job f (verifyKey c.job pub)) (runVerb op j (statefulVerify fam f) s) := by
  obtain ⟨s1, hk, hrun⟩ := counted_keyed (keeps_drawEnergy hw) hu hkey
  have hb : statefulVerify fam f c (drawEnergy s).2 = (s1, some (statefulVerdict c.job f (verifyKey c.job pub))) := by
    unfold statefulVerify statefulVerdict
    refine (orBad_passes hp _).trans ((hrun _).trans ?_)
    simp only [statefulChecks_fam hp, Option.some.injEq]
    exact (apply_ite (fun r => (s1, some r)) _ _ _).symm
  exact ended_of_body hw hb hk

end Verifying

/-- Settles O17: a signing comes to its computation with its key and its random bytes, and its signature goes on to the release check; a
verification comes to it with its key. -/
theorem hashBasedSignatures : Obligations.HashBasedSignatures := by
  unfold Obligations.HashBasedSignatures
  intro s j c sk pub a pk keyed Verdict hu hkey
  refine ⟨fun hw hp htq hr => ?sign, fun hw hp => ?verify, fun hw hp => ⟨_, rfl, statefulVerify_ended hw hp hu hkey⟩,
    fun hw hp => ⟨_, rfl, statefulVerify_ended hw hp hu hkey⟩⟩
  case sign =>
    obtain ⟨s1, d, hlen, hk, hrun⟩ := counted_keyed_drawn (keeps_drawEnergy hw) hu hkey hr htq
    refine ⟨_, if c.job.pbit 10 then pub.take (pubLen a / 2) else d, rfl, fun h => if_pos h, fun h => ?_,
      signed_of_body hw (by unfold slhSign; exact (orBad_passes hp _).trans (hrun _)) hk.drawNat⟩
    simpa [h] using hlen
  case verify =>
    obtain ⟨s1, hk, hrun⟩ := counted_keyed (keeps_drawEnergy hw) hu hkey
    exact ⟨_, rfl, ended_withNj hw (by unfold slhVerify; exact (orBad_passes hp _).trans (hrun _)) hk.drawNat⟩

end Sys2Proof.Machine
end

section
/-! PROOFS. Stateful signing (O18): the LMS state records, the leaf that a signing takes or waits for, and what raises the limit. -/

namespace Sys2Proof.Machine
open Safety

/-! ### LMS state records (R190) -/

section LmsRecords
variable {s t : State} {id : Nat} {l : LmsRec} {f : LmsRec → LmsRec}

theorem find_modLms (hf : ∀ l, (f l).id = l.id) (h : (s.vault.lms.find? fun x => x.id == id) = some l) :
    ((s.modLms id f).vault.lms.find? fun x => x.id == id) = some (f l) := by
  have hid : l.id = id := by simpa using List.find?_some h
  have hsame : ((fun x : LmsRec => x.id == id) ∘ fun x => if x.id = id then f x else x) = fun x => x.id == id := by
    funext x
    by_cases hx : x.id = id
    · simp [hx, hf]
    · simp [hx]
  rw [State.modLms, List.find?_map, hsame, h, Option.map_some, if_pos hid]

theorem raiseIfDue_cmds (id : Nat) (s : State) : (raiseIfDue id s).cmds = s.cmds := by
  unfold raiseIfDue
  split
  · rfl
  · split
    · rfl
    · rw [journalEvent_same]
      rfl

/-- A record that is due for a raise is marked, with its next leaf and its limit as they were. -/
theorem find_raiseIfDue (h : (s.vault.lms.find? fun x => x.id == id) = some l) :
    ∃ m, ((raiseIfDue id s).vault.lms.find? fun x => x.id == id) = some m ∧ m.q = l.q ∧ m.rl = l.rl := by
  unfold raiseIfDue
  rw [h]
  dsimp only
  split
  · exact ⟨l, h, rfl, rfl⟩
  · refine ⟨{ l with raising := true }, ?_, rfl, rfl⟩
    rw [journalEvent_same]
    exact find_modLms (f := fun x => { x with raising := true }) (fun _ => rfl) h

/-- Work that leaves its units leaves the LMS state records (R350). -/
theorem settleUnits_lms (s : State) : (settleUnits s).vault.lms = s.vault.lms := by
  unfold settleUnits settleShelf
  dsimp only
  rw [settleCryst_same, restPans_same, SameButRegions.foldl s _ (fun s r => takeWarm_same s r) _]

theorem finish_lms (j : Nat) (r : Res) (s : State) : (finish j r s).vault.lms = s.vault.lms :=
  (settleUnits_lms _).trans (congrArg Vault.lms (freeSlots_vault s j))

theorem toCheck_lms (j : Nat) (r : Res) (s : State) : (toCheck j r s).vault.lms = s.vault.lms :=
  (settleUnits_lms _).trans (congrArg Vault.lms (countJob_vault s j))

/-- The state record of the key that a command names stands as it stood while its record is kept. -/
theorem KeysKept.lmsOf (h : KeysKept s t) (b : Job) : (jobKey t b).bind t.lmsOf = (jobKey s b).bind s.lmsOf := by
  have lasting (u : State) : (jobKey u b).bind u.lmsOf =
      if b.handle = nullHandle then none
      else ((u.keyOf b).map KeyRec.lasting).bind fun x => u.vault.lms.find? fun l => l.id == x.2 := by
    unfold jobKey
    split
    · rfl
    · cases u.keyOf b <;> rfl
  rw [lasting t, lasting s, h.record, h.lms]

end LmsRecords

/-! ### The leaf of a signing (R190, R191, R194) -/

section Leaf
variable {s : State} {c d : Cmd} {l : LmsRec}

theorem takeLeaf_exhausted (hc : c.prog.committed = false) (hq : l.leaves ≤ l.q) :
    takeLeaf c l s = (some (.error .leafExhausted), s) := by
  unfold takeLeaf
  rw [if_neg (by simp [hc]), if_pos hq]

/-- At the limit a signing waits, and the raise of the limit is begun where it has not been. -/
theorem takeLeaf_limited (hc : c.prog.committed = false) (hq : l.q < l.leaves) (hrl : l.rl ≤ l.q) :
    takeLeaf c l s = (none, raiseIfDue l.id (s.modProg c.job.id fun p => { p with wait := some .leaf })) := by
  unfold takeLeaf
  rw [if_neg (by simp [hc]), if_neg (Nat.not_le.2 hq), if_pos hrl]

/-- Below the limit, with its tree built, a signing takes the next leaf and passes its commit point. -/
theorem takeLeaf_takes (hc : c.prog.committed = false) (hq : l.q < l.leaves) (hrl : l.q < l.rl)
    (htree : l.tree ≠ 0 → l.tree < l.leaves → l.q % l.tree = 0 → l.q ≠ 0 → l.treeReady = true)
    (hl : (s.vault.lms.find? fun x => x.id == l.id) = some l) (hd : s.cmd? c.job.id = some d) :
    ∃ t m e, takeLeaf c l s = (some (.ok l.q), t) ∧ (t.vault.lms.find? fun x => x.id == l.id) = some m ∧ m.q = l.q + 1 ∧
      m.rl = l.rl ∧ t.cmd? c.job.id = some e ∧ e.job = d.job ∧ e.prog.committed = true := by
  unfold takeLeaf
  rw [if_neg (by simp [hc]), if_neg (Nat.not_le.2 hq), if_neg (Nat.not_le.2 hrl)]
  dsimp only
  rw [if_neg (by simpa using htree)]
  generalize (l.tree != 0 && decide (l.tree < l.leaves) && l.q % l.tree == 0 && l.q != 0) = crosses
  have hlms := find_modLms (f := fun x => { x with q := x.q + 1, treeReady := x.treeReady && !crosses }) (fun _ => rfl) hl
  have hcmd := cmd_commit (cmd_modProg (s := s.modLms l.id fun x => { x with q := x.q + 1, treeReady := x.treeReady && !crosses })
    (fun p => { p with aux := l.q, wait := none }) hd)
  obtain ⟨m, hm, hmq, hmrl⟩ := find_raiseIfDue (id := l.id) (s := commit c.job.id ((s.modLms l.id fun x =>
    { x with q := x.q + 1, treeReady := x.treeReady && !crosses }).modProg c.job.id fun p => { p with aux := l.q, wait := none }))
    (by rw [commit_same]; exact hlms)
  exact ⟨_, m, _, rfl, hm, hmq, hmrl, (cmd_congr (raiseIfDue_cmds _ _) _).trans hcmd, rfl, rfl⟩

end Leaf

/-! ### SIG.LMS_SIGN (R189, R190, R191) -/

section LmsSigning
variable {s s1 : State} {c d : Cmd} {op j : Nat} {body : Cmd → State → State × Option Res} {r : Res} {k : KeyRec} {l : LmsRec}
  {sk pub : List Byte}

theorem cmd_toCheck (h : s.cmd? j = some d) : (toCheck j r s).cmd? j = some { d with prog :=
    { d.prog with phase := .checking, res := some r, since := s.tick, pair := { d.prog.pair with cell := none } } } := by
  unfold toCheck
  rw [cmd_congr (settleUnits_cmds _), cmd_modProg _ ((cmd_congr (countJob_cmds s j) j).trans h)]

/-- A result whose outputs fit goes to its release check, and another ends the job; either way the leaf that was taken stays taken. -/
theorem signed_of_leaf (hw : AtWork op j c s) (hd : s1.cmd? j = some d) (hdj : d.job = c.job)
    (hb : body c (drawEnergy s).2 = if r.status = .ok then (toCheck j r s1, none) else (s1, some r)) :
    Signed j c r (runVerb op j body s) ∧ (runVerb op j body s).vault.lms = s1.vault.lms ∧
      ∀ e, (runVerb op j body s).cmd? j = some e → e.prog.committed = d.prog.committed := by
  obtain ⟨hc, hop, hat, hheld, hrep⟩ := hw
  unfold Signed
  by_cases hok : r.status = .ok
  · rw [if_pos hok] at hb ⊢
    rw [runVerb_of_wait hc hop hat hheld hrep hb]
    refine ⟨⟨_, r.nj, cmd_toCheck hd, hdj, rfl, rfl⟩, toCheck_lms j r s1, fun e he => ?_⟩
    rw [cmd_toCheck hd] at he
    exact Option.some.inj he ▸ rfl
  · rw [if_neg hok] at hb ⊢
    rw [runVerb_of_body hc hop hat hheld hrep hb]
    have hfin := cmd_finish r ((cmd_congr (countJob_cmds _ j) j).trans (cmd_modProg (Prog.endEnergy r.nj (drawEnergy s).1) hd))
    refine ⟨⟨_, r.nj, hfin, hdj, rfl, rfl⟩, (finish_lms j r _).trans (congrArg Vault.lms (countJob_vault _ j)), fun e he => ?_⟩
    rw [hfin] at he
    exact Option.some.inj he ▸ rfl

theorem runVerb_lms (hw : AtWork op j c s) (hb : body c (drawEnergy s).2 = (s1, some r)) :
    (runVerb op j body s).vault.lms = s1.vault.lms := by
  obtain ⟨hc, hop, hat, hheld, hrep⟩ := hw
  rw [runVerb_of_body hc hop hat hheld hrep hb]
  exact (finish_lms j r _).trans (congrArg Vault.lms (countJob_vault _ j))

/-- The signature with leaf `q`, and the leaves that are left where the command asks for their count (R189). -/
def lmsRes (b : Job) (sk : List Byte) (l : LmsRec) (q : Nat) : Res :=
  outsTo b ((1, Config.std "HSS.Sign" [le 1 b.alg, sk, le 8 q, b.operand 0]) ::
    if b.frags.any fun f => f.operand == 2 then [(2, le 8 (l.leaves - q - 1))] else [])

/-- How a signing goes on once it has asked for its leaf. -/
def lmsAnswer (c : Cmd) (sk : List Byte) (l : LmsRec) : Option (Except Status Nat) × State → State × Option Res
  | (none, t) => (t, none)
  | (some (.error st), t) => (t, some (stRes st))
  | (some (.ok q), t) => if (lmsRes c.job sk l q).status = .ok then (toCheck c.job.id (lmsRes c.job sk l q) t, none)
      else (t, some (lmsRes c.job sk l q))

/-- A signing whose checks pass, whose use can be counted and whose key is at hand asks for its leaf. -/
theorem lmsSign_asks (hw : AtWork 0x0408 j c s) (hkey : jobKey s c.job = some k) (hhere : KeyHere c sk pub s) (hl : s.lmsOf k = some l)
    (hu : KeyUsable c 1 (keyLimit s c.job) s) (hp : Passes [keyChecks s c.job [0] (· == c.job.alg) 0 fun _ => true,
      check (c.job.param.toNat &&& 0xFFFFFF00 == 0 && c.job.args.isEmpty) .malformed,
      check (famOf c.job.alg == some .lms) .paramUnsupported, famEnabled s c.job]) :
    ∃ s1, Keeps c s1 ∧ s1.vault.lms = s.vault.lms ∧ lmsSign c (drawEnergy s).2 = lmsAnswer c sk l (takeLeaf c l s1) := by
  obtain ⟨s1, hk, hkept, hrun⟩ := counted_keyed_kept (keeps_drawEnergy hw) hu hhere
  have hl1 : (jobKey s1 c.job).bind s1.lmsOf = some l :=
    (hkept.lmsOf c.job).trans ((congrArg (·.bind s.lmsOf) hkey).trans hl)
  refine ⟨s1, hk, hkept.lms, ?_⟩
  unfold lmsSign
  refine (orBad_passes hp _).trans ((hrun _).trans ?_)
  simp only [hl1]
  obtain ⟨answer, t⟩ := takeLeaf c l s1
  match answer with
  | none => rfl
  | some (.error st) => rfl
  | some (.ok q) => rfl

end LmsSigning

/-! ### What lets waiting signings go on (R190, R194) -/

section Ready
variable {s t : State} {id j : Nat} {c : Cmd} {k : KeyRec} {l : LmsRec}

/-- A signing that waits for a leaf of state record `id` waits no longer. -/
def leafGoesOn (id : Nat) (s : State) (c : Cmd) : Cmd :=
  if c.prog.wait == some .leaf && (s.keyOf c.job).any (fun k => k.lmsId == id) then { c with prog := { c.prog with wait := none } } else c

/-- State record `id` has changed by `f`, and the signings that waited for it go on. -/
def leavesReady (id : Nat) (f : LmsRec → LmsRec) (s : State) : State := { s.modLms id f with cmds := s.cmds.map (leafGoesOn id s) }

theorem cmd_map {g : Cmd → Cmd} (hg : ∀ c, (g c).job.id = c.job.id) (h : t.cmds = s.cmds.map g) (j : Nat) :
    t.cmd? j = (s.cmd? j).map g := by
  have hsame : ((fun c : Cmd => c.job.id == j) ∘ g) = fun c => c.job.id == j := funext fun c => by simp [hg]
  rw [State.cmd?, State.cmd?, h, List.find?_map, hsame]

theorem keyOf_of_jobKey (h : jobKey s c.job = some k) : s.keyOf c.job = some k := by
  unfold jobKey at h
  split at h
  · exact nomatch h
  · exact h

theorem cmd_leavesReady (f : LmsRec → LmsRec) (hc : s.cmd? j = some c) (hk : jobKey s c.job = some k) (hid : k.lmsId = id)
    (hw : c.prog.wait = some .leaf) : (leavesReady id f s).cmd? j = some { c with prog := { c.prog with wait := none } } := by
  have hg (c : Cmd) : (leafGoesOn id s c).job.id = c.job.id := by
    unfold leafGoesOn
    split
    · rfl
    · rfl
  rw [cmd_map hg rfl, hc, Option.map_some, leafGoesOn, if_pos (by simp [hw, keyOf_of_jobKey hk, hid])]

theorem exec_lmsReservationComplete_raises (h : (s.vault.lms.find? fun x => x.id == id) = some l) (hr : l.raising = true) :
    exec (.lmsReservationComplete id) s = .next (leavesReady id (fun x => { x with rl := x.rl + x.b, raising := false }) s) := by
  change execLmsReservationComplete id s = _
  simp only [execLmsReservationComplete, h, hr, Bool.not_true, Bool.false_eq_true, if_false]
  rfl

theorem exec_lmsReservationComplete_idle (h : (s.vault.lms.find? fun x => x.id == id) = some l) (hr : l.raising = false) :
    exec (.lmsReservationComplete id) s = .next s := by
  change execLmsReservationComplete id s = _
  simp only [execLmsReservationComplete, h, hr, Bool.not_false, if_true]

end Ready

/-- Settles O18: with its key at hand a signing asks for a leaf, and the record of its key says which answer it has; what raises a limit
or readies a tree changes that record and ends the waits on it. -/
theorem statefulSigning : Obligations.StatefulSigning := by
  unfold Obligations.StatefulSigning
  refine fun s j c k l sk pub => ⟨fun hw hkey hhere hl hu hcom hp => ?signing, fun hl => ⟨fun hr => ?raised, fun hr => ?idle, ?ready⟩⟩
  case signing =>
    obtain rfl : c.job.id = j := cmd_id hw.1
    obtain ⟨s1, hk, hlms, hasks⟩ := lmsSign_asks hw hkey hhere hl hu hp
    have hid : l.id = k.lmsId := by simpa using List.find?_some hl
    obtain ⟨d, hd, hdj⟩ := hk
    have hfind : (s1.vault.lms.find? fun x => x.id == l.id) = some l := by rw [hlms, hid]; exact hl
    refine ⟨fun hq hrl htree => ?takes, fun hq hrl => ?waits, fun hq => ?exhausted⟩
    case takes =>
      obtain ⟨t, m, e, htake, hm, hmq, hmrl, he, hej, hecom⟩ := takeLeaf_takes hcom hq hrl htree hfind hd
      rw [htake] at hasks
      obtain ⟨hsigned, htlms, htcom⟩ := signed_of_leaf hw he (hej.trans hdj) hasks
      refine ⟨_, m, rfl, ?_, hmq, hmrl, fun x hx => (htcom x hx).trans hecom, hsigned⟩
      rw [State.lmsOf, htlms, ← hid]
      exact hm
    case waits =>
      rw [takeLeaf_limited hcom hq hrl] at hasks
      obtain ⟨hc, hop, hat, hheld, hrep⟩ := hw
      obtain ⟨m, hm, hmq, -⟩ := find_raiseIfDue (s := s1.modProg c.job.id fun p => { p with wait := some .leaf }) hfind
      have hwait := cmd_modProg (fun p => { p with wait := some .leaf }) hd
      rw [← cmd_congr (raiseIfDue_cmds l.id _)] at hwait
      refine ⟨_, m, _, congrArg Host.Outcome.next (runVerb_of_wait hc hop hat hheld hrep hasks), ?_, hmq, hwait, rfl⟩
      rw [State.lmsOf, ← hid]
      exact hm
    case exhausted =>
      rw [takeLeaf_exhausted hcom hq] at hasks
      refine ⟨_, rfl, ?_, ended_of_body hw hasks ⟨d, hd, hdj⟩⟩
      rw [State.lmsOf, runVerb_lms hw hasks, hlms]
      exact hl
  case raised =>
    exact ⟨_, exec_lmsReservationComplete_raises hl hr,
      find_modLms (f := fun x => { x with rl := x.rl + x.b, raising := false }) (fun _ => rfl) hl, cmd_leavesReady _⟩
  case idle => exact exec_lmsReservationComplete_idle hl hr
  case ready =>
    exact ⟨leavesReady l.id (fun x => { x with treeReady := true }) s, rfl,
      find_modLms (f := fun x => { x with treeReady := true }) (fun _ => rfl) hl, cmd_leavesReady _⟩

end Sys2Proof.Machine
end
section
/-! PROOFS. RSA on a number cell (O19): what a job's first steps leave of the record of its key, how a number-cell job comes to its
computation and ends, and the RSA verbs. -/

namespace Sys2Proof.Machine
open Safety

/-! ### What the use of a key leaves of its record (R131, R544) -/

/-- A key record but for its counter and the mark of its pin. -/
def KeyRec.settled (k : KeyRec) : KeyRec := { k with usage := 0, spent := false, pinAt := 0 }

/-- Each job names the same key, whose counter and pin alone may have changed. -/
def SameKeys (s t : State) : Prop := ∀ b, (jobKey t b).map KeyRec.settled = (jobKey s b).map KeyRec.settled

section Records
variable {s t u : State} {c : Cmd} {n lim : Nat} {sk pub : List Byte} {k l : KeyRec}

theorem KeyRec.settled_fields (h : l.settled = k.settled) : (l.inst = k.inst ∧ l.idx = k.idx ∧ l.cls = k.cls ∧ l.dead = k.dead ∧
    l.keep = k.keep) ∧ l.keyId = k.keyId ∧ l.size = k.size := by
  simp only [KeyRec.settled, KeyRec.mk.injEq] at h
  simp only [h, and_self]

theorem SameKeys.of_vault (h : t.vault = s.vault) : SameKeys s t := fun b => by
  simp only [jobKey, State.keyOf, h]

theorem SameKeys.trans (h : SameKeys s t) (k : SameKeys t u) : SameKeys s u := fun b => (k b).trans (h b)

theorem SameKeys.jobKey_none (h : SameKeys s t) {b : Job} (hb : jobKey s b = none) : jobKey t b = none := by
  have h := h b
  rw [hb] at h
  exact Option.map_eq_none_iff.mp h

theorem SameKeys.jobKey_some (h : SameKeys s t) {b : Job} (hb : jobKey s b = some k) :
    ∃ l, jobKey t b = some l ∧ l.settled = k.settled := by
  have h := h b
  rw [hb] at h
  exact Option.map_eq_some_iff.mp h

theorem SameKeys.rsaSize (h : SameKeys s t) (b : Job) : rsaSize t b = rsaSize s b := by
  unfold Machine.rsaSize
  cases hb : jobKey s b with
  | none => rw [h.jobKey_none hb]
  | some k =>
    obtain ⟨l, hl, hlk⟩ := h.jobKey_some hb
    obtain ⟨-, -, hsize⟩ := KeyRec.settled_fields hlk
    rw [hl]
    exact hsize

theorem modKey_sameKeys (h : U32) (f : KeyRec → KeyRec) (hf : ∀ k, (f k).settled = k.settled) : SameKeys s (s.modKey h f) := fun b => by
  have hsame (k : KeyRec) : (if k.handle = h then f k else k).settled = k.settled := by
    split
    · exact hf k
    · rfl
  rw [jobKey_modKey h b f fun k => (KeyRec.settled_fields (hf k)).1]
  cases jobKey s b with
  | none => rfl
  | some k => exact congrArg some (hsame k)

/-- Counting a use changes the record's counter alone (R544). -/
theorem useKey_sameKeys (c : Cmd) (n lim : Nat) (s : State) : SameKeys s (useKey c n lim s).2 := by
  have counted (k : KeyRec) : SameKeys s (countUse c k n lim s).2 := by
    unfold countUse
    split
    · exact .of_vault rfl
    · split
      · exact .of_vault rfl
      · split
        · exact modKey_sameKeys _ _ fun _ => rfl
        · exact (modKey_sameKeys k.handle (fun k => { k with usage := k.usage + n }) fun _ => rfl).trans (.of_vault rfl)
  unfold useKey
  split
  · exact .of_vault rfl
  · dsimp only
    split
    · exact counted _
    · split
      · exact counted _
      · exact .of_vault rfl

theorem useKey_cust (c : Cmd) (n lim : Nat) (s : State) : (useKey c n lim s).2.cust = s.cust := by
  simp only [useKey, countUse]
  repeat' split
  all_goals rfl

/-- A key's first use in a region changes the mark of its pin alone (R131). -/
theorem repin_sameKeys (r : Nat) (k : KeyRec) (s : State) : SameKeys s (repin r k s) := by
  have marked : SameKeys s (s.modKey k.handle fun x => { x with pinAt := r }) := modKey_sameKeys _ _ fun _ => rfl
  unfold repin
  split
  · exact .of_vault rfl
  · dsimp only
    split
    · exact marked.trans (.of_vault rfl)
    · exact marked.trans (.of_vault (by rw [(fillCryst_same r _ _).1]))

theorem withKey_sameKeys (h : KeyHere c sk pub s) {s1 : State} (hrun : ∀ k, withKey c s k = k sk pub s1) : SameKeys s s1 := by
  have hrun := hrun fun _ _ t => (t, none)
  rcases h with ⟨hk, -, -⟩ | ⟨k, e, hk, he, -, -⟩
  · simp only [withKey, hk] at hrun
    exact .of_vault (congrArg (fun x => x.1.vault) hrun.symm)
  · simp only [withKey, hk, needKey, he] at hrun
    rw [← (Prod.mk.inj hrun).1]
    exact (repin_sameKeys _ k s).trans (.of_vault rfl)

/-- The slot quota of a job reads the sizes of its key and of its pan's slots, and nothing that counting a use changes (R202). -/
theorem slotQuota_of_sameKeys (h : SameKeys s t) (hr : t.regions = s.regions) (hi : t.insts = s.insts) (hc : t.cust = s.cust) :
    slotQuota t c = slotQuota s c := by
  have hneed : slotNeed t c.job = slotNeed s c.job := by simp only [slotNeed, h.rsaSize, State.routine?, hc]
  have hbytes (p : Nat) : slotBytes t c.rgn p c.job = slotBytes s c.rgn p c.job := by
    simp only [slotBytes, hneed, State.slotLen, State.pan, State.region, hr]
  have hinst : t.inst c.job.inst = s.inst c.job.inst := by rw [State.inst, State.inst, hi]
  rw [slotQuota, slotQuota, hneed, hbytes, hinst]

end Records

/-! ### How a job comes to its computation (R214, R319) -/

/-- The figure of R225 goes to a computation that answers a result. -/
def timedBy (nj : Option Nat) (x : State × Option Res) : State × Option Res := (x.1, x.2.map (Res.timed nj))

section AtHand
variable {s : State} {op j use : Nat} {c : Cmd} {cls : List Nat} {sk pub : List Byte}

theorem withDraw_here {n k : Nat} (h : RandomHere c n s) (hc : Keeps c s) :
    ∃ (s1 : State) (d : List Byte), d.length = n + k ∧ Keeps c s1 ∧ ∀ f, withDraw n k c s f = f d s1 := by
  obtain ⟨s1, b, hb, hrun, hk, -⟩ := withRandom_here h hc
  exact ⟨(drawBytes k s1).2, b ++ (drawBytes k s1).1, by simp [hb, drawBytes, fit_length], hk.of_cmds rfl, fun f => hrun _⟩

section Counted
variable (hw : AtWork op j c s) (hu : KeyUsable c 1 (keyLimit s c.job) s) (hq : Passes [slotQuota s c])
  (hp : Passes (numChecks s c.job cls use))
include hw hu hq hp

/-- A job whose checks pass, whose use can be counted and whose slots are within its quota goes on, and what it had at hand stays so. -/
theorem numRun_goesOn : ∃ (s1 : State) (nj : Option Nat), Keeps c s1 ∧ SameKeys s s1 ∧ s1.regions = s.regions ∧
    (∀ sk pub, KeyHere c sk pub s → KeyHere c sk pub s1) ∧ (∀ n, RandomHere c n s → RandomHere c n s1) ∧
    ∀ f, numRun c cls use (drawEnergy s).2 f = timedBy nj (f s1) := by
  obtain ⟨s1, hcount, hc1, hreg, hinst, -, -, -, hkey, hrand⟩ := countThen_usable (s := (drawEnergy s).2) hu (keeps_drawEnergy hw)
  have hs1 := useKey_of_goesOn hcount
  have hsame : SameKeys s s1 := hs1 ▸ useKey_sameKeys c 1 (keyLimit s c.job) (drawEnergy s).2
  have hcust : s1.cust = s.cust := hs1 ▸ useKey_cust c 1 (keyLimit s c.job) (drawEnergy s).2
  refine ⟨(drawNat s1).2, numNj s1 c (drawNat s1).1, hc1.drawNat, hsame, hreg, hkey, hrand, fun f => ?_⟩
  have hquota : Passes [slotQuota s1 c] := by rw [slotQuota_of_sameKeys hsame hreg hinst hcust]; exact hq
  unfold numRun
  refine (orBad_passes hp _).trans ((hcount _).trans ((orBad_passes hquota _).trans ?_))
  dsimp only
  match f (drawNat s1).2 with
  | (t, some r) => rfl
  | (t, none) => rfl

variable (hkey : KeyHere c sk pub s)
include hkey

/-- The same for a job that goes on with its key. -/
theorem numRun_keyed : ∃ (s1 : State) (nj : Option Nat), Keeps c s1 ∧ SameKeys s s1 ∧ (∀ n, RandomHere c n s → RandomHere c n s1) ∧
    ∀ k, (numRun c cls use (drawEnergy s).2 fun s => withKey c s k) = timedBy nj (k sk pub s1) := by
  obtain ⟨s1, nj, hc1, hsame, -, hkey1, hrand1, hrun⟩ := numRun_goesOn hw hu hq hp
  obtain ⟨s2, hshelf, hc2, -, -, -, -, -, hrand2⟩ := withKey_here (hkey1 sk pub hkey) hc1
  exact ⟨s2, nj, hc2, hsame.trans (withKey_sameKeys (hkey1 sk pub hkey) hshelf), fun n h => hrand2 n (hrand1 n h),
    fun k => by rw [hrun, hshelf]⟩

/-- The same for a job that draws `n` bytes of its region and `k` more. -/
theorem numRun_keyed_drawn {n : Nat} (k : Nat) (hn : RandomHere c n s) :
    ∃ (s1 : State) (nj : Option Nat) (d : List Byte), Keeps c s1 ∧ d.length = n + k ∧
      ∀ f : List Byte → List Byte → List Byte → State → State × Option Res, (numRun c cls use (drawEnergy s).2 fun s =>
      withKey c s fun sk pub s => withDraw n k c s fun d s => f sk pub d s) = timedBy nj (f sk pub d s1) := by
  obtain ⟨s1, nj, hc1, -, hrand, hrun⟩ := numRun_keyed hw hu hq hp hkey
  obtain ⟨s2, d, hd, hc2, hdraw⟩ := withDraw_here (k := k) (hrand n hn) hc1
  exact ⟨s2, nj, d, hc2, hd, fun f => by rw [hrun, hdraw]⟩

end Counted

end AtHand

/-! ### How a job ends (R124, R208, R225) -/

section Ends
variable {s s1 s2 : State} {op j : Nat} {c : Cmd} {body : Cmd → State → State × Option Res} {r bad : Res} {nj x : Option Nat}
  {sig sk pub : List Byte}

theorem Res.timed_eq (nj : Option Nat) (r : Res) : ∃ x, r.timed nj = r.withNj x := by
  unfold Res.timed
  split
  · exact ⟨nj, rfl⟩
  · exact ⟨r.nj, rfl⟩

/-- A computation that answers a result ends its job with it, whatever its time. -/
theorem ended_timed (hw : AtWork op j c s) (hb : body c (drawEnergy s).2 = timedBy nj (s1, some r)) (hk : Keeps c s1) :
    Ended j c r (runVerb op j body s) := by
  obtain ⟨y, hy⟩ := r.timed_eq nj
  exact ended_withNj (nj := y) hw (hb.trans (congrArg (fun r => (s1, some r)) hy)) hk

/-- The same for a computation that first judges its input. -/
theorem ended_timed_ite {p : Prop} [Decidable p] (hw : AtWork op j c s)
    (hb : body c (drawEnergy s).2 = timedBy nj (if p then (s1, some bad) else (s2, some r))) (h1 : Keeps c s1) (h2 : Keeps c s2) :
    Ended j c (if p then bad else r) (runVerb op j body s) := by
  by_cases hp : p
  · rw [if_pos hp] at hb ⊢
    exact ended_timed hw hb h1
  · rw [if_neg hp] at hb ⊢
    exact ended_timed hw hb h2

/-- A signature has its time at its check, and one with no room for its outputs has none (R208, R225). -/
theorem timedBy_releaseSig : timedBy nj (releaseSig c x sig s) = releaseSig c x sig s := by
  unfold releaseSig outsTo
  split
  · rfl
  · rfl

/-- The end of a signing verb: with its key and random bytes at hand its signature goes to its release check. What it draws and what it
signs may turn on the size of its key. -/
theorem signed_num (hw : AtWork op j c s) (hu : KeyUsable c 1 (keyLimit s c.job) s) (hkey : KeyHere c sk pub s)
    (hq : Passes [slotQuota s c]) (hp : Passes (numChecks s c.job [0] 0)) (n : Nat → Nat) (sig : Nat → List Byte → List Byte → List Byte)
    (hr : RandomHere c (n (rsaSize s c.job)) s)
    (hb : body c (drawEnergy s).2 = numRun c [0] 0 (drawEnergy s).2 fun s => withKey c s fun sk _ s =>
      withRandom (n (rsaSize s c.job)) c s fun d s => releaseNum c (sig (rsaSize s c.job) sk d) s) :
    ∃ d : List Byte, d.length = n (rsaSize s c.job) ∧
      Signed j c (outsTo c.job (signOuts c.job (sig (rsaSize s c.job) sk d))) (runVerb op j body s) := by
  obtain ⟨s1, nj, hc1, hsame, hrand, hrun⟩ := numRun_keyed hw hu hq hp hkey
  obtain ⟨s2, d, hd, hdraw, hc2, -, -, hvault, -⟩ := withRandom_here (hrand _ hr) hc1
  have hsize : rsaSize s2 c.job = rsaSize s c.job := (hsame.trans (.of_vault hvault)).rsaSize c.job
  have hsigns : body c (drawEnergy s).2 = timedBy nj (releaseNum c (sig (rsaSize s c.job) sk d) s2) := by
    rw [hb, hrun, hsame.rsaSize, hdraw, hsize]
  exact ⟨d, hd, signed_of_body hw (hsigns.trans timedBy_releaseSig) hc2.drawNat⟩

end Ends

/-! ### RSA decryption (R214, R216) -/

/-- What an RSA decryption reads. -/
def rsaInput (b : Job) (sk : List Byte) : List (List Byte) := [sk, le 1 b.alg, le 1 b.phFunc, b.ctx, b.operand 0]

/-- What an RSA decryption under a modulus of `n` bytes recovers: the encapsulated secret, or the message. -/
def rsaRecovered (n : Nat) (b : Job) (sk : List Byte) : List Byte :=
  if b.alg = 0x84 then stdN n "RSASVE recover" (rsaInput b sk)
  else (Config.std "RSAES-OAEP decrypt" (rsaInput b sk)).take (n - 2 * phLen b.phFunc - 2)

/-- An RSA decryption judges its input, then whether the message it recovered can be wrapped, and then gives out `out`. -/
def rsaVerdict (n : Nat) (b : Job) (sk out : List Byte) : Res :=
  if !Config.stdOk "RSA decryption decodes" (rsaInput b sk) then stRes .decodeFail
  else if b.pbit 14 && b.alg == 0x83 && !([16, 24, 32, 48, 64].contains (rsaRecovered n b sk).length) then stRes .paramUnsupported
  else outsTo b [(2, out)]

section Decryption
variable {n : Nat} {b : Job} {sk out : List Byte}

theorem rsaRecovered_secret (h : b.alg = 0x84) : rsaRecovered n b sk = stdN n "RSASVE recover" (rsaInput b sk) := if_pos h

theorem rsaRecovered_message (h : b.alg = 0x83) :
    rsaRecovered n b sk = (Config.std "RSAES-OAEP decrypt" (rsaInput b sk)).take (n - 2 * phLen b.phFunc - 2) :=
  if_neg (by rw [h]; decide)

theorem rsaVerdict_bad (h : Config.stdOk "RSA decryption decodes" (rsaInput b sk) = false) : rsaVerdict n b sk out = stRes .decodeFail :=
  if_pos (by rw [h]; rfl)

theorem rsaVerdict_secret (h : Config.stdOk "RSA decryption decodes" (rsaInput b sk) = true) (ha : b.alg = 0x84) :
    rsaVerdict n b sk out = outsTo b [(2, out)] := by
  simp [rsaVerdict, h, ha]

theorem rsaVerdict_message (h : Config.stdOk "RSA decryption decodes" (rsaInput b sk) = true) (ha : b.alg = 0x83) :
    rsaVerdict n b sk out = if b.pbit 14 = true ∧ (rsaRecovered n b sk).length ∉ [16, 24, 32, 48, 64] then stRes .paramUnsupported
      else outsTo b [(2, out)] := by
  simp [rsaVerdict, h, ha]

end Decryption

/-- A decryption with its key and its blinding bytes at hand ends as its verdict says. -/
theorem rsaDecrypt_ended {s : State} {j : Nat} {c : Cmd} {sk pub : List Byte} (hw : AtWork 0x0306 j c s)
    (hu : KeyUsable c 1 (keyLimit s c.job) s) (hkey : KeyHere c sk pub s) (hq : Passes [slotQuota s c])
    (hp : Passes (numChecks s c.job [0] 6)) (hr : RandomHere c (16 + rsaSize s c.job / 8) s) :
    ∃ out, SharedOut c.job out (rsaRecovered (rsaSize s c.job / 8) c.job sk) ∧
      Ended j c (rsaVerdict (rsaSize s c.job / 8) c.job sk out) (runVerb 0x0306 j rsaDecrypt s) := by
  obtain ⟨s1, nj, hk1, -, hrand, hrun⟩ := numRun_keyed hw hu hq hp hkey
  obtain ⟨s2, d, -, hdraw, hk, -⟩ := withRandom_here (hrand _ hr) hk1
  refine ⟨_, sharedOut_spec _ c.job.inst (jobKey s2 c.job) _ s2, ?_⟩
  unfold rsaVerdict
  split
  next hbad => exact ended_timed hw ((hrun _).trans (congrArg (timedBy nj) ((hdraw _).trans (if_pos hbad)))) hk
  next hok => exact ended_timed_ite hw ((hrun _).trans (congrArg (timedBy nj) ((hdraw _).trans (if_neg hok)))) hk hk.sharedOut

/-- Settles O19: each verb comes to its computation with its key and what it draws, and the computation answers the outputs of its
standard's functions; a decryption judges its input first. -/
theorem rsaOperations : Obligations.RsaOperations := by
  unfold Obligations.RsaOperations
  intro s j c sk pub a n pk input hu hkey hq
  refine ⟨fun hw hp => ?encrypt, fun hw hp hr => ?decrypt, fun hw hp hr => ?sign, fun hw hp => ?verify⟩
  case encrypt =>
    obtain ⟨s1, nj, d, hk, hlen, hrun⟩ := numRun_keyed_drawn hw hu hq hp hkey (if c.job.alg == 0x84 then n else phLen c.job.phFunc)
      (Or.inl (Nat.zero_le _))
    refine ⟨fun ha => ?encapsulates, fun ha => ?encrypts⟩
    case encapsulates =>
      have hsve : (c.job.alg == 0x84) = true := beq_iff_eq.mpr ha
      rw [if_pos hsve] at hlen
      exact ⟨_, d, _, rfl, hlen.trans (Nat.zero_add n), sharedOut_spec _ _ _ _ _,
        ended_timed hw ((hrun _).trans (congrArg (timedBy nj) (if_pos hsve))) hk.sharedOut⟩
    case encrypts =>
      have hoaep : ¬ (c.job.alg == 0x84) = true := by rw [show c.job.alg = 0x83 from ha]; decide
      rw [if_neg hoaep] at hlen
      exact ⟨_, d, rfl, hlen.trans (Nat.zero_add _), ended_timed hw ((hrun _).trans (congrArg (timedBy nj) (if_neg hoaep))) hk⟩
  case decrypt =>
    obtain ⟨out, hout, hend⟩ := rsaDecrypt_ended hw hu hkey hq hp hr
    refine ⟨fun hbad => ⟨_, rfl, rsaVerdict_bad hbad ▸ hend⟩, fun hok ha => ⟨_, out, rfl, ?recovered⟩,
      fun hok ha => ⟨_, out, rfl, ?decrypted⟩⟩
    case recovered => exact ⟨rsaRecovered_secret (n := n) (sk := sk) ha ▸ hout, rsaVerdict_secret hok ha ▸ hend⟩
    case decrypted =>
      rw [rsaVerdict_message hok ha, rsaRecovered_message ha] at hend
      exact ⟨rsaRecovered_message (n := n) (sk := sk) ha ▸ hout, hend⟩
  case sign =>
    obtain ⟨d, hd, hsigned⟩ := signed_num (body := rsaSign) hw hu hkey hq hp (fun m => 16 + m / 8 + saltBytes c.job)
      (fun m sk d => stdN (m / 8) "RSA sign" ([le 1 c.job.alg, sk, d.take (saltBytes c.job)] ++ numMessage c.job)) hr rfl
    exact ⟨_, d.take (saltBytes c.job), rfl, by simp [hd], hsigned⟩
  case verify =>
    obtain ⟨s1, nj, hk, -, -, hrun⟩ := numRun_keyed hw hu hq hp hkey
    exact ⟨_, rfl, ended_timed hw (hrun _) hk⟩

end Sys2Proof.Machine
end
section
/-! PROOFS. Elliptic curves, code-based schemes and operand slots (O20): the public key that a Classic McEliece encapsulation works with,
the verbs, and the slot registers. -/

namespace Sys2Proof.Machine
open Safety

/-! ### The code-based schemes (R220, R221, R223, R224) -/

section Codes
variable {s : State} {j : Nat} {c : Cmd} {k : KeyRec} {p : Pin} {pk : List Byte}

/-- The key that an encapsulation works with: that of operand 3, whose fragments have been read, or that of its key's pin place. -/
def McePublic (s : State) (c : Cmd) (pk : List Byte) : Prop :=
  (jobKey s c.job = none ∧ pk = c.job.operand 3 ∧ ∀ i ∈ c.job.streamed, (tfind c.job.parts i).isSome = true) ∨
    ∃ k p, jobKey s c.job = some k ∧ pinOf s c.rgn k = some p ∧ pk = p.pub

theorem withStream_read (h : ∀ i ∈ c.job.streamed, (tfind c.job.parts i).isSome = true) (f : List Byte → State → State × Option Res) :
    withStream c s f = f (c.job.operand 3) s := by
  have hdue : (c.job.streamed.filter fun i => (tfind c.job.parts i).isNone) = [] :=
    List.filter_eq_nil_iff.mpr fun i hi => by simpa [Option.isSome_iff_ne_none] using h i hi
  unfold withStream
  rw [hdue]
  rfl

/-- A pin is found by whose key it is and by the key's number. -/
theorem pinOf_congr {t : State} {l : KeyRec} {r : Nat} (hr : t.regions = s.regions) (hi : l.inst = k.inst) (hn : l.keyId = k.keyId) :
    pinOf t r l = pinOf s r k := by
  have hof (p : Pin) : p.of l = p.of k := by rw [Pin.of, Pin.of, hi, hn]
  simp only [pinOf, State.region, hr, hof]

/-- A job whose key is pinned in its region goes on with the pinned key, in its new home (R21, R220). -/
theorem mceKey_pinned (h : pinOf s c.rgn k = some p) (hc : Keeps c s) :
    ∃ s1, Keeps c s1 ∧ ∀ f, mceKey c k s f = f false p.pub s1 := by
  by_cases hk : k.home = c.rgn
  · exact ⟨s, hc, fun f => by simp only [mceKey, rehome, if_pos hk, h]⟩
  · refine ⟨s.modKey k.handle fun k => { k with home := c.rgn }, hc.of_cmds rfl, fun f => ?_⟩
    have hpin : pinOf (s.modKey k.handle fun k => { k with home := c.rgn }) c.rgn { k with home := c.rgn } = some p :=
      (pinOf_congr rfl rfl rfl).trans h
    simp only [mceKey, rehome, if_neg hk, hpin]

/-- The energy of a result is no part of how its command ends. -/
theorem ended_of_withNj {t : State} {r : Res} {nj : Option Nat} (h : Ended j c (r.withNj nj) t) : Ended j c r t := h

theorem mceEncaps_ended (hw : AtWork 0x0308 j c s) (hu : KeyUsable c 1 (keyLimit s c.job) s) (hq : Passes [slotQuota s c])
    (hp : Passes (numChecks s c.job [0, 1] 2)) (hpk : McePublic s c pk) :
    ∃ d out : List Byte, d.length = 32 ∧
      SharedOut c.job out (stdN (sharedLen c.job.alg) "Classic McEliece encapsulation key" [le 1 c.job.alg, pk, d]) ∧
      Ended j c (outsTo c.job [(1, stdN (sigLen c.job.alg) "Classic McEliece ciphertext" [le 1 c.job.alg, pk, d]), (2, out)])
        (runVerb 0x0308 j mceEncaps s) := by
  obtain ⟨s1, nj, hc1, hsame, hreg, -, -, hrun⟩ := numRun_goesOn hw hu hq hp
  have hb := (mceEncaps.eq_1 c _).trans (hrun _)
  obtain ⟨hkey, rfl, hread⟩ | ⟨k, p, hkey, hpin, rfl⟩ := hpk
  case inl =>
    obtain ⟨s2, d, hd, hc2, hdraw⟩ := withDraw_here (n := 0) (k := 32) (Or.inl (Nat.zero_le _)) hc1
    simp only [hsame.jobKey_none hkey, withStream_read hread, hdraw] at hb
    exact ⟨d, _, hd, sharedOut_spec _ _ _ _ _, ended_of_withNj (ended_timed hw hb hc2.sharedOut.drawNat)⟩
  case inr =>
    obtain ⟨l, hl, hlk⟩ := hsame.jobKey_some hkey
    obtain ⟨⟨hinst, -⟩, hnum, -⟩ := KeyRec.settled_fields hlk
    obtain ⟨s2, hc2, hmce⟩ := mceKey_pinned ((pinOf_congr hreg hinst hnum).trans hpin) hc1
    obtain ⟨s3, d, hd, hc3, hdraw⟩ := withDraw_here (n := 0) (k := 32) (Or.inl (Nat.zero_le _)) hc2
    simp only [hl, hmce, hdraw] at hb
    exact ⟨d, _, hd, sharedOut_spec _ _ _ _ _, ended_of_withNj (ended_timed hw hb hc3.sharedOut.drawNat)⟩

/-- A decapsulation of either scheme comes to its computation with its key, and always gives out a secret (R223, R224). -/
theorem codeDecaps_ended {op : Nat} {sk pub : List Byte} (f : String) (hw : AtWork op j c s) (hu : KeyUsable c 1 (keyLimit s c.job) s)
    (hkey : KeyHere c sk pub s) (hq : Passes [slotQuota s c]) (hp : Passes (numChecks s c.job [0] 3)) :
    ∃ out, SharedOut c.job out (stdN (sharedLen c.job.alg) f [le 1 c.job.alg, sk, c.job.operand 0]) ∧
      Ended j c (outsTo c.job [(2, out)]) (runVerb op j (codeDecaps f) s) := by
  obtain ⟨s1, nj, hk, -, -, hrun⟩ := numRun_keyed hw hu hq hp hkey
  exact ⟨_, sharedOut_spec _ _ _ _ _, ended_timed hw (hrun _) hk.sharedOut⟩

end Codes

/-! ### Slot registers (R201, R230) -/

section Slots
variable {s : State} {r p v o n : Nat}

theorem exec_slotLenWrite (h : Reached 0 s) : exec (.slotLenWrite r p v) s = .next (slotLenWriteAt r p v s) :=
  congrArg Host.Outcome.next (gated_open s 0 _ h.1 h.2)

theorem slotLenWriteAt_legal (he : s.enabled r = true) (hp : p < 4) (h : 4 ≤ v % 128) (h' : v % 128 ≤ 64) :
    slotLenWriteAt r p v s = s.modPan r p fun x => { x with slots := { x.slots with next := some (v % 128) } } :=
  if_pos (by simp [he, hp, h, h'])

theorem slotLenWriteAt_reserved (h : v % 128 < 4 ∨ 64 < v % 128) : slotLenWriteAt r p v s = s := by
  refine if_neg ?_
  simp only [Bool.and_eq_true, decide_eq_true_eq]
  omega

theorem applySlotLen_empty (hn : (s.pan r p).slots.next = some n) (h : s.operandHeld r p = []) :
    applySlotLen r p s = s.modPan r p fun x => { x with slots := { x.slots with len64 := n, next := none } } := by
  simp [applySlotLen, hn, h]

theorem applySlotLen_held (h : s.operandHeld r p ≠ []) : applySlotLen r p s = s := by
  unfold applySlotLen
  split
  · exact if_neg (by simpa using h)
  · rfl

theorem exec_slotInspectRead (h : Reached 0 s) : exec (.slotInspectRead r o) s = .next (slotInspectReadAt r o s) :=
  congrArg Host.Outcome.next (gatedRead_open s 0 _ h.1 h.2)

theorem slotInspectReadAt_reads (he : s.enabled r = true) (ho : o < 4096) :
    (slotInspectReadAt r o s).out = s.out ++ [.value 0] ∧
      ((slotInspectReadAt r o s).region r).num.inspectDenied =
        ((s.region r).num.inspectDenied || slotHeld s r (s.region r).num.inspectSel) := by
  have hopen : ¬ (!s.enabled r || decide (4096 ≤ o)) = true := by simp [he, ho]
  rw [slotInspectReadAt, if_neg hopen]
  split
  next hheld =>
    rw [hheld, Bool.or_true]
    have hemit (t : State) : (emit (.value 0) t).region r = t.region r := rfl
    exact ⟨rfl, by rw [hemit, State.region_modRegion_self]⟩
  next hfree =>
    rw [Bool.eq_false_iff.mpr hfree, Bool.or_false]
    exact ⟨rfl, rfl⟩

end Slots

/-- Settles O20: each verb comes to its computation with its key and what it draws, and a public key is judged before it is used; an
operand slot register changes as its value and the slots in use say. -/
theorem curvesAndCodes : Obligations.CurvesAndCodes := by
  unfold Obligations.CurvesAndCodes
  refine ⟨?curves, ?codes, fun s r p v o => ⟨fun hr he hp => ⟨fun h h' => ?legal, fun h => ?reserved⟩,
    fun n hn => ⟨fun h => ?applies, fun h => ?waits⟩, fun hr he ho => ⟨_, exec_slotInspectRead hr, slotInspectReadAt_reads he ho⟩⟩⟩
  case curves =>
    intro s j c sk pub a f pk hu hkey hq
    refine ⟨fun hp => ⟨fun hw hr => ?ecdsaSign, fun hw hr => ?eddsaSign⟩,
      fun hp => ⟨fun hw => ?ecdsaVerify, fun hw => ?eddsaVerify⟩, fun hw hp hr => ?ecdh⟩
    case ecdsaSign =>
      obtain ⟨d, -, hsigned⟩ := signed_num (body := ecdsaSign) hw hu hkey hq hp
        (fun _ => (if c.job.pbit 10 then 0 else f + 8) + (8 + f))
        (fun _ sk d => stdN (sigLen a) "ECDSA sign" ([le 1 a, sk, if c.job.pbit 10 then [] else d] ++ numMessage c.job)) hr rfl
      exact ⟨_, if c.job.pbit 10 then [] else d, rfl, fun h => if_pos h, hsigned⟩
    case eddsaSign =>
      obtain ⟨-, -, hsigned⟩ := signed_num (body := eddsaSign) hw hu hkey hq hp (fun _ => 8 + pubLen a)
        (fun _ sk _ => stdN (sigLen a) "EdDSA sign" ([le 1 a, sk] ++ eddsaInput c.job)) hr rfl
      exact ⟨_, rfl, hsigned⟩
    case ecdsaVerify =>
      obtain ⟨s1, nj, hk, -, -, hrun⟩ := numRun_keyed hw hu hq hp hkey
      exact ⟨_, rfl, ended_timed_ite hw (hrun _) hk hk⟩
    case eddsaVerify =>
      obtain ⟨s1, nj, hk, -, -, hrun⟩ := numRun_keyed hw hu hq hp hkey
      exact ⟨_, rfl, ended_timed_ite hw (hrun _) hk hk⟩
    case ecdh =>
      obtain ⟨s1, nj, d, hk, -, hrun⟩ := numRun_keyed_drawn hw hu hq hp hkey (ecdhField a) hr
      exact ⟨_, if c.job.pbit 16 then d else sk, _, rfl, fun h => if_neg (by simp [h]), sharedOut_spec _ _ _ _ _,
        ended_timed_ite hw (hrun _) hk hk.sharedOut⟩
  case codes =>
    intro s j c sk pub pk a hu hq
    refine ⟨fun hp => ⟨fun hw hpk => ?mceEncaps, fun hw hkey => ?hqcEncaps⟩, fun hp hkey => ⟨fun hw => ?mceDecaps, fun hw => ?hqcDecaps⟩⟩
    case mceEncaps =>
      obtain ⟨d, out, hd, hout, hend⟩ := mceEncaps_ended hw hu hq hp hpk
      exact ⟨_, d, out, rfl, hd, hout, hend⟩
    case hqcEncaps =>
      obtain ⟨s1, nj, d, hk, hlen, hrun⟩ := numRun_keyed_drawn hw hu hq hp hkey 48 (Or.inl (Nat.zero_le _))
      exact ⟨_, d, _, rfl, hlen, sharedOut_spec _ _ _ _ _, ended_timed hw (hrun _) hk.sharedOut⟩
    case mceDecaps =>
      obtain ⟨out, hout, hend⟩ := codeDecaps_ended "Classic McEliece decapsulation" hw hu hkey hq hp
      exact ⟨_, out, rfl, hout, hend⟩
    case hqcDecaps =>
      obtain ⟨out, hout, hend⟩ := codeDecaps_ended "HQC decapsulation" hw hu hkey hq hp
      exact ⟨_, out, rfl, hout, hend⟩
  case legal =>
    refine ⟨_, exec_slotLenWrite hr, ?_⟩
    rw [slotLenWriteAt_legal he hp h h', State.pan_modPan_self]
    exact ⟨rfl, rfl⟩
  case reserved => rw [exec_slotLenWrite hr, slotLenWriteAt_reserved h]
  case applies =>
    refine ⟨_, congrArg Host.Outcome.next (applySlotLen_empty hn h), ?_⟩
    rw [State.pan_modPan_self]
    exact ⟨rfl, rfl⟩
  case waits => exact congrArg Host.Outcome.next (applySlotLen_held h)

end Sys2Proof.Machine
end

section
/-! PROOFS. The symmetric verbs (O21): the failed tags that a region has counted, and how a symmetric job comes to its computation. -/

namespace Sys2Proof.Machine
open Safety

/-! ### The count of failed tags (R248) -/

/-- The failed tags and integrity checks that region `r` has counted. -/
def tagFails (r : Nat) (s : State) : Nat := (s.region r).sym.tagFail

section Counts
variable {s t : State} {c : Cmd} {sk pub : List Byte} {r : Nat}

theorem tagFails_congr (h : t.regions = s.regions) : tagFails r t = tagFails r s := congrArg (·.sym.tagFail) (region_congr h r)

theorem tagFails_modRegion {f : Region → Region} (hf : ∀ g, (f g).sym.tagFail = g.sym.tagFail) (q : Nat) (s : State) :
    tagFails r (s.modRegion q f) = tagFails r s :=
  region_modRegion_keeps (p := (·.sym.tagFail)) hf q r s

theorem tagFails_modCell (q : Nat) (k : UnitKind) (n : Nat) (f : CellRec → CellRec) (s : State) :
    tagFails r (s.modRegion q fun g => g.modCell k n f) = tagFails r s := by
  refine tagFails_modRegion (fun g => ?_) q s
  unfold Region.modCell
  split
  · rfl
  · rfl

theorem tagFails_countJobOn (q : Nat) (k : UnitKind) (n : Nat) (s : State) : tagFails r (countJobOn q k n s) = tagFails r s := by
  unfold countJobOn
  split
  · exact tagFails_modCell q .lattice n _ s
  · exact tagFails_modCell q .number n _ s
  · refine tagFails_modRegion (fun g => ?_) q s
    dsimp only
    split
    · rfl
    · rfl
  · rfl

theorem tagFails_countJob (j : Nat) (s : State) : tagFails r (countJob j s) = tagFails r s := by
  unfold countJob
  split
  · rfl
  · split
    · dsimp only
      split
      · exact (tagFails_countJobOn _ _ _ _).trans (tagFails_countJobOn _ _ _ s)
      · exact tagFails_countJobOn _ _ _ s
    · rfl

theorem tagFails_freeSlots (j : Nat) (s : State) : tagFails r (freeSlots j s) = tagFails r s := by
  have wiped (q : Nat) (s : State) (u : UnitKind × Nat) : tagFails r (wipeLocal q u s) = tagFails r s := by
    unfold wipeLocal
    split
    · rfl
    · rfl
  unfold freeSlots
  split
  · rfl
  · dsimp only
    rw [foldl_keeps (tagFails r) _ fun s q => foldl_keeps (tagFails r) _ (wiped q) _ s]
    exact foldl_keeps (tagFails r) _ (fun s _ => tagFails_modRegion (fun _ => by rfl) _ s) _ s

theorem tagFails_takeWarm (q : Nat) (s : State) : tagFails r (takeWarm q s) = tagFails r s := by
  have kind (k : UnitKind) (i want : Nat) (s : State) : tagFails r (takeWarmKind q k i want s) = tagFails r s :=
    foldl_keeps (tagFails r) _ (fun s n => ite_keeps (tagFails r) (tagFails_modCell q k n _ s)
      (ite_keeps (tagFails r) (tagFails_modCell q k n _ s) rfl)) _ s
  exact ite_keeps (tagFails r) (foldl_keeps (tagFails r) _ (fun _ _ =>
    ite_keeps (tagFails r) ((kind _ _ _ _).trans (kind _ _ _ _)) rfl) _ s) rfl

theorem tagFails_settleUnits (s : State) : tagFails r (settleUnits s) = tagFails r s := by
  have shelf (s : State) : tagFails r (settleShelf s) = tagFails r s := by
    refine tget_map_keeps (·.sym.tagFail) ?_ region0 s.regions r
    exact fun _ => ⟨rfl, rfl⟩
  have cryst (s : State) : tagFails r (settleCryst s) = tagFails r s :=
    foldl_keeps (tagFails r) _ (fun s q => tagFails_modRegion (fun _ => by rfl) q s) _ s
  have pans (s : State) : tagFails r (restPans s) = tagFails r s :=
    foldl_keeps (tagFails r) _ (fun s q => foldl_keeps (tagFails r) _ (fun s _ =>
      ite_keeps (tagFails r) (tagFails_modRegion (fun _ => by rfl) q s) rfl) _ s) _ s
  exact (shelf _).trans ((cryst _).trans ((pans _).trans (foldl_keeps (tagFails r) _ (fun s q => tagFails_takeWarm q s) _ s)))

/-- A verb whose body answers a result leaves the count as its body left it. -/
theorem tagFails_runVerb {op j : Nat} {body : Cmd → State → State × Option Res} {x : Res} (hw : AtWork op j c s)
    (hb : body c (drawEnergy s).2 = (t, some x)) : tagFails r (runVerb op j body s) = tagFails r t := by
  obtain ⟨hc, hop, hat, hheld, hrep⟩ := hw
  rw [runVerb_of_body hc hop hat hheld hrep hb]
  exact (tagFails_settleUnits _).trans ((tagFails_freeSlots j _).trans (tagFails_countJob j _))

theorem tagFails_modProg (j : Nat) (f : Prog → Prog) (s : State) : tagFails r (s.modProg j f) = tagFails r s := rfl

theorem tagFails_toCell (e : ShelfKey) (order : Nat) (s : State) : tagFails r (e.toCell order s).2 = tagFails r s :=
  tagFails_congr (by rw [toCell_state])

theorem tagFails_repin (q : Nat) (k : KeyRec) (s : State) : tagFails r (repin q k s) = tagFails r s := by
  obtain ⟨_, -, hregions⟩ := repin_same q k s
  exact congrArg (·.sym.tagFail) (hregions r)

/-- A job that finds its key on the shelf has counted no tag by then. -/
theorem tagFails_withKey (h : KeyHere c sk pub s) (hrun : ∀ k, withKey c s k = k sk pub t) : tagFails r t = tagFails r s := by
  have hrun := hrun fun _ _ t => (t, none)
  rcases h with ⟨hk, -, -⟩ | ⟨k, e, hk, he, -, -⟩
  · simp only [withKey, hk] at hrun
    rw [← (Prod.mk.inj hrun).1]
  · simp only [withKey, hk, needKey, he] at hrun
    rw [← (Prod.mk.inj hrun).1, tagFails_toCell, tagFails_modProg, tagFails_modRegion fun _ => by rfl, tagFails_repin]

end Counts

/-! ### How a symmetric job comes to its computation (R239, R240, R247) -/

/-- The figure of R247 goes to a computation that answers a result. -/
def withFigure (nj : Option Nat) (x : State × Option Res) : State × Option Res := (x.1, x.2.map (Res.withNj nj))

/-- A failed tag or integrity check counts in the region of its job (R242). -/
def countTagFail (c : Cmd) (s : State) : State := s.modSym c.rgn fun y => { y with tagFail := inc32 y.tagFail }

/-- Command `j` has ended with ST_TAG_FAIL, and its region has counted it. -/
def TagFailed (j : Nat) (c : Cmd) (s t : State) : Prop :=
  Ended j c (stRes .tagFail) t ∧ tagFails c.rgn t = inc32 (tagFails c.rgn s)

section Runs
variable {s : State} {op j : Nat} {c : Cmd} {sk pub : List Byte} {body : Cmd → State → State × Option Res}

theorem tagFails_countTagFail : tagFails c.rgn (countTagFail c s) = inc32 (tagFails c.rgn s) := by
  unfold tagFails countTagFail State.modSym
  rw [State.region_modRegion_self]

variable (hw : AtWork op j c s) (hp : Passes (symChecks s c.job)) (hu : KeyUsable c (symCount c.job).1 (symLimit s c.job) s)
  (hkey : KeyHere c sk pub s)
include hw hp hu hkey

/-- A job whose checks pass, whose use can be counted and whose key is at hand comes to its computation with the key; its random bytes
stay at hand. -/
theorem symRun_keyed : ∃ (s1 : State) (nj : Option Nat), Keeps c s1 ∧ (∀ n, RandomHere c n s → RandomHere c n s1) ∧
    tagFails c.rgn s1 = tagFails c.rgn s ∧ ∀ f, symRun c (drawEnergy s).2 f = withFigure nj (f sk s1) := by
  obtain ⟨s1, hcount, hc1, hreg, -, -, -, -, hkey1, hrand1⟩ := countThen_usable (s := (drawEnergy s).2) hu (keeps_drawEnergy hw)
  obtain ⟨s2, hshelf, hc2, -, -, -, -, -, hrand2⟩ := withKey_here (hkey1 sk pub hkey) hc1
  refine ⟨s2, symEnergy s2 c, hc2, fun n h => hrand2 n (hrand1 n h),
    (tagFails_withKey (hkey1 sk pub hkey) hshelf).trans (tagFails_congr hreg), fun f => ?_⟩
  refine (orBad_passes hp _).trans ((hcount _).trans ((hshelf _).trans ?_))
  match f sk s2 with
  | (t, some r) => rfl
  | (t, none) => rfl

/-- A verb that computes an answer from its key ends with it. -/
theorem symAnswer_ended (out : List Byte → Res) (hb : body c (drawEnergy s).2 = symRun c (drawEnergy s).2 fun k s => (s, some (out k))) :
    Ended j c (out sk) (runVerb op j body s) := by
  obtain ⟨s1, nj, hk, -, -, hrun⟩ := symRun_keyed hw hp hu hkey
  exact ended_withNj hw (hb.trans (hrun _)) hk

/-- A verb that judges its input first gives its answer out only where the input verifies; elsewhere it fails and is counted. -/
theorem symJudged_ended (ok : List Byte → Bool) (out : List Byte → Res) (hb : body c (drawEnergy s).2 =
      symRun c (drawEnergy s).2 fun k s => if ok k then (s, some (out k)) else (countTagFail c s, some (stRes .tagFail))) :
    (ok sk = true → Ended j c (out sk) (runVerb op j body s)) ∧ (ok sk = false → TagFailed j c s (runVerb op j body s)) := by
  obtain ⟨s1, nj, hk, -, hcounted, hrun⟩ := symRun_keyed hw hp hu hkey
  have hjudged := hb.trans (hrun _)
  refine ⟨fun hok => ?verifies, fun hbad => ?fails⟩
  case verifies =>
    rw [if_pos hok] at hjudged
    exact ended_withNj hw hjudged hk
  case fails =>
    rw [if_neg (Bool.eq_false_iff.mp hbad)] at hjudged
    refine ⟨ended_withNj hw hjudged (hk.of_cmds rfl), ?_⟩
    calc tagFails c.rgn (runVerb op j body s)
      _ = tagFails c.rgn (countTagFail c s1) := tagFails_runVerb hw hjudged
      _ = inc32 (tagFails c.rgn s) := by rw [tagFails_countTagFail, hcounted]

end Runs

/-! ### What the verbs compute (R235, R238, R241, R242, R243) -/

/-- What an AEAD mode reads under the key `k` and the nonce `n`. -/
def aeadInput (b : Job) (k n : List Byte) : List (List Byte) := [le 1 b.mode, k, segNonce b n, aad b, b.operand 0]

/-- What SYM.AEAD_ENCRYPT gives out: ciphertext, tag, and the nonce where the job generated it. -/
def aeadSealed (b : Job) (k n : List Byte) : List (Nat × List Byte) :=
  [(1, stdN (symData b) "AEAD ciphertext" (aeadInput b k n)),
    (2, stdN b.tagLen "AEAD tag" (aeadInput b k n ++ if b.mode = 2 then [le 1 b.tagLen] else []))] ++ if b.pbit 9 then [(3, n)] else []

/-- What the cipher modes read. -/
def cipherInput (b : Job) (k : List Byte) : List (List Byte) := [le 1 b.mode, k, b.operand 3, b.operand 0]

/-- What the wrap modes read. -/
def wrapInput (b : Job) (k : List Byte) : List (List Byte) := [le 1 b.mode, k, b.operand 0]

/-- The key that SYM.UNWRAP gives out; under KWP what is unwrapped says its length, which is at most that of the input. -/
def symUnwrapped (b : Job) (k : List Byte) : List Byte :=
  if b.mode = 0x31 then stdN (symData b - 8) "AES key unwrap" (wrapInput b k)
  else (Config.std "AES key unwrap" (wrapInput b k)).take (symData b - 8)

/-- SYM.AEAD_ENCRYPT with what it needs at hand: its nonce is 12 bytes that it draws, or the one given. -/
theorem aeadEncrypt_ended {s : State} {j : Nat} {c : Cmd} {sk pub : List Byte} (hw : AtWork 0x0601 j c s)
    (hp : Passes (symChecks s c.job)) (hu : KeyUsable c (symCount c.job).1 (symLimit s c.job) s) (hkey : KeyHere c sk pub s)
    (hr : RandomHere c (if c.job.pbit 9 then 12 else 0) s) :
    ∃ n : List Byte, (c.job.pbit 9 = true → n.length = 12) ∧ (c.job.pbit 9 = false → n = c.job.operand 3) ∧
      Ended j c (outsTo c.job (aeadSealed c.job sk n)) (runVerb 0x0601 j aeadEncrypt s) := by
  obtain ⟨s1, nj, hk1, hrand, -, hrun⟩ := symRun_keyed hw hp hu hkey
  obtain ⟨s2, d, hd, hdraw, hk2, -⟩ := withRandom_here (hrand _ hr) hk1
  have hend := ended_withNj (body := aeadEncrypt) hw ((hrun _).trans (congrArg (withFigure nj) (hdraw _))) hk2
  unfold aeadSealed
  cases hgen : c.job.pbit 9
  case false =>
    simp only [hgen, Bool.false_eq_true, if_false] at hend
    exact ⟨c.job.operand 3, nofun, fun _ => rfl, hend⟩
  case true =>
    simp only [hgen, if_true] at hd hend
    exact ⟨d, fun _ => hd, nofun, hend⟩

/-- Settles O21: a verb that answers ends with the output of its mode, and one that judges a tag, or the integrity of a wrapped key,
gives its output out only where that verifies. -/
theorem symmetricVerbs : Obligations.SymmetricVerbs := by
  unfold Obligations.SymmetricVerbs
  intro s j c sk pub m opened wrapped Failed hp hu hkey
  refine ⟨fun hw hr => ?aeadEncrypt, fun hw => ?aeadDecrypt, fun hw => ⟨_, rfl, ?encrypt⟩, fun hw => ⟨_, rfl, ?decrypt⟩,
    fun hw => ⟨_, rfl, ?mac⟩, fun hw => ?macVerify, fun hw => ⟨_, rfl, ?wrap⟩, fun hw => ?unwrap⟩
  case aeadEncrypt =>
    obtain ⟨n, hgen, hgiven, hend⟩ := aeadEncrypt_ended hw hp hu hkey hr
    exact ⟨_, n, rfl, hgen, hgiven, hend⟩
  case aeadDecrypt =>
    obtain ⟨hopens, hfails⟩ := symJudged_ended (body := aeadDecrypt) hw hp hu hkey
      (fun k => Config.stdOk "AEAD tag verifies" (aeadInput c.job k (c.job.operand 3) ++ [c.job.operand 1]))
      (fun k => outTo c.job 2 (stdN (symData c.job) "AEAD plaintext" (aeadInput c.job k (c.job.operand 3)))) rfl
    exact ⟨fun hok => ⟨_, rfl, hopens hok⟩, fun hbad => ⟨_, rfl, hfails hbad⟩⟩
  case encrypt =>
    exact symAnswer_ended hw hp hu hkey (fun k => outTo c.job 1 (stdN (symData c.job) "cipher encrypt" (cipherInput c.job k))) rfl
  case decrypt =>
    exact symAnswer_ended hw hp hu hkey (fun k => outTo c.job 1 (stdN (symData c.job) "cipher decrypt" (cipherInput c.job k))) rfl
  case mac => exact symAnswer_ended hw hp hu hkey (fun k => outTo c.job 1 (symTag c.job k)) rfl
  case macVerify =>
    obtain ⟨hmatch, hdiffer⟩ := symJudged_ended (body := symMacVerify) hw hp hu hkey
      (fun k => symTag c.job k == c.job.operand 1) (fun _ => okRes) rfl
    exact ⟨fun heq => ⟨_, rfl, hmatch (beq_iff_eq.mpr heq)⟩, fun hne => ⟨_, rfl, hdiffer (beq_eq_false_iff_ne.mpr hne)⟩⟩
  case wrap =>
    exact symAnswer_ended hw hp hu hkey (fun k => outTo c.job 1 (stdN (wrapLen c.job) "AES key wrap" (wrapInput c.job k))) rfl
  case unwrap =>
    obtain ⟨hopens, hfails⟩ := symJudged_ended (body := symUnwrap) hw hp hu hkey
      (fun k => Config.stdOk "AES key wrap integrity" (wrapInput c.job k)) (fun k => outTo c.job 1 (symUnwrapped c.job k)) rfl
    exact ⟨fun hok => ⟨_, rfl, hopens hok⟩, fun hbad => ⟨_, rfl, hfails hbad⟩⟩

end Sys2Proof.Machine
end

section
/-! PROOFS. The count of the tick (O1): how far the tick moves, and what a step does with no command waiting. -/

namespace Sys2Proof.Machine

/-! ### The count of the tick (R249, R250) -/

theorem moveTick_forward (n k : Nat) : moveTick n (Int.ofNat k) = (n + k) % 2 ^ 64 := by
  unfold moveTick
  simp only [Int.ofNat_eq_natCast]
  omega

/-- A move by the distance to `v` ends at `v`. -/
theorem moveTick_distance (n : Nat) {v : Nat} (h : v < 2 ^ 64) : moveTick n (Int.ofNat v - Int.ofNat n) = v := by
  unfold moveTick
  simp only [Int.ofNat_eq_natCast]
  omega

theorem natAbs_sub_sign {a : ℤ} (h : a ≠ 0) : (a - a.sign).natAbs + 1 = a.natAbs := by
  rcases lt_or_gt_of_ne h with hneg | hpos
  · rw [Int.sign_eq_neg_one_of_neg hneg]
    omega
  · rw [Int.sign_eq_one_of_pos hpos]
    omega

section Count
variable {s : State}

theorem idle_powered (h : s.pkg.pwrgdAon = true ∨ s.pkg.vbat = true) : idle s = countTick s :=
  if_pos (Bool.or_eq_true_iff.mpr h)

theorem idle_unpowered (haon : s.pkg.pwrgdAon = false) (hvbat : s.pkg.vbat = false) : idle s = s := by
  simp [idle, haon, hvbat]

theorem step_idle (h : s.pending = []) : step s = .next (idle s) := by
  unfold step
  rw [h]

theorem countTick_coarse (h : s.time.quality = .coarse) : countTick s = { s with tick := coarseNext s.tick % 2 ^ 64 } := if_pos h

theorem countTick_fine (h : s.time.quality ≠ .coarse) :
    countTick s = { s with tick := moveTick s.tick (1 + s.time.slewBy), time := s.time.slewed } := if_neg h

/-- Without a slew the tick takes the next nanosecond. -/
theorem countTick_unslewed (hq : s.time.quality ≠ .coarse) (h : s.time.slewFrom = 0) :
    countTick s = { s with tick := (s.tick + 1) % 2 ^ 64 } := by
  have hby : s.time.slewBy = 0 := by simp [TimeUnit.slewBy, h]
  rw [countTick_fine hq, hby, TimeUnit.slewed, if_pos h, add_zero]
  exact congrArg (fun n => { s with tick := n }) (moveTick_forward s.tick 1)

/-- Between two moves of the slew the tick takes the next nanosecond, which is counted. -/
theorem countTick_between (hq : s.time.quality ≠ .coarse) (h : s.time.slewFrom ≠ 0) (hn : s.time.slewCount + 1 < 10000) :
    countTick s = { s with tick := (s.tick + 1) % 2 ^ 64, time := { s.time with slewCount := s.time.slewCount + 1 } } := by
  rw [countTick_fine hq, TimeUnit.slewBy, TimeUnit.slewed, if_pos hn, if_neg h, if_pos hn, add_zero]
  exact congrArg (fun n => { s with tick := n, time := { s.time with slewCount := s.time.slewCount + 1 } }) (moveTick_forward s.tick 1)

/-- At a move of the slew. -/
theorem countTick_move (hq : s.time.quality ≠ .coarse) (h : s.time.slewFrom ≠ 0) (hn : 10000 ≤ s.time.slewCount + 1) :
    (countTick s).tick = moveTick s.tick (1 + s.time.slewFrom.sign) ∧ (countTick s).time.slewCount = 0 ∧
      (countTick s).time.slewFrom = s.time.slewFrom - s.time.slewFrom.sign := by
  rw [countTick_fine hq, TimeUnit.slewed, if_neg h, if_neg hn.not_gt, TimeUnit.slewBy, if_neg hn.not_gt]
  exact ⟨rfl, rfl, rfl⟩

end Count

/-- Settles O1, by the counts of the tick. -/
theorem stepRunsTheCommandInFront : Obligations.StepRunsTheCommandInFront := by
  unfold Obligations.StepRunsTheCommandInFront
  refine ⟨fun i s rest => rfl, fun s h => ⟨fun hp => ?powered, fun haon hvbat => ?unpowered⟩⟩
  case powered =>
    rw [step_idle h, idle_powered hp]
    refine ⟨fun hq => ?coarse, fun hq hs => ?unslewed, fun hq hs hn => ?between, fun hq hs hn => ?move⟩
    case coarse => rw [countTick_coarse hq]
    case unslewed => rw [countTick_unslewed hq hs]
    case between => rw [countTick_between hq hs hn]
    case move =>
      obtain ⟨htick, hcount, hslew⟩ := countTick_move hq hs hn
      exact ⟨_, rfl, htick, hcount, by rw [hslew, natAbs_sub_sign hs], by rw [countTick_fine hq]⟩
  case unpowered => rw [step_idle h, idle_unpowered haon hvbat]

end Sys2Proof.Machine
end

section
/-! PROOFS. The sources of the tick (O23): what each operation of the time unit changes and what it keeps, how a source is taken and lost,
and what the inputs bring. -/

namespace Sys2Proof.Machine

/-! ### The record of a source -/

section Records
variable (t : TimeUnit) (x y : TSrc) (f : SrcRec → SrcRec)

@[simp] theorem TimeUnit.src_modSrc : (t.modSrc x f).src y = if y = x then f (t.src y) else t.src y := by
  cases x <;> cases y <;> rfl

@[simp] theorem TimeUnit.src_mapSrcs : (t.mapSrcs f).src y = f (t.src y) := by
  cases y <;> rfl

@[simp] theorem TimeUnit.modSrc_cfg : (t.modSrc x f).cfg = t.cfg := by cases x <;> rfl
@[simp] theorem TimeUnit.modSrc_source : (t.modSrc x f).source = t.source := by cases x <;> rfl
@[simp] theorem TimeUnit.modSrc_quality : (t.modSrc x f).quality = t.quality := by cases x <;> rfl

variable {t} {u : TimeUnit}

/-- The disciplining source is read from the source that is set and the qualified flags. -/
theorem TimeUnit.held_congr (hs : u.source = t.source) (hq : ∀ y, (u.src y).qualified = (t.src y).qualified) : u.held = t.held := by
  unfold TimeUnit.held
  simp only [hs, hq]

/-- A source that is set and qualified is the disciplining one. -/
theorem TimeUnit.held_eq_some_iff : t.held = some x ↔ t.source = some x ∧ (t.src x).qualified = true :=
  Option.filter_eq_some_iff

theorem TimeUnit.held_none (h : t.source = none) : t.held = none := by
  rw [TimeUnit.held, h]
  rfl

/-- A change of a record that keeps its qualified flag keeps the disciplining source. -/
theorem TimeUnit.held_modSrc (hf : (f (t.src x)).qualified = (t.src x).qualified) : (t.modSrc x f).held = t.held := by
  refine TimeUnit.held_congr (t.modSrc_source x f) fun y => ?_
  by_cases hy : y = x
  · simp [hy, hf]
  · simp [hy]

end Records

/-! ### The estimate (R255, R545) -/

section Estimate
variable {s : State} {x : TSrc}

theorem errEst_of_held (h : s.time.held = some x) : s.errEst = some ((s.time.src x).err + s.time.slewFrom.natAbs) := by
  rw [State.errEst, h]

theorem errEst_unheld (h : s.time.held = none) : s.errEst = if s.time.quality = .holdover then some s.holdEst else none := by
  rw [State.errEst, h]

/-- At its start the estimate of R255 is its base. -/
theorem holdEst_start (h : s.time.errSince = s.tick) : s.holdEst = s.time.errBase := by
  simp [State.holdEst, h]

theorem errEst_congr {t : State} (hheld : t.time.held = s.time.held) (herr : ∀ y, (t.time.src y).err = (s.time.src y).err)
    (hslew : t.time.slewFrom = s.time.slewFrom) (hq : t.time.quality = s.time.quality)
    (hhold : s.time.quality = .holdover → t.holdEst = s.holdEst) : t.errEst = s.errEst := by
  cases hh : s.time.held with
  | some x => rw [errEst_of_held hh, errEst_of_held (hheld.trans hh), herr, hslew]
  | none =>
    rw [errEst_unheld hh, errEst_unheld (hheld.trans hh), hq]
    split
    next h => rw [hhold h]
    · rfl

/-- The estimate goes on from its value whatever the rate becomes. -/
theorem errEst_rebase_modTcxo (ok : Bool) : (s.rebase.modTime fun t => { t with tcxoOk := ok }).errEst = s.errEst := by
  unfold State.rebase
  split
  case isTrue => exact errEst_congr rfl (fun _ => rfl) rfl rfl fun _ => holdEst_start rfl
  case isFalse hq => exact errEst_congr rfl (fun _ => rfl) rfl rfl fun h => absurd h hq

end Estimate

/-! ### What each operation changes -/

section Changes

/-- Of the time unit only the quality, UNSET, the mark of set seconds and the pin may differ, and nothing else at all. -/
def SameButQuality (s t : State) : Prop := t = { s with time := { s.time with
  quality := t.time.quality, isUnset := t.time.isUnset, secSet := t.time.secSet, ppsPin := t.time.ppsPin } }

/-- Of the time unit only what it holds of UTC may differ, and nothing else at all. -/
def SameButUtc (s t : State) : Prop := t = { s with time := { s.time with
  utcOffset := t.time.utcOffset, leap61 := t.time.leap61, leap59 := t.time.leap59, leapNow := t.time.leapNow,
  leapAt := t.time.leapAt, fromSource := t.time.fromSource } }

variable (s : State) (x : TSrc)

@[simp] theorem State.modTime_time (f : TimeUnit → TimeUnit) : (s.modTime f).time = f s.time := rfl

theorem lockIfDue_same : SameButQuality s (lockIfDue s) := by
  unfold lockIfDue
  split
  · split
    · rfl
    · split
      · rfl
      · rfl
  · rfl

theorem TimeUnit.releap_same (t : TimeUnit) (n : Nat) :
    t.releap n = { t with leapAt := (t.releap n).leapAt, leapNow := (t.releap n).leapNow } := by
  unfold TimeUnit.releap
  split
  · rfl
  · rfl

theorem setUtc_same (off : Nat) (l61 l59 : Bool) : SameButUtc s (setUtc off l61 l59 s) := by
  unfold setUtc
  dsimp only
  split
  · rw [TimeUnit.releap_same]
    rfl
  · rfl

theorem utcOf_same : SameButUtc s (utcOf x s) := by
  unfold utcOf
  split
  next off l61 l59 _ =>
    unfold SameButUtc
    rw [setUtc_same s off l61 l59]
    rfl
  · rfl

theorem setUtc_taken (off : Nat) (l61 l59 : Bool) : (setUtc off l61 l59 s).time.utcOffset = off ∧
    (setUtc off l61 l59 s).time.leap61 = l61 ∧ (setUtc off l61 l59 s).time.leap59 = l59 := by
  unfold setUtc
  dsimp only [State.modTime]
  split
  · rw [TimeUnit.releap_same]
    exact ⟨rfl, rfl, rfl⟩
  · exact ⟨rfl, rfl, rfl⟩

variable {s x} in
/-- What the active source gives of UTC is taken from it (R257). -/
theorem utcOf_given {off : Nat} {l61 l59 : Bool} (h : (s.time.src x).utc = some (off, l61, l59)) :
    (utcOf x s).time.utcOffset = off ∧ (utcOf x s).time.leap61 = l61 ∧ (utcOf x s).time.leap59 = l59 ∧
      (utcOf x s).time.fromSource = true := by
  obtain ⟨hoff, h61, h59⟩ := setUtc_taken s off l61 l59
  rw [utcOf, h]
  exact ⟨hoff, h61, h59, rfl⟩

variable {s x} in
theorem utcOf_not_given (h : (s.time.src x).utc = none) : (utcOf x s).time.utcOffset = s.time.utcOffset := by
  rw [utcOf, h]
  rfl

@[simp] theorem utcOf_tick : (utcOf x s).tick = s.tick := by rw [utcOf_same]
@[simp] theorem utcOf_quality : (utcOf x s).time.quality = s.time.quality := by rw [utcOf_same]
@[simp] theorem utcOf_source : (utcOf x s).time.source = s.time.source := by rw [utcOf_same]
@[simp] theorem utcOf_src (y : TSrc) : (utcOf x s).time.src y = s.time.src y := by
  rw [utcOf_same]
  rfl

@[simp] theorem lockIfDue_tick : (lockIfDue s).tick = s.tick := by rw [lockIfDue_same]
@[simp] theorem lockIfDue_source : (lockIfDue s).time.source = s.time.source := by rw [lockIfDue_same]
@[simp] theorem lockIfDue_slewFrom : (lockIfDue s).time.slewFrom = s.time.slewFrom := by rw [lockIfDue_same]
@[simp] theorem lockIfDue_stepped : (lockIfDue s).time.stepped = s.time.stepped := by rw [lockIfDue_same]
@[simp] theorem lockIfDue_src (y : TSrc) : (lockIfDue s).time.src y = s.time.src y := by
  rw [lockIfDue_same]
  rfl

@[simp] theorem slewTo_src (y : TSrc) : (slewTo x s).time.src y = s.time.src y := rfl

variable (d : Int)

/-- A step moves the tick and the records of the sources with it, ends a slew, and is journalled (R250). -/
theorem stepTick_time : (stepTick d s).time =
    (({ s.time with stepped := true, slewFrom := 0, slewCount := 0 }).mapSrcs (SrcRec.stepped d)).releap (moveTick s.tick d) := by
  unfold stepTick
  rw [journalEvent_same]
  rfl

@[simp] theorem stepTick_tick : (stepTick d s).tick = moveTick s.tick d := by
  unfold stepTick
  rw [journalEvent_same]
  rfl

@[simp] theorem stepTick_cmds : (stepTick d s).cmds = s.cmds := by
  unfold stepTick
  rw [journalEvent_same]
  rfl

@[simp] theorem TimeUnit.releap_src (t : TimeUnit) (n : Nat) (y : TSrc) : (t.releap n).src y = t.src y := by
  rw [TimeUnit.releap_same]
  rfl

@[simp] theorem stepTick_stepped : (stepTick d s).time.stepped = true := by
  rw [stepTick_time, TimeUnit.releap_same]
  rfl

@[simp] theorem stepTick_source : (stepTick d s).time.source = s.time.source := by
  rw [stepTick_time, TimeUnit.releap_same]
  rfl

@[simp] theorem stepTick_cfg : (stepTick d s).time.cfg = s.time.cfg := by
  rw [stepTick_time, TimeUnit.releap_same]
  rfl

@[simp] theorem stepTick_src (y : TSrc) : (stepTick d s).time.src y = (s.time.src y).stepped d := by
  rw [stepTick_time, TimeUnit.releap_src, TimeUnit.src_mapSrcs]
  rfl

end Changes

/-! ### What a change of the source keeps of the sources -/

section Kept

/-- A change of the time unit from `t` to `u` keeps the configuration and what has qualified, and makes no source valid. -/
structure SourcesKept (t u : TimeUnit) : Prop where
  cfg : u.cfg = t.cfg
  qualified : ∀ y, (u.src y).qualified = (t.src y).qualified
  invalid : ∀ y, (t.src y).validSince = none → (u.src y).validSince = none

theorem SourcesKept.trans {t u v : TimeUnit} (h : SourcesKept t u) (k : SourcesKept u v) : SourcesKept t v :=
  ⟨k.cfg.trans h.cfg, fun y => (k.qualified y).trans (h.qualified y), fun y hy => k.invalid y (h.invalid y hy)⟩

/-- A change of neither the configuration nor the records. -/
theorem SourcesKept.of_src {t u : TimeUnit} (hc : u.cfg = t.cfg) (hs : ∀ y, u.src y = t.src y) : SourcesKept t u :=
  ⟨hc, fun y => by rw [hs], fun y hy => by rw [hs, hy]⟩

variable (s : State) (x : TSrc)

theorem utcOf_kept : SourcesKept s.time (utcOf x s).time := .of_src (by rw [utcOf_same]) (utcOf_src s x)

theorem lockIfDue_kept : SourcesKept s.time (lockIfDue s).time := .of_src (by rw [lockIfDue_same]) (lockIfDue_src s)

theorem slewTo_kept : SourcesKept s.time (slewTo x s).time := .of_src rfl fun _ => rfl

theorem stepTick_kept (d : Int) : SourcesKept s.time (stepTick d s).time where
  cfg := stepTick_cfg s d
  qualified y := by
    rw [stepTick_src]
    rfl
  invalid y hy := by
    rw [stepTick_src]
    simp [SrcRec.stepped, SrcRec.moved, hy]

end Kept

/-! ### A source is taken (R250, R252) -/

section Taken
variable (x : TSrc) (s : State)

/-- Source `x` as the source of the tick, before the tick follows it. -/
def sourceSet : State := utcOf x (s.modTime fun t => { t with source := some x, slewCount := 0 })

/-- A clock that ran free follows its source: by a step to an offset of 1 ms or more, and by a slew to a smaller one. -/
def followed : State :=
  let s2 := (sourceSet x s).modTime fun t => { t with quality := .free }
  if 1000000 ≤ ((sourceSet x s).time.offsetOf x).natAbs then stepTick ((sourceSet x s).time.offsetOf x) s2 else slewTo x s2

variable {s x}

theorem takeSource_locked (h : s.time.quality = .locked) : takeSource x s = slewTo x (sourceSet x s) := by
  unfold takeSource
  rw [h]
  rfl

theorem takeSource_holdover (h : s.time.quality = .holdover) : takeSource x s = lockIfDue (slewTo x (sourceSet x s)) := by
  unfold takeSource
  rw [h]
  rfl

theorem takeSource_free (h : s.time.quality = .coarse ∨ s.time.quality = .free) : takeSource x s = lockIfDue (followed x s) := by
  unfold takeSource
  rcases h with h | h
  · rw [h]
    rfl
  · rw [h]
    rfl

theorem sourceSet_source : (sourceSet x s).time.source = some x := utcOf_source _ x

theorem sourceSet_kept : SourcesKept s.time (sourceSet x s).time := by
  unfold sourceSet
  refine SourcesKept.trans ?_ (utcOf_kept _ x)
  exact .of_src rfl fun _ => rfl

theorem followed_source : (followed x s).time.source = some x := by
  unfold followed
  dsimp only
  split
  · rw [stepTick_source]
    exact sourceSet_source
  · exact sourceSet_source

theorem followed_kept : SourcesKept s.time (followed x s).time := by
  have hfree : SourcesKept s.time ((sourceSet x s).modTime fun t => { t with quality := .free }).time :=
    sourceSet_kept.trans (.of_src rfl fun _ => rfl)
  unfold followed
  dsimp only
  split
  · exact hfree.trans (stepTick_kept _ _)
  · exact hfree.trans (slewTo_kept _ x)

/-- A source that is taken is the source, and the sources stay as they were qualified. -/
theorem takeSource_taken (x : TSrc) (s : State) :
    (takeSource x s).time.source = some x ∧ SourcesKept s.time (takeSource x s).time := by
  cases hq : s.time.quality with
  | locked =>
    rw [takeSource_locked hq]
    exact ⟨sourceSet_source, sourceSet_kept.trans (slewTo_kept _ x)⟩
  | holdover =>
    rw [takeSource_holdover hq, lockIfDue_source]
    exact ⟨sourceSet_source, (sourceSet_kept.trans (slewTo_kept _ x)).trans (lockIfDue_kept _)⟩
  | coarse =>
    rw [takeSource_free (.inl hq), lockIfDue_source]
    exact ⟨followed_source, followed_kept.trans (lockIfDue_kept _)⟩
  | free =>
    rw [takeSource_free (.inr hq), lockIfDue_source]
    exact ⟨followed_source, followed_kept.trans (lockIfDue_kept _)⟩

/-- While LOCKED a source is taken without a step. -/
theorem takeSource_stays_locked (h : s.time.quality = .locked) :
    (takeSource x s).time.quality = .locked ∧ (takeSource x s).tick = s.tick := by
  rw [takeSource_locked h]
  exact ⟨(utcOf_quality _ x).trans h, utcOf_tick _ x⟩

/-- An offset of 1 ms or more is stepped away. -/
theorem takeSource_steps (hq : s.time.quality = .coarse ∨ s.time.quality = .free)
    (hoff : 1000000 ≤ ((sourceSet x s).time.offsetOf x).natAbs) :
    (takeSource x s).tick = moveTick s.tick ((sourceSet x s).time.offsetOf x) ∧ (takeSource x s).time.stepped = true := by
  have htick : (sourceSet x s).tick = s.tick := utcOf_tick _ x
  rw [takeSource_free hq, followed, if_pos hoff, lockIfDue_tick, lockIfDue_stepped, stepTick_tick, stepTick_stepped,
    State.modTime_tick, htick]
  exact ⟨rfl, rfl⟩

/-- A smaller offset is slewed away. -/
theorem takeSource_slews (hq : s.time.quality = .coarse ∨ s.time.quality = .free)
    (hoff : ((sourceSet x s).time.offsetOf x).natAbs < 1000000) :
    (takeSource x s).tick = s.tick ∧ (takeSource x s).time.slewFrom = (sourceSet x s).time.offsetOf x := by
  rw [takeSource_free hq, followed, if_neg hoff.not_ge, lockIfDue_tick, lockIfDue_slewFrom]
  exact ⟨utcOf_tick _ x, rfl⟩

/-- The offset is that under the OFFSET which the source gives. -/
theorem sourceSet_offset : (sourceSet x s).time.offsetOf x = (utcOf x s).time.offsetOf x := by
  have hsrc (y : TSrc) : (sourceSet x s).time.src y = (utcOf x s).time.src y :=
    (utcOf_src _ x y).trans (utcOf_src s x y).symm
  have hutc : (sourceSet x s).time.utcOffset = (utcOf x s).time.utcOffset := by
    unfold sourceSet
    match h : (s.time.src x).utc with
    | none =>
      rw [utcOf_not_given h, utcOf_not_given]
      · rfl
      · exact h
    | some (off, l61, l59) =>
      rw [(utcOf_given h).1, (utcOf_given (off := off) (l61 := l61) (l59 := l59) _).1]
      exact h
  unfold TimeUnit.offsetOf
  rw [hutc, hsrc x, show (sourceSet x s).time.irig = (utcOf x s).time.irig from hsrc .irig]

end Taken

/-! ### The best source takes over (R252, R253) -/

section Selected
variable {s : State} {x : TSrc}

theorem mem_timeSources (x : TSrc) : x ∈ timeSources := by
  cases x <;> decide

theorem best_isSome {t : TimeUnit} (hq : (t.src x).qualified = true) (hen : t.cfg.en x = true) : t.best.isSome = true :=
  List.find?_isSome.mpr ⟨x, mem_timeSources x, by simp [hq, hen]⟩

theorem best_of_unqualified {t : TimeUnit} (h : ∀ y, (t.src y).qualified = false) : t.best = none :=
  List.find?_eq_none.mpr fun y _ => by simp [h y]

/-- Where some source is qualified, the best is held already or is taken. -/
theorem selectSource_cases (h : s.time.best = some x) :
    (s.time.held = some x ∧ selectSource s = s) ∨ (s.time.held ≠ some x ∧ selectSource s = takeSource x s) := by
  unfold selectSource
  rw [h]
  by_cases hh : s.time.held = some x
  · exact .inl ⟨hh, if_pos hh⟩
  · exact .inr ⟨hh, if_neg hh⟩

/-- The best qualified source becomes the source of the tick, and the sources stay as they were qualified. -/
theorem selectSource_selected (h : s.time.best = some x) :
    (selectSource s).time.source = some x ∧ SourcesKept s.time (selectSource s).time := by
  rcases selectSource_cases h with ⟨hh, heq⟩ | ⟨-, heq⟩
  · rw [heq]
    exact ⟨((TimeUnit.held_eq_some_iff x).mp hh).1, .of_src rfl fun _ => rfl⟩
  · rw [heq]
    exact takeSource_taken x s

theorem selectSource_stays_locked (h : s.time.best = some x) (hq : s.time.quality = .locked) :
    (selectSource s).time.quality = .locked ∧ (selectSource s).tick = s.tick := by
  rcases selectSource_cases h with ⟨-, heq⟩ | ⟨-, heq⟩
  · rw [heq]
    exact ⟨hq, rfl⟩
  · rw [heq]
    exact takeSource_stays_locked hq

/-- Where no source is set the best one is taken. -/
theorem selectSource_takes (h : s.time.best = some x) (hs : s.time.source = none) : selectSource s = takeSource x s := by
  rcases selectSource_cases h with ⟨hh, -⟩ | ⟨-, heq⟩
  · rw [TimeUnit.held_none hs] at hh
    cases hh
  · exact heq

/-- A time unit in which source `x` has qualified. -/
def TimeUnit.qualify (t : TimeUnit) (x : TSrc) : TimeUnit := t.modSrc x fun r => { r with qualified := true }

/-- A source that has been valid for QUALIFY_S qualifies, and the best one is selected (R254). -/
theorem exec_sourceQualified {v : Nat} (hv : (s.time.src x).validSince = some v) (hq : (s.time.src x).qualified = false)
    (hen : s.time.cfg.en x = true) (hdue : v + s.time.cfg.qualifyS * 1000000000 ≤ s.tick)
    (hpps : x = .pps → s.time.secSet = true) :
    exec (.sourceQualified x) s = .next (selectSource { s with time := s.time.qualify x }) := by
  have hsec : (x == .pps && !s.time.secSet) = false := by
    by_cases hx : x = .pps
    · simp [hpps hx]
    · simp [hx]
  have hopen : ((s.time.src x).qualified || !s.time.cfg.en x || decide (s.tick < v + s.time.cfg.qualifyS * 1000000000) ||
      (x == .pps && !s.time.secSet)) = false := by
    rw [hq, hen, hsec, decide_eq_false (not_lt.mpr hdue)]
    rfl
  show execSourceQualified x s = _
  simp only [execSourceQualified, hv, hopen, Bool.false_eq_true, if_false]
  rfl

end Selected

/-! ### A source is lost (R252, R254) -/

section Lost
variable {s : State} {x : TSrc}

/-- Source `x` is not qualified, and not valid. -/
def TimeUnit.Invalid (t : TimeUnit) (x : TSrc) : Prop := (t.src x).qualified = false ∧ (t.src x).validSince = none

theorem SourcesKept.invalid_kept {t u : TimeUnit} (h : SourcesKept t u) (hx : t.Invalid x) : u.Invalid x :=
  ⟨(h.qualified x).trans hx.1, h.invalid x hx.2⟩

theorem dropActive_kept (e : Nat) (s : State) : SourcesKept s.time (dropActive e s).time := by
  unfold dropActive
  dsimp only
  split
  next y _ =>
    refine SourcesKept.trans ?_ (takeSource_taken y _).2
    exact .of_src rfl fun _ => rfl
  · split
    · exact .of_src rfl fun _ => rfl
    · exact .of_src rfl fun _ => rfl

/-- Beside the record of the lost source, the sources stay as they were qualified. -/
theorem loseSource_kept (x : TSrc) (s : State) : SourcesKept (s.time.modSrc x SrcRec.lost) (loseSource x s).time := by
  have hdropped := dropActive_kept (s.errEst.getD 0) (s.modTime fun t => t.modSrc x SrcRec.lost)
  unfold loseSource
  dsimp only
  split
  · exact hdropped
  · exact .of_src rfl fun _ => rfl

theorem loseSource_cfg (x : TSrc) (s : State) : (loseSource x s).time.cfg = s.time.cfg :=
  (loseSource_kept x s).cfg.trans (s.time.modSrc_cfg x _)

theorem loseSource_invalid (x : TSrc) (s : State) : (loseSource x s).time.Invalid x :=
  (loseSource_kept x s).invalid_kept ⟨by simp [SrcRec.lost], by simp [SrcRec.lost]⟩

/-- The loss of a source makes no other one valid. -/
theorem loseSource_keeps_invalid (y : TSrc) (h : s.time.Invalid x) : (loseSource y s).time.Invalid x := by
  by_cases hx : x = y
  · exact hx ▸ loseSource_invalid x s
  · exact (loseSource_kept y s).invalid_kept (by simpa [TimeUnit.Invalid, hx] using h)

/-- With no source qualified, a LOCKED clock that loses its source goes to HOLDOVER with its estimate at `e`. -/
theorem dropActive_unqualified (e : Nat) (h : ∀ y, (s.time.src y).qualified = false) (hq : s.time.quality = .locked) :
    dropActive e s = ((s.modTime fun t => { t with source := none, slewFrom := 0, fromSource := false }).holdAt e).modTime
      fun t => { t with quality := .holdover } := by
  have hbest : (s.modTime fun t => { t with source := none, slewFrom := 0, fromSource := false }).time.best = none :=
    best_of_unqualified h
  unfold dropActive
  simp only [hbest, hq, if_true]

/-- The loss of the last source of a LOCKED clock. -/
theorem loseSource_last (hh : s.time.held = some x) (hq : s.time.quality = .locked)
    (ho : ∀ y, y ≠ x → (s.time.src y).qualified = false) :
    (loseSource x s).time.quality = .holdover ∧ (loseSource x s).time.source = none ∧ (loseSource x s).tick = s.tick ∧
      (loseSource x s).errEst = s.errEst := by
  have hnone (y : TSrc) : ((s.time.modSrc x SrcRec.lost).src y).qualified = false := by
    by_cases hy : y = x
    · simp [hy, SrcRec.lost]
    · simp [hy, ho y hy]
  unfold loseSource
  rw [if_pos hh, dropActive_unqualified _ hnone ((s.time.modSrc_quality x _).trans hq)]
  refine ⟨rfl, rfl, rfl, ?_⟩
  rw [errEst_of_held hh, errEst_unheld (TimeUnit.held_none rfl)]
  exact congrArg some (holdEst_start rfl)

end Lost

/-! ### Lock and the end of HOLDOVER (R252, R545) -/

section Quality
variable {s : State} {x : TSrc} {e : Nat}

theorem lockIfDue_locks (hh : s.time.held = some x) (he : s.errEst = some e) (hlock : e ≤ s.time.cfg.lockNs) :
    lockIfDue s = s.modTime fun t => { t with quality := .locked, isUnset := false, secSet := true } := by
  unfold lockIfDue
  simp only [hh, he, hlock, if_true]

theorem exec_holdoverExpiry (he : s.errEst = some e) (hq : s.time.quality = .holdover) (hend : s.time.cfg.holdoverNs ≤ e) :
    exec .holdoverExpiry s = .next (s.modTime fun t => { t with quality := .free }).ppsHeld := by
  show execHoldoverExpiry s = _
  simp only [execHoldoverExpiry, he, hq, hend, and_self, if_true]

end Quality

/-! ### What the sources bring (R253, R257) -/

section Inputs
variable (x : TSrc) (s : State) (off : Int) (err utc : Nat) (l61 l59 : Bool)

@[simp] theorem measured_tick : (measured x off err s).tick = s.tick := by
  unfold measured
  dsimp only
  split
  · exact lockIfDue_tick _
  · rfl

/-- What a measurement leaves in the record of its source (R254). -/
theorem measured_src : (measured x off err s).time.src x =
    { s.time.src x with validSince := some ((s.time.src x).validSince.getD s.tick), offset := off, err := err, lastSync := s.tick } := by
  unfold measured
  dsimp only
  split
  · simp
  · simp

@[simp] theorem utcFrom_tick : (utcFrom x utc l61 l59 s).tick = s.tick := by
  unfold utcFrom
  dsimp only
  split
  · exact utcOf_tick _ x
  · rfl

theorem utcFrom_src : (utcFrom x utc l61 l59 s).time.src x = { s.time.src x with utc := some (utc, l61, l59) } := by
  unfold utcFrom
  dsimp only
  split
  · simp
  · simp

variable {x s} in
/-- OFFSET and the leap flags are taken from the active source (R257). -/
theorem utcFrom_taken (h : s.time.held = some x) :
    (utcFrom x utc l61 l59 s).time.utcOffset = utc ∧ (utcFrom x utc l61 l59 s).time.leap61 = l61 ∧
      (utcFrom x utc l61 l59 s).time.leap59 = l59 ∧ (utcFrom x utc l61 l59 s).time.fromSource = true := by
  unfold utcFrom
  rw [if_pos h]
  exact utcOf_given (by simp)

/-- The record of a PTP port after an Announce of the master `m` at `tick`: with the first one the Sync interval starts too. -/
def SrcRec.announced (m interval tick : Nat) (r : SrcRec) : SrcRec :=
  { r with master := some m, lastAnnounce := tick, annInterval := interval, validSince := some (r.validSince.getD tick),
           lastSync := if r.validSince.isNone then tick else r.lastSync,
           syncInterval := if r.validSince.isNone then interval else r.syncInterval }

section Ptp
variable {x s} {p domain m interval : Nat} (hport : portSource s p = some x) (hlink : s.linkUp p = true)
  (hmode : (s.port p).mode = .endpoint ∨ (s.port p).mode = .passThrough) (hdom : domain = s.time.cfg.domain)
include hport hlink hmode hdom

theorem exec_announce (hm : (s.time.src x).follows m = true) :
    exec (.ptpMessageReceive p domain (.announce m) interval off err utc l61 l59) s =
      .next (utcFrom x utc l61 l59 (s.modTime fun t => t.modSrc x (SrcRec.announced m interval s.tick))) := by
  have hserves : ((s.port p).mode == .endpoint || (s.port p).mode == .passThrough) = true := by simpa using hmode
  show execPtpMessageReceive p domain (.announce m) interval off err utc l61 l59 s = _
  simp only [execPtpMessageReceive, hport, hlink, hserves, hdom, hm, beq_self_eq_true, Bool.not_true, Bool.or_self, Bool.false_eq_true,
    if_false]
  rfl

theorem exec_sync (hm : (s.time.src x).master = some m) :
    exec (.ptpMessageReceive p domain (.sync m) interval off err utc l61 l59) s =
      .next ((measured x off err s).modTime fun t => t.modSrc x fun r => { r with syncInterval := interval }) := by
  have hserves : ((s.port p).mode == .endpoint || (s.port p).mode == .passThrough) = true := by simpa using hmode
  show execPtpMessageReceive p domain (.sync m) interval off err utc l61 l59 s = _
  simp only [execPtpMessageReceive, hport, hlink, hserves, hdom, hm, beq_self_eq_true, Bool.not_true, Bool.or_self, Bool.false_eq_true,
    if_false]

end Ptp

variable {s} in
/-- A good IRIG-B frame of an enabled input is used. -/
theorem exec_irig_used (hen : s.time.cfg.irigEn = true) {err : Nat} (herr : err ≤ 1000) :
    exec (.irigFrameReceive true off err utc l61 l59) s = .next ((measured .irig off err (utcFrom .irig utc l61 l59 s)).modTime
      fun t => t.modSrc .irig fun r => { r with missed := 0 }) := by
  show execIrigFrameReceive true off err utc l61 l59 s = _
  simp [execIrigFrameReceive, hen, not_lt.mpr herr]

variable {s} in
/-- A malformed IRIG-B frame, or one whose time-quality code exceeds 1 µs, counts as missed. -/
theorem exec_irig_missed (hen : s.time.cfg.irigEn = true) {ok : Bool} (hbad : ok = false ∨ 1000 < err) :
    exec (.irigFrameReceive ok off err utc l61 l59) s =
      .next (s.modTime fun t => t.modSrc .irig fun r => { r with missed := r.missed + 1 }) := by
  have hb : (!ok || decide (1000 < err)) = true := by simpa using hbad
  show execIrigFrameReceive ok off err utc l61 l59 s = _
  simp only [execIrigFrameReceive, hen, hb, Bool.not_true, Bool.false_eq_true, if_false, if_true]

/-- From the tick to the nearest whole second. -/
def toWholeSecond (tick : Nat) : Int :=
  if tick % 1000000000 < 500000000 then -(Int.ofNat (tick % 1000000000)) else Int.ofNat (1000000000 - tick % 1000000000)

theorem toWholeSecond_spec (tick : Nat) :
    (Int.ofNat tick + toWholeSecond tick) % 1000000000 = 0 ∧ (toWholeSecond tick).natAbs ≤ 500000000 := by
  unfold toWholeSecond
  simp only [Int.ofNat_eq_natCast]
  split
  · omega
  · omega

variable {s} in
theorem exec_ppsInEdge (hen : s.time.cfg.ppsEn = true) :
    exec .ppsInEdge s = .next (measured .pps (toWholeSecond s.tick) 0 s) := by
  show execPpsInEdge s = _
  simp only [execPpsInEdge, hen, Bool.not_true, Bool.false_eq_true, if_false]
  rfl

end Inputs

/-! ### Leap seconds and the pulse (R257, R258) -/

section Leap
variable {s : State}

theorem exec_leap_inserted (h61 : s.time.leap61 = true) (hend : s.time.leapAt + 1000000000 ≤ s.tick) :
    exec .leapSecondBoundary s = .next (s.modTime fun t =>
      { t with leapNow := false, leap61 := false, utcOffset := (t.utcOffset + 1) % 65536 }) := by
  show execLeapSecondBoundary s = _
  simp only [execLeapSecondBoundary, h61, hend, decide_true, Bool.and_self, if_true]

theorem exec_leap_now (h61 : s.time.leap61 = true) (hat : s.time.leapAt ≤ s.tick) (hin : s.tick < s.time.leapAt + 1000000000) :
    exec .leapSecondBoundary s = .next (s.modTime fun t => { t with leapNow := true }) := by
  show execLeapSecondBoundary s = _
  simp only [execLeapSecondBoundary, h61, hat, not_le.mpr hin, decide_true, decide_false, Bool.and_self, Bool.and_false,
    Bool.false_eq_true, if_true, if_false]

theorem exec_leap_deleted (h61 : s.time.leap61 = false) (h59 : s.time.leap59 = true) (hat : s.time.leapAt ≤ s.tick) :
    exec .leapSecondBoundary s = .next (s.modTime fun t => { t with leap59 := false, utcOffset := t.utcOffset - 1 }) := by
  show execLeapSecondBoundary s = _
  simp only [execLeapSecondBoundary, h61, h59, hat, decide_true, Bool.and_self, Bool.false_and, Bool.false_eq_true, if_true, if_false]

/-- PPS_OUT is driven where it is enabled, with a quality of HOLDOVER or better or at every quality (R258). -/
theorem ppsDriven_iff (t : TimeUnit) :
    t.ppsDriven = true ↔ t.cfg.ppsOutEn = true ∧ (2 ≤ t.quality.code ∨ t.cfg.ppsOutAlways = true) := by
  simp [TimeUnit.ppsDriven]

end Leap

/-- Settles O23, row by row. -/
theorem timeSourcesAndInputs : Obligations.TimeSourcesAndInputs := by
  unfold Obligations.TimeSourcesAndInputs
  refine ⟨fun s x e ok => ⟨fun v hv hq hen hdue hpps => ?qualified, fun hdue => ?lost, fun hdue => ?stays, fun he => ⟨fun hh hlock => ?locks,
    fun hq hend => ?expires⟩, ?tcxo⟩, fun s p domain m interval err utc x off l61 l59 => ⟨fun hport hlink hmode hdom => ⟨fun hm => ?announce,
    fun hm => ?sync⟩, fun hen => ⟨fun herr => ?irig, fun ok hbad => ?missed⟩, fun hen => ?pps, fun h61 => ⟨?inserted, ?now⟩, ?deleted,
    ?pulse⟩⟩
  case qualified =>
    intro now off
    have hself : (now.src x).qualified = true := by simp [now]
    have hquality : now.quality = s.time.quality := s.time.modSrc_quality x _
    obtain ⟨y, hbest⟩ := Option.isSome_iff_exists.mp (best_isSome hself (by simpa [now] using hen))
    obtain ⟨hsource, hkept⟩ := selectSource_selected (s := { s with time := now }) hbest
    refine ⟨_, exec_sourceQualified hv hq hen hdue hpps, (hkept.qualified x).trans hself, hsource.trans hbest.symm, fun hlocked => ?_,
      fun hfree hnone hx => ?_⟩
    · exact selectSource_stays_locked (s := { s with time := now }) hbest (hquality.trans hlocked)
    · have hfree' : now.quality = .coarse ∨ now.quality = .free := by rwa [hquality]
      have htakes := selectSource_takes (s := { s with time := now }) hx ((s.time.modSrc_source x _).trans hnone)
      have hoff : (sourceSet x { s with time := now }).time.offsetOf x = off := sourceSet_offset
      have hsteps := takeSource_steps (x := x) (s := { s with time := now }) hfree'
      have hslews := takeSource_slews (x := x) (s := { s with time := now }) hfree'
      rw [hoff] at hsteps hslews
      unfold TimeUnit.qualify
      rw [htakes]
      exact ⟨hsteps, hslews⟩
  case lost =>
    obtain ⟨hunqualified, hinvalid⟩ := loseSource_invalid x s
    exact ⟨_, congrArg Host.Outcome.next (if_pos hdue), hunqualified, hinvalid, loseSource_last⟩
  case stays => exact congrArg Host.Outcome.next (if_neg (by simp [hdue]))
  case locks => exact congrArg Host.Outcome.next (lockIfDue_locks hh he hlock)
  case expires => exact exec_holdoverExpiry he hq hend
  case tcxo =>
    refine ⟨_, rfl, rfl, errEst_rebase_modTcxo ok, ?_⟩
    unfold State.rebase
    split
    · rfl
    · rfl
  case announce =>
    refine ⟨_, exec_announce off err utc l61 l59 hport hlink hmode hdom hm, ?_⟩
    rw [utcFrom_src]
    refine ⟨by simp [SrcRec.announced], by simp [SrcRec.announced], by simp [SrcRec.announced], by simp [SrcRec.announced],
      fun hh => utcFrom_taken utc l61 l59 ?_⟩
    exact (TimeUnit.held_modSrc x _ rfl).trans hh
  case sync =>
    refine ⟨_, exec_sync off err utc l61 l59 hport hlink hmode hdom hm, ?_⟩
    simp [measured_src]
  case irig =>
    have hsrc := measured_src .irig (utcFrom .irig utc l61 l59 s) off err
    refine ⟨_, exec_irig_used off utc l61 l59 hen herr, congrArg SrcRec.offset hsrc, congrArg SrcRec.err hsrc, rfl, ?_, by simp⟩
    exact (congrArg SrcRec.lastSync hsrc).trans (utcFrom_tick .irig s utc l61 l59)
  case missed => exact exec_irig_missed off err utc l61 l59 hen hbad
  case pps =>
    have hsrc := measured_src .pps s (toWholeSecond s.tick) 0
    refine ⟨_, exec_ppsInEdge hen, congrArg SrcRec.lastSync hsrc, measured_tick .pps s _ 0, ?_⟩
    rw [show (measured .pps (toWholeSecond s.tick) 0 s).time.pps.offset = _ from congrArg SrcRec.offset hsrc]
    exact toWholeSecond_spec s.tick
  case inserted => exact exec_leap_inserted h61
  case now => exact exec_leap_now h61
  case deleted => exact exec_leap_deleted
  case pulse =>
    refine ⟨_, rfl, rfl, ?_⟩
    simp [ppsDriven_iff, and_assoc]

end Sys2Proof.Machine
end

section
/-! PROOFS. Package time is read and set (O22): the TIME verbs, TIM_CFG, and the alarm. -/

namespace Sys2Proof.Machine
open Safety

/-! ### TIME.READ and TIME.SET (R260) -/

section Verbs
variable {s s1 : State} {j op : Nat} {c : Cmd} {body : Cmd → State → State × Option Res} {r : Res}

/-- A verb whose body answers a result leaves the time and the tick as its body left them. -/
theorem runVerb_time (hw : AtWork op j c s) (hb : body c (drawEnergy s).2 = (s1, some r)) :
    (runVerb op j body s).time = s1.time ∧ (runVerb op j body s).tick = s1.tick := by
  obtain ⟨hc, hop, hat, hheld, hrep⟩ := hw
  rw [runVerb_of_body hc hop hat hheld hrep hb]
  exact ⟨by simp [finish], by simp [finish]⟩

/-- After checks that pass come those that follow them. -/
theorem firstBad_append {l : List (Option Status)} (h : Passes l) (m : List (Option Status)) : firstBad (l ++ m) = firstBad m := by
  induction l with
  | nil => rfl
  | cons a l ih =>
    cases a with
    | some st => cases h
    | none => exact ih h

theorem orBad_refuses {l : List (Option Status)} {st : Status} (h : firstBad l = some st) (k : State → State × Option Res) :
    orBad l s k = (s, some (stRes st)) := by
  rw [orBad, h]

theorem unle_lt (b : List Byte) : unle b < 256 ^ b.length := by
  induction b with
  | nil => decide
  | cons x b ih =>
    have hx : x.toNat < 256 := x.isLt
    rw [unle, List.length_cons, pow_succ]
    omega

theorem fld_lt (b : List Byte) (o n : Nat) : fld b o n < 256 ^ n := by
  have h := unle_lt (slice b o n)
  rwa [show (slice b o n).length = n from fit_length n _] at h

/-- The checks of TIME.SET before that of the quality. -/
def timeSetChecks (c : Cmd) (s : State) : List (Option Status) := [paramZero c.job 0xFFFFFFFF, bodyIs c.job 8, famEnabled s c.job]

/-- TIME.SET passes its commit point and steps the tick to its body; a source that stays qualified is slewed to. -/
theorem timeSet_steps (hp : Passes (timeSetChecks c s)) (hq : s.time.quality.code < 2) (hk : Keeps c s) :
    ∃ t, timeSet c s = (t, some okRes) ∧ Keeps c t ∧ t.tick = fld c.job.args 0 8 ∧ t.time.quality = .free ∧
      t.time.isUnset = false ∧ t.time.stepped = true := by
  obtain ⟨d, hd, hdj⟩ := hk
  have hcommit : Keeps c (commit c.job.id s) := ⟨_, cmd_commit hd, hdj⟩
  have hall : firstBad (timeSetChecks c s ++ [check (decide (s.time.quality.code < 2)) .notPermitted]) = none := by
    rw [firstBad_append hp, decide_eq_true hq]
    rfl
  have htick : (stepTick (Int.ofNat (fld c.job.args 0 8) - Int.ofNat s.tick) (commit c.job.id s)).tick = fld c.job.args 0 8 := by
    rw [stepTick_tick, show (commit c.job.id s).tick = s.tick by rw [commit_same], moveTick_distance _ (fld_lt _ 0 8)]
  unfold timeSet
  refine ⟨_, orBad_passes hall _, ?_⟩
  split
  · exact ⟨hcommit.of_cmds (stepTick_cmds _ _), htick, rfl, rfl, stepTick_stepped _ _⟩
  · exact ⟨hcommit.of_cmds (stepTick_cmds _ _), htick, rfl, rfl, stepTick_stepped _ _⟩

/-- TIME.SET is refused while LOCKED or HOLDOVER. -/
theorem timeSet_refused (hp : Passes (timeSetChecks c s)) (hq : 2 ≤ s.time.quality.code) :
    timeSet c s = (s, some (stRes .notPermitted)) := by
  have hall : firstBad (timeSetChecks c s ++ [check (decide (s.time.quality.code < 2)) .notPermitted]) = some .notPermitted := by
    rw [firstBad_append hp, decide_eq_false hq.not_gt]
    rfl
  unfold timeSet
  exact orBad_refuses hall _

end Verbs

/-! ### TIM_CFG (R253, R254, R261) -/

section Config
variable {s : State} {c d : TimeCfg} {x : TSrc}

/-- A write of TIM_CFG over `c` turns to a source: one that is not enabled, or that has become another source, is lost. -/
def turnSource (c : TimeCfg) (s : State) (x : TSrc) : State :=
  if s.time.cfg.en x && c.sameSource s.time.cfg x then s else loseSource x s

theorem turnSource_cfg (c : TimeCfg) (s : State) (x : TSrc) : (turnSource c s x).time.cfg = s.time.cfg := by
  unfold turnSource
  split
  · rfl
  · exact loseSource_cfg x s

theorem turnSource_disabled (h : s.time.cfg.en x = false) : (turnSource c s x).time.Invalid x := by
  rw [turnSource, if_neg (by simp [h])]
  exact loseSource_invalid x s

theorem turnSource_keeps_invalid (y : TSrc) (h : s.time.Invalid x) : (turnSource c s y).time.Invalid x := by
  unfold turnSource
  split
  · exact h
  · exact loseSource_keeps_invalid y h

/-- Once all sources have had their turn, every one that is not enabled is lost. -/
theorem turnSources_disabled (c : TimeCfg) (h : s.time.cfg.en x = false) : (timeSources.foldl (turnSource c) s).time.Invalid x :=
  foldl_reaches (f := turnSource c) (P := fun s => s.time.cfg.en x = false) (Q := fun s => s.time.Invalid x)
    (fun s y hs => by rwa [turnSource_cfg]) (fun _ => turnSource_disabled) (fun _ y => turnSource_keeps_invalid y) (mem_timeSources x) h

/-- A write of TIM_CFG takes the configuration and loses every source that it disables. -/
theorem timCfgWriteAt_spec (v : Nat) (s : State) : (timCfgWriteAt v s).time.cfg = cfgWrite s v ∧
    ∀ x, (cfgWrite s v).en x = false → (timCfgWriteAt v s).time.Invalid x := by
  have hcfg (a : State) : (timeSources.foldl (turnSource s.time.cfg) a).time.cfg = a.time.cfg :=
    foldl_keeps (·.time.cfg) _ (turnSource_cfg s.time.cfg) _ a
  exact ⟨hcfg _, fun x hx => turnSources_disabled s.time.cfg (s := State.modTime _ fun t => { t with cfg := cfgWrite s v }) hx⟩

end Config

/-! ### The other registers and the alarm (R261) -/

section Alarm
variable {s : State}

theorem exec_timNowRead (h : Reached 0 s) : exec .timNowRead s = .next (timNowReadAt s) :=
  congrArg Host.Outcome.next (gatedRead_open s 0 _ h.1 h.2)

theorem exec_timCfgWrite (h : Reached 0 s) (v : Nat) : exec (.timCfgWrite v) s = .next (timCfgWriteAt v s) :=
  congrArg Host.Outcome.next (gated_open s 0 _ h.1 h.2)

/-- Outside STANDBY an alarm that fires is disarmed, and nothing else. -/
theorem exec_timeAlarmFire (b : BootIn) (harmed : s.time.armed = true) (hdue : s.time.alarmSec * 1000000000 ≤ s.tick)
    (haon : s.pkg.pwrgdAon = true) (hw : s.wakeable = false) :
    exec (.timeAlarmFire b) s = .next (s.modTime fun t => { t with armed := false }) := by
  show execTimeAlarmFire b s = _
  simp only [execTimeAlarmFire, harmed, hdue, haon, hw, decide_true, Bool.and_self, Bool.false_eq_true, if_true, if_false]

end Alarm

/-- Settles O22, verb by verb and register by register. -/
theorem timeIsReadAndSet : Obligations.TimeIsReadAndSet := by
  unfold Obligations.TimeIsReadAndSet
  refine fun s j v c b => ⟨fun hw hp => ?read, fun hw hp => ⟨fun hq => ?set, fun hq => ?refused⟩, fun h => ⟨?now, ?config⟩, rfl,
    exec_timeAlarmFire b⟩
  case read =>
    have hb : timeRead c (drawEnergy s).2 = ((drawEnergy s).2, some (respRes s.timeBody)) := orBad_passes hp _
    exact ⟨_, rfl, (runVerb_time hw hb).1, ended_of_body hw hb (keeps_drawEnergy hw)⟩
  case set =>
    obtain ⟨t, hb, hk, htick, hfree, hset, hstepped⟩ := timeSet_steps (s := (drawEnergy s).2) hp hq (keeps_drawEnergy hw)
    obtain ⟨htime, hkept⟩ := runVerb_time hw hb
    refine ⟨_, rfl, hkept.trans htick, ?_, ?_, ?_, ended_of_body hw hb hk⟩
    · rw [htime, hfree]
    · rw [htime, hset]
    · rw [htime, hstepped]
  case refused =>
    have hb := timeSet_refused (s := (drawEnergy s).2) hp hq
    obtain ⟨htime, htick⟩ := runVerb_time hw hb
    exact ⟨_, rfl, htick, htime, ended_of_body hw hb (keeps_drawEnergy hw)⟩
  case now => exact ⟨_, exec_timNowRead h, rfl, rfl, rfl⟩
  case config =>
    obtain ⟨hcfg, hlost⟩ := timCfgWriteAt_spec v s
    exact ⟨_, exec_timCfgWrite h v, hcfg, fun x hx => hlost x (by rwa [hcfg] at hx)⟩

end Sys2Proof.Machine
end

section
/-! PROOFS. Words of a core (O35 to O39): the registers, the core after a word or an exception, and what a word at work makes of the
state. -/

namespace Sys2Proof.Machine
open Safety

/-! ### Cores of the state -/

section Cores
variable (s : State) {c : CoreId}

@[simp] theorem core_setCore_self (k : Core) : (s.setCore c k).core c = k := by
  have hnone : (s.cores.filter fun e => !(e.1 == c)).find? (fun e => e.1 == c) = none := by
    simp [List.find?_eq_none]
  simp [State.core, State.setCore, List.find?_append, hnone]

theorem core_setCore_ne {d : CoreId} (h : d ≠ c) (k : Core) : (s.setCore c k).core d = s.core d := by
  have hfind : (s.cores.filter fun e => !(e.1 == c)).find? (fun e => e.1 == d) = s.cores.find? (fun e => e.1 == d) := by
    rw [List.find?_filter]
    refine congrArg (fun p => s.cores.find? p) (funext fun e => ?_)
    by_cases he : e.1 = d
    · simp [he, h]
    · simp [he]
  have hcd : (c == d) = false := by simpa using Ne.symm h
  simp [State.core, State.setCore, List.find?_append, hfind, hcd]

/-- A change of the routine on a core that runs none changes nothing. -/
theorem modRun_idle {s : State} (h : s.run? c = none) (f : CustRun → CustRun) : s.modRun c f = s := by
  have hmap : (s.cust.runs.map fun x => if x.core == c && x.saved.isNone then f x else x) = s.cust.runs := by
    refine (List.map_congr_left fun x hx => if_neg ?_).trans (List.map_id _)
    exact List.find?_eq_none.1 h x hx
  simp only [State.modRun, hmap]

end Cores

/-! ### Registers (R366, R368, R369) -/

section Registers
variable (k : Core) (n m : Nat)

theorem wg_same (x : U64) : k.wg n x = { k with g := (k.wg n x).g } := by
  unfold Core.wg
  split <;> rfl

theorem rg_wg (x : U64) : (k.wg n x).rg m = if m ≠ 0 ∧ m = n then x else k.rg m := by
  unfold Core.wg Core.rg
  by_cases hm : m = 0
  · simp [hm]
  · by_cases hn : n = 0
    · simp [hm, hn]
    · by_cases hmn : m = n
      · simp [hn, hmn]
      · simp [hm, hn, hmn, tget_tset_ne]

theorem rg_wg_self {n : Nat} (h : n ≠ 0) (x : U64) : (k.wg n x).rg n = x := by
  simp [rg_wg, h]

theorem rg_wg_ne {n m : Nat} (h : m ≠ n) (x : U64) : (k.wg n x).rg m = k.rg m := by
  simp [rg_wg, h]

@[simp] theorem rc_wc_self (x : U64) : (k.wc n x).rc n = x := by simp [Core.rc, Core.wc]

theorem rc_wc_ne {n m : Nat} (h : m ≠ n) (x : U64) : (k.wc n x).rc m = k.rc m := by
  simp [Core.rc, Core.wc, tget_tset_ne _ _ _ _ _ h]

@[simp] theorem rv_wv_self (x : Nat) : (k.wv n x).rv n = x := by simp [Core.rv, Core.wv]

@[simp] theorem rf_wf_self (x : Nat) : (k.wf n x).rf n = x % 2 ^ 64 := by simp [Core.rf, Core.wf]

end Registers

/-! ### Products in flight and hardware loops (R374, R375, R380) -/

section Landing
variable (k : Core)

/-- Landed products change PH:PL and what is in flight. -/
theorem land_same (t : Nat) : k.land t = { k with ctl := (k.land t).ctl, flight := (k.land t).flight } := by
  have hfold : ∀ (l : List Flight) (k : Core), ∃ c, l.foldl (fun k f => k.setProduct f.value) k = { k with ctl := c } := by
    intro l
    induction l with
    | nil => exact fun k => ⟨k.ctl, rfl⟩
    | cons f l ih =>
      intro k
      obtain ⟨c, hc⟩ := ih (k.setProduct f.value)
      exact ⟨c, hc⟩
  obtain ⟨c, hc⟩ := hfold (k.flight.filter fun f => decide (f.due ≤ t)) k
  simp only [Core.land, hc]

theorem rc_setProduct {n : Nat} (hl : n ≠ kPL) (hh : n ≠ kPH) (x : Nat) : (k.setProduct x).rc n = k.rc n := by
  rw [Core.setProduct, rc_wc_ne _ hh, rc_wc_ne _ hl]

theorem rc_land {n : Nat} (hl : n ≠ kPL) (hh : n ≠ kPH) (t : Nat) : (k.land t).rc n = k.rc n := by
  have hfold : ∀ (l : List Flight) (k : Core), (l.foldl (fun k f => k.setProduct f.value) k).rc n = k.rc n := by
    intro l
    induction l with
    | nil => exact fun k => rfl
    | cons f l ih => exact fun k => (ih _).trans (rc_setProduct k hl hh _)
  exact hfold _ k

/-- By the cycle that awaits every product, none is in flight. -/
theorem settle_flight : k.settle.flight = [] := by
  have hbound : ∀ (l : List Flight) (t : Nat), t ≤ l.foldl (fun t f => max t f.due) t ∧
      ∀ f ∈ l, f.due ≤ l.foldl (fun t f => max t f.due) t := by
    intro l
    induction l with
    | nil => exact fun t => ⟨le_refl t, fun f hf => absurd hf List.not_mem_nil⟩
    | cons x l ih =>
      intro t
      obtain ⟨hle, hall⟩ := ih (max t x.due)
      refine ⟨le_trans (le_max_left _ _) hle, fun f hf => ?_⟩
      rcases List.mem_cons.1 hf with rfl | hf
      · exact le_trans (le_max_right _ _) hle
      · exact hall f hf
  show k.flight.filter (fun f => !decide (f.due ≤ k.allLanded)) = []
  rw [List.filter_eq_nil_iff]
  intro f hf
  have hdue : f.due ≤ k.allLanded := (hbound k.flight k.cycle).2 f hf
  simpa using hdue

theorem settle_same : k.settle = { k with ctl := k.settle.ctl, flight := [], cycle := k.allLanded } := by
  rw [← settle_flight k]
  show ({ k.land k.allLanded with cycle := k.allLanded } : Core) = _
  rw [land_same]
  rfl

theorem rc_settle {n : Nat} (hl : n ≠ kPL) (hh : n ≠ kPH) : k.settle.rc n = k.rc n := rc_land k hl hh _

/-- The end of hardware loops changes their counts alone. -/
theorem loopEnd_same (pc : Nat) (l : List Nat) : (loopEnd k pc l).1 = { k with ctl := (loopEnd k pc l).1.ctl } := by
  induction l generalizing k with
  | nil => rfl
  | cons lv l ih =>
    unfold loopEnd
    dsimp only
    split
    · split
      · rfl
      · exact ih _
    · exact ih k

theorem rc_loopEnd {n : Nat} (hn : n < 0x068) (pc : Nat) (l : List Nat) : (loopEnd k pc l).1.rc n = k.rc n := by
  induction l generalizing k with
  | nil => rfl
  | cons lv l ih =>
    have hne : n ≠ 0x068 + lv := by omega
    unfold loopEnd
    dsimp only
    split
    · split
      · exact rc_wc_ne k hne _
      · exact (ih _).trans (rc_wc_ne k hne _)
    · exact ih k

theorem nextWord_same (c : CoreId) (pc : Nat) : (k.nextWord c pc).1 = { k with ctl := (k.nextWord c pc).1.ctl } := by
  unfold Core.nextWord
  split
  · exact loopEnd_same k pc _
  · rfl

theorem rc_nextWord {n : Nat} (hn : n < 0x068) (c : CoreId) (pc : Nat) : (k.nextWord c pc).1.rc n = k.rc n := by
  unfold Core.nextWord
  split
  · exact rc_loopEnd k hn pc _
  · rfl

/-- After a word the pc, the cycle and the counts of the hardware loops have moved, and nothing else. -/
theorem after_same (c : CoreId) (pc : Nat) (f : Flow) (t : Nat) : k.after c pc f t =
    { k with pc := (k.after c pc f t).pc, ctl := (k.after c pc f t).ctl, cycle := (k.after c pc f t).cycle } := by
  cases f with
  | next =>
    have h := nextWord_same { k with cycle := k.cycle + t } c pc
    dsimp only [Core.after]
    rw [h]
  | goto a => rfl
  | again => rfl
  | ended => rfl

theorem rc_after {n : Nat} (hn : n < 0x068) (c : CoreId) (pc : Nat) (f : Flow) (t : Nat) : (k.after c pc f t).rc n = k.rc n := by
  cases f with
  | next => exact rc_nextWord { k with cycle := k.cycle + t } hn c pc
  | goto a => rfl
  | again => rfl
  | ended => rfl

@[simp] theorem rg_after (c : CoreId) (pc : Nat) (f : Flow) (t n : Nat) : (k.after c pc f t).rg n = k.rg n := by
  rw [after_same]; rfl

@[simp] theorem rv_after (c : CoreId) (pc : Nat) (f : Flow) (t n : Nat) : (k.after c pc f t).rv n = k.rv n := by
  rw [after_same]; rfl

@[simp] theorem rf_after (c : CoreId) (pc : Nat) (f : Flow) (t n : Nat) : (k.after c pc f t).rf n = k.rf n := by
  rw [after_same]; rfl

end Landing

/-! ### Exceptions (R385, R387) -/

section Exceptions
variable (c : CoreId) (k : Core)

theorem status_congr {k k' : Core} (hie : k'.ie = k.ie) (hinh : k'.inh = k.inh) (hcust : k'.cust = k.cust) (hfl : k'.flight = k.flight) :
    k'.status c = k.status c := by
  simp only [Core.status, hie, hinh, hcust, hfl]

/-- The handler is entered from a core that has settled, whatever the hardware loops have counted. -/
theorem enter_took {k' : Core} (hsame : k' = { k.settle with ctl := k'.ctl }) (hrc : k'.rc kEVEC = k.rc kEVEC) (e v epc : Nat) :
    Took c k e v epc (k'.enter c epc (e + flag (!k.flight.isEmpty) 9) (some v)) := by
  have hstatus : k'.status c = k.settle.status c := by
    rw [hsame]
    exact status_congr c rfl rfl rfl rfl
  have hflight : k'.flight = [] := by rw [hsame]; exact settle_flight k
  have hg : k'.g = k.g := by rw [hsame, settle_same]
  have hv : k'.v = k.v := by rw [hsame, settle_same]
  have hm : k'.lmem = k.lmem := by rw [hsame, settle_same]
  refine ⟨congrArg BitVec.toNat hrc, ?epc, ?eval, ?ecause, ?estatus, rfl, rfl, hflight, hg, hv, hm⟩
  case estatus =>
    rw [← hstatus]
    exact rc_wc_self _ _ _
  case epc =>
    show (((((k'.wc kEPC _).wc kECAUSE _).wc kEVAL _).wc kESTATUS _).rc kEPC) = _
    rw [rc_wc_ne _ (by decide), rc_wc_ne _ (by decide), rc_wc_ne _ (by decide), rc_wc_self]
  case ecause =>
    show (((((k'.wc kEPC _).wc kECAUSE _).wc kEVAL _).wc kESTATUS _).rc kECAUSE) = _
    rw [rc_wc_ne _ (by decide), rc_wc_ne _ (by decide), rc_wc_self]
  case eval =>
    show (((((k'.wc kEPC _).wc kECAUSE _).wc kEVAL _).wc kESTATUS _).rc kEVAL) = _
    rw [rc_wc_ne _ (by decide), rc_wc_self]

/-- An exception other than TRAP saves the address of its word. -/
theorem exception_took {e : Nat} (he : e ≠ xTRAP) (v : Nat) : Took c k e v k.pc (k.exception c e v) := by
  have h := enter_took c k (k' := k.settle) rfl (rc_settle k (by decide) (by decide)) e v k.pc
  simpa only [Core.exception, he, if_false] using h

/-- TRAP saves the address of the word after it. -/
theorem trap_took (v : Nat) : Took c k xTRAP v (k.settle.nextWord c k.pc).2 (k.exception c xTRAP v) := by
  have hrc : (k.settle.nextWord c k.pc).1.rc kEVEC = k.rc kEVEC :=
    (rc_nextWord _ (by decide) c k.pc).trans (rc_settle k (by decide) (by decide))
  exact enter_took c k (nextWord_same _ c k.pc) hrc xTRAP v _

end Exceptions

/-! ### A word at work (R362, R384 to R386) -/

section Words
variable {s : State} {c : CoreId} {stall : Nat} {w : U32} {k k' : Core} {cl : KClass} {run : Reach → Nat → Nat → Core → KOut}

/-- No interrupt waits, and the core runs no customer code. -/
def Core.Quiet (k : Core) : Prop := k.pending = [] ∧ k.cust = false

theorem cust_of_atAnyWord (h : AtAnyWord c stall k s) : k.cust = false := by
  obtain ⟨-, hcust, -, hk, -⟩ := h
  rw [hk, land_same]
  exact hcust

theorem quiet_of_atWord (h : AtWord c stall k s) : k.Quiet := ⟨h.2, cust_of_atAnyWord h.1⟩

/-- What is left of a word once its outcome is known: the free values, the core, and the single step of a debug session. -/
def leaves (c : CoreId) (k : Core) (s : State) : State := stepped c ((drawNat s).2.setCore c k)

theorem leaves_core (k : Core) (s : State) : (leaves c k s).core c = k := core_setCore_self _ k

theorem leaves_only (k : Core) (s : State) : OnlyCore c s (leaves c k s) :=
  ⟨fun _ hd => core_setCore_ne (drawNat s).2 hd k, rfl⟩

/-- A word of its row, or a reserved one, has its outcome on the core as it stands after the stall. -/
theorem kexec_runs (h : AtAnyWord c stall k s) (hcl : kclass w.toNat = some cl ∨ kclass w.toNat = none) :
    kexec cl c stall w s run =
      stepped c (kdone c k.pc (if kclass w.toNat = none then illegal k else run none (drawNat s).1 s.free k) (drawNat s).2) := by
  have hcust := cust_of_atAnyWord h
  obtain ⟨hruns, hcust0, hrun, hk, hpc, hstore⟩ := h
  have hfetch : kfetch c none k w.toNat = some none := by
    have hin : ¬ (c.isC = true ∧ ¬ (decide (k.pc / 0x1000000 = 1) && decide (k.pc % 0x1000000 < 16 * 16384)) = true) := by
      rintro ⟨hc, hnot⟩
      obtain ⟨h1, h2⟩ := hstore hc
      exact hnot (by simp [h1, h2])
    simp only [kfetch, hpc, ne_eq, not_true_eq_false, if_false]
    exact if_neg hin
  have hidle : (drawNat s).2.run? c = none := hrun
  unfold kexec
  rw [if_pos ⟨hruns, hcl⟩]
  simp only [← hk, hcust, Bool.false_eq_true, if_false, hfetch, modRun_idle hidle, Option.map_none]

/-- A word that completes puts its core there, where no routine runs and no interrupt waits. -/
theorem kdone_done {u : State} (hrun : u.run? c = none) (pc n : Nat) {f : Flow} (hf : f ≠ .ended) :
    kdone c pc (.done k f n) u = u.setCore c ((k.after c pc f n).boundary c) := by
  have hpoint : ∀ x : Core, custPoint c (u.setCore c x) = u.setCore c x := by
    intro x
    have h : (u.setCore c x).run? c = none := hrun
    simp only [custPoint, h]
  simp only [kdone, hf, if_false, hpoint]

theorem kdone_exc {u : State} (hrun : u.run? c = none) (hno : noHandler c k = false) (pc e v : Nat) :
    kdone c pc (.exc k e v) u = u.setCore c (k.exception c e v) := by
  simp [kdone, kraise, hrun, hno]

theorem Core.Quiet.boundary_after (h : k.Quiet) (pc : Nat) (f : Flow) (n : Nat) :
    (k.after c pc f n).boundary c = k.after c pc f n := by
  obtain ⟨hp, hc⟩ := h
  have hpend : (k.after c pc f n).pending = [] := by rw [after_same]; exact hp
  simp [Core.boundary, hpend]

theorem kexec_anyDone (h : AtAnyWord c stall k s) (hcl : kclass w.toNat = some cl) {f : Flow} {n : Nat}
    (hrun : run none (drawNat s).1 s.free k = .done k' f n) (hf : f ≠ .ended) :
    kexec cl c stall w s run = leaves c ((k'.after c k.pc f n).boundary c) s := by
  have hidle : (drawNat s).2.run? c = none := h.2.2.1
  rw [kexec_runs h (.inl hcl), if_neg (by simp [hcl]), hrun, kdone_done hidle _ _ hf, leaves]

/-- A word that completes leaves its core as its outcome says, and changes nothing else. -/
theorem kexec_done (h : AtWord c stall k s) (hcl : kclass w.toNat = some cl) {f : Flow} {n : Nat}
    (hrun : run none (drawNat s).1 s.free k = .done k' f n) (hf : f ≠ .ended) (hq : k'.Quiet) :
    kexec cl c stall w s run = leaves c (k'.after c k.pc f n) s := by
  rw [kexec_anyDone h.1 hcl hrun hf, hq.boundary_after]

/-- A word that raises an exception enters the handler, where there is one. -/
theorem kexec_exc (h : AtWord c stall k s) (hcl : kclass w.toNat = some cl) {e v : Nat}
    (hrun : run none (drawNat s).1 s.free k = .exc k e v) (hno : noHandler c k = false) :
    kexec cl c stall w s run = leaves c (k.exception c e v) s := by
  have hidle : (drawNat s).2.run? c = none := h.1.2.2.1
  rw [kexec_runs h.1 (.inl hcl), if_neg (by simp [hcl]), hrun, kdone_exc hidle hno, leaves]

/-- A reserved word raises ILLEGAL. -/
theorem kexec_reserved (h : AtWord c stall k s) (hcl : kclass w.toNat = none) (hno : noHandler c k = false) :
    kexec cl c stall w s run = leaves c (k.exception c xILLEGAL k.pc) s := by
  have hidle : (drawNat s).2.run? c = none := h.1.2.2.1
  rw [kexec_runs h.1 (.inr hcl), if_pos hcl, illegal, kdone_exc hidle hno, leaves]

theorem completes_into (h : AtWord c stall k s) (hcl : kclass w.toNat = some cl) {f : Flow} {n : Nat}
    (hrun : run none (drawNat s).1 s.free k = .done k' f n) (hf : f ≠ .ended) (hq : k'.Quiet) :
    ∃ t, (.next (kexec cl c stall w s run) : Host.Outcome State Fault Refusal) = .next t ∧ t.core c = k'.after c k.pc f n ∧
      OnlyCore c s t := by
  rw [kexec_done h hcl hrun hf hq]
  exact ⟨_, rfl, leaves_core _ s, leaves_only _ s⟩

theorem traps_with (h : AtWord c stall k s) (hcl : kclass w.toNat = some cl) {e v : Nat} (he : e ≠ xTRAP)
    (hrun : run none (drawNat s).1 s.free k = .exc k e v) (hno : noHandler c k = false) :
    ∃ t, (.next (kexec cl c stall w s run) : Host.Outcome State Fault Refusal) = .next t ∧ OnlyCore c s t ∧
      Took c k e v k.pc (t.core c) := by
  rw [kexec_exc h hcl hrun hno]
  refine ⟨_, rfl, leaves_only _ s, ?_⟩
  rw [leaves_core]
  exact exception_took c k he v

theorem Core.Quiet.wg (h : k.Quiet) (n : Nat) (x : U64) : (k.wg n x).Quiet := by
  rw [wg_same]; exact h

theorem Core.Quiet.wc (h : k.Quiet) (n : Nat) (x : U64) : (k.wc n x).Quiet := h

theorem Core.Quiet.wf (h : k.Quiet) (n x : Nat) : (k.wf n x).Quiet := h

theorem Core.Quiet.wv (h : k.Quiet) (n x : Nat) : (k.wv n x).Quiet := h

end Words

end Sys2Proof.Machine
end

section
/-! PROOFS. Integer, multiply, control-register and paired words of a core (O35). -/

namespace Sys2Proof.Machine
open Safety

/-! ### What the words compute (R369, R374, R388) -/

section Integers
variable {w fr n : Nat} {k k' : Core} {c : CoreId}

theorem kwAlu_registers (h : wOP w = 1) {x : U64} (hx : aluFn (wFN w) (k.rg (wRs1 w)) (k.rg (wRs2 w)) fr = some x) :
    kwAlu w fr k = .ok (k.wg (wRd w) x) := by
  simp [kwAlu, h, hx]

theorem aluFn_shift {f : Nat} (h : f = 5 ∨ f = 6 ∨ f = 7) (a b : U64) : ∃ x, aluFn f a b fr = some x := by
  rcases h with rfl | rfl | rfl <;> exact ⟨_, rfl⟩

theorem wFN_of_mulU (h : kclass w = some .mulU) : wFN w = 0 := by
  unfold kclass at h
  grind

theorem wFN_of_mulS (h : kclass w = some .mulS) : wFN w = 1 := by
  unfold kclass at h
  grind

theorem wFN_of_macU (h : kclass w = some .macU) : wFN w = 2 := by
  unfold kclass at h
  grind

/-- The core with a product sent (R374). -/
def Core.sends (k : Core) (n : Nat) : Core := { k with flight := k.flight ++ [{ due := k.cycle + 3, value := n % 2 ^ 128 }] }

theorem kwMul_sends (hrd : wRd w = 0) {p : Nat} (h : (wFN w = 0 ∧ p = (k.rg (wRs1 w)).toNat * (k.rg (wRs2 w)).toNat) ∨
    (wFN w = 1 ∧ p = (BitVec.ofInt 128 ((k.rg (wRs1 w)).toInt * (k.rg (wRs2 w)).toInt)).toNat) ∨
    (wFN w = 2 ∧ p = k.product + (k.rg (wRs1 w)).toNat * (k.rg (wRs2 w)).toNat)) : kwMul w k = .ok (k.sends p) := by
  rcases h with ⟨hfn, rfl⟩ | ⟨hfn, rfl⟩ | ⟨hfn, rfl⟩ <;> simp [kwMul, hrd, hfn, Core.sends]

theorem kwCtlTo_writes (h0 : bits w 13 10 = 0) {v : U64} (hv : ctlRead c k (bits w 9 0) = some v) {f : U64 → U64 → U64}
    (hw : ctlWrite c k (bits w 9 0) (f v (k.rg (wRs1 w))) = some k') : kwCtlTo c none w k f = .ok k' := by
  simp [kwCtlTo, h0, hv, hw]

theorem kwCtlwr_writes (h0 : bits w 13 10 = 0) {v : U64} (hv : ctlRead c k (bits w 9 0) = some v)
    (hshadow : bits w 9 0 = kPL ∨ bits w 9 0 = kPH → k.flight = []) (hw : ctlWrite c k (bits w 9 0) (k.rg (wRs1 w)) = some k') :
    kwCtlwr c none w k = .ok k' := by
  have hopen : ¬ ((bits w 9 0 = kPL ∨ bits w 9 0 = kPH) ∧ ¬ k.flight.isEmpty = true) := by
    rintro ⟨hn, hfl⟩
    exact hfl (by simp [hshadow hn])
  rw [kwCtlwr, if_neg hopen]
  exact kwCtlTo_writes h0 hv hw

theorem ctlWrite_quiet {x : U64} (hq : k.Quiet) (h : ctlWrite c k n x = some k') : k'.Quiet := by
  unfold ctlWrite at h
  repeat' split at h
  all_goals cases h
  all_goals exact hq

theorem swrite_quiet (hq : k.Quiet) (a : SWrite) : (a.to k).Quiet := by
  cases a with
  | none => exact hq
  | g n x => exact hq.wg n x
  | f n x => exact hq.wf n x

theorem kwPaired_writes {p q : SWrite} (hp : shortOp k (bits w 30 16) = some p) (hq : shortOp k (bits w 15 1) = some q)
    (h0 : bit w 0 = false) (hclash : p.clash q = false) : kwPaired w k = .ok (q.to (p.to k)) := by
  simp [kwPaired, hp, hq, h0, hclash]

end Integers

/-! ### The words at work -/

section IntegerWords
variable {s : State} {c : CoreId} {stall : Nat} {w : U32} {k k' : Core} {cl : KClass}

/-- A word of one operation that goes on to the next leaves its core as its meaning says. -/
theorem plain_next (h : AtWord c stall k s) (hcl : kclass w.toNat = some cl)
    (hrun : kword c none w.toNat (drawNat s).1 s.free k = .ok k') (hq : k'.Quiet) :
    ∃ t, (.next (kexec cl c stall w s (plain c w)) : Host.Outcome State Fault Refusal) = .next t ∧
      t.core c = k'.after c k.pc .next 1 ∧ OnlyCore c s t :=
  completes_into h hcl hrun (by simp) hq

theorem aluOp_next (h : AtWord c stall k s) (hcl : kclass w.toNat = some .alu) {x : U64}
    (hx : kwAlu w.toNat (drawNat s).1 k = .ok (k.wg (wRd w.toNat) x)) :
    ∃ t, exec (.kAluOp c stall w) s = .next t ∧ t.core c = (k.wg (wRd w.toNat) x).after c k.pc .next 1 ∧ OnlyCore c s t :=
  plain_next h hcl (by rw [kword, hcl]; exact hx) ((quiet_of_atWord h).wg _ _)

end IntegerWords

/-- Settles O35, class by class of the words. -/
theorem integerWords : Obligations.IntegerWords := by
  unfold Obligations.IntegerWords
  intro s c stall w k h
  have hq := quiet_of_atWord h
  refine ⟨fun hcl => ⟨fun hop => ?fn, fun hop => ?addi, fun hop => ?andi, fun hop => ?ori, fun hop => ?xori, fun hop h0 => ?shl,
    fun hop h1 => ?shr, fun hop h2 => ?sar, fun hop => ?lui⟩, fun hrd => ⟨fun hcl => ?mulU, fun hcl => ?mulS, fun hcl => ?macU⟩,
    fun v h0 hv => ⟨fun hcl => ?rd, fun hcl hshadow k' hw => ?wr, fun hcl k' hw => ?set, fun hcl k' hw => ?clr⟩,
    fun hcl p q hp hq' hb hclash => ?paired, fun hcl hno => ?reserved⟩
  case fn =>
    have put {x : U64} (hx : aluFn (wFN w.toNat) (k.rg (wRs1 w.toNat)) (k.rg (wRs2 w.toNat)) (drawNat s).1 = some x) :=
      aluOp_next h hcl (kwAlu_registers hop hx)
    refine ⟨fun hf => ?_, fun hf => ?_, fun hf => ?_, fun hf => ?_, fun hf => ?_, fun hf hlt => ?_, fun hf hlt => ?_, fun hf hlt => ?_,
      fun hf => ?any, fun hf => ?_, fun hf => ?_, fun hf => ?_, fun hf => ?_, fun hf => ?_, fun hf => ?_⟩
    case any =>
      obtain ⟨x, hx⟩ := aluFn_shift hf (k.rg (wRs1 w.toNat)) (k.rg (wRs2 w.toNat)) (fr := (drawNat s).1)
      exact ⟨x, put hx⟩
    all_goals exact put (by simp [aluFn, shiftBy, BitVec.slt, BitVec.ult, *])
  case addi => exact aluOp_next h hcl (by simp [kwAlu, hop])
  case andi => exact aluOp_next h hcl (by simp [kwAlu, hop])
  case ori => exact aluOp_next h hcl (by simp [kwAlu, hop])
  case xori => exact aluOp_next h hcl (by simp [kwAlu, hop])
  case shl => exact aluOp_next h hcl (by simp [kwAlu, hop, h0])
  case shr => exact aluOp_next h hcl (by simp [kwAlu, hop, h1])
  case sar => exact aluOp_next h hcl (by simp [kwAlu, hop, h2])
  case lui => exact aluOp_next h hcl (by simp [kwAlu, hop])
  case mulU => exact plain_next h hcl (by rw [kword, hcl]; exact kwMul_sends hrd (.inl ⟨wFN_of_mulU hcl, rfl⟩)) hq
  case mulS => exact plain_next h hcl (by rw [kword, hcl]; exact kwMul_sends hrd (.inr (.inl ⟨wFN_of_mulS hcl, rfl⟩))) hq
  case macU => exact plain_next h hcl (by rw [kword, hcl]; exact kwMul_sends hrd (.inr (.inr ⟨wFN_of_macU hcl, rfl⟩))) hq
  case rd => exact plain_next h hcl (by simp [kword, hcl, kwCtlrd, h0, hv]) (hq.wg _ _)
  case wr => exact plain_next h hcl (by rw [kword, hcl]; exact kwCtlwr_writes h0 hv hshadow hw) (ctlWrite_quiet hq hw)
  case set => exact plain_next h hcl (by rw [kword, hcl]; exact kwCtlTo_writes h0 hv hw) (ctlWrite_quiet hq hw)
  case clr => exact plain_next h hcl (by rw [kword, hcl]; exact kwCtlTo_writes h0 hv hw) (ctlWrite_quiet hq hw)
  case paired =>
    exact plain_next h hcl (by rw [kword, hcl]; exact kwPaired_writes hp hq' hb hclash) (swrite_quiet (swrite_quiet hq p) q)
  case reserved =>
    refine ⟨_, congrArg Host.Outcome.next (kexec_reserved h hcl hno), leaves_only _ s, ?_⟩
    rw [leaves_core]
    exact exception_took c k (by decide) _

end Sys2Proof.Machine
end

section
/-! PROOFS. Local memory and elements (O36 to O39): what reads find after writes, and what a run over the elements leaves. -/

namespace Sys2Proof.Machine
open Safety

/-! ### Tables with an entry for a key or none -/

section Find
variable {α : Type} (t : Tbl α) {k q : Nat}

theorem tfind_tins_ne (v : α) (h : q ≠ k) : tfind (tins k v t) q = tfind t q := by
  induction t with
  | nil => simp [tins, tfind, Ne.symm h]
  | cons e t ih =>
    obtain ⟨a, x⟩ := e
    unfold tins
    split
    · simp [tfind, Ne.symm h]
    · split
      · next heq =>
        subst heq
        simp [tfind, Ne.symm h]
      · simp [tfind, ih]

theorem tfind_tdel_self (k : Nat) : tfind (tdel t k) k = none := by
  induction t with
  | nil => rfl
  | cons e t ih =>
    obtain ⟨a, x⟩ := e
    by_cases ha : a = k <;> simp [tdel, tfind, ha, ih]

theorem tfind_tdel_ne (h : q ≠ k) : tfind (tdel t k) q = tfind t q := by
  induction t with
  | nil => rfl
  | cons e t ih =>
    obtain ⟨a, x⟩ := e
    by_cases ha : a = k
    · subst ha
      simp [tdel, tfind, ih, Ne.symm h]
    · simp [tdel, tfind, ha, ih]

end Find

/-! ### Local memory (R384, R388) -/

section Memory
variable {k k' : Core} {c : CoreId} {rch : Reach} {a q n : Nat}

theorem localByte_congr (hm : k'.lmem = k.lmem) (hb : k'.lbase = k.lbase) (q : Nat) : k'.localByte q = k.localByte q := by
  simp only [Core.localByte, hm, hb]

theorem localByte_writeByte (k : Core) (a : Nat) (b : Byte) (q : Nat) :
    (k.writeByte a b).localByte q = if q = a then b else k.localByte q := by
  unfold Core.writeByte
  split
  next hb =>
    by_cases hq : q = a
    · subst hq
      rw [if_pos rfl, ← hb]
      simp only [Core.localByte, tfind_tdel_self]
      rfl
    · rw [if_neg hq]
      simp only [Core.localByte, tfind_tdel_ne _ hq]
  next =>
    by_cases hq : q = a
    · subst hq
      simp [Core.localByte]
    · rw [if_neg hq]
      simp only [Core.localByte, tfind_tins_ne _ _ hq]

theorem writeBytes_same (bs : List Byte) (k : Core) (a : Nat) : k.writeBytes a bs = { k with lmem := (k.writeBytes a bs).lmem } := by
  induction bs generalizing k a with
  | nil => rfl
  | cons b bs ih => exact ih (k.writeByte a b) (a + 1)

theorem localByte_writeBytes_outside (bs : List Byte) (k : Core) (h : q < a ∨ a + bs.length ≤ q) :
    (k.writeBytes a bs).localByte q = k.localByte q := by
  induction bs generalizing k a with
  | nil => rfl
  | cons b bs ih =>
    rw [List.length_cons] at h
    refine (ih (k.writeByte a b) (by omega)).trans ?_
    rw [localByte_writeByte, if_neg (by omega)]

/-- The bytes written are those read back. -/
theorem localBytes_writeBytes (bs : List Byte) (k : Core) (a : Nat) :
    (List.range bs.length).map (fun o => (k.writeBytes a bs).localByte (a + o)) = bs := by
  induction bs generalizing k a with
  | nil => rfl
  | cons b bs ih =>
    have hhead : ((k.writeByte a b).writeBytes (a + 1) bs).localByte a = b := by
      rw [localByte_writeBytes_outside bs _ (by omega), localByte_writeByte, if_pos rfl]
    have htail := ih (k.writeByte a b) (a + 1)
    rw [List.length_cons, List.range_succ_eq_map, List.map_cons, List.map_map]
    refine List.cons_eq_cons.2 ⟨hhead, ?_⟩
    calc _ = (List.range bs.length).map (fun o => ((k.writeByte a b).writeBytes (a + 1) bs).localByte (a + 1 + o)) :=
          List.map_congr_left fun o _ => by
            show ((k.writeByte a b).writeBytes (a + 1) bs).localByte (a + (o + 1)) = _
            rw [Nat.add_right_comm, Nat.add_assoc]
      _ = bs := htail

/-- A read of local memory finds its bytes. -/
theorem readBytes_local (h : a + n ≤ c.lmemBytes) : k.readBytes c rch a n = some ((List.range n).map fun o => k.localByte (a + o)) := by
  induction n generalizing a with
  | zero => rfl
  | succ n ih =>
    have hbyte : k.readByte c rch a = some (k.localByte a) := if_pos (by omega)
    simp only [Core.readBytes, hbyte, ih (a := a + 1) (by omega), List.range_succ_eq_map, List.map_cons, List.map_map,
      Option.some_inj, Nat.add_zero, List.cons_eq_cons, true_and]
    refine List.map_congr_left fun o _ => ?_
    show _ = k.localByte (a + (o + 1))
    rw [Nat.add_right_comm, Nat.add_assoc]

theorem readBytes_writeBytes {bs : List Byte} (hn : bs.length = n) (h : a + n ≤ c.lmemBytes) :
    (k.writeBytes a bs).readBytes c rch a n = some bs := by
  subst hn
  rw [readBytes_local h, localBytes_writeBytes]

theorem readBytes_congr (h : a + n ≤ c.lmemBytes) (hm : k'.lmem = k.lmem) (hb : k'.lbase = k.lbase) :
    k'.readBytes c rch a n = k.readBytes c rch a n := by
  rw [readBytes_local h, readBytes_local h]
  simp only [localByte_congr hm hb]

theorem load_aligned (h : a % n = 0) {bs : List Byte} (hb : k.readBytes c rch a n = some bs) : k.load c rch a n = .ok (unle bs) := by
  simp [Core.load, h, hb]

theorem load_misaligned (h : a % n ≠ 0) : k.load c rch a n = .error xMISALIGNED := if_neg h

theorem load_out_of_reach (h : a % n = 0) (hb : k.readBytes c rch a n = none) : k.load c rch a n = .error xACCESS := by
  simp [Core.load, h, hb]

theorem store_aligned (h : a % n = 0) (hin : a + n ≤ c.lmemBytes) (x : Nat) : k.store c a n x = .ok (k.writeBytes a (le n x)) := by
  rw [Core.store, if_pos h, if_pos hin]

theorem store_misaligned (h : a % n ≠ 0) (x : Nat) : k.store c a n x = .error xMISALIGNED := if_neg h

theorem store_out_of_reach (h : a % n = 0) (hout : c.lmemBytes < a + n) (x : Nat) : k.store c a n x = .error xACCESS := by
  rw [Core.store, if_pos h, if_neg hout.not_ge]

end Memory

/-! ### Elements (R368, R370) -/

section Elements
variable {n : Nat}

theorem setElem_split (x i y : Nat) : setElem n x i y =
    (x / 2 ^ (n * i) / 2 ^ n * 2 ^ n + y % 2 ^ n) * 2 ^ (n * i) + x % 2 ^ (n * i) := by
  have h1 := Nat.div_add_mod x (2 ^ (n * i))
  have h2 := Nat.div_add_mod (x / 2 ^ (n * i)) (2 ^ n)
  unfold setElem elem
  set a := x / 2 ^ (n * i)
  set l := x % 2 ^ (n * i)
  set p := 2 ^ (n * i)
  set m := a % 2 ^ n
  set d := a / 2 ^ n
  have hx : x = (d * 2 ^ n + m) * p + l := by rw [Nat.mul_comm d, h2, Nat.mul_comm, h1]
  rw [hx, Nat.add_mul, Nat.add_mul]
  omega

/-- Setting an element leaves the others. -/
theorem elem_setElem (x i j y : Nat) : elem n (setElem n x i y) j = if j = i then y % 2 ^ n else elem n x j := by
  have hp : 0 < 2 ^ (n * i) := Nat.two_pow_pos _
  have hlow : x % 2 ^ (n * i) < 2 ^ (n * i) := Nat.mod_lt _ hp
  have hdiv : setElem n x i y / 2 ^ (n * i) = x / 2 ^ (n * i) / 2 ^ n * 2 ^ n + y % 2 ^ n := by
    rw [setElem_split, Nat.add_comm, Nat.add_mul_div_right _ _ hp, Nat.div_eq_of_lt hlow, Nat.zero_add]
  rcases lt_trichotomy j i with hlt | rfl | hgt
  · obtain ⟨d, rfl⟩ := Nat.exists_eq_add_of_lt hlt
    have hpow : 2 ^ (n * (j + d + 1)) = 2 ^ (n * j) * (2 ^ n * 2 ^ (n * d)) := by
      rw [← pow_add, ← pow_add]
      congr 1
      ring
    have hmod : setElem n x (j + d + 1) y % 2 ^ (n * (j + d + 1)) = x % 2 ^ (n * (j + d + 1)) := by
      rw [setElem_split, Nat.add_comm, Nat.add_mul_mod_self_right, Nat.mod_mod]
    have hread : ∀ z, elem n z j = z % 2 ^ (n * (j + d + 1)) / 2 ^ (n * j) % 2 ^ n := by
      intro z
      rw [hpow, Nat.mod_mul_right_div_self, Nat.mod_mul_right_mod]
      rfl
    rw [if_neg (by omega), hread, hread, hmod]
  · rw [if_pos rfl]
    show setElem n x j y / 2 ^ (n * j) % 2 ^ n = _
    rw [hdiv, Nat.add_comm, Nat.add_mul_mod_self_right, Nat.mod_mod]
  · obtain ⟨d, rfl⟩ := Nat.exists_eq_add_of_lt hgt
    have hpow : 2 ^ (n * (i + d + 1)) = 2 ^ (n * i) * (2 ^ n * 2 ^ (n * d)) := by
      rw [← pow_add, ← pow_add]
      congr 1
      ring
    have hread : ∀ z, elem n z (i + d + 1) = z / 2 ^ (n * i) / 2 ^ n / 2 ^ (n * d) % 2 ^ n := by
      intro z
      rw [Nat.div_div_eq_div_mul, Nat.div_div_eq_div_mul, ← hpow]
      rfl
    have hhigh : setElem n x i y / 2 ^ (n * i) / 2 ^ n = x / 2 ^ (n * i) / 2 ^ n := by
      rw [hdiv, Nat.add_comm, Nat.add_mul_div_right _ _ (Nat.two_pow_pos n), Nat.div_eq_of_lt (Nat.mod_lt _ (Nat.two_pow_pos n)),
        Nat.zero_add]
    rw [if_neg (by omega), hread, hread, hhigh]

/-- Setting elements in turn: those that take part hold their values, and the others are as they were. -/
theorem elem_foldl_setElem (p : Nat → Bool) (f : Nat → Nat) (l : List Nat) (x j : Nat) :
    elem n (l.foldl (fun x i => if p i then setElem n x i (f i) else x) x) j =
      if j ∈ l ∧ p j = true then f j % 2 ^ n else elem n x j := by
  induction l generalizing x with
  | nil => simp
  | cons i l ih =>
    rw [List.foldl_cons, ih]
    by_cases hl : j ∈ l ∧ p j = true
    · rw [if_pos hl, if_pos ⟨List.mem_cons_of_mem i hl.1, hl.2⟩]
    · rw [if_neg hl]
      by_cases hi : p i = true
      · rw [if_pos hi, elem_setElem]
        by_cases hj : j = i
        · subst hj
          rw [if_pos rfl, if_pos ⟨List.mem_cons_self, hi⟩]
        · rw [if_neg hj, if_neg fun h => hl ⟨(List.mem_cons.1 h.1).resolve_left hj, h.2⟩]
      · rw [if_neg hi, if_neg]
        rintro ⟨hmem, hj⟩
        rcases List.mem_cons.1 hmem with rfl | hmem
        · exact hi hj
        · exact hl ⟨hmem, hj⟩

theorem elem_foldl_setElem_all (f : Nat → Nat) (l : List Nat) (x j : Nat) :
    elem n (l.foldl (fun x i => setElem n x i (f i)) x) j = if j ∈ l then f j % 2 ^ n else elem n x j := by
  simpa using elem_foldl_setElem (n := n) (fun _ => true) f l x j

end Elements

end Sys2Proof.Machine
end

section
/-! PROOFS. Memory, call and return words of a core (O36, O39): loads and stores, the stack, and vectors in memory. -/

namespace Sys2Proof.Machine
open Safety

/-! ### Loads and stores (R377, R383, R388) -/

section Accesses
variable {s : State} {c : CoreId} {stall : Nat} {w : U32} {k k' : Core} {cl : KClass} {f : Flow} {cy e v p n x : Nat}

theorem after_lmem (k : Core) (m : Tbl Byte) (c : CoreId) (pc : Nat) (f : Flow) (cy : Nat) :
    ({ k with lmem := m } : Core).after c pc f cy = { k.after c pc f cy with lmem := m } := by
  have hloop : ∀ (l : List Nat) (k : Core), loopEnd { k with lmem := m } pc l =
      ({ (loopEnd k pc l).1 with lmem := m }, (loopEnd k pc l).2) := by
    intro l
    induction l with
    | nil => exact fun k => rfl
    | cons lv l ih =>
      intro k
      unfold loopEnd
      dsimp only
      have hrc : ∀ n, ({ k with lmem := m } : Core).rc n = k.rc n := fun _ => rfl
      simp only [hrc]
      split
      · split
        · rfl
        · exact ih (k.wc (0x068 + lv) 0)
      · exact ih k
  cases f with
  | next =>
    dsimp only [Core.after, Core.nextWord]
    split
    · rw [hloop _ { k with cycle := k.cycle + cy }]
    · rfl
  | goto a => rfl
  | again => rfl
  | ended => rfl

/-- A word goes on, and its core is as its outcome says. -/
theorem plain_done (h : AtWord c stall k s) (hcl : kclass w.toNat = some cl)
    (hrun : kword c none w.toNat (drawNat s).1 s.free k = .done k' f cy) (hf : f ≠ .ended) (hq : k'.Quiet) :
    ∃ t, (.next (kexec cl c stall w s (plain c w)) : Host.Outcome State Fault Refusal) = .next t ∧
      t.core c = k'.after c k.pc f cy ∧ OnlyCore c s t :=
  completes_into h hcl hrun hf hq

theorem plain_traps (h : AtWord c stall k s) (hcl : kclass w.toNat = some cl) (he : e ≠ xTRAP)
    (hrun : kword c none w.toNat (drawNat s).1 s.free k = .exc k e v) (hno : noHandler c k = false) :
    ∃ t, (.next (kexec cl c stall w s (plain c w)) : Host.Outcome State Fault Refusal) = .next t ∧ OnlyCore c s t ∧
      Took c k e v k.pc (t.core c) :=
  traps_with h hcl he hrun hno

/-- A word that stores `n` bytes at `p` and otherwise makes `k'` of its core. -/
theorem plain_stores (h : AtWord c stall k s) (hcl : kclass w.toNat = some cl) (hin : p + n ≤ c.lmemBytes)
    (hrun : kword c none w.toNat (drawNat s).1 s.free k = .done { k' with lmem := (k.writeBytes p (le n x)).lmem } f cy)
    (hf : f ≠ .ended) (hq : k'.Quiet) (hb : k'.lbase = k.lbase) :
    ∃ t, (.next (kexec cl c stall w s (plain c w)) : Host.Outcome State Fault Refusal) = .next t ∧ OnlyCore c s t ∧
      t.core c = { k'.after c k.pc f cy with lmem := (t.core c).lmem } ∧ (t.core c).readBytes c none p n = some (le n x) ∧
      ∀ q, q < p ∨ p + n ≤ q → (t.core c).localByte q = k.localByte q := by
  obtain ⟨t, ht, hcore, honly⟩ := plain_done h hcl hrun hf hq
  rw [after_lmem] at hcore
  have hlmem : (t.core c).lmem = (k.writeBytes p (le n x)).lmem := by rw [hcore]
  have hlbase : (t.core c).lbase = (k.writeBytes p (le n x)).lbase := by
    rw [hcore, after_same k', writeBytes_same]
    exact hb
  refine ⟨t, ht, honly, by rw [hlmem, hcore], ?_, fun q hq => ?_⟩
  · rw [readBytes_congr hin hlmem hlbase, readBytes_writeBytes (le_length n x) hin]
  · rw [localByte_congr hlmem hlbase, localByte_writeBytes_outside _ _ (by rwa [le_length])]

theorem kwLd_loads {w : Nat} {bs : List Byte} (ha : addrAdd (k.rg (wRs1 w)).toNat (wSimm14 w) % 2 ^ ((wOP w - 0x10) % 4) = 0)
    (hb : k.readBytes c none (addrAdd (k.rg (wRs1 w)).toNat (wSimm14 w)) (2 ^ ((wOP w - 0x10) % 4)) = some bs) :
    kwLd c none w k = .ok (k.wg (wRd w)
      (if wOP w < 0x14 then sext (2 ^ ((wOP w - 0x10) % 4)) (unle bs) else BitVec.ofNat 64 (unle bs))) := by
  have hsigned : (wOP w - 0x10 < 4) = (wOP w < 0x14) := propext (by omega)
  simp only [kwLd, load_aligned ha hb, hsigned]

end Accesses

/-! ### The stack (R383) -/

section Stack
variable {k : Core} {c : CoreId}

theorem kwPush_pushes (hsp : (k.rg 2 - 8).toNat % 8 = 0) (hslim : (k.rc kSLIM).toNat ≤ (k.rg 2 - 8).toNat)
    (hin : (k.rg 2 - 8).toNat + 8 ≤ c.lmemBytes) (target : Nat) : kwPush c target k =
      .done { k.wg 2 (k.rg 2 - 8) with lmem := (k.writeBytes (k.rg 2 - 8).toNat (le 8 (k.pc + 4))).lmem } (.goto target) 2 := by
  simp only [kwPush, if_neg hslim.not_gt, store_aligned hsp hin]
  rw [writeBytes_same]
  rfl

theorem kwPush_stackLimit (h : (k.rg 2 - 8).toNat < (k.rc kSLIM).toNat) (target : Nat) :
    kwPush c target k = .exc k xSTACKLIMIT (k.rg 2 - 8).toNat := if_pos h

theorem kwPush_misaligned (hslim : (k.rc kSLIM).toNat ≤ (k.rg 2 - 8).toNat) (hsp : (k.rg 2 - 8).toNat % 8 ≠ 0) (target : Nat) :
    kwPush c target k = .exc k xMISALIGNED (k.rg 2 - 8).toNat := by
  simp only [kwPush, if_neg hslim.not_gt, store_misaligned hsp]

theorem kwRet_pops {w : Nat} (h0 : bits w 23 0 = 0) (hsp : (k.rg 2).toNat % 8 = 0) {bs : List Byte}
    (hb : k.readBytes c none (k.rg 2).toNat 8 = some bs) : kwRet c none w k = .done (k.wg 2 (k.rg 2 + 8)) (.goto (unle bs)) 2 := by
  simp [kwRet, h0, load_aligned hsp hb]

theorem kwRet_misaligned {w : Nat} (h0 : bits w 23 0 = 0) (hsp : (k.rg 2).toNat % 8 ≠ 0) :
    kwRet c none w k = .exc k xMISALIGNED (k.rg 2).toNat := by
  simp only [kwRet, h0, if_true, load_misaligned hsp]

end Stack

/-! ### Vectors in memory (R371 to R373) -/

section Vectors
variable {k : Core} {c : CoreId} {w p : Nat}

theorem isC_lmemBytes (h : c.isC = true) : c.lmemBytes = 0x20000 := if_pos h

theorem fn_of_vldFirst (h : kclass w = some .vldFirst) : bits w 7 0 = 2 := by
  unfold kclass at h
  grind

/-- A vector word over local memory with unit stride and no predicate, from its first element. -/
structure UnitStride (c : CoreId) (w : Nat) (k : Core) (p : Nat) : Prop where
  profile : c.isC = true
  start : k.rc kVSTART = 0
  fn : bits w 7 0 = 0
  all : bit w 8 = false
  base : (k.rg (wRs1 w)).toNat = p
  inside : p + k.vl * k.ew ≤ c.lmemBytes
  aligned : p % k.ew = 0

variable (h : UnitStride c w k p)
include h

theorem UnitStride.range : vrange k = List.range k.vl := by
  simp [vrange, h.start]

theorem UnitStride.active (i : Nat) : Machine.active k w i = true := by
  simp [Machine.active, h.all]

theorem UnitStride.element_inside {i : Nat} (hi : i < k.vl) : p + i * k.ew + k.ew ≤ c.lmemBytes := by
  have hle : (i + 1) * k.ew ≤ k.vl * k.ew := Nat.mul_le_mul_right _ hi
  have hin := h.inside
  rw [Nat.succ_mul] at hle
  omega

theorem UnitStride.addr {i : Nat} (hi : i < k.vl) : elemAddr k w i = p + i * k.ew := by
  have hin := h.element_inside hi
  rw [isC_lmemBytes h.profile] at hin
  simp only [elemAddr, h.fn, h.base]
  exact Nat.mod_eq_of_lt (by omega)

theorem UnitStride.addr_aligned (i : Nat) : (p + i * k.ew) % k.ew = 0 := by
  rw [Nat.add_mul_mod_self_right, h.aligned]

/-- The value in memory of element `i`. -/
def memElem (k : Core) (p i : Nat) : Nat := unle ((List.range k.ew).map fun o => k.localByte (p + i * k.ew + o))

theorem UnitStride.loads (l : List Nat) (hl : ∀ i ∈ l, i < k.vl) (x : Nat) : vloads c none w k l x =
    (l.foldl (fun x i => setElem (8 * k.ew) x i (memElem k p i)) x, none) := by
  induction l generalizing x with
  | nil => rfl
  | cons i l ih =>
    have hi := hl i List.mem_cons_self
    have hload : k.load c none (elemAddr k w i) k.ew = .ok (memElem k p i) := by
      rw [h.addr hi]
      exact load_aligned (h.addr_aligned i) (readBytes_local (h.element_inside hi))
    simp only [vloads, h.active, if_true, hload]
    exact ih (fun j hj => hl j (List.mem_cons_of_mem i hj)) _

omit h in
theorem memElem_lt (k : Core) (p i : Nat) : memElem k p i < 2 ^ (8 * k.ew) := by
  have hlt := unle_lt ((List.range k.ew).map fun o => k.localByte (p + i * k.ew + o))
  rw [List.length_map, List.length_range, show 256 = 2 ^ 8 from rfl, ← pow_mul] at hlt
  exact hlt

/-- The memory after the first `m` elements have been stored. -/
def storedTo (k : Core) (p v : Nat) (m : Nat) : Core :=
  (List.range m).foldl (fun k' i => k'.writeBytes (p + i * k.ew) (le k.ew (elem (8 * k.ew) v i))) k

omit h in
theorem storedTo_succ (k : Core) (p v m : Nat) : storedTo k p v (m + 1) =
    (storedTo k p v m).writeBytes (p + m * k.ew) (le k.ew (elem (8 * k.ew) v m)) := by
  simp [storedTo, List.range_succ]

omit h in
theorem storedTo_same (k : Core) (p v m : Nat) : storedTo k p v m = { k with lmem := (storedTo k p v m).lmem } := by
  induction m with
  | zero => rfl
  | succ m ih =>
    rw [storedTo_succ, writeBytes_same]
    exact congrArg (fun x : Core =>
      { x with lmem := ((storedTo k p v m).writeBytes (p + m * k.ew) (le k.ew (elem (8 * k.ew) v m))).lmem }) ih

omit h in
theorem storedTo_outside (k : Core) (p v m : Nat) {q : Nat} (hq : q < p ∨ p + m * k.ew ≤ q) :
    (storedTo k p v m).localByte q = k.localByte q := by
  induction m with
  | zero => rfl
  | succ m ih =>
    rw [Nat.succ_mul] at hq
    rw [storedTo_succ, localByte_writeBytes_outside _ _ (by rw [le_length]; omega), ih (by omega)]

omit h in
theorem storedTo_element (k : Core) (p v m : Nat) {i : Nat} (hi : i < m) :
    (List.range k.ew).map (fun o => (storedTo k p v m).localByte (p + i * k.ew + o)) = le k.ew (elem (8 * k.ew) v i) := by
  induction m with
  | zero => cases hi
  | succ m ih =>
    rw [storedTo_succ]
    rcases Nat.lt_succ_iff_lt_or_eq.1 hi with hlt | rfl
    · rw [← ih hlt]
      refine List.map_congr_left fun o ho => localByte_writeBytes_outside _ _ (.inl ?_)
      have hle : (i + 1) * k.ew ≤ m * k.ew := Nat.mul_le_mul_right _ hlt
      have hsmall := List.mem_range.1 ho
      rw [Nat.succ_mul] at hle
      omega
    · have hback := localBytes_writeBytes (le k.ew (elem (8 * k.ew) v i)) (storedTo k p v i) (p + i * k.ew)
      rwa [le_length] at hback

theorem UnitStride.stores (l : List Nat) (hl : ∀ i ∈ l, i < k.vl) (k' : Core) : vstores c w k l k' =
    (l.foldl (fun k' i => k'.writeBytes (p + i * k.ew) (le k.ew (elem (8 * k.ew) (k.rv (wRd w)) i))) k', none) := by
  induction l generalizing k' with
  | nil => rfl
  | cons i l ih =>
    have hi := hl i List.mem_cons_self
    simp only [vstores, h.active, if_true, h.addr hi, store_aligned (h.addr_aligned i) (h.element_inside hi)]
    exact ih (fun j hj => hl j (List.mem_cons_of_mem i hj)) _

/-- A vector register after every element below VL is loaded. -/
def loadedTo (k : Core) (p v : Nat) : Nat := (List.range k.vl).foldl (fun x i => setElem (8 * k.ew) x i (memElem k p i)) v

omit h in
theorem elem_loadedTo (k : Core) (p v i : Nat) :
    elem (8 * k.ew) (loadedTo k p v) i = if i < k.vl then memElem k p i else elem (8 * k.ew) v i := by
  simp only [loadedTo, elem_foldl_setElem_all, List.mem_range, Nat.mod_eq_of_lt (memElem_lt k p i)]

theorem UnitStride.kwVld :
    Machine.kwVld c none w k = .done (k.wv (wRd w) (loadedTo k p (k.rv (wRd w)))).vdone .next (vcycles k) := by
  simp only [Machine.kwVld, h.profile, h.fn, true_or, and_self, if_true, h.range, h.loads _ fun i hi => List.mem_range.1 hi]
  rfl

theorem UnitStride.kwVst : Machine.kwVst c w k = .done (storedTo k p (k.rv (wRd w)) k.vl).vdone .next (max 1 k.vl) := by
  simp only [Machine.kwVst, h.profile, h.fn, true_or, and_self, if_true, h.range, h.stores _ fun i hi => List.mem_range.1 hi]
  rfl

end Vectors

/-- Settles O36, class by class of the words. -/
theorem memoryWords : Obligations.MemoryWords := by
  unfold Obligations.MemoryWords
  intro s c stall w k h
  have hq := quiet_of_atWord h
  refine ⟨fun hcl => ⟨fun bs ha hb => ?ld, fun ha hno => ?ldMis, fun ha hb hno => ?ldOut⟩,
    fun hcl => ⟨fun ha hin => ?st, fun ha hno => ?stMis, fun ha hout hno => ?stOut⟩,
    fun a' ha' => ⟨fun hcl bs ha hb => ?lda, fun hcl ha hin => ?sta⟩, fun hcl bs ha hb => ?fld, fun hcl ha hin => ?fst,
    fun hsp hslim hin => ⟨fun hcl => ?call, fun hcl hrd => ?callr⟩, fun hcl hslim hno => ?limit, fun hcl h0 bs hsp hb => ?ret,
    fun hc hstart hfn hall hin ha _ => ⟨fun hcl => ?vld, fun hcl => ?vst⟩, fun hcl hc i e y hy hi => ?vldFirst⟩
  case ld => exact plain_done h hcl (by rw [kword, hcl]; exact kwLd_loads ha hb) (by simp) (hq.wg _ _)
  case ldMis => exact plain_traps h hcl (by decide) (by simp only [kword, hcl, kwLd, load_misaligned ha]) hno
  case ldOut => exact plain_traps h hcl (by decide) (by simp only [kword, hcl, kwLd, load_out_of_reach ha hb]) hno
  case st => exact plain_stores h hcl hin (by simp only [kword, hcl, kwSt, store_aligned ha hin]; rw [writeBytes_same]; rfl) (by simp) hq rfl
  case stMis => exact plain_traps h hcl (by decide) (by simp only [kword, hcl, kwSt, store_misaligned ha]) hno
  case stOut => exact plain_traps h hcl (by decide) (by simp only [kword, hcl, kwSt, store_out_of_reach ha hout]) hno
  case lda => exact plain_done h hcl (by simp only [kword, hcl, kwLda, ha', load_aligned ha hb]; rfl) (by simp) ((hq.wg _ _).wc _ _)
  case sta =>
    exact plain_stores h hcl hin (by simp only [kword, hcl, kwSta, ha', store_aligned ha hin]; rw [writeBytes_same]; rfl) (by simp) (hq.wc _ _)
      rfl
  case fld => exact plain_done h hcl (by simp only [kword, hcl, kwFld, load_aligned ha hb]; rfl) (by simp) (hq.wf _ _)
  case fst => exact plain_stores h hcl hin (by simp only [kword, hcl, kwFst, store_aligned ha hin]; rw [writeBytes_same]; rfl) (by simp) hq rfl
  case call => exact plain_stores h hcl hin (by rw [kword, hcl]; exact kwPush_pushes hsp hslim hin _) (by simp) (hq.wg _ _) rfl
  case callr =>
    exact plain_stores h hcl hin (by simp only [kword, hcl, kwCallr, hrd, if_true]; exact kwPush_pushes hsp hslim hin _) (by simp)
      (hq.wg _ _) rfl
  case limit => exact plain_traps h hcl (by decide) (by rw [kword, hcl]; exact kwPush_stackLimit hslim _) hno
  case ret => exact plain_done h hcl (by rw [kword, hcl]; exact kwRet_pops h0 hsp hb) (by simp) (hq.wg _ _)
  case vld =>
    have hu : UnitStride c w.toNat k (k.rg (wRs1 w.toNat)).toNat := ⟨hc, hstart, hfn, hall, rfl, hin, ha⟩
    obtain ⟨t, ht, hcore, honly⟩ := plain_done h hcl (by rw [kword, hcl]; exact hu.kwVld) (by simp) ((hq.wv _ _).wc _ _)
    have hv : (t.core c).rv (wRd w.toNat) = loadedTo k (k.rg (wRs1 w.toNat)).toNat (k.rv (wRd w.toNat)) := by
      rw [hcore, rv_after]
      exact rv_wv_self _ _ _
    refine ⟨t, ht, honly, fun i => ⟨fun hi => ?_, fun hi => ?_⟩⟩
    · rw [hv, elem_loadedTo, if_pos hi]
      rfl
    · rw [hv, elem_loadedTo, if_neg hi.not_gt]
  case vst =>
    have hu : UnitStride c w.toNat k (k.rg (wRs1 w.toNat)).toNat := ⟨hc, hstart, hfn, hall, rfl, hin, ha⟩
    have hq' : (storedTo k (k.rg (wRs1 w.toNat)).toNat (k.rv (wRd w.toNat)) k.vl).Quiet := by
      rw [storedTo_same]
      exact hq
    obtain ⟨t, ht, hcore, honly⟩ := plain_done h hcl (by rw [kword, hcl]; exact hu.kwVst) (by simp) (hq'.wc _ _)
    have hbyte : ∀ q, (t.core c).localByte q = (storedTo k (k.rg (wRs1 w.toNat)).toNat (k.rv (wRd w.toNat)) k.vl).localByte q := by
      refine localByte_congr ?_ ?_
      · rw [hcore, after_same]
        rfl
      · rw [hcore, after_same]
        rfl
    refine ⟨t, ht, honly, fun i hi => ?_, fun q hq' => ?_⟩
    · rw [readBytes_local (hu.element_inside hi)]
      simp only [hbyte]
      exact congrArg some (storedTo_element k _ _ _ hi)
    · rw [hbyte, storedTo_outside _ _ _ _ hq']
  case vldFirst =>
    have hfn : bits w.toNat 7 0 = 2 := fn_of_vldFirst hcl
    obtain ⟨t, ht, hcore, honly⟩ := plain_done (k' := { (k.wv (wRd w.toNat) y).vdone with vl := i }) (f := .next) (cy := vcycles k) h hcl
      (by simp only [kword, hcl, kwVldFirst, hc, hfn, and_self, if_true, hy, if_neg hi]) (by simp) hq
    refine ⟨t, ht, honly, ?_, ?_, ?_⟩
    · rw [hcore, after_same]
    · rw [hcore, rc_after _ (by decide)]
      exact rc_wc_self (k.wv (wRd w.toNat) y) kVSTART 0
    · rw [hcore, rv_after]
      exact rv_wv_self _ _ _

section Pushes
variable {s : State} {c : CoreId} {stall : Nat} {w : U32} {k : Core} {cl : KClass} {target : Nat}

/-- What a word that pushes and goes on at `target` does where g2 has room below it, and what where it has none. -/
theorem push_at_work (h : AtWord c stall k s) (hcl : kclass w.toNat = some cl)
    (hrun : kword c none w.toNat (drawNat s).1 s.free k = kwPush c target k) :
    let i : Host.Outcome State Fault Refusal := .next (kexec cl c stall w s (plain c w))
    let sp := k.rg 2 - 8
    ((k.rc kSLIM).toNat ≤ sp.toNat → sp.toNat % 8 = 0 → sp.toNat + 8 ≤ c.lmemBytes → ∃ t, i = .next t ∧ OnlyCore c s t ∧
      (t.core c).rg 2 = sp ∧ (∀ n, n ≠ 2 → (t.core c).rg n = k.rg n) ∧ (t.core c).pc = target ∧
      (t.core c).readBytes c none sp.toNat 8 = some (le 8 (k.pc + 4)) ∧
      ∀ q, q < sp.toNat ∨ sp.toNat + 8 ≤ q → (t.core c).localByte q = k.localByte q) ∧
    (noHandler c k = false → sp.toNat < (k.rc kSLIM).toNat →
      ∃ t, i = .next t ∧ OnlyCore c s t ∧ Took c k xSTACKLIMIT sp.toNat k.pc (t.core c)) ∧
    (noHandler c k = false → (k.rc kSLIM).toNat ≤ sp.toNat → sp.toNat % 8 ≠ 0 →
      ∃ t, i = .next t ∧ OnlyCore c s t ∧ Took c k xMISALIGNED sp.toNat k.pc (t.core c)) := by
  refine ⟨fun hslim hsp hin => ?_, fun hno hslim => ?_, fun hno hslim hsp => ?_⟩
  · obtain ⟨t, ht, honly, hcore, hread, hkept⟩ := plain_stores h hcl hin (hrun.trans (kwPush_pushes hsp hslim hin target)) (by simp)
      ((quiet_of_atWord h).wg _ _) rfl
    have hrg : ∀ n, (t.core c).rg n = (k.wg 2 (k.rg 2 - 8)).rg n := fun n => by rw [hcore]; rfl
    refine ⟨t, ht, honly, ?_, fun n hn => ?_, by rw [hcore]; rfl, hread, hkept⟩
    · rw [hrg, rg_wg_self k (by decide)]
    · rw [hrg, rg_wg_ne k hn]
  · exact plain_traps h hcl (by decide) (hrun.trans (kwPush_stackLimit hslim target)) hno
  · exact plain_traps h hcl (by decide) (hrun.trans (kwPush_misaligned hslim hsp target)) hno

end Pushes

/-- Settles O39: CALL and CALLR push, RET pops. -/
theorem callsAndReturns : Obligations.CallsAndReturns := by
  unfold Obligations.CallsAndReturns
  intro s c stall w k h
  refine ⟨fun hcl => push_at_work h hcl (by rw [kword, hcl]; rfl),
    fun hcl hrd => push_at_work h hcl (by rw [kword, hcl]; exact if_pos hrd),
    fun hcl h0 => ⟨fun bs hsp hb => ?pops, fun hno hsp => ?misaligned⟩, fun v => rg_wg_self k (by decide) v⟩
  case pops =>
    obtain ⟨t, ht, hcore, honly⟩ := plain_done h hcl (by rw [kword, hcl]; exact kwRet_pops h0 hsp hb) (by simp)
      ((quiet_of_atWord h).wg _ _)
    refine ⟨t, ht, honly, ?_, by rw [hcore]; rfl, by rw [hcore]; rfl⟩
    rw [hcore, rg_after, rg_wg_self k (by decide)]
  case misaligned => exact plain_traps h hcl (by decide) (by rw [kword, hcl]; exact kwRet_misaligned h0 hsp) hno

end Sys2Proof.Machine
end

section
/-! PROOFS. Control words of a core (O37): branches, loops, repeats, interrupts and the system words. -/

namespace Sys2Proof.Machine
open Safety

/-! ### Branches and loops (R379, R388) -/

section Branches
variable {w : Nat} {k : Core} {c : CoreId}

/-- COND `n` holds of the operands of a branch (R388). -/
def CondHolds (a b : U64) (n : Nat) : Prop :=
  (n = 0 ∧ a = b) ∨ (n = 1 ∧ a ≠ b) ∨ (n = 2 ∧ a.toInt < b.toInt) ∨ (n = 3 ∧ b.toInt ≤ a.toInt) ∨ (n = 4 ∧ a.toNat < b.toNat) ∨
    (n = 5 ∧ b.toNat ≤ a.toNat)

theorem branchCond_holds {n : Nat} (hn : n ≤ 5) (a b : U64) : ∃ d, branchCond n a b = some d ∧ (d = true ↔ CondHolds a b n) := by
  interval_cases n
  all_goals exact ⟨_, rfl, by simp [CondHolds, BitVec.slt, BitVec.ult]⟩

theorem kwBranch_taken (hn : bits w 13 11 ≤ 5) (h : CondHolds (k.rg (wRd w)) (k.rg (wRs1 w)) (bits w 13 11)) :
    kwBranch w k = .done k (.goto (addrAdd k.pc (4 * sfield 11 (bits w 10 0)))) 2 := by
  obtain ⟨d, hd, hiff⟩ := branchCond_holds hn (k.rg (wRd w)) (k.rg (wRs1 w))
  rw [kwBranch, hd, hiff.2 h]

theorem kwBranch_untaken (hn : bits w 13 11 ≤ 5) (h : ¬ CondHolds (k.rg (wRd w)) (k.rg (wRs1 w)) (bits w 13 11)) :
    kwBranch w k = .ok k := by
  obtain ⟨d, hd, hiff⟩ := branchCond_holds hn (k.rg (wRd w)) (k.rg (wRs1 w))
  have hfalse : d = false := by simpa using mt hiff.1 h
  rw [kwBranch, hd, hfalse]

/-- LS, LE and LC of a loop's level (R379). -/
def Core.loops (k : Core) (lv off : Nat) (n : U64) : Core :=
  ((k.wc (0x060 + lv) (BitVec.ofNat 64 (k.pc + 4))).wc (0x064 + lv) (BitVec.ofNat 64 (k.pc + 4 * off - 4))).wc (0x068 + lv) n

theorem kwLoop_loops (hc : c.isC = true) (hinh : k.inh = false) (h0 : bits w 16 14 = 0) (hoff : 2 ≤ bits w 13 0) : kwLoop c w k =
    .done (k.loops (bits w 23 22) (bits w 13 0) (k.rg (bits w 21 17)))
      (if k.rg (bits w 21 17) = 0 then .goto (k.pc + 4 * bits w 13 0) else .next) 1 := by
  simp only [kwLoop, hc, h0, hoff, hinh, Bool.false_eq_true, not_false_eq_true, and_self, if_true]
  rfl

theorem bits_lt (v hi lo : Nat) : bits v hi lo < 2 ^ (hi + 1 - lo) := Nat.mod_lt _ (Nat.two_pow_pos _)

theorem rc_loops (k : Core) (lv off : Nat) (n : U64) : (k.loops lv off n).rc (0x060 + lv) = BitVec.ofNat 64 (k.pc + 4) ∧
    (k.loops lv off n).rc (0x064 + lv) = BitVec.ofNat 64 (k.pc + 4 * off - 4) := by
  constructor
  · rw [Core.loops, rc_wc_ne _ (by omega), rc_wc_ne _ (by omega), rc_wc_self]
  · rw [Core.loops, rc_wc_ne _ (by omega), rc_wc_self]

end Branches

/-! ### Repeats (R381) -/

section Repeats
variable {w : Nat} {k : Core} {c : CoreId}

/-- A word that adds its immediate to a register other than g0. -/
structure Counts (w : Nat) : Prop where
  cls : kclass w = some .alu
  op : wOP w = 2
  same : wRd w = wRs1 w
  named : wRd w ≠ 0

variable (h : Counts w)
include h

theorem Counts.kword (fr nfree : Nat) (k : Core) :
    Machine.kword c none w fr nfree k = .ok (k.wg (wRd w) (k.rg (wRd w) + BitVec.ofInt 64 (wSimm14 w))) := by
  simp [Machine.kword, h.cls, kwAlu, h.op, ← h.same]

theorem Counts.repeatable : Machine.repeatable w = true := by
  simp [Machine.repeatable, h.cls]

omit h in
theorem rg_land (k : Core) (t n : Nat) : (k.land t).rg n = k.rg n := by
  rw [land_same]; rfl

theorem Counts.repeatWord (fr nfree n : Nat) (hq : k.Quiet) : ∃ k', Machine.repeatWord c w fr nfree n k = .done k' .next 0 ∧ k'.Quiet ∧
    k'.rg (wRd w) = k.rg (wRd w) + BitVec.ofNat 64 n * BitVec.ofInt 64 (wSimm14 w) := by
  induction n generalizing k with
  | zero => exact ⟨k, rfl, hq, by simp⟩
  | succ n ih =>
    have hland : (k.land k.cycle).Quiet := by rw [land_same]; exact hq
    obtain ⟨k', hrun, hq', hrg⟩ := ih (k := { (k.land k.cycle).wg (wRd w) (k.rg (wRd w) + BitVec.ofInt 64 (wSimm14 w)) with
      cycle := ((k.land k.cycle).wg (wRd w) (k.rg (wRd w) + BitVec.ofInt 64 (wSimm14 w))).cycle + 1 }) (hland.wg _ _)
    refine ⟨k', ?_, hq', ?_⟩
    · simp only [Machine.repeatWord, h.kword, rg_land]
      exact hrun
    · rw [hrg]
      refine (congrArg (· + _) (rg_wg_self _ h.named _)).trans ?_
      rw [BitVec.add_assoc, BitVec.ofNat_add]
      congr 1
      show _ = (BitVec.ofNat 64 n + 1) * _
      ring

theorem Counts.kwRep {p fr nfree : Nat} (hc : c.isC = false) (h0 : bits p 18 0 = 0) (hn : (k.rg (wRd p)).toNat ≤ 256) (hq : k.Quiet) :
    ∃ k', Machine.kwRep c p w fr nfree k = .done k' (.goto (k.pc + 8)) 0 ∧ k'.Quiet ∧
      k'.rg (wRd w) = k.rg (wRd w) + k.rg (wRd p) * BitVec.ofInt 64 (wSimm14 w) := by
  obtain ⟨k', hrun, hq', hrg⟩ := h.repeatWord (c := c) fr nfree (k.rg (wRd p)).toNat (k := { k with cycle := k.cycle + 1 }) hq
  refine ⟨k', ?_, hq', ?_⟩
  · simp [Machine.kwRep, hc, h0, h.repeatable, hn.not_gt, hrun]
  · rw [hrg, BitVec.ofNat_toNat, BitVec.setWidth_eq]
    rfl

theorem Counts.kwRepi {p fr nfree : Nat} (hc : c.isC = false) (h0 : bits p 18 0 = 0) (hne : wRd w ≠ wRd p) (hn : k.rg (wRd p) ≠ 0)
    (hq : k.Quiet) : ∃ k', Machine.kwRepi c p w fr nfree k = .done k' (if k.rg (wRd p) = 1 then .goto (k.pc + 8) else .again) 1 ∧
      k'.Quiet ∧ k'.rg (wRd p) = k.rg (wRd p) - 1 ∧ k'.pc = k.pc ∧
      k'.rg (wRd w) = k.rg (wRd w) + BitVec.ofInt 64 (wSimm14 w) := by
  have hp : wRd p ≠ 0 := fun hp => hn (by rw [hp]; rfl)
  have hnat : (k.rg (wRd p)).toNat ≠ 0 := fun hz => hn (BitVec.eq_of_toNat_eq hz)
  have hleft : (k.rg (wRd p) - 1#64 = 0#64) = (k.rg (wRd p) = 1#64) := propext sub_eq_zero
  obtain ⟨k0, hk0, hq0, hpc, hrg⟩ : ∃ k0, ({ k.land (k.cycle + 1) with cycle := k.cycle + 1 } : Core) = k0 ∧ k0.Quiet ∧ k0.pc = k.pc ∧
      ∀ n, k0.rg n = k.rg n := by
    refine ⟨_, rfl, ?_, ?_, fun n => rg_land k _ n⟩
    · rw [land_same]
      exact hq
    · rw [land_same]
  have hrun : Machine.kwRepi c p w fr nfree k = .done
      ((k0.wg (wRd w) (k.rg (wRd w) + BitVec.ofInt 64 (wSimm14 w))).wg (wRd p) (k.rg (wRd p) - 1))
      (if k.rg (wRd p) = 1 then .goto (k.pc + 8) else .again) 1 := by
    simp [Machine.kwRepi, hc, h0, h.repeatable, hnat, hk0, h.kword, KOut.ok, rg_wg_ne _ (Ne.symm hne), hrg, hleft]
  refine ⟨_, hrun, (hq0.wg _ _).wg _ _, rg_wg_self _ hp _, ?_, ?_⟩
  · rw [wg_same, wg_same]
    exact hpc
  · rw [rg_wg_ne _ hne, rg_wg_self _ h.named]

end Repeats

/-! ### Interrupts (R385, R386) -/

section Interrupts
variable {s : State} {c : CoreId} {stall n : Nat} {k : Core}

theorem land_landed (h : k.flight = []) (t : Nat) : k.land t = k := by
  simp only [Core.land, h, List.filter_nil, List.foldl_nil]
  rw [← h]

/-- A core with IE set, nothing pending and no product in flight takes the interrupt that reaches it. -/
theorem interrupt_taken (hie : k.ie = true) (hfl : k.flight = []) :
    ({ k with pending := [n], waiting := false } : Core).interrupt c =
      ({ k with pending := [], waiting := false } : Core).enter c k.pc (n + 256) none := by
  have htakes : ({ k with pending := [n], waiting := false } : Core).takesInterrupt = true := by simp [Core.takesInterrupt, hie, hfl]
  have hland := land_landed (k := { k with pending := [n], waiting := false }) hfl k.cycle
  unfold Core.interrupt
  simp only [List.min?_singleton, htakes, if_true, hland]
  simp [flag]

theorem exec_kInterruptEntry (h : AtWord c stall k s) (hn : n < if c.isC then 2 else 32) (hp : (s.core c).pending = [])
    (hie : (s.core c).ie = true) (hfl : (s.core c).flight = []) : exec (.kInterruptEntry c n) s =
      .next (s.setCore c (({ s.core c with pending := [], waiting := false } : Core).enter c (s.core c).pc (n + 256) none)) := by
  obtain ⟨⟨hruns, hcust, -⟩, -⟩ := h
  obtain ⟨hpow, hhalt⟩ : s.pkg.mode.mainPower = true ∧ (s.core c).halted = false := by
    simp only [State.coreRuns, Bool.and_eq_true, Bool.not_eq_true'] at hruns
    exact ⟨hruns.1.1.1.1.1, hruns.1.1.1.1.2⟩
  have hok : (if c.isC then decide (n < 2) else decide (n < 32)) = true := by
    split at hn <;> simp_all
  have hguard : (!(if c.isC then decide (n < 2) else decide (n < 32)) || (s.core c).cust || (s.core c).halted ||
      !s.pkg.mode.mainPower) = false := by
    rw [hok, hcust, hhalt, hpow]
    rfl
  have hpend : (if (s.core c).pending.contains n then (s.core c).pending else (s.core c).pending ++ [n]) = [n] := by simp [hp]
  refine congrArg Host.Outcome.next ((if_neg (by rw [hguard]; decide)).trans ?_)
  rw [hpend]
  exact congrArg (s.setCore c) (interrupt_taken hie hfl)

end Interrupts

/-! ### System words at work -/

section System
variable {s : State} {c : CoreId} {stall : Nat} {w : U32} {k : Core}

theorem coreFault_skanel (u : State) : (coreFault .skanel u).pkg.halted = true := (raiseHalt_halted _ _).1

/-- TRAP where no handler can be entered halts the package, on Skanel's cores (R387). -/
theorem trap_halts (h : AtWord .skanel stall k s) (hcl : kclass w.toNat = some .trap) (h0 : sysOk w.toNat = true) (hinh : k.inh = true) :
    (kexec .trap .skanel stall w s (plain .skanel w)).pkg.halted = true := by
  have hidle : (drawNat s).2.run? .skanel = none := h.1.2.2.1
  have hno : noHandler .skanel k = true := by simp [noHandler, hinh]
  rw [kexec_runs h.1 (.inl hcl), if_neg (by simp [hcl])]
  simp only [plain, kword, hcl, kwTrap, h0, if_true, kdone, kraise, hidle, hno]
  exact coreFault_skanel _

end System

/-- Settles O37, class by class of the words. -/
theorem controlWords : Obligations.ControlWords := by
  unfold Obligations.ControlWords
  intro s c stall w w2 k
  refine ⟨fun h hcl hrd hrs => ?fenceAny, fun h => ?words⟩
  case fenceAny =>
    have hrun : plain c w none (drawNat s).1 s.free k = .done k .next 1 := by simp [plain, kword, hcl, kwFence, sysOk, hrd, hrs, KOut.ok]
    refine ⟨_, congrArg Host.Outcome.next (kexec_anyDone h hcl hrun (by simp)), leaves_only _ s, leaves_core _ s⟩
  have hq := quiet_of_atWord h
  refine ⟨fun hcl hn => ⟨fun hc => ?taken, fun hc => ?untaken⟩, fun hcl => ?jmp, fun hcl hrd => ?jmpr, fun hcl hc hinh h0 hoff => ?loop,
    fun hcl hc h0 h1 h2 h3 h4 => ⟨fun hn => ?rep, fun hn hno => ?range⟩, fun hcl hc h0 h1 h2 h3 h4 h5 hn => ?repi,
    fun hrd hrs => ?system, fun n hn hp hie hfl => ?entry⟩
  case taken => exact plain_done h hcl (by rw [kword, hcl]; exact kwBranch_taken hn hc) (by simp) hq
  case untaken => exact plain_done h hcl (by rw [kword, hcl]; exact kwBranch_untaken hn hc) (by simp) hq
  case jmp => exact plain_done h hcl (by rw [kword, hcl]; rfl) (by simp) hq
  case jmpr => exact plain_done h hcl (by rw [kword, hcl]; exact if_pos hrd) (by simp) hq
  case loop =>
    have hcls : kword c none w.toNat (drawNat s).1 s.free k = kwLoop c w.toNat k := by rw [kword, hcl]
    obtain ⟨t, ht, hcore, honly⟩ := plain_done h hcl (hcls.trans (kwLoop_loops hc hinh h0 hoff)) (by split <;> simp) hq
    have hlv : bits w.toNat 23 22 < 4 := bits_lt _ _ _
    obtain ⟨hls, hle⟩ := rc_loops k (bits w.toNat 23 22) (bits w.toNat 13 0) (k.rg (bits w.toNat 21 17))
    refine ⟨t, ht, honly, fun _ => ⟨?_, ?_⟩, fun hz => ?_⟩
    · rw [hcore, rc_after _ (by omega), hls]
    · rw [hcore, rc_after _ (by omega), hle]
    · rw [hcore, if_pos hz]
      rfl
  case rep =>
    obtain ⟨k', hrun, hq', hrg⟩ := Counts.kwRep (w := w2.toNat) (fr := (drawNat s).1) (nfree := s.free) ⟨h1, h2, h3, h4⟩ hc h0 hn hq
    obtain ⟨t, ht, hcore, honly⟩ := completes_into (run := fun _ fr n k => kwRep c w.toNat w2.toNat fr n k) h hcl hrun (by simp) hq'
    refine ⟨t, ht, honly, by rw [hcore]; rfl, ?_⟩
    rw [hcore, rg_after, hrg]
  case range =>
    refine traps_with h hcl (by decide) ?_ hno
    simp [kwRep, hc, h0, Counts.repeatable ⟨h1, h2, h3, h4⟩, hn]
  case repi =>
    obtain ⟨k', hrun, hq', hleft, hpc, hrg⟩ := Counts.kwRepi (w := w2.toNat) (fr := (drawNat s).1) (nfree := s.free) ⟨h1, h2, h3, h5⟩ hc h0 h4 hn hq
    obtain ⟨t, ht, hcore, honly⟩ := completes_into (run := fun _ fr n k => kwRepi c w.toNat w2.toNat fr n k) h hcl hrun (by split <;> simp) hq'
    refine ⟨t, ht, honly, ?_, ?_, ?_⟩
    · rw [hcore, rg_after, hleft]
    · rw [hcore, rg_after, hrg]
    · rw [hcore]
      split
      · rfl
      · exact hpc
  case system =>
    have hsys : sysOk w.toNat = true := by simp [sysOk, hrd, hrs]
    refine ⟨fun hcl => ?fence, fun hcl => ?wfi, fun hcl => ?rete, fun hno => ⟨fun hcl => ?trap, fun hcl => ?brk⟩,
      fun hcl hinh hc => ?halts⟩
    case fence => exact plain_done h hcl (by rw [kword, hcl]; exact if_pos hsys) (by simp) hq
    case wfi => exact plain_done h hcl (by rw [kword, hcl]; exact if_pos hsys) (by simp) hq
    case rete => exact plain_done h hcl (by rw [kword, hcl]; exact if_pos hsys) (by simp) hq
    case trap =>
      have hrun : plain c w none (drawNat s).1 s.free k = .exc k xTRAP (bits w.toNat 10 0) := by
        rw [plain, kword, hcl]
        exact if_pos hsys
      refine ⟨_, congrArg Host.Outcome.next (kexec_exc h hcl hrun hno), leaves_only _ s, ?_⟩
      rw [leaves_core]
      exact trap_took c k _
    case brk => exact plain_traps h hcl (by decide) (by rw [kword, hcl]; exact if_pos hsys) hno
    case halts =>
      subst hc
      exact ⟨_, rfl, trap_halts h hcl hsys hinh⟩
  case entry =>
    refine ⟨_, exec_kInterruptEntry h hn hp hie hfl, fun d hd => core_setCore_ne _ hd _, ?_⟩
    rw [core_setCore_self]
    refine ⟨rfl, rfl, ?_, ?_, rc_wc_self _ _ _, rfl, rfl⟩
    · show ((((s.core c).wc kEPC _).wc kECAUSE _).wc kESTATUS _).rc kEPC = _
      rw [rc_wc_ne _ (by decide), rc_wc_ne _ (by decide), rc_wc_self]
    · show ((((s.core c).wc kEPC _).wc kECAUSE _).wc kESTATUS _).rc kECAUSE = _
      rw [rc_wc_ne _ (by decide), rc_wc_self]

end Sys2Proof.Machine
end

section
/-! PROOFS. Floating-point, packed, vector and datapath words of a core (O38). -/

namespace Sys2Proof.Machine
open Safety

/-! ### Element operations (R368, R388) -/

section ElementOps
variable {n : Nat}

theorem elem_lt (n x i : Nat) : elem n x i < 2 ^ n := Nat.mod_lt _ (Nat.two_pow_pos n)

/-- The low bits of a register hold its lower elements. -/
theorem elem_mod {m i : Nat} (h : n * (i + 1) ≤ m) (x : Nat) : elem n (x % 2 ^ m) i = elem n x i := by
  obtain ⟨d, rfl⟩ := Nat.exists_eq_add_of_le h
  have hpow : 2 ^ (n * (i + 1) + d) = 2 ^ (n * i) * (2 ^ n * 2 ^ d) := by
    rw [← pow_add, ← pow_add]
    congr 1
    ring
  show x % _ / _ % _ = _
  rw [hpow, Nat.mod_mul_right_div_self, Nat.mod_mul_right_mod]
  rfl

/-- What an operation on elements `a` and `b` gives, by its code. -/
structure ElementResult (f n a b r : Nat) : Prop where
  add : f = 0 → r = (a + b) % 2 ^ n
  sub : f = 1 → (r + b) % 2 ^ n = a
  mul : f = 2 → r = a * b % 2 ^ n
  shl : f = 4 → b < n → r = a * 2 ^ b % 2 ^ n
  shr : f = 5 → b < n → r = a / 2 ^ b
  min : f = 6 → r = if selem n a < selem n b then a else b
  max : f = 7 → r = if selem n a < selem n b then b else a
  and : f = 8 → r = Nat.land a b
  or : f = 9 → r = Nat.lor a b
  xor : f = 10 → r = Nat.xor a b

theorem elemOp_result {a b : Nat} (ha : a < 2 ^ n) (hb : b < 2 ^ n) (f fr : Nat) : ElementResult f n a b (elemOp f n a b fr % 2 ^ n) where
  add h := by subst h; exact Nat.mod_mod _ _
  sub h := by
    subst h
    show ((a + 2 ^ n - b) % 2 ^ n % 2 ^ n + b) % 2 ^ n = a
    rw [Nat.mod_mod, Nat.mod_add_mod, show a + 2 ^ n - b + b = a + 2 ^ n by omega, Nat.add_mod_right, Nat.mod_eq_of_lt ha]
  mul h := by subst h; exact Nat.mod_mod _ _
  shl h hlt := by subst h; simp [elemOp, elemShift, hlt]
  shr h hlt := by
    subst h
    simp only [elemOp, elemShift, hlt, if_true, Bool.false_eq_true, if_false]
    exact Nat.mod_eq_of_lt ((Nat.div_le_self _ _).trans_lt ha)
  min h := by
    subst h
    refine Nat.mod_eq_of_lt ?_
    show (if selem n a < selem n b then a else b) < _
    split
    · exact ha
    · exact hb
  max h := by
    subst h
    refine Nat.mod_eq_of_lt ?_
    show (if selem n a < selem n b then b else a) < _
    split
    · exact hb
    · exact ha
  and h := by subst h; exact Nat.mod_eq_of_lt (Nat.and_lt_two_pow a hb)
  or h := by subst h; exact Nat.mod_eq_of_lt (Nat.or_lt_two_pow ha hb)
  xor h := by subst h; exact Nat.mod_eq_of_lt (Nat.xor_lt_two_pow ha hb)

/-- A sum of flags at their places has those bits and no other. -/
theorem bit_flags (p : Nat → Bool) (m : Nat) : (List.range m).foldl (fun x i => x + flag (p i) i) 0 < 2 ^ m ∧
    ∀ i, bit ((List.range m).foldl (fun x i => x + flag (p i) i) 0) i = (decide (i < m) && p i) := by
  induction m with
  | zero => exact ⟨by simp, fun i => by simp [bit]⟩
  | succ m ih =>
    obtain ⟨hlt, hbit⟩ := ih
    simp only [bit, ← Nat.testBit_eq_decide_div_mod_eq, beq_eq_decide] at hbit ⊢
    rw [List.range_succ, List.foldl_append, List.foldl_cons, List.foldl_nil]
    generalize (List.range m).foldl (fun x i => x + flag (p i) i) 0 = x at *
    have htop : x + flag (p m) m < 2 ^ (m + 1) := by
      have hpow : 2 ^ (m + 1) = 2 ^ m + 2 ^ m := by rw [pow_succ, Nat.mul_two]
      unfold flag
      split <;> omega
    refine ⟨htop, fun i => ?_⟩
    rcases lt_trichotomy i m with him | rfl | him
    · have hrest : (x + flag (p m) m).testBit i = x.testBit i := by
        unfold flag
        split
        · rw [Nat.add_comm, Nat.testBit_two_pow_add_gt him]
        · rw [Nat.add_zero]
      simp [hrest, hbit, him, Nat.lt_succ_of_lt him]
    · have hx : x.testBit i = false := Nat.testBit_lt_two_pow hlt
      unfold flag
      split
      next hp => simp [Nat.add_comm x, Nat.testBit_two_pow_add_eq, hx, hp]
      next hp => simp [hx, hp]
    · have hz : (x + flag (p m) m).testBit i = false :=
        Nat.testBit_lt_two_pow (htop.trans_le (Nat.pow_le_pow_right (by decide) him))
      simp [hz, show ¬ i < m + 1 by omega]

end ElementOps

/-! ### What the words compute (R367, R370, R388) -/

section Data
variable {w fr nfree : Nat} {k : Core} {c : CoreId}

/-- The format of a floating-point word. -/
def fpFmt (w : Nat) : Fmt := if bit (wFN w) 8 then f32 else f64

/-- An operand of a floating-point word. -/
def fpArg (w : Nat) (k : Core) (n : Nat) : FV := (fpFmt w).unpack (k.rf n % 2 ^ ((fpFmt w).eb + (fpFmt w).fb + 1))

section Finite
variable {t : Fmt} {m : Nat} {a b : FV} {na nb : Bool} {ma mb : Nat} {ea eb : Int} (ha : a = .fin na ma ea) (hb : b = .fin nb mb eb)
include ha hb

/-- Between finite values no result is free. -/
theorem add_finite : t.add m fr a b = t.add m 0 a b := by rw [ha, hb]; rfl

theorem mul_finite : t.mul m fr a b = t.mul m 0 a b := by rw [ha, hb]; rfl

theorem div_finite (h : mb ≠ 0) : t.div m fr a b = t.div m 0 a b := by
  rw [ha, hb]
  simp only [Fmt.div, if_neg h]

end Finite

/-- A result and its flags, written to an f register. -/
def Core.takesF (k : Core) (n : Nat) (r : Nat × FFlags) : Core := (k.wf n r.1).sticky r.2

theorem kwFp_add (h : bits w 7 0 = 0) : kwFp w fr k = .ok (k.takesF (wRd w) ((fpFmt w).add k.round fr (fpArg w k (wRs1 w)) (fpArg w k (wRs2 w)))) := by
  simp only [kwFp, h]
  rfl

theorem kwFp_sub (h : bits w 7 0 = 1) :
    kwFp w fr k = .ok (k.takesF (wRd w) ((fpFmt w).add k.round fr (fpArg w k (wRs1 w)) (fpArg w k (wRs2 w)).neg)) := by
  simp only [kwFp, h]
  rfl

theorem kwFp_mul (h : bits w 7 0 = 2) : kwFp w fr k = .ok (k.takesF (wRd w) ((fpFmt w).mul k.round fr (fpArg w k (wRs1 w)) (fpArg w k (wRs2 w)))) := by
  simp only [kwFp, h]
  rfl

theorem kwFp_div (h : bits w 7 0 = 3) : kwFp w fr k = .ok (k.takesF (wRd w) ((fpFmt w).div k.round fr (fpArg w k (wRs1 w)) (fpArg w k (wRs2 w)))) := by
  simp only [kwFp, h]
  rfl

/-- Every operation that is not reserved goes on with local memory and the interrupts as they were. -/
theorem kwFp_goes_on (h : bits w 7 0 ≤ 11) (hq : k.Quiet) : ∃ k', kwFp w fr k = .ok k' ∧ k'.Quiet ∧ k'.lmem = k.lmem := by
  have toF (r : Nat × FFlags) : ∃ k', KOut.ok ((k.wf (wRd w) r.1).sticky r.2) = .ok k' ∧ k'.Quiet ∧ k'.lmem = k.lmem :=
    ⟨_, rfl, hq, rfl⟩
  have toG (r : U64 × FFlags) : ∃ k', KOut.ok ((k.wg (wRd w) r.1).sticky r.2) = .ok k' ∧ k'.Quiet ∧ k'.lmem = k.lmem :=
    ⟨_, rfl, hq.wg _ _, by rw [wg_same]; rfl⟩
  generalize hn : bits w 7 0 = n at h
  simp only [kwFp, hn]
  interval_cases n
  exacts [toF _, toF _, toF _, toF _, toF _, toF _, toF _, toG _, toG _, toG _, toG _, toF _]

theorem Core.Quiet.takesF (h : k.Quiet) (n : Nat) (r : Nat × FFlags) : (k.takesF n r).Quiet := h

theorem rf_takesF (n : Nat) (r : Nat × FFlags) : (k.takesF n r).rf n = r.1 % 2 ^ 64 := rf_wf_self k n r.1

theorem rc_takesF (n : Nat) (r : Nat × FFlags) : (k.takesF n r).rc kFPMODE = k.rc kFPMODE ||| BitVec.ofNat 64 r.2.bits := rc_wc_self _ _ _

/-- The lanes of a packed word. -/
def packedTo (w fr : Nat) (k : Core) : Nat := (List.range (64 / (8 * 2 ^ bits w 8 7))).foldl (fun x i =>
  setElem (8 * 2 ^ bits w 8 7) x i (elemOp (bits w 6 0) (8 * 2 ^ bits w 8 7) (elem (8 * 2 ^ bits w 8 7) (k.rf (wRs1 w)) i)
    (elem (8 * 2 ^ bits w 8 7) (k.rf (wRs2 w)) i) (elemFree (8 * 2 ^ bits w 8 7) fr i))) 0

theorem kwPacked_lanes (hlane : bits w 8 7 ≠ 3) (hf : bits w 6 0 ≤ 7) : kwPacked w fr k = .ok (k.wf (wRd w) (packedTo w fr k)) := by
  rw [kwPacked, if_neg (by omega)]
  rfl

theorem packedTo_lane {i : Nat} (hi : i < 64 / (8 * 2 ^ bits w 8 7)) :
    ElementResult (bits w 6 0) (8 * 2 ^ bits w 8 7) (elem (8 * 2 ^ bits w 8 7) (k.rf (wRs1 w)) i)
      (elem (8 * 2 ^ bits w 8 7) (k.rf (wRs2 w)) i) (elem (8 * 2 ^ bits w 8 7) (packedTo w fr k % 2 ^ 64) i) := by
  have hin : 8 * 2 ^ bits w 8 7 * (i + 1) ≤ 64 := (Nat.mul_le_mul_left _ hi).trans (Nat.mul_div_le _ _)
  rw [elem_mod hin, packedTo, elem_foldl_setElem_all, if_pos (List.mem_range.2 hi)]
  exact elemOp_result (elem_lt _ _ _) (elem_lt _ _ _) _ _

theorem active_iff (k : Core) (w i : Nat) : active k w i = true ↔ bit w 8 = false ∨ bit (k.rv 31) i = true := by
  simp [active]

/-- A vector register after the elements that take part take `f`. -/
def vectorTo (k : Core) (w : Nat) (f : Nat → Nat) : Nat :=
  (List.range k.vl).foldl (fun x i => if active k w i then setElem (8 * k.ew) x i (f i) else x) (k.rv (wRd w))

theorem elem_vectorTo (f : Nat → Nat) (i : Nat) : elem (8 * k.ew) (vectorTo k w f) i =
    if i < k.vl ∧ (bit w 8 = false ∨ bit (k.rv 31) i = true) then f i % 2 ^ (8 * k.ew) else elem (8 * k.ew) (k.rv (wRd w)) i := by
  rw [vectorTo, elem_foldl_setElem]
  simp only [List.mem_range, active_iff]

/-- The core after a vector word that writes `x`. -/
def Core.takesV (k : Core) (n x : Nat) : Core := (k.wv n x).vdone

theorem Core.Quiet.takesV (h : k.Quiet) (n x : Nat) : (k.takesV n x).Quiet := h

theorem rv_takesV (n x : Nat) : (k.takesV n x).rv n = x := rv_wv_self k n x

/-- The element operation of a vector word that compares nothing. -/
theorem vecFn_element {n : Nat} (h : n ≤ 10) : ∃ f, vecFn n = some f ∧ (n ≤ 2 → f = n) ∧ (4 ≤ n → n ≤ 6 → f = n + 4) := by
  interval_cases n
  all_goals exact ⟨_, rfl, by simp⟩

theorem kwVArith_elements (hc : c.isC = true) (hs : k.rc kVSTART = 0) {f : Nat} (h : bits w 7 0 ≤ 10) (hf : vecFn (bits w 7 0) = some f) :
    kwVArith c w fr k = .done (k.takesV (wRd w) (vectorTo k w fun i =>
      elemOp f (8 * k.ew) (elem (8 * k.ew) (k.rv (wRs1 w)) i) (elem (8 * k.ew) (k.rv (wRs2 w)) i) (elemFree (8 * k.ew) fr i))) .next
      (vcycles k) := by
  have hno : ¬ (bits w 7 0 = 11 ∨ bits w 7 0 = 12) := by omega
  simp only [kwVArith, hc, hs, not_true_eq_false, ne_eq, or_self, if_false, if_neg hno, hf]
  rfl

theorem kwVArith_compares (hc : c.isC = true) (hs : k.rc kVSTART = 0) (h : bits w 7 0 = 11 ∨ bits w 7 0 = 12) :
    kwVArith c w fr k = .done (k.takesV (wRd w) (vcompare k w (bits w 7 0 == 12))) .next (vcycles k) := by
  simp only [kwVArith, hc, hs, not_true_eq_false, ne_eq, or_self, if_false, if_pos h]
  rfl

theorem bit_vcompare (h : bit w 8 = false) (lt : Bool) (i : Nat) : bit (vcompare k w lt) i = (decide (i < k.vl) &&
    if lt then decide (selem (8 * k.ew) (elem (8 * k.ew) (k.rv (wRs1 w)) i) < selem (8 * k.ew) (elem (8 * k.ew) (k.rv (wRs2 w)) i))
    else elem (8 * k.ew) (k.rv (wRs1 w)) i == elem (8 * k.ew) (k.rv (wRs2 w)) i) := by
  have hact : ∀ i, active k w i = true := fun i => (active_iff k w i).2 (.inl h)
  simp only [vcompare, hact, if_true]
  exact (bit_flags _ k.vl).2 i

theorem kwVMove_splats (hc : c.isC = true) (hs : k.rc kVSTART = 0) (h : bits w 7 0 = 5) : kwVMove c w fr k =
    .done (k.takesV (wRd w) (vectorTo k w fun _ => (k.rg (wRs1 w)).toNat % 2 ^ (8 * k.ew))) .next (vcycles k) := by
  simp only [kwVMove, hc, hs, h, not_true_eq_false, ne_eq, or_self, if_false]
  rfl

/-- The core after SETVL. -/
def Core.setvl (k : Core) (c : CoreId) (w : Nat) : Core :=
  { k with ew := bits w 3 0, vl := min (k.rg (wRs1 w)).toNat (c.vlen / (8 * bits w 3 0)) }

theorem kwSetvl_sets (hc : c.isC = true) (h2 : wRs2 w = 0) (h8 : bits w 8 4 = 0)
    (hew : bits w 3 0 = 1 ∨ bits w 3 0 = 2 ∨ bits w 3 0 = 4 ∨ bits w 3 0 = 8) :
    kwSetvl c w k = .ok ((k.setvl c w).wg (wRd w) (BitVec.ofNat 64 (k.setvl c w).vl)) := by
  rw [kwSetvl, if_pos ⟨hc, h2, h8, hew⟩]
  rfl

/-- What a datapath command leaves of the core but g_rd (R405). -/
def Core.computed (k : Core) (fr nfree : Nat) : Core := { k with lmem := [], lbase := some nfree, pair := (bit fr 64, bit fr 65) }

theorem kwDatapath_completes (hc : c.isC = true) (h : dpOn c (wOP w) = true) :
    kwDatapath c none w fr nfree k = .ok ((k.computed fr nfree).wg (wRd w) (BitVec.ofNat 64 fr)) := by
  simp only [kwDatapath, hc, h, not_true_eq_false, if_false, Option.isSome_none, Bool.false_eq_true, if_true]
  rfl

end Data

/-! ### The words at work -/

section DataWords
variable {s : State} {c : CoreId} {stall cy : Nat} {w : U32} {k k' : Core} {cl : KClass}

theorem fpOp_writes (h : AtWord c stall k s) (hcl : kclass w.toNat = some .fp) {r : Nat × FFlags}
    (hrun : kwFp w.toNat (drawNat s).1 k = .ok (k.takesF (wRd w.toNat) r)) :
    ∃ t, exec (.kFpOp c stall w) s = .next t ∧ OnlyCore c s t ∧ (t.core c).rf (wRd w.toNat) = r.1 % 2 ^ 64 ∧
      (t.core c).rc kFPMODE = k.rc kFPMODE ||| BitVec.ofNat 64 r.2.bits := by
  obtain ⟨t, ht, hcore, honly⟩ := plain_done h hcl (by rw [kword, hcl]; exact hrun) (by simp)
    (Core.Quiet.takesF (quiet_of_atWord h) _ r)
  refine ⟨t, ht, honly, ?_, ?_⟩
  · rw [hcore, rf_after, rf_takesF]
  · rw [hcore, rc_after _ (by decide), rc_takesF]

end DataWords

/-- Settles O38, class by class of the words. -/
theorem dataWords : Obligations.DataWords := by
  unfold Obligations.DataWords
  intro s c stall w k h
  have hq := quiet_of_atWord h
  refine ⟨fun hcl => ⟨fun na ma ea nb mb eb (hp : fpArg w.toNat k (wRs1 w.toNat) = _)
    (hq' : fpArg w.toNat k (wRs2 w.toNat) = _) => ⟨fun hfn => ?add, fun hfn => ?sub, fun hfn => ?mul, fun hfn hmb => ?div⟩,
    fun hfn => ?fp⟩, fun hcl hlane hf => ?packed, fun hc => ⟨fun hcl h2 h8 hew => ?setvl, fun hcl hon => ?datapath,
    fun hs hn hvl => ⟨fun hcl hfn => ?arith, fun hcl hfn h8 => ?compare, fun hcl hfn => ?splat⟩⟩⟩
  case add =>
    obtain ⟨t, ht, honly, hrf, hrc⟩ := fpOp_writes h hcl (kwFp_add hfn)
    rw [add_finite hp hq'] at hrf hrc
    exact ⟨t, ht, honly, hrf, hrc⟩
  case sub =>
    obtain ⟨t, ht, honly, hrf, -⟩ := fpOp_writes h hcl (kwFp_sub hfn)
    rw [add_finite hp (congrArg FV.neg hq')] at hrf
    exact ⟨t, ht, honly, hrf⟩
  case mul =>
    obtain ⟨t, ht, honly, hrf, -⟩ := fpOp_writes h hcl (kwFp_mul hfn)
    rw [mul_finite hp hq'] at hrf
    exact ⟨t, ht, honly, hrf⟩
  case div =>
    obtain ⟨t, ht, honly, hrf, -⟩ := fpOp_writes h hcl (kwFp_div hfn)
    rw [div_finite hp hq' hmb] at hrf
    exact ⟨t, ht, honly, hrf⟩
  case fp =>
    obtain ⟨k', hrun, hquiet, hmem⟩ := kwFp_goes_on (fr := (drawNat s).1) hfn hq
    obtain ⟨t, ht, hcore, honly⟩ := plain_done h hcl (by rw [kword, hcl]; exact hrun) (by simp) hquiet
    refine ⟨t, ht, honly, ?_⟩
    rw [hcore, after_same]
    exact ⟨hmem, hquiet.1.trans hq.1.symm⟩
  case packed =>
    obtain ⟨t, ht, hcore, honly⟩ := plain_done h hcl (by rw [kword, hcl]; exact kwPacked_lanes hlane hf) (by simp) (hq.wf _ _)
    refine ⟨t, ht, honly, fun i hi => ?_⟩
    have hlane := packedTo_lane (fr := (drawNat s).1) (k := k) hi
    rw [hcore, rf_after, rf_wf_self]
    exact ⟨hlane.add, hlane.sub, hlane.mul, hlane.shl, hlane.shr, hlane.min, hlane.max⟩
  case setvl =>
    obtain ⟨t, ht, hcore, honly⟩ := plain_done h hcl (by rw [kword, hcl]; exact kwSetvl_sets hc h2 h8 hew) (by simp)
      (Core.Quiet.wg (k := k.setvl c w.toNat) hq _ _)
    have hset : (t.core c).ew = bits w.toNat 3 0 ∧ (t.core c).vl = (k.setvl c w.toNat).vl := by
      rw [hcore, after_same, wg_same]
      exact ⟨rfl, rfl⟩
    refine ⟨t, ht, honly, hset.1, hset.2, ?_⟩
    rw [hset.2, hcore, rg_after, rg_wg]
    by_cases hrd : wRd w.toNat = 0
    · rw [if_neg fun hne => hne.1 hrd, if_pos hrd, hrd]
      rfl
    · rw [if_pos ⟨hrd, rfl⟩, if_neg hrd]
  case datapath =>
    obtain ⟨t, ht, hcore, honly⟩ := plain_done h hcl (by rw [kword, hcl]; exact kwDatapath_completes hc hon) (by simp)
      (Core.Quiet.wg (k := k.computed (drawNat s).1 s.free) hq _ _)
    refine ⟨t, ht, honly, ?_, ?_, fun r hr => ?_⟩
    · rw [hcore, after_same, wg_same]; rfl
    · rw [hcore, after_same, wg_same]; rfl
    · rw [hcore, rg_after, rg_wg_ne _ hr]; rfl
  case arith =>
    obtain ⟨f, hf, hlow, hhigh⟩ := vecFn_element hfn
    obtain ⟨t, ht, hcore, honly⟩ := plain_done h hcl (by rw [kword, hcl]; exact kwVArith_elements hc hs hfn hf) (by simp) (hq.takesV _ _)
    refine ⟨t, ht, honly, fun i => ?_⟩
    rw [hcore, rv_after, rv_takesV, elem_vectorTo]
    refine ⟨fun hsel => if_neg hsel, fun hsel => ?_⟩
    rw [if_pos hsel]
    have hr := elemOp_result (elem_lt (8 * k.ew) (k.rv (wRs1 w.toNat)) i) (elem_lt (8 * k.ew) (k.rv (wRs2 w.toNat)) i) f
      (elemFree (8 * k.ew) (drawNat s).1 i)
    exact ⟨fun h0 => hr.add (by omega), fun h1 => hr.sub (by omega), fun h2 => hr.mul (by omega), fun h4 => hr.and (by omega),
      fun h5 => hr.or (by omega), fun h6 => hr.xor (by omega)⟩
  case compare =>
    obtain ⟨t, ht, hcore, honly⟩ := plain_done h hcl (by rw [kword, hcl]; exact kwVArith_compares hc hs hfn) (by simp) (hq.takesV _ _)
    refine ⟨t, ht, honly, fun i => ?_⟩
    rw [hcore, rv_after, rv_takesV, bit_vcompare h8]
    rcases hfn with hfn | hfn <;> simp [hfn]
  case splat =>
    obtain ⟨t, ht, hcore, honly⟩ := plain_done h hcl (by rw [kword, hcl]; exact kwVMove_splats hc hs hfn) (by simp) (hq.takesV _ _)
    refine ⟨t, ht, honly, fun i => ?_⟩
    rw [hcore, rv_after, rv_takesV, elem_vectorTo, Nat.mod_mod]

end Sys2Proof.Machine
end

section
/-! PROOFS. The frame unit (O24 to O27): its tables after a change, what an entry in a frame ring leaves, and what the deliveries to a
stream's subscribers leave. -/

namespace Sys2Proof.Machine
open Safety

/-! ### Tables of streams, sessions and ports -/

section Tables
variable {s : State} {n m p q : Nat} {st : Stream} {x : Session}

theorem tfind_map {α : Type} (l : Tbl α) (f : α → α) (k n : Nat) :
    tfind (l.map fun e => if e.1 == k then (e.1, f e.2) else e) n = if n = k then (tfind l n).map f else tfind l n := by
  induction l with
  | nil => simp [tfind]
  | cons e l ih =>
    obtain ⟨a, v⟩ := e
    by_cases ha : a = k
    · by_cases hn : k = n
      · simp [tfind, ha, hn]
      · simpa [tfind, ha, hn, Ne.symm hn] using ih
    · by_cases hn : a = n
      · simp [tfind, hn, hn ▸ ha]
      · simpa [tfind, ha, hn] using ih

theorem stream_modStream (m n : Nat) (f : Stream → Stream) (s : State) :
    (s.modStream m f).stream? n = if n = m then (s.stream? n).map f else s.stream? n := tfind_map _ f m n

theorem stream_modStream_self (f : Stream → Stream) (h : s.stream? n = some st) : (s.modStream n f).stream? n = some (f st) := by
  rw [stream_modStream, if_pos rfl, h]
  rfl

theorem session_modSession (m n : Nat) (f : Session → Session) (s : State) :
    (s.modSession m f).session? n = if n = m then (s.session? n).map f else s.session? n := tfind_map _ f m n

theorem session_modSession_self (f : Session → Session) (h : s.session? n = some x) :
    (s.modSession n f).session? n = some (f x) := by
  rw [session_modSession, if_pos rfl, h]
  rfl

@[simp] theorem port_modPort_self (s : State) (p : Nat) (f : Port → Port) : (s.modPort p f).port p = f (s.port p) := by
  simp [State.port, State.modPort, State.modFrames]

theorem port_modPort_ne (f : Port → Port) (h : q ≠ p) : (s.modPort p f).port q = s.port q := by
  simp [State.port, State.modPort, State.modFrames, tget_tset_ne, h]

/-- A property that a change keeps holds of every port as before. -/
theorem port_modPort_keeps {γ : Type} (g : Port → γ) {f : Port → Port} (hf : ∀ x, g (f x) = g x) (s : State) (p q : Nat) :
    g ((s.modPort p f).port q) = g (s.port q) := by
  by_cases h : q = p
  · subst h
    rw [port_modPort_self, hf]
  · rw [port_modPort_ne f h]

theorem port_congr {t : State} (h : t.frames.ports = s.frames.ports) (p : Nat) : t.port p = s.port p := by
  unfold State.port
  rw [h]

theorem stream_congr {t : State} (h : t.frames.streams = s.frames.streams) (n : Nat) : t.stream? n = s.stream? n := by
  unfold State.stream?
  rw [h]

end Tables

/-! ### An entry in a frame ring (R283-R285) -/

/-- Every field but the functions, the journal, the bittern area and the outward actions is the same. -/
def SameButRings (s t : State) : Prop := t = { s with insts := t.insts, jrn := t.jrn, btn := t.btn, out := t.out }

section Rings
variable {s : State}

theorem SameButRings.trans {s t u : State} (h : SameButRings s t) (k : SameButRings t u) : SameButRings s u := by
  unfold SameButRings at *
  rw [k, h]

theorem SameButRings.foldl {β : Type} {f : State → β → State} (h : ∀ s x, SameButRings s (f s x)) (l : List β) (s : State) :
    SameButRings s (l.foldl f s) := by
  induction l generalizing s with
  | nil => rfl
  | cons x l ih => exact (h s x).trans (ih _)

theorem SameButVectors.rings {s t : State} (h : SameButVectors s t) : SameButRings s t := by
  unfold SameButVectors at h
  unfold SameButRings
  rw [h]

theorem SameButJournal.rings {s t : State} (h : SameButJournal s t) : SameButRings s t := by
  unfold SameButJournal at h
  unfold SameButRings
  rw [h]

theorem SameButRings.ite {s a b : State} {p : Prop} [Decidable p] (ha : SameButRings s a) (hb : SameButRings s b) :
    SameButRings s (if p then a else b) := by
  split
  · exact ha
  · exact hb

theorem modFring_same (i n : Nat) (f : FrameRing → FrameRing) (s : State) : SameButRings s (s.modFring i n f) := rfl

theorem raiseRing_same (i n : Nat) (s : State) : SameButRings s (raiseRing i n s) :=
  .ite ((modFring_same i n _ s).trans (raiseVector_same _ _ _).rings) rfl

theorem ringSignal_same (i n l : Nat) (now : Bool) (s : State) : SameButRings s (ringSignal i n l now s) :=
  .ite ((modFring_same i n _ s).trans (raiseRing_same _ _ _)) (modFring_same i n _ s)

theorem putEntry_same (i n typ flen : Nat) (body : List Byte) (now : Bool) (s : State) :
    SameButRings s (putEntry i n typ flen body now s).2 := by
  unfold putEntry
  dsimp only
  rw [apply_ite Prod.snd]
  dsimp only
  refine .ite (modFring_same _ _ _ _) ?_
  have filled : SameButRings s (if (s.fring i n).units < (s.fring i n).tail + (1 + body.length / 16) then
      hostWrite i ((s.fring i n).base + 16 * (s.fring i n).tail) (fit (16 * ((s.fring i n).units - (s.fring i n).tail))
        (ringHeader (s.fring i n).phase ((s.fring i n).units - (s.fring i n).tail) 0 0 (s.fring i n).seq)) false s else s) :=
    .ite (hostWrite_same _ _ _ _ _).rings rfl
  simp only [decide_eq_true_eq]
  exact ((filled.trans (hostWrite_same _ _ _ _ _).rings).trans (modFring_same _ _ _ _)).trans (ringSignal_same _ _ _ _ _)

theorem streamEvent_same (n ev tick : Nat) (s : State) : SameButRings s (streamEvent n ev tick s) := by
  unfold streamEvent
  split
  · rfl
  · exact .foldl (fun s x => putEntry_same _ _ _ _ _ _ s) _ s

@[simp] theorem streamEvent_frames (n ev tick : Nat) (s : State) : (streamEvent n ev tick s).frames = s.frames := by
  rw [streamEvent_same]
@[simp] theorem streamEvent_cmds (n ev tick : Nat) (s : State) : (streamEvent n ev tick s).cmds = s.cmds := by
  rw [streamEvent_same]

theorem stream_streamEvent (n ev tick : Nat) (s : State) (m : Nat) : (streamEvent n ev tick s).stream? m = s.stream? m :=
  stream_congr (by rw [streamEvent_frames]) m

end Rings

/-! ### Deliveries to subscribers (R280, R281, R305, R309) -/

/-- What `g` reads no delivery changes: neither a frame ring with what goes with its entries, nor a subscription. -/
structure DropsBlind {γ : Type} (g : State → γ) : Prop where
  entry : ∀ {s t}, SameButRings s t → g t = g s
  drops : ∀ s n (l : List Sub → List Sub), g (s.modStream n fun st => { st with subs := l st.subs }) = g s

/-- A stream without its subscriptions. -/
def Stream.unsubscribed (st : Stream) : Stream := { st with subs := [] }

section Drops
variable {γ : Type} {g : State → γ}

theorem stream_dropsBlind (n : Nat) : DropsBlind fun s => (s.stream? n).map Stream.unsubscribed where
  entry h := congrArg (Option.map Stream.unsubscribed) (stream_congr (by rw [h]) n)
  drops s m l := by
    rw [stream_modStream]
    split
    · rw [Option.map_map]
      rfl
    · rfl

theorem sessions_dropsBlind : DropsBlind fun s => s.frames.sessions where
  entry h := by rw [h]
  drops _ _ _ := rfl

theorem hvw_dropsBlind : DropsBlind fun s => s.frames.hvw where
  entry h := by rw [h]
  drops _ _ _ := rfl

theorem ports_dropsBlind : DropsBlind fun s => s.frames.ports where
  entry h := by rw [h]
  drops _ _ _ := rfl

theorem cmds_dropsBlind : DropsBlind fun s => s.cmds where
  entry h := by rw [h]
  drops _ _ _ := rfl

variable (h : DropsBlind g)
include h

theorem DropsBlind.deliverTo (n : Nat) (f : Judged) (hstate win : Nat) (x : Sub) (s : State) :
    g (deliverTo n f hstate win x s) = g s := by
  unfold Machine.deliverTo
  dsimp only
  exact (h.drops _ n fun l => l.map _).trans (h.entry (putEntry_same _ _ _ _ _ _ s))

theorem DropsBlind.deliverAll (n : Nat) (f : Judged) (hstate win : Nat) (p : Sub → Bool) (s : State) :
    g (deliverAll n f hstate win p s) = g s := by
  unfold Machine.deliverAll
  split
  · rfl
  · exact foldl_keeps g _ (fun s x => h.deliverTo n f hstate win x s) _ s

theorem DropsBlind.deliverHeld (n hstate : Nat) (win : PFrame → Nat) (ps : List PFrame) (s : State) :
    g (deliverHeld n hstate win ps s) = g s := by
  refine foldl_keeps g _ (fun s p => ?_) ps s
  split
  · rfl
  · exact h.deliverAll _ _ _ _ _ s

/-- A HARVEST entry counts a failed window in its session and is delivered (R309). -/
theorem DropsBlind.harvestEntry (n result reason count win tq start : Nat) (s : State) :
    g (harvestEntry n result reason count win tq start s) =
      g (if result = 3 then s.modSession n fun x => { x with failed := satAdd max64 x.failed 1 } else s) := by
  unfold Machine.harvestEntry
  dsimp only
  split
  · rfl
  · exact foldl_keeps g _ (fun s x => h.entry (putEntry_same _ _ _ _ _ _ s)) _ _

/-- A resolution leaves what reads no count of failed windows (R309). -/
theorem DropsBlind.resolveEach (hfail : ∀ s n, g (s.modSession n fun x => { x with failed := satAdd max64 x.failed 1 }) = g s)
    (n reason : Nat) (x : Session) (ps : List PFrame) (s : State) : g (resolveEach n reason x ps s) = g s := by
  unfold Machine.resolveEach
  dsimp only
  exact (foldl_keeps g _ (fun s w => (h.harvestEntry n 3 _ _ _ _ _ s).trans (hfail s n)) _ _).trans (h.deliverHeld _ _ _ _ s)

end Drops

end Sys2Proof.Machine
end

section
/-! PROOFS. Configuration of frames (O24). -/

namespace Sys2Proof.Machine
open Safety

section Settings
variable {s t : State} {op j n p : Nat} {c : Cmd} {st : Stream} {f : Cmd → State → State × Option Res}

@[simp] theorem finish_frames (j : Nat) (r : Res) (s : State) : (finish j r s).frames = s.frames := by simp [finish]

@[simp] theorem commit_frames (j : Nat) (s : State) : (commit j s).frames = s.frames := by rw [commit_same]

theorem stream_commit (j n : Nat) (s : State) : (commit j s).stream? n = s.stream? n := stream_congr (by rw [commit_frames]) n

theorem port_commit (j p : Nat) (s : State) : (commit j s).port p = s.port p := port_congr (by rw [commit_frames]) p

/-- A configuration request that is checked and found good ends with ST_OK, and its change, made at DONE, has `P` (R272). -/
def FrameSets (j : Nat) (c : Cmd) (s : State) (i : Instr) (P : State → Prop) : Prop :=
  (∃ t, exec i s = .next t ∧ t.frames = s.frames ∧ Ended j c okRes t) ∧ (frmSettled c okRes s).2 = okRes ∧ P (frmSettled c okRes s).1

theorem frmSettled_of (ho : c.job.opcode = op) (hf : frmConfig op = some f) (h : f c s = (t, some okRes)) :
    frmSettled c okRes s = (t, okRes) := by
  unfold frmSettled
  rw [ho, hf]
  dsimp only
  rw [if_pos (by rfl), h]
  rfl

theorem frameSets_of {i : Instr} {P : State → Prop} (hw : AtWork op j c s)
    (hi : exec i s = .next (runVerb op j (frmChecked f) s)) (hf : frmConfig op = some f) (h : f c s = (t, some okRes))
    (h0 : (f c (drawEnergy s).2).2 = some okRes) (hP : P t) : FrameSets j c s i P := by
  have hb : frmChecked f c (drawEnergy s).2 = ((drawEnergy s).2, some okRes) := by rw [frmChecked, h0]
  have hc : c.job.id = j := cmd_id hw.1
  have hframes : (runVerb op j (frmChecked f) s).frames = s.frames := by
    obtain ⟨hc, hop, hat, hheld, hrep⟩ := hw
    rw [runVerb_of_body hc hop hat hheld hrep hb]
    simp
  have settled := frmSettled_of hw.2.1 hf h
  refine ⟨⟨_, hi, hframes, ended_of_body hw hb ⟨c, hc ▸ hw.1, rfl⟩⟩, ?_, ?_⟩
  · rw [settled]
  · rw [settled]
    exact hP

/-! ### Subscriptions (R281) -/

/-- Whether a subscription is that of a job's function on the ring it names. -/
def Job.subscribes (b : Job) (x : Sub) : Bool := x.inst == b.targetInst && x.ring == fld b.args 2 1

/-- A stream with a job's subscription in place. -/
def Stream.subscribed (b : Job) (st : Stream) : Stream :=
  if st.subs.any b.subscribes then
    { st with subs := st.subs.map fun x => if b.subscribes x then { x with deliver := fld b.args 3 1 } else x }
  else { st with subs := st.subs ++ [{ inst := b.targetInst, ring := fld b.args 2 1, deliver := fld b.args 3 1 }] }

theorem frmSubscribe_passes (hst : s.stream? (fld c.job.args 0 2) = some st) (hfam : famEnabled s c.job = none)
    (hzero : paramZero c.job 0xFFFFFFFF = none) (hbody : bodyIs c.job 8 = none) (hring : fld c.job.args 2 1 ≤ 7)
    (hd : fld c.job.args 3 1 ≤ 2) (hz : zero? c.job.args 4 4 = true)
    (hown : st.cfg.owner = c.job.targetInst ∨ bit st.cfg.flags 2 = true) (hseal : fld c.job.args 3 1 ≠ 2 ∨ bit st.cfg.flags 3 = true)
    (hroom : st.subs.length < 8 ∨ st.subs.any c.job.subscribes = true) :
    frmSubscribe c s = ((commit c.job.id s).modStream (fld c.job.args 0 2) (Stream.subscribed c.job), some okRes) := by
  unfold frmSubscribe
  dsimp only
  rw [orBad_passes]
  · rfl
  · simp only [passes_cons, check_passes, hst, hfam, hzero, hbody, hring, hd, hz, Option.isSome_some, Option.any_some]
    refine ⟨trivial, trivial, rfl, trivial, trivial, ?_, ?_, ?_, rfl⟩
    · simpa using hown
    · simpa using hseal
    · rw [Bool.or_eq_true, decide_eq_true_eq]
      exact hroom.symm

theorem subscribes_iff {b : Job} {x : Sub} : b.subscribes x = true ↔ x.inst = b.targetInst ∧ x.ring = fld b.args 2 1 := by
  simp [Job.subscribes]

theorem subscribed_cfg (b : Job) (st : Stream) : (st.subscribed b).cfg = st.cfg := by
  unfold Stream.subscribed
  split <;> rfl

theorem subscribed_mine (b : Job) (st : Stream) :
    ∃ x ∈ (st.subscribed b).subs, b.subscribes x = true ∧ x.deliver = fld b.args 3 1 := by
  unfold Stream.subscribed
  split
  next h =>
    obtain ⟨y, hy, hmine⟩ := List.any_eq_true.1 h
    exact ⟨{ y with deliver := fld b.args 3 1 }, List.mem_map.2 ⟨y, hy, if_pos hmine⟩, hmine, rfl⟩
  next => exact ⟨_, List.mem_append_right _ (List.mem_singleton_self _), by simp [Job.subscribes], rfl⟩

theorem subscribed_others {b : Job} {x : Sub} (hx : x ∈ st.subs) (h : ¬ b.subscribes x = true) : x ∈ (st.subscribed b).subs := by
  unfold Stream.subscribed
  split
  · exact List.mem_map.2 ⟨x, hx, if_neg h⟩
  · exact List.mem_append_left _ hx

theorem frmUnsubscribe_passes (hst : s.stream? (fld c.job.args 0 2) = some st) (hfam : famEnabled s c.job = none)
    (hzero : paramZero c.job 0xFFFFFFFF = none) (hbody : bodyIs c.job 4 = none) (hring : fld c.job.args 2 1 ≤ 7)
    (hz : zero? c.job.args 3 1 = true) :
    frmUnsubscribe c s = ((commit c.job.id s).modStream (fld c.job.args 0 2) fun st =>
      { st with subs := st.subs.filter fun x => !c.job.subscribes x }, some okRes) := by
  unfold frmUnsubscribe
  dsimp only
  rw [orBad_passes]
  · rfl
  · simp only [passes_cons, check_passes, hst, hfam, hzero, hbody, hring, hz, Option.isSome_some]
    exact ⟨trivial, trivial, rfl, trivial, trivial, rfl⟩

/-! ### Clearing, releasing, reporting (R279, R282) -/

theorem streamBody_passes (hst : s.stream? (fld c.job.args 0 2) = some st) (hfam : famEnabled s c.job = none)
    (hzero : paramZero c.job 0xFFFFFFFF = none) (hbody : bodyIs c.job 4 = none) (hz : zero? c.job.args 2 2 = true) :
    Passes (streamBody s c.job) := by
  simp only [streamBody, passes_cons, check_passes, hst, hfam, hzero, hbody, hz, Option.isSome_some]
  exact ⟨trivial, trivial, trivial, trivial, trivial, rfl⟩

theorem frmStreamClear_passes (h : Passes (streamBody s c.job)) : frmStreamClear c s =
    ((endSessionsOf (fld c.job.args 0 2) (commit c.job.id s)).modFrames
      fun f => { f with streams := tdel f.streams (fld c.job.args 0 2) }, some okRes) := by
  unfold frmStreamClear
  dsimp only
  rw [orBad_passes h]

theorem frmStreamRelease_passes (h : Passes (streamBody s c.job)) :
    frmStreamRelease c s = (streamRelease (fld c.job.args 0 2) (commit c.job.id s), some okRes) := by
  unfold frmStreamRelease
  dsimp only
  rw [orBad_passes h]

theorem frmStreamStatus_passes (h : Passes (streamBody s c.job)) (hst : s.stream? (fld c.job.args 0 2) = some st) :
    frmStreamStatus c s = (s, some (respRes st.record)) := by
  unfold frmStreamStatus
  dsimp only
  rw [orBad_passes h, hst]

/-- A stream that has left quarantine, where it was in it (R279). -/
def Stream.released (st : Stream) : Stream := if st.st = .quarantined then { st with st := .inactive, fails := [] } else st

theorem stream_streamRelease (h : s.stream? n = some st) : (streamRelease n s).stream? n = some st.released := by
  unfold streamRelease Stream.released
  rw [h]
  dsimp only
  split
  · rw [stream_streamEvent, stream_modStream_self _ h]
  · exact h

@[simp] theorem streamRelease_cmds (n : Nat) (s : State) : (streamRelease n s).cmds = s.cmds := by
  unfold streamRelease
  split
  · split
    · exact streamEvent_cmds _ _ _ _
    · rfl
  · rfl

theorem runVerb_frames {body : Cmd → State → State × Option Res} {r : Res} (hw : AtWork op j c s)
    (hb : body c (drawEnergy s).2 = (t, some r)) : (runVerb op j body s).frames = t.frames := by
  obtain ⟨hc, hop, hat, hheld, hrep⟩ := hw
  rw [runVerb_of_body hc hop hat hheld hrep hb]
  simp

theorem keeps_commit (h : s.cmd? c.job.id = some c) : Keeps c (commit c.job.id s) := ⟨_, cmd_commit h, rfl⟩

theorem frmStreamRelease_ends (hw : AtWork 0x0808 j c s) (h : Passes (streamBody s c.job))
    (hst : s.stream? (fld c.job.args 0 2) = some st) :
    ∃ t, exec (.frmStreamRelease j) s = .next t ∧ Ended j c okRes t ∧ t.stream? (fld c.job.args 0 2) = some st.released := by
  have hc : s.cmd? c.job.id = some c := (cmd_id hw.1).symm ▸ hw.1
  have hb := frmStreamRelease_passes (s := (drawEnergy s).2) (c := c) h
  have hst' : (commit c.job.id (drawEnergy s).2).stream? (fld c.job.args 0 2) = some st :=
    (stream_commit _ _ _).trans hst
  refine ⟨_, rfl, ended_of_body hw hb ?_, ?_⟩
  · obtain ⟨d, hd, hj⟩ := keeps_commit (s := (drawEnergy s).2) hc
    exact ⟨d, (cmd_congr (streamRelease_cmds _ _) _).trans hd, hj⟩
  · rw [stream_congr (congrArg Frames.streams (runVerb_frames hw hb))]
    exact stream_streamRelease hst'

/-! ### Frame keys (R271) -/

/-- The key that a FRM.KEY_SET body gives its slot; none where its length is 0. -/
def Job.frameKey (b : Job) : Option FKey :=
  if fld b.args 3 1 = 0 then none
  else some { keyId := slice b.args 4 4, from' := fld b.args 8 8, till := fld b.args 0x10 8, key := slice b.args 0x18 (fld b.args 3 1) }

theorem frmKeySet_passes (hst : s.stream? (fld c.job.args 0 2) = some st) (hfam : famEnabled s c.job = none)
    (hzero : paramZero c.job 0xFFFFFFFF = none) (hbody : bodyIs c.job 0x38 = none) (hn : fld c.job.args 0 2 ≤ 4094)
    (hslot : fld c.job.args 2 1 ≤ 1) (hperiod : fld c.job.args 8 8 < fld c.job.args 0x10 8)
    (hz : zero? c.job.args (0x18 + min 32 (fld c.job.args 3 1)) (32 - min 32 (fld c.job.args 3 1)) = true)
    (hlen : fld c.job.args 3 1 = 0 ∨ keySuits st.cfg.auth (fld c.job.args 3 1) = true) :
    frmKeySet c s = ((commit c.job.id s).modStream (fld c.job.args 0 2) fun st =>
      if fld c.job.args 2 1 = 0 then { st with key0 := c.job.frameKey } else { st with key1 := c.job.frameKey }, some okRes) := by
  unfold frmKeySet
  dsimp only
  rw [orBad_passes]
  · rfl
  · simp only [passes_cons, check_passes, hst, hfam, hzero, hbody, hn, hslot, hperiod, hz, Option.isSome_some, Option.any_some]
    refine ⟨trivial, trivial, rfl, trivial, trivial, ?_, rfl⟩
    simpa using hlen

/-! ### Streams (R270) -/

/-- A stream as FRM.STREAM_SET makes it anew. -/
def StreamCfg.fresh (x : StreamCfg) (tick : Nat) : Stream :=
  { cfg := x, level := x.burst * 1000000000, levelTick := tick, second := tick / 1000000000 }

/-- A stream that FRM.STREAM_SET rewrites under the same key. -/
def Stream.rewritten (st : Stream) (x : StreamCfg) (tick : Nat) : Stream :=
  { st with cfg := x, level := x.burst * 1000000000, levelTick := tick }

theorem frmStreamSet_passes (hfam : famEnabled s c.job = none) (hzero : paramZero c.job 0xFFFFFFFF = none)
    (hbody : bodyIs c.job 0x28 = none) (hn : fld c.job.args 0 2 ≤ 4094) (hok : (readStream c.job.args).ok = true)
    (hz : zero? c.job.args 0x27 1 = true)
    (hfree : ∀ e ∈ s.frames.streams, e.1 ≠ fld c.job.args 0 2 → (readStream c.job.args).overlaps e.2.cfg = false) :
    ∃ t u, frmStreamSet c s = (t, some okRes) ∧ t.stream? (fld c.job.args 0 2) = some u ∧
      u.cfg = readStream c.job.args ∧ (∀ st, s.stream? (fld c.job.args 0 2) = some st → st.cfg.sameKey (readStream c.job.args) = true →
        u = st.rewritten (readStream c.job.args) s.tick) ∧
      ((∀ st, s.stream? (fld c.job.args 0 2) = some st → st.cfg.sameKey (readStream c.job.args) = false) →
        u = (readStream c.job.args).fresh s.tick) := by
  have apart : (s.frames.streams.any fun e => !(e.1 == fld c.job.args 0 2) && (readStream c.job.args).overlaps e.2.cfg) = false := by
    rw [List.any_eq_false]
    intro e he
    by_cases h : e.1 = fld c.job.args 0 2
    · simp [h]
    · simp [hfree e he h]
  unfold frmStreamSet
  dsimp only
  rw [orBad_passes]
  · cases hst : s.stream? (fld c.job.args 0 2) with
    | none => exact ⟨_, _, rfl, tfind_tins_self _ _ _, rfl, fun _ h => (Option.some_ne_none _ h.symm).elim, fun _ => rfl⟩
    | some st =>
      by_cases hk : st.cfg.sameKey (readStream c.job.args) = true
      · refine ⟨_, st.rewritten (readStream c.job.args) s.tick, if_pos hk, tfind_tins_self _ _ _, rfl, fun _ h _ => ?_, fun h => ?_⟩
        · rw [Option.some.inj h]
        · exact absurd (h st rfl) (by simp [hk])
      · refine ⟨_, (readStream c.job.args).fresh s.tick, if_neg hk, tfind_tins_self _ _ _, rfl, fun _ h hk' => ?_, fun _ => rfl⟩
        exact absurd (Option.some.inj h ▸ hk') hk
  · simp only [passes_cons, check_passes, hfam, hzero, hbody, hn, hok, hz, apart]
    exact ⟨trivial, trivial, rfl, trivial, rfl, rfl⟩

/-! ### Ports (R268) -/

theorem retrain_mode (p q : Nat) (s : State) : ((retrain p s).port q).mode = (s.port q).mode := by
  unfold retrain
  dsimp only
  rw [foldl_keeps (fun s => (s.port q).mode) _ (fun s j => congrArg Port.mode (port_congr (by rw [fail, finish_frames]) q))]
  exact port_modPort_keeps Port.mode (fun _ => by rfl) s p q

theorem setPortMode_mode (p q : Nat) (m : PortMode) (s : State) :
    ((setPortMode p m s).port q).mode = if q = p then m else (s.port q).mode := by
  unfold setPortMode
  split
  next h =>
    split
    next hq => rw [hq, h]
    next => rfl
  next =>
    rw [retrain_mode]
    split
    next hq => rw [hq, port_modPort_self]
    next hq => rw [port_modPort_ne _ hq]

theorem partner_ne (p : Nat) : partner p ≠ p := by
  unfold partner
  split <;> omega

/-- The mode in which FRM.PORT_SET leaves the partner of a port (R262, R268). -/
def mateMode (s : State) (b : Job) : PortMode :=
  if portMode (fld b.args 1 1) = .passThrough then .passThrough
  else if (s.port (fld b.args 0 1)).mode = .passThrough then .disabled else (s.port (partner (fld b.args 0 1))).mode

/-- A port takes the rest of what a FRM.PORT_SET body gives. -/
def Port.setBy (b : Job) (x : Port) : Port :=
  { x with speed := fld b.args 2 1, redundancy := fld b.args 3 1, mtu := fld b.args 4 2, unknownRing := fld b.args 6 1,
           fwdUnknown := bit (fld b.args 7 1) 0, fwdOther := bit (fld b.args 7 1) 1 }

theorem frmPortSet_passes (hfam : famEnabled s c.job = none) (hzero : paramZero c.job 0xFFFFFFFF = none)
    (hbody : bodyIs c.job 8 = none) (hp : fld c.job.args 0 1 < 16) (hmode : fld c.job.args 1 1 ≤ 3) (hspeed : fld c.job.args 2 1 ≤ 2)
    (hred : fld c.job.args 3 1 ≤ 2) (hlow : 1518 ≤ fld c.job.args 4 2) (hhigh : fld c.job.args 4 2 ≤ 9216)
    (hring : fld c.job.args 6 1 ≤ 7 ∨ fld c.job.args 6 1 = 0xFF) (hflags : fld c.job.args 7 1 < 4)
    (htap : portMode (fld c.job.args 1 1) = .tap → portSource s (fld c.job.args 0 1) = none)
    (hpair : fld c.job.args 3 1 = 1 → mateMode s c.job = portMode (fld c.job.args 1 1)) :
    ∃ u : State, frmPortSet c s = (u.modPort (fld c.job.args 0 1) (Port.setBy c.job), some okRes) ∧
      (u.port (fld c.job.args 0 1)).mode = portMode (fld c.job.args 1 1) ∧
      (u.port (partner (fld c.job.args 0 1))).mode = mateMode s c.job := by
  have hne := partner_ne (fld c.job.args 0 1)
  have named : portSource s (fld c.job.args 0 1) = none →
      ((s.time.cfg.aEn && s.time.cfg.portA == fld c.job.args 0 1) ||
        (s.time.cfg.bEn && s.time.cfg.portB == fld c.job.args 0 1)) = false := by
    unfold portSource
    dsimp only
    intro h
    split at h
    · cases h
    next ha =>
      split at h
      · cases h
      next hb => rw [Bool.eq_false_of_not_eq_true ha, Bool.eq_false_of_not_eq_true hb]; rfl
  have mated : ((if portMode (fld c.job.args 1 1) = .passThrough then
        setPortMode (partner (fld c.job.args 0 1)) .passThrough (commit c.job.id s)
      else if (s.port (fld c.job.args 0 1)).mode = .passThrough then
        setPortMode (partner (fld c.job.args 0 1)) .disabled (commit c.job.id s)
      else commit c.job.id s).port (partner (fld c.job.args 0 1))).mode = mateMode s c.job := by
    unfold mateMode
    split
    · rw [setPortMode_mode, if_pos rfl]
    · split
      · rw [setPortMode_mode, if_pos rfl]
      · rw [port_commit]
  have retrained (u : State) (q : Nat) : ((if (u.port (fld c.job.args 0 1)).speed = fld c.job.args 2 1 then u
      else retrain (fld c.job.args 0 1) u).port q).mode = (u.port q).mode := by
    split
    · rfl
    · exact retrain_mode _ q u
  unfold frmPortSet
  dsimp only
  rw [orBad_passes]
  · refine ⟨_, rfl, ?_, ?_⟩
    · rw [retrained, setPortMode_mode, if_pos rfl]
    · rw [retrained, setPortMode_mode, if_neg hne, mated]
  · simp only [passes_cons, check_passes, hfam, hzero, hbody, hp, hmode, hspeed, hred, hlow, hhigh, hflags]
    refine ⟨trivial, trivial, ?_, trivial, ?_, ?_, rfl⟩
    · simpa using hring
    · by_cases ht : portMode (fld c.job.args 1 1) = .tap
      · rw [named (htap ht), Bool.and_false]
        rfl
      · simp [ht]
    · by_cases hr : fld c.job.args 3 1 = 1
      · have hm := hpair hr
        unfold mateMode at hm
        simp [hm]
      · simp [hr]

end Settings

/-- Settles O24, verb by verb: the checks pass on the state as it stands and after the energy's draw, and the change that the body makes is
what DONE leaves. -/
theorem frameConfiguration : Obligations.FrameConfiguration := by
  intro s j c st
  extract_lets b n i fam zero mine m q len k Sets p mate
  have sets : Sets = FrameSets j c s := rfl
  clear_value Sets
  subst sets
  refine ⟨fun hst hfam hzero => ⟨?subscribe, ?unsubscribe, fun hbody hz => ?_, ?keySet⟩, ?streamSet, ?portSet⟩
  case subscribe =>
    intro hw hbody hring hd hz hown hseal hroom
    have hroom' : st.subs.length < 8 ∨ st.subs.any c.job.subscribes = true :=
      hroom.imp id fun ⟨x, hx, hm⟩ => List.any_eq_true.2 ⟨x, hx, subscribes_iff.2 hm⟩
    refine frameSets_of hw rfl rfl (frmSubscribe_passes hst hfam hzero hbody hring hd hz hown hseal hroom')
      (congrArg Prod.snd (frmSubscribe_passes (s := (drawEnergy s).2) hst hfam hzero hbody hring hd hz hown hseal hroom')) ?_
    obtain ⟨x, hx, hm, hdel⟩ := subscribed_mine c.job st
    exact ⟨_, stream_modStream_self _ ((stream_commit _ _ _).trans hst), subscribed_cfg c.job st, ⟨x, hx, subscribes_iff.1 hm, hdel⟩,
      fun y hy hother => subscribed_others hy fun h => hother (subscribes_iff.1 h)⟩
  case unsubscribe =>
    intro hw hbody hring hz
    refine frameSets_of hw rfl rfl (frmUnsubscribe_passes hst hfam hzero hbody hring hz)
      (congrArg Prod.snd (frmUnsubscribe_passes (s := (drawEnergy s).2) hst hfam hzero hbody hring hz)) ?_
    refine ⟨_, stream_modStream_self _ ((stream_commit _ _ _).trans hst), fun x => ?_⟩
    rw [List.mem_filter, Bool.not_eq_true', ← Bool.not_eq_true, subscribes_iff]
  case keySet =>
    intro hw hbody hn hslot hperiod hz hlen
    refine frameSets_of hw rfl rfl (frmKeySet_passes hst hfam hzero hbody hn hslot hperiod hz hlen)
      (congrArg Prod.snd (frmKeySet_passes (s := (drawEnergy s).2) hst hfam hzero hbody hn hslot hperiod hz hlen)) ?_
    exact ⟨_, stream_modStream_self _ ((stream_commit _ _ _).trans hst), fun h => if_pos h,
      fun h => if_neg fun h0 => absurd (h0.symm.trans h) (by decide)⟩
  case streamSet =>
    intro hw hfam hzero hbody hn hok hz hfree
    obtain ⟨t, u, he, hu, hcfg, hsame, hfresh⟩ := frmStreamSet_passes hfam hzero hbody hn hok hz hfree
    obtain ⟨t0, u0, he0, -, -, -⟩ := frmStreamSet_passes (s := (drawEnergy s).2) hfam hzero hbody hn hok hz hfree
    refine frameSets_of hw rfl rfl he (congrArg Prod.snd he0) ⟨u, hu, hcfg, fun hst hk => ?_, fun h => ?_⟩
    · rw [hsame st hst hk]
      exact ⟨rfl, rfl, rfl, rfl, rfl, rfl⟩
    · rw [hfresh ?_]
      · exact ⟨rfl, rfl, rfl, rfl, rfl⟩
      · intro st' hst'
        rcases h with h | ⟨h, hk⟩
        · exact absurd (h.symm.trans hst') (by simp)
        · exact Option.some.inj (h.symm.trans hst') ▸ hk
  case portSet =>
    intro hw hfam hzero hbody hp hmode hspeed hred hlow hhigh hring hflags htap hpair
    obtain ⟨u, he, hm, hmate⟩ := frmPortSet_passes hfam hzero hbody hp hmode hspeed hred hlow hhigh hring hflags htap hpair
    obtain ⟨u0, he0, -, -⟩ := frmPortSet_passes (s := (drawEnergy s).2) hfam hzero hbody hp hmode hspeed hred hlow hhigh hring hflags htap
      hpair
    refine frameSets_of hw rfl rfl he (congrArg Prod.snd he0) ?_
    rw [port_modPort_self, port_modPort_ne _ (partner_ne _)]
    exact ⟨hm, rfl, rfl, rfl, rfl, rfl, rfl, hmate⟩
  have body := streamBody_passes hst hfam hzero hbody hz
  refine ⟨fun hw => ?_, fun hw => ?_, fun hw => ?_⟩
  · refine frameSets_of hw rfl rfl (frmStreamClear_passes body)
      (congrArg Prod.snd (frmStreamClear_passes (s := (drawEnergy s).2) body)) (tfind_tdel_self _ _)
  · obtain ⟨t, ht, he, hu⟩ := frmStreamRelease_ends hw body hst
    exact ⟨t, _, ht, he, hu, fun h => if_pos h, fun h => if_neg h⟩
  · exact ended_of hw (frmStreamStatus_passes (s := (drawEnergy s).2) body hst) rfl

end Sys2Proof.Machine
end

section
/-! PROOFS. Frame rings and the egress of frames (O25). -/

namespace Sys2Proof.Machine
open Safety

/-! ### Frame rings (R283, R285, R87) -/

section Enabling
variable {s : State} {k r v : Nat}

/-- A frame ring whose registers R283 takes. -/
abbrev FrameRing.InOrder (x : FrameRing) : Prop := 16 ≤ x.log2 ∧ x.log2 ≤ 26 ∧ x.base + 2 ^ x.log2 ≤ 2 ^ 64

/-- A frame ring as a write of FRP_RING_CTRL clears its RW1C bits. -/
def FrameRing.cleared (v : Nat) (x : FrameRing) : FrameRing :=
  { x with dbRange := x.dbRange && !bit v 2, writeFault := x.writeFault && !bit v 3 }

/-- A frame ring as it starts. -/
def FrameRing.started (x : FrameRing) : FrameRing :=
  { x with enable := true, errCfg := false, tail := 0, head := 0, phase := true, seq := 0, stopped := false, unsignalled := [] }

theorem fring_cleared (s : State) (k r v : Nat) : (s.modFring k r (FrameRing.cleared v)).fring k r = (s.fring k r).cleared v :=
  State.fring_modFring_self s k r _

theorem frameRing_row (h : Reached k s) (hp : s.present k = true) (hr : r < 8) : exec (.frameRingEnable k r v) s = .next (
    if bit v 0 = false then (s.modFring k r (FrameRing.cleared v)).modFring k r fun x => { x with enable := false }
    else if (s.fring k r).enable = true then s.modFring k r (FrameRing.cleared v)
    else if (s.fring k r).InOrder then (s.modFring k r (FrameRing.cleared v)).modFring k r FrameRing.started
    else (s.modFring k r (FrameRing.cleared v)).modFring k r fun x => { x with errCfg := true }) := by
  obtain ⟨hreach, hide⟩ := h
  refine congrArg Host.Outcome.next ((gated_open s k _ hreach hide).trans ?_)
  unfold frameRingEnableAt
  rw [if_neg (by simp [hp, hr])]
  have cleared := fring_cleared s k r v
  unfold FrameRing.cleared at cleared
  dsimp only
  simp only [cleared, Bool.not_eq_true', Bool.and_eq_true, decide_eq_true_eq, and_assoc]
  rfl

theorem frameRingEnable_starts (h : Reached k s) (hp : s.present k = true) (hr : r < 8) (hv : bit v 0 = true)
    (hoff : (s.fring k r).enable = false) (ho : (s.fring k r).InOrder) : ∃ t, exec (.frameRingEnable k r v) s = .next t ∧
      t.fring k r = ((s.fring k r).cleared v).started := by
  refine ⟨_, frameRing_row h hp hr, ?_⟩
  rw [if_neg (by simp [hv]), if_neg (by simp [hoff]), if_pos ho, State.fring_modFring_self, fring_cleared]

theorem frameRingEnable_refused (h : Reached k s) (hp : s.present k = true) (hr : r < 8) (hv : bit v 0 = true)
    (hoff : (s.fring k r).enable = false) (ho : ¬ (s.fring k r).InOrder) : ∃ t, exec (.frameRingEnable k r v) s = .next t ∧
      t.fring k r = { (s.fring k r).cleared v with errCfg := true } := by
  refine ⟨_, frameRing_row h hp hr, ?_⟩
  rw [if_neg (by simp [hv]), if_neg (by simp [hoff]), if_neg ho, State.fring_modFring_self, fring_cleared]

theorem frameRingEnable_stops (h : Reached k s) (hp : s.present k = true) (hr : r < 8) (hv : bit v 0 = false) :
    ∃ t, exec (.frameRingEnable k r v) s = .next t ∧ (t.fring k r).enable = false := by
  refine ⟨_, frameRing_row h hp hr, ?_⟩
  rw [if_pos hv, State.fring_modFring_self]

/-- A head inside the ring that frees no more than is written (R285). -/
abbrev FrameRing.TakesHead (x : FrameRing) (h : Nat) : Prop :=
  h < x.units ∧ (h + x.units - x.head) % x.units ≤ (x.tail + x.units - x.head) % x.units

theorem frameDoorbell_row (h : Reached k s) (hp : s.present k = true) (hr : r < 8) (hon : (s.fring k r).enable = true) :
    exec (.frameRingDoorbell k r v) s = .next (
      if (s.fring k r).TakesHead (bits v 21 0) then s.modFring k r fun x => { x with
        head := bits v 21 0, stopped := false,
        unsignalled := (keepBeyond s.tick (((s.fring k r).tail + (s.fring k r).units - bits v 21 0) % (s.fring k r).units)
          x.unsignalled.reverse).reverse }
      else s.modFring k r fun x => { x with dbRange := true }) := by
  obtain ⟨hreach, hide⟩ := h
  refine congrArg Host.Outcome.next ((gated_open s k _ hreach hide).trans ?_)
  unfold frameRingDoorbellAt
  rw [if_neg (by simp [hp, hr, hon])]
  simp only [Bool.and_eq_true, decide_eq_true_eq]
  rfl

end Enabling

/-! ### Egress (R275, R286, R288, R296) -/

section Leaving
variable {s : State} {p j n : Nat} {c : Cmd} {e : Egress}

theorem hostWrite_out (i addr : Nat) (b : List Byte) (x : Bool) (s : State) : s.out <+: (hostWrite i addr b x s).out := by
  unfold hostWrite askPage emit
  split
  · exact List.prefix_rfl
  · split
    · exact List.prefix_append _ _
    · rw [List.append_assoc]
      exact List.prefix_append _ _

theorem appendEntry_out (e : JEntry) (s : State) : s.out <+: (appendEntry e s).out := by
  unfold appendEntry mirrorEntry
  dsimp only
  split
  · refine List.IsPrefix.trans ?_ (hostWrite_out _ _ _ _ _)
    exact List.prefix_rfl
  · exact List.prefix_rfl

@[simp] theorem takeJseq_out (s : State) : (takeJseq s).2.out = s.out := by
  unfold takeJseq reserveIfDue
  dsimp only
  split <;> rfl

/-- The sealing of frames works on sessions, the HVW_ registers and the journal alone, and takes back nothing that has left. -/
structure SealedOnly (s t : State) : Prop where
  ports : t.frames.ports = s.frames.ports
  cmds : t.cmds = s.cmds
  out : s.out <+: t.out

theorem SealedOnly.refl (s : State) : SealedOnly s s := ⟨rfl, rfl, List.prefix_rfl⟩

theorem SealedOnly.trans {s t u : State} (h : SealedOnly s t) (k : SealedOnly t u) : SealedOnly s u :=
  ⟨k.ports.trans h.ports, k.cmds.trans h.cmds, h.out.trans k.out⟩

theorem SealedOnly.ite {s a b : State} {q : Prop} [Decidable q] (ha : SealedOnly s a) (hb : SealedOnly s b) :
    SealedOnly s (if q then a else b) := by
  split
  · exact ha
  · exact hb

theorem modSession_sealedOnly (n : Nat) (f : Session → Session) (s : State) : SealedOnly s (s.modSession n f) :=
  ⟨rfl, rfl, List.prefix_rfl⟩

theorem sealFail_sealedOnly (n w i : Nat) (st : Status) (s : State) : SealedOnly s (sealFail n w i st s) := by
  unfold sealFail
  dsimp only
  have entry (e : JEntry) : SealedOnly s (appendEntry e (takeJseq s).2) := by
    have same := (takeJseq_same s).trans (appendEntry_same _ e)
    refine ⟨by rw [same], by rw [same], ?_⟩
    have := appendEntry_out e (takeJseq s).2
    rwa [takeJseq_out] at this
  exact ⟨(entry _).ports, (entry _).cmds, (entry _).out⟩

theorem closeWindow_sealedOnly (n : Nat) (s : State) : SealedOnly s (closeWindow n s) := by
  unfold closeWindow
  split
  · split
    · exact .refl s
    · dsimp only
      split
      · exact modSession_sealedOnly n _ s
      · exact (modSession_sealedOnly n _ s).trans (sealFail_sealedOnly _ _ _ _ _)
  · exact .refl s

theorem foldSeal_sealedOnly (n : Nat) (b : List Byte) (s : State) : SealedOnly s (foldSeal n b s) := by
  unfold foldSeal
  split
  · dsimp only
    split
    · exact .refl s
    · refine SealedOnly.trans ?_ (modSession_sealedOnly n _ _)
      split
      · exact closeWindow_sealedOnly n s
      · exact .refl s
  · exact .refl s

/-- A frame whose timeAllowedtoLive has run out does not leave (R275). -/
abbrev Egress.Late (e : Egress) (s : State) : Prop := e.send = none ∧ ∃ d, e.ttl = some d ∧ e.ingress + d ≤ s.tick

/-- A port as a frame leaves it. -/
def Port.sent (e : Egress) (x : Port) : Port :=
  if e.send.isSome then { x with queue := x.queue.erase e, tx := inc32 x.tx }
  else if e.own then { x with queue := x.queue.erase e } else { x with queue := x.queue.erase e, fwd := inc32 x.fwd }

theorem depart_late (h : e.Late s) : depart p e s = s.modPort p fun x => { x with queue := x.queue.erase e } := by
  obtain ⟨hs, d, hd, hlate⟩ := h
  unfold depart
  dsimp only
  rw [if_pos (by simp [hs, hd, hlate])]

theorem depart_leaves (h : ¬ e.Late s) : (depart p e s).port p = (s.port p).sent e ∧ (depart p e s).cmds = s.cmds ∧
    s.out ++ [.frame p (leaving s e)] <+: (depart p e s).out := by
  have intime : ¬ ((e.send.isNone && e.ttl.any fun t => decide (e.ingress + t ≤ s.tick)) = true) := by
    simpa [Egress.Late, Option.any_eq_true] using h
  have gone (f : Port → Port) (hf : ∀ x : Port, f { x with queue := x.queue.erase e } = x.sent e) (t : State)
      (ht : SealedOnly (emit (.frame p (leaving s e)) ((s.modPort p fun x => { x with queue := x.queue.erase e }).modPort p f)) t) :
      t.port p = (s.port p).sent e ∧ t.cmds = s.cmds ∧ s.out ++ [.frame p (leaving s e)] <+: t.out := by
    refine ⟨?_, ht.cmds, ht.out⟩
    rw [port_congr ht.ports]
    refine (port_modPort_self _ p f).trans ?_
    rw [port_modPort_self, hf]
  unfold depart
  dsimp only
  rw [if_neg intime]
  refine gone (fun x => if e.send.isSome then { x with tx := inc32 x.tx } else if e.own then x else { x with fwd := inc32 x.fwd }) ?_ _ ?_
  · intro x
    unfold Port.sent
    split
    · rfl
    · split <;> rfl
  · cases e.stream with
    | none => exact .refl _
    | some n => exact .ite (foldSeal_sealedOnly _ _ _) (.refl _)

theorem sent_queue (x : Port) : (x.sent e).queue = x.queue.erase e := by
  unfold Port.sent
  split
  · rfl
  · split <;> rfl

theorem exec_frameEgress (hn : nextEgress (s.port p).queue = some e) (hcan : s.canSend p = true) (hs : e.send = none) :
    exec (.frameEgress p) s = .next (depart p e s) := by
  refine congrArg Host.Outcome.next ?_
  rw [hn]
  dsimp only
  rw [if_neg (by simp [hs, hcan])]

@[simp] theorem finish_out (j : Nat) (r : Res) (s : State) : (finish j r s).out = s.out := by simp [finish]

theorem port_modProg (j p : Nat) (f : Prog → Prog) (s : State) : (s.modProg j f).port p = s.port p := rfl

theorem port_finish (j p : Nat) (r : Res) (s : State) : (finish j r s).port p = s.port p := port_congr (by rw [finish_frames]) p

theorem canSend_lt (h : s.canSend p = true) : p < 16 := by
  simp only [State.canSend, Bool.and_eq_true, decide_eq_true_eq] at h
  exact h.1.1

theorem exec_frmSendEgress (hn : nextEgress (s.port p).queue = some e) (hcan : s.canSend p = true) (hs : e.send = some j)
    (hfirst : ∀ q, q < p → (nextEgress (s.port q).queue).all (fun f => f.send != some j) = true) (hc : s.cmd? j = some c) :
    exec (.frmSendEgress j) s = .next (finish j
      (if c.job.frags.any fun f => f.operand == 1 then outTo c.job 1 (le 8 s.tick) else okRes) (depart p e s)) := by
  have hfind : (List.range 16).find? (fun q => (nextEgress (s.port q).queue).any fun f => f.send == some j) = some p := by
    rw [List.find?_range_eq_some]
    refine ⟨by rw [hn]; simp [hs], List.mem_range.2 (canSend_lt hcan), fun q hq => ?_⟩
    have := hfirst q hq
    cases hq : nextEgress (s.port q).queue with
    | none => rfl
    | some f =>
      rw [hq] at this
      simpa using this
  refine congrArg Host.Outcome.next ?_
  rw [hfind, hc]
  dsimp only
  rw [hn]
  dsimp only
  rw [if_neg (by simp [hcan])]

/-! ### FRM.SEND (R286) -/

/-- The frame that FRM.SEND queues for a stream: signed where the job asks for it. -/
def sentFrame (st : Stream) (b : Job) : List Byte :=
  match b.pbit 12, st.keyAt b.acceptTick with
  | true, some k => signFrame st.cfg.auth k (b.operand 0)
  | _, _ => b.operand 0

/-- The frame of FRM.SEND as it waits in the egress queue. -/
def sentEgress (st : Stream) (b : Job) (tick : Nat) : Egress :=
  { data := sentFrame st b, prio := framePrio 0 (b.operand 0), send := some b.id, stream := some (bits b.param.toNat 11 0),
    fold := b.pbit 13, ingress := tick }

theorem frmSend_queues {st : Stream} (h : Passes [paramZero c.job 0xFFFFC000, check c.job.args.isEmpty .malformed, famEnabled s c.job,
      sendBad s c.job]) (hst : s.stream? (bits c.job.param.toNat 11 0) = some st)
    (hroom : ((s.port st.cfg.egress).queue.map (·.data.length)).sum + (sentFrame st c.job).length ≤ 1048576) :
    frmSend c s = ((s.modPort st.cfg.egress fun x => { x with queue := x.queue ++ [sentEgress st c.job s.tick] }).modProg c.job.id
      fun q => { q with phase := .running }, none) := by
  unfold frmSend
  dsimp only
  rw [orBad_passes h, hst]
  exact if_neg (Nat.not_lt.2 hroom)

theorem frmSend_runs {st : Stream} (hw : AtWork 0x0801 j c s)
    (h : Passes [paramZero c.job 0xFFFFC000, check c.job.args.isEmpty .malformed, famEnabled s c.job, sendBad s c.job])
    (hst : s.stream? (bits c.job.param.toNat 11 0) = some st)
    (hroom : ((s.port st.cfg.egress).queue.map (·.data.length)).sum + (sentFrame st c.job).length ≤ 1048576) :
    ∃ t d, exec (.frmSend j) s = .next t ∧ t.cmd? j = some d ∧ d.job = c.job ∧ d.prog.phase = .running ∧
      (t.port st.cfg.egress).queue = (s.port st.cfg.egress).queue ++ [sentEgress st c.job s.tick] := by
  have hj := cmd_id hw.1
  obtain ⟨hc, hop, hat, hheld, hrep⟩ := hw
  have hb := frmSend_queues (s := (drawEnergy s).2) h hst hroom
  refine ⟨_, { c with prog := { c.prog with phase := .running } }, congrArg Host.Outcome.next (runVerb_of_wait hc hop hat hheld hrep hb), ?_, rfl, rfl, ?_⟩
  · rw [hj]
    exact cmd_modProg _ hc
  · rw [port_modProg, port_modPort_self]
    rfl

theorem exec_linkChange (hp : p < 16) (hm : (s.port p).mode ≠ .disabled) (hup : s.portsUp = true) (up : Bool) :
    exec (.framePortLinkChange p up) s = .next (s.modPort p fun x => { x with link := up }) := by
  refine congrArg Host.Outcome.next (if_neg ?_)
  rintro (h | h | ⟨-, h⟩)
  · exact absurd hp (Nat.not_lt.2 h)
  · exact hm h
  · exact h hup

end Leaving

/-- Settles O25: the rows of the frame rings case by case, and a departing frame by what its late or timely end leaves. -/
theorem framesAreSent : Obligations.FramesAreSent := by
  refine ⟨fun s k r v h hp hr => ⟨fun hv hoff => ⟨?starts, ?refused⟩, frameRingEnable_stops h hp hr, fun hon => ⟨?taken, ?outside⟩⟩,
    fun s p j c st e => ⟨?send, fun hn hcan => ⟨fun hs => ⟨?leaves, ?late⟩, ?ends⟩, ?up, ?off⟩⟩
  case starts =>
    intro hlow hhigh hfit
    obtain ⟨t, ht, hx⟩ := frameRingEnable_starts h hp hr hv hoff ⟨hlow, hhigh, hfit⟩
    exact ⟨t, ht, by rw [hx]; exact ⟨rfl, rfl, rfl, rfl, rfl⟩⟩
  case refused =>
    intro hbad
    have outOf : ¬ (s.fring k r).InOrder := by
      unfold FrameRing.InOrder
      omega
    obtain ⟨t, ht, hx⟩ := frameRingEnable_refused h hp hr hv hoff outOf
    exact ⟨t, ht, by rw [hx]; exact ⟨hoff, rfl⟩⟩
  case taken =>
    intro hgood
    refine ⟨_, frameDoorbell_row h hp hr hon, ?_⟩
    rw [if_pos hgood, State.fring_modFring_self]
  case outside =>
    intro hbad
    refine ⟨_, frameDoorbell_row h hp hr hon, ?_⟩
    rw [if_neg hbad, State.fring_modFring_self]
  case send =>
    intro hw hpass hst out hroom
    obtain ⟨t, d, ht, hd, hj, hphase, hq⟩ := frmSend_runs hw hpass hst hroom
    exact ⟨t, d, _, ht, hd, hj, hphase, hq, rfl, congrArg some (cmd_id hw.1)⟩
  case leaves =>
    intro hin
    have timely : ¬ e.Late s := fun ⟨_, d, hd, hlate⟩ => absurd (hin d hd) (Nat.not_lt.2 hlate)
    obtain ⟨hport, -, hout⟩ := depart_leaves (p := p) timely
    exact ⟨_, exec_frameEgress hn hcan hs, hout, by rw [hport, sent_queue]⟩
  case late =>
    intro d hd hlate
    refine ⟨_, exec_frameEgress hn hcan hs, ?_⟩
    rw [depart_late ⟨hs, d, hd, hlate⟩, port_modPort_self]
    exact ⟨rfl, rfl⟩
  case ends =>
    intro hs hfirst hc
    have timely : ¬ e.Late s := fun ⟨hnone, _⟩ => absurd (hs.symm.trans hnone) (Option.some_ne_none j)
    obtain ⟨hport, hcmds, hout⟩ := depart_leaves (p := p) timely
    refine ⟨_, exec_frmSendEgress hn hcan hs hfirst hc, ?_, ?_, ?_⟩
    · rwa [finish_out]
    · rw [port_finish, hport, Port.sent, if_pos (by rw [hs]; rfl)]
    · exact ⟨_, _, cmd_finish _ ((cmd_congr hcmds j).trans hc), rfl, rfl, rfl⟩
  case up =>
    intro hp hm hup up
    exact ⟨_, exec_linkChange hp hm hup up, port_modPort_self s p _⟩
  case off =>
    intro hm up
    exact congrArg Host.Outcome.next (if_pos (.inr (.inl hm)))

end Sys2Proof.Machine
end

section
/-! PROOFS. Frames are judged and streams follow their clocks (O26). -/

namespace Sys2Proof.Machine
open Safety

/-! ### What the state of streams does not reach -/

/-- What `g` reads no change of streams reaches, nor an entry in a frame ring. -/
structure StreamsBlind {γ : Type} (g : State → γ) : Prop where
  entry : ∀ {s t}, SameButRings s t → g t = g s
  streams : ∀ s n f, g (s.modStream n f) = g s

section Blind
variable {γ : Type} {g : State → γ}

theorem ports_streamsBlind : StreamsBlind fun s => s.frames.ports where
  entry h := by rw [h]
  streams _ _ _ := rfl

theorem tick_streamsBlind : StreamsBlind fun s => s.tick where
  entry h := by rw [h]
  streams _ _ _ := rfl

theorem time_streamsBlind : StreamsBlind fun s => s.time where
  entry h := by rw [h]
  streams _ _ _ := rfl

variable (h : StreamsBlind g)
include h

theorem StreamsBlind.streamEvent (n ev t : Nat) (s : State) : g (streamEvent n ev t s) = g s := h.entry (streamEvent_same n ev t s)

theorem StreamsBlind.rateRoll (n t : Nat) (s : State) : g (rateRoll n t s) = g s := by
  unfold Machine.rateRoll
  split
  · rfl
  next st _ =>
    dsimp only
    split
    · rfl
    · split
      · rw [h.streamEvent, h.streams]
      · refine ite_keeps g ?_ ?_
        · rw [h.streamEvent, h.streams]
          exact (ite_keeps g (h.streamEvent _ _ _ _) rfl).trans (h.streams _ _ _)
        · exact (ite_keeps g (h.streamEvent _ _ _ _) rfl).trans (h.streams _ _ _)

theorem StreamsBlind.streamPass (n i ttl : Nat) (s : State) : g (streamPass n i ttl s) = g s := by
  unfold Machine.streamPass
  split
  · rfl
  · exact ite_keeps g (h.streams _ _ _) ((h.streamEvent _ _ _ _).trans (h.streams _ _ _))

theorem StreamsBlind.streamFail (n t : Nat) (s : State) : g (streamFail n t s) = g s := by
  unfold Machine.streamFail
  split
  · rfl
  · exact ite_keeps g ((h.streamEvent _ _ _ _).trans (h.streams _ _ _)) (h.streams _ _ _)

theorem StreamsBlind.notePass (n kind : Nat) (b : List Byte) (i : Nat) (s : State) : g (notePass n kind b i s) = g s :=
  (h.streamPass _ _ _ _).trans (h.streams _ _ _)

end Blind

/-! ### The clocks of a stream (R276, R278, R279) -/

section Clocks
variable {s : State} {n t : Nat} {st : Stream}

/-- A stream after its rate clock has run: no field but those of the rate is touched. -/
def Stream.rated (st : Stream) (second count : Nat) (low : Bool) : Stream := { st with second := second, count := count, rateLow := low }

theorem Stream.rated_cfg (st : Stream) (second count : Nat) (low : Bool) : (st.rated second count low).cfg = st.cfg := rfl

theorem stream_ite {p : Prop} [Decidable p] {a b : State} (ha : a.stream? n = some st) (hb : b.stream? n = some st) :
    (if p then a else b).stream? n = some st := by
  split
  · exact ha
  · exact hb

/-- The second that follows the one of a stream's count (R276). -/
theorem stream_rateRoll_next (h : s.stream? n = some st) (hn : t / 1000000000 = st.second + 1) :
    (rateRoll n t s).stream? n = some (st.rated (t / 1000000000) 0 (decide (st.count < st.cfg.rateFloor))) := by
  have rolled : (s.modStream n fun x => x.rated (t / 1000000000) 0 (decide (st.count < st.cfg.rateFloor))).stream? n =
      some (st.rated (t / 1000000000) 0 (decide (st.count < st.cfg.rateFloor))) := stream_modStream_self _ h
  unfold rateRoll
  rw [h]
  dsimp only
  rw [if_neg (by omega)]
  refine stream_ite ((stream_streamEvent _ _ _ _ _).trans rolled) ?_
  rw [if_neg (by simp [hn])]
  exact stream_ite ((stream_streamEvent _ _ _ _ _).trans rolled) rolled

theorem stream_rateRoll (t : Nat) (h : s.stream? n = some st) :
    ∃ sec cnt low, (rateRoll n t s).stream? n = some (st.rated sec cnt low) := by
  have rolled : (s.modStream n fun x => x.rated (t / 1000000000) 0 (decide (st.count < st.cfg.rateFloor))).stream? n =
      some (st.rated (t / 1000000000) 0 (decide (st.count < st.cfg.rateFloor))) := stream_modStream_self _ h
  have normal : (if st.rateLow then streamEvent n 4 t (s.modStream n fun x => x.rated (t / 1000000000) 0 (decide (st.count < st.cfg.rateFloor))) else s.modStream n fun x => x.rated (t / 1000000000) 0 (decide (st.count < st.cfg.rateFloor))).stream? n = _ :=
    stream_ite ((stream_streamEvent _ _ _ _ _).trans rolled) rolled
  unfold rateRoll
  rw [h]
  dsimp only
  split
  · exact ⟨st.second, st.count, st.rateLow, h⟩
  · split
    · exact ⟨_, _, _, (stream_streamEvent _ _ _ _ _).trans rolled⟩
    · split
      · refine ⟨t / 1000000000, 0, true, (stream_streamEvent _ _ _ _ _).trans ?_⟩
        exact (stream_modStream_self _ normal :)
      · exact ⟨_, _, _, normal⟩

/-- Another stream is not rolled with stream `n`. -/
theorem stream_rateRoll_ne {m : Nat} (hm : m ≠ n) (t : Nat) (s : State) : (rateRoll m t s).stream? n = s.stream? n := by
  have other (f : Stream → Stream) (s : State) : (s.modStream m f).stream? n = s.stream? n := by
    rw [stream_modStream, if_neg (Ne.symm hm)]
  unfold rateRoll
  split
  · rfl
  next st _ =>
    dsimp only
    split
    · rfl
    · split
      · rw [stream_streamEvent, other]
      · refine ite_keeps (fun s => s.stream? n) ?_ ?_
        · refine (stream_streamEvent _ _ _ _ _).trans ((other _ _).trans ?_)
          exact (ite_keeps (fun s => s.stream? n) (stream_streamEvent _ _ _ _ _) rfl).trans (other _ _)
        · exact (ite_keeps (fun s => s.stream? n) (stream_streamEvent _ _ _ _ _) rfl).trans (other _ _)

/-- A stream that has been rolled in a second stays until the next. -/
theorem rateRoll_rolled (h : s.stream? n = some st) (hs : t / 1000000000 = st.second) : rateRoll n t s = s := by
  unfold rateRoll
  rw [h]
  exact if_pos (Nat.le_of_eq hs)

/-- The roll at a second's boundary takes every stream once. -/
theorem stream_rollAll (l : List Nat) (hn : n ∈ l) (h : s.stream? n = some st) (hs : s.tick / 1000000000 = st.second + 1) :
    (l.foldl (fun s n => rateRoll n s.tick s) s).stream? n =
      some (st.rated (s.tick / 1000000000) 0 (decide (st.count < st.cfg.rateFloor))) := by
  have tick (m : Nat) (u : State) : (rateRoll m u.tick u).tick = u.tick := tick_streamsBlind.rateRoll m u.tick u
  have rolled : ∀ u m, u.tick = s.tick ∧ u.stream? n =
        some (st.rated (s.tick / 1000000000) 0 (decide (st.count < st.cfg.rateFloor))) →
      (rateRoll m u.tick u).tick = s.tick ∧ (rateRoll m u.tick u).stream? n =
        some (st.rated (s.tick / 1000000000) 0 (decide (st.count < st.cfg.rateFloor))) := by
    rintro u m ⟨ht, hm⟩
    refine ⟨(tick m u).trans ht, ?_⟩
    by_cases h : m = n
    · subst h
      rw [rateRoll_rolled hm (congrArg (· / 1000000000) ht), hm]
    · rw [stream_rateRoll_ne h, hm]
  refine And.right (foldl_reaches (P := fun u => u.tick = s.tick ∧ (u.stream? n = some st ∨
      u.stream? n = some (st.rated (s.tick / 1000000000) 0 (decide (st.count < st.cfg.rateFloor)))))
    (fun u m hm => ?_) (fun u hm => ?_) rolled hn ⟨rfl, .inl h⟩)
  · obtain ⟨ht, hm | hm⟩ := hm
    · refine ⟨(tick m u).trans ht, ?_⟩
      by_cases h : m = n
      · subst h
        rw [ht]
        exact .inr (stream_rateRoll_next hm hs)
      · exact .inl ((stream_rateRoll_ne h _ u).trans hm)
    · exact ⟨(rolled u m ⟨ht, hm⟩).1, .inr (rolled u m ⟨ht, hm⟩).2⟩
  · obtain ⟨ht, hm | hm⟩ := hm
    · refine ⟨(tick n u).trans ht, ?_⟩
      rw [ht]
      exact stream_rateRoll_next hm hs
    · exact rolled u n ⟨ht, hm⟩

theorem mem_of_tfind {α : Type} {l : Tbl α} {v : α} (h : tfind l n = some v) : n ∈ l.map (·.1) := by
  induction l with
  | nil => cases h
  | cons e l ih =>
    obtain ⟨a, w⟩ := e
    by_cases ha : a = n
    · exact ha ▸ List.mem_cons_self
    · exact List.mem_cons_of_mem _ (ih (by simpa [tfind, ha] using h))

theorem silenceExpiry_silences {d : Nat} (h : s.stream? n = some st) (hd : st.silence = some d) (ha : st.st = .active)
    (hdue : st.lastTick + d ≤ s.tick) :
    ∃ t, exec (.streamSilenceExpiry n) s = .next t ∧ t.stream? n = some { st with st := .silent } := by
  have he : exec (.streamSilenceExpiry n) s = .next (streamEvent n 2 s.tick (s.modStream n fun st => { st with st := .silent })) := by
    refine congrArg Host.Outcome.next ?_
    rw [h]
    dsimp only
    rw [hd]
    exact if_pos ⟨ha, hdue⟩
  exact ⟨_, he, by rw [stream_streamEvent, stream_modStream_self _ h]⟩

theorem exec_quarantineHoldExpiry (h : s.stream? n = some st) : exec (.quarantineHoldExpiry n) s =
    .next (if st.lastFail + st.cfg.quarS * 1000000000 ≤ s.tick then streamRelease n s else s) := by
  refine congrArg Host.Outcome.next ?_
  rw [h]

end Clocks

/-! ### The verdict of R273 -/

section Verdicts
variable {s t : State} {n off i : Nat} {st : Stream} {b bare : List Byte}

theorem authCheck_bad {slot v : Nat} (h : authCheck st bare i false = .bad v slot) : v = 0x10 ∨ v = 0x13 ∨ v = 0x14 := by
  unfold authCheck at h
  dsimp only at h
  split at h
  · split at h <;> simp_all
  · split at h
    · simp at h
    · split at h
      · split at h <;> simp_all
      · split at h
        · simp_all
        · split at h
          · simp_all
          · split at h
            · simp_all
            · simp only [Bool.false_eq_true, if_false] at h
              split at h <;> simp_all

theorem authCheck_noFault {slot : Nat} : authCheck st bare i false ≠ .fault slot := by
  intro h
  unfold authCheck at h
  dsimp only at h
  split at h
  · split at h <;> simp at h
  · split at h
    · simp at h
    · split at h
      · split at h <;> simp at h
      · split at h
        · simp at h
        · split at h
          · simp at h
          · split at h
            · simp at h
            · simp only [Bool.false_eq_true, if_false] at h
              split at h <;> simp at h

/-- Without a fault pattern no verdict is one, and a frame is held back for quarantine only where its stream stands in it. -/
theorem judge_sound (s : State) (n : Nat) (st : Stream) (off : Nat) (b bare : List Byte) (i : Nat) :
    (judge s n st off b bare i false).fault = false ∧
      ((judge s n st off b bare i false).code = 0x17 → st.st = .quarantined) := by
  unfold judge
  split
  · exact ⟨rfl, fun h => absurd h (by decide)⟩
  · split
    next v slot ha =>
      refine ⟨rfl, fun h => ?_⟩
      rcases authCheck_bad ha with rfl | rfl | rfl <;> exact absurd h (by simp)
    next slot ha => exact absurd ha authCheck_noFault
    next tag slot _ =>
      split
      · exact ⟨rfl, fun h => absurd h (by simp)⟩
      · split
        · exact ⟨rfl, fun h => absurd h (by simp)⟩
        · split
          next hq => exact ⟨rfl, fun _ => hq⟩
          next => exact ⟨rfl, fun h => absurd h (by cases tag <;> simp)⟩

/-- The verdict reads of a stream neither its rate nor its bucket, and of the state, but for a harvest stream, the time unit alone. -/
theorem judge_rated (ht : t.time = s.time) (hk : st.cfg.kind ≠ 4) (sec cnt : Nat) (low : Bool) (fault : Bool) :
    judge t n (st.rated sec cnt low) off b bare i fault = judge s n st off b bare i fault := by
  have hl : lengthsOk t n (st.rated sec cnt low) off b bare = lengthsOk s n st off b bare := by
    unfold lengthsOk
    rw [Stream.rated_cfg]
    split
    · rfl
    next h => exact absurd h hk
    · rfl
  have hr : replayOk t n (st.rated sec cnt low) off b bare = replayOk s n st off b bare := by
    unfold replayOk
    rw [Stream.rated_cfg]
    split
    · rfl
    · rfl
    next h => exact absurd h hk
    · rfl
  have hs : isStale t (st.rated sec cnt low) bare i = isStale s st bare i := by
    unfold isStale
    rw [ht]
    rfl
  unfold judge
  rw [hl, hr, hs]
  rfl

end Verdicts

/-! ### What a verdict leaves of its stream (R273, R276, R278, R279) -/

/-- What a frame of verdict `v` that arrives at `tick` makes of its stream `st`. -/
structure Stream.Heard (st : Stream) (v tick : Nat) (u : Stream) : Prop where
  passes : v ≤ 1 → u.st = .active ∧ u.lastTick = tick ∧ u.passed = satAdd max64 st.passed 1 ∧ u.failed = st.failed
  keeps : 1 < v → u.lastSt = st.lastSt ∧ u.lastSq = st.lastSq ∧ u.lastTick = st.lastTick ∧ u.passed = st.passed
  fails : isFailure v = true → u.failed = satAdd max64 st.failed 1 ∧ u.lastFail = tick
  held : v = 0x17 → u.st = .quarantined ∧ u.quarFrames = satAdd max64 st.quarFrames 1 ∧ u.lastFail = st.lastFail

/-- The state of a stream and its port after a verdict, before anything is forwarded or delivered. -/
def noteVerdict (p n v kind : Nat) (bare : List Byte) (tick : Nat) (s : State) : State :=
  let s1 := if v ≤ 1 then notePass n kind bare tick s else s
  let s2 := if isFailure v then streamFail n tick (s1.modPort p fun x => { x with fail := inc32 x.fail }) else s1
  if v = 0x17 then s2.modStream n fun st => { st with quarFrames := satAdd max64 st.quarFrames 1 } else s2

section Heard
variable {s : State} {p n v tick kind : Nat} {st u : Stream} {bare b : List Byte}

theorem one_lt_of_failure (h : isFailure v = true) : 1 < v ∧ v ≠ 0x17 := by
  simp only [isFailure, List.contains_iff_mem, List.mem_cons, List.not_mem_nil, or_false] at h
  omega

/-- A stream as a passing frame leaves it (R276, R279). -/
def Stream.passing (ingress ttl : Nat) (st : Stream) : Stream :=
  { st with st := .active, lastTick := ingress, lastTtl := ttl, passed := satAdd max64 st.passed 1, count := st.count + 1 }

theorem stream_streamPass {ttl : Nat} (h : s.stream? n = some st) :
    (streamPass n tick ttl s).stream? n = some (st.passing tick ttl) := by
  have passed := stream_modStream_self (Stream.passing tick ttl) h
  unfold streamPass
  rw [h]
  exact stream_ite passed ((stream_streamEvent _ _ _ _ _).trans passed)

/-- The replay state that a passing frame leaves (R273, R274). -/
def Stream.replayed (kind : Nat) (bare : List Byte) (st : Stream) : Stream :=
  match kind with
  | 1 => { st with seen := true, lastSt := gooseSt bare, lastSq := gooseSq bare, lastT := gooseT bare }
  | 2 => { st with seen := true, lastSt := svCnt bare }
  | _ => st

theorem Stream.replayed_counts (kind : Nat) (bare : List Byte) (st : Stream) :
    (st.replayed kind bare).passed = st.passed ∧ (st.replayed kind bare).failed = st.failed := by
  unfold Stream.replayed
  split <;> exact ⟨rfl, rfl⟩

theorem notePass_heard (h : s.stream? n = some st) (hv : v ≤ 1) :
    ∃ u, (notePass n kind bare tick s).stream? n = some u ∧ st.Heard v tick u := by
  obtain ⟨hp, hf⟩ := st.replayed_counts kind bare
  have passed := stream_streamPass (tick := tick) (ttl := (frameTtl kind bare).getD 0)
    (stream_modStream_self (Stream.replayed kind bare) h)
  exact ⟨_, passed, fun _ => ⟨rfl, rfl, congrArg (satAdd max64 · 1) hp, hf⟩, fun h => absurd hv (Nat.not_le.2 h),
    fun h => absurd hv (Nat.not_le.2 (one_lt_of_failure h).1), fun h => absurd hv (by omega)⟩

theorem streamFail_heard (h : s.stream? n = some st) (hv : isFailure v = true) :
    ∃ u, (streamFail n tick s).stream? n = some u ∧ st.Heard v tick u := by
  obtain ⟨hlow, hq⟩ := one_lt_of_failure hv
  unfold streamFail
  rw [h]
  exact ⟨_, stream_ite ((stream_streamEvent _ _ _ _ _).trans (stream_modStream_self _ h)) (stream_modStream_self _ h),
    fun h => absurd hlow (Nat.not_lt.2 h), fun _ => ⟨rfl, rfl, rfl, rfl⟩, fun _ => ⟨rfl, rfl⟩, fun h => absurd h hq⟩

theorem noteVerdict_heard (h : s.stream? n = some st) (hq : v = 0x17 → st.st = .quarantined) :
    ∃ u, (noteVerdict p n v kind bare tick s).stream? n = some u ∧ st.Heard v tick u := by
  unfold noteVerdict
  dsimp only
  by_cases hlow : v ≤ 1
  · have hfail : isFailure v ≠ true := fun h => absurd hlow (Nat.not_le.2 (one_lt_of_failure h).1)
    rw [if_neg (by omega), if_neg hfail, if_pos hlow]
    exact notePass_heard h hlow
  · rw [if_neg hlow]
    by_cases hfail : isFailure v = true
    · rw [if_neg (one_lt_of_failure hfail).2, if_pos hfail]
      exact streamFail_heard (stream_congr (by rfl) n ▸ h) hfail
    · rw [if_neg hfail]
      by_cases hheld : v = 0x17
      · rw [if_pos hheld]
        exact ⟨_, stream_modStream_self _ h, fun h => absurd h hlow, fun _ => ⟨rfl, rfl, rfl, rfl⟩, fun h => absurd h hfail,
          fun hv => ⟨hq hv, rfl, rfl⟩⟩
      · rw [if_neg hheld]
        exact ⟨st, h, fun h => absurd h hlow, fun _ => ⟨rfl, rfl, rfl, rfl⟩, fun h => absurd h hfail, fun h => absurd h hheld⟩

theorem Stream.Heard.congr {w : Stream} (h : st.Heard v tick u) (hw : w.unsubscribed = u.unsubscribed) : st.Heard v tick w := by
  have same : w = { u with subs := w.subs } := congrArg (fun x : Stream => { x with subs := w.subs }) hw
  rw [same]
  exact ⟨h.passes, h.keeps, h.fails, h.held⟩

theorem noteVerdict_rxFrames (q : Nat) : ((noteVerdict p n v kind bare tick s).port q).rxFrames = (s.port q).rxFrames := by
  have passed : ((if v ≤ 1 then notePass n kind bare tick s else s).port q).rxFrames = (s.port q).rxFrames :=
    ite_keeps (fun s => (s.port q).rxFrames) (congrArg Port.rxFrames (port_congr (ports_streamsBlind.notePass _ _ _ _ _) q)) rfl
  unfold noteVerdict
  have failed : ((if isFailure v then streamFail n tick ((if v ≤ 1 then notePass n kind bare tick s else s).modPort p fun x =>
      { x with fail := inc32 x.fail }) else if v ≤ 1 then notePass n kind bare tick s else s).port q).rxFrames = (s.port q).rxFrames := by
    refine (ite_keeps (fun s => (s.port q).rxFrames) ?_ rfl).trans passed
    exact (congrArg Port.rxFrames (port_congr (ports_streamsBlind.streamFail _ _ _) q)).trans
      (port_modPort_keeps Port.rxFrames (fun _ => by rfl) _ _ _)
  dsimp only
  split
  · exact failed
  · exact failed

/-! ### A frame of a stream (R273-R277) -/

/-- What a frame that is queued, folded and delivered leaves. -/
structure FrameBlind {γ : Type} (g : State → γ) : Prop extends DropsBlind g where
  port : ∀ s q f, (∀ x : Port, (f x).rxFrames = x.rxFrames) → g (s.modPort q f) = g s
  session : ∀ s m f, g (s.modSession m f) = g s
  hvw : ∀ s f, g (s.modHvw f) = g s

theorem stream_frameBlind (n : Nat) : FrameBlind fun s => (s.stream? n).map Stream.unsubscribed where
  toDropsBlind := stream_dropsBlind n
  port _ _ _ _ := rfl
  session _ _ _ := rfl
  hvw _ _ := rfl

theorem rxFrames_frameBlind (p : Nat) : FrameBlind fun s => (s.port p).rxFrames where
  entry h := congrArg Port.rxFrames (port_congr (by rw [h]) p)
  drops _ _ _ := rfl
  port s q _ hf := port_modPort_keeps Port.rxFrames hf s q p
  session _ _ _ := rfl
  hvw _ _ := rfl

section Queued
variable {γ : Type} {g : State → γ} (h : FrameBlind g)
include h

theorem FrameBlind.forward (q : Nat) (e : Egress) (s : State) : g (forward q e s) = g s :=
  ite_keeps g rfl (ite_keeps g (h.port _ _ _ fun _ => by rfl) (h.port _ _ _ fun _ => by rfl))

theorem FrameBlind.foldVerify (m : Nat) (bare : List Byte) (x : Held) (i : Nat) (d : Bool) (s : State) :
    g (foldVerify m bare x i d s).2 = g s := by
  unfold Machine.foldVerify
  split
  · dsimp only
    split
    · exact (h.harvestEntry _ _ _ _ _ _ _ _).trans ((ite_keeps g (h.session _ _ _) rfl).trans (h.hvw _ _))
    · split
      · dsimp only
        exact (h.hvw _ _).trans (h.session _ _ _)
      · dsimp only
        exact h.session _ _ _
  · rfl

theorem FrameBlind.rxDeliver (m : Nat) (st : Stream) (f : Judged) (bare : List Byte) (folds : Bool) (s : State) :
    g (rxDeliver m st f bare folds s) = g s := by
  unfold Machine.rxDeliver
  dsimp only
  split
  · split
    · exact (h.deliverAll _ _ _ _ _ _).trans ((h.deliverAll _ _ _ _ _ _).trans (h.foldVerify _ _ _ _ _ _))
    · exact (h.deliverAll _ _ _ _ _ _).trans ((h.deliverAll _ _ _ _ _ _).trans (h.foldVerify _ _ _ _ _ _))
  · exact h.deliverAll _ _ _ _ _ _

end Queued

/-- The verdict of a frame of stream `n`: POLICING_DROP where the bucket is empty, otherwise that of the checks (R273, R276). -/
def rxVerdict (s : State) (n : Nat) (st : Stream) (off : Nat) (b bare : List Byte) (fault : Bool) : Verdict :=
  if decide (0 < st.cfg.rateCeil) && decide (st.refill s.tick < 1000000000) then { code := 0x15 }
  else judge s n st off b bare s.tick fault

/-- The token bucket of a stream after a frame (R276). -/
def Stream.metered (tick : Nat) (old st : Stream) : Stream :=
  { st with levelTick := tick,
            level := if (decide (0 < old.cfg.rateCeil) && decide (old.refill tick < 1000000000)) || !decide (0 < old.cfg.rateCeil) then
              old.refill tick else old.refill tick - 1000000000 }

@[simp] theorem State.modStream_tick (s : State) (n : Nat) (f : Stream → Stream) : (s.modStream n f).tick = s.tick := rfl

theorem Stream.Heard.of_metered {old : Stream} {sec cnt : Nat} {low : Bool} {k : Nat}
    (h : (Stream.metered k old (st.rated sec cnt low)).Heard v tick u) : st.Heard v tick u := ⟨h.passes, h.keeps, h.fails, h.held⟩

/-- The state before anything of a frame is forwarded or delivered. -/
def rxJudged (p n : Nat) (st : Stream) (b : List Byte) (s : State) : State :=
  let s1 := (rateRoll n s.tick s).modStream n (Stream.metered s.tick st)
  noteVerdict p n (rxVerdict s1 n st (parseFrame (s.red p) b).off b (bareFrame (s.red p) b) false).code st.cfg.kind
    (bareFrame (s.red p) b) s.tick s1

theorem rxVerdict_sound (s : State) (n : Nat) (st : Stream) (off : Nat) (b bare : List Byte) :
    (rxVerdict s n st off b bare false).fault = false ∧ ((rxVerdict s n st off b bare false).code = 0x17 → st.st = .quarantined) := by
  unfold rxVerdict
  split
  · exact ⟨rfl, fun h => absurd h (by simp)⟩
  · exact judge_sound s n st off b bare s.tick

/-- What a frame of a stream leaves is what its verdict leaves, for all that reads neither queues nor deliveries. -/
theorem rxStream_blind {γ : Type} {g : State → γ} (hg : FrameBlind g) (h : (rateRoll n s.tick s).stream? n = some st)
    (hk : st.cfg.kind ≠ 4) : g (rxStream p n b false s) = g (rxJudged p n st b s) := by
  have tick : (rateRoll n s.tick s).tick = s.tick := tick_streamsBlind.rateRoll n s.tick s
  unfold rxStream
  rw [h]
  dsimp -zeta only
  extract_lets s0 bare off level ceil empty s1 a v s2 s3 s4 s5 through s6 s7
  have verdict : a = rxVerdict s1 n st off b bare false := by
    unfold rxVerdict
    rw [State.modStream_tick, tick]
  have unfaulted : s2 = s1 := if_neg (by rw [verdict, (rxVerdict_sound s1 n st off b bare).1]; exact Bool.false_ne_true)
  have judged : s5 = rxJudged p n st b s := by
    change noteVerdict p n v st.cfg.kind bare s.tick s2 = noteVerdict p n _ st.cfg.kind bare s.tick s1
    rw [unfaulted]
    exact congrArg (fun a : Verdict => noteVerdict p n a.code st.cfg.kind bare s.tick s1) verdict
  rw [if_neg fun h => hk h.1, hg.rxDeliver, ← judged]
  exact ite_keeps g (hg.forward _ _ _) rfl

/-- The verdict of a frame, as the stream stood when it arrived. -/
def rxCode (s : State) (p n : Nat) (st : Stream) (b : List Byte) : Nat :=
  if 0 < st.cfg.rateCeil ∧ st.refill s.tick < 1000000000 then 0x15
  else (judge s n st (parseFrame (s.red p) b).off b (bareFrame (s.red p) b) s.tick false).code

theorem rxVerdict_rated {t : State} (htick : t.tick = s.tick) (htime : t.time = s.time) (hk : st.cfg.kind ≠ 4) (sec cnt : Nat) (low : Bool) :
    (rxVerdict t n (st.rated sec cnt low) (parseFrame (s.red p) b).off b (bareFrame (s.red p) b) false).code = rxCode s p n st b := by
  unfold rxVerdict rxCode
  rw [htick, judge_rated htime hk]
  have refill : (st.rated sec cnt low).refill s.tick = st.refill s.tick := rfl
  rw [refill, Stream.rated_cfg]
  by_cases h : 0 < st.cfg.rateCeil ∧ st.refill s.tick < 1000000000
  · rw [if_pos h, if_pos (by simpa using h)]
  · rw [if_neg h, if_neg (by simpa using h)]

/-- A frame of a stream, not of a harvest stream, without a fault pattern. -/
theorem rxStream_heard (h : s.stream? n = some st) (hk : st.cfg.kind ≠ 4) :
    ∃ u, (rxStream p n b false s).stream? n = some u ∧ st.Heard (rxCode s p n st b) s.tick u ∧
      ∀ q, ((rxStream p n b false s).port q).rxFrames = (s.port q).rxFrames := by
  obtain ⟨sec, cnt, low, hr⟩ := stream_rateRoll s.tick h
  have met := stream_modStream_self (Stream.metered s.tick (st.rated sec cnt low)) hr
  have code : (rxVerdict _ n (st.rated sec cnt low) (parseFrame (s.red p) b).off b (bareFrame (s.red p) b) false).code = _ :=
    rxVerdict_rated (t := (rateRoll n s.tick s).modStream n (Stream.metered s.tick (st.rated sec cnt low))) (p := p)
      (tick_streamsBlind.rateRoll n s.tick s) (time_streamsBlind.rateRoll n s.tick s) hk sec cnt low
  obtain ⟨w, hw, heard⟩ := noteVerdict_heard (p := p) (kind := (st.rated sec cnt low).cfg.kind) (bare := bareFrame (s.red p) b)
    (tick := s.tick) met (rxVerdict_sound _ n (st.rated sec cnt low) (parseFrame (s.red p) b).off b (bareFrame (s.red p) b)).2
  rw [code] at hw heard
  have left := rxStream_blind (p := p) (b := b) (stream_frameBlind n) hr hk
  have counted (q : Nat) := rxStream_blind (p := p) (b := b) (rxFrames_frameBlind q) hr hk
  unfold rxJudged at left counted
  dsimp only at left counted
  rw [code] at left counted
  rw [hw] at left
  obtain ⟨u, hu, hsame⟩ := Option.map_eq_some_iff.1 left
  refine ⟨u, hu, (heard.congr hsame).of_metered, fun q => (counted q).trans ((noteVerdict_rxFrames q).trans ?_)⟩
  exact congrArg Port.rxFrames (port_congr (ports_streamsBlind.rateRoll n s.tick s) q)

/-! ### Reception (R273) -/

theorem red_congr {t : State} (h : ∀ q, (t.port q).redundancy = (s.port q).redundancy) (p : Nat) : t.red p = s.red p := by
  unfold State.red
  rw [h, h]

theorem linkUp_open (hp : p < 16) (hup : s.linkUp p = true) : (decide (16 ≤ p) || !s.linkUp p) ≠ true := by
  simp [hup, hp]

theorem frameReceive_bad (hp : p < 16) (hup : s.linkUp p = true) (hs : streamOf s p b = none) (f : Bool) :
    exec (.frameReceive p b false f) s =
      .next ((s.modPort p fun x => { x with rxFrames := inc32 x.rxFrames }).modPort p fun x => { x with rxErr := inc32 x.rxErr }) := by
  refine congrArg Host.Outcome.next ?_
  rw [if_neg (linkUp_open hp hup)]
  dsimp only
  rw [if_pos (by rfl), hs]

theorem frameKind_of_streamOf (h : streamOf s p b = some n) : ∃ k, frameKind s (s.red p) b = some k := by
  unfold streamOf at h
  split at h
  · cases h
  next k app hk => exact ⟨_, hk⟩

/-- The state that a frame of a stream reaches its checks in: counted, and seen by the duplicate discard of its pair. -/
theorem frameReceive_stream (hp : p < 16) (hup : s.linkUp p = true) (hs : streamOf s p b = some n) (hlen : 60 ≤ b.length)
    (hmtu : netLength (s.red p) b ≤ (s.port p).mtu) (het : (parseFrame (s.red p) b).et ≠ 0x88F7)
    (hdup : ∀ lan seq, redTag (s.red p) b = some (lan, seq) →
      (dupCheck (s.port (p - p % 2)).seen (srcMac b) { seq := seq, lan := lan, tick := s.tick }).1 = false) (f : Bool) :
    ∃ l, exec (.frameReceive p b true f) s = .next (rxStream p n b f
      ((s.modPort p fun x => { x with rxFrames := inc32 x.rxFrames }).modPort (p - p % 2) fun y => { y with seen := l })) := by
  obtain ⟨k, hk⟩ := frameKind_of_streamOf hs
  have fits : (!true || decide (b.length + 4 < 64) || decide ((s.port p).mtu < netLength (s.red p) b)) ≠ true := by
    have long : ¬ b.length + 4 < 64 := by omega
    simp [long, Nat.not_lt.2 hmtu]
  cases hr : redTag (s.red p) b with
  | none =>
    refine ⟨(s.port (p - p % 2)).seen, congrArg Host.Outcome.next ?_⟩
    rw [if_neg (linkUp_open hp hup)]
    dsimp only
    rw [if_neg fits, hr]
    dsimp only
    rw [if_neg Bool.false_ne_true, if_neg het, hk]
    dsimp only
    rw [hs]
  | some x =>
    obtain ⟨lan, seq⟩ := x
    refine ⟨(dupCheck (s.port (p - p % 2)).seen (srcMac b) { seq := seq, lan := lan, tick := s.tick }).2,
      congrArg Host.Outcome.next ?_⟩
    rw [if_neg (linkUp_open hp hup)]
    dsimp only
    rw [if_neg fits, hr]
    dsimp only
    rw [if_neg (by rw [hdup lan seq hr]; exact Bool.false_ne_true), if_neg het, hk]
    dsimp only
    rw [hs]

end Heard

/-- Settles O26: reception through the verdict's effect on the stream, and the timers of a stream case by case. -/
theorem framesAreJudged : Obligations.FramesAreJudged := by
  intro s p n b st
  refine ⟨fun hup hp => ⟨?bad, ?heard⟩, ?down, fun hst => ⟨?silent, ?released, ?early, ?second⟩⟩
  case bad =>
    intro f hs
    refine ⟨_, frameReceive_bad hp hup hs f, rfl, ?_, ?_⟩
    · rw [port_modPort_self, port_modPort_self]
    · rw [port_modPort_self, port_modPort_self]
  case heard =>
    intro hs hst hk hlen hmtu het hdup
    obtain ⟨l, he⟩ := frameReceive_stream hp hup hs hlen hmtu het hdup false
    have red : ∀ q, ((((s.modPort p fun x => { x with rxFrames := inc32 x.rxFrames }).modPort (p - p % 2) fun y =>
        { y with seen := l })).port q).redundancy = (s.port q).redundancy := fun q =>
      (port_modPort_keeps Port.redundancy (fun _ => by rfl) _ _ q).trans (port_modPort_keeps Port.redundancy (fun _ => by rfl) s p q)
    obtain ⟨u, hu, heard, hcount⟩ := rxStream_heard (p := p) (b := b) (s := (s.modPort p fun x =>
      { x with rxFrames := inc32 x.rxFrames }).modPort (p - p % 2) fun y => { y with seen := l }) hst hk
    have code : rxCode ((s.modPort p fun x => { x with rxFrames := inc32 x.rxFrames }).modPort (p - p % 2) fun y =>
        { y with seen := l }) p n st b = rxCode s p n st b := by
      unfold rxCode
      rw [red_congr red]
      have same := judge_rated (st := st) (n := n) (b := b) (off := (parseFrame (s.red p) b).off) (i := s.tick)
        (bare := bareFrame (s.red p) b) (s := s) (t := (s.modPort p fun x =>
          { x with rxFrames := inc32 x.rxFrames }).modPort (p - p % 2) fun y => { y with seen := l }) rfl hk st.second st.count
        st.rateLow false
      exact ite_congr rfl (fun _ => rfl) fun _ => congrArg Verdict.code same
    rw [code] at heard
    refine ⟨_, u, he, hu, ?_, heard.passes, heard.keeps, heard.fails, heard.held⟩
    rw [hcount, port_modPort_keeps Port.rxFrames (fun _ => by rfl), port_modPort_self]
  case down =>
    intro hdown fcs f
    refine congrArg Host.Outcome.next (if_pos ?_)
    rw [hdown, Bool.not_false, Bool.or_true]
  case silent => exact fun d hd ha hdue => silenceExpiry_silences hst hd ha hdue
  case released =>
    intro hdue hq
    refine ⟨_, (exec_quarantineHoldExpiry hst).trans (congrArg Host.Outcome.next (if_pos hdue)), ?_⟩
    rw [stream_streamRelease hst, Stream.released, if_pos hq]
  case early =>
    intro hdue
    rw [exec_quarantineHoldExpiry hst, if_neg (Nat.not_le.2 hdue)]
  case second =>
    intro hs
    exact ⟨_, rfl, stream_rollAll _ (mem_of_tfind hst) hst hs⟩

end Sys2Proof.Machine
end

section
/-! PROOFS. Harvest windows (O27). -/

namespace Sys2Proof.Machine
open Safety

/-! ### What the signing of a record leaves of the frame unit (R299, R124, R127) -/

section Signing
variable (s : State)

/-- A record that halts nothing and is not serious changes the aggregator and the bittern record alone, whether or not the ring has room. -/
theorem record_retry_same (x : Raise) :
    (record x .retry s).2 = { s with faults := (record x .retry s).2.faults, btn := (record x .retry s).2.btn } := by
  unfold record
  dsimp only
  split
  · unfold putRecord
    dsimp only
    rw [announceFault_same _ rfl]
    rfl
  · rfl

@[simp] theorem settleFills_frames (r : Nat) : (settleFills r s).frames = s.frames :=
  foldl_keeps (·.frames) _ (fun s f => by rw [(fillCryst_same r f s).1]) _ _

@[simp] theorem probeTag_frames (r i alg : Nat) (d : List Byte) (t : Nat) : (probeTag r i alg d t s).2.frames = s.frames := by
  unfold probeTag
  dsimp only
  split
  · split
    · exact settleFills_frames s r
    · exact settleFills_frames s r
  · split
    · exact settleFills_frames s r
    · exact settleFills_frames s r

@[simp] theorem shelfSecret_frames (k : KeyRec) (order : Nat) : (shelfSecret s k order).2.frames = s.frames := by
  unfold shelfSecret
  split <;> rfl

theorem sealOnce_frames (x : Session) (k : KeyRec) (rec : List Byte) (r p n : Nat) (a : Nat × Nat) :
    (sealOnce x k rec r p n a s).2.2.frames = s.frames := by
  unfold sealOnce
  dsimp only
  split
  · rw [shelfSecret_frames]
    rfl
  · rw [State.modRegion_frames, probeTag_frames, shelfSecret_frames]
    rfl

theorem sealCheckFail_frames (r p : Nat) : (sealCheckFail r p s).frames = s.frames := by
  have recorded (x : Raise) (s : State) : (record x .retry s).2.frames = s.frames := by rw [record_retry_same]
  unfold sealCheckFail
  dsimp only
  split
  · obtain ⟨l, hl⟩ := startTest_same ‹FaultRec› (s := (record _ .retry _).2)
    rw [hl]
    exact recorded _ _
  · exact recorded _ _

variable {s}

theorem checkedSign_frames {r n : Nat} {once : Nat → Nat × Nat → State → Except Status Bool × List Byte × State} {a : Except Status (List Byte)}
    {t : State} (honce : ∀ p q s, (once p q s).2.2.frames = s.frames) (h : checkedSign r n once s = some (a, t)) :
    t.frames = s.frames := by
  have left {p q s o sig u} (e : once p q s = (o, sig, u)) : u.frames = s.frames := by
    have := honce p q s
    rwa [e] at this
  unfold checkedSign at h
  split at h
  · cases h
  · split at h
    · cases h
      rfl
    · split at h
      next e =>
        cases h
        exact left e
      next e =>
        cases h
        exact left e
      next e =>
        dsimp only at h
        have failed (p : Nat) := (sealCheckFail_frames _ r p).trans (left e)
        split at h
        · cases h
          exact failed _
        · split at h
          · cases h
            exact failed _
          · split at h
            next e' =>
              cases h
              exact (left e').trans (failed _)
            next e' =>
              cases h
              exact (left e').trans (failed _)
            next e' =>
              cases h
              exact (sealCheckFail_frames _ r _).trans ((left e').trans (failed _))

theorem sealSign_frames {x : Session} {k : KeyRec} {rec : List Byte} {a : Except Status (List Byte)} {t : State}
    (h : sealSign x k rec s = some (a, t)) : t.frames = s.frames := by
  unfold sealSign at h
  split at h
  · cases h
    rfl
  · dsimp only at h
    split at h
    · cases h
    · exact checkedSign_frames (fun p q s => sealOnce_frames s x k rec _ p _ q) h

variable (s)

@[simp] theorem sessionEnergy_frames (i : Nat) (nj : Option Nat) : (sessionEnergy i nj s).frames = s.frames := by
  unfold sessionEnergy
  cases nj <;> rfl

@[simp] theorem sessionBatch_frames (i : Nat) : (sessionBatch i s).frames = s.frames := by
  unfold sessionBatch
  dsimp only
  rw [countInBatch_same, takeJseq_same]

end Signing

/-! ### Sessions end (R293, R308) -/

section Sessions
variable {s t : State} {n j w : Nat} {c : Cmd} {st h : Stream} {x : Session}

theorem session_congr (hs : t.frames.sessions = s.frames.sessions) (n : Nat) : t.session? n = s.session? n := by
  unfold State.session?
  rw [hs]

theorem session_endSession (n : Nat) (s : State) : (endSession n s).session? n = none := by
  unfold endSession
  split
  next h => exact h
  next => exact tfind_tdel_self _ n

/-- A session as a FRM.HARVEST_SET body sets it (R291, R293). -/
def Job.session (b : Job) (tick : Nat) : Session :=
  { hstream := fld b.args 2 2, role := fld b.args 4 1, sigAlg := fld b.args 5 1, windowUs := fld b.args 6 2,
    waitUs := fld b.args 8 2, cls := fld b.args 10 1, format := fld b.args 11 1, dst := slice b.args 12 6,
    pcp := fld b.args 0x12 1, handle := b.handle,
    fromWin := (tick + fld b.args 6 2 * 1000 - 1) / (fld b.args 6 2 * 1000) }

/-- The checks of FRM.HARVEST_SET before those of a session. -/
abbrev harvestBody (s : State) (b : Job) : List (Option Status) :=
  [paramZero b 0xFFFFFFFF, bodyIs b 0x18, check (harvestForm b) .malformed, famEnabled s b,
    check ((s.stream? (fld b.args 0 2)).isSome && (fld b.args 4 1 == 0 || (s.stream? (fld b.args 2 2)).isSome)) .streamUnknown]

theorem frmHarvestSet_ends (hp : Passes (harvestBody s c.job)) (hr : fld c.job.args 4 1 = 0) :
    frmHarvestSet c s = (endSession (fld c.job.args 0 2) (commit c.job.id s), some okRes) := by
  unfold frmHarvestSet
  dsimp only
  rw [orBad_passes hp, if_pos hr]

theorem frmHarvestSet_sets (hp : Passes (harvestBody s c.job)) (hr : fld c.job.args 4 1 ≠ 0)
    (hst : s.stream? (fld c.job.args 0 2) = some st) (hh : s.stream? (fld c.job.args 2 2) = some h)
    (hparams : harvestParams s c.job st h = true) (hport : harvestPort s (fld c.job.args 4 1) h = true)
    (hkey : harvestKey s c.job (fld c.job.args 4 1) st.cfg.owner (fld c.job.args 5 1) = none)
    (hroom : s.frames.sessions.length < 256 ∨ (s.session? (fld c.job.args 0 2)).isSome = true) :
    frmHarvestSet c s = ((endSession (fld c.job.args 0 2) (commit c.job.id s)).modFrames fun f =>
      { f with sessions := tins (fld c.job.args 0 2) (c.job.session s.tick) f.sessions }, some okRes) := by
  unfold frmHarvestSet
  dsimp only
  rw [orBad_passes hp, if_neg hr, hst, hh]
  dsimp only
  rw [orBad_passes]
  · rfl
  · simp only [passes_cons, check_passes, hparams, hport, hkey, Bool.or_eq_true, decide_eq_true_eq]
    exact ⟨trivial, trivial, trivial, hroom.symm, rfl⟩

theorem harvestBody_passes (hzero : paramZero c.job 0xFFFFFFFF = none) (hfam : famEnabled s c.job = none)
    (hst : s.stream? (fld c.job.args 0 2) = some st) (hbody : bodyIs c.job 0x18 = none) (hform : harvestForm c.job = true)
    (hh : fld c.job.args 4 1 = 0 ∨ s.stream? (fld c.job.args 2 2) = some h) : Passes (harvestBody s c.job) := by
  simp only [harvestBody, passes_cons, check_passes, hzero, hfam, hst, hbody, hform, Option.isSome_some, Bool.true_and]
  refine ⟨trivial, trivial, trivial, trivial, ?_, rfl⟩
  rcases hh with h0 | h0 <;> simp [h0]

theorem frmHarvestStatus_reports (hzero : paramZero c.job 0xFFFFFFFF = none) (hfam : famEnabled s c.job = none)
    (hst : s.stream? (fld c.job.args 0 2) = some st) (hbody : bodyIs c.job 4 = none) (hz : zero? c.job.args 2 2 = true)
    (hhandle : c.job.handle = nullHandle) : frmHarvestStatus c s =
      (s, some (respRes (((s.session? (fld c.job.args 0 2)).map sessionRecord).getD (zeros 0x28)))) := by
  unfold frmHarvestStatus
  dsimp only
  rw [orBad_passes]
  · cases s.session? (fld c.job.args 0 2) <;> rfl
  · simp only [passes_cons, check_passes, hzero, hfam, hst, hbody, hz, hhandle, Option.isSome_some, beq_self_eq_true]
    exact ⟨trivial, trivial, rfl, trivial, trivial, rfl⟩

/-- A window index from which a session folds lies at or after now, within one window (R293). -/
theorem firstWindow (tick t : Nat) (ht : 0 < t) : tick ≤ (tick + t - 1) / t * t ∧ (tick + t - 1) / t * t < tick + t := by
  have whole := Nat.div_add_mod' (tick + t - 1) t
  have rest := Nat.mod_lt (tick + t - 1) ht
  omega

/-! ### A SEAL session (R298-R300) -/

/-- The session once its open window is closed and its record waits for its signature. -/
def Session.closed (c : StreamCfg) (o : OpenWin) (tq : Nat) (x : Session) : Session :=
  { x with window := none, sealing := x.sealing ++ [{ win := o.win, record := harvestRecord x c o tq }] }

theorem closeWindow_closes {o : OpenWin} (hx : s.session? n = some x) (hst : s.stream? n = some st) (ho : x.window = some o)
    (hsvc : s.anyInService = true) :
    (closeWindow n s).session? n = some (x.closed st.cfg o s.time.quality.code) := by
  unfold closeWindow
  rw [hx, hst]
  dsimp only
  rw [ho]
  dsimp only
  rw [if_pos (by exact hsvc)]
  exact session_modSession_self _ hx

theorem exec_harvestWindowClose {o : OpenWin} (hx : s.session? n = some x) (ho : x.window = some o) :
    exec (.harvestWindowClose n) s = .next (if (o.win + 1) * x.t ≤ s.tick then closeWindow n s else s) := by
  refine congrArg Host.Outcome.next ?_
  rw [hx]
  dsimp only
  rw [ho, Option.any_some]
  simp only [decide_eq_true_eq]

@[simp] theorem enqueue_sessions (p : Nat) (e : Egress) (s : State) : (enqueue p e s).frames.sessions = s.frames.sessions :=
  ite_keeps (·.frames.sessions) rfl (ite_keeps (·.frames.sessions) rfl rfl)

@[simp] theorem enqueue_hvw (p : Nat) (e : Egress) (s : State) : (enqueue p e s).frames.hvw = s.frames.hvw :=
  ite_keeps (·.frames.hvw) rfl (ite_keeps (·.frames.hvw) rfl rfl)

theorem sendSealed_keeps {γ : Type} (g : State → γ) (hg : ∀ p e s, g (enqueue p e s) = g s) (x : Session) (y : Sealing) (b : List Byte)
    (s : State) : g (sendSealed x y b s) = g s := by
  unfold sendSealed
  split
  · rfl
  · exact foldl_keeps g _ (fun s i => hg _ _ s) _ s

/-- A session without an object at the head of its list sends none. -/
theorem flushSealed_empty (hx : s.session? n = some x) (he : x.sealing = []) (fuel : Nat) : flushSealed n fuel s = s := by
  cases fuel with
  | zero => rfl
  | succ fuel =>
    unfold flushSealed
    rw [hx]
    dsimp only
    rw [he]

/-- A single sealed object leaves, and its window is the last (R299). -/
theorem flushSealed_one {y : Sealing} {obj : List Byte} (hx : s.session? n = some x) (hy : x.sealing = [y])
    (ho : y.object = some obj) (fuel : Nat) :
    ∃ t, flushSealed n (fuel + 1) s = t ∧ t.session? n = some { x with
      sealing := [], lastIndex := some y.win, done := satAdd max64 x.done 1 } ∧ t.frames.hvw = s.frames.hvw := by
  have sent : (sendSealed x y obj s).session? n = some x :=
    (session_congr (sendSealed_keeps (·.frames.sessions) enqueue_sessions x y obj s) n).trans hx
  have gone := session_modSession_self (fun x => { x with
    sealing := [], lastIndex := some y.win, done := satAdd max64 x.done 1 }) sent
  refine ⟨_, rfl, ?_⟩
  unfold flushSealed
  rw [hx]
  dsimp only
  rw [hy]
  dsimp only
  rw [ho]
  dsimp only
  rw [flushSealed_empty gone rfl]
  exact ⟨gone, sendSealed_keeps (·.frames.hvw) enqueue_hvw x y obj s⟩

theorem sealFail_fails (hx : s.session? n = some x) (w i : Nat) (bad : Status) :
    (sealFail n w i bad s).session? n = some { x with
      failed := satAdd max64 x.failed 1, sealing := x.sealing.filter fun y => !(y.win == w) } ∧
    (sealFail n w i bad s).frames.hvw.sealFail = inc32 s.frames.hvw.sealFail := by
  have entry (e : JEntry) : (appendEntry e (takeJseq s).2).frames = s.frames := by
    rw [appendEntry_same, takeJseq_same]
  unfold sealFail
  dsimp only
  refine ⟨session_modSession_self _ ((session_congr (congrArg Frames.sessions (entry _)) n).trans hx), ?_⟩
  exact congrArg (fun f : Frames => inc32 f.hvw.sealFail) (entry _)

/-- The session once the signature of window `w` is there. -/
def Session.signed (w : Nat) (sig : List Byte) (x : Session) : Session :=
  { x with sealing := x.sealing.map fun z =>
      if z.win == w && z.object.isNone then { z with object := some (z.record ++ sig) } else z }

theorem session_modHvw (n : Nat) (f : Hvw → Hvw) (s : State) : (s.modHvw f).session? n = s.session? n := rfl

theorem hvw_modHvw (f : Hvw → Hvw) (s : State) : (s.modHvw f).frames.hvw = f s.frames.hvw := rfl

theorem State.modSession_hvw (n : Nat) (f : Session → Session) (s : State) : (s.modSession n f).frames.hvw = s.frames.hvw := rfl

theorem waits_of_single {y : Sealing} (hs : x.sealing = [y]) (hw : y.win = w) (ho : y.object = none) :
    x.sealing.find? (fun y => y.win == w && y.object.isNone) = some y := by
  rw [hs]
  exact List.find?_cons_of_pos (by rw [hw, ho]; simp)

theorem harvestSealDone_signs {y : Sealing} {k : KeyRec} {sig : List Byte} {s1 : State} (hx : s.session? n = some x)
    (hst : s.stream? n = some st) (hs : x.sealing = [y]) (hw : y.win = w) (ho : y.object = none) (hstatus : sealStatus s x = none)
    (hk : s.key? x.handle = some k) (hsign : sealSign x k y.record s = some (.ok sig, s1)) :
    ∃ t u, exec (.harvestSealDone n w) s = .next t ∧ t.session? n = some u ∧ u.sealing = [] ∧ u.lastIndex = some w ∧
      u.done = satAdd max64 x.done 1 ∧ t.frames.hvw.sealed = inc32 s.frames.hvw.sealed := by
  have frames (f : KeyRec → KeyRec) :
      (sessionBatch st.cfg.owner (sessionEnergy st.cfg.owner none (s1.modKey x.handle f))).frames = s.frames := by
    rw [sessionBatch_frames, sessionEnergy_frames, State.modKey_frames, sealSign_frames hsign]
  have signed (f : KeyRec → KeyRec) : (((sessionBatch st.cfg.owner (sessionEnergy st.cfg.owner none
      (s1.modKey x.handle f))).modSession n (Session.signed w sig)).modHvw fun h => { h with sealed := inc32 h.sealed }).session? n =
      some (x.signed w sig) := by
    rw [session_modHvw]
    exact session_modSession_self _ ((session_congr (congrArg Frames.sessions (frames f)) n).trans hx)
  have object : (x.signed w sig).sealing = [{ y with object := some (y.record ++ sig) }] := by
    unfold Session.signed
    rw [hs]
    simp [hw, ho]
  obtain ⟨t, ht, hu, hh⟩ := flushSealed_one (signed fun k =>
    if 0 < k.pol.usageLimit then { k with usage := k.usage + 1 } else k) object rfl x.sealing.length
  refine ⟨t, _, congrArg Host.Outcome.next ?_, hu, rfl, congrArg some hw, rfl, ?_⟩
  · rw [hx, hst]
    dsimp only
    rw [waits_of_single hs hw ho]
    dsimp only
    rw [hstatus, hk]
    dsimp only
    rw [hsign]
    exact ht
  · rw [hh, hvw_modHvw, State.modSession_hvw]
    exact congrArg (fun f : Frames => inc32 f.hvw.sealed) (frames fun k => if 0 < k.pol.usageLimit then { k with usage := k.usage + 1 } else k)

theorem harvestSealDone_fails {y : Sealing} {bad : Status} (hx : s.session? n = some x) (hst : s.stream? n = some st)
    (hs : x.sealing = [y]) (hw : y.win = w) (ho : y.object = none) (hbad : sealStatus s x = some bad) :
    ∃ t u, exec (.harvestSealDone n w) s = .next t ∧ t.session? n = some u ∧ u.sealing = [] ∧ u.failed = satAdd max64 x.failed 1 ∧
      t.frames.hvw.sealFail = inc32 s.frames.hvw.sealFail := by
  obtain ⟨hu, hh⟩ := sealFail_fails hx w st.cfg.owner bad
  have none' : x.sealing.filter (fun y => !(y.win == w)) = [] := by simp [hs, hw]
  refine ⟨_, _, congrArg Host.Outcome.next (a₂ := sealFail n w st.cfg.owner bad s) ?_, hu, none', rfl, hh⟩
  rw [hx, hst]
  dsimp only
  rw [waits_of_single hs hw ho]
  dsimp only
  rw [hbad]
  exact flushSealed_empty hu none' _

/-! ### A VERIFY session (R303-R309) -/

/-- A session but for its count of failed windows. -/
def Session.unfailed (x : Session) : Session := { x with failed := 0 }

theorem session_dropsBlind (n : Nat) : DropsBlind fun s => (s.session? n).map Session.unfailed where
  entry h := congrArg (Option.map Session.unfailed) (session_congr (by rw [h]) n)
  drops _ _ _ := rfl

theorem session_failed (s : State) (m n : Nat) : ((s.modSession m fun x => { x with failed := satAdd max64 x.failed 1 }).session? n).map
    Session.unfailed = (s.session? n).map Session.unfailed := by
  rw [session_modSession]
  split
  · rw [Option.map_map]
    rfl
  · rfl

/-- Frames lost leave a session but for its count, and the HVW_ registers but for LOST (R308). -/
theorem session_resolveLost (m : Nat) (y : Session) (ps : List PFrame) (s : State) (n : Nat) :
    ((resolveLost m y ps s).session? n).map Session.unfailed = (s.session? n).map Session.unfailed :=
  (session_dropsBlind n).resolveEach (fun s m => session_failed s m n) m 4 y ps s

theorem hvw_resolveLost (m : Nat) (y : Session) (ps : List PFrame) (s : State) :
    (resolveLost m y ps s).frames.hvw = { s.frames.hvw with lost := satAdd max32 s.frames.hvw.lost ps.length } :=
  congrArg (fun h : Hvw => { h with lost := satAdd max32 h.lost ps.length })
    (hvw_dropsBlind.resolveEach (fun _ _ => rfl) m 4 y ps s)

theorem sessions_streamsBlind : StreamsBlind fun s => s.frames.sessions where
  entry h := by rw [h]
  streams _ _ _ := rfl

theorem hvw_streamsBlind : StreamsBlind fun s => s.frames.hvw where
  entry h := by rw [h]
  streams _ _ _ := rfl

theorem unfailed_eq {u : Session} (h : (s.session? n).map Session.unfailed = some u) :
    ∃ v, s.session? n = some v ∧ v.unfailed = u := Option.map_eq_some_iff.1 h

/-- A session as a record that passes leaves it, its pending list apart (R307). -/
def Session.passing (win : Nat) (rest : List PFrame) (x : Session) : Session :=
  { x with pend := rest, lastIndex := some win, done := satAdd max64 x.done 1 }

/-- A record passes over the run `run`: the frames ahead of it are lost, `rest` stays pending (R307). -/
def recordPassed (n : Nat) (rec : List Byte) (x : Session) (ahead run rest : List PFrame) (s : State) : State :=
  harvestEntry n 2 0 run.length (fld rec 0x18 6) (fld rec 0x1E 1 % 4) (fld rec 0x20 8)
    (deliverHeld n 2 (fun _ => fld rec 0x18 6) run (resolveLost n x ahead (s.modSession n (Session.passing (fld rec 0x18 6) rest))))

theorem passRecord_eq (hx : s.session? n = some x) (rec : List Byte) : ∃ ahead run rest,
    passRecord n rec s = (recordPassed n rec x ahead run rest s).modHvw fun h => { h with pass := inc32 h.pass } := by
  unfold passRecord
  rw [hx]
  exact ⟨_, _, _, rfl⟩

theorem session_recordPassed (n : Nat) (rec : List Byte) (x : Session) (ahead run rest : List PFrame) (s : State) :
    ((recordPassed n rec x ahead run rest s).session? n).map Session.unfailed =
      ((s.modSession n (Session.passing (fld rec 0x18 6) rest)).session? n).map Session.unfailed :=
  ((session_dropsBlind n).harvestEntry _ 2 _ _ _ _ _ _).trans
    (((session_dropsBlind n).deliverHeld _ _ _ _ _).trans (session_resolveLost _ _ _ _ n))

theorem pass_recordPassed (n : Nat) (rec : List Byte) (x : Session) (ahead run rest : List PFrame) (s : State) :
    (recordPassed n rec x ahead run rest s).frames.hvw.pass = s.frames.hvw.pass := by
  have hvw : (recordPassed n rec x ahead run rest s).frames.hvw = _ :=
    (hvw_dropsBlind.harvestEntry _ 2 _ _ _ _ _ _).trans ((hvw_dropsBlind.deliverHeld _ _ _ _ _).trans (hvw_resolveLost _ _ _ _))
  rw [hvw]
  rfl

/-- A record that passes (R307). -/
theorem passRecord_passes (hx : s.session? n = some x) (rec : List Byte) :
    ∃ u, (passRecord n rec s).session? n = some u ∧ u.verify = x.verify ∧ u.lastIndex = some (fld rec 0x18 6) ∧
      u.done = satAdd max64 x.done 1 ∧ (passRecord n rec s).frames.hvw.pass = inc32 s.frames.hvw.pass := by
  obtain ⟨ahead, run, rest, he⟩ := passRecord_eq hx rec
  rw [he]
  have kept := session_recordPassed n rec x ahead run rest s
  rw [session_modSession_self _ hx] at kept
  obtain ⟨u, hu, hsame⟩ := unfailed_eq kept
  exact ⟨u, hu, (congrArg Session.verify hsame :), (congrArg Session.lastIndex hsame :), (congrArg Session.done hsame :),
    congrArg inc32 (pass_recordPassed n rec x ahead run rest s)⟩

/-- A record fails over the run `run` (R307). -/
def recordFailed (n reason : Nat) (rec : List Byte) (run rest : List PFrame) (s : State) : State :=
  harvestEntry n 3 reason run.length (fld rec 0x18 6) (fld rec 0x1E 1 % 4) (fld rec 0x20 8)
    (deliverHeld n 3 (fun _ => fld rec 0x18 6) run (s.modSession n fun x => { x with pend := rest }))

theorem failRecord_eq (hx : s.session? n = some x) (rec : List Byte) : ∃ run rest, failRecord n rec 3 s =
    streamFail x.hstream s.tick ((recordFailed n 3 rec run rest s).modHvw fun h => { h with fail := inc32 h.fail }) := by
  unfold failRecord
  rw [hx]
  exact ⟨_, _, if_pos (.inr rfl)⟩

theorem session_recordFailed (hx : s.session? n = some x) (reason : Nat) (rec : List Byte) (run rest : List PFrame) :
    (recordFailed n reason rec run rest s).session? n = some { x with pend := rest, failed := satAdd max64 x.failed 1 } := by
  have delivered := (session_congr (sessions_dropsBlind.deliverHeld n 3 (fun _ => fld rec 0x18 6) run
    (s.modSession n fun x => { x with pend := rest })) n).trans (session_modSession_self _ hx)
  refine (session_congr (sessions_dropsBlind.harvestEntry n 3 _ _ _ _ _ _) n).trans ?_
  rw [if_pos rfl]
  exact session_modSession_self _ delivered

theorem fail_recordFailed (n reason : Nat) (rec : List Byte) (run rest : List PFrame) (s : State) :
    (recordFailed n reason rec run rest s).frames.hvw = s.frames.hvw :=
  (hvw_dropsBlind.harvestEntry n 3 _ _ _ _ _ _).trans (hvw_dropsBlind.deliverHeld n 3 _ _ _)

/-- A record whose signature does not verify (R307). -/
theorem failRecord_fails (hx : s.session? n = some x) (rec : List Byte) :
    ∃ u, (failRecord n rec 3 s).session? n = some u ∧ u.verify = x.verify ∧ u.lastIndex = x.lastIndex ∧ u.done = x.done ∧
      u.failed = satAdd max64 x.failed 1 ∧ (failRecord n rec 3 s).frames.hvw.fail = inc32 s.frames.hvw.fail := by
  obtain ⟨run, rest, he⟩ := failRecord_eq hx rec
  rw [he]
  refine ⟨_, (session_congr (sessions_streamsBlind.streamFail _ _ _) n).trans ((session_modHvw n _ _).trans
    (session_recordFailed hx 3 rec run rest)), rfl, rfl, rfl, rfl, ?_⟩
  exact (congrArg Hvw.fail (hvw_streamsBlind.streamFail _ _ _)).trans (congrArg (fun h : Hvw => inc32 h.fail)
    (fail_recordFailed n 3 rec run rest s))

theorem harvestVerifyDone_row {v : Verifying} {vs : List Verifying} {k : KeyRec} {r : Nat} {e : ShelfKey} (hx : s.session? n = some x)
    (hst : s.stream? n = some st) (hv : x.verify = v :: vs) (hk : s.key? x.handle = some k) (hr : sealRegion s k = some r)
    (he : s.onShelf k.home k.inst k.keyId = some e) : ∃ t : State, t.frames = (s.modSession n fun x => { x with verify := vs }).frames ∧
      exec (.harvestVerifyDone n) s = .next (
        if Config.stdOk "ML-DSA.Verify" [le 1 x.sigAlg, e.pub, ascii "EXM-HARVEST-1", v.sig, ascii "pure", v.record] then
          passRecord n v.record t else failRecord n v.record 3 t) := by
  refine ⟨sessionBatch st.cfg.owner (sessionEnergy st.cfg.owner (latticeNj .verify x.sigAlg 0
    (probeTag r st.cfg.owner x.sigAlg k.digest s.tick (s.modSession n fun x => { x with verify := vs })).1 (s.efficient r))
    (probeTag r st.cfg.owner x.sigAlg k.digest s.tick (s.modSession n fun x => { x with verify := vs })).2), ?_, ?_⟩
  · rw [sessionBatch_frames, sessionEnergy_frames, probeTag_frames]
  · refine congrArg Host.Outcome.next ?_
    rw [hx, hst]
    dsimp only
    rw [hv]
    dsimp only
    rw [hk, Option.bind_some, hr]
    dsimp only
    rw [he]

/-! ### What is given up (R303, R305, R308) -/

theorem assemblyTimeout_drops (hx : s.session? n = some x) :
    let late (a : Assembly) : Bool := decide (a.since + 2 * x.t + x.wait ≤ s.tick)
    ∃ t, exec (.assemblyTimeout n) s = .next t ∧ t.session? n = some { x with assemblies := x.assemblies.filter fun a => !late a } ∧
      t.frames.hvw.shardDrop = satAdd max32 s.frames.hvw.shardDrop (x.assemblies.filter late).length := by
  intro late
  have row : exec (.assemblyTimeout n) s = .next (dropShards (x.assemblies.filter late).length
      (s.modSession n fun x => { x with assemblies := x.assemblies.filter fun a => !late a })) := by
    refine congrArg Host.Outcome.next ?_
    rw [hx]
  exact ⟨_, row, (session_modHvw n _ _).trans (session_modSession_self _ hx), rfl⟩

theorem pendingTimeout_loses (hx : s.session? n = some x) :
    let late (p : PFrame) : Bool := decide ((p.win + 1) * x.t + x.wait ≤ s.tick)
    ∃ t u, exec (.pendingFrameTimeout n) s = .next t ∧ t.session? n = some u ∧ u.pend = (x.pend.filter fun p => !late p) ∧
      t.frames.hvw.lost = satAdd max32 s.frames.hvw.lost (x.pend.filter late).length := by
  intro late
  have row : exec (.pendingFrameTimeout n) s = .next (resolveLost n x (x.pend.filter late)
      (s.modSession n fun x => { x with pend := x.pend.filter fun p => !late p })) := by
    refine congrArg Host.Outcome.next ?_
    rw [hx]
  have kept := session_resolveLost n x (x.pend.filter late) (s.modSession n fun x => { x with pend := x.pend.filter fun p => !late p }) n
  rw [session_modSession_self _ hx] at kept
  obtain ⟨u, hu, hsame⟩ := unfailed_eq kept
  exact ⟨_, u, row, hu, (congrArg Session.pend hsame :), congrArg Hvw.lost (hvw_resolveLost _ _ _ _)⟩

theorem ttlExpiry_releases (hx : s.session? n = some x) :
    ∃ t, exec (.timeAllowedToLiveExpiry n) s = .next t ∧ t.session? n = some { x with pend := x.pend.map fun p =>
      if (p.held.any fun h => h.ttl.any fun d => decide (p.ingress + d ≤ s.tick)) then { p with held := none } else p } := by
  have held := (session_congr (sessions_dropsBlind.deliverHeld n 1 (·.win) (x.pend.filter fun p =>
    p.held.any fun h => h.ttl.any fun t => decide (p.ingress + t ≤ s.tick)) s) n).trans hx
  refine ⟨_, congrArg Host.Outcome.next ?_, session_modSession_self (fun x => { x with pend := x.pend.map fun p =>
    if (p.held.any fun h => h.ttl.any fun d => decide (p.ingress + d ≤ s.tick)) then { p with held := none } else p }) held⟩
  rw [hx]

end Sessions

/-- Settles O27, row by row: what a session's own change leaves of it, past deliveries that touch subscriptions alone. -/
theorem harvestWindows : Obligations.HarvestWindows := by
  intro s j n w c st h x
  extract_lets b role Sets late lateP
  have sets : Sets = FrameSets j c s := rfl
  clear_value Sets
  subst sets
  refine ⟨fun hn hzero hfam hst => ⟨fun hw hbody hform => ⟨?ends, ?begins⟩, ?status⟩,
    fun hx => ⟨fun hst => ⟨?closes, ?open', fun y hs hy ho => ⟨?signs, ?unsealed⟩, ?verifies⟩, assemblyTimeout_drops hx,
      pendingTimeout_loses hx, ttlExpiry_releases hx⟩⟩
  case ends =>
    subst hn
    intro hr
    have body := harvestBody_passes (h := h) hzero hfam hst hbody hform (.inl hr)
    exact frameSets_of hw rfl rfl (frmHarvestSet_ends body hr)
      (congrArg Prod.snd (frmHarvestSet_ends (s := (drawEnergy s).2) body hr)) (session_endSession _ _)
  case begins =>
    subst hn
    intro hr hh hparams hport hkey hroom
    have body := harvestBody_passes hzero hfam hst hbody hform (.inr hh)
    have width : 100 ≤ fld b 6 2 := by
      simp only [harvestParams, Bool.and_eq_true, decide_eq_true_eq] at hparams
      tauto
    refine frameSets_of hw rfl rfl (frmHarvestSet_sets body hr hst hh hparams hport hkey hroom)
      (congrArg Prod.snd (frmHarvestSet_sets (s := (drawEnergy s).2) body hr hst hh hparams hport hkey hroom)) ?_
    obtain ⟨low, high⟩ := firstWindow s.tick (fld b 6 2 * 1000) (by omega)
    exact ⟨_, tfind_tins_self _ _ _, rfl, rfl, rfl, rfl, rfl, rfl, low, high⟩
  case status =>
    subst hn
    intro hw hbody hz hhandle
    exact ended_of hw (frmHarvestStatus_reports (s := (drawEnergy s).2) hzero hfam hst hbody hz hhandle) rfl
  case closes =>
    intro o ho hdue hsvc
    exact ⟨_, (exec_harvestWindowClose hx ho).trans (congrArg Host.Outcome.next (if_pos hdue)), closeWindow_closes hx hst ho hsvc⟩
  case open' =>
    intro o ho hearly
    exact (exec_harvestWindowClose hx ho).trans (congrArg Host.Outcome.next (if_neg (Nat.not_le.2 hearly)))
  case signs => exact fun k sig s1 hstatus hk hsign => harvestSealDone_signs hx hst hs hy ho hstatus hk hsign
  case unsealed => exact fun bad hbad => harvestSealDone_fails hx hst hs hy ho hbad
  case verifies =>
    intro v rest k r e hv hk hr he ok
    obtain ⟨t, ht, row⟩ := harvestVerifyDone_row hx hst hv hk hr he
    have hsession : t.session? n = some { x with verify := rest } :=
      (session_congr (congrArg Frames.sessions ht) n).trans (session_modSession_self _ hx)
    have hhvw : t.frames.hvw = s.frames.hvw := (congrArg Frames.hvw ht :)
    by_cases hok : ok = true
    · obtain ⟨u, hu, hverify, hlast, hdone, hpass⟩ := passRecord_passes hsession v.record
      refine ⟨_, u, row.trans (congrArg Host.Outcome.next (if_pos hok)), hu, hverify, fun _ => ⟨hlast, hdone, ?_⟩,
        fun h => absurd h (by simp [hok])⟩
      rw [hpass, hhvw]
    · obtain ⟨u, hu, hverify, hlast, hdone, hfailed, hfail⟩ := failRecord_fails hsession v.record
      refine ⟨_, u, row.trans (congrArg Host.Outcome.next (if_neg hok)), hu, hverify, fun h => absurd h hok,
        fun _ => ⟨hlast, hdone, hfailed, ?_⟩⟩
      rw [hfail, hhvw]

end Sys2Proof.Machine
end

section
/-! PROOFS. Random bytes are made and seeds are borrowed (O28, O29). -/

namespace Sys2Proof.Machine
open Safety

section Randomness
variable {s t u : State} {r p d : Nat}

/-- A row changes the randomness of region `r` to what `f` holds of, and nothing else. -/
def RngBecomes (r : Nat) (s : State) (i : Instr) (f : Rng → Prop) : Prop :=
  ∃ t, exec i s = .next t ∧ f (t.region r).rng ∧ OnlyRegion r s t

theorem OnlyRegion.trans' (h : OnlyRegion r s t) (k : OnlyRegion r t u) : OnlyRegion r s u := by
  obtain ⟨hs, hq⟩ := h
  obtain ⟨ks, kq⟩ := k
  refine ⟨?_, fun q hne => (kq q hne).trans (hq q hne)⟩
  rw [ks, hs]

theorem modRng_onlyRegion (f : Rng → Rng) (s : State) : OnlyRegion r s (s.modRng r f) := modRegion_onlyRegion _

theorem rngBecomes_of {i : Instr} {f : Rng → Rng} {P : Rng → Prop} (he : exec i s = .next (s.modRng r f)) (h : P (f (s.region r).rng)) :
    RngBecomes r s i P :=
  ⟨_, he, (rng_modRng_self f s).symm ▸ h, modRng_onlyRegion f s⟩

/-- The randomness of a region that asks for a seed (R325). -/
def Rng.asking (donor : Option Nat) (g : Rng) : Rng :=
  { g with asked := true, donor := donor, wrapped := false, requestNo := g.requestNo + 1 }

theorem askSeed_eq (r : Nat) (s : State) : askSeed r s = s.modRng r (Rng.asking (donorFor s r)) := rfl

/-! ### Windows and seeds (R315, R316, R322, R324) -/

/-- The counts of a window's failed tests. -/
def Rng.counted (rct apt : Bool) (g : Rng) : Rng :=
  { g with rct := if rct then inc32 g.rct else g.rct, apt := if apt then inc32 g.apt else g.apt }

/-- A region that holds after a failed window. -/
def Rng.held (g : Rng) : Rng := { g with state := .hold, healthFail := true, restarting := true, samples := 0 }

/-- A failed window in RUNNING: the region holds, and a seed is asked for (R324). -/
theorem healthFailed_holds (r : Nat) (s : State) : ∃ t, healthFailed r s = t ∧ OnlyRegion r s t ∧ (t.region r).rng.state = .hold ∧
    (t.region r).rng.healthFail = true ∧ (t.region r).rng.restarting = true ∧ (t.region r).rng.asked = true ∧
    (t.region r).rng.reservoir = (s.region r).rng.reservoir ∧ (t.region r).rng.rct = (s.region r).rng.rct ∧
    (t.region r).rng.apt = (s.region r).rng.apt := by
  have hold := rng_modRng_self (r := r) Rng.held s
  by_cases ha : (s.region r).rng.asked = true
  · refine ⟨s.modRng r Rng.held, if_pos ha, modRng_onlyRegion _ s, ?_⟩
    rw [hold]
    exact ⟨rfl, rfl, rfl, ha, rfl, rfl, rfl⟩
  · refine ⟨(s.modRng r Rng.held).modRng r (Rng.asking (donorFor (s.modRng r Rng.held) r)), if_neg ha,
      OnlyRegion.trans' (modRng_onlyRegion _ s) (modRng_onlyRegion _ _), ?_⟩
    rw [rng_modRng_self, hold]
    exact ⟨rfl, rfl, rfl, rfl, rfl, rfl, rfl⟩

theorem exec_window_fails {rct apt : Bool} (hs : s.samples r = true) (hf : (rct || apt) = true) :
    exec (.noiseWindowComplete r rct apt) s = .next (match (s.region r).rng.state with
      | .starting => startFailed r (s.modRng r (Rng.counted rct apt))
      | .failed => s.modRng r (Rng.counted rct apt)
      | _ => if (s.region r).rng.lasting || (s.region r).rng.restarting then s.modRng r (Rng.counted rct apt)
        else healthFailed r (s.modRng r (Rng.counted rct apt))) := by
  change execNoiseWindowComplete r rct apt s = _
  unfold execNoiseWindowComplete
  rw [if_neg (by simp [hs]), if_pos hf]
  rfl

theorem exec_window_passes (hs : s.samples r = true) (hl : (s.region r).rng.lasting = false) (hr : (s.region r).rng.restarting = false)
    (hf : (s.region r).rng.state ≠ .failed) : exec (.noiseWindowComplete r false false) s = .next (s.modRng r fun g =>
      if (s.region r).rng.state = .starting ∧ (s.region r).rng.startup = false then { g with startup := true }
      else { g with samples := g.samples + 1024 }) := by
  change execNoiseWindowComplete r false false s = _
  unfold execNoiseWindowComplete
  rw [if_neg (by simp [hs])]
  dsimp only
  rw [if_neg (by simp), if_neg (by simp [hl, hr, hf])]
  by_cases hx : (s.region r).rng.state = .starting ∧ (s.region r).rng.startup = false
  · rw [if_pos (by simp [hx.1, hx.2])]
    simp only [if_pos hx]
  · rw [if_neg (by simpa using hx)]
    simp only [if_neg hx]

theorem startFailed_restarts (h : (s.region r).rng.startFails < 3) : startFailed r s = s.modRng r fun g =>
    { g with startFails := g.startFails + 1, samples := 0, startup := false, ready := false } := if_neg (Nat.not_le.2 h)

theorem exec_seedConditioned (he : s.enabled r = true) (hn : 1280 ≤ (s.region r).rng.samples) (hl : (s.region r).rng.lasting = false)
    (hf : (s.region r).rng.state ≠ .failed) : exec (.seedConditioned r) s = .next (s.modRng r fun g =>
      match g.state with
      | .running => if g.ready then { g with samples := g.samples - 1280, spare := true }
        else { g with samples := g.samples - 1280, ready := true }
      | .starting => { g with samples := g.samples - 1280, ready := true }
      | _ => { Rng.reseed { g with samples := g.samples - 1280 } s.tick with
          state := .running, asked := false, donor := none, wrapped := false }) := by
  refine congrArg Host.Outcome.next (if_neg ?_)
  simp [he, hl, hf, Nat.not_lt.2 hn]

/-! ### The expander (R317, R326) -/

/-- The expander is to be reseeded (R317). -/
abbrev Rng.Due (g : Rng) (tick : Nat) : Prop := 67108864 ≤ g.since ∨ g.seedTick + 100000000 ≤ tick

theorem exec_reseedDue (he : s.enabled r = true) (hd : (s.region r).rng.Due s.tick) :
    exec (.reseedDue r) s = .next (match (s.region r).rng.state with
      | .running => if (s.region r).rng.ready then s.modRng r fun g => { g.reseed s.tick with ready := false } else s
      | .borrowed =>
        if (s.region r).rng.ready then s.modRng r fun g => { g.reseed s.tick with ready := false }
        else if (s.region r).rng.asked then s.modRng r fun g => { g with stopped := true }
          else askSeed r (s.modRng r fun g => { g with stopped := true })
      | _ => s) := by
  refine congrArg Host.Outcome.next (if_neg ?_)
  rcases hd with h | h
  · simp [he, h]
  · simp [he, h]

theorem exec_reseedDue_early (hd : ¬ (s.region r).rng.Due s.tick) : exec (.reseedDue r) s = .next s := by
  refine congrArg Host.Outcome.next (if_pos ?_)
  have hd' := not_or.1 hd
  simp [hd'.1, hd'.2]

/-- A borrowed region without its seed stops and asks (R326). -/
theorem reseedDue_stops (he : s.enabled r = true) (hd : (s.region r).rng.Due s.tick) (hb : (s.region r).rng.state = .borrowed)
    (hn : (s.region r).rng.ready = false) : RngBecomes r s (.reseedDue r) fun h => h.stopped = true ∧ h.asked = true := by
  have row := exec_reseedDue he hd
  rw [hb] at row
  dsimp only at row
  rw [if_neg (by simp [hn])] at row
  have stopped := rng_modRng_self (r := r) (fun g => { g with stopped := true }) s
  by_cases ha : (s.region r).rng.asked = true
  · rw [if_pos ha] at row
    exact rngBecomes_of row ⟨rfl, ha⟩
  · rw [if_neg ha] at row
    refine ⟨_, row, ?_, OnlyRegion.trans' (modRng_onlyRegion _ s) (modRng_onlyRegion _ _)⟩
    rw [askSeed_eq, rng_modRng_self, stopped]
    exact ⟨rfl, rfl⟩

theorem expander_fills (he : s.enabled r = true) (hr : (s.region r).rng.state = .running) (hlow : (s.region r).rng.reservoir < 61440)
    (hd : ¬ (s.region r).rng.Due s.tick) : exec (.expanderGenerate r) s = .next (s.modRng r fun g =>
      { g with reservoir := min 65536 (g.reservoir + 4096), since := g.since + 4096 }) := by
  have hd' := not_or.1 hd
  refine congrArg Host.Outcome.next (if_pos ?_)
  simp [he, hr, hlow, Nat.not_le.1 hd'.1, Nat.not_le.1 hd'.2]

/-! ### Start-up (R322) -/

/-- The pans of region `r` to which a start-up gives a seed (R322). -/
def startupPans (s : State) (r : Nat) : List Nat :=
  panNums.filter fun p => (s.region r).svc.state ≠ .inService ∨ ((s.pan r p).msg.fault = false ∧ (s.pan r p).svc.pwr ≠ .dormant)

/-- A generator with its first seed. -/
def Msg.started (m : Msg) : Msg :=
  { m with seeded := true, waitSeed := false, fault := false, used := 0, asked := false, reseeds := inc32 m.reseeds }

theorem startMsgs_rng (l : List Nat) (s : State) (q : Nat) :
    ((l.foldl (fun s p => s.modMsg r p Msg.started) s).region q).rng = (s.region q).rng :=
  foldl_keeps (fun s => (s.region q).rng) _ (fun s _ => rng_modMsg _ q s) l s

theorem startMsgs_seeded {l : List Nat} (hp : p ∈ l) (s : State) :
    ((l.foldl (fun s p => s.modMsg r p Msg.started) s).pan r p).msg.seeded = true ∧
      ((l.foldl (fun s p => s.modMsg r p Msg.started) s).pan r p).msg.used = 0 := by
  have self (s : State) : ((s.modMsg r p Msg.started).pan r p).msg.seeded = true ∧ ((s.modMsg r p Msg.started).pan r p).msg.used = 0 := by
    rw [pan_modMsg]
    exact ⟨rfl, rfl⟩
  refine foldl_reaches (f := fun s p => s.modMsg r p Msg.started) (P := fun _ => True) (Q := fun s => (s.pan r p).msg.seeded = true ∧ (s.pan r p).msg.used = 0)
    (fun _ _ _ => trivial) (fun s _ => self s) (fun s q h => ?_) hp trivial
  by_cases hq : p = q
  · subst hq
    exact self s
  · rw [State.modMsg, State.pan_modPan_ne s r q p _ hq]
    exact h

theorem startup_starts (he : s.enabled r = true) (hst : (s.region r).rng.state = .starting) (hready : (s.region r).rng.ready = true)
    (hsvc : (s.region r).svc.state ∈ [RState.loading, .rejoining, .inService, .testing])
    (hz : s.pkg.zeroized = false ∨ (s.region r).svc.state ≠ .inService) :
    ∃ t, exec (.rngStartupComplete r) s = .next t ∧ (t.region r).rng.state = .running ∧ (t.region r).rng.since = 4096 ∧
      (t.region r).rng.reservoir = 4096 - 48 * (startupPans s r).length ∧ (t.region r).rng.seedTick = s.tick ∧
      ∀ p ∈ startupPans s r, (t.pan r p).msg.seeded = true ∧ (t.pan r p).msg.used = 0 := by
  have pans : (panNums.filter fun p => (s.region r).svc.state != .inService || (!(s.pan r p).msg.fault && (s.pan r p).svc.pwr != .dormant)) =
      startupPans s r := by
    refine List.filter_congr fun p _ => ?_
    rw [Bool.eq_iff_iff]
    simp
  have row : exec (.rngStartupComplete r) s = .next (wakeMasked r ((startupPans s r).foldl (fun s p => s.modMsg r p Msg.started)
      (s.modRng r fun g => { g with
        state := .running, reservoir := 4096 - 48 * (startupPans s r).length, since := 4096, seedTick := s.tick, ready := false,
        startFails := 0, startup := false, lasting := false, stopped := false }))) := by
    refine congrArg Host.Outcome.next ?_
    dsimp only
    rw [if_pos, pans]
    · rfl
    · simp only [List.mem_cons, List.not_mem_nil, or_false] at hsvc
      rcases hsvc with h | h | h | h <;> rw [h] at hz ⊢ <;> simp_all
  refine ⟨_, row, ?_⟩
  have rng := (startMsgs_rng (r := r) (startupPans s r) _ r).trans (rng_modRng_self (r := r) (fun g => { g with
    state := .running, reservoir := 4096 - 48 * (startupPans s r).length, since := 4096, seedTick := s.tick, ready := false,
    startFails := 0, startup := false, lasting := false, stopped := false }) s)
  rw [region_wakeMasked, rng]
  exact ⟨rfl, rfl, rfl, rfl, fun p hp => startMsgs_seeded hp _⟩

end Randomness

/-- Settles O28, window by window, seed by seed, and the start-up last. -/
theorem randomBytesAreMade : Obligations.RandomBytesAreMade := by
  intro s r he
  extract_lets g Now due gets
  have now : Now = RngBecomes r s := rfl
  clear_value Now
  subst now
  refine ⟨fun hs hl hr hf => rngBecomes_of (exec_window_passes hs hl hr hf) rfl, fun rct apt hs hfails hl hr => ⟨?holds, ?restarts⟩,
    fun hn hl hf => ⟨?first, ?spare, ?ends⟩, ?reseeds, fun hd hb hn => reseedDue_stops he hd hb hn, exec_reseedDue_early,
    fun hr hlow hd => rngBecomes_of (expander_fills he hr hlow hd) rfl, ?full, fun hst hready hsvc hz => startup_starts he hst hready hsvc hz⟩
  case holds =>
    intro hrun
    obtain ⟨t, ht, only, h1, h2, h3, h4, h5, h6, h7⟩ := healthFailed_holds r (s.modRng r (Rng.counted rct apt))
    have row := exec_window_fails hs hfails
    rw [show (s.region r).rng.state = .running from hrun] at row
    dsimp only at row
    rw [if_neg (by simp [g] at hl hr; simp [hl, hr]), ht] at row
    rw [rng_modRng_self] at h5 h6 h7
    exact ⟨t, row, ⟨h1, h2, h3, h4, h5, h6, h7⟩, OnlyRegion.trans' (modRng_onlyRegion _ s) only⟩
  case restarts =>
    intro hstart hn
    have row := exec_window_fails hs hfails
    rw [show (s.region r).rng.state = .starting from hstart] at row
    dsimp only at row
    have counted := rng_modRng_self (r := r) (Rng.counted rct apt) s
    rw [startFailed_restarts (by rw [counted]; exact hn)] at row
    refine ⟨_, row, ?_, OnlyRegion.trans' (modRng_onlyRegion _ s) (modRng_onlyRegion _ _)⟩
    rw [rng_modRng_self, counted]
    exact ⟨hstart, rfl, rfl⟩
  case first =>
    intro hrun hready
    refine rngBecomes_of (exec_seedConditioned he hn hl hf) ?_
    rw [show (s.region r).rng.state = .running from hrun]
    exact if_neg (by rw [show (s.region r).rng.ready = false from hready]; exact Bool.false_ne_true)
  case spare =>
    intro hrun hready
    refine rngBecomes_of (exec_seedConditioned he hn hl hf) ?_
    rw [show (s.region r).rng.state = .running from hrun]
    exact if_pos hready
  case ends =>
    intro h
    refine rngBecomes_of (exec_seedConditioned he hn hl hf) ?_
    rcases h with h | h
    · rw [show (s.region r).rng.state = .hold from h]
      exact ⟨rfl, rfl, rfl, rfl, rfl⟩
    · rw [show (s.region r).rng.state = .borrowed from h]
      exact ⟨rfl, rfl, rfl, rfl, rfl⟩
  case reseeds =>
    intro hd hrun hready
    have row := exec_reseedDue he hd
    rw [show (s.region r).rng.state = .running from hrun] at row
    dsimp only at row
    rw [if_pos hready] at row
    exact rngBecomes_of row ⟨rfl, rfl, rfl, rfl, rfl⟩
  case full =>
    intro hr hfull
    exact congrArg Host.Outcome.next (if_neg (by simp [show ¬ (s.region r).rng.reservoir < 61440 from Nat.not_lt.2 hfull]))

end Sys2Proof.Machine
end

section
/-! PROOFS. Seeds are borrowed between regions (O29). -/

namespace Sys2Proof.Machine
open Safety

/-! ### What a record leaves (R430, R437) -/

section Records
variable (s : State)

theorem btnRegion_rings (r e a b : Nat) : SameButRings s (btnRegion r e a b s) := by
  unfold SameButRings
  rw [btnRegion_same]

/-- The announcement of a record is journalled, kept and signalled; it changes nothing else, the aggregator neither. -/
theorem announceFault_rings (r : FaultRec) : SameButRings s (announceFault r s) := by
  have region : SameButRings s (match r.on.region with
      | some n => btnRegion n 3 r.fseq r.arg1 s
      | none => s) := by
    cases r.on.region with
    | none => rfl
    | some n => exact btnRegion_rings s n _ _ _
  have journalled := region.trans (journalEvent_same _ 3 r.fseq r.arg1 r.on.region 0).rings
  unfold announceFault
  exact .ite (.ite (journalled.trans (raiseVector_same _ _ _).rings) journalled) region

/-- A fault that finds a slot changes the aggregator, with the next FSEQ, and what announces it. -/
theorem record_slot {slot : Nat} (x : Raise) (c : FClass) (h : s.faults.slotFor = some slot) :
    ∃ f : Faults, SameButRings { s with faults := f } (record x c s).2 ∧ f.head = s.faults.head + 1 ∧
      f.ring = tins slot (x.toRec c s) s.faults.ring := by
  unfold record
  rw [h]
  refine ⟨_, announceFault_rings _ _, rfl, ?_⟩
  cases c <;> rfl

/-- A NOTE leaves the regions, and every command. -/
theorem raiseNote_same (x : Raise) : ∃ f : Faults, SameButRings { s with faults := f } (raiseNote x s) := by
  cases h : s.faults.slotFor with
  | some slot =>
    obtain ⟨f, hf, -, -⟩ := record_slot s x .note h
    exact ⟨f, hf⟩
  | none =>
    refine ⟨{ s.faults.count .note with ringLost := true }, ?_⟩
    unfold raiseNote record
    rw [h]
    rfl

end Records

/-! ### Borrowing (R325, R326) -/

section Borrowing
variable {s t : State} {r d : Nat}

theorem modRng_ne {q : Nat} (hq : q ≠ r) (f : Rng → Rng) (s : State) : (s.modRng r f).region q = s.region q :=
  State.region_modRegion_ne s r q _ hq

theorem asked_now {i : Instr} (he : exec i s = .next (askSeed r s)) :
    RngBecomes r s i fun h => h = (s.region r).rng.asking (donorFor s r) := rngBecomes_of he rfl

theorem donorSeedWrap_gives (hk : s.vault.starKey = true) (ha : (s.region r).rng.asked = true) (hd : (s.region r).rng.donor = some d)
    (hw : (s.region r).rng.wrapped = false) (hne : d ≠ r) (hspare : (s.region d).rng.spare = true)
    (hrun : (s.region d).rng.state = .running) : ∃ t, exec (.donorSeedWrap r) s = .next t ∧ (t.region r).rng.wrapped = true ∧
      (t.region d).rng.spare = false ∧ (t.region d).rng.donated = inc32 (s.region d).rng.donated ∧
      ∀ q, q ≠ r → q ≠ d → t.region q = s.region q := by
  have row : exec (.donorSeedWrap r) s = .next ((s.modRng d fun x => { x with spare := false, donated := inc32 x.donated }).modRng r
      fun x => { x with wrapped := true }) := by
    refine congrArg Host.Outcome.next ?_
    dsimp only
    rw [hd]
    exact if_pos (by simp [hk, ha, hw, hspare, hrun])
  refine ⟨_, row, ?_, ?_, ?_, fun q hr hdq => ?_⟩
  · rw [rng_modRng_self]
  · rw [modRng_ne hne, rng_modRng_self]
  · rw [modRng_ne hne, rng_modRng_self]
  · rw [modRng_ne hr, modRng_ne hdq]

/-- The randomness of a region as a borrowed seed that ends its HOLD leaves it (R325). -/
def Rng.borrowing (tick : Nat) (g : Rng) : Rng :=
  { Rng.reseed { g with borrowedN := inc32 g.borrowedN, asked := false, donor := none, wrapped := false } tick with state := .borrowed }

theorem borrowedSeed_taken (ha : (s.region r).rng.asked = true) (hd : (s.region r).rng.donor = some d)
    (hw : (s.region r).rng.wrapped = true) (hh : (s.region r).rng.state = .hold) :
    ∃ t, exec (.borrowedSeedArrival r true) s = .next t ∧ (t.region r).rng = (s.region r).rng.borrowing s.tick := by
  have row : exec (.borrowedSeedArrival r true) s = .next ((journalEvent 6 r d (some r) 0 s).modRng r fun g =>
      match g.state with
      | .hold => g.borrowing s.tick
      | _ => if g.stopped then Rng.reseed { g with borrowedN := inc32 g.borrowedN, asked := false, donor := none, wrapped := false } s.tick
        else { g with borrowedN := inc32 g.borrowedN, asked := false, donor := none, wrapped := false, ready := true }) := by
    refine congrArg Host.Outcome.next ?_
    dsimp only
    rw [hd]
    dsimp only
    rw [if_neg (by simp [ha, hw]), if_neg (by simp)]
    rfl
  refine ⟨_, row, ?_⟩
  rw [rng_modRng_self, region_congr (by rw [journalEvent_same] : (journalEvent 6 r d (some r) 0 s).regions = s.regions), hh]

/-- The donor after `d`, in the order of R325. -/
def nextDonor (s : State) (r d : Nat) : Option Nat :=
  regionNums.find? fun q => q != r && decide (d < q) && s.enabled q && (s.region q).rng.state == .running

theorem borrowedSeed_refused (ha : (s.region r).rng.asked = true) (hd : (s.region r).rng.donor = some d)
    (hw : (s.region r).rng.wrapped = true) : ∃ t, exec (.borrowedSeedArrival r false) s = .next t ∧ (t.region r).rng =
      { (s.region r).rng with wrapped := false, requestNo := (s.region r).rng.requestNo + 1, donor := nextDonor s r d } := by
  obtain ⟨f, hf⟩ := raiseNote_same s { on := regionUnit r .randomness, cause := .transferCheck }
  have regions : (raiseNote { on := regionUnit r .randomness, cause := .transferCheck } s).regions = s.regions := by rw [hf]
  refine ⟨_, congrArg Host.Outcome.next (a₂ := (raiseNote { on := regionUnit r .randomness, cause := .transferCheck } s).modRng r
    fun g => { g with
      wrapped := false, requestNo := g.requestNo + 1,
      donor := nextDonor s r d }) ?_, ?_⟩
  · dsimp only
    rw [hd]
    dsimp only
    rw [if_neg (by simp [ha, hw]), if_pos (by rfl)]
    rfl
  · rw [rng_modRng_self, region_congr regions]

theorem exec_seedRequestRetry (ha : (s.region r).rng.asked = true) (hd : (s.region r).rng.donor = none) :
    exec (.seedRequestRetry r) s = .next (askSeed r s) := by
  refine congrArg Host.Outcome.next ?_
  dsimp only
  rw [hd]
  exact if_pos (by simp [ha])

theorem exec_borrowAdvanceDue (hb : (s.region r).rng.state = .borrowed) (hl : (s.region r).rng.lasting = true)
    (ha : (s.region r).rng.asked = false) (hn : (s.region r).rng.ready = false)
    (hd : 50331648 ≤ (s.region r).rng.since ∨ (s.region r).rng.seedTick + 75000000 ≤ s.tick) :
    exec (.borrowAdvanceDue r) s = .next (askSeed r s) := by
  refine congrArg Host.Outcome.next (if_pos ?_)
  rw [hb, hl, ha, hn]
  simpa using hd

theorem sourceRestart_passes (h : (s.region r).rng.restarting = true)
    (hn : ((s.region r).rng.transients.filter fun t => decide (s.tick < t + 60000000000)).length < 3) :
    exec (.sourceRestartDone r true) s = .next (s.modRng r fun g => { g with
      restarting := false, samples := 0,
      transients := ((s.region r).rng.transients.filter fun t => decide (s.tick < t + 60000000000)) ++ [s.tick] }) := by
  refine congrArg Host.Outcome.next ?_
  dsimp only
  rw [if_neg (by simp [h]), if_pos (by simpa using hn)]

theorem sourceRestart_fails (h : (s.region r).rng.restarting = true) (hstrict : s.pkg.fuses.rngStrict = false)
    (hslot : s.faults.slotFor.isSome = true) : ∃ t, exec (.sourceRestartDone r false) s = .next t ∧
      (t.region r).rng.state = .borrowed ∧ (t.region r).rng.lasting = true ∧ (t.region r).rng.restarting = false ∧
      t.faults.head = s.faults.head + 1 := by
  obtain ⟨slot, hs⟩ := Option.isSome_iff_exists.1 hslot
  obtain ⟨f, hf, hhead, -⟩ := record_slot s { on := regionUnit r .randomness, cause := .noiseSource } .contain hs
  have faults : (record { on := regionUnit r .randomness, cause := .noiseSource } .contain s).2.faults = f := by rw [hf]
  refine ⟨_, congrArg Host.Outcome.next (a₂ := (record { on := regionUnit r .randomness, cause := .noiseSource } .contain s).2.modRng r
    fun g => { g with restarting := false, lasting := true, state := .borrowed, stopped := g.stopped || g.state == .hold }) ?_, ?_⟩
  · dsimp only
    rw [if_neg (by simp [h]), if_neg (by simp)]
    exact if_neg (by simp [hstrict])
  · rw [rng_modRng_self]
    exact ⟨rfl, rfl, rfl, (congrArg Faults.head faults).trans hhead⟩

end Borrowing

/-- Settles O29, event by event. -/
theorem seedsAreBorrowed : Obligations.SeedsAreBorrowed := by
  intro s r d he
  extract_lets g Now recent
  have now : Now = RngBecomes r s := rfl
  clear_value Now
  subst now
  refine ⟨donorSeedWrap_gives, fun ha hd hw hh => ⟨?taken, ?refused⟩, ?retry, ?advance, fun h => ⟨?passes, sourceRestart_fails h⟩⟩
  case taken =>
    obtain ⟨t, ht, hrng⟩ := borrowedSeed_taken ha hd hw hh
    refine ⟨t, ht, ?_⟩
    rw [hrng]
    exact ⟨rfl, rfl, rfl, rfl, rfl⟩
  case refused =>
    obtain ⟨t, ht, hrng⟩ := borrowedSeed_refused ha hd hw
    refine ⟨t, ht, ?_⟩
    rw [hrng]
    exact ⟨hh, ha, rfl, rfl⟩
  case retry => exact fun ha hd => rngBecomes_of (exec_seedRequestRetry ha hd) ⟨rfl, rfl, rfl⟩
  case advance => exact fun hb hl ha hn hd => rngBecomes_of (exec_borrowAdvanceDue hb hl ha hn hd) ⟨rfl, rfl⟩
  case passes => exact fun hn => rngBecomes_of (sourceRestart_passes h hn) rfl

end Sys2Proof.Machine
end

section
/-! PROOFS. Why the statement on loads and key update messages fails (O32): the vault also loses the record of a deleted key as the last
command that it stood for ends, be that command refused or not (R350). -/

namespace Sys2Proof.Machine
open Safety

/-- A KEY.LOAD without an operand that was sent with handle 0 in its descriptor. -/
def emptyLoad (phase : Phase) : Cmd := onHandle0 1 0x0204 phase

/-- The package of `vaultOf` with an owner seed and room for keys in function 0. -/
def ownedVault (k : KeyRec) (cs : List Cmd) : State :=
  { vaultOf k cs with
      vault := { (vaultOf k cs).vault with ownerSeed := some (List.replicate 32 0) }
      insts := [(0, { cfg := { hcap := 8 } })] }

/-- That KEY.LOAD at work, beside the record of the key that KEY.DELETE has freed. -/
def loadBesideFreed : State := ownedVault freedKey [emptyLoad .running]

set_option maxRecDepth 8000 in
/-- A KEY.DELETE beside that KEY.LOAD leaves the record for it. -/
theorem keyDelete_keeps_freedKey_for_load :
    ∃ t, exec (.keyDelete 2) (ownedVault keyOfHandle0 [emptyLoad .sent, onHandle0 2 0x0206 .ready]) = .next t ∧
      t.vault.handles = [freedKey] :=
  ⟨_, rfl, by decide⟩

theorem loadBesideFreed_atWork : AtWork 0x0204 1 (emptyLoad .running) loadBesideFreed := by decide

/-- Its blob is none, and of no key that the vault holds. -/
theorem loadBesideFreed_checked :
    let b := (emptyLoad .running).job
    let i := b.targetInst
    loadHasPub b (readHdr (b.operand 0)) = true ∧ loadBesideFreed.keyById i (readHdr (b.operand 0)).keyId = none ∧
      capOk loadBesideFreed i 0 = none ∧ blobOk loadBesideFreed i (some (b.operand 2)) (b.operand 0) = false := by decide

set_option maxRecDepth 8000 in
/-- The record leaves the vault when the refused KEY.LOAD returns. -/
theorem keyLoad_beside_freed : ∃ t, exec (.keyLoad 1) loadBesideFreed = .next t ∧ t.vault.handles = [] := ⟨_, rfl, by decide⟩

/-- Refutes O32: a KEY.LOAD whose blob fails changes more of the vault than its counter where it is the last command that the record of
a deleted key stands for, since that record leaves as it ends. -/
theorem not_keysAreLoadedAndUpdated : ¬ Obligations.KeysAreLoadedAndUpdated := by
  intro h
  obtain ⟨loaded, -⟩ := h
  obtain ⟨hpub, hunknown, hcap, hblob⟩ := loadBesideFreed_checked
  obtain ⟨-, unknown⟩ := loaded loadBesideFreed 1 (emptyLoad .running) loadBesideFreed_atWork hpub rfl rfl rfl
  obtain ⟨t, ht, -, hvault⟩ := (unknown hunknown hcap).1 hblob
  obtain ⟨u, hu, hempty⟩ := keyLoad_beside_freed
  obtain rfl : t = u := Host.Outcome.next.inj (ht.symm.trans hu)
  rw [hvault] at hempty
  exact absurd hempty (by decide)

end Sys2Proof.Machine
end

section
/-! PROOFS. Customer routines on the micro-sequencer (O40): the routine on a core, what a SEQ word makes of it, and its ends. -/

namespace Sys2Proof.Machine
open Safety

/-! ### The routine on a core -/

section Routines
variable {s : State} {c : CoreId} {x : CustRun}

theorem run_mem (h : s.run? c = some x) : x ∈ s.cust.runs := List.mem_of_find?_eq_some h

theorem run_core (h : s.run? c = some x) : x.core = c ∧ x.saved = none := by
  simpa using List.find?_some h

theorem run_congr {t : State} (h : t.cust.runs = s.cust.runs) (d : CoreId) : t.run? d = s.run? d := by
  unfold State.run?
  rw [h]

theorem run_dropRunOn (s : State) (c : CoreId) : (s.dropRunOn c).run? c = none := by
  refine List.find?_eq_none.2 fun x hx => ?_
  have hout := (List.mem_filter.1 hx).2
  intro hin
  simp [hin] at hout

/-- A change that leaves a routine on its core is seen there. -/
theorem run_modRun {f : CustRun → CustRun} (h : s.run? c = some x) (hf : ∀ y, y.core = c → y.saved = none → (f y).core = c ∧ (f y).saved = none) :
    (s.modRun c f).run? c = some (f x) := by
  unfold State.run? State.modRun at *
  rw [List.find?_map]
  have hsame : ((fun y : CustRun => y.core == c && y.saved.isNone) ∘ fun y => if y.core == c && y.saved.isNone then f y else y) =
      fun y => y.core == c && y.saved.isNone := by
    funext y
    simp only [Function.comp_apply]
    by_cases hy : (y.core == c && y.saved.isNone) = true
    · obtain ⟨hc, hs⟩ : y.core = c ∧ y.saved = none := by simpa using hy
      obtain ⟨hfc, hfs⟩ := hf y hc hs
      rw [if_pos hy, hy, hfc, hfs]
      simp
    · rw [if_neg hy]
  rw [hsame, h, Option.map_some, if_pos (List.find?_some h :)]

/-- What stands on a core of a state stands among its routines. -/
theorem exists_run {p : CustRun → Prop} (h : s.run? c = some x) (hp : p x) : ∃ y ∈ s.cust.runs, y.core = c ∧ p y :=
  ⟨x, run_mem h, (run_core h).1, hp⟩

/-- A RESTART routine has no safe point before its end (R396, R398). -/
theorem custPoint_restart (h : ∀ y, s.run? c = some y → y.rt.poll = false) : custPoint c s = s := by
  unfold custPoint
  split
  · rfl
  next y hy => simp [h y hy]

/-- The routine's place before the action of word `w`: the word's COMMIT and counter load are carried out (R392, R394). -/
def CustRun.atWord (w cycle : Nat) (x : CustRun) : CustRun :=
  { x.commits w cycle with counter := if cSCEN w then cSCVALUE w else x.counter }

theorem atWord_same (w cycle : Nat) (x : CustRun) : x.atWord w cycle =
    { x with
      counter := if cSCEN w then cSCVALUE w else x.counter,
      committed := x.committed || cCOMMIT w,
      mark := (x.atWord w cycle).mark } := by
  unfold CustRun.atWord CustRun.commits
  cases hc : cCOMMIT w <;> cases hx : x.committed <;> simp [hx]

/-! ### A SEQ word without a transfer (R394) -/

/-- The routine on core `c` stands in the sequencer before the SEQ word `w`, which moves no bytes. -/
structure AtSeq (s : State) (c : CoreId) (x : CustRun) (w : Nat) : Prop where
  run : s.run? c = some x
  live : s.runLive x = true
  going : s.frozen c = false
  seq : x.inRun = false
  word : x.word? x.pc = some w
  type : cTYPE w = 0
  still : cXDIR w = 0
  restart : x.rt.poll = false

/-- The state in which the action of the word is carried out. -/
def seqState (s : State) (c : CoreId) (w : Nat) : State :=
  s.setCore c { s.core c with cycle := (s.core c).cycle + seqCycles w }

theorem transfer_still {w : Nat} (h : cXDIR w = 0) (x : CustRun) (k : Core) : transfer w x k = (x, k) := by
  unfold transfer
  simp only [h]

theorem seqStep_at {w : Nat} (h : AtSeq s c x w) : seqStep (cSEQ w) c s =
    stepped c (custPoint c (seqAct w (x.atWord w (s.core c).cycle) (seqState s c w))) := by
  unfold seqStep
  simp only [h.run, h.live, h.going, h.seq, h.word, h.type, transfer_still h.still, Bool.not_true, Bool.or_self, Bool.false_eq_true,
    if_false, ne_eq, not_true_eq_false]
  rfl

variable {w : Nat}

theorem AtSeq.run_seqState (h : AtSeq s c x w) : (seqState s c w).run? c = some x := h.run

theorem atWord_core (w n : Nat) (x : CustRun) : (x.atWord w n).core = x.core := by rw [atWord_same]

/-- The parts of a routine that its words leave as they are. -/
def SameRoutine (x y : CustRun) : Prop := y.core = x.core ∧ y.saved = x.saved ∧ y.rt = x.rt ∧ y.job = x.job

/-- A word that moves the routine on to `y`, in a state `u` that the routine has not left. -/
theorem seqStep_goes {n : Nat} (h : AtSeq s c x w) (hn : cSEQ w = n) {y : CustRun} {u : State} (hu : u.run? c = some x)
    (hact : seqAct w (x.atWord w (s.core c).cycle) (seqState s c w) = u.modRun c fun _ => y) (hy : SameRoutine x y) :
    seqStep n c s = stepped c (u.modRun c fun _ => y) ∧ (seqStep n c s).run? c = some y := by
  subst hn
  obtain ⟨hxc, hxs⟩ := run_core h.run
  obtain ⟨hc, hs, hr, -⟩ := hy
  have hrun : (u.modRun c fun _ => y).run? c = some y :=
    run_modRun hu fun _ _ _ => ⟨hc.trans hxc, hs.trans hxs⟩
  have hstep : seqStep (cSEQ w) c s = stepped c (u.modRun c fun _ => y) := by
    rw [seqStep_at h, hact, custPoint_restart]
    intro z hz
    rw [hrun, Option.some_inj] at hz
    rw [← hz, hr, h.restart]
  exact ⟨hstep, hstep ▸ hrun⟩

/-- A word whose action only replaces the routine by `y`. -/
theorem seqStep_moves {n : Nat} (h : AtSeq s c x w) (hn : cSEQ w = n) {y : CustRun} {p : CustRun → Prop}
    (hact : seqAct w (x.atWord w (s.core c).cycle) (seqState s c w) = (seqState s c w).modRun c fun _ => y)
    (hy : SameRoutine x y) (hp : p y) : ∃ z ∈ (seqStep n c s).cust.runs, z.core = c ∧ z.job = x.job ∧ p z :=
  exists_run (p := fun z => z.job = x.job ∧ p z) (seqStep_goes h hn h.run_seqState hact hy).2 ⟨hy.2.2.2, hp⟩

/-- A word that ends the routine leaves the core without one. -/
theorem seqStep_ends {n : Nat} (h : AtSeq s c x w) (hn : cSEQ w = n) {u : State}
    (hact : seqAct w (x.atWord w (s.core c).cycle) (seqState s c w) = u) (hu : u.run? c = none) :
    seqStep n c s = stepped c u := by
  subst hn
  rw [seqStep_at h, hact, custPoint_restart]
  intro z hz
  rw [hu] at hz
  cases hz

theorem atWord_keeps (w n : Nat) (x : CustRun) : SameRoutine x (x.atWord w n) := by rw [atWord_same]; exact ⟨rfl, rfl, rfl, rfl⟩

/-! ### The actions of a SEQ word (R392, R394) -/

section Actions
variable {y : CustRun} {u : State}

theorem seqAct_next (h : cSEQ w = 0) : seqAct w y u = u.modRun y.core fun _ => { y with pc := cNEXT w } := by
  simp only [seqAct, h]

theorem seqAct_branch (h : cSEQ w = 1) {z : CustRun} {b : Bool}
    (hz : (if cCOND w = 3 then { y with counter := (y.counter + 4095) % 4096 } else y) = z) (hb : seqCond w z (u.core y.core) = some b) :
    seqAct w y u = u.modRun y.core fun _ => { z with pc := if b then cALT w else cNEXT w } := by
  simp only [seqAct, h, hz, hb]

theorem seqAct_call (h : cSEQ w = 2) : seqAct w y u =
    if 4 ≤ y.stack.length then abortRun y false u
    else u.modRun y.core fun _ => { y with stack := cNEXT w :: y.stack, pc := cALT w } := by
  simp only [seqAct, h]

theorem seqAct_ret (h : cSEQ w = 3) {a : Nat} {rest : List Nat} (hs : y.stack = a :: rest) :
    seqAct w y u = u.modRun y.core fun _ => { y with stack := rest, pc := a } := by
  simp only [seqAct, h, hs]

theorem seqAct_run (h : cSEQ w = 4) : seqAct w y u =
    (u.setCore y.core (startCore w (u.core y.core))).modRun y.core fun _ => { y with inRun := true } := by
  simp only [seqAct, h]

theorem seqAct_end (h : cSEQ w = 5) {d : Cmd} (hd : y.job.bind u.cmd? = some d) : seqAct w y u =
    endRun y (outsTo d.job y.outputs) ((u.modCust (y.core.region.getD 0) fun q => { q with runs := inc32 q.runs }).modProg d.job.id
      fun p => { p with committed := y.committed }) := by
  have hd' : y.job.bind (u.modCust (y.core.region.getD 0) fun q => { q with runs := inc32 q.runs }).cmd? = some d := hd
  simp only [seqAct, h, hd']

theorem seqAct_fail (h : cSEQ w = 6) : seqAct w y u = endRun y (stRes (failStatus w)) u := by
  simp only [seqAct, h]

end Actions

theorem core_atWord (h : AtSeq s c x w) (n : Nat) : (x.atWord w n).core = c := (atWord_core w n x).trans (run_core h.run).1

/-- The routine at a word that goes on with `y`, given the action on the routine's own core. -/
theorem seqStep_word {n : Nat} (h : AtSeq s c x w) (hn : cSEQ w = n) {y : CustRun} {p : CustRun → Prop}
    (hact : seqAct w (x.atWord w (s.core c).cycle) (seqState s c w) =
      (seqState s c w).modRun (x.atWord w (s.core c).cycle).core fun _ => y)
    (hy : SameRoutine (x.atWord w (s.core c).cycle) y) (hp : p y) :
    ∃ z ∈ (seqStep n c s).cust.runs, z.core = c ∧ z.job = x.job ∧ p z := by
  rw [core_atWord h] at hact
  obtain ⟨hc, hs, hr, hj⟩ := hy
  obtain ⟨hc', hs', hr', hj'⟩ := atWord_keeps w (s.core c).cycle x
  exact seqStep_moves h hn hact ⟨hc.trans hc', hs.trans hs', hr.trans hr', hj.trans hj'⟩ hp

/-! ### Ends of a routine (R397, R403, R404) -/

theorem finish_ended {j : Nat} {d : Cmd} (r : Res) (h : s.cmd? j = some d) : Ended j d r (finish j r s) :=
  ⟨_, r.nj, cmd_finish _ h, rfl, rfl, rfl⟩

@[simp] theorem finish_cust (j : Nat) (r : Res) : (finish j r s).cust = s.cust := by simp [finish]

/-- The routine of core `c` is over, and its job, if it has one, has ended with `r`. -/
def RunOver (s : State) (c : CoreId) (job : Option Nat) (r : Res) (t : State) : Prop :=
  t.run? c = none ∧ ∀ j d, job = some j → s.cmd? j = some d → Ended j d r t

/-- The state of a core whose routine has been taken off. -/
def offCore (c : CoreId) (s : State) : State := wipeCore c (s.dropRunOn c)

theorem run_offCore (s : State) (c : CoreId) : (offCore c s).run? c = none := run_dropRunOn s c

theorem endRun_over (hc : x.core = c) (r : Res) {u : State} (hu : ∀ j d, s.cmd? j = some d → Keeps d u) :
    RunOver s c x.job r (endRun x r u) := by
  subst hc
  unfold endRun
  split
  next j hj =>
    refine ⟨(run_congr (congrArg Cust.runs (finish_cust j r)) _).trans (run_offCore u x.core), fun i d hi hd => ?_⟩
    rw [hj, Option.some_inj] at hi
    subst hi
    obtain ⟨e, he, hjob⟩ := hu j d hd
    rw [cmd_id hd] at he
    obtain ⟨f, nj, hf, hfj, hph, hres⟩ := finish_ended (s := offCore x.core u) r he
    exact ⟨f, nj, hf, hfj.trans hjob, hph, hres⟩
  next hj => exact ⟨run_offCore u x.core, fun i d hi => by simp [hj] at hi⟩

theorem keeps_of_cmds {u : State} (hu : u.cmds = s.cmds) (j : Nat) (d : Cmd) (hd : s.cmd? j = some d) : Keeps d u :=
  ⟨d, by rw [cmd_congr hu, cmd_id hd]; exact hd, rfl⟩

theorem abortRun_over (hc : x.core = c) (b : Bool) {u : State} (hu : u.cmds = s.cmds) :
    RunOver s c x.job (stRes .abortedFault) (abortRun x b u) :=
  endRun_over hc _ (keeps_of_cmds hu)

theorem cust_endRun (q : Nat) (res : Res) (u : State) : (((endRun x res u).region q).cust) = (u.region q).cust := by
  have hblind : UnitsBlind Region.cust := fun _ _ _ _ _ _ _ => rfl
  unfold endRun
  split
  · exact hblind.finish _ _ q _
  · rfl

/-- A word whose action ends the routine. -/
theorem seqStep_over {n : Nat} (h : AtSeq s c x w) (hn : cSEQ w = n) {r : Res} {u : State}
    (hact : seqAct w (x.atWord w (s.core c).cycle) (seqState s c w) = u)
    (hu : RunOver s c (x.atWord w (s.core c).cycle).job r u) : RunOver s c x.job r (seqStep n c s) := by
  rw [seqStep_ends h hn hact hu.1]
  rw [(atWord_keeps w (s.core c).cycle x).2.2.2] at hu
  exact hu

/-! ### SEQ words at work -/

/-- What the words of the sequencer make of the routine, word by word. -/
theorem seqStep_next (h : AtSeq s c x w) (hn : cSEQ w = 0) : ∃ y ∈ (seqStep 0 c s).cust.runs, y.core = c ∧ y.job = x.job ∧
    y.pc = cNEXT w ∧ y.counter = (if cSCEN w then cSCVALUE w else x.counter) ∧ y.stack = x.stack ∧
    y.committed = (x.committed || cCOMMIT w) := by
  refine seqStep_word h hn (seqAct_next hn) ⟨rfl, rfl, rfl, rfl⟩ ⟨rfl, rfl, ?_, ?_⟩
  · rw [atWord_same]
  · rw [atWord_same]

theorem seqStep_branch (h : AtSeq s c x w) (hn : cSEQ w = 1) {b : Bool} (h3 : cCOND w ≠ 3)
    (hb : seqCond w (x.atWord w (s.core c).cycle) ((seqState s c w).core c) = some b) :
    ∃ y ∈ (seqStep 1 c s).cust.runs, y.core = c ∧ y.job = x.job ∧ y.pc = if b then cALT w else cNEXT w := by
  have hb' : seqCond w (x.atWord w (s.core c).cycle) ((seqState s c w).core (x.atWord w (s.core c).cycle).core) = some b := by
    rw [core_atWord h]
    exact hb
  exact seqStep_word h hn (seqAct_branch hn (if_neg h3) hb') ⟨rfl, rfl, rfl, rfl⟩ rfl

theorem seqStep_countdown (h : AtSeq s c x w) (hn : cSEQ w = 1) (h3 : cCOND w = 3)
    (hlt : (if cSCEN w then cSCVALUE w else x.counter) < 4096) :
    ∃ y ∈ (seqStep 1 c s).cust.runs, y.core = c ∧ y.job = x.job ∧
      y.counter = ((if cSCEN w then cSCVALUE w else x.counter) + 4095) % 4096 ∧
      y.pc = if (if cSCEN w then cSCVALUE w else x.counter) = 1 then cNEXT w else cALT w := by
  have hctr : (x.atWord w (s.core c).cycle).counter = if cSCEN w then cSCVALUE w else x.counter := rfl
  generalize (if cSCEN w then cSCVALUE w else x.counter) = n at hctr hlt ⊢
  have hzero : ((n + 4095) % 4096 != 0) = !decide (n = 1) := by
    by_cases h1 : n = 1
    · simp [h1]
    · have : (n + 4095) % 4096 ≠ 0 := by omega
      simp [h1, this]
  refine seqStep_word h hn (seqAct_branch hn (if_pos h3) (b := !decide (n = 1)) ?_) ⟨rfl, rfl, rfl, rfl⟩ ⟨?_, ?_⟩
  · simp only [seqCond, h3, hctr, hzero]
  · simp only [hctr]
  · by_cases h1 : n = 1 <;> simp [h1]

theorem seqStep_call (h : AtSeq s c x w) (hn : cSEQ w = 2) (hlt : x.stack.length < 4) : ∃ y ∈ (seqStep 2 c s).cust.runs,
    y.core = c ∧ y.job = x.job ∧ y.pc = cALT w ∧ y.stack = cNEXT w :: x.stack := by
  have hstack : (x.atWord w (s.core c).cycle).stack = x.stack := by rw [atWord_same]
  refine seqStep_word h hn ((seqAct_call hn).trans (if_neg ?_)) ⟨rfl, rfl, rfl, rfl⟩ ⟨rfl, ?_⟩
  · rw [hstack]; omega
  · simp only [hstack]

theorem seqStep_call_full (h : AtSeq s c x w) (hn : cSEQ w = 2) (hge : 4 ≤ x.stack.length) :
    RunOver s c x.job (stRes .abortedFault) (seqStep 2 c s) := by
  have hstack : (x.atWord w (s.core c).cycle).stack = x.stack := by rw [atWord_same]
  exact seqStep_over h hn ((seqAct_call hn).trans (if_pos (by rw [hstack]; exact hge))) (abortRun_over (core_atWord h _) _ rfl)

theorem seqStep_ret (h : AtSeq s c x w) (hn : cSEQ w = 3) {a : Nat} {rest : List Nat} (hs : x.stack = a :: rest) :
    ∃ y ∈ (seqStep 3 c s).cust.runs, y.core = c ∧ y.job = x.job ∧ y.pc = a ∧ y.stack = rest :=
  seqStep_word h hn (seqAct_ret hn ((congrArg CustRun.stack (atWord_same w _ x)).trans hs)) ⟨rfl, rfl, rfl, rfl⟩ ⟨rfl, rfl⟩

theorem localByte_writeBytes_zeros (k : Core) (a : Nat) {n i : Nat} (hi : i < n) :
    (k.writeBytes a (List.replicate n 0)).localByte (a + i) = 0 := by
  have hall := List.map_eq_iff.1 (localBytes_writeBytes (List.replicate n 0) k a) i
  simpa [List.getElem?_range, hi] using hall.symm

/-- The core at the entry of a RUN (R404). -/
theorem startCore_entry (w : Nat) (k : Core) : (startCore w k).pc = 0x01000000 + 16 * cKENTRY w ∧ (startCore w k).rg 2 = 0x1FFF8 ∧
    (startCore w k).rc kEVEC = 0 ∧ (startCore w k).rc kSLIM = 0x1F000 ∧ (startCore w k).cust = true ∧
    ∀ i, i < 8 → (startCore w k).localByte (0x1FFF8 + i) = 0 := by
  let k1 : Core := ((k.wc kEVEC 0).wc kSLIM 0x1F000).wg 2 0x1FFF8
  have hk : startCore w k = { k1.writeBytes 0x1FFF8 (le 8 0) with pc := 0x01000000 + 16 * cKENTRY w, cust := true, waiting := false } := rfl
  have hbytes (i : Nat) (hi : i < 8) : (k1.writeBytes 0x1FFF8 (le 8 0)).localByte (0x1FFF8 + i) = 0 := by
    rw [(by decide : le 8 0 = List.replicate 8 0)]
    exact localByte_writeBytes_zeros k1 _ hi
  have hg : (startCore w k).g = k1.g := by rw [hk, writeBytes_same]
  have hctl : (startCore w k).ctl = ((k.wc kEVEC 0).wc kSLIM 0x1F000).ctl := by
    rw [hk, writeBytes_same]
    exact (congrArg Core.ctl (wg_same ((k.wc kEVEC 0).wc kSLIM 0x1F000) 2 0x1FFF8) :)
  have hrc (n : Nat) : (startCore w k).rc n = ((k.wc kEVEC 0).wc kSLIM 0x1F000).rc n := by simp only [Core.rc, hctl]
  refine ⟨rfl, ?_, ?_, ?_, rfl, fun i hi => ?_⟩
  · have : (startCore w k).rg 2 = k1.rg 2 := by simp only [Core.rg, hg]
    exact this.trans (rg_wg_self _ (by decide) _)
  · rw [hrc, rc_wc_ne _ (by decide), rc_wc_self]
  · rw [hrc, rc_wc_self]
  · rw [hk]
    generalize k1.writeBytes 0x1FFF8 (le 8 0) = m at hbytes ⊢
    exact (localByte_congr rfl rfl _).trans (hbytes i hi)

theorem seqStep_run (h : AtSeq s c x w) (hn : cSEQ w = 4) :
    (∃ y ∈ (seqStep 4 c s).cust.runs, y.core = c ∧ y.job = x.job ∧ y.inRun = true) ∧
      (seqStep 4 c s).core c = startCore w ((seqState s c w).core c) := by
  have hact := seqAct_run (y := x.atWord w (s.core c).cycle) (u := seqState s c w) hn
  rw [core_atWord h] at hact
  obtain ⟨hc, hs, hr, hj⟩ := atWord_keeps w (s.core c).cycle x
  obtain ⟨hstep, hrun⟩ := seqStep_goes h hn (u := (seqState s c w).setCore c (startCore w ((seqState s c w).core c))) h.run hact
    ⟨(run_core h.run).1.symm, hs, hr, hj⟩
  refine ⟨exists_run (p := fun y => y.job = x.job ∧ y.inRun = true) hrun ⟨hj, rfl⟩, ?_⟩
  rw [hstep]
  exact core_setCore_self _ _

theorem outputs_atWord (w n : Nat) (x : CustRun) : (x.atWord w n).outputs = x.outputs := by rw [atWord_same]; rfl

theorem seqStep_end (h : AtSeq s c x w) (hn : cSEQ w = 5) {j : Nat} {d : Cmd} (hj : x.job = some j) (hd : s.cmd? j = some d) :
    RunOver s c x.job (outsTo d.job x.outputs) (seqStep 5 c s) ∧
      ((seqStep 5 c s).region (c.region.getD 0)).cust.runs = inc32 (s.region (c.region.getD 0)).cust.runs := by
  have hjob : (x.atWord w (s.core c).cycle).job.bind (seqState s c w).cmd? = some d := by
    rw [(atWord_keeps w (s.core c).cycle x).2.2.2, hj]
    exact hd
  let u : State := ((seqState s c w).modCust (c.region.getD 0) fun q => { q with runs := inc32 q.runs }).modProg d.job.id fun p =>
    { p with committed := (x.atWord w (s.core c).cycle).committed }
  have hact : seqAct w (x.atWord w (s.core c).cycle) (seqState s c w) = endRun (x.atWord w (s.core c).cycle) (outsTo d.job x.outputs) u := by
    rw [seqAct_end hn hjob, core_atWord h, outputs_atWord]
  have kept (i : Nat) (e : Cmd) (he : s.cmd? i = some e) : Keeps e u := by
    by_cases hid : e.job.id = d.job.id
    · exact Keeps.modProg _ hid.symm (keeps_of_cmds rfl i e he)
    · refine ⟨e, ?_, rfl⟩
      rw [cmd_modProg_other _ _ hid, cmd_id he]
      exact he
  have hover : RunOver s c (x.atWord w (s.core c).cycle).job (outsTo d.job x.outputs)
      (seqAct w (x.atWord w (s.core c).cycle) (seqState s c w)) := by
    rw [hact]
    exact endRun_over (core_atWord h (s.core c).cycle) (outsTo d.job x.outputs) kept
  refine ⟨seqStep_over h hn rfl hover, ?_⟩
  rw [seqStep_ends h hn rfl hover.1, hact]
  refine (congrArg CustReg.runs (cust_endRun (x := x.atWord w (s.core c).cycle) _ _ _)).trans ?_
  exact congrArg (fun g => g.cust.runs) (State.region_modRegion_self (seqState s c w) (c.region.getD 0) fun g =>
    { g with cust := { g.cust with runs := inc32 g.cust.runs } })

theorem seqStep_fail (h : AtSeq s c x w) (hn : cSEQ w = 6) : RunOver s c x.job (stRes (failStatus w)) (seqStep 6 c s) :=
  seqStep_over h hn (seqAct_fail hn) (endRun_over (core_atWord h _) _ (keeps_of_cmds rfl))

theorem seqStep_always (h : AtSeq s c x w) (hn : cSEQ w = 1) (h0 : cCOND w = 0) :
    ∃ y ∈ (seqStep 1 c s).cust.runs, y.core = c ∧ y.job = x.job ∧ y.pc = cALT w :=
  seqStep_branch h hn (b := true) (by simp [h0]) (by simp [seqCond, h0])

theorem seqStep_ifZero (h : AtSeq s c x w) (hn : cSEQ w = 1) (h1 : cCOND w = 1) :
    ∃ y ∈ (seqStep 1 c s).cust.runs, y.core = c ∧ y.job = x.job ∧ y.pc = if x.exitVal = 0 then cALT w else cNEXT w := by
  have hexit : (x.atWord w (s.core c).cycle).exitVal = x.exitVal := by rw [atWord_same]
  obtain ⟨y, hy, hc, hj, hpc⟩ := seqStep_branch h hn (b := x.exitVal == 0) (by simp [h1]) (by simp [seqCond, h1, hexit])
  exact ⟨y, hy, hc, hj, by simpa using hpc⟩

/-! ### Watchdog, yield and reload (R396, R398, R399, R406) -/

theorem watchdog_trips (h : s.run? c = some x) (hl : s.runLive x = true) {m : Bool} (hd : (if m then s.maxDue x else s.watchDue x) = true) :
    exec (.safePointWatchdogTrip c m) s = .next (abortRun x (!m) s) := by
  refine congrArg Host.Outcome.next ?_
  simp only [h, hl, hd, Bool.not_true, Bool.or_self, Bool.false_eq_true, if_false]

theorem watchdog_waits (h : s.run? c = some x) {m : Bool} (hd : (if m then s.maxDue x else s.watchDue x) = false) :
    exec (.safePointWatchdogTrip c m) s = .next s := by
  refine congrArg Host.Outcome.next ?_
  simp only [h, hd, Bool.not_false, Bool.or_true, if_true]

theorem errs_abortRun (hc : x.core = c) (b : Bool) (u : State) :
    ((abortRun x b u).region (c.region.getD 0)).cust.errs = inc32 (u.region (c.region.getD 0)).cust.errs := by
  subst hc
  refine (congrArg CustReg.errs (cust_endRun _ _ _)).trans ?_
  exact congrArg (fun g => g.cust.errs) (State.region_modRegion_self u (x.core.region.getD 0) fun g =>
    { g with cust := { g.cust with errs := inc32 g.cust.errs, wdog := if b then inc32 g.cust.wdog else g.cust.wdog } })

theorem custYield_due (h : s.run? c = some x) (hl : s.runLive x = true) {j : Nat} {d : Cmd} (hj : x.job = some j) (hd : s.cmd? j = some d)
    (hy : yieldDue s d (s.region d.rgn).cust.quantumUs = true) : exec (.custYield c) s = .next
      (if !x.rt.poll || x.atSafe (s.core c) then takeYield x s else s.modRun c fun y => { y with asked := true }) := by
  refine congrArg Host.Outcome.next ?_
  have hjob : x.job.bind s.cmd? = some d := by rw [hj]; exact hd
  simp only [h, hjob, hl, hy, Bool.not_true, Bool.or_self, Bool.false_eq_true, if_false]

theorem takeYield_restart {j : Nat} (hj : x.job = some j) (hp : x.rt.poll = false) (hc : x.committed = false) : takeYield x s =
    wipeCore x.core (dropRun j ((freeSlots j s).modProg j fun p => { p with phase := .acked, unit := none, slots := [], since := s.tick })) := by
  simp only [takeYield, hj, hp, hc, Bool.false_eq_true, if_false]

theorem localByte_wipeCore (c : CoreId) (u : State) (a : Nat) : ((wipeCore c u).core c).localByte a = 0 := by
  unfold wipeCore
  rw [core_setCore_self]
  rfl

/-- An abandoned run of a RESTART routine: its job waits for a unit again, and its core is clear (R396, R397). -/
theorem takeYield_abandons {j : Nat} {d : Cmd} (hx : x.core = c) (hj : x.job = some j) (hd : s.cmd? j = some d) (hp : x.rt.poll = false)
    (hc : x.committed = false) : ∃ e, (takeYield x s).cmd? j = some e ∧ e.prog.phase = .acked ∧ e.prog.unit = none ∧
      ∀ a, ((takeYield x s).core c).localByte a = 0 := by
  subst hx
  rw [takeYield_restart hj hp hc]
  have hkept : (freeSlots j s).cmd? j = some d := (cmd_congr (freeSlots_cmds s j) j).trans hd
  have hacked := cmd_modProg (fun p => { p with phase := .acked, unit := none, slots := [], since := s.tick }) hkept
  exact ⟨_, hacked, rfl, rfl, localByte_wipeCore x.core _⟩

theorem custPartitionReload_reloaded {r p : Nat} (he : s.enabled r = true) (hp : p < 4) :
    exec (.custPartitionReload r p) s = .next (s.modPan r p fun x => { x with cs := { x.cs with reloading := false } }) := by
  refine congrArg Host.Outcome.next (if_pos ?_)
  simp [he, hp]

end Routines

/-- Settles O40: each SEQ word at work either replaces the routine or ends it, and RESTART routines pass no safe point between. -/
theorem customerRoutines : Obligations.CustomerRoutines := by
  intro s c x w hrun hlive hgoing At Over ctr
  have hcore := (run_core hrun).1
  refine ⟨fun hseq hword htype hstill hrestart => ?_, fun m => ?_, fun j d hj hd hyield =>
    ⟨fun hpoll hsafe => ?_, fun hpoll hcom => ?_, fun hpoll hcom => ?_⟩, fun r p hen hp => ?_⟩
  · have h : AtSeq s c x w := ⟨hrun, hlive, hgoing, hseq, hword, htype, hstill, hrestart⟩
    refine ⟨fun hn => ⟨_, rfl, seqStep_next h hn⟩,
      fun hn => ⟨fun h0 => ⟨_, rfl, seqStep_always h hn h0⟩, fun h1 => ⟨_, rfl, seqStep_ifZero h hn h1⟩,
        fun h3 hlt => ⟨_, rfl, seqStep_countdown h hn h3 hlt⟩⟩,
      fun hn => ⟨fun hlt => ⟨_, rfl, seqStep_call h hn hlt⟩, fun hge => ⟨_, rfl, seqStep_call_full h hn hge⟩⟩,
      fun a rest hn hstack => ⟨_, rfl, seqStep_ret h hn hstack⟩, fun hn => ⟨_, rfl, (seqStep_run h hn).1, ?_⟩,
      fun j d hn hj hd => ⟨_, rfl, seqStep_end h hn hj hd⟩, fun hn => ⟨_, rfl, seqStep_fail h hn⟩⟩
    rw [(seqStep_run h hn).2]
    exact startCore_entry w _
  · exact ⟨fun hdue => ⟨_, watchdog_trips hrun hlive hdue, abortRun_over hcore _ rfl, errs_abortRun hcore _ s⟩,
      fun hdue => watchdog_waits hrun hdue⟩
  · refine ⟨_, custYield_due hrun hlive hj hd hyield, ?_⟩
    rw [if_neg (by simp [hpoll, hsafe])]
    exact exists_run (p := fun y => y.job = x.job ∧ y = { x with asked := true })
      (run_modRun hrun fun y hc hs => ⟨hc, hs⟩) ⟨rfl, rfl⟩
  · rw [custYield_due hrun hlive hj hd hyield, if_pos (by simp [hpoll])]
    simp only [takeYield, hj, hpoll, hcom, Bool.false_eq_true, if_false, if_true]
  · obtain ⟨e, he, hphase, hunit, hclear⟩ := takeYield_abandons hcore hj hd hpoll hcom
    refine ⟨takeYield x s, e, ?_, he, hphase, hunit, hclear⟩
    rw [custYield_due hrun hlive hj hd hyield, if_pos (by simp [hpoll])]
  · exact ⟨_, custPartitionReload_reloaded hen hp, modRegion_onlyRegion _, congrArg Pan.cs (State.pan_modPan_self s r p _)⟩

end Sys2Proof.Machine
end

section
/-! PROOFS. The CUST verbs (O41): the checks of CUST.LOAD, the places of packages, and the start of a routine. -/

namespace Sys2Proof.Machine
open Safety

section CustVerbs
variable {s : State} {j : Nat} {c : Cmd} {r : Res} {p : CustPkg}

/-- A verb that only judges leaves the packages as they are. -/
theorem runVerb_judges {op : Nat} {body : Cmd → State → State × Option Res} (hw : AtWork op j c s)
    (hb : body c (drawEnergy s).2 = ((drawEnergy s).2, some r)) :
    Ended j c r (runVerb op j body s) ∧ (runVerb op j body s).cust.pkgs = s.cust.pkgs := by
  refine ⟨ended_of_body hw hb (keeps_drawEnergy hw), ?_⟩
  obtain ⟨hc, hop, hat, hheld, hrep⟩ := hw
  rw [runVerb_of_body hc hop hat hheld hrep hb]
  simp

/-! ### CUST.LOAD (R401) -/

/-- The package of a CUST.LOAD is read: no argument, the family is on, and the operand parses. -/
structure PkgRead (c : Cmd) (s : State) (p : CustPkg) : Prop where
  param : c.job.param.toNat = 0
  args : c.job.args = []
  family : familyOn s 0x10 = true
  parsed : parsePkg (c.job.operand 0) = some p

/-- It is signed for this unit. -/
structure SignedHere (c : Cmd) (s : State) : Prop where
  unit : fld (c.job.operand 0) 8 8 = s.pkg.fuses.unit
  identity : slice (c.job.operand 0) 0x10 48 = stdN 48 "SHA3-384" [identityPub s]
  authority : authorityOk s "EXM-CUST-1" (fld (c.job.operand 0) 0x4A 1) ((c.job.operand 0).take (pkgBody (c.job.operand 0)))
    ((c.job.operand 0).drop (pkgBody (c.job.operand 0))) = true
  state : s.lcState = 3 ∨ s.lcState = 4

/-- The packages that stand beside one of this PKG_ID. -/
def otherPkgs (s : State) (p : CustPkg) : List CustPkg := (s.cust.pkgs.filter fun e => !(e.2.id == p.id)).map (·.2)

theorem custLoad_foreign (h : PkgRead c s p) (hu : fld (c.job.operand 0) 8 8 ≠ s.pkg.fuses.unit) : custLoad c s = (s, some (stRes .authFail)) := by
  unfold custLoad
  simp only [h.param, h.args, h.family, h.parsed, hu, ne_eq, not_true_eq_false, List.isEmpty_nil, or_self, true_or, if_true, if_false,
    not_false_eq_true]

theorem custLoad_signed (h : PkgRead c s p) (hs : SignedHere c s) : custLoad c s =
    if 8 ≤ (otherPkgs s p).length then (s, some (stRes .quota))
    else match firstRule (otherPkgs s p) p with
      | some (rule, w) => (s, some { status := .paramUnsupported, resp := le 2 w ++ le 1 rule ++ zeros 1 })
      | none => (s, some okRes) := by
  have hlc : ¬ (s.lcState ≠ 3 ∧ s.lcState ≠ 4) := by
    have := hs.state
    omega
  unfold custLoad
  simp only [h.param, h.args, h.family, h.parsed, hs.unit, hs.identity, hs.authority, hlc, ne_eq, not_true_eq_false, List.isEmpty_nil,
    or_self, if_false]
  rfl

/-! ### Places (R401, R402) -/

theorem held_modCust {f : CustReg → CustReg} {q r : Nat} (h : r ≠ q) (s : State) :
    ((s.modCust q f).region r).cust.held = (s.region r).cust.held := by
  unfold State.modCust
  rw [State.region_modRegion_ne s q r _ h]

theorem cust_modCust_self (f : CustReg → CustReg) (r : Nat) (s : State) : ((s.modCust r f).region r).cust = f (s.region r).cust := by
  unfold State.modCust
  rw [State.region_modRegion_self]

theorem inService_modCust (f : CustReg → CustReg) (q r : Nat) (s : State) : (s.modCust q f).inService r = s.inService r := by
  have hsvc : ((s.modCust q f).region r).svc = (s.region r).svc :=
    region_modRegion_keeps (p := Region.svc) (f := fun g => { g with cust := f g.cust }) (fun _ => rfl) q r s
  unfold State.inService
  rw [hsvc]
  rfl

/-- Region `r` holds the package of place `k` where it is in service. -/
def holdAt (k : Nat) (s : State) (r : Nat) : State :=
  s.modCust r fun q => { q with held := (q.held.filter fun x => x != k) ++ (if s.inService r then [k] else []) }

theorem inService_holdAt (k q r : Nat) (s : State) : (holdAt k s r).inService q = s.inService q := inService_modCust _ r q s

theorem held_holdAt (k : Nat) {q : Nat} (r : Nat) (hs : s.inService q = true) (h : q ≠ r → k ∈ (s.region q).cust.held) :
    k ∈ ((holdAt k s r).region q).cust.held := by
  unfold holdAt
  by_cases hq : q = r
  · subst hq
    rw [cust_modCust_self]
    simp [hs]
  · rw [held_modCust hq]
    exact h hq

/-- Every region in service holds the package of place `k`. -/
def holdPlace (k : Nat) (s : State) : State := regionNums.foldl (holdAt k) s

theorem held_holdPlace (k : Nat) {q : Nat} (hq : q ∈ regionNums) (hs : s.inService q = true) :
    k ∈ ((holdPlace k s).region q).cust.held := by
  have keeps (s : State) (x : Nat) (h : s.inService q = true) : (holdAt k s x).inService q = true := (inService_holdAt k q x s).trans h
  unfold holdPlace
  exact (foldl_reaches (Q := fun s => s.inService q = true ∧ k ∈ (s.region q).cust.held) keeps
    (fun s h => ⟨keeps s q h, held_holdAt k q h (absurd rfl)⟩) (fun s x h => ⟨keeps s x h.1, held_holdAt k x h.1 fun _ => h.2⟩) hq hs).2

theorem holdAt_same (k : Nat) (s : State) (r : Nat) : SameButRegions s (holdAt k s r) := by
  unfold holdAt
  exact modRegion_same s r _

theorem holdPlace_same (k : Nat) (s : State) : SameButRegions s (holdPlace k s) :=
  SameButRegions.foldl s (holdAt k) (holdAt_same k) regionNums

/-- A package that is placed is current in every region in service. -/
theorem placePkg_held (p : CustPkg) (s : State) : ∃ k, tfind (placePkg p s).cust.pkgs k = some p ∧
    ∀ q ∈ regionNums, s.inService q = true → k ∈ ((placePkg p s).region q).cust.held := by
  obtain ⟨k, hk⟩ : ∃ k, placePkg p s = holdPlace k { s with cust := { s.cust with pkgs := tins k p s.cust.pkgs } } := ⟨_, rfl⟩
  rw [hk]
  refine ⟨k, ?_, fun q hq hs => ?_⟩
  · rw [holdPlace_same]
    exact tfind_tins_self k p s.cust.pkgs
  · exact held_holdPlace k hq hs

/-- A place that is cleared is held nowhere. -/
theorem clearPlace_held {q : Nat} (hq : q ∈ regionNums) (k : Nat) (s : State) : k ∉ ((clearPlace k s).region q).cust.held := by
  unfold clearPlace
  extract_lets s1
  refine foldl_reaches (P := fun _ => True) (Q := fun s => k ∉ (s.region q).cust.held) (fun _ _ h => h) (fun s _ => ?_)
    (fun s x h => ?_) hq trivial
  · rw [cust_modCust_self]
    simp
  · by_cases hx : q = x
    · subst hx
      rw [cust_modCust_self]
      simp
    · rw [held_modCust hx]
      exact h

theorem pkgs_clearPlace (k : Nat) (s : State) : (clearPlace k s).cust.pkgs = tdel s.cust.pkgs k := by
  unfold clearPlace
  extract_lets s1
  rw [heldPackages_same fun _ _ q => { q with held := q.held.filter fun x => x != k }]

theorem region_commit (n q : Nat) (s : State) : (commit n s).region q = s.region q := region_congr (by rw [commit_same]) q

theorem custSettled_load (ho : c.job.opcode = 0x1002) (hp : parsePkg (c.job.operand 0) = some p) (s : State) :
    custSettled c okRes s = commit c.job.id (placePkg p s) := by
  have hok : ¬ okRes.status ≠ .ok := fun h => h rfl
  unfold custSettled
  simp only [if_neg hok, ho, hp, if_true]

theorem custSettled_unload (ho : c.job.opcode = 0x1003) {e : Nat × CustPkg}
    (he : s.cust.pkgs.find? (fun e => e.2.id == fld c.job.args 0 2) = some e) :
    custSettled c okRes s = commit c.job.id (clearPlace e.1 s) := by
  have hok : ¬ okRes.status ≠ .ok := fun h => h rfl
  unfold custSettled
  rw [if_neg hok, if_neg (by rw [ho]; decide), if_pos ho, he]

/-! ### CUST.UNLOAD and CUST.LIST (R402) -/

theorem custUnload_passes (hp : c.job.param.toNat = 0) (hl : c.job.args.length = 4) (hz : zero? c.job.args 2 2 = true)
    (hf : familyOn s 0x10 = true) : custUnload c s = match s.cust.pkgs.find? fun e => e.2.id == fld c.job.args 0 2 with
      | none => (s, some (stRes .paramUnsupported))
      | some _ => (s, some okRes) := by
  unfold custUnload
  dsimp only
  exact orBad_passes (by simp [Passes, firstBad, check, hp, hl, hz, hf]) _

theorem custList_passes (hp : c.job.param.toNat = 0) (ha : c.job.args = []) (hf : familyOn s 0x10 = true) :
    custList c s = (s, some { status := .ok, resp := (s.cust.pkgs.map fun e => e.2.record).flatten }) := by
  unfold custList
  rw [orBad_passes (by simp [Passes, firstBad, check, hp, ha, hf])]

/-! ### CUST.RUN (R403, R404) -/

/-- Every check of R403 passes for a CUST.RUN of routine `rt` of package `p` in `place`. -/
structure RunChecked (c : Cmd) (s : State) (place : Nat) (p : CustPkg) (rt : Routine) : Prop where
  param : c.job.param.toNat / 1024 = 0
  number : 768 ≤ bits c.job.param.toNat 9 0
  args : c.job.args.length ≤ 64
  handle : c.job.handle = nullHandle
  family : familyOn s 0x10 = true
  found : s.routine? (bits c.job.param.toNat 9 0) = some (place, p, rt)
  inst : bit p.instMask c.job.inst = true
  operands : custOperands rt c.job = true
  lengths : ∀ i, i < rt.nin → (c.job.operand i).length ≤ 262144
  quota : slotQuota s c = none

theorem custRun_starts {place : Nat} {rt : Routine} {k : UnitKind} {q u : Nat} (hnew : ∀ y ∈ s.cust.runs, y.job ≠ some c.job.id)
    (h : RunChecked c s place p rt) (hu : c.prog.unit = some (k, q, u)) :
    custRun c s = (startRun (some c.job.id) (coreOf c.rgn k u) p rt c.job.args c.job.operand s, none) := by
  have hany : (s.cust.runs.any fun x => x.job == some c.job.id) = false := by
    simpa using hnew
  have hall : ((List.range rt.nin).all fun k => decide ((c.job.operand k).length ≤ 262144)) = true := by
    simpa using h.lengths
  unfold custRun
  simp only [hany, Bool.false_eq_true, if_false]
  rw [orBad_passes (by simp [Passes, firstBad, check, h.param, h.number, h.args, h.handle, h.family, h.found])]
  simp only [h.found]
  rw [orBad_passes (by simp [Passes, firstBad, check, h.inst, h.operands, hall, h.quota])]
  simp only [hu]

theorem localByte_writeBytes_at (bs : List Byte) (k : Core) (hk : ∀ i, k.localByte i = 0) (i : Nat) :
    (k.writeBytes 0 bs).localByte i = bs.getD i 0 := by
  by_cases hi : i < bs.length
  · have hall := List.map_eq_iff.1 (localBytes_writeBytes bs k 0) i
    simp only [Nat.zero_add, List.getElem?_range hi, Option.map_some] at hall
    simp [List.getD_eq_getElem?_getD, hall]
  · rw [localByte_writeBytes_outside bs k (by omega), hk]
    simp [List.getD_eq_getElem?_getD, List.getElem?_eq_none (by omega : bs.length ≤ i)]

/-- The routine that has been started stands on its core, whose local memory holds the arguments. -/
theorem startRun_starts (job : Option Nat) (d : CoreId) (p : CustPkg) (rt : Routine) (args : List Byte) (ins : Nat → List Byte) (s : State) :
    ∃ y ∈ (startRun job d p rt args ins s).cust.runs, y.core = d ∧ y.job = job ∧ y.pc = rt.entry ∧ y.pkg = p ∧ y.inRun = false ∧
      y.committed = false ∧ y.counter = 0 ∧ y.stack = [] ∧
      ∀ i, ((startRun job d p rt args ins s).core d).localByte i = args.getD i 0 := by
  refine ⟨_, List.mem_append_right _ (List.mem_singleton_self _), rfl, rfl, rfl, rfl, rfl, rfl, rfl, rfl, fun i => ?_⟩
  have hcore : (startRun job d p rt args ins s).core d =
      ({ core0 d with cycle := (s.core d).cycle } : Core).writeBytes 0 args := core_setCore_self _ _
  rw [hcore]
  exact localByte_writeBytes_at args _ (fun _ => rfl) i

end CustVerbs

/-- Settles O41: the verbs judge and their DONE makes the change, but CUST.RUN, which starts its routine at once. -/
theorem customerVerbs : Obligations.CustomerVerbs := by
  intro s j c b m
  refine ⟨fun p hw hparam hargs hfam hpkg => ⟨fun hunit => ?_, fun hunit hid hauth hlc => ⟨fun hfull => ?_, fun hroom =>
    ⟨fun rule word hrule => ?_, fun hrule => ⟨?_, ?_⟩⟩⟩⟩, fun hw hparam hlen hzero hfam => ⟨fun hnone => ?_, fun e he => ⟨?_, ?_⟩⟩,
    fun hw hparam hargs hfam => ?_, ?_⟩
  · exact ⟨_, rfl, runVerb_judges hw (custLoad_foreign (s := (drawEnergy s).2) ⟨hparam, hargs, hfam, hpkg⟩ hunit)⟩
  · have hload := custLoad_signed (s := (drawEnergy s).2) (c := c) ⟨hparam, hargs, hfam, hpkg⟩ ⟨hunit, hid, hauth, hlc⟩
    exact ⟨_, rfl, (runVerb_judges hw (hload.trans (if_pos hfull))).1⟩
  · have hload := custLoad_signed (s := (drawEnergy s).2) (c := c) ⟨hparam, hargs, hfam, hpkg⟩ ⟨hunit, hid, hauth, hlc⟩
    rw [if_neg (show ¬ 8 ≤ (otherPkgs (drawEnergy s).2 p).length from Nat.not_le.2 hroom),
      show firstRule (otherPkgs (drawEnergy s).2 p) p = some (rule, word) from hrule] at hload
    exact ⟨_, rfl, runVerb_judges hw hload⟩
  · have hload := custLoad_signed (s := (drawEnergy s).2) (c := c) ⟨hparam, hargs, hfam, hpkg⟩ ⟨hunit, hid, hauth, hlc⟩
    rw [if_neg (show ¬ 8 ≤ (otherPkgs (drawEnergy s).2 p).length from Nat.not_le.2 hroom),
      show firstRule (otherPkgs (drawEnergy s).2 p) p = none from hrule] at hload
    exact ⟨_, rfl, runVerb_judges hw hload⟩
  · intro u
    have hu : u = commit c.job.id (placePkg p s) := custSettled_load hw.2.1 hpkg s
    rw [hu]
    obtain ⟨k, hk, hheld⟩ := placePkg_held p s
    refine ⟨k, (congrArg (fun t : Cust => tfind t.pkgs k) (commit_cust _ _)).trans hk, fun r hr hs => ?_⟩
    rw [region_commit]
    exact hheld r hr hs
  · have hnone' : (drawEnergy s).2.cust.pkgs.find? (fun e => e.2.id == fld c.job.args 0 2) = none := by
      simpa [List.find?_eq_none] using hnone
    have hun := custUnload_passes (s := (drawEnergy s).2) hparam hlen hzero hfam
    rw [hnone'] at hun
    exact ⟨_, rfl, (runVerb_judges hw hun).1⟩
  · have hun := custUnload_passes (s := (drawEnergy s).2) hparam hlen hzero hfam
    rw [show (drawEnergy s).2.cust.pkgs.find? (fun e => e.2.id == fld c.job.args 0 2) = some e from he] at hun
    exact ⟨_, rfl, runVerb_judges hw hun⟩
  · intro u
    have hu : u = commit c.job.id (clearPlace e.1 s) := custSettled_unload hw.2.1 he
    rw [hu]
    refine ⟨(congrArg Cust.pkgs (commit_cust _ _)).trans (pkgs_clearPlace e.1 s), fun r hr => ?_⟩
    rw [region_commit]
    exact clearPlace_held hr e.1 s
  · exact ⟨_, rfl, (runVerb_judges hw (custList_passes (s := (drawEnergy s).2) hparam hargs hfam)).1⟩
  · intro place p r k q u n hw hnew hparam hnum hlen hhandle hfam hfound hinst hoper hlens hquota hunit
    have hid := cmd_id hw.1
    have hstart := custRun_starts (s := (drawEnergy s).2) (c := c) (by rw [hid]; exact hnew)
      ⟨hparam, hnum, hlen, hhandle, hfam, hfound, hinst, hoper, hlens, hquota⟩ hunit
    obtain ⟨hc, hop, hat, hheld, hrep⟩ := hw
    obtain ⟨y, hy, hstands⟩ := startRun_starts (some c.job.id) (coreOf c.rgn k u) p r c.job.args c.job.operand (drawEnergy s).2
    rw [hid] at hy hstands hstart
    exact ⟨_, y, congrArg Host.Outcome.next (runVerb_of_wait hc hop hat hheld hrep hstart), hy, hstands⟩

end Sys2Proof.Machine
end

section
/-! PROOFS. Pans under the power ceiling (O11): a pan that has woken rests, one that is held is admitted, and the draw is sampled. -/

namespace Sys2Proof.Machine
open Safety

section Pans
variable {s : State} {r p : Nat}

theorem pan_modPan_eq (f : Pan → Pan) (q o r p : Nat) (s : State) :
    (s.modPan q o f).pan r p = if r = q ∧ p = o then f (s.pan r p) else s.pan r p := by
  by_cases hr : r = q
  · subst hr
    by_cases hp : p = o
    · subst hp
      rw [State.pan_modPan_self, if_pos ⟨rfl, rfl⟩]
    · rw [State.pan_modPan_ne s r o p f hp, if_neg fun h => hp h.2]
  · rw [if_neg fun h => hr h.1]
    unfold State.pan State.modPan
    rw [State.region_modRegion_ne s q r _ hr]

/-- A pan that is not ACTIVE is left as it is where pans come to rest. -/
theorem pan_restPans (h : (s.pan r p).svc.pwr ≠ .active) : (restPans s).pan r p = s.pan r p := by
  unfold restPans
  refine List.foldlRecOn (motive := fun t : State => t.pan r p = s.pan r p) regionNums _ rfl fun t ht q _ => ?_
  refine List.foldlRecOn (motive := fun t : State => t.pan r p = s.pan r p) panNums _ ht fun t ht o _ => ?_
  split
  next hact =>
    rw [pan_modPan_eq, if_neg ?_, ht]
    rintro ⟨rfl, rfl⟩
    rw [ht] at hact
    simp only [Bool.and_eq_true, beq_iff_eq] at hact
    exact h hact.1
  next => exact ht

/-- The state in which a pan that no work wakes has woken (R408). -/
theorem panWakeComplete_rests {w : Nat} (he : s.enabled r = true) (hp : p < 4) (hw : (s.pan r p).svc.waking = some w)
    (ht : w + (s.pan r p).svc.pwr.wakeNs ≤ s.tick) (hj : s.wakers r p = []) (hc : s.checksIn r p = []) :
    exec (.panWakeComplete r p) s = .next (restPans ((wakeSeed r p s).modPan r p fun x =>
      { x with svc := { pwr := .idle, since := s.tick, waking := none, held := false } })) := by
  have hpass : ¬ (!s.enabled r || decide (4 ≤ p) || decide (s.tick < w + (s.pan r p).svc.pwr.wakeNs)) = true := by
    simp [he, hp, ht]
  refine congrArg Host.Outcome.next ?_
  simp only [hw]
  rw [if_neg hpass]
  simp only [hj, hc, List.isEmpty_nil, Bool.not_true, Bool.or_self, Bool.false_eq_true, if_false, List.foldl_nil]

theorem panAdmit_admits (he : s.enabled r = true) (hp : p < 4) (hh : (s.pan r p).svc.held = true) (hw : (s.pan r p).svc.waking = none)
    (ha : s.admits r (!(s.checksIn r p).isEmpty) = true)
    (hfirst : ∀ q ∈ regionNums, ∀ o ∈ panNums, (s.pan q o).svc.held = true → s.admits q (!(s.checksIn q o).isEmpty) = true →
      s.admitKey r p ≤ s.admitKey q o) :
    exec (.panAdmit r p) s = .next (s.modPan r p fun y => { y with svc := { y.svc with waking := some s.tick, held := false } }) := by
  have hbest : (regionNums.any fun q => panNums.any fun o =>
      (s.pan q o).svc.held && decide (s.admitKey q o < s.admitKey r p) && s.admits q (!(s.checksIn q o).isEmpty)) = false := by
    refine List.any_eq_false.2 fun q hq => ?_
    rw [Bool.not_eq_true, List.any_eq_false]
    intro o ho hbetter
    simp only [Bool.and_eq_true, decide_eq_true_eq] at hbetter
    obtain ⟨⟨hheld, hlt⟩, hadmit⟩ := hbetter
    exact absurd (hfirst q hq o ho hheld hadmit) (Nat.not_le.2 hlt)
  refine congrArg Host.Outcome.next (if_pos ?_)
  rw [hbest]
  simp [he, hp, hh, hw, ha]

end Pans

/-- Settles O11: the pan that has woken is left in IDLE, and the first of those that are held starts to wake. -/
theorem pansWakeUnderTheCeiling : Obligations.PansWakeUnderTheCeiling := by
  intro s r p w mw he hp
  refine ⟨fun hw ht hj hc => ?_, fun hh hw ha hfirst => ?_, ?_⟩
  · refine ⟨_, panWakeComplete_rests he hp hw ht hj hc, ?_⟩
    have hpan := State.pan_modPan_self (wakeSeed r p s) r p fun x =>
      { x with svc := { pwr := .idle, since := s.tick, waking := none, held := false } }
    have hrest := pan_restPans (r := r) (p := p) (s := (wakeSeed r p s).modPan r p fun x =>
      { x with svc := { pwr := .idle, since := s.tick, waking := none, held := false } }) (by rw [hpan]; exact fun h => nomatch h)
    rw [hrest, hpan]
    exact ⟨rfl, rfl, rfl⟩
  · refine ⟨_, panAdmit_admits he hp hh hw ha hfirst, ?_⟩
    rw [State.pan_modPan_self]
    exact ⟨rfl, rfl⟩
  · exact ⟨_, rfl, rfl, rfl, rfl, rfl⟩

end Sys2Proof.Machine
end

section
/-! PROOFS. Regions leave service and return (O42): what a change of a region's state leaves, and each step of the way out and back. -/

namespace Sys2Proof.Machine
open Safety

/-! ### What setting a region's state leaves (R415, R447) -/

/-- Every field but the mode, the journal and the messages is the same. -/
def SameButMode (s t : State) : Prop := t = { s with pkg := { s.pkg with mode := t.pkg.mode }, jrn := t.jrn, btn := t.btn, out := t.out }

section Mode
variable {s : State} {r : Nat}

theorem SameButJournal.mode {s t : State} (h : SameButJournal s t) : SameButMode s t := by
  unfold SameButJournal at h
  unfold SameButMode
  rw [h]

theorem SameButMode.trans {s t u : State} (h : SameButMode s t) (k : SameButMode t u) : SameButMode s u := by
  unfold SameButMode at *
  rw [k, h]

theorem setMode_same (m : Mode) (s : State) : SameButMode s (setMode m s) := by
  unfold setMode
  split
  · rfl
  · have hset : SameButMode s (s.modPkg fun p => { p with mode := m }) := rfl
    exact hset.trans (SameButJournal.mode (journalEvent_same _ _ _ _ _ _))

theorem remode_same (s : State) : SameButMode s (remode s) := by
  unfold remode
  split
  · exact setMode_same _ s
  · rfl

/-- What a region becomes in state `x` (R221, R415). -/
def inState (x : RState) (tick : Nat) (g : Region) : Region :=
  { g with
    svc := { g.svc with state := x },
    pins := if g.svc.state = .inService ∧ x ≠ .inService then [] else g.pins,
    path := { g.path with since := tick } }

theorem setRegionState_same (r : Nat) (x : RState) (fence : Bool) (s : State) :
    ∃ t, t = s.modRegion r (fun g => { inState x s.tick g with
      pins := if (s.region r).svc.state = .inService ∧ x ≠ .inService then [] else g.pins }) ∧
      SameButMode t (setRegionState r x fence s) :=
  ⟨_, rfl, (SameButJournal.mode (journalEvent_same _ _ _ _ _ _)).trans (remode_same _)⟩

theorem region_setRegionState (r : Nat) (x : RState) (fence : Bool) (s : State) :
    (setRegionState r x fence s).region r = inState x s.tick (s.region r) := by
  obtain ⟨t, ht, hsame⟩ := setRegionState_same r x fence s
  have hregions : (setRegionState r x fence s).regions = t.regions := by rw [hsame]
  rw [region_congr hregions, ht]
  exact State.region_modRegion_self s r _

theorem region_setRegionState_ne {q : Nat} (h : q ≠ r) (x : RState) (fence : Bool) (s : State) :
    (setRegionState r x fence s).region q = s.region q := by
  obtain ⟨t, ht, hsame⟩ := setRegionState_same r x fence s
  have hregions : (setRegionState r x fence s).regions = t.regions := by rw [hsame]
  rw [region_congr hregions, ht]
  exact State.region_modRegion_ne s r q _ h

section
variable (r : Nat) (x : RState) (fence : Bool) (s : State)

@[simp] theorem setRegionState_cmds : (setRegionState r x fence s).cmds = s.cmds := by
  obtain ⟨t, ht, hsame⟩ := setRegionState_same r x fence s
  rw [hsame, ht]
  rfl

@[simp] theorem setRegionState_life : (setRegionState r x fence s).life = s.life := by
  obtain ⟨t, ht, hsame⟩ := setRegionState_same r x fence s
  rw [hsame, ht]
  rfl

@[simp] theorem setRegionState_faults : (setRegionState r x fence s).faults = s.faults := by
  obtain ⟨t, ht, hsame⟩ := setRegionState_same r x fence s
  rw [hsame, ht]
  rfl

end

end Mode

/-! ### What ending a request leaves of a shelf (R350) -/

/-- What pans, cells, and crystallizer do not bear on. -/
def CellsBlind {γ : Type} (p : Region → γ) : Prop := ∀ g pans latCells numCells lat,
  p { g with pans := pans, latCells := latCells, numCells := numCells, lat := lat } = p g

section Cells
variable {γ : Type} {p : Region → γ} (h : CellsBlind p)
include h

theorem CellsBlind.pan (q x r : Nat) (f : Pan → Pan) (s : State) : p ((s.modPan q x f).region r) = p (s.region r) :=
  region_modRegion_keeps (fun g => h g _ g.latCells g.numCells g.lat) q r s

theorem CellsBlind.cell (k : UnitKind) (n : Nat) (f : CellRec → CellRec) (q r : Nat) (s : State) :
    p ((s.modRegion q fun g => g.modCell k n f).region r) = p (s.region r) := by
  refine region_modRegion_keeps (fun g => ?_) q r s
  unfold Region.modCell
  split
  · exact h g g.pans _ g.numCells g.lat
  · exact h g g.pans g.latCells _ g.lat

theorem CellsBlind.freeSlots (j r : Nat) (s : State) : p ((freeSlots j s).region r) = p (s.region r) := by
  have wiped (q : Nat) (s : State) (u : UnitKind × Nat) : p ((wipeLocal q u s).region r) = p (s.region r) := by
    unfold wipeLocal
    split
    · rfl
    · rfl
  unfold Machine.freeSlots
  split
  · rfl
  · dsimp only
    rw [foldl_keeps (fun s => p (s.region r)) _ fun s q => foldl_keeps (fun s => p (s.region r)) _ (wiped q) _ s]
    exact foldl_keeps (fun s => p (s.region r)) _ (fun s x => h.pan _ _ r _ s) _ s

theorem CellsBlind.takeWarmKind (k : UnitKind) (i want q r : Nat) (s : State) :
    p ((takeWarmKind q k i want s).region r) = p (s.region r) :=
  let g := fun s : State => p (s.region r)
  foldl_keeps g _ (fun s n => ite_keeps g (h.cell k n _ q r s) (ite_keeps g (h.cell k n _ q r s) rfl)) _ s

theorem CellsBlind.takeWarm (q r : Nat) (s : State) : p ((takeWarm q s).region r) = p (s.region r) :=
  let g := fun s : State => p (s.region r)
  ite_keeps g (foldl_keeps g _ (fun _ _ => ite_keeps g ((h.takeWarmKind _ _ _ _ _ _).trans (h.takeWarmKind _ _ _ _ _ _)) rfl) _ s) rfl

end Cells

theorem shelf_cellsBlind : CellsBlind Region.shelf := fun _ _ _ _ _ => rfl

/-- What holds of an entry of a table holds of what a change of every entry makes of it. -/
theorem tget_map_imp {α : Type} (P : α → Prop) {f : Nat × α → Nat × α} (hf : ∀ e, (f e).1 = e.1 ∧ (P e.2 → P (f e).2))
    (d : Nat → α) (l : Tbl α) (k : Nat) (h : P (tget d l k)) : P (tget d (l.map f) k) := by
  induction l with
  | nil => exact h
  | cons e l ih =>
    obtain ⟨key, value⟩ := hf e
    rw [List.map_cons, tget, key]
    rw [tget] at h
    split
    next hk => exact value (by rwa [if_pos hk] at h)
    next hk => exact ih (by rwa [if_neg hk] at h)

section Shelf
variable {s : State} {r : Nat}

/-- An empty shelf stays empty where work leaves its units. -/
theorem shelf_settleUnits_nil (hs : (s.region r).shelf = []) : ((settleUnits s).region r).shelf = [] := by
  let g := fun s : State => (s.region r).shelf
  have kept (s : State) (hs : g s = []) : g (settleShelf s) = [] := by
    refine tget_map_imp (fun g => g.shelf = []) ?_ region0 s.regions r hs
    exact fun e => ⟨rfl, fun he => congrArg (List.filter _) he⟩
  have cryst (s : State) : g (settleCryst s) = g s :=
    foldl_keeps g _ (fun s q => region_modRegion_keeps (fun x => shelf_cellsBlind x x.pans x.latCells x.numCells _) q r s) _ s
  have pans (s : State) : g (restPans s) = g s :=
    foldl_keeps g _ (fun s q => foldl_keeps g _ (fun s n => ite_keeps g (shelf_cellsBlind.pan q n r _ s) rfl) _ s) _ s
  refine kept _ ((cryst _).trans ((pans _).trans ((foldl_keeps g _ (fun s q => shelf_cellsBlind.takeWarm q r s) _ s).trans hs)))

theorem shelf_finish_nil (j : Nat) (x : Res) (hs : (s.region r).shelf = []) : ((finish j x s).region r).shelf = [] :=
  shelf_settleUnits_nil ((shelf_cellsBlind.freeSlots j r s).trans hs)

end Shelf

/-! ### Requests that wait for a region (R420) -/

section Waiting
variable {s : State} {r : Nat}

theorem svc_unitsBlind : UnitsBlind Region.svc := fun _ _ _ _ _ _ _ => rfl
theorem path_unitsBlind : UnitsBlind Region.path := fun _ _ _ _ _ _ _ => rfl
theorem keks_unitsBlind : UnitsBlind Region.keks := fun _ _ _ _ _ _ _ => rfl

theorem UnitsBlind.endWaiting {γ : Type} {p : Region → γ} (h : UnitsBlind p) (op q r : Nat) (x : Res) (s : State) :
    p ((endWaiting op q x s).region r) = p (s.region r) :=
  foldl_keeps (fun s => p (s.region r)) _ (fun s j => h.finish j x r s) _ s

theorem shelf_endWaiting_nil (op q : Nat) (x : Res) (hs : (s.region r).shelf = []) : ((endWaiting op q x s).region r).shelf = [] := by
  unfold endWaiting
  exact List.foldlRecOn (motive := fun t : State => (t.region r).shelf = []) _ _ hs fun t ht j _ => shelf_finish_nil j x ht

/-- Nobody waits for the region. -/
theorem endWaiting_idle {op : Nat} (h : waitingFor s op 0 r = []) (x : Res) : endWaiting op r x s = s := by
  unfold endWaiting
  rw [h]
  rfl

theorem waitingFor_congr {t : State} (h : t.cmds = s.cmds) (op o : Nat) : waitingFor t op o r = waitingFor s op o r := by
  unfold waitingFor jobsOn
  rw [h]

theorem openIfDue_none (h : s.life.opening = none) : openIfDue s = s := by
  unfold openIfDue
  rw [h]

theorem endWaiting_life (op q : Nat) (x : Res) (s : State) : (endWaiting op q x s).life = s.life :=
  foldl_keeps State.life _ (fun _ _ => finish_life _ _ _) _ s

/-! ### Dike (R415 to R417) -/

theorem region_dike (r : Nat) (s : State) : (dike r s).region r =
    { wipeRegion (s.region r) with path := { (s.region r).path with wiped := false } } := by
  unfold dike
  rw [State.region_modRegion_self]
  rfl

/-- A region that has been diked as it drained: its secret stores are empty, and its SRAM is still to be wiped. -/
theorem dikeDrained_region (h : s.life.opening = none) : ((dikeDrained r s).region r).svc.state = .diked ∧
    ((dikeDrained r s).region r).shelf = [] ∧ ((dikeDrained r s).region r).rng.reservoir = 0 ∧ ((dikeDrained r s).region r).keks = [] ∧
    ((dikeDrained r s).region r).path.wiped = false := by
  let u := uncheck r (unsend r (setRegionState r .diked false (dike r s)))
  have hlife : (endWaiting 0x0B01 r okRes u).life.opening = none := by
    rw [endWaiting_life]
    exact (congrArg Life.opening (setRegionState_life r .diked false (dike r s))).trans h
  have hd : dikeDrained r s = endWaiting 0x0B01 r okRes u := openIfDue_none hlife
  have hu : u.region r = inState .diked (dike r s).tick ((dike r s).region r) := region_setRegionState r .diked false (dike r s)
  rw [region_dike] at hu
  rw [hd, svc_unitsBlind.endWaiting, rng_unitsBlind.endWaiting, keks_unitsBlind.endWaiting, path_unitsBlind.endWaiting, hu]
  exact ⟨rfl, shelf_endWaiting_nil _ _ _ (by rw [hu]; rfl), rfl, rfl, rfl⟩

theorem any_ackedBy (h : ∀ d ∈ s.cmds, Cmd.ackedBy r d = false) : s.cmds.any (Cmd.ackedBy r) = false := by
  simpa using h

theorem regionDrained_diked (he : s.enabled r = true) (hs : (s.region r).svc.state = .draining)
    (hn : ∀ d ∈ s.cmds, Cmd.ackedBy r d = false) : exec (.regionDrained r) s = .next (dikeDrained r s) := by
  refine congrArg Host.Outcome.next (if_pos ?_)
  rw [any_ackedBy hn]
  simp [he, hs]

theorem drainTimeout_early (h : s.tick < (s.region r).path.drainBy) : exec (.drainTimeout r) s = .next s := by
  refine congrArg Host.Outcome.next (if_neg ?_)
  simp [Nat.not_le.2 h]

theorem drainTimeout_diked (he : s.enabled r = true) (hs : (s.region r).svc.state = .draining) (ht : (s.region r).path.drainBy ≤ s.tick)
    (hn : ∀ d ∈ s.cmds, Cmd.ackedBy r d = false) : exec (.drainTimeout r) s = .next (dikeDrained r s) := by
  have hjobs : (jobsOn s fun c => c.ackedBy r && !(c.job.has (·.stateful))) = [] := by
    unfold jobsOn
    rw [List.map_eq_nil_iff, List.filter_eq_nil_iff]
    intro d hd
    simp [hn d hd]
  refine congrArg Host.Outcome.next ((if_pos (by simp [he, hs, ht])).trans ?_)
  simp only [hjobs, List.foldl_nil, any_ackedBy hn, Bool.false_eq_true, if_false]

/-! ### SRAM (R417) -/

/-- What becomes of a pan that goes DORMANT (R408). -/
def Pan.asDormant (tick : Nat) (x : Pan) : Pan :=
  { wipePan x with svc := { (wipePan x).svc with pwr := .dormant, since := tick, waking := none, held := false } }

theorem pan_dormant (r o q p : Nat) (s : State) :
    (dormant r o s).pan q p = if q = r ∧ p = o then (s.pan q p).asDormant s.tick else s.pan q p :=
  pan_modPan_eq (fun x => x.asDormant s.tick) r o q p _

/-- Every pan of the region goes DORMANT and loses its seed. -/
theorem pan_wipeSram {p : Nat} (hp : p ∈ panNums) (r : Nat) (s : State) :
    ((wipeSram r s).pan r p).svc.pwr = .dormant ∧ ((wipeSram r s).pan r p).msg.seeded = false := by
  let Q (t : State) : Prop := (t.pan r p).svc.pwr = .dormant ∧ (t.pan r p).msg.seeded = false
  have hall : Q (panNums.foldl (fun s p => dormant r p s) s) := by
    refine foldl_reaches (P := fun _ => True) (fun _ _ h => h) (fun t _ => ?_) (fun t o h => ?_) hp trivial
    · show ((dormant r p t).pan r p).svc.pwr = _ ∧ ((dormant r p t).pan r p).msg.seeded = _
      rw [pan_dormant, if_pos ⟨rfl, rfl⟩]
      exact ⟨rfl, rfl⟩
    · show ((dormant r o t).pan r p).svc.pwr = _ ∧ ((dormant r o t).pan r p).msg.seeded = _
      rw [pan_dormant]
      split
      · exact ⟨rfl, rfl⟩
      · exact h
  have hpan : (wipeSram r s).pan r p = (panNums.foldl (fun s p => dormant r p s) s).pan r p := by
    unfold wipeSram State.pan
    rw [State.region_modRegion_self]
  rw [hpan]
  exact hall

theorem svc_dormant (q p r : Nat) (s : State) : ((dormant q p s).region r).svc = (s.region r).svc := by
  unfold dormant
  exact svc_unitsBlind.pan q p r _ _

theorem svc_wipeSram (r : Nat) (s : State) : ((wipeSram r s).region r).svc = (s.region r).svc := by
  unfold wipeSram
  generalize panNums = l
  rw [State.region_modRegion_self]
  exact foldl_keeps (fun s : State => (s.region r).svc) (fun s p => dormant r p s) (fun s p => svc_dormant r p r s) l s

theorem wiped_wipeSram (r : Nat) (s : State) : ((wipeSram r s).region r).path.wiped = true := by
  unfold wipeSram
  rw [State.region_modRegion_self]

theorem repair_byCommand (h : (s.region r).svc.outByFault = false) : repair r s = s := by
  unfold repair
  dsimp only
  rw [h, Bool.and_false, Bool.false_and, Bool.false_and, Bool.false_and]
  exact if_neg Bool.false_ne_true

theorem regionSramWiped_wiped (he : s.enabled r = true) (hs : (s.region r).svc.state = .diked) (hw : (s.region r).path.wiped = false)
    (hf : (s.region r).svc.outByFault = false) : exec (.regionSramWiped r) s = .next (wipeSram r s) := by
  refine congrArg Host.Outcome.next ((if_pos (by simp [he, hs, hw])).trans (repair_byCommand ?_))
  rw [svc_wipeSram]
  exact hf

/-! ### The way back (R415, R421, R422) -/

/-- A region that has failed, while nobody waits for it. -/
theorem failRegion_region (h : waitingFor s 0x0B02 0 r = []) : ((failRegion r s).region r).svc.state = .failed ∧
    ((failRegion r s).region r).svc.outByFault = true := by
  unfold failRegion
  extract_lets s1
  have hcmds : (setRegionState r .failed false s1).cmds = s.cmds := setRegionState_cmds r .failed false s1
  rw [endWaiting_idle ((waitingFor_congr hcmds 0x0B02 0).trans h), region_setRegionState]
  unfold s1
  rw [State.region_modRegion_self]
  exact ⟨rfl, rfl⟩

theorem regionTestingDone_passes (he : s.enabled r = true) (hs : (s.region r).svc.state = .testing) :
    ∃ t, exec (.regionTestingDone r true) s = .next t ∧ (t.region r).svc.state = .loading ∧ (t.region r).svc.mod0 = 2 ∧
      (t.region r).svc.mod1 = 2 ∧ ∀ u ∈ t.faults.quarantined, u.region ≠ some r := by
  let s1 := s.modFaults fun f => { f with quarantined := f.quarantined.filter fun u => !(u.region == some r) }
  let f (g : Region) : Region :=
    { g with svc := { g.svc with mod0 := 2, mod1 := 2, withheld := [] }, rng := { wipeRng g.rng with lasting := false } }
  have hexec : exec (.regionTestingDone r true) s = .next (setRegionState r .loading false (dropCores r (s1.modRegion r f))) :=
    congrArg Host.Outcome.next (if_pos (by simp [he, hs]))
  have hregion : (setRegionState r .loading false (dropCores r (s1.modRegion r f))).region r =
      inState .loading s.tick (f (s.region r)) := by
    rw [region_setRegionState]
    exact congrArg (inState .loading s.tick) (State.region_modRegion_self s1 r f)
  refine ⟨_, hexec, ?_, ?_, ?_, fun u hu => ?_⟩
  · rw [hregion]
    rfl
  · rw [hregion]
    rfl
  · rw [hregion]
    rfl
  · rw [setRegionState_faults] at hu
    simpa using (List.mem_filter.1 (show u ∈ s.faults.quarantined.filter fun u => !(u.region == some r) from hu)).2

theorem regionTestingDone_fails (he : s.enabled r = true) (hs : (s.region r).svc.state = .testing) :
    exec (.regionTestingDone r false) s = .next (failRegion r s) :=
  congrArg Host.Outcome.next (if_pos (by simp [he, hs]))

/-- The images that region `r` runs once it has loaded them (R422). -/
def imagesLoaded (s : State) (oks : Nat) (v : Svc) : Svc :=
  { v with
    fallback := (if bit oks 0 then [] else [2]) ++ (if bit oks 2 then [] else [3]),
    image2 := s.loads 2 (bit oks 0),
    image3 := s.loads 3 (bit oks 2) }

theorem regionLoadingDone_loaded {oks : Nat} (he : s.enabled r = true) (hs : (s.region r).svc.state = .loading)
    (hr : (s.region r).rng.state = .running) (h2 : bit oks 0 = true ∨ bit oks 1 = true) (h3 : bit oks 2 = true ∨ bit oks 3 = true) :
    exec (.regionLoadingDone r oks) s = .next (setRegionState r .rejoining false (s.modSvc r (imagesLoaded s oks))) := by
  have hverify : ((bit oks 0 || bit oks 1) && (bit oks 2 || bit oks 3)) = true := by
    simp [h2, h3]
  refine congrArg Host.Outcome.next ((if_pos (by simp [he, hs])).trans ((if_neg ?_).trans ((if_pos (by simp [hr])).trans rfl)))
  rw [hverify, hr]
  exact Bool.false_ne_true

theorem regionLoadingDone_fails {oks : Nat} (he : s.enabled r = true) (hs : (s.region r).svc.state = .loading) (h0 : bit oks 0 = false)
    (h1 : bit oks 1 = false) : exec (.regionLoadingDone r oks) s = .next (failRegion r s) :=
  congrArg Host.Outcome.next ((if_pos (by simp [he, hs])).trans (if_pos (by simp [h0, h1])))

/-! ### In service again (R409, R414, R415) -/

/-- What one step of a fold brings about, and no step undoes, holds after it. -/
theorem foldl_meets {σ α : Type} {f : σ → α → σ} {Q : σ → Prop} {a : α} (reaches : ∀ g, Q (f g a)) (stays : ∀ g x, Q g → Q (f g x))
    {l : List α} (ha : a ∈ l) (g : σ) : Q (l.foldl f g) := by
  induction l generalizing g with
  | nil => cases ha
  | cons x l ih =>
    rcases List.mem_cons.1 ha with rfl | hl
    · exact List.foldlRecOn (motive := Q) l f (reaches g) fun g hg y _ => stays g y hg
    · exact ih hl _

/-- A pan as its region enters service (R409). -/
def Pan.inIdle (tick : Nat) (x : Pan) : Pan := { x with svc := { x.svc with pwr := .idle, since := tick, waking := none, held := false } }

theorem pan_inIdle {p : Nat} (hp : p ∈ panNums) (tick : Nat) (g : Region) :
    (tget pan0 (panNums.foldl (fun g p => g.modPan p (Pan.inIdle tick)) g).pans p).svc.pwr = .idle := by
  refine foldl_meets (Q := fun g : Region => (tget pan0 g.pans p).svc.pwr = .idle) (fun g => ?_) (fun g o h => ?_) hp g
  · simp [Region.modPan, Pan.inIdle]
  · by_cases ho : p = o
    · subst ho
      simp [Region.modPan, Pan.inIdle]
    · simpa [Region.modPan, tget_tset_ne _ _ _ _ _ ho] using h

/-- The region as it enters service, but for its state. -/
def served (s : State) (g : Region) : Region :=
  let g1 := panNums.foldl (fun g p => g.modPan p (Pan.inIdle s.tick)) g
  { g1 with
    svc := { g1.svc with outByCmd := false, outByFault := false },
    kekHere := s.vault.rootReady,
    cust := { g1.cust with held := s.cust.pkgs.map (·.1) } }

theorem enterService_eq (r : Nat) (s : State) :
    enterService r s = takeWarm r (setRegionState r .inService false (s.modRegion r (served s))) := rfl

theorem cust_unitsBlind : UnitsBlind Region.cust := fun _ _ _ _ _ _ _ => rfl

theorem pans_modCell (k : UnitKind) (n : Nat) (f : CellRec → CellRec) (g : Region) : (g.modCell k n f).pans = g.pans := by
  unfold Region.modCell
  split
  · rfl
  · rfl

theorem pans_takeWarm (q r : Nat) (s : State) : ((takeWarm q s).region r).pans = (s.region r).pans := by
  let g := fun s : State => (s.region r).pans
  have cell (k : UnitKind) (n : Nat) (f : CellRec → CellRec) (s : State) : g (s.modRegion q fun x => x.modCell k n f) = g s :=
    region_modRegion_keeps (pans_modCell k n f) q r s
  have kind (k : UnitKind) (i want : Nat) (s : State) : g (takeWarmKind q k i want s) = g s :=
    foldl_keeps g _ (fun s n => ite_keeps g (cell k n _ s) (ite_keeps g (cell k n _ s) rfl)) _ s
  exact ite_keeps g (foldl_keeps g _ (fun _ _ => ite_keeps g ((kind _ _ _ _).trans (kind _ _ _ _)) rfl) _ s) rfl

theorem region_enteringService (r : Nat) (s : State) : (setRegionState r .inService false (s.modRegion r (served s))).region r =
    inState .inService s.tick (served s (s.region r)) := by
  rw [region_setRegionState, State.region_modRegion_self]
  rfl

theorem startDeferredCp_regions (s : State) : (startDeferredCp s).regions = s.regions := by
  unfold startDeferredCp
  split
  · rfl
  · rfl

theorem regionRejoinDone_enters (he : s.enabled r = true) (hs : (s.region r).svc.state = .rejoining) (h : waitingFor s 0x0B02 0 r = []) :
    exec (.regionRejoinDone r) s = .next (startDeferredCp (enterService r s)) := by
  have hcmds : (enterService r s).cmds = s.cmds := by
    rw [enterService_eq, takeWarm_same]
    exact setRegionState_cmds r .inService false _
  refine congrArg Host.Outcome.next ((if_pos (by simp [he, hs])).trans ?_)
  rw [endWaiting_idle ((waitingFor_congr hcmds 0x0B02 0).trans h)]

theorem rejoined_region (r : Nat) (s : State) : let t := startDeferredCp (enterService r s)
    (t.region r).svc.state = .inService ∧ (t.region r).svc.outByCmd = false ∧ (t.region r).svc.outByFault = false ∧
      (t.region r).cust.held = s.cust.pkgs.map (·.1) ∧ ∀ p ∈ panNums, (t.pan r p).svc.pwr = .idle := by
  intro t
  have ht : t.region r = (enterService r s).region r := region_congr (startDeferredCp_regions _) r
  have hsvc : (t.region r).svc = (inState .inService s.tick (served s (s.region r))).svc := by
    rw [ht, enterService_eq, svc_unitsBlind.takeWarm, region_enteringService]
  have hcust : (t.region r).cust = (served s (s.region r)).cust := by
    rw [ht, enterService_eq, cust_unitsBlind.takeWarm, region_enteringService]
    rfl
  have hpans : (t.region r).pans = (served s (s.region r)).pans := by
    rw [ht, enterService_eq, pans_takeWarm, region_enteringService]
    rfl
  refine ⟨by rw [hsvc]; rfl, by rw [hsvc]; rfl, by rw [hsvc]; rfl, by rw [hcust]; rfl, fun p hp => ?_⟩
  unfold State.pan
  rw [hpans]
  exact pan_inIdle hp s.tick (s.region r)

end Waiting

/-! ### The REGN verbs (R413, R420) -/

section Verbs
variable {s : State} {r j : Nat} {c : Cmd}

/-- A REGN verb that names region `r` at offset `o` of its body, whose parameter and family pass. -/
structure Regn (c : Cmd) (s : State) (o r n : Nat) : Prop where
  region : fld c.job.args o 1 = r
  on : s.enabled r = true
  param : paramZero c.job 0xFFFFFFFF = none
  body : bodyIs c.job n = none
  family : famEnabled s c.job = none

/-- A region that is to drain by `t` (R415, R416). -/
def takenOut (t : Nat) (g : Region) : Region :=
  { g with svc := { g.svc with outByCmd := true }, path := { g.path with drainBy := t } }

/-- A region that is to be tested, in full or not (R415). -/
def comingBack (full : Bool) (g : Region) : Region := { g with path := { g.path with full := full } }

theorem regnTakeOut_leaves (h : Regn c s 0 r 4) (hflag : fld c.job.args 1 1 < 2) (h1 : 1 ≤ fld c.job.args 2 2)
    (h2 : fld c.job.args 2 2 ≤ 60000) (hs : (s.region r).svc.state = .inService)
    (ho : (∃ q ∈ regionNums, q ≠ r ∧ s.inService q = true) ∨ fld c.job.args 1 1 = 1) :
    ∃ t, regnTakeOut c s = (setRegionState r .draining false t, none) ∧
      t.region r = takenOut (s.tick + fld c.job.args 2 2 * 1000000) (s.region r) := by
  have hother : (bit (fld c.job.args 1 1) 0 || regionNums.any fun q => q != r && s.inService q) = true := by
    rcases ho with ⟨q, hq, hne, hin⟩ | hone
    · refine Bool.or_eq_true_iff.2 (.inr (List.any_eq_true.2 ⟨q, hq, ?_⟩))
      simp [hne, hin]
    · rw [hone]
      rfl
  refine ⟨((commit c.job.id s).modRegion r (takenOut (s.tick + fld c.job.args 2 2 * 1000000))).modProg
    c.job.id fun p => { p with phase := .running }, ?_, ?_⟩
  · unfold regnTakeOut
    dsimp only
    rw [h.region, orBad_passes (by simp [check, h.param, h.body, h.family, h.on, hflag, h1, h2, hs, hother, firstBad, Passes])]
    rfl
  · refine (region_congr (s := (commit c.job.id s).modRegion r (takenOut _)) rfl r).trans ?_
    rw [State.region_modRegion_self, region_commit]

theorem regnTakeOut_refused (h : Regn c s 0 r 4) (hflag : fld c.job.args 1 1 < 2) (h1 : 1 ≤ fld c.job.args 2 2)
    (h2 : fld c.job.args 2 2 ≤ 60000) (hs : (s.region r).svc.state ≠ .inService) : regnTakeOut c s = (s, some (stRes .lifecycle)) := by
  unfold regnTakeOut
  dsimp only
  rw [h.region]
  refine orBad_refuses ?_ _
  simp [check, h.param, h.body, h.family, h.on, hflag, h1, h2, hs, firstBad]

theorem regnReturn_tests (h : Regn c s 0 r 2) (hflag : fld c.job.args 1 1 < 2) (hd : s.debugHeld r = false)
    (hs : (s.region r).svc.state = .diked ∨ (s.region r).svc.state = .failed) (hw : (s.region r).path.wiped = true) :
    ∃ t, regnReturn c s = (setRegionState r .testing false t, none) ∧ t.region r = comingBack (fld c.job.args 1 1 == 1) (s.region r) := by
  refine ⟨((commit c.job.id s).modProg c.job.id fun p => { p with phase := .running }).modRegion r (comingBack (fld c.job.args 1 1 == 1)),
    ?_, ?_⟩
  · unfold regnReturn
    dsimp only
    rw [h.region, orBad_passes (by simp [check, h.param, h.body, h.family, h.on, hflag, hd, hs, firstBad, Passes]), if_pos hw]
    rfl
  · rw [State.region_modRegion_self]
    exact congrArg (comingBack _) (region_commit c.job.id r s)

theorem regnReturn_refused (h : Regn c s 0 r 2) (hflag : fld c.job.args 1 1 < 2) (hd : (s.region r).svc.state ≠ .diked)
    (hf : (s.region r).svc.state ≠ .failed) : regnReturn c s = (s, some (stRes .lifecycle)) := by
  unfold regnReturn
  dsimp only
  rw [h.region]
  refine orBad_refuses ?_ _
  simp [check, h.param, h.body, h.family, h.on, hflag, hd, hf, firstBad]

/-- The reservations of a region once function `i` has reserved these cells (R413). -/
def reserved (l : List Warm) (i lattice number : Nat) : List Warm :=
  l.filter (fun x => !(x.inst == i)) ++ if lattice = 0 ∧ number = 0 then [] else [{ inst := i, lattice := lattice, number := number }]

theorem svc_cellsBlind : CellsBlind Region.svc := fun _ _ _ _ _ => rfl

theorem regnReserveWarm_reserves (h : Regn c s 1 r 4) (hl : fld c.job.args 2 1 ≤ 8) (hn : fld c.job.args 3 1 ≤ 2)
    (hlat : warmOthers (s.region r).svc.warm (fld c.job.args 0 1) (·.lattice) + fld c.job.args 2 1 ≤ 16)
    (hnum : warmOthers (s.region r).svc.warm (fld c.job.args 0 1) (·.number) + fld c.job.args 3 1 ≤ 4) :
    ∃ t, regnReserveWarm c s = (t, some okRes) ∧ t.cmds = (commit c.job.id s).cmds ∧ (t.region r).svc.warm =
      reserved (s.region r).svc.warm (fld c.job.args 0 1) (fld c.job.args 2 1) (fld c.job.args 3 1) := by
  unfold regnReserveWarm
  dsimp only
  rw [h.region, orBad_passes (by simp [check, h.param, h.body, h.family, h.on, hl, hn, hlat, hnum, firstBad, Passes])]
  refine ⟨_, rfl, ?_, ?_⟩
  · rw [settleUnits_cmds]
    split
    · rw [takeWarmKind_same, takeWarmKind_same]
      rfl
    · rw [takeWarm_same, takeWarmKind_same, takeWarmKind_same]
      rfl
  · have hkinds (k k' : UnitKind) (i n n' : Nat) (u : State) :
        ((takeWarmKind r k' i n' (takeWarmKind r k i n u)).region r).svc = (u.region r).svc :=
      (svc_cellsBlind.takeWarmKind k' i n' r r _).trans (svc_cellsBlind.takeWarmKind k i n r r u)
    have hset (l : List Warm) : (((commit c.job.id s).modSvc r fun v => { v with warm := l }).region r).svc.warm = l :=
      congrArg Svc.warm (congrArg Region.svc (State.region_modSvc_self (commit c.job.id s) r _))
    rw [svc_unitsBlind.settleUnits]
    split
    next hzero => rw [hkinds, hset, reserved, if_pos hzero]
    next hzero => rw [svc_unitsBlind.takeWarm, hkinds, hset, reserved, if_neg hzero]

theorem regnReserveWarm_refused (h : Regn c s 1 r 4) (hl : fld c.job.args 2 1 ≤ 8) (hn : fld c.job.args 3 1 ≤ 2)
    (hlat : 16 < warmOthers (s.region r).svc.warm (fld c.job.args 0 1) (·.lattice) + fld c.job.args 2 1) :
    regnReserveWarm c s = (s, some (stRes .quota)) := by
  unfold regnReserveWarm
  dsimp only
  rw [h.region]
  refine orBad_refuses ?_ _
  simp [check, h.param, h.body, h.family, h.on, hl, hn, Nat.not_le.2 hlat, firstBad]

end Verbs

/-- Settles O42: each step sets the region's state over what it has changed, and the requests that end with it leave both. -/
theorem regionsLeaveAndReturn : Obligations.RegionsLeaveAndReturn := by
  intro s j r c hon b Is idle
  refine ⟨fun hr hpass => ⟨fun hw hb hflag h1 h2 => ⟨fun hs ho => ?_, fun hs => ?_⟩, fun hw hb hflag hd => ⟨fun hs hwiped => ?_, fun h1 h2 => ?_⟩⟩,
    fun hr hpass hw => ?_, fun hs => ⟨fun hn hopen => ?_, fun ht => drainTimeout_early ht, fun ht hn hopen => ?_⟩,
    fun hs hwiped hf => ?_, fun hs hidle => ⟨regionTestingDone_passes hon hs, ?_⟩, fun oks hs hidle => ⟨fun hrng h2 h3 => ?_, fun h0 h1 => ?_⟩,
    fun hs hidle => ?_⟩
  · obtain ⟨hparam, hfam, -⟩ : paramZero c.job 0xFFFFFFFF = none ∧ famEnabled s c.job = none ∧ Passes [] := by
      simpa only [passes_cons] using hpass
    obtain ⟨t, ht, hregion⟩ := regnTakeOut_leaves (s := (drawEnergy s).2) ⟨hr, hon, hparam, hb, hfam⟩ hflag h1 h2 hs ho
    obtain ⟨hc, hop, hat, hheld, hrep⟩ := hw
    refine ⟨_, congrArg Host.Outcome.next (runVerb_of_wait hc hop hat hheld hrep ht), ?_⟩
    unfold Is
    rw [region_setRegionState, hregion]
    exact ⟨rfl, rfl, rfl⟩
  · obtain ⟨hparam, hfam, -⟩ : paramZero c.job 0xFFFFFFFF = none ∧ famEnabled s c.job = none ∧ Passes [] := by
      simpa only [passes_cons] using hpass
    exact ended_of hw (regnTakeOut_refused (s := (drawEnergy s).2) ⟨hr, hon, hparam, hb, hfam⟩ hflag h1 h2 hs) rfl
  · obtain ⟨hparam, hfam, -⟩ : paramZero c.job 0xFFFFFFFF = none ∧ famEnabled s c.job = none ∧ Passes [] := by
      simpa only [passes_cons] using hpass
    obtain ⟨t, ht, hregion⟩ := regnReturn_tests (s := (drawEnergy s).2) ⟨hr, hon, hparam, hb, hfam⟩ hflag hd hs hwiped
    obtain ⟨hc, hop, hat, hheld, hrep⟩ := hw
    refine ⟨_, congrArg Host.Outcome.next (runVerb_of_wait hc hop hat hheld hrep ht), ?_⟩
    unfold Is
    rw [region_setRegionState, hregion]
    exact ⟨rfl, rfl⟩
  · obtain ⟨hparam, hfam, -⟩ : paramZero c.job 0xFFFFFFFF = none ∧ famEnabled s c.job = none ∧ Passes [] := by
      simpa only [passes_cons] using hpass
    exact ended_of hw (regnReturn_refused (s := (drawEnergy s).2) ⟨hr, hon, hparam, hb, hfam⟩ hflag h1 h2) rfl
  · intro i l hl hn
    obtain ⟨hparam, hb, hfam, -⟩ : paramZero c.job 0xFFFFFFFF = none ∧ bodyIs c.job 4 = none ∧ famEnabled s c.job = none ∧ Passes [] := by
      simpa only [passes_cons] using hpass
    have h : Regn c (drawEnergy s).2 1 r 4 := ⟨hr, hon, hparam, hb, hfam⟩
    refine ⟨fun hlat hnum => ?_, fun hlat => ?_⟩
    · obtain ⟨t, ht, hcmds, hwarm⟩ := regnReserveWarm_reserves h hl hn hlat hnum
      refine ⟨_, rfl, ended_of_body hw ht ((keeps_commit ?_).of_cmds hcmds), ?_⟩
      · rw [cmd_id hw.1]
        exact hw.1
      · exact (congrArg Svc.warm (svc_unitsBlind.runVerb hw ht r)).trans hwarm
    · have hb := regnReserveWarm_refused h hl hn hlat
      exact ⟨_, rfl, ended_of_body hw hb (keeps_drawEnergy hw), congrArg Svc.warm (svc_unitsBlind.runVerb hw hb r)⟩
  · exact ⟨_, regionDrained_diked hon hs hn, dikeDrained_region hopen⟩
  · exact ⟨_, drainTimeout_diked hon hs ht hn, (dikeDrained_region hopen).1⟩
  · refine ⟨_, regionSramWiped_wiped hon hs hwiped hf, ?_, wiped_wipeSram r s, fun p hp => pan_wipeSram hp r s⟩
    exact (congrArg Svc.state (svc_wipeSram r s)).trans hs
  · exact ⟨_, regionTestingDone_fails hon hs, failRegion_region hidle⟩
  · refine ⟨_, regionLoadingDone_loaded hon hs hrng h2 h3, ?_⟩
    unfold Is
    rw [region_setRegionState, State.region_modSvc_self]
    exact ⟨rfl, rfl, rfl, rfl⟩
  · exact ⟨_, regionLoadingDone_fails hon hs h0 h1, (failRegion_region hidle).1⟩
  · exact ⟨_, regionRejoinDone_enters hon hs hidle, rejoined_region r s⟩

end Sys2Proof.Machine
end

section
/-! PROOFS. Why the statement on the tending of regions fails (O43): a pan that goes DORMANT loses the cores of its cells beside what its
region's tables hold (R408). -/

namespace Sys2Proof.Machine
open Safety

/-- Pan 0 of region 0 has been in NAP for a second, and a lattice cell of it has run a word. -/
def napping : State :=
  { State.reset with
    tick := 1000000000
    regions := [(0, { svc := { state := .inService, cfg := { napMs := 100 } }, pans := [(0, { svc := { pwr := .nap } })] })]
    cores := [(.lattice 0 0, { core0 (.lattice 0 0) with cycle := 1 })] }

theorem napping_sleeps : napping.enabled 0 = true ∧ napping.faults.slotFor = some 0 ∧ (napping.pan 0 0).svc.waking = none ∧
    (napping.pan 0 0).svc.pwr = .nap ∧ (napping.region 0).svc.cfg.napMs ≠ 0 ∧ napping.panKeeps 0 0 = false ∧
    (napping.pan 0 0).svc.since + 1000000 * (napping.region 0).svc.cfg.napMs ≤ napping.tick := by decide

/-- The core of the cell goes with the pan. -/
theorem panNapTimeout_drops_core : ∃ t, exec (.panNapTimeout 0 0) napping = .next t ∧ t.cores = [] := ⟨_, rfl, by decide⟩

/-- Refutes O43: PAN_NAP_TIMEOUT changes more than its region where a cell of the pan has a core. -/
theorem not_regionsAreTended : ¬ Obligations.RegionsAreTended := by
  intro h
  obtain ⟨hon, hslot, hwake, hnap, hms, hkeeps, hdue⟩ := napping_sleeps
  obtain ⟨-, -, pans, -⟩ := h napping 0 0 0 0 hon hslot
  obtain ⟨-, -, naps, -⟩ := pans (by decide) hwake
  obtain ⟨t, ht, ⟨hsame, -⟩, -⟩ := naps hnap hms hkeeps hdue
  obtain ⟨u, hu, hcores⟩ := panNapTimeout_drops_core
  obtain rfl : t = u := Host.Outcome.next.inj (ht.symm.trans hu)
  rw [hsame] at hcores
  exact List.cons_ne_nil _ _ hcores

end Sys2Proof.Machine
end

section
/-! PROOFS. Records are acknowledged and resolve (O44): what a fence leaves of its region, which tests stand once a fault has been raised,
and the answers to a record. -/

namespace Sys2Proof.Machine
open Safety

/-! ### A region that is fenced (R415, R419) -/

theorem hostRead_regions (u : HostUse) (i a n : Nat) (x : Bool) (s : State) : (hostRead u i a n x s).regions = s.regions := by
  unfold hostRead
  split
  · rfl
  · rfl

/-- A debug session opens (R487, R490). -/
def sessionOpen (o : DebugOpening) (s : State) : State :=
  let s1 := { s with
    life := { s.life with session := some o.session, opening := none, dbgAuth := if o.job.isNone then 0 else s.life.dbgAuth },
    pkg := { s.pkg with dbgOpen := true } }
  if s1.pkg.mode.isService then setMode .debug s1 else s1

theorem sessionOpen_same (o : DebugOpening) (s : State) : ∃ l : Life, SameButMode { s with life := l, pkg := { s.pkg with dbgOpen := true } }
    (sessionOpen o s) := by
  unfold sessionOpen
  dsimp only
  split
  · exact ⟨_, setMode_same .debug _⟩
  · exact ⟨_, rfl⟩

theorem sessionOpen_regions (o : DebugOpening) (s : State) : (sessionOpen o s).regions = s.regions := by
  obtain ⟨l, h⟩ := sessionOpen_same o s
  rw [h]

theorem sessionOpen_faults (o : DebugOpening) (s : State) : (sessionOpen o s).faults = s.faults := by
  obtain ⟨l, h⟩ := sessionOpen_same o s
  rw [h]

theorem openIfDue_opening {s : State} {o : DebugOpening} (h : s.life.opening = some o) : openIfDue s =
    if (List.range 8).all fun r => !bit o.session.held r || (s.region r).svc.state == .diked then
      match o.job with
      | some j => finish j { status := .ok } (sessionOpen o s)
      | none => sessionOpen o s
    else s := by
  unfold openIfDue
  rw [h]
  rfl

theorem openIfDue_cases (s : State) : openIfDue s = s ∨ ∃ o, openIfDue s = sessionOpen o s ∨
    ∃ j, openIfDue s = finish j { status := .ok } (sessionOpen o s) := by
  cases h : s.life.opening with
  | none => exact .inl (openIfDue_none h)
  | some o =>
    rw [openIfDue_opening h]
    split
    · cases o.job with
      | none => exact .inr ⟨o, .inl rfl⟩
      | some j => exact .inr ⟨o, .inr ⟨j, rfl⟩⟩
    · exact .inl rfl

theorem region_fetchInputs (j r : Nat) (s : State) : (fetchInputs j s).region r = s.region r :=
  fetchInputs_keeps (fun s => s.region r) (fun u i a n x s => region_congr (hostRead_regions u i a n x s) r) (fun _ _ _ => rfl) j s

section Fenced
variable {γ : Type} {p : Region → γ} (h : UnitsBlind p)
include h

theorem UnitsBlind.reissue (j r : Nat) (s : State) : p ((reissue j s).region r) = p (s.region r) :=
  (congrArg p (region_fetchInputs j r _)).trans ((h.settleUnits r _).trans (h.freeSlots j r s))

theorem UnitsBlind.loseJob (j r : Nat) (s : State) : p ((loseJob j s).region r) = p (s.region r) := by
  unfold Machine.loseJob
  split
  · rfl
  · split
    · exact h.finish j _ r s
    · split
      · exact h.finish j _ r s
      · split
        · exact h.reissue j r s
        · exact h.finish j _ r _

theorem UnitsBlind.openIfDue (r : Nat) (s : State) : p ((openIfDue s).region r) = p (s.region r) := by
  rcases openIfDue_cases s with hs | ⟨o, hs | ⟨j, hs⟩⟩
  · rw [hs]
  · rw [hs, region_congr (sessionOpen_regions o s)]
  · rw [hs, h.finish, region_congr (sessionOpen_regions o s)]

end Fenced

section Fence
variable {s : State} {r : Nat}

/-- A region that can be fenced is out by fault, and diked (R415, R417, R419). -/
theorem svc_fenceRegion (he : s.enabled r = true) (hf : (s.region r).svc.state.fenceable = true) :
    ((fenceRegion r s).region r).svc.state = .diked ∧ ((fenceRegion r s).region r).svc.outByFault = true := by
  unfold fenceRegion
  extract_lets u s2 lost other gone s3 s4
  have hon : (u.enabled r && (u.region r).svc.state.fenceable) = true := by
    refine Bool.and_eq_true_iff.2 ⟨he, hf⟩
  rw [if_pos hon]
  have hs4 : (s4.region r).svc = { (s3.region r).svc with state := .diked } := by
    unfold s4
    rw [region_setRegionState, region_dike]
    rfl
  have hs3 : (s3.region r).svc.outByFault = true := by
    unfold s3
    rw [State.region_modRegion_self]
  have hsvc (l : List Nat) (x : Res) :
      ((openIfDue (endWaiting 0x0B01 r x (uncheck r (unsend r (l.foldl (fun s j => loseJob j s) s4))))).region r).svc = (s4.region r).svc := by
    rw [svc_unitsBlind.openIfDue, svc_unitsBlind.endWaiting]
    exact foldl_keeps (fun s => (s.region r).svc) _ (fun s j => svc_unitsBlind.loseJob j r s) l s4
  rw [hsvc, hs4]
  exact ⟨rfl, hs3⟩

end Fence

/-! ### The tests that stand (R431, R438) -/

section Tests
variable {s : State}

/-- No test is under way that was not before. -/
def TestsWithin (s t : State) : Prop := t.faults.tests ⊆ s.faults.tests

theorem TestsWithin.refl (s : State) : TestsWithin s s := List.Subset.refl _

theorem TestsWithin.trans {s t u : State} (h : TestsWithin s t) (k : TestsWithin t u) : TestsWithin s u := List.Subset.trans k h

theorem TestsWithin.of_faults {s t : State} (h : t.faults = s.faults) : TestsWithin s t := by
  unfold TestsWithin
  rw [h]
  exact List.Subset.refl _

theorem subsume_tests (p : FaultRec → Bool) (s : State) : TestsWithin s (subsume p s) :=
  (List.filter_sublist (l := s.faults.tests)).subset

theorem doHalt_tests (s : State) : TestsWithin s (doHalt s) := by
  unfold doHalt doHaltAs
  split
  · exact .of_faults (by rw [freezeBtn_same])
  · have hfreeze : (haltMailboxes (freezeBtn evHalt (some (cpBody s)) s)).faults = s.faults := by
      show (freezeBtn _ _ s).faults = _
      rw [freezeBtn_same]
    exact (TestsWithin.of_faults hfreeze).trans (subsume_tests (fun _ => true) _)

theorem announceFault_faults (x : FaultRec) (s : State) : (announceFault x s).faults = s.faults := by
  rw [announceFault_rings]

theorem putRecord_tests (n : Nat) (x : FaultRec) (s : State) : TestsWithin s (putRecord n x s) := by
  unfold TestsWithin putRecord
  rw [announceFault_faults]
  exact List.Subset.refl _

theorem putUnheld_tests (x : FaultRec) (s : State) : TestsWithin s (putUnheld x s) := by
  unfold TestsWithin putUnheld
  rw [announceFault_faults]
  exact List.Subset.refl _

/-- A fault that is raised starts no test by its record. -/
theorem record_tests (x : Raise) (c : FClass) (s : State) : TestsWithin s (record x c s).2 := by
  unfold record
  dsimp only
  split
  · exact putRecord_tests _ _ s
  · split
    · exact (putUnheld_tests _ s).trans (doHalt_tests _)
    · split
      · exact putUnheld_tests _ s
      · exact .refl s

theorem recheck_faults (wide : Bool) (u : FUnit) (j : Nat) (s : State) : (recheck wide u j s).faults = s.faults := by
  unfold recheck
  split
  · rfl
  · split
    · exact fail_faults s j _
    · exact (settleUnits_faults _).trans rfl

theorem retryJobsOf_faults (wide : Bool) (u : FUnit) (st : Status) (s : State) : (retryJobsOf wide u st s).faults = s.faults :=
  (foldl_keeps State.faults _ (fun s j => recheck_faults wide u j s) _ _).trans
    (foldl_keeps State.faults _ (fun s j => retryJobFrom_faults s _ false st j) _ s)

theorem loseJob_faults (j : Nat) (s : State) : (loseJob j s).faults = s.faults := by
  unfold loseJob
  split
  · rfl
  · split
    · exact fail_faults s j _
    · split
      · exact fail_faults s j _
      · split
        · exact reissue_faults s j
        · exact fail_faults _ j _

theorem endWaiting_faults (op q : Nat) (x : Res) (s : State) : (endWaiting op q x s).faults = s.faults :=
  foldl_keeps State.faults _ (fun s j => finish_faults s j x) _ s

theorem openIfDue_faults (s : State) : (openIfDue s).faults = s.faults := by
  rcases openIfDue_cases s with hs | ⟨o, hs | ⟨j, hs⟩⟩
  · rw [hs]
  · rw [hs, sessionOpen_faults]
  · rw [hs, finish_faults, sessionOpen_faults]

theorem fenceRegion_tests (r : Nat) (s : State) : TestsWithin s (fenceRegion r s) := by
  unfold fenceRegion
  extract_lets u s2 lost other gone s3 s4
  have hu : TestsWithin s u := subsume_tests _ s
  split
  · have h2 : TestsWithin u s2 := (List.filter_sublist (l := u.faults.tests)).subset
    refine hu.trans (h2.trans (.of_faults ?_))
    rw [openIfDue_faults, endWaiting_faults]
    refine (foldl_keeps State.faults (fun s j => loseJob j s) (fun s j => loseJob_faults j s) lost s4).trans ?_
    exact setRegionState_faults r .diked true (dike r s3)
  · exact hu

theorem raiseFence_tests (x : Raise) (s : State) : TestsWithin s (raiseFence x s) := by
  unfold raiseFence
  dsimp only
  split
  · split
    · exact record_tests x .fence s
    · exact (record_tests x .fence s).trans (fenceRegion_tests _ _)
  · exact record_tests x .fence s

theorem fenceIfDue_tests (u : FUnit) (c : FCause) (s : State) : TestsWithin s (fenceIfDue u c s) := by
  unfold fenceIfDue
  split
  · split
    · exact raiseFence_tests _ s
    · exact .refl s
  · exact .refl s

theorem withhold_faults (x : SelfTest) (s : State) : (withhold x s).faults = s.faults := by
  unfold withhold
  split
  · rfl
  · rfl

/-- A LASTING fault starts no test, though it raises others (R432, R433). -/
theorem lasting_tests (x : SelfTest) (rec : FaultRec) (s : State) : TestsWithin s (lasting x rec s) := by
  unfold lasting
  extract_lets y s0 s1 s2
  have quarantined (u : FUnit) (s : State) : TestsWithin s (quarantine u s) := List.Subset.refl _
  have h1 : TestsWithin s s1 := by
    unfold s1
    split
    · split
      · exact (record_tests y .contain s).trans (.of_faults rfl)
      · exact record_tests y .contain s
    · split
      · have hrec : TestsWithin s s0 := (record_tests y .contain s).trans (.of_faults (withhold_faults x _))
        split
        · exact hrec
        · exact hrec.trans ((quarantined x.on _).trans (.of_faults (retryJobsOf_faults _ _ _ _)))
      · exact .refl s
  have h2 : TestsWithin s1 s2 := by
    unfold s2
    split
    · split
      · exact .of_faults rfl
      · exact .refl s1
    · exact .refl s1
  have h3 := h1.trans h2
  split
  · exact h3
  · split
    · exact h3.trans (raiseFence_tests _ s2)
    · exact h3.trans (fenceIfDue_tests _ _ s2)

end Tests

/-! ### Acknowledgement (R434, R435) -/

section Answers
variable {s : State} {q : Nat}

theorem fltAck_opened {hi : Nat} (h : Reached 0 s) : exec (.fltAck hi) s = .next (hostAck (s.faults.ackLo + 2 ^ 32 * (hi % 2 ^ 32)) s) :=
  congrArg Host.Outcome.next (gated_open s 0 _ h.1 h.2)

/-- The aggregator once record `q` has been acknowledged. -/
def Faults.ackedAt (q : Nat) (f : Faults) : Faults :=
  { f.mark q (fun r => { r with acked := true }) with pending := f.pending.filter fun p => !(p.fseq == q) }

theorem hostAck_pending (h : ∃ p ∈ s.faults.pending, p.fseq = q ∧ s.tick < p.end) : hostAck q s = s.modFaults (Faults.ackedAt q) := by
  obtain ⟨p, hp, hq, ht⟩ := h
  have hany : (s.faults.pending.any fun p => p.fseq == q && decide (s.tick < p.end)) = true :=
    List.any_eq_true.2 ⟨p, hp, by simp [hq, ht]⟩
  unfold hostAck ackRecord
  rw [if_pos hany]
  rfl

theorem hostAck_other (h : ∀ p ∈ s.faults.pending, p.fseq = q → p.end ≤ s.tick) : hostAck q s = noteBadAccess s := by
  have hany : ¬ (s.faults.pending.any fun p => p.fseq == q && decide (s.tick < p.end)) = true := by
    rw [List.any_eq_true]
    rintro ⟨p, hp, hd⟩
    simp only [Bool.and_eq_true, beq_iff_eq, decide_eq_true_eq] at hd
    exact absurd (h p hp hd.1) (Nat.not_le.2 hd.2)
  unfold hostAck ackRecord
  rw [if_neg hany]

/-- A NOTE awaits no acknowledgement. -/
theorem noteBadAccess_awaiting (s : State) : (noteBadAccess s).faults.pending = s.faults.pending := by
  unfold noteBadAccess raiseNote record
  dsimp only
  split
  · unfold putRecord
    rw [announceFault_faults]
    rfl
  · rfl

/-- What is made of the record marked holds of every record of its FSEQ. -/
theorem mark_holds (f : Faults) (g : FaultRec → FaultRec) (P : FaultRec → Prop) (hP : ∀ r, P (g r)) :
    ∀ e ∈ (f.mark q g).ring, e.2.fseq = q → P e.2 := by
  intro e he hq
  obtain ⟨d, -, rfl⟩ := List.mem_map.1 he
  by_cases hd : d.2.fseq == q
  · rw [if_pos hd]
    exact hP d.2
  · rw [if_neg hd] at hq
    exact absurd hq (by simpa using hd)

/-! ### Tests and sluice timers (R432, R435) -/

/-- The state once the test of record `q`, whose fault it finds transient or not, has ended. -/
def testEnded (q : Nat) (transient : Bool) (h : List (FUnit × Nat)) (s : State) : State :=
  s.modFaults fun f => { ({ f with tests := f.tests.filter fun x => !(x.fseq == q) } : Faults).mark q
    (fun r => { r with transient := transient, lasting := !transient }) with history := h }

theorem selfTestResult_ends {x : SelfTest} {rec : FaultRec} (pass : Bool) (hx : s.faults.tests.find? (fun t => t.fseq == q) = some x)
    (hr : (s.faults.ring.map (·.2)).find? (fun r => r.fseq == q) = some rec) :
    let transient := pass && decide (recentTransients s.faults x.on rec.tick < 3)
    ∃ h, exec (.selfTestResult q pass) s = .next (if transient then
      (testEnded q transient h s).modFaults fun f => { f with
        quarantined := if x.cls = .contain then f.quarantined.filter fun u => !(u == x.on) else f.quarantined }
      else lasting x rec (testEnded q transient h s)) := by
  intro transient
  refine ⟨if pass then s.faults.history ++ [(x.on, rec.tick)] else s.faults.history, congrArg Host.Outcome.next ?_⟩
  simp only [hx, hr]
  rfl

theorem testEnded_tests (transient : Bool) (h : List (FUnit × Nat)) : ∀ y ∈ (testEnded q transient h s).faults.tests, y.fseq ≠ q := by
  intro y hy
  simpa using (List.mem_filter.1 (show y ∈ s.faults.tests.filter fun x => !(x.fseq == q) from hy)).2

theorem testEnded_transient (h : List (FUnit × Nat)) :
    ∀ e ∈ (testEnded q true h s).faults.ring, e.2.fseq = q → e.2.transient = true ∧ e.2.lasting = false :=
  mark_holds { s.faults with tests := s.faults.tests.filter fun x => !(x.fseq == q) }
    (fun r => { r with transient := true, lasting := false }) (fun r => r.transient = true ∧ r.lasting = false) fun _ => ⟨rfl, rfl⟩

theorem selfTestResult_answers {x : SelfTest} {rec : FaultRec} (pass : Bool) (hx : s.faults.tests.find? (fun t => t.fseq == q) = some x)
    (hr : (s.faults.ring.map (·.2)).find? (fun r => r.fseq == q) = some rec) :
    ∃ t, exec (.selfTestResult q pass) s = .next t ∧ (∀ y ∈ t.faults.tests, y.fseq ≠ q) ∧
      (pass = true → recentTransients s.faults x.on rec.tick < 3 →
        (∀ e ∈ t.faults.ring, e.2.fseq = q → e.2.transient = true ∧ e.2.lasting = false) ∧
          (x.cls = .contain → x.on ∉ t.faults.quarantined)) := by
  obtain ⟨h, hexec⟩ := selfTestResult_ends pass hx hr
  refine ⟨_, hexec, ?_, fun hp hlt => ?_⟩
  · split
    · exact testEnded_tests (pass && decide (recentTransients s.faults x.on rec.tick < 3)) h
    · exact fun y hy => testEnded_tests (pass && decide (recentTransients s.faults x.on rec.tick < 3)) h y (lasting_tests x rec _ hy)
  · have ht : (pass && decide (recentTransients s.faults x.on rec.tick < 3)) = true := by simp [hp, hlt]
    rw [if_pos ht, ht]
    refine ⟨testEnded_transient h, fun hc hmem => ?_⟩
    have hout : x.on ∈ s.faults.quarantined.filter fun u => !(u == x.on) := by
      have hmem' : x.on ∈ if x.cls = .contain then s.faults.quarantined.filter fun u => !(u == x.on) else s.faults.quarantined := hmem
      rwa [if_pos hc] at hmem'
    simpa using (List.mem_filter.1 hout).2

/-- The state in which a record that has not been answered escalates. -/
def unanswered (q : Nat) (s : State) : State := s.modFaults fun f => { f with pending := f.pending.filter fun x => !(x.fseq == q) }

/-- What a record escalates with (R435). -/
def FaultRec.escalation (r : FaultRec) : Raise :=
  { on := r.on, cause := r.cause, jseq := r.jseq, escalated := true, injected := r.injected, from' := some r.cls }

theorem sluiceExpiry_escalates {p : Pending} {rec : FaultRec} (hp : s.faults.pending.find? (fun p => p.fseq == q) = some p)
    (ht : p.end ≤ s.tick) (hr : (s.faults.ring.map (·.2)).find? (fun r => r.fseq == q) = some rec) :
    exec (.sluiceExpiry q) s = .next (match rec.cls, rec.escalates with
      | .contain, some n =>
        if (record rec.escalation .fence (unanswered q s)).2.pkg.halted then (record rec.escalation .fence (unanswered q s)).2
        else fenceRegion n (record rec.escalation .fence (unanswered q s)).2
      | _, _ => raiseHalt rec.escalation (unanswered q s)) := by
  refine congrArg Host.Outcome.next ?_
  simp only [hp, hr]
  rw [if_neg (Nat.not_lt.2 ht)]
  rfl

end Answers

/-- Settles O44: no reaction to a lasting fault starts a test again, and a fence leaves its region diked whatever its jobs come to. -/
theorem recordsAreAcknowledgedAndResolve : Obligations.RecordsAreAcknowledgedAndResolve := by
  refine ⟨fun s hi hreach => ⟨fun hpend => ?_, fun hpend => ?_⟩, fun s q pass hrun hq => ⟨fun x rec hx hr => selfTestResult_answers pass hx hr,
    fun p rec hp ht hr => ⟨fun n slot hc hn hon hf hslot => ?_, fun hc => ?_⟩⟩⟩
  · exact ⟨_, (fltAck_opened hreach).trans (congrArg _ (hostAck_pending hpend)), rfl,
      mark_holds s.faults (fun r => { r with acked := true }) (fun r => r.acked = true) fun _ => rfl, rfl, rfl⟩
  · exact ⟨_, (fltAck_opened hreach).trans (congrArg _ (hostAck_other hpend)), noteBadAccess_awaiting s, noteBadAccess_counts s⟩
  · obtain ⟨f, hsame, -, -⟩ := record_slot (unanswered q s) rec.escalation .fence hslot
    have hexec := sluiceExpiry_escalates hp ht hr
    rw [hc, hn] at hexec
    have hhalt : (record rec.escalation .fence (unanswered q s)).2.pkg.halted = false := by
      rw [hsame]
      exact hrun
    dsimp only at hexec
    rw [hhalt, if_neg Bool.false_ne_true] at hexec
    refine ⟨_, hexec, svc_fenceRegion ?_ ?_⟩
    · rw [hsame]
      exact hon
    · rw [region_congr (s := s) (by rw [hsame]; rfl)]
      exact hf
  · have hexec := sluiceExpiry_escalates hp ht hr
    rw [hc] at hexec
    exact ⟨_, hexec, (raiseHalt_halted _ _).1⟩

end Sys2Proof.Machine
end

section
/-! PROOFS. Why the statement on faults recorded and injected fails (O45): the fence that follows the quarantine of a second pan is a
second record, which may take the slot of the first (R433, R437). -/

namespace Sys2Proof.Machine
open Safety

/-- A RETRY record of pan 0 of region 0, whose test is under way. -/
def panRetry : FaultRec := { fseq := 1, tick := 0, cls := .retry, on := panUnit 0 0, cause := .seqCheck, from' := .retry }

/-- The ring has one empty slot, its first; the other records are RETRYs of pan 0 with the FSEQ that comes next, and pan 1 is
quarantined. -/
def crowded : State :=
  { State.reset with
    regions := [(0, { svc := { state := .inService } })]
    faults := { State.reset.faults with
      ring := (List.range 255).map fun n => (n + 1, panRetry),
      tests := [{ on := panUnit 0 0, fseq := 1, cls := .retry, endBy := 2000000 }],
      quarantined := [panUnit 0 1] } }

set_option maxRecDepth 8000 in
theorem crowded_slot : crowded.enabled 0 = true ∧ crowded.faults.slotFor = some 0 := by decide

set_option maxRecDepth 8000 in
/-- The record of the FENCE stands where that of the watchdog did. -/
theorem panWatchdogTrip_overwritten : ∃ t, exec (.panWatchdogTrip 0 0) crowded = .next t ∧
    (tfind t.faults.ring 0).map (·.cls) = some .fence := ⟨_, rfl, by decide⟩

/-- Refutes O45: in a state whose ring holds the next FSEQ already, the record of a watchdog that trips is subsumed with those records,
and the FENCE that follows takes its slot. -/
theorem not_faultsAreRecordedAndInjected : ¬ Obligations.FaultsAreRecordedAndInjected := by
  intro h
  obtain ⟨units, -⟩ := h
  obtain ⟨hon, hslot⟩ := crowded_slot
  obtain ⟨-, watchdog⟩ := units crowded 0 0 0 .lattice hslot
  obtain ⟨t, ht, ⟨rec, hrec, -, -, -, -, hcls⟩, -⟩ := watchdog hon (by decide)
  obtain ⟨u, hu, hfence⟩ := panWatchdogTrip_overwritten
  obtain rfl : t = u := Host.Outcome.next.inj (ht.symm.trans hu)
  rw [hrec, Option.map_some, hcls] at hfence
  exact absurd hfence (by decide)

end Sys2Proof.Machine
end

section
/-! PROOFS. Why the statement on monitors fails (O54): a disturbance also ends jobs that were re-run before, and with the last job that
the record of a deleted key stands for that record leaves the vault (R350, R436). -/

namespace Sys2Proof.Machine
open Safety

/-- A KEY.EVICT at work that has been re-run once already. -/
def rerunEvict : Cmd := { onHandle0 1 0x0205 .running with prog := { (onHandle0 1 0x0205 .running).prog with reruns := 1 } }

/-- It works for the key that KEY.DELETE has freed, and nothing else is in flight. -/
def disturbedEvict : State := vaultOf freedKey [rerunEvict]

theorem disturbedEvict_met : disturbedEvict.pkg.mode.mainPower = true ∧ disturbedEvict.faults.slotFor = some 0 ∧
    disturbedEvict.monitor 0x20 = true ∧ twoBands 0x20 = true := by decide

set_option maxRecDepth 8000 in
/-- The disturbance ends it, and the record leaves the vault. -/
theorem disturbance_drops_freed : ∃ t, exec (.disturbance 0x20) disturbedEvict = .next t ∧ t.vault.handles = [] := ⟨_, rfl, by decide⟩

/-- Refutes O54: a disturbance changes the vault where it ends the last job that the record of a deleted key stands for. -/
theorem not_monitorsAreTendedAndTested : ¬ Obligations.MonitorsAreTendedAndTested := by
  intro h
  obtain ⟨hpower, hslot, hmonitor, hbands⟩ := disturbedEvict_met
  obtain ⟨disturbs, -⟩ := h disturbedEvict 0x20 0 hpower hslot
  obtain ⟨t, ht, -, -, hvault, -⟩ := disturbs hmonitor hbands
  obtain ⟨u, hu, hempty⟩ := disturbance_drops_freed
  obtain rfl : t = u := Host.Outcome.next.inj (ht.symm.trans hu)
  rw [hvault] at hempty
  exact List.cons_ne_nil _ _ hempty

end Sys2Proof.Machine
end

section
/-! PROOFS. The journal is kept (O46): what an entry changes in the journal, a signature of the firmware's own under the device identity
key, and the end of a bittern copy. -/

namespace Sys2Proof.Machine
open Safety

/-! ### The journal and the bittern area after an entry (R446-R449, R453) -/

section Entries
variable {s : State}

@[simp] theorem finish_jrn (j : Nat) (r : Res) (s : State) : (finish j r s).jrn = s.jrn := by simp [finish]

@[simp] theorem askPage_jrn (i addr n : Nat) : (askPage i addr n s).jrn = s.jrn := by
  unfold askPage
  split <;> rfl

@[simp] theorem hostWrite_jrn (i addr : Nat) (b : List Byte) (x : Bool) : (hostWrite i addr b x s).jrn = s.jrn := by
  unfold hostWrite
  split
  · rfl
  · simp

@[simp] theorem hostWrite_btn (i addr : Nat) (b : List Byte) (x : Bool) : (hostWrite i addr b x s).btn = s.btn := by
  unfold hostWrite askPage
  split
  · rfl
  · split <;> rfl

@[simp] theorem takeJseq_btn : (takeJseq s).2.btn = s.btn := by
  unfold takeJseq reserveIfDue
  dsimp only
  split <;> rfl

/-- Taking a JSEQ counts it, and perhaps asks for the next reservation (R449). -/
theorem takeJseq_jrn : ∃ b, (takeJseq s).2.jrn = { s.jrn with nextJseq := s.jrn.nextJseq + 1, raising := b } := by
  unfold takeJseq reserveIfDue
  dsimp only
  split
  · exact ⟨_, rfl⟩
  · exact ⟨true, rfl⟩

/-- An entry takes the next position of the ring, and the chain goes on with it (R448, R451). -/
theorem appendEntry_jrn (e : JEntry) : (appendEntry e s).jrn =
    { s.jrn with
      ring := tins (s.jrn.jpos % 16384) { e with chain := (nextChain s e).take 12 } s.jrn.ring
      jpos := s.jrn.jpos + 1
      chain := nextChain s e
      cpSince := s.jrn.cpSince + 1 } := by
  unfold appendEntry mirrorEntry
  dsimp only
  split
  · exact hostWrite_jrn _ _ _ _
  · rfl

@[simp] theorem appendEntry_btn (e : JEntry) : (appendEntry e s).btn = s.btn := by
  unfold appendEntry mirrorEntry
  dsimp only
  split
  · exact hostWrite_btn _ _ _ _
  · rfl

@[simp] theorem btnEvent_jrn (src ev a0 a1 : Nat) : (btnEvent src ev a0 a1 s).jrn = s.jrn := by rw [btnEvent_same]

@[simp] theorem mlog_jrn (ty : Nat) (b : List Byte) : (mlog ty b s).jrn = s.jrn := by
  unfold mlog
  rw [emit_jrn]

/-- An event has a JSEQ and a position of its own (R447). -/
theorem journalEvent_counts (ev a0 a1 : Nat) (rgn : Option Nat) (i : Nat) :
    (journalEvent ev a0 a1 rgn i s).jrn.limit = s.jrn.limit ∧ (journalEvent ev a0 a1 rgn i s).jrn.nextJseq = s.jrn.nextJseq + 1 ∧
      (journalEvent ev a0 a1 rgn i s).jrn.jpos = s.jrn.jpos + 1 := by
  obtain ⟨b, hb⟩ := takeJseq_jrn (s := s)
  have hjrn : (journalEvent ev a0 a1 rgn i s).jrn = (appendEntry _ (takeJseq s).2).jrn := btnEvent_jrn _ _ _ _
  rw [hjrn, appendEntry_jrn, hb]
  exact ⟨rfl, rfl, rfl⟩

/-- Every field of the saved bittern records is the same, the frozen area and its pending copy with them. -/
def SameSlots (s t : State) : Prop :=
  t.btn.slots = s.btn.slots ∧ t.btn.nextSlot = s.btn.nextSlot ∧ t.btn.freeze = s.btn.freeze ∧ t.btn.copyPending = s.btn.copyPending

theorem SameSlots.trans {s t u : State} (h : SameSlots s t) (k : SameSlots t u) : SameSlots s u := by
  obtain ⟨h1, h2, h3, h4⟩ := h
  obtain ⟨k1, k2, k3, k4⟩ := k
  exact ⟨k1.trans h1, k2.trans h2, k3.trans h3, k4.trans h4⟩

theorem SameSlots.of_btn {s t : State} (h : t.btn = s.btn) : SameSlots s t := by
  unfold SameSlots
  rw [h]
  exact ⟨rfl, rfl, rfl, rfl⟩

theorem btnEvent_slots (src ev a0 a1 : Nat) : SameSlots s (btnEvent src ev a0 a1 s) := by
  unfold btnEvent
  dsimp only
  split
  · split <;> exact ⟨rfl, rfl, rfl, rfl⟩
  · exact ⟨rfl, rfl, rfl, rfl⟩

theorem journalEvent_slots (ev a0 a1 : Nat) (rgn : Option Nat) (i : Nat) : SameSlots s (journalEvent ev a0 a1 rgn i s) := by
  have hbtn (e : JEntry) : SameSlots s (appendEntry e (takeJseq s).2) := SameSlots.of_btn ((appendEntry_btn e).trans takeJseq_btn)
  exact (hbtn _).trans (btnEvent_slots _ _ _ _)

theorem modBtn_slots {f : Bittern → Bittern}
    (h : ∀ b, (f b).slots = b.slots ∧ (f b).nextSlot = b.nextSlot ∧ (f b).freeze = b.freeze ∧ (f b).copyPending = b.copyPending) :
    SameSlots s (s.modBtn f) := h s.btn

theorem enterCommit_slots (c : Cmd) : SameSlots s (enterCommit c s) :=
  modBtn_slots fun b => by split <;> exact ⟨rfl, rfl, rfl, rfl⟩

/-- The open commands enter the commit table and nothing of the saved records changes (R452). -/
theorem reenter_slots : SameSlots s (reenter s) := by
  unfold reenter
  refine List.foldlRecOn (motive := fun t : State => SameSlots s t) _ _ ⟨rfl, rfl, rfl, rfl⟩ fun t ht c _ => ?_
  refine ht.trans ?_
  split
  · exact (enterCommit_slots c).trans (modBtn_slots fun _ => ⟨rfl, rfl, rfl, rfl⟩)
  · exact enterCommit_slots c

end Entries

/-! ### Batches (R89) -/

section Batches
variable {s : State}

/-- A batch record takes one position. -/
theorem writeBatch_jrn (b : Batch) (z : Bool) :
    (writeBatch b z s).jrn.batches = s.jrn.batches ∧ (writeBatch b z s).jrn.jpos = s.jrn.jpos + 1 := by
  obtain ⟨x, hx⟩ := takeJseq_jrn (s := s)
  have hjrn : (writeBatch b z s).jrn = (appendEntry _ (takeJseq s).2).jrn := rfl
  rw [hjrn, appendEntry_jrn, hx]
  exact ⟨rfl, rfl⟩

theorem foldl_writeBatch_jrn (l : List Batch) (s : State) :
    (l.foldl (fun s b => writeBatch b false s) s).jrn.batches = s.jrn.batches ∧
      (l.foldl (fun s b => writeBatch b false s) s).jrn.jpos = s.jrn.jpos + l.length := by
  induction l generalizing s with
  | nil => exact ⟨rfl, rfl⟩
  | cons b l ih =>
    obtain ⟨hopen, hpos⟩ := writeBatch_jrn b false (s := s)
    obtain ⟨hopens, hposs⟩ := ih (writeBatch b false s)
    refine ⟨hopens.trans hopen, hposs.trans ?_⟩
    rw [hpos, List.length_cons]
    omega

/-- The batches selected close, each with a record of its own. -/
theorem closeBatches_jrn (p : Batch → Bool) :
    (closeBatches p s).jrn.batches = s.jrn.batches.filter (fun b => !p b) ∧
      (closeBatches p s).jrn.jpos = s.jrn.jpos + (s.jrn.batches.filter p).length :=
  foldl_writeBatch_jrn _ _

end Batches

/-! ### The firmware's own signatures (R124, R450, R455) -/

section Firmware
variable {s : State} {r n : Nat}

theorem latticeIn_congr {t : State} (h : t.faults = s.faults) (q p : Nat) : t.latticeIn q p = s.latticeIn q p := by
  unfold State.latticeIn State.usable State.quarantined State.underTest
  rw [h]

/-- The pan that signs is chosen by the faults and the generators, and not by the random bytes of the region (R120). -/
theorem sealPan_congr {t : State} (hf : t.faults = s.faults) (hp : ∀ p, t.pan r p = s.pan r p) (n : Nat) :
    sealPan t r n none = sealPan s r n none := by
  unfold sealPan
  simp only [hp, latticeIn_congr hf]

theorem sealCheckPlace_congr {t : State} (hf : t.faults = s.faults) (hi : ∀ q, t.inService q = s.inService q) (p : Nat) :
    sealCheckPlace t r p = sealCheckPlace s r p := by
  unfold sealCheckPlace
  simp only [hi, latticeIn_congr hf]

/-- `n` random bytes leave the reservoir of region `r`. -/
def drawn (n r : Nat) (s : State) : List Byte × State :=
  drawBytes n (s.modRegion r fun g => { g with rng := { g.rng with reservoir := g.rng.reservoir - n } })

theorem drawn_region (n r q : Nat) :
    ((drawn n r s).2.region q).svc = (s.region q).svc ∧ ((drawn n r s).2.region q).lat = (s.region q).lat ∧
      ((drawn n r s).2.region q).pans = (s.region q).pans :=
  ⟨region_modRegion_keeps (p := (·.svc)) (f := fun g => { g with rng := { g.rng with reservoir := g.rng.reservoir - n } }) (fun _ => rfl) r q s,
    region_modRegion_keeps (p := (·.lat)) (f := fun g => { g with rng := { g.rng with reservoir := g.rng.reservoir - n } }) (fun _ => rfl) r q s,
    region_modRegion_keeps (p := (·.pans)) (f := fun g => { g with rng := { g.rng with reservoir := g.rng.reservoir - n } }) (fun _ => rfl) r q s⟩

theorem drawn_faults (n r : Nat) : (drawn n r s).2.faults = s.faults := rfl

theorem drawn_pan (n r q p : Nat) : (drawn n r s).2.pan q p = s.pan q p := by
  obtain ⟨-, -, hpans⟩ := drawn_region (s := s) n r q
  unfold State.pan
  rw [hpans]

theorem drawn_inService (n r q : Nat) : (drawn n r s).2.inService q = s.inService q := by
  obtain ⟨hsvc, -, -⟩ := drawn_region (s := s) n r q
  unfold State.inService
  rw [hsvc]
  rfl

theorem drawn_identityMask (n r : Nat) : identityMask (drawn n r s).2 r = identityMask s r := by
  obtain ⟨-, hlat, -⟩ := drawn_region (s := s) n r r
  unfold identityMask identityOrder State.defaultOrder
  rw [hlat]
  rfl

/-- A region, a pan, the random bytes and a place for the check are at hand for a signature of the firmware's own. -/
def Signable (s : State) : Prop :=
  ∃ r, regionNums.find? s.inService = some r ∧ attestDraw ≤ (s.region r).rng.reservoir ∧
    (sealPan s r (identityMask s r) none).isSome = true ∧ ∀ p, (sealCheckPlace s r p).isSome = true

/-- A signature of `m` with context `ctx` under the device identity key passes its check. -/
def Verifies (ctx : String) (m : List Byte) (s : State) : Prop :=
  ∀ rnd p, Config.stdOk "device identity signature" [identityPub s, ascii ctx,
    stdN 4723 "device identity signature" [le 8 s.pkg.fuses.unit, ascii ctx, rnd, le 1 p, m], m] = true

theorem checkedSign_first {once : Nat → Nat × Nat → State → Except Status Bool × List Byte × State} {p : Nat} {a : Nat × Nat}
    {sig : List Byte} {t : State} (hp : sealPan s r n none = some p) (ha : sealCheckPlace s r p = some a)
    (h : once p a s = (.ok true, sig, t)) : checkedSign r n once s = some (.ok sig, t) := by
  unfold checkedSign
  rw [hp]
  dsimp only
  rw [ha]
  dsimp only
  rw [h]

/-- Every field but the regions and the free draws is the same. -/
def SameButDraws (s t : State) : Prop := t = { s with regions := t.regions, free := t.free }

theorem identityOnce_same (ctx : String) (m rnd : List Byte) (r n p : Nat) (a : Nat × Nat) (s : State) :
    SameButDraws s (identityOnce ctx m rnd r n p a s).2.2 := by
  unfold identityOnce drawMask
  rfl

theorem drawn_same (k r : Nat) : SameButDraws s (drawn k r s).2 := rfl

theorem SameButDraws.trans {s t u : State} (h : SameButDraws s t) (k : SameButDraws t u) : SameButDraws s u := by
  unfold SameButDraws at *
  rw [k, h]

theorem identityOnce_length (ctx : String) (m rnd : List Byte) (r n p : Nat) (a : Nat × Nat) (s : State) :
    (identityOnce ctx m rnd r n p a s).2.1.length = 4723 := by
  unfold identityOnce
  exact fit_length 4723 _

theorem identityOnce_verifies {ctx : String} {m : List Byte} (h : Verifies ctx m s) (rnd : List Byte) (n p k : Nat) (a : Nat × Nat) :
    (identityOnce ctx m rnd r n p a (drawn k r s).2).1 = .ok true :=
  congrArg Except.ok (h rnd p)

theorem firmwareSign_eq (ctx : String) (m : List Byte) (hr : regionNums.find? s.inService = some r)
    (hroom : attestDraw ≤ (s.region r).rng.reservoir) :
    firmwareSign ctx m s = identitySign ctx r m (drawn attestDraw r s).1 (drawn attestDraw r s).2 := by
  unfold firmwareSign
  rw [hr]
  exact if_neg (Nat.not_lt.mpr hroom)

/-- A signature whose check passes is made at the first try, and changes regions and the free values alone. -/
theorem firmwareSign_signs {ctx : String} {m : List Byte} (hs : Signable s) (hv : Verifies ctx m s) :
    ∃ sig t, firmwareSign ctx m s = some (.ok sig, t) ∧ sig.length = 4723 ∧ SameButDraws s t := by
  obtain ⟨r, hr, hroom, hpan, hcheck⟩ := hs
  obtain ⟨p, hp⟩ := Option.isSome_iff_exists.mp hpan
  obtain ⟨a, ha⟩ := Option.isSome_iff_exists.mp (hcheck p)
  rw [firmwareSign_eq ctx m hr hroom]
  generalize hrnd : (drawn attestDraw r s).1 = rnd
  have hp' : sealPan (drawn attestDraw r s).2 r (identityMask (drawn attestDraw r s).2 r) none = some p := by
    rw [drawn_identityMask, sealPan_congr (drawn_faults _ _) fun _ => drawn_pan _ _ _ _]
    exact hp
  have ha' : sealCheckPlace (drawn attestDraw r s).2 r p = some a := by
    rw [sealCheckPlace_congr (drawn_faults _ _) fun _ => drawn_inService _ _ _]
    exact ha
  have hok := identityOnce_verifies hv rnd (r := r) (identityMask (drawn attestDraw r s).2 r) p attestDraw a
  exact ⟨_, _, checkedSign_first hp' ha' (Prod.ext hok rfl), identityOnce_length ctx m rnd r (identityMask (drawn attestDraw r s).2 r) p a _,
    (drawn_same attestDraw r).trans (identityOnce_same ctx m rnd r (identityMask (drawn attestDraw r s).2 r) p a _)⟩

end Firmware

/-! ### A signed checkpoint and a saved area -/

section Saved
variable {s : State}

theorem storeCheckpoint_jrn (cp : Checkpoint) : ∃ e,
    tfind (storeCheckpoint cp s).jrn.store s.jrn.cpNext = some cp ∧ (storeCheckpoint cp s).jrn.cpNext = (s.jrn.cpNext + 1) % 16 ∧
      (storeCheckpoint cp s).jrn.cpCount = inc32 s.jrn.cpCount ∧
      tfind (storeCheckpoint cp s).jrn.ring (s.jrn.jpos % 16384) = some e ∧ e.type = 4 ∧ e.aux = cp.lastJseq := by
  unfold storeCheckpoint
  extract_lets n s1 s2
  have hjrn : s2.jrn = s1.jrn := by
    unfold s2
    split
    · exact hostWrite_jrn _ _ _ _
    · rfl
  obtain ⟨b, hb⟩ := takeJseq_jrn (s := s2)
  dsimp only
  rw [appendEntry_jrn, hb, hjrn]
  exact ⟨_, tfind_tins_self _ _ _, rfl, rfl, tfind_tins_self _ _ _, rfl, rfl⟩

/-- The saved copy takes the oldest slot, and the area is open again (R455). -/
theorem saveBittern_btn (z : Freeze) (body sig : List Byte) : ∃ b,
    (saveBittern z body sig s).btn.freeze = none ∧ (saveBittern z body sig s).btn.copyPending = false ∧
      tfind (saveBittern z body sig s).btn.slots s.btn.nextSlot = some b ∧ b.bootCount = z.bootCount ∧ b.trigger = z.trigger ∧
      b.committed = true ∧ b.body = body ∧ (saveBittern z body sig s).btn.nextSlot = (s.btn.nextSlot + 1) % 8 := by
  unfold saveBittern
  extract_lets n b s1 s2
  have hwaited : SameSlots s1 s2 :=
    List.foldlRecOn (motive := fun t : State => SameSlots s1 t) _ _ (.of_btn rfl) fun _ ht _ _ =>
      ht.trans (modBtn_slots fun _ => ⟨rfl, rfl, rfl, rfl⟩)
  have hsent : SameSlots s2 (emit (.flash "bittern slot" b.record) s2) := .of_btn rfl
  obtain ⟨hslots, hnext, hfreeze, hcopy⟩ := ((hwaited.trans hsent).trans reenter_slots).trans (journalEvent_slots 0x0A n z.bootCount none 0)
  refine ⟨b, hfreeze, hcopy, ?_, rfl, rfl, rfl, rfl, hnext⟩
  rw [hslots]
  exact tfind_tins_self _ _ _

end Saved

/-! ### The verbs and rows -/

section Rows
variable {s : State} {j : Nat} {c : Cmd}

/-- What JRNL.READ answers where `sel` are the entries that its body selects (R456). -/
def readAnswer (j : Job) (sel : List JEntry) : Res :=
  let w := sel.take (min (fld j.args 8 2) (outCapacity j.frags 0 / 64))
  if sel.isEmpty then respRes (zeros 8)
  else if outCapacity j.frags 0 < 64 then { status := .outputShort, need := 64 }
  else { status := .ok, outs := [(0, (w.map JEntry.image).flatten)],
         resp := le 4 w.length ++ le 4 (if w.length < sel.length then 1 else 0) }

theorem jrnlRead_reads (h : Passes [paramZero c.job 0xFFFFFFFF, bodyIs c.job 11,
      check (decide (1 ≤ fld c.job.args 8 2) && decide (fld c.job.args 8 2 ≤ 16384)) .malformed, famEnabled s c.job,
      check (c.job.admin || fld c.job.args 10 1 == c.job.inst) .notPermitted]) :
    jrnlRead c s = (s, some (readAnswer c.job
      ((ringEntries s).filter fun e => decide (fld c.job.args 0 8 ≤ e.jseq) && admits (fld c.job.args 10 1) e))) := by
  unfold jrnlRead readAnswer
  dsimp only
  rw [orBad_passes h]
  generalize List.filter _ (ringEntries s) = sel
  split_ifs <;> rfl

theorem jrnlCheckpoint_newest {p : Checkpoint} (h : Passes [paramZero c.job 0xFFFFFFFF, bodyIs c.job 1,
      check (decide (fld c.job.args 0 1 < 2)) .malformed, famEnabled s c.job]) (hnew : bit (fld c.job.args 0 1) 0 = false)
    (hp : newestCp s = some p) : jrnlCheckpoint c s = (s, some (outTo c.job 0 (p.object s.pkg.fuses.unit))) := by
  unfold jrnlCheckpoint
  dsimp only
  rw [orBad_passes h, hp, hnew]
  rfl

theorem jrnlCheckpoint_takes (h : Passes [paramZero c.job 0xFFFFFFFF, bodyIs c.job 1,
      check (decide (fld c.job.args 0 1 < 2)) .malformed, famEnabled s c.job]) (hnew : bit (fld c.job.args 0 1) 0 = true)
    (hfirst : c.prog.counted = false) (hidle : s.cpSigning = false) :
    jrnlCheckpoint c s = ((takeCheckpoint s).modProg c.job.id fun p => { p with counted := true }, none) := by
  unfold jrnlCheckpoint
  dsimp only
  rw [orBad_passes h, hnew, hfirst, hidle]
  rfl

theorem jrnlMirrorSet_sets (h : Passes [paramZero c.job 0xFFFFFFFF, bodyIs c.job 18,
      check (decide (12 ≤ fld c.job.args 16 1) && decide (fld c.job.args 16 1 ≤ 30) && decide (fld c.job.args 17 1 < 2)) .malformed,
      famEnabled s c.job]) :
    jrnlMirrorSet c s = ((commit c.job.id s).modJrn fun x =>
      { x with
        mirrorBase := fld c.job.args 0 8
        mirrorCp := fld c.job.args 8 8
        mirrorLog2 := fld c.job.args 16 1
        mirrorOn := fld c.job.args 17 1 == 1 }, some okRes) := by
  unfold jrnlMirrorSet
  dsimp only
  rw [orBad_passes h]

theorem jrnlBtnRead_reads (h : Passes [paramZero c.job 0xFFFFFFFF, bodyIs c.job 1,
      check (decide (fld c.job.args 0 1 < 8) || fld c.job.args 0 1 == 0xFF) .malformed, famEnabled s c.job]) :
    jrnlBtnRead c s = (s, some (if fld c.job.args 0 1 = 0xFF then outTo c.job 0 (btnImage s)
      else match tfind s.btn.slots (fld c.job.args 0 1) with
        | some b => outTo c.job 0 b.record
        | none => okRes)) := by
  unfold jrnlBtnRead
  dsimp only
  rw [orBad_passes h]
  by_cases hn : fld c.job.args 0 1 = 0xFF
  · rw [if_pos hn, if_pos hn]
  · rw [if_neg hn, if_neg hn]
    cases tfind s.btn.slots (fld c.job.args 0 1) <;> rfl

theorem jrnlBtnList_lists (h : Passes [paramZero c.job 0xFFFFFFFF, bodyIs c.job 0, famEnabled s c.job]) :
    jrnlBtnList c s = (s, some (outTo c.job 0 ((regionNums.map fun n => match tfind s.btn.slots n with
      | some b => b.header
      | none => zeros 32).flatten))) := by
  unfold jrnlBtnList
  exact orBad_passes h _

theorem jseqReserveComplete_raises (h : s.jrn.raising = true) : ∃ t, exec .jseqReserveComplete s = .next t ∧
    t.jrn.limit = s.jrn.limit + jseqBlock ∧ t.jrn.nextJseq = s.jrn.nextJseq + 1 ∧ t.jrn.jpos = s.jrn.jpos + 1 := by
  have hrun : exec .jseqReserveComplete s = .next (journalEvent 8 (s.jrn.limit + jseqBlock) 0 none 0
      (mlog 2 (le 8 (s.jrn.limit + jseqBlock)) (s.modJrn fun j => { j with limit := s.jrn.limit + jseqBlock, raising := false }))) :=
    congrArg Host.Outcome.next (if_pos h)
  rw [hrun]
  obtain ⟨hlimit, hnext, hpos⟩ := journalEvent_counts 8 (s.jrn.limit + jseqBlock) 0 none 0
    (s := mlog 2 (le 8 (s.jrn.limit + jseqBlock)) (s.modJrn fun j => { j with limit := s.jrn.limit + jseqBlock, raising := false }))
  rw [mlog_jrn] at hlimit hnext hpos
  exact ⟨_, rfl, hlimit, hnext, hpos⟩

theorem checkpointSigned_stores {b : Checkpoint} (hb : s.jrn.cpHalt.or s.jrn.cpOpen = some b) (hs : Signable s)
    (hj : s.journals = true) (hz : s.pkg.zeroized = false) (hv : Verifies "EXM-JRNL-CP-1" (b.bytes s.pkg.fuses.unit) s) :
    ∃ sig t, t.jrn = s.jrn ∧ exec .checkpointSigned s = .next (storeCheckpoint { b with sig := sig } t) := by
  obtain ⟨sig, t, hsign, -, hsame⟩ := firmwareSign_signs hs hv
  refine ⟨sig, t, by rw [hsame], congrArg Host.Outcome.next ?_⟩
  rw [hb]
  dsimp only
  rw [hj, hz, hsign]
  rfl

theorem bitternSlotWritten_saves {z : Freeze} (hf : s.btn.freeze = some z) (hc : s.btn.copyPending = true) (hs : Signable s)
    (hj : s.journals = true) (hz : s.pkg.zeroized = false) (hv : Verifies "EXM-BITTERN-1" (btnImage s) s) :
    ∃ sig t, t.btn = s.btn ∧ exec .bitternSlotWritten s = .next (saveBittern z (btnImage s) sig t) := by
  obtain ⟨sig, t, hsign, -, hsame⟩ := firmwareSign_signs hs hv
  refine ⟨sig, t, by rw [hsame], congrArg Host.Outcome.next ?_⟩
  rw [hf]
  dsimp only
  rw [hc, hj, hz, hsign]
  rfl

end Rows

/-- Settles O46: the verbs answer from the journal as it stands, each entry takes a position, and a signature that verifies stores its
checkpoint or saves its area. -/
theorem journalIsKept : Obligations.JournalIsKept := by
  refine ⟨fun s j c => ⟨fun hw h => ?_, fun hw h => ⟨fun hnew p hp => ?_, fun hnew hfirst hidle => ?_⟩, fun hw h => ?_,
    fun hw h => ?_, fun hw h => ?_⟩, fun s => ?_⟩
  · exact ended_of hw (jrnlRead_reads (s := (drawEnergy s).2) h) rfl
  · exact ended_of hw (jrnlCheckpoint_newest (s := (drawEnergy s).2) h hnew hp) rfl
  · obtain ⟨hc, hop, hat, hheld, hrep⟩ := hw
    have ht := jrnlCheckpoint_takes (s := (drawEnergy s).2) h hnew hfirst hidle
    exact ⟨_, congrArg Host.Outcome.next (runVerb_of_wait hc hop hat hheld hrep ht), rfl, rfl⟩
  · have hb := jrnlMirrorSet_sets (s := (drawEnergy s).2) h
    have hid : (drawEnergy s).2.cmd? c.job.id = some c := by
      rw [cmd_id hw.1]
      exact hw.1
    refine ⟨_, rfl, ended_of_body hw hb ((keeps_commit hid).of_cmds rfl), ?_⟩
    obtain ⟨hc, hop, hat, hheld, hrep⟩ := hw
    rw [runVerb_of_body hc hop hat hheld hrep hb]
    simp only [finish_jrn, countJob_jrn, State.modProg_jrn]
    exact ⟨rfl, rfl, rfl, rfl⟩
  · exact ended_of hw (jrnlBtnRead_reads (s := (drawEnergy s).2) h) rfl
  · exact ended_of hw (jrnlBtnList_lists (s := (drawEnergy s).2) h) rfl
  · intro canSign verifies
    refine ⟨fun hr => ?_, fun hh => ?_, fun hj hidle hpos hdue => ?_, fun b hb hs hj hz => ?_, fun z hf hc hs hj hz => ?_⟩
    · exact jseqReserveComplete_raises hr
    · refine ⟨_, congrArg Host.Outcome.next (if_neg (by simp [hh])), ?_⟩
      obtain ⟨hopen, hpos⟩ := closeBatches_jrn (s := s) (fun b => decide (b.firstTick + 1000000 ≤ s.tick))
      exact ⟨hopen, hpos⟩
    · exact ⟨_, congrArg Host.Outcome.next (if_pos (by simpa [hj, hidle, hpos] using hdue)), rfl, rfl, rfl⟩
    · by_cases hv : verifies "EXM-JRNL-CP-1" (b.bytes s.pkg.fuses.unit)
      · obtain ⟨sig, t, hjrn, ht⟩ := checkpointSigned_stores hb hs hj hz hv
        obtain ⟨e, hstore, hnext, hcount, hring, htype, haux⟩ := storeCheckpoint_jrn (s := t) { b with sig := sig }
        rw [hjrn] at hstore hnext hcount hring
        exact ⟨_, ht, fun _ => ⟨{ b with sig := sig }, e, hstore, rfl, hnext, hcount, hring, htype, haux⟩⟩
      · exact ⟨_, rfl, fun h => absurd h hv⟩
    · by_cases hv : verifies "EXM-BITTERN-1" (btnImage s)
      · obtain ⟨sig, t, hbtn, ht⟩ := bitternSlotWritten_saves hf hc hs hj hz hv
        obtain ⟨b, hfreeze, hcopy, hslot, hrest⟩ := saveBittern_btn (s := t) z (btnImage s) sig
        rw [hbtn] at hslot hrest
        exact ⟨_, ht, fun _ => ⟨b, hfreeze, hcopy, hslot, hrest⟩⟩
      · exact ⟨_, rfl, fun h => absurd h hv⟩

end Sys2Proof.Machine
end

section
/-! PROOFS. Acknowledgement over MCTP needs an SPDM session (O50). -/

namespace Sys2Proof.Machine
open Safety

section MctpAck
variable {s : State} {n q : Nat}

theorem mctpFaultAck_inSession (hup : s.mctpUp = true) (hq : q < 2 ^ 64) (h : ∃ x, s.mgmt.spdm[n]? = some x ∧ 1 ≤ x.slot ∧ x.slot ≤ 3) :
    exec (.mctpFaultAck n q) s = .next (hostAck q s) := by
  obtain ⟨x, hx, hlow, hhigh⟩ := h
  refine congrArg Host.Outcome.next ?_
  rw [if_pos (by simp [hup, hx, hlow, hhigh]), Nat.mod_eq_of_lt hq]

theorem mctpFaultAck_outside (h : ∀ x, s.mgmt.spdm[n]? = some x → ¬ (1 ≤ x.slot ∧ x.slot ≤ 3)) :
    exec (.mctpFaultAck n q) s = .next s := by
  refine congrArg Host.Outcome.next (if_neg fun hin => ?_)
  rw [Bool.and_eq_true, Option.any_eq_true] at hin
  obtain ⟨-, x, hx, hslot⟩ := hin
  exact h x hx (by simpa using hslot)

end MctpAck

/-- Settles O50: the message reaches the acknowledgement of R435 inside such a session alone. -/
theorem acknowledgementOverMctp : Obligations.AcknowledgementOverMctp := by
  intro s n q hup hq
  refine ⟨fun hx hp => ?_, fun hx => mctpFaultAck_outside hx⟩
  exact ⟨_, (mctpFaultAck_inSession hup hq hx).trans (congrArg _ (hostAck_pending hp)), rfl,
    mark_holds s.faults (fun r => { r with acked := true }) (fun r => r.acked = true) fun _ => rfl, rfl, rfl⟩

end Sys2Proof.Machine
end

section
/-! PROOFS. Image and sensor verbs (O47): banks and kinds of image, an activation of the management firmware, and each verb at work. -/

namespace Sys2Proof.Machine
open Safety

/-! ### Kinds of image (R460, R464, R466) -/

section Kinds
variable {s : State}

theorem bank_modBank_other (x : FwKind) (f : Bank → Bank) : (x.modBank true f).bank false = x.bank false := by
  unfold FwKind.modBank FwKind.bank
  cases x.active <;> rfl

theorem fw_modFw_ne {n k : Nat} (h : n ≠ k) (f : FwKind → FwKind) : (s.modFw k f).fw n = s.fw n :=
  tget_tset_ne _ _ _ _ _ h

theorem fw_congr {t : State} (h : t.mgmt.kinds = s.mgmt.kinds) (n : Nat) : t.fw n = s.fw n := by
  unfold State.fw
  rw [h]

/-- The state after a write by the mailbox's agent (R466, R469). -/
theorem written_keeps (k o : Nat) (d : List Byte) :
    (writeBank k o d (takeAgent .mailbox s)).fw k = (s.fw k).written o d ∧
      (∀ n, n ≠ k → (writeBank k o d (takeAgent .mailbox s)).fw n = s.fw n) ∧
      (writeBank k o d (takeAgent .mailbox s)).mgmt.agent = some .mailbox ∧
      (writeBank k o d (takeAgent .mailbox s)).mgmt.agentTick = s.tick ∧
      (writeBank k o d (takeAgent .mailbox s)).cmds = s.cmds :=
  ⟨writeBank_fw (takeAgent .mailbox s) k o d, fun _ hn => fw_modFw_ne (s := takeAgent .mailbox s) hn (FwKind.written o d), rfl, rfl, rfl⟩

/-- A kind whose image is committed with the counter `n` (R464). -/
def FwKind.committed (n : Nat) (x : FwKind) : FwKind :=
  { x.modBank true (fun b => { b with valid := b.valid && decide (n ≤ imgRollback b.data) }) with
    counter := n
    trial := false }

theorem committed_bank_self (n : Nat) (x : FwKind) : ((x.committed n).bank true).valid =
    ((x.bank true).valid && decide (n ≤ imgRollback (x.bank true).data)) :=
  congrArg Bank.valid (bank_modBank x true fun b => { b with valid := b.valid && decide (n ≤ imgRollback b.data) })

theorem committed_bank_other (n : Nat) (x : FwKind) : (x.committed n).bank false = x.bank false := bank_modBank_other x _

end Kinds

/-! ### The management subsystem as a verb ends -/

section Ends
variable {s : State} {j : Nat} {c : Cmd}

@[simp] theorem finish_mgmt (j : Nat) (r : Res) (s : State) : (finish j r s).mgmt = s.mgmt := by simp [finish]

@[simp] theorem commit_mgmt (j : Nat) (s : State) : (commit j s).mgmt = s.mgmt := by rw [commit_same]

theorem runVerb_mgmt {op : Nat} {body : Cmd → State → State × Option Res} {s1 : State} {r : Res} (hw : AtWork op j c s)
    (hb : body c (drawEnergy s).2 = (s1, some r)) : (runVerb op j body s).mgmt = s1.mgmt := by
  obtain ⟨hc, hop, hat, hheld, hrep⟩ := hw
  rw [runVerb_of_body hc hop hat hheld hrep hb, finish_mgmt, countJob_mgmt, State.modProg_mgmt]

theorem keeps_committed {op : Nat} {t u : State} (hw : AtWork op j c s) (hu : u.cmds = s.cmds) (h : t.cmds = (commit c.job.id u).cmds) :
    Keeps c t := by
  refine (keeps_commit (s := u) ?_).of_cmds h
  rw [cmd_congr hu, cmd_id hw.1]
  exact hw.1

end Ends

/-! ### UPDATE is entered (R61, R467, R468) -/

section Update
variable {s : State}

/-- The management subsystem as an activation of its firmware starts. -/
def Mgmt.restarted (o : Option Nat) (tick : Nat) (m : Mgmt) : Mgmt :=
  { m with activating := some (o, tick), running := false, alive := false, spdm := [] }

theorem enterUpdate_restarts (o : Option Nat) : (enterUpdate o s).fw 1 = (s.fw 1).switched ∧
    (enterUpdate o s).mgmt.agent = s.mgmt.agent ∧ (enterUpdate o s).mgmt.activating = some (o, s.tick) ∧
    (enterUpdate o s).mgmt.running = false ∧ (enterUpdate o s).mgmt.spdm = [] ∧
    (s.pkg.mode.isService = true → (enterUpdate o s).pkg.mode = .update) := by
  unfold enterUpdate
  extract_lets s1 s2 s3
  obtain ⟨l, n, hkept⟩ := switchBank_mgmt s2 1
  have hpkg : s3.pkg = s.pkg := switchBank_pkg 1 s2
  have hmgmt : (if s3.pkg.mode.isService || s3.pkg.mode == .debug then setMode .update s3 else s3).mgmt = s3.mgmt := by
    split
    · rw [setMode_same]
    · rfl
  refine ⟨(fw_congr (congrArg Mgmt.kinds hmgmt) 1).trans (switchBank_fw s2 1), ?_, ?_, ?_, ?_, fun hmode => ?_⟩
  · exact (congrArg Mgmt.agent (hmgmt.trans hkept)).trans rfl
  · exact (congrArg Mgmt.activating (hmgmt.trans hkept)).trans rfl
  · exact (congrArg Mgmt.running (hmgmt.trans hkept)).trans rfl
  · exact (congrArg Mgmt.spdm (hmgmt.trans hkept)).trans rfl
  · rw [if_pos (by rw [hpkg, hmode]; rfl)]
    exact setMode_mode .update s3

/-- The state from which the request `j` enters UPDATE: committed, its agent given up, at its work. -/
def restarting (j : Nat) (s : State) : State := (dropAgent (commit j s)).modProg j fun p => { p with phase := .running }

theorem restarting_keeps (j : Nat) : (restarting j s).mgmt = { s.mgmt with agent := none, pldm := {} } ∧ (restarting j s).tick = s.tick ∧
    (restarting j s).pkg = s.pkg := by
  refine ⟨congrArg (fun m : Mgmt => { m with agent := none, pldm := {} }) (commit_mgmt j s), ?_, commit_pkg j s⟩
  have htick : (commit j s).tick = s.tick := by rw [commit_same]
  exact htick

end Update

/-! ### The verbs (R463, R464, R466, R467, R469) -/

section Verbs
variable {s : State} {c : Cmd}

theorem mgmtFwWrite_writes (h : Passes (kindChecks s c.job 8 ++ [check (decide (1 ≤ (c.job.operand 0).length) &&
      decide ((c.job.operand 0).length ≤ 1048576)) .badFragment,
      check (decide (fld c.job.args 4 4 + (c.job.operand 0).length ≤ bankSize (fld c.job.args 0 1))) .paramUnsupported,
      check (s.mgmt.agent != some .pldm && !s.runsOther (fld c.job.args 0 1)) .deferred])) :
    mgmtFwWrite c s =
      (commit c.job.id (writeBank (fld c.job.args 0 1) (fld c.job.args 4 4) (c.job.operand 0) (takeAgent .mailbox s)), some okRes) := by
  unfold mgmtFwWrite
  exact orBad_passes h _

/-- What MGMT.FW_VERIFY answers for the image `img` of kind `k` (R466). -/
def verifyAnswer (s : State) (k : Nat) (img : List Byte) : Res :=
  match imgCheck s k img with
  | some st => stRes st
  | none => respRes (le 4 (imgBuild img) ++ le 2 (imgRollback img))

theorem mgmtFwVerify_verifies (h : Passes (kindChecks s c.job 4 ++ [check (s.mgmt.agent != some .pldm) .deferred])) :
    mgmtFwVerify c s = ((touchAgent s).modFw (fld c.job.args 0 1) fun x => x.modBank true fun y =>
      { y with valid := (imgCheck s (fld c.job.args 0 1) ((s.fw (fld c.job.args 0 1)).bank true).data).isNone },
      some (verifyAnswer s (fld c.job.args 0 1) ((s.fw (fld c.job.args 0 1)).bank true).data)) := by
  unfold mgmtFwVerify
  exact orBad_passes h _

theorem mgmtFwActivate_activates (h : Passes (kindChecks s c.job 5 ++
      [check (fld c.job.args 4 1 == 0 || (fld c.job.args 4 1 == 1 && fld c.job.args 0 1 != 1)) .malformed,
        check (s.mgmt.agent != some .pldm) .deferred, check ((s.fw (fld c.job.args 0 1)).bank true).valid .lifecycle,
        check (fld c.job.args 0 1 != 1 || !s.otherLong c.job.id) .deferred])) :
    mgmtFwActivate c s = if fld c.job.args 0 1 = 1
      then (enterUpdate (some c.job.id) (restarting c.job.id s), none)
      else (activateRegions (fld c.job.args 0 1) (fld c.job.args 4 1 == 1) (dropAgent (commit c.job.id s)), some okRes) := by
  unfold mgmtFwActivate
  exact orBad_passes h _

theorem mgmtFwCommit_commits (h : Passes (kindChecks s c.job 4)) (hr : s.runsEverywhere (fld c.job.args 0 1) = true) :
    let k := fld c.job.args 0 1
    let n := max (s.fw k).counter (imgRollback ((s.fw k).bank false).data)
    mgmtFwCommit c s = (mlog 4 (le 1 k ++ le 1 n) ((commit c.job.id s).modFw k (FwKind.committed n)), some okRes) := by
  intro k n
  unfold mgmtFwCommit
  refine (orBad_passes ?_ _).trans rfl
  unfold Passes
  rw [firstBad_append h, hr]
  rfl

theorem mgmtFwCommit_deferred (h : Passes (kindChecks s c.job 4)) (hr : s.runsEverywhere (fld c.job.args 0 1) = false) :
    mgmtFwCommit c s = (s, some (stRes .deferred)) := by
  unfold mgmtFwCommit
  refine orBad_refuses ?_ _
  rw [firstBad_append h, hr]
  rfl

theorem mgmtFwStatus_reports (h : Passes [paramZero c.job 0xFFFFFFFF, bodyIs c.job 0, famEnabled s c.job]) :
    mgmtFwStatus c s = (s, some (respRes (fwRecord s 1 ++ fwRecord s 2 ++ fwRecord s 3))) := by
  unfold mgmtFwStatus
  exact orBad_passes h _

/-- The sensors of unit `u`, type by type (R466). -/
def sensorBytes (s : State) (u : Nat) : List Byte :=
  ([0, 1, 2].map fun ty => ((List.range (sensorCount u ty)).map fun n => le 2 (s.sensor u ty n)).flatten).flatten

theorem mgmtSensors_reads (h : Passes [paramZero c.job 0xFFFFFFFF, bodyIs c.job 4, check (zero? c.job.args 1 3) .malformed, famEnabled s c.job,
      check (decide (fld c.job.args 0 1 < 8) || fld c.job.args 0 1 == 0xFF) .paramUnsupported]) :
    mgmtSensors c s = (s, some (respRes (sensorBytes s (if fld c.job.args 0 1 = 0xFF then 8 else fld c.job.args 0 1)))) := by
  unfold mgmtSensors
  exact orBad_passes h _

end Verbs

/-! ### What an activation of region images leaves (R467) -/

section Activated
variable {s : State}

theorem dropAgent_committed_region (j r : Nat) : (dropAgent (commit j s)).region r = s.region r := region_commit j r s

theorem dropAgent_committed_enabled (j r : Nat) : (dropAgent (commit j s)).enabled r = s.enabled r :=
  congrArg (fun p : Pkg => ({ s with pkg := p } : State).enabled r) (commit_pkg j s)

theorem activateRegions_fw (k : Nat) (roll : Bool) : (activateRegions k roll s).fw k = (s.fw k).switched := by
  cases roll
  · exact switchBank_fw s k
  · exact (activateRegions_rolls s k).1

theorem activateRegions_agent (k : Nat) (roll : Bool) : (activateRegions k roll s).mgmt.agent = s.mgmt.agent := by
  obtain ⟨l, n, hkept⟩ := switchBank_mgmt s k
  cases roll
  · exact (congrArg Mgmt.agent hkept).trans rfl
  · exact (activateRegions_rolls s k).2.1

theorem activateRegions_roll_false (k : Nat) : (activateRegions k false s).mgmt.roll = s.mgmt.roll := by
  obtain ⟨l, n, hkept⟩ := switchBank_mgmt s k
  exact (congrArg Mgmt.roll hkept).trans rfl

theorem activateRegions_cmds (k : Nat) (roll : Bool) : (activateRegions k roll s).cmds = s.cmds := by
  have hswitch : (switchBank k s).cmds = s.cmds := by
    unfold switchBank
    rw [journalEvent_same]
    rfl
  cases roll
  · exact hswitch
  · exact hswitch

end Activated

/-- Settles O47: each verb's body is its one change of the kinds of image, which the end of the command leaves. -/
theorem imageVerbs : Obligations.ImageVerbs := by
  intro s j c b k Free Kept
  refine ⟨fun hw h => ?_, fun hw h => ?_, fun hw h => ?_, fun hw h => ⟨fun hr => ?_, fun hr => ?_⟩, fun hw h => ?_, fun hw h => ?_⟩
  · intro old
    have hb := mgmtFwWrite_writes (s := (drawEnergy s).2) h
    have hm := (runVerb_mgmt hw hb).trans (commit_mgmt _ _)
    obtain ⟨hself, hother, hagent, htick, hcmds⟩ := written_keeps (s := (drawEnergy s).2) k (fld b 4 4) (c.job.operand 0)
    have hfw (n : Nat) : (runVerb 0x0C01 j mgmtFwWrite s).fw n = _ := fw_congr (congrArg Mgmt.kinds hm) n
    refine ⟨runVerb 0x0C01 j mgmtFwWrite s, rfl, ended_of_body hw hb (keeps_committed hw (hcmds.trans rfl) rfl),
      fun n hn => (hfw n).trans (hother n hn), ?_, ?_, (congrArg Mgmt.agent hm).trans hagent, (congrArg Mgmt.agentTick hm).trans htick⟩
    · rw [hfw, hself]
      exact bank_modBank_other _ _
    · rw [hfw, hself]
      exact bank_modBank _ _ _
  · intro img
    have hb := mgmtFwVerify_verifies (s := (drawEnergy s).2) h
    have hfw (n : Nat) := fw_congr (congrArg Mgmt.kinds (runVerb_mgmt hw hb)) n
    refine ⟨_, rfl, fun n hn => (hfw n).trans (fw_modFw_ne hn _), ?_, ended_of_body hw hb (keeps_drawEnergy hw)⟩
    rw [hfw, fw_modFw_self]
    exact bank_modBank _ _ _
  · have hid := cmd_id hw.1
    have hb := mgmtFwActivate_activates (s := (drawEnergy s).2) (c := c) (by rw [hid]; exact h)
    by_cases hk : fld c.job.args 0 1 = 1
    · rw [if_pos hk] at hb
      obtain ⟨hc, hop, hat, hheld, hrep⟩ := hw
      obtain ⟨hmgmt, htick, hpkg⟩ := restarting_keeps (s := (drawEnergy s).2) c.job.id
      obtain ⟨hfw, hagent, hact, hrun, hspdm, hmode⟩ := enterUpdate_restarts (s := restarting c.job.id (drawEnergy s).2) (some c.job.id)
      have hfw1 : (restarting c.job.id (drawEnergy s).2).fw 1 = s.fw 1 := fw_congr ((congrArg Mgmt.kinds hmgmt).trans rfl) 1
      rw [hfw1] at hfw
      rw [hpkg] at hmode
      have hact' := hact.trans (by rw [htick, hid])
      have hkind : k = 1 := hk
      rw [hkind]
      exact ⟨_, congrArg Host.Outcome.next (runVerb_of_wait hc hop hat hheld hrep hb), congrArg FwKind.active hfw, congrArg FwKind.trial hfw,
        hagent.trans (congrArg Mgmt.agent hmgmt), fun h1 => absurd rfl h1, fun _ => ⟨hact', hrun, hspdm, hmode⟩⟩
    · rw [if_neg hk] at hb
      have hm := runVerb_mgmt hw hb
      have hfw := (fw_congr (congrArg Mgmt.kinds hm) k).trans (activateRegions_fw k _)
      have hsame : (dropAgent (commit c.job.id (drawEnergy s).2)).fw k = s.fw k := fw_congr (congrArg Mgmt.kinds (commit_mgmt _ _)) k
      rw [hsame] at hfw
      refine ⟨_, rfl, congrArg FwKind.active hfw, congrArg FwKind.trial hfw, (congrArg Mgmt.agent hm).trans (activateRegions_agent _ _),
        fun _ => ⟨ended_of_body hw hb (keeps_committed (u := (drawEnergy s).2) hw rfl (activateRegions_cmds _ _)), fun hf => ?_, fun hf => ?_⟩, fun h1 => absurd h1 hk⟩
      · rw [hm, show (fld c.job.args 4 1 == 1) = false by rw [show fld c.job.args 4 1 = 0 from hf]; rfl, activateRegions_roll_false]
        exact (congrArg Mgmt.roll (commit_mgmt c.job.id (drawEnergy s).2)).trans rfl
      · obtain ⟨-, -, hroll⟩ := activateRegions_rolls (dropAgent (commit c.job.id (drawEnergy s).2)) k
        simp only [dropAgent_committed_region, dropAgent_committed_enabled] at hroll
        rw [hm, show (fld c.job.args 4 1 == 1) = true by rw [show fld c.job.args 4 1 = 1 from hf]; rfl]
        exact hroll
  · intro n
    have hb := mgmtFwCommit_commits (s := (drawEnergy s).2) h hr
    obtain ⟨l, m, hlog⟩ := mlog_mgmt ((commit c.job.id (drawEnergy s).2).modFw k (FwKind.committed n)) 4 (le 1 k ++ le 1 n)
    have hkinds := (congrArg Mgmt.kinds (runVerb_mgmt hw hb)).trans (congrArg Mgmt.kinds hlog)
    have hfw (q : Nat) : _ = ((commit c.job.id (drawEnergy s).2).modFw k (FwKind.committed n)).fw q := fw_congr hkinds q
    have hsame (q : Nat) : (commit c.job.id (drawEnergy s).2).fw q = s.fw q := fw_congr (congrArg Mgmt.kinds (commit_mgmt _ _)) q
    have hself := (hfw k).trans (fw_modFw_self _ k _)
    rw [hsame] at hself
    refine ⟨_, rfl, ended_of_body hw hb (keeps_committed (u := (drawEnergy s).2) hw rfl rfl), fun q hq => ((hfw q).trans (fw_modFw_ne hq _)).trans (hsame q),
      congrArg FwKind.counter hself, congrArg FwKind.trial hself, ?_, ?_⟩
    · rw [hself]
      exact committed_bank_other _ _
    · rw [hself]
      exact committed_bank_self _ _
  · have hb := mgmtFwCommit_deferred (s := (drawEnergy s).2) h hr
    exact ⟨_, rfl, ended_of_body hw hb (keeps_drawEnergy hw), (runVerb_mgmt hw hb).trans rfl⟩
  · exact ended_of hw (mgmtFwStatus_reports (s := (drawEnergy s).2) h) rfl
  · intro u
    have hb := mgmtSensors_reads (s := (drawEnergy s).2) h
    exact ⟨_, rfl, (runVerb_mgmt hw hb).trans rfl, ended_of_body hw hb (keeps_drawEnergy hw)⟩

end Sys2Proof.Machine
end

section
/-! PROOFS. Firmware starts and lapses (O48): the end of UPDATE and the requests it held, a step of a roll, and the record and freeze of a
HALT. -/

namespace Sys2Proof.Machine
open Safety

/-! ### UPDATE ends (R30, R58, R61, R468) -/

section Update
variable {s : State}

theorem reopen_same (i : Nat) (s : State) : SameButVectors s (reopen i s) := by
  unfold reopen
  split
  · have hset : SameButVectors s (s.modMbx i fun m => { m with reopened := true }) := rfl
    dsimp only
    split
    · exact hset.trans (raiseVector_same _ _ _)
    · exact hset
  · rfl

theorem serviceMode_ne_update (s : State) : s.serviceMode ≠ .update := by
  unfold State.serviceMode
  split
  · decide
  · split <;> decide

/-- UPDATE is over: its request is gone, the mode is another, and the rest of the management subsystem and the commands stay. -/
theorem endUpdate_ends (s : State) : (endUpdate s).mgmt = { s.mgmt with activating := none } ∧ (endUpdate s).cmds = s.cmds ∧
    (endUpdate s).pkg.mode ≠ .update := by
  unfold endUpdate
  extract_lets s1
  have hreopened : SameButVectors s (s.instances.foldl (fun s i => reopen i s) s) :=
    List.foldlRecOn (motive := fun t : State => SameButVectors s t) _ _ rfl fun t ht i _ => ht.trans (reopen_same i t)
  have hmgmt : s1.mgmt = { s.mgmt with activating := none } := by
    unfold s1
    rw [hreopened]
    rfl
  have hcmds : s1.cmds = s.cmds := by
    unfold s1
    rw [hreopened]
    rfl
  split
  · refine ⟨?_, ?_, ?_⟩
    · rw [setMode_same]
      exact hmgmt
    · rw [setMode_same]
      exact hcmds
    · rw [setMode_mode]
      split
      · decide
      · exact serviceMode_ne_update s1
  next hmode => exact ⟨hmgmt, hcmds, hmode⟩

/-- The commands, the mode and what runs are the same. -/
def SameRun (s t : State) : Prop :=
  t.cmds = s.cmds ∧ t.pkg.mode = s.pkg.mode ∧ t.mgmt.activating = s.mgmt.activating ∧ t.mgmt.image = s.mgmt.image ∧
    t.mgmt.running = s.mgmt.running ∧ t.mgmt.kinds = s.mgmt.kinds

theorem serveSpdm_run (doe : Bool) (x : SpdmReq) (s : State) : SameRun s (serveSpdm doe x s) := by
  have hkeeps : SameRun s s := ⟨rfl, rfl, rfl, rfl, rfl, rfl⟩
  unfold serveSpdm
  cases x with
  | openSession n d => exact hkeeps
  | endSession n => exact hkeeps
  | setCertificate n chain =>
    dsimp only
    split <;> exact hkeeps
  | ideKm n m =>
    dsimp only
    split <;> exact hkeeps
  | other b => exact hkeeps

theorem serveHeld_run (s : State) : SameRun s (serveHeld s) := by
  unfold serveHeld
  refine List.foldlRecOn (motive := fun t : State => SameRun s t) _ _ ⟨rfl, rfl, rfl, rfl, rfl, rfl⟩ fun t ht x _ => ?_
  obtain ⟨h1, h2, h3, h4, h5, h6⟩ := ht
  obtain ⟨k1, k2, k3, k4, k5, k6⟩ := serveSpdm_run true x t
  exact ⟨k1.trans h1, k2.trans h2, k3.trans h3, k4.trans h4, k5.trans h5, k6.trans h6⟩

theorem ended_congr {j : Nat} {c : Cmd} {r : Res} {s t : State} (h : Ended j c r s) (hc : t.cmds = s.cmds) : Ended j c r t := by
  obtain ⟨d, nj, hd, hrest⟩ := h
  exact ⟨d, nj, (cmd_congr hc j).trans hd, hrest⟩

theorem endActivating_ends {j : Nat} {c : Cmd} {t0 : Nat} (st : Status) (ha : s.mgmt.activating = some (some j, t0)) (hc : s.cmd? j = some c) :
    Ended j c (stRes st) (endActivating st s) ∧ (endActivating st s).mgmt = s.mgmt := by
  unfold endActivating
  rw [ha]
  exact ⟨finish_ended _ hc, finish_mgmt _ _ _⟩

/-- The firmware `image` runs, and serves what UPDATE held (R458, R471). -/
def firmwareRuns (image : List Byte) (s : State) : State := serveHeld (beatNow (s.modMgmt fun m => { m with image := image }))

theorem firmwareRuns_runs (image : List Byte) (s : State) : (firmwareRuns image s).cmds = s.cmds ∧
    (firmwareRuns image s).pkg.mode = s.pkg.mode ∧ (firmwareRuns image s).mgmt.activating = s.mgmt.activating ∧
    (firmwareRuns image s).mgmt.image = image ∧ (firmwareRuns image s).mgmt.running = true ∧
    (firmwareRuns image s).mgmt.kinds = s.mgmt.kinds := by
  obtain ⟨hcmds, hmode, hact, himage, hrun, hkinds⟩ := serveHeld_run (beatNow (s.modMgmt fun m => { m with image := image }))
  exact ⟨hcmds, hmode, hact, himage, hrun, hkinds⟩

/-- The request of an activation ends as UPDATE does (R468, R471). -/
theorem updateOver {j : Nat} {c : Cmd} {t0 : Nat} (st : Status) (ha : s.mgmt.activating = some (some j, t0)) (hc : s.cmd? j = some c)
    {t : State} (ht : t = endUpdate (endActivating st s)) :
    Ended j c (stRes st) t ∧ t.mgmt = { s.mgmt with activating := none } ∧ t.pkg.mode ≠ .update := by
  obtain ⟨hended, hkept⟩ := endActivating_ends st ha hc
  obtain ⟨hmgmt, hcmds, hmode⟩ := endUpdate_ends (endActivating st s)
  rw [ht]
  exact ⟨ended_congr hended hcmds, by rw [hmgmt, hkept], hmode⟩

end Update

section Fallback
variable {s : State}

/-- A kind that falls back to its other bank (R468). -/
def FwKind.fellBack (x : FwKind) : FwKind := { x with active := !x.active, trial := false, fallback := true }

/-- The state of an activation that falls back, its record of R461 written. -/
def fallingBack (s : State) : State := logActivation 1 (s.modFw 1 FwKind.fellBack)

theorem fallingBack_mgmt : ∃ l n, (fallingBack s).mgmt = { (s.modFw 1 FwKind.fellBack).mgmt with log := l, logSeq := n } := mlog_mgmt _ _ _

theorem exec_activationFallback {o : Option Nat} {t0 : Nat} {bad : Bool} (ha : s.mgmt.activating = some (o, t0))
    (hbad : bad = true ∨ t0 + 40000000 < s.tick) {t : State} (ht : t = endUpdate (endActivating .abortedFault (fallingBack s))) :
    exec (.activationFallback bad) s = .next (firmwareRuns t.mgmt.image t) := by
  subst ht
  refine congrArg Host.Outcome.next ?_
  rw [ha]
  exact if_pos (by simpa using hbad)

theorem exec_mgmtFirstHeartbeat {o : Option Nat} {t0 : Nat} (hb : s.beats = true) (ha : s.mgmt.activating = some (o, t0))
    (h : s.tick ≤ t0 + 40000000) {t : State} (ht : t = endUpdate (endActivating .ok s)) :
    exec .mgmtFirstHeartbeat s = .next (firmwareRuns ((t.fw 1).bank false).data t) := by
  subst ht
  refine congrArg Host.Outcome.next ?_
  rw [if_pos hb, ha]
  exact if_pos h

end Fallback

/-! ### A step of the roll (R467) -/

section Roll
variable {s : State} {x : Roll} {r ms : Nat} {rest : List Nat}

theorem rollOut_next (ht : x.todo = r :: rest) (hroll : s.rolled x.kind r = false) (hin : s.inService r = true)
    (hother : ∃ q ∈ regionNums, q ≠ r ∧ s.inService q = true) :
    ((rollOut x ms s).region r).svc.state = .draining ∧ (rollOut x ms s).mgmt.roll = some { x with todo := rest, out := some r } := by
  have hany : (regionNums.any fun q => q != r && s.inService q) = true := by
    obtain ⟨q, hq, hne, hs⟩ := hother
    exact List.any_eq_true.2 ⟨q, hq, by simp [hne, hs]⟩
  have hdrop : x.todo.dropWhile (fun q => s.rolled x.kind q) = r :: rest := by simp [ht, hroll]
  unfold rollOut
  rw [hdrop]
  dsimp only
  rw [if_pos (by rw [hin, hany]; rfl)]
  obtain ⟨u, hu, hsame⟩ := setRegionState_same r .draining false
    ((s.modRegion r fun g => { g with svc := { g.svc with outByCmd := true }, path := { g.path with drainBy := s.tick + ms * 1000000 } }).modMgmt
      fun m => { m with roll := some { x with todo := rest, out := some r } })
  refine ⟨?_, ?_⟩
  · rw [region_setRegionState]
    rfl
  · rw [hsame, hu]
    rfl

theorem startReturn_tests (r : Nat) (full : Bool) (s : State) : ((startReturn r full s).region r).svc.state = .testing := by
  unfold startReturn
  rw [region_setRegionState]
  rfl

theorem exec_rollOut {full : Bool} (hx : s.mgmt.roll = some x) (hh : s.pkg.halted = false) (ho : x.out = none) :
    exec (.regionRollStep ms full) s = .next (rollOut x ms s) := by
  refine congrArg Host.Outcome.next ?_
  rw [hx]
  dsimp only
  rw [hh, if_neg Bool.false_ne_true, ho]

theorem exec_rollBack {full : Bool} (hx : s.mgmt.roll = some x) (hh : s.pkg.halted = false) (ho : x.out = some r)
    (hs : (s.region r).svc.state = .diked) (hw : (s.region r).path.wiped = true) (hc : (s.region r).svc.outByCmd = true)
    (hd : s.debugHeld r = false) : exec (.regionRollStep ms full) s = .next (startReturn r full s) := by
  refine congrArg Host.Outcome.next ?_
  rw [hx]
  dsimp only
  rw [hh, if_neg Bool.false_ne_true, ho]
  exact if_pos (by rw [hs, hw, hc, hd]; rfl)

theorem exec_rollStops {full : Bool} (hx : s.mgmt.roll = some x) (hh : s.pkg.halted = false) (ho : x.out = some r)
    (hs : (s.region r).svc.state = .inService) (hf : (s.region r).svc.fallback.contains x.kind = true) :
    exec (.regionRollStep ms full) s = .next (s.modMgmt fun m => { m with roll := none }) := by
  refine congrArg Host.Outcome.next ?_
  rw [hx]
  dsimp only
  rw [hh, if_neg Bool.false_ne_true, ho]
  dsimp only
  rw [hs]
  exact if_pos hf

end Roll

/-! ### HALT of the management pair (R437, R439, R454) -/

section Halt
variable {s : State}

/-- What holds of the value a table holds under a key holds after a map that keeps it. -/
theorem tfind_map_imp {α : Type} (P : α → Prop) {f : Nat × α → Nat × α} (hf : ∀ e, (f e).1 = e.1 ∧ (P e.2 → P (f e).2)) {l : Tbl α} {k : Nat}
    (h : ∃ x, tfind l k = some x ∧ P x) : ∃ x, tfind (l.map f) k = some x ∧ P x := by
  induction l with
  | nil => exact h
  | cons e l ih =>
    obtain ⟨key, value⟩ := hf e
    rw [List.map_cons, tfind, key]
    rw [tfind] at h
    split
    next he =>
      rw [if_pos he] at h
      obtain ⟨x, hx, hp⟩ := h
      cases hx
      exact ⟨_, rfl, value hp⟩
    next he =>
      rw [if_neg he] at h
      exact ih h

/-- HALT leaves the records of the ring as they were, but for their mark of R438. -/
theorem doHaltAs_record (P : FaultRec → Prop) (hP : ∀ r, P r → P { r with subsumed := true }) (ev : Nat) {slot : Nat}
    (h : ∃ x, tfind s.faults.ring slot = some x ∧ P x) : ∃ x, tfind (doHaltAs ev s).faults.ring slot = some x ∧ P x := by
  have hfrozen (cp : Option Checkpoint) : (freezeBtn ev cp s).faults = s.faults := by rw [freezeBtn_same]
  unfold doHaltAs
  split
  · rw [hfrozen]
    exact h
  · refine tfind_map_imp P (fun e => ?_) ?_
    · split
      · exact ⟨rfl, hP e.2⟩
      · exact ⟨rfl, id⟩
    · show ∃ x, tfind (freezeBtn ev _ s).faults.ring slot = some x ∧ P x
      rw [hfrozen]
      exact h

theorem doHaltAs_halted (ev : Nat) (s : State) : (doHaltAs ev s).pkg.halted = true := by
  unfold doHaltAs
  split
  next h => rwa [freezeBtn_pkg]
  · rfl

theorem freezeBtn_freezes (ev : Nat) (cp : Option Checkpoint) (h : s.btn.freeze = none) :
    ∃ z, (freezeBtn ev cp s).btn.freeze = some z ∧ z.trigger = ev := by
  unfold freezeBtn
  rw [h]
  exact ⟨_, rfl, rfl⟩

theorem doHaltAs_freezes (ev : Nat) (hh : s.pkg.halted = false) (h : s.btn.freeze = none) :
    ∃ z, (doHaltAs ev s).btn.freeze = some z ∧ z.trigger = ev := by
  unfold doHaltAs
  rw [hh, if_neg Bool.false_ne_true]
  exact freezeBtn_freezes ev _ h

theorem btnRegion_slots (r ev a0 a1 : Nat) : SameSlots s (btnRegion r ev a0 a1 s) := by
  unfold btnRegion
  dsimp only
  split <;> exact ⟨rfl, rfl, rfl, rfl⟩

theorem raiseVector_slots (i v : Nat) : SameSlots s (raiseVector i v s) := by
  refine .of_btn ?_
  rw [raiseVector_same]

/-- Announcing a record leaves the frozen area (R447, R453). -/
theorem announceFault_slots (r : FaultRec) : SameSlots s (announceFault r s) := by
  have hregion : SameSlots s (match r.on.region with
      | some n => btnRegion n 3 r.fseq r.arg1 s
      | none => s) := by
    split
    · exact btnRegion_slots _ _ _ _
    · exact .of_btn rfl
  unfold announceFault
  dsimp only
  split
  · split
    · exact (hregion.trans (journalEvent_slots _ _ _ _ _)).trans (raiseVector_slots _ _)
    · exact hregion.trans (journalEvent_slots _ _ _ _ _)
  · exact hregion

theorem record_freeze {slot : Nat} (x : Raise) (c : FClass) (h : s.faults.slotFor = some slot) :
    (record x c s).2.btn.freeze = s.btn.freeze := by
  unfold record
  rw [h]
  obtain ⟨-, -, hfreeze, -⟩ := announceFault_slots (x.toRec c s) (s := s.modFaults fun f =>
    { f.count (x.toRec c s).cls with
      ring := tins slot (x.toRec c s) f.ring
      head := (x.toRec c s).fseq
      headSlot := slot
      pending := if (x.toRec c s).cls.acked && !(x.toRec c s).subsumed
        then f.pending ++ [{ fseq := (x.toRec c s).fseq, expiry := (x.toRec c s).tick + f.sluice (x.toRec c s).cls }] else f.pending
      lastSerious := if (x.toRec c s).cls.serious then some (x.toRec c s) else f.lastSerious })
  exact hfreeze

theorem record_halted {slot : Nat} (x : Raise) (c : FClass) (h : s.faults.slotFor = some slot) :
    (record x c s).2.pkg = s.pkg := by
  obtain ⟨f, hsame, -, -⟩ := record_slot _ x c h
  rw [hsame]

theorem exec_watchdogReset (hr : s.mgmt.running = true) (ha : s.mgmt.alive = false) (hact : s.mgmt.activating = none)
    (hheld : s.mgmt.held = false) : exec .watchdogReset s =
      .next ((doHaltAs evWatchdog (record { on := apexUnit .skanelPair 0xFF, cause := .watchdog } .halt s).2).modMgmt fun m =>
        { m with held := true, running := false }) :=
  congrArg Host.Outcome.next (if_pos (by rw [hr, ha, hact, hheld]; rfl))

theorem exec_skanelLockstepMismatch (hm : s.pkg.mode.mainPower = true) (hs : s.pkg.mode ≠ .standby) :
    exec .skanelLockstepMismatch s = .next (raiseHalt { on := apexUnit .skanelPair 0xFF, cause := .lockstep } s) :=
  congrArg Host.Outcome.next (if_pos (by simp [hm, hs]))

end Halt

/-- Settles O48: an activation ends in its first heartbeat or in the fall-back, a roll goes on region by region, and the watchdog and the
lockstep pair halt the package with a record. -/
theorem firmwareStartsAndLapses : Obligations.FirmwareStartsAndLapses := by
  intro s
  refine ⟨fun hb => ⟨fun ha => ?_, fun j c t0 ha hc ht => ?_⟩, fun j c t0 bad ha hc hbad => ?_, fun x r rest ms full hx hh =>
    ⟨fun ho ht hroll hin hother => ?_, fun ho hs hw hcmd hd => ?_, fun ho hs hf => exec_rollStops hx hh ho hs hf⟩,
    fun ha => ⟨fun ht => ?_, fun ht => ?_⟩, rfl, fun hr ha hact hheld hh => ?_, fun hm hs => ?_⟩
  · refine congrArg Host.Outcome.next ?_
    rw [if_pos hb, ha]
    rfl
  · generalize hover : endUpdate (endActivating .ok s) = u
    obtain ⟨hended, hmgmt, hmode⟩ := updateOver .ok ha hc hover.symm
    have hfw : u.fw 1 = s.fw 1 := fw_congr (by rw [hmgmt]) 1
    obtain ⟨hcmds, hmode', hact, himage, hrun, -⟩ := firmwareRuns_runs ((u.fw 1).bank false).data u
    exact ⟨_, exec_mgmtFirstHeartbeat hb ha ht hover.symm, ended_congr hended hcmds, hact.trans (by rw [hmgmt]), hrun,
      himage.trans (by rw [hfw]), by rwa [hmode']⟩
  · obtain ⟨l, n, hlog⟩ := fallingBack_mgmt (s := s)
    have hact' : (fallingBack s).mgmt.activating = some (some j, t0) := (congrArg Mgmt.activating hlog).trans ha
    generalize hover : endUpdate (endActivating .abortedFault (fallingBack s)) = u
    obtain ⟨hended, hmgmt, hmode⟩ := updateOver .abortedFault hact' hc hover.symm
    rw [hlog] at hmgmt
    obtain ⟨hcmds, hmode', hact, himage, -, hkinds⟩ := firmwareRuns_runs u.mgmt.image u
    have hfw : (firmwareRuns u.mgmt.image u).fw 1 = (s.fw 1).fellBack :=
      (fw_congr (hkinds.trans (by rw [hmgmt])) 1).trans (fw_modFw_self s 1 FwKind.fellBack)
    exact ⟨_, exec_activationFallback ha hbad hover.symm, ended_congr hended hcmds, hact.trans (by rw [hmgmt]), congrArg FwKind.active hfw,
      congrArg FwKind.fallback hfw, congrArg FwKind.trial hfw, himage.trans (by rw [hmgmt]; rfl), by rwa [hmode']⟩
  · obtain ⟨hstate, hroll'⟩ := rollOut_next (ms := ms) ht hroll hin hother
    exact ⟨_, exec_rollOut hx hh ho, hstate, hroll'⟩
  · exact ⟨_, exec_rollBack hx hh ho hs hw hcmd hd, startReturn_tests r full s⟩
  · exact congrArg Host.Outcome.next (if_neg (by simp [Nat.not_le.2 ht]))
  · exact congrArg Host.Outcome.next (if_pos (by simp [ha, ht]))
  · refine ⟨_, exec_watchdogReset hr ha hact hheld, doHaltAs_halted _ _, rfl, fun hf hslot => ?_⟩
    obtain ⟨slot, hslot⟩ := Option.ne_none_iff_exists'.1 hslot
    refine doHaltAs_freezes _ ?_ ?_
    · rw [record_halted _ _ hslot]
      exact hh
    · rw [record_freeze _ _ hslot]
      exact hf
  · refine ⟨_, exec_skanelLockstepMismatch hm hs, (raiseHalt_halted _ s).1, fun slot hslot => ?_⟩
    obtain ⟨f, hsame, -, hring⟩ := record_slot s { on := apexUnit .skanelPair 0xFF, cause := .lockstep } .halt hslot
    refine doHaltAs_record (fun r => r.on = apexUnit .skanelPair 0xFF ∧ r.cause = .lockstep ∧ r.cls = .halt) (fun _ h => h) evHalt ?_
    rw [hsame]
    exact ⟨_, (congrArg (tfind · slot) hring).trans (tfind_tins_self _ _ _), rfl, rfl, rfl⟩

end Sys2Proof.Machine
end

section
/-! PROOFS. Why the statement on life-cycle transitions fails (O51): the end of any request, a refused one too, takes from the vault the
record of a deleted key that stands for no command (R350). -/

namespace Sys2Proof.Machine
open Safety

/-- A LIFE.TRANSITION of the administrative mailbox without a request. -/
def emptyTransition : Cmd :=
  { job := { id := 3, src := .mbx, inst := 0, gen := 0, opcode := 0x0D02, handle := nullHandle, param := 0 }
    prog := { phase := .ready } }

/-- That LIFE.TRANSITION at work, with the record of a key that KEY.DELETE has freed, whose commands are gone. -/
def transitionBesideFreed : State := vaultOf freedKey [emptyTransition]

theorem transitionBesideFreed_atWork : AtWork 0x0D02 3 emptyTransition transitionBesideFreed := by decide

/-- The request has no layout of R478. -/
theorem transitionBesideFreed_refused : firstBad (paramZero emptyTransition.job 0xFFFFFFFF ::
    famEnabled transitionBesideFreed emptyTransition.job :: lcChecks transitionBesideFreed emptyTransition.job.request) =
      some .malformed := by decide

set_option maxRecDepth 8000 in
/-- The record leaves the vault when the refused LIFE.TRANSITION returns. -/
theorem lifeTransition_beside_freed : ∃ t, exec (.lifeTransition 3 0) transitionBesideFreed = .next t ∧ t.vault.handles = [] :=
  ⟨_, rfl, by decide⟩

/-- Refutes O51: a refused LIFE.TRANSITION changes the vault where the record of a deleted key stands for no command any more, since that
record leaves as the request ends. -/
theorem not_lifeCycleTransitions : ¬ Obligations.LifeCycleTransitions := by
  intro h
  obtain ⟨refused, -⟩ := h transitionBesideFreed 3 0 emptyTransition transitionBesideFreed_atWork
  obtain ⟨t, ht, -, -, hvault, -⟩ := refused .malformed transitionBesideFreed_refused
  obtain ⟨u, hu, hempty⟩ := lifeTransition_beside_freed
  obtain rfl : t = u := Host.Outcome.next.inj (ht.symm.trans hu)
  rw [hvault] at hempty
  exact absurd hempty (by decide)

end Sys2Proof.Machine
end

section
/-! PROOFS. Debug sessions (O52): the regions of a request drain before its session opens, and return through TESTING as it closes. -/

namespace Sys2Proof.Machine
open Safety

/-! ### Bits of a region mask -/

section Bits
variable {v w i : Nat}

theorem bit_eq_testBit (v i : Nat) : bit v i = v.testBit i := by
  rw [Nat.testBit_eq_decide_div_mod_eq]
  rfl

theorem bit_or (v w i : Nat) : bit (v ||| w) i = (bit v i || bit w i) := by
  simp only [bit_eq_testBit, Nat.testBit_or]

theorem bit_mod (h : i < 8) : bit (v % 256) i = bit v i := by
  rw [bit_eq_testBit, bit_eq_testBit, show 256 = 2 ^ 8 from rfl, Nat.testBit_mod_two_pow]
  simp [h]

theorem bit_zero_mod (h : v % 256 = 0) (hi : i < 8) : bit v i = false := by
  rw [← bit_mod hi, h, bit_eq_testBit]
  exact Nat.zero_testBit i

theorem exists_bit (h : v % 256 ≠ 0) : ∃ i, i < 8 ∧ bit v i = true := by
  obtain ⟨i, hi⟩ := Nat.exists_testBit_of_ne_zero h
  rw [show 256 = 2 ^ 8 from rfl, Nat.testBit_mod_two_pow] at hi
  simp only [Bool.and_eq_true, decide_eq_true_eq] at hi
  exact ⟨i, hi.1, (bit_eq_testBit v i).trans hi.2⟩

theorem mem_regionNums : i ∈ regionNums ↔ i < 8 := by
  unfold regionNums
  simp only [List.mem_cons, List.not_mem_nil, or_false]
  omega

end Bits

/-! ### A session starts (R487, R490) -/

section Start
variable {s : State} {a : DebugAsk} {r : Nat}

/-- The session that a request asks for. -/
def DebugAsk.session (a : DebugAsk) : DebugSession :=
  { byCert := a.cert, rights := a.rights, held := a.regions % 256, notAfter := a.notAfter }

/-- Region `r` drains for a session, within 100 ms. -/
def sessionDrain (r : Nat) (s : State) : State :=
  setRegionState r .draining false (s.modRegion r fun g =>
    { g with svc := { g.svc with outByCmd := true }, path := { g.path with drainBy := s.tick + 100000000 } })

/-- The regions of a mask drain. -/
def sessionDrains (n : Nat) (s : State) : State := (regionNums.filter fun r => bit n r).foldl (fun s r => sessionDrain r s) s

/-- A session waits to open. -/
def opening (job : Option Nat) (a : DebugAsk) (s : State) : State :=
  s.modLife fun l => { l with opening := some { job := job, session := a.session } }

theorem startSession_eq (job : Option Nat) : startSession job a s = openIfDue (sessionDrains a.regions (opening job a s)) := rfl

theorem sessionDrain_life (r : Nat) (s : State) : (sessionDrain r s).life = s.life := setRegionState_life _ _ _ _

theorem sessionDrain_tick (r : Nat) (s : State) : (sessionDrain r s).tick = s.tick := by
  obtain ⟨t, ht, hsame⟩ := setRegionState_same r .draining false (s.modRegion r fun g =>
    { g with svc := { g.svc with outByCmd := true }, path := { g.path with drainBy := s.tick + 100000000 } })
  unfold sessionDrain
  rw [hsame, ht]
  rfl

theorem sessionDrains_life (n : Nat) (s : State) : (sessionDrains n s).life = s.life :=
  foldl_keeps State.life _ (fun s r => sessionDrain_life r s) _ s

/-- A region that drains for a session. -/
def DrainsFor (tick : Nat) (g : Region) : Prop := g.svc.state = .draining ∧ g.svc.outByCmd = true ∧ g.path.drainBy = tick + 100000000

theorem sessionDrain_self (r : Nat) (s : State) : DrainsFor s.tick ((sessionDrain r s).region r) := by
  unfold sessionDrain DrainsFor
  rw [region_setRegionState, State.region_modRegion_self]
  exact ⟨rfl, rfl, rfl⟩

theorem sessionDrain_ne {q : Nat} (h : q ≠ r) (s : State) : (sessionDrain r s).region q = s.region q := by
  unfold sessionDrain
  rw [region_setRegionState_ne h, State.region_modRegion_ne _ _ _ _ h]

theorem sessionDrains_region (hr : r < 8) (hb : bit a.regions r = true) (s : State) :
    DrainsFor s.tick ((sessionDrains a.regions s).region r) := by
  refine foldl_reaches (P := fun t : State => t.tick = s.tick) (Q := fun t : State => t.tick = s.tick ∧ DrainsFor s.tick (t.region r)) (a := r)
    (fun t q ht => (sessionDrain_tick q t).trans ht) (fun t ht => ⟨(sessionDrain_tick r t).trans ht, ?_⟩)
    (fun t q ht => ⟨(sessionDrain_tick q t).trans ht.1, ?_⟩) (List.mem_filter.2 ⟨mem_regionNums.2 hr, hb⟩) rfl |>.2
  · rw [← ht]
    exact sessionDrain_self r t
  · by_cases hq : r = q
    · subst hq
      rw [← ht.1]
      exact sessionDrain_self r t
    · rw [sessionDrain_ne hq]
      exact ht.2

theorem sessionDrains_none (h : a.regions % 256 = 0) (s : State) : sessionDrains a.regions s = s := by
  have hnone : (regionNums.filter fun r => bit a.regions r) = [] :=
    List.filter_eq_nil_iff.2 fun r hr => by rw [bit_zero_mod h (mem_regionNums.1 hr)]; exact Bool.false_ne_true
  unfold sessionDrains
  rw [hnone]
  rfl

/-- A request for no region opens its session at once. -/
theorem startSession_opens (job : Option Nat) (h : a.regions % 256 = 0) : startSession job a s =
    match job with
    | some j => finish j { status := .ok } (sessionOpen { job := job, session := a.session } (opening job a s))
    | none => sessionOpen { job := job, session := a.session } (opening job a s) := by
  have hall : ((List.range 8).all fun r => !bit a.session.held r || ((opening job a s).region r).svc.state == .diked) = true := by
    refine List.all_eq_true.2 fun r hr => ?_
    have hbit : bit a.session.held r = false := (bit_mod (List.mem_range.1 hr)).trans (bit_zero_mod h (List.mem_range.1 hr))
    rw [hbit]
    rfl
  rw [startSession_eq, sessionDrains_none h]
  refine (openIfDue_opening (o := { job := job, session := a.session }) rfl).trans ((if_pos hall).trans ?_)
  cases job <;> rfl

/-- A request for regions leaves them draining. -/
theorem startSession_waits (job : Option Nat) (h : a.regions % 256 ≠ 0) :
    startSession job a s = sessionDrains a.regions (opening job a s) := by
  obtain ⟨r, hr, hb⟩ := exists_bit h
  obtain ⟨hstate, -, -⟩ := sessionDrains_region hr hb (opening job a s)
  have hall : ¬ ((List.range 8).all fun r => !bit a.session.held r ||
      ((sessionDrains a.regions (opening job a s)).region r).svc.state == .diked) = true := by
    intro hall
    have := List.all_eq_true.1 hall r (List.mem_range.2 hr)
    rw [show bit a.session.held r = true from (bit_mod hr).trans hb, hstate] at this
    exact absurd this (by decide)
  rw [startSession_eq]
  refine (openIfDue_opening (o := { job := job, session := a.session }) ?_).trans (if_neg hall)
  rw [sessionDrains_life]
  rfl

theorem sessionOpen_life (o : DebugOpening) (s : State) : (sessionOpen o s).life =
    { s.life with session := some o.session, opening := none, dbgAuth := if o.job.isNone then 0 else s.life.dbgAuth } := by
  unfold sessionOpen
  dsimp only
  split
  · rw [setMode_same]
  · rfl

theorem sessionOpen_mode (o : DebugOpening) (h : s.pkg.mode.isService = true) : (sessionOpen o s).pkg.mode = .debug := by
  unfold sessionOpen
  dsimp only
  rw [if_pos h]
  exact setMode_mode .debug _

theorem sessionOpen_cmds (o : DebugOpening) (s : State) : (sessionOpen o s).cmds = s.cmds := by
  obtain ⟨l, h⟩ := sessionOpen_same o s
  rw [h]

end Start

/-! ### A session closes (R487) -/

section Close
variable {s : State} {r : Nat}

theorem dormant_keeps (r p : Nat) (s : State) : (dormant r p s).life = s.life ∧ (dormant r p s).cmds = s.cmds := ⟨rfl, rfl⟩

theorem wipeSram_life (r : Nat) (s : State) : (wipeSram r s).life = s.life := by
  unfold wipeSram
  generalize panNums = l
  rw [State.modRegion_life]
  exact foldl_keeps State.life (fun s p => dormant r p s) (fun s p => (dormant_keeps r p s).1) l s

theorem wipeSram_cmds (r : Nat) (s : State) : (wipeSram r s).cmds = s.cmds := by
  unfold wipeSram
  generalize panNums = l
  rw [State.modRegion_cmds]
  exact foldl_keeps State.cmds (fun s p => dormant r p s) (fun s p => (dormant_keeps r p s).2) l s

theorem region_wipeSram_ne {q : Nat} (h : q ≠ r) (s : State) : (wipeSram r s).region q = s.region q := by
  unfold wipeSram
  generalize panNums = l
  rw [State.region_modRegion_ne _ _ _ _ h]
  exact foldl_keeps (fun t : State => t.region q) (fun s p => dormant r p s) (fun s p => State.region_modRegion_ne _ r q _ h) l s

/-- A region that has returned from a session is tested, by the quick test. -/
def Returned (g : Region) : Prop := g.svc.state = .testing ∧ g.path.full = false

theorem startReturn_region (r : Nat) (full : Bool) (s : State) :
    ((startReturn r full s).region r).svc.state = .testing ∧ ((startReturn r full s).region r).path.full = full := by
  unfold startReturn
  rw [region_setRegionState, State.region_modRegion_self]
  exact ⟨rfl, rfl⟩

theorem startReturn_ne {q : Nat} (h : q ≠ r) (full : Bool) (s : State) : (startReturn r full s).region q = s.region q := by
  unfold startReturn
  rw [region_setRegionState_ne h, State.region_modRegion_ne _ _ _ _ h]

theorem returnHeld_self (h : (s.region r).svc.state = .diked) : Returned ((returnHeld r s).region r) := by
  unfold returnHeld
  rw [h]
  exact startReturn_region r false _

theorem returnHeld_ne {q : Nat} (h : q ≠ r) (s : State) : (returnHeld r s).region q = s.region q := by
  unfold returnHeld
  split
  · rw [startReturn_ne h]
    split
    · rfl
    · exact region_wipeSram_ne h s
  · rfl

theorem startReturn_keeps (r : Nat) (full : Bool) (s : State) : (startReturn r full s).life = s.life ∧ (startReturn r full s).cmds = s.cmds := by
  unfold startReturn
  rw [setRegionState_life, setRegionState_cmds, State.modRegion_life, State.modRegion_cmds]
  exact ⟨rfl, rfl⟩

theorem returnHeld_keeps (r : Nat) (s : State) : (returnHeld r s).life = s.life ∧ (returnHeld r s).cmds = s.cmds := by
  unfold returnHeld
  split
  · obtain ⟨hlife, hcmds⟩ := startReturn_keeps r false (if (s.region r).path.wiped then s else wipeSram r s)
    rw [hlife, hcmds]
    split
    · exact ⟨rfl, rfl⟩
    · exact ⟨wipeSram_life r s, wipeSram_cmds r s⟩
  · exact ⟨rfl, rfl⟩

theorem returnHeld_stays (q : Nat) (h : Returned (s.region r)) : Returned ((returnHeld q s).region r) := by
  by_cases hq : r = q
  · subst hq
    unfold returnHeld
    rw [h.1]
    exact h
  · rw [returnHeld_ne hq]
    exact h

/-- A diked region among those held returns. -/
theorem foldl_returnHeld {l : List Nat} (hr : r ∈ l) (h : (s.region r).svc.state = .diked) :
    Returned ((l.foldl (fun s r => returnHeld r s) s).region r) := by
  have hstep (t : State) (q : Nat) (ht : (t.region r).svc.state = .diked ∨ Returned (t.region r)) :
      ((returnHeld q t).region r).svc.state = .diked ∨ Returned ((returnHeld q t).region r) := by
    rcases ht with ht | ht
    · by_cases hq : r = q
      · subst hq
        exact .inr (returnHeld_self ht)
      · rw [returnHeld_ne hq]
        exact .inl ht
    · exact .inr (returnHeld_stays q ht)
  refine foldl_reaches (P := fun t : State => (t.region r).svc.state = .diked ∨ Returned (t.region r))
    (Q := fun t : State => Returned (t.region r)) (a := r) hstep (fun t ht => ?_) (fun t q ht => returnHeld_stays q ht) hr (.inl h)
  rcases ht with ht | ht
  · exact returnHeld_self ht
  · exact returnHeld_stays r ht

/-- The life cycle after a session has closed. -/
def Life.closed (l : Life) : Life := { l with session := none, opening := none, halted := [], steps := [] }

/-- The regions held by the session that is open, and by the one that waits to open. -/
def heldMask (s : State) : Nat := ((s.life.session.map (·.held)).getD 0) ||| ((s.life.opening.map (·.session.held)).getD 0)

/-- The state without its session, its held regions on their way back. -/
def heldReturned (s : State) : State := (regionNums.filter fun r => bit (heldMask s) r).foldl (fun s r => returnHeld r s)
  { s with
    life := s.life.closed
    pkg := { s.pkg with dbgOpen := false } }

theorem closeSession_eq (s : State) : closeSession s =
    if s.life.session.isSome && (heldReturned s).pkg.mode == .debug then setMode (heldReturned s).serviceMode (heldReturned s)
    else heldReturned s := rfl

theorem heldReturned_keeps (s : State) : (heldReturned s).life = s.life.closed ∧ (heldReturned s).cmds = s.cmds :=
  ⟨foldl_keeps State.life _ (fun s r => (returnHeld_keeps r s).1) _ _, foldl_keeps State.cmds _ (fun s r => (returnHeld_keeps r s).2) _ _⟩

theorem heldReturned_region (hb : bit (heldMask s) r = true) (hr : r < 8) (hd : (s.region r).svc.state = .diked) :
    Returned ((heldReturned s).region r) :=
  foldl_returnHeld (List.mem_filter.2 ⟨mem_regionNums.2 hr, hb⟩) hd

/-- A session that closes leaves no other, and its diked regions return. -/
theorem closeSession_closes {x : DebugSession} (hx : s.life.session = some x) : (closeSession s).life = s.life.closed ∧
    (closeSession s).cmds = s.cmds ∧ (bit x.held r = true → r < 8 → (s.region r).svc.state = .diked → Returned ((closeSession s).region r)) := by
  obtain ⟨hlife, hcmds⟩ := heldReturned_keeps s
  have hreturned (hb : bit x.held r = true) (hr : r < 8) (hd : (s.region r).svc.state = .diked) : Returned ((heldReturned s).region r) := by
    refine heldReturned_region ?_ hr hd
    unfold heldMask
    rw [hx, bit_or]
    exact Bool.or_eq_true_iff.2 (.inl hb)
  rw [closeSession_eq]
  split
  · rw [region_congr (setMode_regions _ _)]
    refine ⟨?_, ?_, hreturned⟩
    · rw [setMode_same]
      exact hlife
    · rw [setMode_same]
      exact hcmds
  · exact ⟨hlife, hcmds, hreturned⟩

end Close

/-! ### The verbs and instructions -/

section Verbs
variable {s : State} {c : Cmd}

theorem lifeDebugOpen_starts (h : Passes [paramZero c.job 0xFFFFFFFF, famEnabled s c.job])
    (hc : Passes (debugChecks s c.job.request c.job.acceptTick c.job.acceptTq)) : lifeDebugOpen c s =
      (startSession (some c.job.id) (debugAsk c.job.request) ((commit c.job.id s).modProg c.job.id fun p => { p with phase := .running }), none) := by
  unfold lifeDebugOpen
  exact orBad_passes ((firstBad_append h _).trans hc) _

theorem lifeDebugOpen_refused {st : Status} (h : Passes [paramZero c.job 0xFFFFFFFF, famEnabled s c.job])
    (hc : firstBad (debugChecks s c.job.request c.job.acceptTick c.job.acceptTq) = some st) : lifeDebugOpen c s = (s, some (stRes st)) := by
  unfold lifeDebugOpen
  exact orBad_refuses ((firstBad_append h _).trans hc) _

/-- The checks of R490 pass with no session open. -/
theorem debugChecks_session {b : List Byte} {t tq : Nat} (h : Passes (debugChecks s b t tq)) : s.life.session = none := by
  unfold debugChecks at h
  simp only [passes_cons, check_passes, Bool.and_eq_true] at h
  obtain ⟨-, ⟨⟨-, hsession⟩, -⟩, -⟩ := h
  exact Option.isNone_iff_eq_none.1 hsession

theorem lifeDebugClose_closes (h : Passes [paramZero c.job 0xFFFFFFFF, bodyIs c.job 0, famEnabled s c.job]) (hs : s.life.session.isSome = true) :
    lifeDebugClose c s = (closeSession (commit c.job.id s), some okRes) := by
  unfold lifeDebugClose
  refine orBad_passes ((firstBad_append h [check s.life.session.isSome .lifecycle]).trans ?_) _
  rw [hs]
  rfl

theorem lifeStatus_reports (h : Passes [paramZero c.job 0xFFFFFFFF, bodyIs c.job 0, famEnabled s c.job]) : lifeStatus c s =
    (s, some (respRes (le 1 s.lcState ++ le 2 s.life.otp.lcCount ++ le 1 s.life.otp.dbgCount ++ le 4 s.lcsDebug ++ zeros 8))) := by
  unfold lifeStatus
  exact orBad_passes h _

end Verbs

/-! ### How the commands of the verbs end -/

section Ends
variable {s : State} {j : Nat} {c : Cmd}

@[simp] theorem commit_life (j : Nat) (s : State) : (commit j s).life = s.life := by rw [commit_same]

theorem runVerb_life {op : Nat} {body : Cmd → State → State × Option Res} {s1 : State} {r : Res} (hw : AtWork op j c s)
    (hb : body c (drawEnergy s).2 = (s1, some r)) : (runVerb op j body s).life = s1.life := by
  obtain ⟨hc, hop, hat, hheld, hrep⟩ := hw
  rw [runVerb_of_body hc hop hat hheld hrep hb, finish_life, countJob_life]
  rfl

theorem Keeps.finish_ended {t : State} (r : Res) (h : Keeps c t) : Ended c.job.id c r (finish c.job.id r t) := by
  obtain ⟨d, hd, hjob⟩ := h
  obtain ⟨e, nj, he, hejob, hrest⟩ := Machine.finish_ended r hd
  exact ⟨e, nj, he, hejob.trans hjob, hrest⟩

/-- The request that asks for a session, committed and at its work. -/
def sessionAsked (j : Nat) (s : State) : State := (commit j s).modProg j fun p => { p with phase := .running }

theorem sessionAsked_keeps (j : Nat) (s : State) : (sessionAsked j s).life = s.life ∧ (sessionAsked j s).pkg = s.pkg ∧
    (sessionAsked j s).tick = s.tick := by
  refine ⟨commit_life j s, commit_pkg j s, ?_⟩
  have htick : (commit j s).tick = s.tick := by rw [commit_same]
  exact htick

theorem keeps_sessionAsked {op : Nat} (hw : AtWork op j c s) : Keeps c (sessionAsked c.job.id (drawEnergy s).2) :=
  (keeps_committed (u := (drawEnergy s).2) (t := commit c.job.id (drawEnergy s).2) hw rfl rfl).modProg _ rfl

end Ends

section Tap
variable {s : State}

theorem vendorOnly_passes {code : Nat} {ok : Bool} {tdi : List Byte} {act : State → State} (hm : s.pkg.mode.mainPower = true) (hok : ok = true) :
    vendorOnly code ok tdi act s = act (tapIr code s) := by
  unfold vendorOnly tapOn
  rw [if_pos hm, if_pos hok]

theorem findSome_id (l : List (Option Status)) : l.findSome? id = firstBad l := by
  induction l with
  | nil => rfl
  | cons a l ih =>
    cases a with
    | none => exact ih
    | some st => rfl

/-- The checks of R490 do not read the instruction register. -/
theorem debugChecks_tapIr (n : Nat) (b : List Byte) (t tq : Nat) : debugChecks (tapIr n s) b t tq = debugChecks s b t tq := rfl

theorem exec_tapDbgAuth (b : List Byte) (hm : s.pkg.mode.mainPower = true) (hlc : s.lcState = 3 ∨ s.lcState = 4) :
    exec (.tapDbgAuth b) s = .next (debugAuth b (tapIr 0x20 s)) :=
  congrArg Host.Outcome.next (vendorOnly_passes hm (by simpa using hlc))

theorem debugAuth_starts {b : List Byte} (h : Passes (debugChecks s b s.tick s.time.quality.code)) :
    debugAuth b (tapIr 0x20 s) = startSession none (debugAsk b) (tapIr 0x20 s) := by
  unfold debugAuth
  have hsame : firstBad (debugChecks (tapIr 0x20 s) b (tapIr 0x20 s).tick (tapIr 0x20 s).time.quality.code) = none := h
  rw [findSome_id, hsame]

theorem debugAuth_refused {b : List Byte} {st : Status} (h : firstBad (debugChecks s b s.tick s.time.quality.code) = some st) :
    debugAuth b (tapIr 0x20 s) = { s with life := { s.life with tapIr := 0x20, dbgAuth := st.code } } := by
  unfold debugAuth
  have hsame : firstBad (debugChecks (tapIr 0x20 s) b (tapIr 0x20 s).tick (tapIr 0x20 s).time.quality.code) = some st := h
  rw [findSome_id, hsame]
  rfl

end Tap

/-- Settles O52: a session opens once its regions stand diked, at once where it asks for none, and its regions return as it closes. -/
theorem debugSessions : Obligations.DebugSessions := by
  intro s j r c b a d checks now Draining
  refine ⟨fun hw hreq hpass => ⟨fun hc h0 => ?_, fun hc h0 => ?_, fun st hc => ?_⟩, fun hm hlc => ⟨fun hc h0 => ?_, fun hc h0 => ?_, fun st hc => ?_⟩,
    fun x hx => ?_, fun hw h => ?_⟩
  · subst hreq
    have hid := cmd_id hw.1
    have hkeeps := keeps_sessionAsked hw
    obtain ⟨hlife, hpkg, htick⟩ := sessionAsked_keeps c.job.id (drawEnergy s).2
    obtain ⟨hcmd, hop, hat, hheld, hrep⟩ := hw
    have hb : lifeDebugOpen c (drawEnergy s).2 = (startSession (some c.job.id) a (sessionAsked c.job.id (drawEnergy s).2), none) :=
      lifeDebugOpen_starts (s := (drawEnergy s).2) hpass hc
    rw [startSession_opens _ h0] at hb
    refine ⟨_, congrArg Host.Outcome.next (runVerb_of_wait hcmd hop hat hheld hrep hb), ?_, ?_, fun hs => ?_⟩
    · rw [← hid]
      exact (hkeeps.of_cmds (sessionOpen_cmds _ _)).finish_ended okRes
    · dsimp only
      rw [finish_life, sessionOpen_life]
      rfl
    · dsimp only
      rw [finish_pkg]
      refine sessionOpen_mode _ ((congrArg (fun p : Pkg => p.mode.isService) hpkg).trans hs)
  · subst hreq
    have hid := cmd_id hw.1
    obtain ⟨hlife, hpkg, htick⟩ := sessionAsked_keeps c.job.id (drawEnergy s).2
    obtain ⟨hcmd, hop, hat, hheld, hrep⟩ := hw
    have hb : lifeDebugOpen c (drawEnergy s).2 = (startSession (some c.job.id) a (sessionAsked c.job.id (drawEnergy s).2), none) :=
      lifeDebugOpen_starts (s := (drawEnergy s).2) hpass hc
    rw [startSession_waits _ h0] at hb
    refine ⟨_, congrArg Host.Outcome.next (runVerb_of_wait hcmd hop hat hheld hrep hb), fun hr h8 => ?_, ?_, ?_⟩
    · have hdrains := sessionDrains_region h8 hr (opening (some c.job.id) a (sessionAsked c.job.id (drawEnergy s).2))
      rw [show (opening (some c.job.id) a (sessionAsked c.job.id (drawEnergy s).2)).tick = s.tick from htick] at hdrains
      exact hdrains
    · rw [sessionDrains_life]
      exact (congrArg Life.session hlife).trans (debugChecks_session hc)
    · rw [sessionDrains_life, ← hid]
      rfl
  · subst hreq
    have hb := lifeDebugOpen_refused (s := (drawEnergy s).2) hpass hc
    exact ⟨_, rfl, ended_of_body hw hb (keeps_drawEnergy hw), (runVerb_life hw hb).trans rfl⟩
  · rw [exec_tapDbgAuth b hm hlc, debugAuth_starts hc, startSession_opens none h0]
    refine ⟨_, rfl, ?_⟩
    rw [sessionOpen_life]
    exact ⟨rfl, rfl⟩
  · rw [exec_tapDbgAuth b hm hlc, debugAuth_starts hc, startSession_waits none h0]
    refine ⟨_, rfl, fun hr h8 => sessionDrains_region h8 hr _, ?_⟩
    rw [sessionDrains_life]
    rfl
  · rw [exec_tapDbgAuth b hm hlc, debugAuth_refused hc]
  · intro Closed
    refine ⟨fun hw h => ?_, fun hm => ?_, fun hcert hend => ?_, fun hopen => ?_⟩
    · have hb := lifeDebugClose_closes (s := (drawEnergy s).2) (c := c) h (Option.isSome_iff_exists.2 ⟨x, hx⟩)
      have hx' : (commit c.job.id (drawEnergy s).2).life.session = some x := (congrArg Life.session (commit_life _ _)).trans hx
      obtain ⟨hlife, hcmds, hreturned⟩ := closeSession_closes (r := r) hx'
      rw [commit_life] at hlife
      have hend := (runVerb_life hw hb).trans hlife
      refine ⟨runVerb 0x0D04 j lifeDebugClose s, rfl, ⟨congrArg Life.session hend, congrArg Life.opening hend, congrArg Life.halted hend,
        (congrArg Life.otp hend).trans rfl, fun hbit h8 hd => ?_⟩, ended_of_body hw hb (keeps_committed (u := (drawEnergy s).2) hw rfl hcmds)⟩
      rw [svc_unitsBlind.runVerb hw hb, path_unitsBlind.runVerb hw hb]
      exact hreturned hbit h8 ((congrArg (fun g : Region => g.svc.state) (region_commit _ _ _)).trans hd)
    · obtain ⟨hlife, -, hreturned⟩ := closeSession_closes (s := tapIr 0x21 s) (r := r) hx
      refine ⟨_, congrArg Host.Outcome.next (vendorOnly_passes hm (Option.isSome_iff_exists.2 ⟨x, hx⟩)), congrArg Life.session hlife,
        congrArg Life.opening hlife, congrArg Life.halted hlife, (congrArg Life.otp hlife).trans rfl, hreturned⟩
    · obtain ⟨hlife, -, hreturned⟩ := closeSession_closes (r := r) hx
      exact ⟨_, congrArg Host.Outcome.next (if_pos (by simp [hx, hcert, hend])), congrArg Life.session hlife,
        congrArg Life.opening hlife, congrArg Life.halted hlife, (congrArg Life.otp hlife).trans rfl, hreturned⟩
    · refine congrArg Host.Outcome.next (if_neg ?_)
      rw [hx]
      rcases hopen with hcert | hearly
      · simp [hcert]
      · simp [Nat.not_le.2 hearly]
  · have hb := lifeStatus_reports (s := (drawEnergy s).2) h
    exact ⟨_, rfl, (runVerb_life hw hb).trans rfl, ended_of_body hw hb (keeps_drawEnergy hw)⟩

end Sys2Proof.Machine
end

section
/-! PROOFS. The test access port (O53): what an instruction shifts out, the registers that a read through the port does not disturb, and
each instruction where its condition holds and where it fails. -/

namespace Sys2Proof.Machine
open Safety

/-! ### Registers do not read the instruction register (R491, R492) -/

section Registers
variable (n : Nat) (s : State) (r p o : Nat)

theorem latReg_tapIr : latReg (tapIr n s) r o = latReg s r o := rfl
theorem cellLatReg_tapIr : cellLatReg (tapIr n s) r p o = cellLatReg s r p o := rfl
theorem digReg_tapIr : digReg (tapIr n s) r o = digReg s r o := rfl
theorem numReg_tapIr : numReg (tapIr n s) r o = numReg s r o := rfl
theorem sltPanReg_tapIr : sltPanReg (tapIr n s) r p o = sltPanReg s r p o := rfl
theorem cellNumReg_tapIr : cellNumReg (tapIr n s) r p o = cellNumReg s r p o := rfl
theorem inspectReg_tapIr : inspectReg (tapIr n s) r o = inspectReg s r o := rfl
theorem symReg_tapIr : symReg (tapIr n s) r o = symReg s r o := rfl
theorem rngReg_tapIr : rngReg (tapIr n s) r o = rngReg s r o := rfl
theorem shelfReg_tapIr : shelfReg (tapIr n s) r o = shelfReg s r o := rfl
theorem custReg_tapIr : custReg (tapIr n s) r o = custReg s r o := rfl
theorem svcReg_tapIr : svcReg (tapIr n s) r o = svcReg s r o := rfl
theorem enabled_tapIr : (tapIr n s).enabled r = s.enabled r := rfl
theorem pan_tapIr : (tapIr n s).pan r p = s.pan r p := rfl
theorem inst_tapIr : (tapIr n s).inst r = s.inst r := rfl
theorem respWord_tapIr : respWord (tapIr n s) r o = respWord s r o := rfl
theorem mbxReg_tapIr : mbxReg (tapIr n s) 0 o = mbxReg s 0 o := rfl
theorem ringWord_tapIr : ringWord (tapIr n s) o = ringWord s o := rfl
theorem jrnReg_tapIr : jrnReg (tapIr n s) o = jrnReg s o := rfl
theorem storeWord_tapIr : storeWord (tapIr n s) o = storeWord s o := rfl
theorem bar2Reg_tapIr : bar2Reg (tapIr n s) r o = bar2Reg s r o := rfl
theorem cfgReg_tapIr : cfgReg (tapIr n s) r o = cfgReg s r o := rfl

theorem regionReg_tapIr : regionReg (tapIr n s) r o = regionReg s r o := by
  unfold regionReg
  simp only [latReg_tapIr, cellLatReg_tapIr, digReg_tapIr, numReg_tapIr, sltPanReg_tapIr, cellNumReg_tapIr, inspectReg_tapIr, symReg_tapIr,
    rngReg_tapIr, shelfReg_tapIr, custReg_tapIr, svcReg_tapIr, pan_tapIr]
  rfl

theorem packageReg_tapIr : packageReg (tapIr n s) o = packageReg s o := by
  unfold packageReg
  rfl

theorem pfReg_tapIr : pfReg (tapIr n s) o = pfReg s o := by
  unfold pfReg
  rw [regionReg_tapIr, packageReg_tapIr, respWord_tapIr, mbxReg_tapIr, ringWord_tapIr, jrnReg_tapIr, storeWord_tapIr, inst_tapIr]

theorem readReg_tapIr : readReg (tapIr n s) 0 o = readReg s 0 o := by
  unfold readReg
  rw [cfgReg_tapIr, bar2Reg_tapIr, pfReg_tapIr, if_pos rfl, if_pos rfl]

end Registers

/-! ### What an instruction shifts out (R491) -/

section Shifts
variable {s : State} {code : Nat} {pins tdi : List Byte} {act : State → State} {ok : Bool}

/-- The instruction `ir` is in force and shifted `l` out, and nothing else but the port's own registers changed. -/
def ShiftsOut (s t : State) (ir : Nat) (l : List Byte) : Prop := t = { s with life := t.life, out := s.out ++ [.tdo l] } ∧
  t.life.tapIr = ir ∧ t.life.otp = s.life.otp ∧ t.life.session = s.life.session

/-- What the bypass register gives for what is shifted in: the same bits, one later. -/
def oneLater (tdi : List Byte) : List Byte := le tdi.length (2 * unle tdi)

theorem tapOn_main (hm : s.pkg.mode.mainPower = true) (t : State) : tapOn s t = t := if_pos hm

theorem sampled_shifts (pins tdi : List Byte) : ShiftsOut s (sampled pins tdi (tapIr code s)) code pins ∧
    (sampled pins tdi (tapIr code s)).life.boundary = tdi ∧ (sampled pins tdi (tapIr code s)).life.extestDenied = s.life.extestDenied :=
  ⟨⟨rfl, rfl, rfl, rfl⟩, rfl, rfl⟩

theorem bypassed_shifts (tdi : List Byte) : ShiftsOut s (bypassed tdi (tapIr code s)) code (oneLater tdi) ∧
    (bypassed tdi (tapIr code s)).life.boundary = s.life.boundary := ⟨⟨rfl, rfl, rfl, rfl⟩, rfl⟩

/-- The state after an instruction of the EXTEST group that PERST_N denies. -/
def extestDenied (code : Nat) (pins tdi : List Byte) (s : State) : State :=
  sampled pins tdi ((tapIr code s).modLife fun l => { l with extestDenied := true })

theorem extest_denied (hm : s.pkg.mode.mainPower = true) (hp : s.pkg.perstHigh = true) :
    extest code act pins tdi s = extestDenied code pins tdi s := by
  unfold extest
  rw [tapOn_main hm, if_pos hp]
  rfl

theorem extestDenied_shifts : ShiftsOut s (extestDenied code pins tdi s) code pins ∧ (extestDenied code pins tdi s).life.extestDenied = true ∧
    (extestDenied code pins tdi s).life.boundary = tdi := by
  unfold ShiftsOut extestDenied sampled tapIr State.modLife emit
  exact ⟨⟨rfl, rfl, rfl, rfl⟩, rfl, rfl⟩

theorem extest_acts (hm : s.pkg.mode.mainPower = true) (hp : s.pkg.perstHigh = false) : extest code act pins tdi s = act (tapIr code s) := by
  unfold extest
  rw [tapOn_main hm, hp, if_neg Bool.false_ne_true]

/-- An instruction that acts on the pins as EXTEST does. -/
theorem extest_samples (hm : s.pkg.mode.mainPower = true) (t : State) (ht : t = extest code (sampled pins tdi) pins tdi s) :
    (s.pkg.perstHigh = true → ShiftsOut s t code pins ∧ t.life.extestDenied = true ∧ t.life.boundary = tdi) ∧
      (s.pkg.perstHigh = false → ShiftsOut s t code pins ∧ t.life.boundary = tdi ∧ t.life.extestDenied = s.life.extestDenied) := by
  subst ht
  refine ⟨fun hp => ?_, fun hp => ?_⟩
  · rw [extest_denied hm hp]
    exact extestDenied_shifts
  · rw [extest_acts hm hp]
    exact sampled_shifts pins tdi

/-- An instruction of the group that selects the bypass register. -/
theorem extest_bypasses (hm : s.pkg.mode.mainPower = true) (t : State) (ht : t = extest code (bypassed tdi) pins tdi s) :
    (s.pkg.perstHigh = true → ShiftsOut s t code pins ∧ t.life.extestDenied = true ∧ t.life.boundary = tdi) ∧
      (s.pkg.perstHigh = false → ShiftsOut s t code (oneLater tdi) ∧ t.life.boundary = s.life.boundary) := by
  subst ht
  refine ⟨fun hp => ?_, fun hp => ?_⟩
  · rw [extest_denied hm hp]
    exact extestDenied_shifts
  · rw [extest_acts hm hp]
    exact bypassed_shifts tdi

/-- The state after an instruction of the vendor's whose condition fails. -/
def vendorDenied (code : Nat) (tdi : List Byte) (s : State) : State :=
  bypassed tdi ((tapIr code s).modLife fun l => { l with dbgDenied := true })

theorem vendorOnly_denied (hm : s.pkg.mode.mainPower = true) (hok : ok = false) : vendorOnly code ok tdi act s = vendorDenied code tdi s := by
  unfold vendorOnly
  rw [tapOn_main hm, hok, if_neg Bool.false_ne_true]
  rfl

theorem vendorDenied_shifts : ShiftsOut s (vendorDenied code tdi s) code (oneLater tdi) ∧ (vendorDenied code tdi s).life.dbgDenied = true :=
  ⟨⟨rfl, rfl, rfl, rfl⟩, rfl⟩

theorem vendorOnly_denies (hm : s.pkg.mode.mainPower = true) (hok : ok = false) :
    ∃ t, (Host.Outcome.next (vendorOnly code ok [] act s) : Host.Outcome State Fault Refusal) = .next t ∧ ShiftsOut s t code [] ∧
      t.life.dbgDenied = true :=
  ⟨_, congrArg Host.Outcome.next (vendorOnly_denied hm hok), vendorDenied_shifts⟩

end Shifts

/-! ### Instructions of a session and of the test floor (R487-R489, R491) -/

section Session
variable {s : State}

theorem length_drawBytes (n : Nat) (s : State) : (drawBytes n s).1.length = n :=
  fit_length n _

theorem spaceBytes_out (x : DbgSpace) (s : State) : (spaceBytes x s).2.out = s.out := by
  cases x with
  | store r p o n =>
    unfold spaceBytes
    dsimp only
    split <;> rfl
  | slotMem r p o n =>
    unfold spaceBytes
    dsimp only
    split <;> rfl
  | _ => rfl

theorem tapDbgRead_reads {x : DbgSpace} (hm : s.pkg.mode.mainPower = true) (hok : spaceOk s x = true) : exec (.tapDbgRead x) s =
    .next (emit (.tdo (spaceBytes x (tapIr 0x22 s)).1) (spaceBytes x (tapIr 0x22 s)).2) :=
  congrArg Host.Outcome.next (vendorOnly_passes hm hok)

theorem spaceBytes_register {k : Nat} (hk : mailboxBuffer 0 k = false) :
    (spaceBytes (.register 0 k) (tapIr 0x22 s)).1 = le 4 ((readReg s 0 k).getD 0) := by
  unfold spaceBytes
  dsimp only
  rw [hk, if_neg Bool.false_ne_true, readReg_tapIr]

theorem tapDbgHalt_acts {c : CoreId} (o : DbgOp) (hm : s.pkg.mode.mainPower = true) (hr : s.right 0 = true) (hc : s.holdsCore c = true) :
    exec (.tapDbgHalt c o) s = .next (debugHalt c o (tapIr 0x24 s)) :=
  congrArg Host.Outcome.next (vendorOnly_passes hm (by rw [hr, hc]; rfl))

theorem debugHalt_halts (c : CoreId) (s : State) : c ∈ (debugHalt c .halt s).life.halted := by
  show c ∈ (if s.life.halted.contains c then s.life.halted else s.life.halted ++ [c])
  split
  next h => exact List.contains_iff_mem.1 h
  next => exact List.mem_append_right _ List.mem_cons_self

theorem debugHalt_resumes (c : CoreId) (s : State) : c ∉ (debugHalt c .resume s).life.halted := by
  show c ∉ s.life.halted.filter fun d => !(d == c)
  simp

theorem find_append_new {α : Type} {p : α → Bool} {l : List α} {x : α} (hl : l.find? p = none) (hx : p x = true) :
    (l ++ [x]).find? p = some x := by
  rw [List.find?_append, hl]
  exact List.find?_cons_of_pos hx

/-- A routine that starts stands on its core, at its entry. -/
theorem run_startRun (job : Option Nat) (d : CoreId) (p : CustPkg) (rt : Routine) (args : List Byte) (ins : Nat → List Byte) (s : State) :
    ∃ y, (startRun job d p rt args ins s).run? d = some y ∧ y.pc = rt.entry ∧ y.job = job := by
  unfold startRun State.run?
  exact ⟨_, find_append_new (run_dropRunOn s d) (by simp), rfl, rfl⟩

theorem tapDbgRun_runs {c : CoreId} {n i m : Nat} {p : CustPkg} {q : Routine} {k : UnitKind} (args : List Byte) (ins : Tbl (List Byte))
    (hm : s.pkg.mode.mainPower = true) (hr : s.right 3 = true) (hc : s.holdsCore c = true) (hn : s.routine? n = some (i, p, q))
    (hcell : c.cell = some (k, m)) (hk : k = q.kind) (hfree : s.run? c = none) : exec (.tapDbgRun c n args ins) s =
      .next (startRun none c p q args (tget (fun _ => []) ins) (tapIr 0x25 s)) := by
  refine congrArg Host.Outcome.next ((vendorOnly_passes hm (by rw [hr, hc]; rfl)).trans ?_)
  unfold debugRun
  rw [show (tapIr 0x25 s).routine? n = some (i, p, q) from hn, hcell]
  refine if_pos ⟨hk, ?_⟩
  rw [show (tapIr 0x25 s).run? c = none from hfree]
  rfl

/-- A write of FLT_SLUICE_CONTAIN in a session takes a time in its range. -/
theorem tapDbgWrite_sluice {v : Nat} (hm : s.pkg.mode.mainPower = true) (hs : s.life.session.isSome = true) (hlc : s.lcState = 4)
    (hlo : 10 ≤ v) (hhi : v ≤ 10000000) :
    ∃ t, exec (.tapDbgWrite 0 0x5008 v) s = .next t ∧ t.faults.sluiceContain = v := by
  have hword : v % 2 ^ 32 = v := Nat.mod_eq_of_lt (by omega)
  have hbits : bits v 23 0 = v := by
    unfold bits
    omega
  refine ⟨fltWrite 8 v (tapIr 0x23 s), congrArg Host.Outcome.next ((vendorOnly_passes hm (by rw [hs, hlc]; rfl)).trans ?_), ?_⟩
  · unfold writeRegs
    rw [if_neg (by decide), hword]
    exact (writeReg_package (s := tapIr 0x23 s) (a := 0x5008) (by decide) rfl (by decide)).trans rfl
  · rw [fltWrite_sluice_faults, hbits]
    exact if_pos ⟨hlo, hhi⟩

end Session

/-- Settles O53: an instruction whose condition holds acts as R491 says on the instruction register's state, and one whose condition fails
as BYPASS or SAMPLE/PRELOAD. -/
theorem testAccessPort : Obligations.TestAccessPort := by
  intro s pins tdi hm Outs one kept
  refine ⟨?_, ?_, ?_, ?_, fun n x hx => ?_, fun x o c n args ins f => ⟨fun ok code y hy hok => ?_, fun hok => ?_, fun hr hc => ⟨?_, ?_, ?_⟩,
    fun i p q k m hr hc hn hcell hk hfree => ?_, fun hft => ?_⟩, fun hs hlc v hlo hhi => tapDbgWrite_sluice hm hs hlc hlo hhi,
    fun hft y hy => ?_, fun hft y hy => ?_⟩
  · obtain ⟨houts, hbound, -⟩ := sampled_shifts (s := s) (code := 0x01) pins tdi
    exact ⟨_, congrArg Host.Outcome.next (tapOn_main hm _), houts, hbound⟩
  · exact ⟨_, congrArg Host.Outcome.next (tapOn_main hm _), rfl, rfl, rfl, rfl⟩
  · exact ⟨_, congrArg Host.Outcome.next (tapOn_main hm _), rfl, rfl, rfl, rfl⟩
  · exact ⟨_, congrArg Host.Outcome.next (tapOn_main hm _), (bypassed_shifts tdi).1⟩
  · have hsamples (code : Nat) := extest_samples (code := code) (pins := pins) (tdi := tdi) hm _ rfl
    have hbypasses (code : Nat) := extest_bypasses (code := code) (pins := pins) (tdi := tdi) hm _ rfl
    simp only [List.mem_cons, Prod.mk.injEq, List.not_mem_nil, or_false] at hx
    rcases hx with ⟨rfl, rfl⟩ | ⟨rfl, rfl⟩ | ⟨rfl, rfl⟩ | ⟨rfl, rfl⟩ | ⟨rfl, rfl⟩
    · exact ⟨_, rfl, (hsamples 0).1, fun _ hn => absurd hn (by decide), fun hp _ _ => (hsamples 0).2 hp⟩
    · exact ⟨_, rfl, (hsamples 5).1, fun _ hn => absurd hn (by decide), fun hp _ _ => (hsamples 5).2 hp⟩
    · exact ⟨_, rfl, (hsamples 6).1, fun _ hn => absurd hn (by decide), fun hp _ _ => (hsamples 6).2 hp⟩
    · exact ⟨_, rfl, (hbypasses 3).1, fun hp _ => (hbypasses 3).2 hp, fun _ hn _ => absurd rfl hn⟩
    · exact ⟨_, rfl, (hbypasses 4).1, fun hp _ => (hbypasses 4).2 hp, fun _ _ hn => absurd rfl hn⟩
  · simp only [List.mem_cons, Prod.mk.injEq, List.not_mem_nil, or_false] at hy
    rcases hy with ⟨rfl, rfl, rfl⟩ | ⟨rfl, rfl, rfl⟩ | ⟨rfl, rfl, rfl⟩ | ⟨rfl, rfl, rfl⟩ | ⟨rfl, rfl, rfl⟩ | ⟨rfl, rfl, rfl⟩
    · exact vendorOnly_denies hm hok
    · exact vendorOnly_denies hm hok
    · exact vendorOnly_denies hm hok
    · exact vendorOnly_denies hm hok
    · exact vendorOnly_denies hm hok
    · exact vendorOnly_denies hm hok
  · refine ⟨_, tapDbgRead_reads hm hok, _, congrArg (· ++ [_]) ((spaceBytes_out x _).trans rfl), ?_⟩
    rintro k rfl hk
    exact spaceBytes_register hk
  · exact ⟨_, tapDbgHalt_acts .halt hm hr hc, debugHalt_halts c _⟩
  · exact ⟨_, tapDbgHalt_acts .resume hm hr hc, debugHalt_resumes c _⟩
  · exact ⟨_, tapDbgHalt_acts (.readG n) hm hr hc, rfl, rfl, rfl, rfl⟩
  · obtain ⟨y, hy, hpc, hjob⟩ := run_startRun none c p q args (tget (fun _ => []) ins) (tapIr 0x25 s)
    exact ⟨_, y, tapDbgRun_runs args ins hm hr hc hn hcell hk hfree, hy, hpc, hjob⟩
  · exact ⟨_, congrArg Host.Outcome.next (vendorOnly_passes hm (by simpa using hft)), rfl, rfl, rfl⟩
  · have hok : (s.pkg.mode == .factoryTest) = true := by rw [hft]; rfl
    simp only [List.mem_cons, List.not_mem_nil, or_false] at hy
    rcases hy with rfl | rfl
    · exact ⟨_, _, congrArg Host.Outcome.next (vendorOnly_passes hm hok), rfl, length_drawBytes _ _⟩
    · exact ⟨_, _, congrArg Host.Outcome.next (vendorOnly_passes hm hok), rfl, length_drawBytes _ _⟩
  · have hok : (s.pkg.mode == .factoryTest) = false := by simpa using hft
    simp only [List.mem_cons, List.not_mem_nil, or_false] at hy
    rcases hy with rfl | rfl
    · exact ⟨_, congrArg Host.Outcome.next (vendorOnly_denied hm hok), rfl, rfl⟩
    · exact ⟨_, congrArg Host.Outcome.next (vendorOnly_denied hm hok), rfl, rfl⟩

end Sys2Proof.Machine
end

section
/-! PROOFS. ERASE (O55): every region stays blank as jobs end, the jobs that ERASE ends, the stores and records of an erase, and what sets
it off. -/

namespace Sys2Proof.Machine
open Safety

/-! ### Blank regions (R498) -/

section Blank
variable {s : State}

/-- A region without keys and without random bytes. -/
def Blank (g : Region) : Prop := g.shelf = [] ∧ g.keks = [] ∧ g.kekHere = false ∧ g.rng.reservoir = 0

/-- Every entry of the table of regions is blank. -/
def AllBlank (s : State) : Prop := ∀ e ∈ s.regions, Blank e.2

theorem mem_tins {α : Type} {k : Nat} {v : α} {t : Tbl α} {e : Nat × α} (h : e ∈ tins k v t) : e ∈ t ∨ e = (k, v) := by
  induction t with
  | nil => exact .inr (List.mem_singleton.1 h)
  | cons x t ih =>
    rw [tins] at h
    split at h
    · rcases List.mem_cons.1 h with rfl | h
      · exact .inr rfl
      · exact .inl h
    · split at h
      · rcases List.mem_cons.1 h with rfl | h
        · exact .inr rfl
        · exact .inl (List.mem_cons_of_mem _ h)
      · rcases List.mem_cons.1 h with rfl | h
        · exact .inl List.mem_cons_self
        · exact (ih h).imp (List.mem_cons_of_mem _) id

theorem mem_tdel {α : Type} {k : Nat} {t : Tbl α} {e : Nat × α} (h : e ∈ tdel t k) : e ∈ t := by
  induction t with
  | nil => exact h
  | cons x t ih =>
    rw [tdel] at h
    split at h
    · exact List.mem_cons_of_mem _ (ih h)
    · rcases List.mem_cons.1 h with rfl | h
      · exact List.mem_cons_self
      · exact List.mem_cons_of_mem _ (ih h)

theorem mem_tset {α : Type} [DecidableEq α] {d : Nat → α} {k : Nat} {v : α} {t : Tbl α} {e : Nat × α} (h : e ∈ tset d t k v) :
    e ∈ t ∨ e = (k, v) := by
  unfold tset at h
  split at h
  · exact .inl (mem_tdel h)
  · exact mem_tins h

/-- What holds of every value of a table and of its default holds of what it gives. -/
theorem tget_holds {α : Type} {P : α → Prop} {d : Nat → α} {t : Tbl α} (h : ∀ e ∈ t, P e.2) (hd : ∀ k, P (d k)) (k : Nat) : P (tget d t k) := by
  induction t with
  | nil => exact hd k
  | cons e t ih =>
    rw [tget]
    split
    · exact h e List.mem_cons_self
    · exact ih fun e he => h e (List.mem_cons_of_mem _ he)

theorem AllBlank.region (h : AllBlank s) (r : Nat) : Blank (s.region r) := tget_holds h (fun _ => ⟨rfl, rfl, rfl, rfl⟩) r

theorem AllBlank.modRegion (h : AllBlank s) (r : Nat) {f : Region → Region} (hf : ∀ g, Blank g → Blank (f g)) : AllBlank (s.modRegion r f) := by
  intro e he
  rcases mem_tset he with he | rfl
  · exact h e he
  · exact hf _ (h.region r)

/-- Changes of pans, of cell registers and of the crystallizer keep a region blank. -/
theorem Blank.units {g : Region} (h : Blank g) (pans : Tbl Pan) (latCells numCells : Tbl CellRec) (lat : Lat) (sym : Sym) :
    Blank { g with pans := pans, latCells := latCells, numCells := numCells, lat := lat, sym := sym } := h

theorem Blank.modCell {g : Region} (h : Blank g) (k : UnitKind) (n : Nat) (f : CellRec → CellRec) : Blank (g.modCell k n f) := by
  unfold Region.modCell
  split
  · exact h
  · exact h

/-- What holds of a state and stays with each step of a fold holds at its end. -/
theorem foldl_stays {α : Type} {P : State → Prop} {f : State → α → State} (h : ∀ s x, P s → P (f s x)) (l : List α) (hs : P s) :
    P (l.foldl f s) := List.foldlRecOn (motive := P) l f hs fun t ht x _ => h t x ht

theorem AllBlank.modPan (h : AllBlank s) (r p : Nat) (f : Pan → Pan) : AllBlank (s.modPan r p f) :=
  AllBlank.modRegion h r fun g hg => hg.units _ g.latCells g.numCells g.lat g.sym

theorem AllBlank.freeSlots (h : AllBlank s) (j : Nat) : AllBlank (freeSlots j s) := by
  have wiped (q : Nat) (s : State) (u : UnitKind × Nat) (h : AllBlank s) : AllBlank (wipeLocal q u s) := by
    unfold wipeLocal
    split <;> exact h
  unfold Machine.freeSlots
  split
  · exact h
  · exact foldl_stays (fun s q hs => foldl_stays (wiped q) _ hs) _ (foldl_stays (fun s x hs => hs.modPan _ _ _) _ h)

theorem AllBlank.takeWarm (h : AllBlank s) (r : Nat) : AllBlank (takeWarm r s) := by
  have kind (k : UnitKind) (i want : Nat) (s : State) (h : AllBlank s) : AllBlank (takeWarmKind r k i want s) := by
    unfold takeWarmKind
    refine foldl_stays (fun s n hs => ?_) _ h
    dsimp only
    split
    · exact hs.modRegion r fun g hg => hg.modCell k n _
    · split
      · exact hs.modRegion r fun g hg => hg.modCell k n _
      · exact hs
  unfold Machine.takeWarm
  split
  · refine foldl_stays (fun s w hs => ?_) _ h
    split
    · exact kind _ _ _ _ (kind _ _ _ _ hs)
    · exact hs
  · exact h

theorem AllBlank.restPans (h : AllBlank s) : AllBlank (restPans s) := by
  unfold Machine.restPans
  refine foldl_stays (fun s r hs => foldl_stays (fun s p hs => ?_) _ hs) _ h
  split
  · exact hs.modPan r p _
  · exact hs

theorem AllBlank.dropCryst (h : AllBlank s) (r : Nat) (p : CrystEntry → Bool) : AllBlank (dropCryst r p s) :=
  AllBlank.modRegion h r fun g hg => hg.units g.pans g.latCells g.numCells _ g.sym

theorem AllBlank.settleCryst (h : AllBlank s) : AllBlank (settleCryst s) := by
  unfold Machine.settleCryst
  exact foldl_stays (fun s r hs => hs.dropCryst r _) _ h

theorem AllBlank.settleShelf (h : AllBlank s) : AllBlank (settleShelf s) := by
  intro e he
  obtain ⟨d, hd, rfl⟩ := List.mem_map.1 he
  obtain ⟨hshelf, hrest⟩ := h d hd
  refine ⟨?_, hrest⟩
  dsimp only
  rw [hshelf]
  rfl

theorem AllBlank.settleUnits (h : AllBlank s) : AllBlank (settleUnits s) := by
  have hwarm (l : List Nat) : AllBlank (l.foldl (fun s r => Machine.takeWarm r s) s) := foldl_stays (fun s r hs => hs.takeWarm r) l h
  exact (hwarm _).restPans.settleCryst.settleShelf

theorem AllBlank.finish (h : AllBlank s) (j : Nat) (r : Res) : AllBlank (finish j r s) := by
  have hfreed : AllBlank ((Machine.freeSlots j s).modProg j fun p =>
      { p with phase := .returned, unit := none, wait := none, slots := [], pond := 0, check := none, pair := {}, granted := 0,
               res := some r }) := h.freeSlots j
  exact hfreed.settleUnits

theorem AllBlank.countJob (h : AllBlank s) (j : Nat) : AllBlank (countJob j s) := by
  have onUnit (r : Nat) (k : UnitKind) (n : Nat) (s : State) (h : AllBlank s) : AllBlank (countJobOn r k n s) := by
    unfold countJobOn
    split
    · exact h.modRegion r fun g hg => hg.modCell .lattice n _
    · exact h.modRegion r fun g hg => hg.modCell .number n _
    · exact h.modRegion r fun g hg => hg.units g.pans g.latCells g.numCells g.lat _
    · exact h
  unfold Machine.countJob
  split
  · exact h
  · split
    · dsimp only
      split
      · exact onUnit _ _ _ _ (onUnit _ _ _ _ h)
      · exact onUnit _ _ _ _ h
    · exact h

end Blank

/-! ### Records, and the jobs that end (R498, R500) -/

section Jobs
variable {s : State}

/-- Every field but the aggregator, the journal, the bittern area, the instances' pending vectors and the messages is the same. -/
def SameButRecords (s t : State) : Prop := t = { s with
  faults := t.faults, insts := t.insts, jrn := t.jrn, btn := t.btn, out := t.out, free := t.free }

theorem SameButRecords.trans {s t u : State} (h : SameButRecords s t) (k : SameButRecords t u) : SameButRecords s u := by
  unfold SameButRecords at *
  rw [k, h]

theorem SameButRings.records {s t : State} (h : SameButRings s t) : SameButRecords s t := by
  unfold SameButRings at h
  unfold SameButRecords
  rw [h]

theorem SameButBtn.records {s t : State} (h : SameButBtn s t) : SameButRecords s t := by
  unfold SameButBtn at h
  unfold SameButRecords
  rw [h]

theorem record_erase_records (x : Raise) (s : State) : SameButRecords s (record x .erase s).2 := by
  have announced (f : Faults → Faults) (r : FaultRec) : SameButRecords s (announceFault r (s.modFaults f)) :=
    (show SameButRecords s (s.modFaults f) from rfl).trans (announceFault_rings _ r).records
  have put (n : Nat) (r : FaultRec) : SameButRecords s (putRecord n r s) := announced _ r
  have unheld (r : FaultRec) : SameButRecords s (putUnheld r s) := announced _ r
  unfold record
  dsimp only
  split
  · dsimp only
    exact put _ _
  · rw [if_neg (by decide), if_pos (by decide)]
    dsimp only
    exact unheld _

theorem foldl_records (xs : List Raise) (s : State) :
    SameButRecords s (xs.foldl (fun s x => (record x .erase (addedEvent evTamper s)).2) s) :=
  List.foldlRecOn (motive := fun t : State => SameButRecords s t) _ _ rfl fun t ht x _ =>
    ht.trans ((addedEvent_same t evTamper).records.trans (record_erase_records x _))

/-- Every job of the list is at its end, with the status of an abort. -/
theorem foldl_fail_ends (st : Status) (l : List Nat) (s : State) : ∀ d ∈ (l.foldl (fun s j => fail j st s) s).cmds,
    (d ∈ s.cmds ∧ d.job.id ∉ l) ∨ (∃ c ∈ s.cmds, c.job = d.job) ∧ d.prog.phase = .returned ∧ d.prog.res = some (stRes st) := by
  induction l generalizing s with
  | nil => exact fun d hd => .inl ⟨hd, List.not_mem_nil⟩
  | cons j l ih =>
    intro d hd
    have failed (c : Cmd) (hc : c ∈ (fail j st s).cmds) :
        (c ∈ s.cmds ∧ c.job.id ≠ j) ∨ (∃ b ∈ s.cmds, b.job = c.job) ∧ c.prog.phase = .returned ∧ c.prog.res = some (stRes st) := by
      have hcmds : (fail j st s).cmds = ((freeSlots j s).modProg j fun p =>
        { p with phase := .returned, unit := none, wait := none, slots := [], pond := 0, check := none, pair := {}, granted := 0,
                 res := some { status := st } }).cmds := settleUnits_cmds _
      rw [hcmds] at hc
      obtain ⟨b, hb, hbc⟩ := List.mem_map.1 hc
      rw [freeSlots_cmds] at hb
      by_cases hj : b.job.id = j
      · rw [if_pos (beq_iff_eq.2 hj)] at hbc
        subst hbc
        exact .inr ⟨⟨b, hb, rfl⟩, rfl, rfl⟩
      · rw [if_neg (mt beq_iff_eq.1 hj)] at hbc
        subst hbc
        exact .inl ⟨hb, hj⟩
    rw [List.foldl_cons] at hd
    rcases ih _ d hd with ⟨hin, hnot⟩ | ⟨⟨c, hc, hjob⟩, hends⟩
    · rcases failed d hin with ⟨hin, hne⟩ | hends
      · exact .inl ⟨hin, fun h => (List.mem_cons.1 h).elim hne hnot⟩
      · exact .inr hends
    · rcases failed c hc with ⟨hin, -⟩ | ⟨⟨b, hb, hbc⟩, -⟩
      · exact .inr ⟨⟨c, hin, hjob⟩, hends⟩
      · exact .inr ⟨⟨b, hb, hbc.trans hjob⟩, hends⟩

theorem settleUnits_vault (s : State) : (settleUnits s).vault = { s.vault with handles := (settleUnits s).vault.handles } := by
  unfold settleUnits settleShelf
  dsimp only
  rw [settleCryst_same, restPans_same, SameButRegions.foldl s _ (fun s r => takeWarm_same s r) _]

theorem finish_vault (j : Nat) (r : Res) (s : State) : (finish j r s).vault = { s.vault with handles := (finish j r s).vault.handles } :=
  (settleUnits_vault _).trans (by rw [State.modProg_vault, freeSlots_vault]; rfl)

/-- What the end of a job leaves, as an erase ends it. -/
def Stands (s t : State) : Prop := t.pkg = s.pkg ∧ t.frames = s.frames ∧ t.btn = s.btn ∧ t.tamper = s.tamper ∧ t.tick = s.tick ∧
  t.vault = { s.vault with handles := t.vault.handles }

theorem Stands.trans {s t u : State} (h : Stands s t) (k : Stands t u) : Stands s u := by
  obtain ⟨h1, h2, h3, h4, h5, h6⟩ := h
  obtain ⟨k1, k2, k3, k4, k5, k6⟩ := k
  exact ⟨k1.trans h1, k2.trans h2, k3.trans h3, k4.trans h4, k5.trans h5, by rw [k6, h6]⟩

theorem finish_stands (j : Nat) (r : Res) (s : State) : Stands s (finish j r s) :=
  ⟨finish_pkg j r s, finish_frames j r s, finish_btn s j r, finish_tamper s j r, by simp [finish], finish_vault j r s⟩

theorem foldl_fail_stands (st : Status) (l : List Nat) (s : State) : Stands s (l.foldl (fun s j => fail j st s) s) :=
  List.foldlRecOn (motive := fun t : State => Stands s t) _ _ ⟨rfl, rfl, rfl, rfl, rfl, rfl⟩ fun t ht j _ => ht.trans (finish_stands j _ t)

end Jobs

/-! ### An erase (R498-R503) -/

section Erase
variable (xs : List Raise) (cls : List Nat) (s : State)

/-- What an erase comes to before it wipes: what triggered it is recorded, the disturbances subsumed, the bittern area frozen. -/
def recorded : State := freezeBtn evErase none
  (subsume (fun r => r.cause == .disturbance) (xs.foldl (fun s x => (record x .erase (addedEvent evTamper s)).2) s))

/-- The package with its stores wiped and its jobs ended. -/
def wipedOut : State := eraseJobs (eraseStores (recorded xs s))

theorem recorded_same : SameButRecords s (recorded xs s) := by
  have hsub (t : State) : SameButRecords t (subsume (fun r => r.cause == .disturbance) t) := rfl
  exact ((foldl_records xs s).trans (hsub _)).trans (freezeBtn_same _ _ _).records

theorem recorded_frozen : (recorded xs s).btn.freeze.isSome = true := freezeBtn_frozen _ _ _

theorem eraseStores_blank (s : State) : AllBlank (eraseStores s) := by
  intro e he
  obtain ⟨d, -, rfl⟩ := List.mem_map.1 he
  exact ⟨rfl, rfl, rfl, rfl⟩

theorem eraseStores_keyless (s : State) : ∀ e ∈ (eraseStores s).frames.streams, e.2.key0 = none ∧ e.2.key1 = none := by
  intro e he
  obtain ⟨d, -, rfl⟩ := List.mem_map.1 he
  exact ⟨rfl, rfl⟩

theorem eraseJobs_blank (h : AllBlank s) : AllBlank (eraseJobs s) := by
  unfold eraseJobs
  exact foldl_stays (fun s j hs => hs.finish j _) _ h

theorem eraseJobs_stands : Stands s (eraseJobs s) := foldl_fail_stands _ _ _

/-- Every command that is a job of a region, or none of the mailbox, is at its end as one that an erase aborts (R500). -/
def JobsEnded (t : State) : Prop := ∀ d ∈ t.cmds, d.job.has (·.region) = true ∨ d.job.mbx = false →
  d.prog.phase = .returned ∧ d.prog.res = some (stRes .abortedFault)

theorem eraseJobs_ends : JobsEnded (eraseJobs s) := by
  intro d hd hjob
  rcases foldl_fail_ends _ _ _ d hd with ⟨hin, hnot⟩ | ⟨-, hends⟩
  · refine absurd (List.mem_map.2 ⟨d, List.mem_filter.2 ⟨hin, ?_⟩, rfl⟩) hnot
    rcases hjob with h | h
    · simp [h]
    · simp [h]
  · exact hends

/-- The stores of R498 are wiped in `t`, and the burns are due, after an erase of `s`. -/
def WipedFrom (s t : State) : Prop := t.pkg.zeroized = true ∧ t.pkg.batteryKey = none ∧ t.vault.ownerSeed = none ∧
  t.vault.rootReady = false ∧ t.tamper.burnDue = true ∧ t.btn.freeze.isSome = true ∧
  (s.pkg.zeroized = false → t.tamper.epochDue = true) ∧ AllBlank t ∧
  (∀ e ∈ t.frames.streams, e.2.key0 = none ∧ e.2.key1 = none) ∧ t.vault.epoch = s.vault.epoch

theorem wipedOut_stands : Stands (eraseStores (recorded xs s)) (wipedOut xs s) := eraseJobs_stands _

theorem doErase_tamper : (doErase xs cls s).tamper =
    { latch ((newClasses (recorded xs s) cls).eraseDups) s.tick s.tamper with
      burnDue := true, epochDue := s.tamper.epochDue || !s.pkg.zeroized, disturbs := [],
      burned := if s.pkg.zeroized then s.tamper.burned else [] } := by
  obtain ⟨-, -, -, htamper, -, -⟩ := wipedOut_stands xs s
  have hsame : (recorded xs s).tamper = s.tamper := by rw [recorded_same]
  have hkept : (wipedOut xs s).tamper = s.tamper := htamper.trans hsame
  have hagain : (recorded xs s).pkg.zeroized = s.pkg.zeroized := congrArg (·.pkg.zeroized) (recorded_same xs s)
  rw [← hkept, ← hagain]
  rfl

theorem doErase_wipes : WipedFrom s (doErase xs cls s) := by
  obtain ⟨hpkg, hframes, hbtn, -, -, hvault⟩ := wipedOut_stands xs s
  have htamper := doErase_tamper xs cls s
  have hepoch : (wipedOut xs s).vault.epoch = s.vault.epoch :=
    (congrArg Vault.epoch hvault).trans (congrArg (·.vault.epoch) (recorded_same xs s))
  have hkeyless : ∀ e ∈ (wipedOut xs s).frames.streams, e.2.key0 = none ∧ e.2.key1 = none := by
    rw [hframes]
    exact eraseStores_keyless _
  have hfrozen : (wipedOut xs s).btn.freeze.isSome = true := by
    rw [hbtn]
    exact recorded_frozen xs s
  refine ⟨rfl, congrArg Pkg.batteryKey hpkg, congrArg Vault.ownerSeed hvault, congrArg Vault.rootReady hvault,
    congrArg Tamper.burnDue htamper, hfrozen, fun h => ?_, eraseJobs_blank _ (eraseStores_blank _), hkeyless, hepoch⟩
  rw [htamper]
  simp [h]

theorem doErase_ends : JobsEnded (doErase xs cls s) := eraseJobs_ends _

theorem mem_latch {c : Nat} (cls : List Nat) (t : Nat) (x : Tamper) (h : c ∈ cls) : c ∈ (latch cls t x).latched := by
  unfold latch
  by_cases hx : c ∈ x.latched
  · exact List.mem_append_left _ hx
  · exact List.mem_append_right _ (List.mem_filter.2 ⟨h, by simp [hx]⟩)

/-- The class of every trigger is latched where the package was not erased before (R502). -/
theorem doErase_latched {c : Nat} (hc : c ∈ cls) (hz : s.pkg.zeroized = false) : c ∈ (doErase xs cls s).tamper.latched := by
  have hagain : (recorded xs s).pkg.zeroized = false := (congrArg (·.pkg.zeroized) (recorded_same xs s)).trans hz
  rw [doErase_tamper]
  refine mem_latch _ s.tick _ (List.mem_eraseDups.2 ?_)
  unfold newClasses
  rw [hagain]
  exact hc

/-- An erase without a monitor's class latches none (R502). -/
theorem doErase_latches_none : (doErase xs [] s).tamper.latched = s.tamper.latched := by
  have hnone : newClasses (recorded xs s) [] = [] := by
    unfold newClasses
    split <;> rfl
  rw [doErase_tamper, hnone]
  exact List.append_nil _

/-- An alarm of monitor `v` erased the package (R498, R503). -/
def AlarmedFrom (s : State) (v : Nat) (t : State) : Prop := WipedFrom s t ∧ JobsEnded t ∧ t.tamper.lastTick = s.tick ∧
  t.tamper.lastUnit = v ∧ (s.pkg.zeroized = false → v / 16 ∈ t.tamper.latched)

/-- An alarm of monitor `v` on VBAT alone (R506). -/
def BackedFrom (s : State) (v : Nat) (t : State) : Prop := t.pkg = { s.pkg with batteryKey := none } ∧ v / 16 ∈ t.tamper.latched ∧
  t.tamper.lastUnit = v ∧ t.regions = s.regions ∧ t.vault = s.vault

theorem alarms_one (v : Nat) : alarms [v] s = (if s.pkg.mode.mainPower then doErase [{ on := monitorUnit v, cause := .tamper }] [monClass v] s
    else eraseBackup [monClass v] s).modTamper fun t => { t with lastTick := s.tick, lastUnit := v } := rfl

/-- What an erase leaves, an alarm leaves with the tick and the monitor noted. -/
theorem AlarmedFrom.of_noted {s t : State} (v : Nat) (hw : WipedFrom s t) (he : JobsEnded t)
    (hl : s.pkg.zeroized = false → v / 16 ∈ t.tamper.latched) :
    AlarmedFrom s v (t.modTamper fun x => { x with lastTick := s.tick, lastUnit := v }) := ⟨hw, he, rfl, rfl, hl⟩

theorem alarms_erases (v : Nat) (hm : s.pkg.mode.mainPower = true) : AlarmedFrom s v (alarms [v] s) := by
  rw [alarms_one, if_pos hm]
  exact .of_noted v (doErase_wipes _ _ s) (doErase_ends _ _ s) (doErase_latched _ _ s (List.mem_singleton.2 rfl))

theorem alarms_backed (v : Nat) (hm : s.pkg.mode = .backup) : BackedFrom s v (alarms [v] s) := by
  rw [alarms_one, if_neg (by rw [hm]; decide)]
  exact ⟨rfl, mem_latch _ s.tick s.tamper (List.mem_singleton.2 rfl), rfl, rfl, rfl⟩

end Erase

/-! ### What sets an erase off (R498, R504, R505) -/

section Triggers
variable {s : State} {u : Nat}

theorem eraseDups_one (u : Nat) : [u].eraseDups = [u] := rfl

/-- A reading of one monitor that counts, and that neither EMP_SOFT nor stimulation turns aside, is an alarm. -/
theorem tamperAlarm_alarms {partner : Bool} (hc : s.tamperCounts u = true) (he : monClass u ≠ 5 ∨ s.empSoft = false)
    (hp : (partner = true ∧ twoDesigns u = true) ∨ s.suppressed u = false) :
    exec (.tamperAlarm [u] partner) s = .next (alarms [u] s) := by
  have hsoft : (monClass u == 5 && s.empSoft) = false := by
    rcases he with he | he
    · simp [he]
    · simp [he]
  have hlive : (s.tamperCounts u && ((partner && twoDesigns u) || !s.suppressed u)) = true := by
    rcases hp with ⟨hp, hd⟩ | hp
    · simp [hc, hp, hd]
    · simp [hc, hp]
  refine congrArg Host.Outcome.next ?_
  simp only [eraseDups_one, List.filter_cons, List.filter_nil, hlive, hsoft, if_true, Bool.false_eq_true, if_false, Bool.not_false,
    List.foldl_nil]

/-- A reading that does not count, or that stimulation suppresses, does nothing. -/
theorem tamperAlarm_idle {partner : Bool} (h : (s.tamperCounts u && ((partner && twoDesigns u) || !s.suppressed u)) = false) :
    exec (.tamperAlarm [u] partner) s = .next s := by
  refine congrArg Host.Outcome.next ?_
  simp only [eraseDups_one, List.filter_cons, List.filter_nil, h, Bool.false_eq_true, if_false, List.foldl_nil]
  rfl

theorem stimulationWindowEnd_alarms (hc : s.tamperCounts u = true) (he : monClass u ≠ 5 ∨ s.empSoft = false)
    (hstim : s.tamper.stims.any (fun x => x.unit == u) = true) : exec (.stimulationWindowEnd u true) s =
      .next (alarms [u] (s.modTamper fun t => { t with stims := t.stims.filter fun x => !(x.unit == u) })) := by
  refine congrArg Host.Outcome.next ((if_pos hstim).trans ((if_neg (by decide)).trans ((if_neg ?_).trans (if_pos ?_))))
  · rcases he with he | he
    · simp [he]
    · simp [he]
  · simp [hc]

/-- The pin level that ZEROIZE_N_ASSERT reports. -/
def zeroizeNoted (ns : Nat) (s : State) : State := s.modTamper fun t => { t with zeroizeN := ns == 0 }

theorem zeroizeNAssert_noted {ns : Nat} (ho : s.pkg.mode ≠ .off) (h : ns = 0 ∨ ns < heldFor s 10000 ∨ s.zeroizeDis = true) :
    exec (.zeroizeNAssert ns) s = .next (zeroizeNoted ns s) := by
  refine congrArg Host.Outcome.next ((if_neg (by simpa using ho)).trans (if_neg fun ⟨hpos, hheld, hdis⟩ => ?_))
  rcases h with h | h | h
  · omega
  · omega
  · exact hdis h

theorem zeroizeNAssert_alarms {ns : Nat} (ho : s.pkg.mode ≠ .off) (hpos : 0 < ns) (hheld : heldFor s 10000 ≤ ns)
    (hdis : s.zeroizeDis = false) : exec (.zeroizeNAssert ns) s = .next (alarms [0x64] (zeroizeNoted ns s)) :=
  congrArg Host.Outcome.next ((if_neg (by simpa using ho)).trans (if_pos ⟨hpos, hheld, by simp [hdis]⟩))

/-- Alarms leave the level of ZEROIZE_N as it is noted. -/
theorem alarms_zeroizeN (v : Nat) (s : State) : (alarms [v] s).tamper.zeroizeN = s.tamper.zeroizeN := by
  rw [alarms_one]
  by_cases hm : s.pkg.mode.mainPower = true
  · rw [if_pos hm]
    change (doErase [{ on := monitorUnit v, cause := .tamper }] [monClass v] s).tamper.zeroizeN = _
    rw [doErase_tamper]
    rfl
  · rw [if_neg hm]
    rfl

/-- The level of an input that TAMP_IN_ASSERT reports. -/
def inputNoted (n : Nat) (high : Bool) (s : State) : State := s.modTamper fun t => { t with inputs := putBit t.inputs n high }

theorem tampInAssert_noted {n ns : Nat} {high : Bool} (hn : n < 4) (ho : s.pkg.mode ≠ .off)
    (h : bit (s.tamperByte 0) n = false ∨ bit (s.tamperByte 0) (4 + n) ≠ high ∨ ns < heldFor s (tampFilter s n)) :
    exec (.tampInAssert n high ns) s = .next (inputNoted n high s) := by
  refine congrArg Host.Outcome.next ((if_neg (by simp [hn, ho])).trans (if_neg ?_))
  rcases h with h | h | h
  · simp [h]
  · simp [h]
  · simp [h]

theorem tampInAssert_alarms {n ns : Nat} {high : Bool} (hn : n < 4) (ho : s.pkg.mode ≠ .off) (hen : bit (s.tamperByte 0) n = true)
    (hlevel : bit (s.tamperByte 0) (4 + n) = high) (hheld : heldFor s (tampFilter s n) ≤ ns) :
    exec (.tampInAssert n high ns) s = .next (alarms [0x60 + n] (inputNoted n high s)) :=
  congrArg Host.Outcome.next ((if_neg (by simp [hn, ho])).trans (if_pos (by simp [hen, hlevel, hheld])))

theorem WipedFrom.congr {s' t : State} (hz : s'.pkg.zeroized = s.pkg.zeroized) (he : s'.vault.epoch = s.vault.epoch)
    (h : WipedFrom s' t) : WipedFrom s t := by
  unfold WipedFrom at h ⊢
  rwa [hz, he] at h

/-- The end of a command keeps what an erase left. -/
theorem WipedFrom.of_stands {t v : State} (h : WipedFrom s t) (k : Stands t v) (hb : AllBlank v) : WipedFrom s v := by
  obtain ⟨hz, hkey, hseed, hroot, hdue, hfreeze, hepochDue, -, hkeyless, hepoch⟩ := h
  obtain ⟨hpkg, hframes, hbtn, htamper, -, hvault⟩ := k
  refine ⟨hpkg ▸ hz, hpkg ▸ hkey, (congrArg Vault.ownerSeed hvault).trans hseed, (congrArg Vault.rootReady hvault).trans hroot,
    htamper ▸ hdue, hbtn ▸ hfreeze, htamper ▸ hepochDue, hb, hframes ▸ hkeyless, (congrArg Vault.epoch hvault).trans hepoch⟩

theorem countJob_stands (j : Nat) (s : State) : Stands s (countJob j s) :=
  ⟨countJob_pkg s j, countJob_frames s j, countJob_btn s j, countJob_tamper s j, countJob_tick s j, by rw [countJob_vault]⟩

theorem tampErase_erases {j : Nat} {c : Cmd} (hw : AtWork 0x0E02 j c s)
    (hp : Passes [paramZero c.job 0xFFFFFFFF, bodyIs c.job 0, famEnabled s c.job]) :
    ∃ t, exec (.tampErase j) s = .next t ∧ WipedFrom s t ∧ t.tamper.latched = s.tamper.latched := by
  obtain ⟨hc, hop, hat, hheld, hrep⟩ := hw
  have hpass : Passes [paramZero c.job 0xFFFFFFFF, bodyIs c.job 0, famEnabled (drawEnergy s).2 c.job] := hp
  have hbody : tampErase c (drawEnergy s).2 =
      (doErase [{ on := monitorUnit 0x6F, cause := .tamper }] [] (commit c.job.id (drawEnergy s).2), some okRes) := by
    unfold tampErase
    exact orBad_passes hpass _
  have hrun := runVerb_of_body hc hop hat hheld hrep hbody
  have hstands (t : State) (f : Prog → Prog) (r : Res) : Stands t (finish j r (countJob j (t.modProg j f))) :=
    (countJob_stands j (t.modProg j f)).trans (finish_stands j r _)
  have hwiped := doErase_wipes [{ on := monitorUnit 0x6F, cause := .tamper }] [] (commit c.job.id (drawEnergy s).2)
  have hlatched := doErase_latches_none [{ on := monitorUnit 0x6F, cause := .tamper }] (commit c.job.id (drawEnergy s).2)
  generalize doErase _ _ _ = t at hwiped hlatched hrun
  obtain ⟨-, -, -, -, -, -, -, hblank, -⟩ := id hwiped
  have hend : AllBlank (finish j okRes (countJob j (t.modProg j (Prog.endEnergy okRes.nj (drawEnergy s).1)))) :=
    ((show AllBlank (t.modProg j _) from hblank).countJob j).finish j okRes
  have hk := hstands t (Prog.endEnergy okRes.nj (drawEnergy s).1) okRes
  refine ⟨_, congrArg Host.Outcome.next hrun, (hwiped.of_stands hk hend).congr ?_ ?_, ?_⟩
  · rw [commit_pkg]
    rfl
  · rw [commit_same]
    rfl
  · obtain ⟨-, -, -, htamper, -, -⟩ := hk
    rw [htamper, hlatched, commit_same]
    rfl

/-! ### The burns (R499, R501, R502) -/

/-- The package with the epoch bit and the evidence bits burned (R501). -/
def burned (s : State) : State := { s with
  vault := if s.tamper.epochDue then { s.vault with epoch := min 128 (s.vault.epoch + 1) } else s.vault,
  life := { s.life with otp := { s.life.otp with
    evidence := s.tamper.latched.foldl (fun l c => setAt l c fun n => min 256 (n + 1)) s.life.otp.evidence } },
  tamper := { s.tamper with burned := s.tamper.burned ++ s.tamper.latched, latched := [], burnDue := false, epochDue := false } }

theorem burnEvidence_eq (s : State) : burnEvidence s =
    if s.lcState = 3 && s.tamper.epochDue then mlog 6 (le 4 (burned s).vault.epoch ++ le 1 0) (burned s) else burned s := rfl

theorem burned_epoch (s : State) :
    (burned s).vault.epoch = if s.tamper.epochDue then min 128 (s.vault.epoch + 1) else s.vault.epoch := by
  unfold burned
  dsimp only
  split <;> rfl

/-- A record written in the management log is its last. -/
theorem mlog_last (ty : Nat) (b : List Byte) (s : State) : ∃ x, (mlog ty b s).mgmt.log.getLast? = some x ∧ x.type = ty ∧ x.content = fit 55 b := by
  have hlast (l : List LogRec) (e : LogRec) : ((l ++ [e]).drop ((l ++ [e]).length - logRoom)).getLast? = some e := by
    rw [List.getLast?_drop, if_neg (by rw [List.length_append, List.length_singleton]; unfold logRoom; omega)]
    exact List.getLast?_concat
  unfold mlog
  dsimp only [emit]
  exact ⟨_, hlast _ _, rfl, rfl⟩

/-- A record in the management log leaves the vault, life cycle, package and tamper state alone. -/
theorem burnEvidence_same (s : State) : burnEvidence s = { burned s with mgmt := (burnEvidence s).mgmt, out := (burnEvidence s).out } := by
  rw [burnEvidence_eq]
  split
  · rfl
  · rfl

/-- The mode that follows the burns: ZEROIZED outside the boot and SELF_TEST. -/
theorem eraseEvidenceBurn_exec (hd : s.tamper.burnDue = true) (hm : s.pkg.mode.mainPower = true) : ∃ t,
    exec .eraseEvidenceBurn s = .next t ∧ SameButMode (burnEvidence s) t ∧
      (s.pkg.mode ≠ .boot → s.pkg.mode ≠ .selfTest → t.pkg.mode = .zeroized) := by
  have hpkg : (burnEvidence s).pkg = s.pkg := by rw [burnEvidence_same]; rfl
  by_cases h : ((burnEvidence s).pkg.mode == .boot || (burnEvidence s).pkg.mode == .selfTest) = true
  · refine ⟨burnEvidence s, congrArg Host.Outcome.next ((if_pos (by rw [hd, hm]; rfl)).trans (if_pos h)), rfl, fun hb ht => ?_⟩
    rw [hpkg] at h
    simp [hb, ht] at h
  · exact ⟨setMode .zeroized (burnEvidence s), congrArg Host.Outcome.next ((if_pos (by rw [hd, hm]; rfl)).trans (if_neg h)),
      setMode_same _ _, fun _ _ => setMode_mode _ _⟩

theorem eraseEvidenceBurn_burns (hd : s.tamper.burnDue = true) (hm : s.pkg.mode.mainPower = true) :
    ∃ t, exec .eraseEvidenceBurn s = .next t ∧ t.tamper.latched = [] ∧ t.tamper.burnDue = false ∧
      t.vault.epoch = (if s.tamper.epochDue then min 128 (s.vault.epoch + 1) else s.vault.epoch) ∧
      t.life.otp.evidence = s.tamper.latched.foldl (fun l c => setAt l c fun n => min 256 (n + 1)) s.life.otp.evidence ∧
      (s.pkg.mode ≠ .boot → s.pkg.mode ≠ .selfTest → t.pkg.mode = .zeroized) ∧
      (s.lcState = 3 → s.tamper.epochDue = true → ∃ x, t.mgmt.log.getLast? = some x ∧ x.type = 6 ∧
        x.content = fit 55 (le 4 t.vault.epoch ++ le 1 0)) := by
  obtain ⟨t, ht, hsame, hmode⟩ := eraseEvidenceBurn_exec hd hm
  have hmgmt : t.mgmt = (burnEvidence s).mgmt := by rw [hsame]
  have hvault : t.vault = (burned s).vault := by rw [hsame, burnEvidence_same]
  have hlife : t.life = (burned s).life := by rw [hsame, burnEvidence_same]
  have htamper : t.tamper = (burned s).tamper := by rw [hsame, burnEvidence_same]
  refine ⟨t, ht, by rw [htamper]; rfl, by rw [htamper]; rfl, by rw [hvault]; exact burned_epoch s, by rw [hlife]; rfl, hmode,
    fun hlc hdue => ?_⟩
  rw [hmgmt, hvault, burnEvidence_eq, if_pos (by rw [hlc, hdue]; rfl)]
  exact mlog_last _ _ _

end Triggers

/-- Settles O55: an alarm is one erase whatever sets it off; its wipe and the jobs that it ends hold to the end of TAMP.ERASE, and the burns
are those of what is latched. -/
theorem eraseWipesAndBurns : Obligations.EraseWipesAndBurns := by
  intro s u Wiped Ends Alarmed Backed
  refine ⟨fun hc he => ⟨fun hm => ⟨fun partner hp => ?_, fun hstim => ?_⟩, fun hs => ?_, fun hb hp => ?_⟩, fun hc => ?_,
    fun ns ho => ⟨fun h => zeroizeNAssert_noted ho h, fun hpos hheld hdis => ?_⟩,
    fun n high ns hn ho => ⟨fun h => tampInAssert_noted hn ho h, fun hen hlevel hheld => ?_⟩,
    fun j c hw hp => tampErase_erases hw hp, fun hd hm => eraseEvidenceBurn_burns hd hm⟩
  · exact ⟨_, tamperAlarm_alarms hc he hp, alarms_erases s u hm⟩
  · exact ⟨_, stimulationWindowEnd_alarms hc he hstim, alarms_erases (s.modTamper _) u hm⟩
  · exact tamperAlarm_idle (by rw [hs]; simp)
  · exact ⟨_, tamperAlarm_alarms hc he (hp.imp (⟨rfl, ·⟩) id), alarms_backed s u hb⟩
  · exact tamperAlarm_idle (by rw [hc]; rfl)
  · exact ⟨_, zeroizeNAssert_alarms ho hpos hheld hdis, (alarms_zeroizeN _ _).trans (beq_eq_false_iff_ne.2 (by omega)),
      fun hm => alarms_erases (zeroizeNoted ns s) _ hm, fun hb => alarms_backed (zeroizeNoted ns s) _ hb⟩
  · exact ⟨_, tampInAssert_alarms hn ho hen hlevel hheld, fun hm => alarms_erases (inputNoted n high s) _ hm,
      fun hb => alarms_backed (inputNoted n high s) _ hb⟩

end Sys2Proof.Machine
end

section
/-! PROOFS. Why the statement on the card port fails (O56): the end of a CARD.IMPORT_KUM whose message is refused takes from the vault the
record of a deleted key that stands for no command (R350). -/

namespace Sys2Proof.Machine
open Safety

/-- A CARD.IMPORT_KUM of the administrative mailbox that runs. -/
def kumImport : Cmd :=
  { job := { id := 3, src := .mbx, inst := 0, gen := 0, opcode := 0x0F05, handle := nullHandle, param := 0 }
    prog := { phase := .running } }

/-- The read of a record with an empty body and the digest of that body. -/
def emptyRead : CardOp := { job := 3, phase := .read, lba := 2, header := zeros 0x28 ++ sha3 [] }

/-- That read on the card, with the record of a key that KEY.DELETE has freed, whose commands are gone. -/
def readBesideFreed : State :=
  { vaultOf freedKey [kumImport] with card := { State.reset.card with present := true, powered := true, op := some emptyRead } }

theorem emptyRead_digest : slice emptyRead.header 0x28 32 = sha3 emptyRead.body := by
  have hdrop : emptyRead.header.drop 0x28 = sha3 [] := rfl
  unfold slice
  rw [hdrop]
  exact List.take_left' (fit_length _ _)

/-- An empty message has no layout of R353. -/
theorem readBesideFreed_refused : firstBad (check (readBesideFreed.lcState != 4 && readBesideFreed.lcState != 5) .lifecycle ::
    kumChecks readBesideFreed emptyRead.body) = some .malformed := by decide

theorem submitKum_refused {s : State} {j : Nat} {b : List Byte} {st : Status}
    (h : firstBad (check (s.lcState != 4 && s.lcState != 5) .lifecycle :: kumChecks s b) = some st) : submitKum j b s = (stRes st, s) := by
  unfold submitKum
  rw [h]

/-- A record that is read with its digest, and whose message is refused, ends its command with that status (R513, R521). -/
theorem cardRead_refuses {s : State} {o : CardOp} {st : Status} (ho : s.card.op = some o) (hbusy : o.busy = false)
    (hphase : o.phase = .read) (hdigest : slice o.header 0x28 32 = sha3 o.body)
    (h : firstBad (check (s.lcState != 4 && s.lcState != 5) .lifecycle :: kumChecks s o.body) = some st) :
    exec (.cardCommandResponse true) s = .next (endCard (stRes st) s) := by
  change execCardCommandResponse true s = _
  unfold execCardCommandResponse
  simp only [ho, hbusy, hphase, hdigest, submitKum_refused h, Bool.not_true, Bool.false_eq_true, if_false, if_true]

set_option maxRecDepth 8000 in
/-- The record leaves the vault as that command ends. -/
theorem cardRead_beside_freed : (endCard (stRes .malformed) readBesideFreed).vault.handles = [] := by decide

/-- Refutes O56: a record whose key update message is refused changes the vault where the record of a deleted key stands for no command
any more, since that record leaves as the CARD.IMPORT_KUM ends. -/
theorem not_cardPort : ¬ Obligations.CardPort := by
  rintro ⟨-, h⟩
  obtain ⟨idle, -⟩ := h readBesideFreed emptyRead kumImport rfl rfl rfl
  obtain ⟨-, -, -, refused⟩ := idle rfl
  obtain ⟨t, ht, -, hvault⟩ := refused rfl emptyRead_digest .malformed readBesideFreed_refused
  have hend := cardRead_refuses rfl rfl rfl emptyRead_digest readBesideFreed_refused
  have hempty : t.vault.handles = [] := Host.Outcome.next.inj (ht.symm.trans hend) ▸ cardRead_beside_freed
  rw [hvault] at hempty
  exact absurd hempty (by decide)

end Sys2Proof.Machine
end

section
/-! PROOFS. The CARD verbs (O57): what answers at once leaves the card as it is, and a record is written at the append point. -/

namespace Sys2Proof.Machine
open Safety

section Card
variable {s : State} {j : Nat} {c : Cmd}

theorem finish_card (j : Nat) (r : Res) (s : State) : (finish j r s).card = s.card := by simp [finish]

/-- A verb that answers at once, in the state it is asked in, leaves the card as it is. -/
theorem answers_card {op : Nat} {body : Cmd → State → State × Option Res} {r : Res} (hw : AtWork op j c s)
    (hb : body c (drawEnergy s).2 = ((drawEnergy s).2, some r)) :
    ∃ t, (Host.Outcome.next (runVerb op j body s) : Host.Outcome State Fault Refusal) = .next t ∧ t.card = s.card ∧ Ended j c r t := by
  obtain ⟨hc, hop, hat, hheld, hrep⟩ := id hw
  refine ⟨runVerb op j body s, rfl, ?_, ended_of_body hw hb (keeps_drawEnergy hw)⟩
  rw [runVerb_of_body hc hop hat hheld hrep hb, finish_card, countJob_card]
  rfl

/-- A verb whose body waits leaves the state of its body. -/
theorem waits_card {op : Nat} {body : Cmd → State → State × Option Res} {s1 : State} (hw : AtWork op j c s)
    (hb : body c (drawEnergy s).2 = (s1, none)) :
    (Host.Outcome.next (runVerb op j body s) : Host.Outcome State Fault Refusal) = .next s1 := by
  obtain ⟨hc, hop, hat, hheld, hrep⟩ := hw
  exact congrArg Host.Outcome.next (runVerb_of_wait hc hop hat hheld hrep hb)

/-- The record that a CARD.EXPORT writes (R517, R520). -/
def exportOp (j : Job) (ty id : Nat) (body : List Byte) (s : State) : CardOp :=
  { job := j.id, phase := .data, lba := s.card.append, header := recHeader ty body.length s.pkg.fuses.unit id s.tick body, body := body }

theorem exportRecord_found {b : Job} {ty id l : Nat} {body : List Byte} (h : s.card.committed? s.pkg.fuses.unit ty id = some l) :
    exportRecord b ty id body s = (s, some (respRes (le 1 0 ++ zeros 3 ++ le 4 l))) := by
  unfold exportRecord
  dsimp only
  rw [h]

theorem exportRecord_full {b : Job} {ty id : Nat} {body : List Byte} (h : s.card.committed? s.pkg.fuses.unit ty id = none)
    (hfull : s.card.blocks < s.card.append + 2 + blocksOf body.length) : exportRecord b ty id body s = (s, some (stRes .cardFull)) := by
  unfold exportRecord
  dsimp only
  rw [h]
  exact if_pos hfull

theorem exportRecord_writes {b : Job} {ty id : Nat} {body : List Byte} (h : s.card.committed? s.pkg.fuses.unit ty id = none)
    (hroom : s.card.append + 2 + blocksOf body.length ≤ s.card.blocks) : exportRecord b ty id body s =
      (startOp (exportOp b ty id body s) (s.modProg b.id fun p => { p with phase := .running }), none) := by
  unfold exportRecord
  dsimp only
  rw [h]
  exact if_neg (Nat.not_lt.2 hroom)

/-- The header block and body of a record leave for the card (R517). -/
theorem startOp_export (b : Job) (ty id : Nat) (body : List Byte) (f : Prog → Prog) :
    let o := exportOp b ty id body s
    let t := startOp o (s.modProg b.id f)
    t.card = { s.card with op := some o } ∧ t.out = s.out ++ [.card o.lba (o.header ++ fit (512 * blocksOf body.length) body)] :=
  ⟨rfl, rfl⟩

/-! ### CARD.STATUS, CARD.FORMAT, CARD.LIST and CARD.IMPORT_KUM (R516, R519, R521) -/

theorem cardStatus_answers
    (h : Passes [paramZero c.job 0xFFFFFFFF, bodyIs c.job 0, famEnabled s c.job, check s.card.railOk .cardIo]) :
    cardStatus c s = (s, some (respRes (le 4 s.crdStatus ++ le 8 s.card.cardId ++ le 4 (if s.card.formatted then s.card.append else 0) ++
      le 4 s.card.blocks))) := by
  unfold cardStatus
  exact orBad_passes h _

/-- The formatting of a card under the identity `id` (R516). -/
def formatOp (j : Job) (id : Nat) (s : State) : CardOp :=
  { job := j.id, phase := .header0, lba := 0, header := cardHeader id s.pkg.fuses.unit }

theorem cardFormat_starts (h : Passes (bodyIs c.job 4 :: check (zero? c.job.args 0 4) .malformed :: cardChecks s c.job true ++
    [check s.anyInService .noRegion])) : cardFormat c s =
      (startOp (formatOp c.job ((drawNat s).1 % 2 ^ 64) s) ((drawNat s).2.modProg c.job.id fun p => { p with phase := .running }), none) := by
  unfold cardFormat
  exact orBad_passes h _

theorem startOp_format (b : Job) (id n : Nat) (f : Prog → Prog) :
    let t := startOp (formatOp b id s) (({ s with free := n } : State).modProg b.id f)
    t.card.op = some (formatOp b id s) ∧ t.out = s.out ++ [.card 0 (cardHeader id s.pkg.fuses.unit)] := ⟨rfl, rfl⟩

theorem cardList_answers (h : Passes (bodyIs c.job 4 :: check (zero? c.job.args 2 2) .malformed :: cardChecks s c.job false)) :
    cardList c s = (s, some (respRes (((s.card.recs.drop (56 * fld c.job.args 0 2)).take 56).flatMap fun r => fit 72 r.header))) := by
  unfold cardList
  exact orBad_passes h _

/-- The record that a CARD.IMPORT_KUM names. -/
def kumRecord (c : Cmd) (s : State) : Option CardRec :=
  s.card.recs.find? fun r => recType r.header == 3 && recId r.header == fld c.job.args 0 8

/-- The read of a record (R521). -/
def readOp (j : Job) (r : CardRec) : CardOp := { job := j.id, phase := .read, lba := r.lba, header := r.header, body := r.body }

theorem cardImportKum_none (h : Passes (bodyIs c.job 8 :: cardChecks s c.job false)) (hr : kumRecord c s = none) :
    cardImportKum c s = (s, some (stRes .paramUnsupported)) := by
  unfold kumRecord at hr
  unfold cardImportKum
  refine (orBad_passes h _).trans ?_
  rw [hr]

theorem cardImportKum_malformed {r : CardRec} (h : Passes (bodyIs c.job 8 :: cardChecks s c.job false)) (hr : kumRecord c s = some r)
    (hbad : headerFits r.header = false) : cardImportKum c s = (s, some (stRes .malformed)) := by
  unfold kumRecord at hr
  unfold cardImportKum
  refine (orBad_passes h _).trans ?_
  rw [hr]
  exact if_pos (by rw [hbad]; rfl)

theorem cardImportKum_starts {r : CardRec} (h : Passes (bodyIs c.job 8 :: cardChecks s c.job false)) (hr : kumRecord c s = some r)
    (hfits : headerFits r.header = true) : cardImportKum c s =
      (startOp (readOp c.job r) (s.modProg c.job.id fun p => { p with phase := .running }), none) := by
  unfold kumRecord at hr
  unfold cardImportKum
  refine (orBad_passes h _).trans ?_
  rw [hr]
  exact if_neg (by rw [hfits]; decide)

/-! ### CARD.EXPORT (R520) -/

/-- The checks of a CARD.EXPORT of a slot or a checkpoint. -/
theorem cardExport_body (h : Passes (bodyIs c.job 4 :: check (zero? c.job.args 2 2) .malformed :: cardChecks s c.job false))
    (hsrc : fld c.job.args 0 1 ≠ 4) : cardExport c s = match exportOf s c.job with
      | .error st => (s, some (stRes st))
      | .ok (ty, id, b) => exportRecord c.job ty id b s := by
  have hpass : Passes (bodyIs c.job (if fld c.job.args 0 1 = 4 then 12 else 4) ::
      check (zero? c.job.args 2 2 && (fld c.job.args 0 1 != 4 || zero? c.job.args 8 4)) .malformed :: cardChecks s c.job false) := by
    rw [if_neg hsrc, bne_iff_ne.2 hsrc, Bool.true_or, Bool.and_true]
    exact h
  unfold cardExport
  exact (orBad_passes hpass _).trans (if_neg fun hk => hsrc hk.1)

theorem cardExport_refused {st : Status}
    (h : Passes (bodyIs c.job 4 :: check (zero? c.job.args 2 2) .malformed :: cardChecks s c.job false))
    (hsrc : fld c.job.args 0 1 ≠ 4) (he : exportOf s c.job = .error st) : cardExport c s = (s, some (stRes st)) := by
  rw [cardExport_body h hsrc, he]

theorem cardExport_records {ty id : Nat} {body : List Byte}
    (h : Passes (bodyIs c.job 4 :: check (zero? c.job.args 2 2) .malformed :: cardChecks s c.job false))
    (hsrc : fld c.job.args 0 1 ≠ 4) (he : exportOf s c.job = .ok (ty, id, body)) : cardExport c s = exportRecord c.job ty id body s := by
  rw [cardExport_body h hsrc, he]

/-! ### CARD.EXPORT of a key (R352, R520) -/

/-- The statement on a key that a CARD.EXPORT attests; its nonce is the card's identity. -/
def cardStatement (s : State) (c : Cmd) (h : U32) (x : KeyRec) (secret pub : List Byte) : List Byte :=
  statement s { c.job with handle := h } x secret pub (le 8 s.card.cardId ++ zeros 24)

/-- What a CARD.EXPORT of a key does with the key's material at hand. -/
def exportAttested (c : Cmd) (h : U32) (x : KeyRec) (secret pub : List Byte) (s : State) : State × Option Res :=
  match firmwareSign "EXM-KEY-ATTEST-1" (cardStatement s c h x secret pub) s with
  | none => (s, none)
  | some (.error bad, s1) => (s1, some (stRes bad))
  | some (.ok sig, s1) => exportRecord c.job 4 x.keyId (cardStatement s c h x secret pub ++ sig ++ pub) s1

/-- A key on its home shelf is read from there; moving its shares to a cell takes free draws alone (R345, R116). -/
theorem exportKey_shelf {x : KeyRec} {e : ShelfKey} {f : List Byte → List Byte → State → State × Option Res}
    (hm : ¬ (x.cls = 1 ∧ famOf x.alg = some .mce)) (he : s.onShelf x.home x.inst x.keyId = some e) :
    ∃ n, exportKey c x s f = f e.secret e.pub { s with free := n } := by
  refine ⟨(e.toCell (identityOrder s c.rgn) s).2.free, ?_⟩
  have hsecret := toCell_secret e (identityOrder s c.rgn) s
  have hpub := toCell_pub e (identityOrder s c.rgn) s
  have hstate := toCell_state e (identityOrder s c.rgn) s
  unfold exportKey
  rw [he]
  dsimp only
  generalize e.toCell (identityOrder s c.rgn) s = y at hsecret hpub hstate ⊢
  exact (if_neg hm).trans (by rw [hsecret, hpub, ← hstate])

theorem exportAttest_shelf {h : U32} {x : KeyRec} {e : ShelfKey} {r : Nat} (hh : h = BitVec.ofNat 32 (fld c.job.args 4 4))
    (hcheck : checkHandle s { c.job with handle := h } (fun _ => true) = none) (hx : s.key? h = some x)
    (hr : regionNums.find? s.inService = some r) (hnew : s.card.committed? s.pkg.fuses.unit 4 x.keyId = none)
    (hm : ¬ (x.cls = 1 ∧ famOf x.alg = some .mce)) (he : s.onShelf x.home x.inst x.keyId = some e) :
    ∃ n, exportAttest c s = exportAttested c h x e.secret e.pub { s with free := n } := by
  subst hh
  obtain ⟨n, hn⟩ := exportKey_shelf (c := { c with
    job := { c.job with handle := BitVec.ofNat 32 (fld c.job.args 4 4) }, prog := { c.prog with region := some r } })
    (f := exportAttested c (BitVec.ofNat 32 (fld c.job.args 4 4)) x) hm he
  refine ⟨n, Eq.trans ?_ hn⟩
  unfold exportAttest
  dsimp only
  rw [hcheck, hx, hr]
  dsimp only
  rw [hnew]
  rfl

/-- A statement whose signature verifies is written with it and the key's public part at the append point. -/
theorem exportAttested_writes {h : U32} {x : KeyRec} {secret pub : List Byte} (hs : Signable s)
    (hv : Verifies "EXM-KEY-ATTEST-1" (cardStatement s c h x secret pub) s)
    (hnew : s.card.committed? s.pkg.fuses.unit 4 x.keyId = none)
    (hroom : s.card.append + 2 + blocksOf ((cardStatement s c h x secret pub).length + 4723 + pub.length) ≤ s.card.blocks) :
    ∃ sig t, sig.length = 4723 ∧ exportAttested c h x secret pub s = (t, none) ∧
      t.card = { s.card with op := some (exportOp c.job 4 x.keyId (cardStatement s c h x secret pub ++ sig ++ pub) s) } := by
  obtain ⟨sig, t, hsign, hlen, hsame⟩ := firmwareSign_signs hs hv
  have hcard : t.card = s.card := by rw [hsame]
  have hpkg : t.pkg = s.pkg := by rw [hsame]
  have htick : t.tick = s.tick := by rw [hsame]
  have hop (body : List Byte) : exportOp c.job 4 x.keyId body t = exportOp c.job 4 x.keyId body s := by
    unfold exportOp
    rw [hcard, hpkg, htick]
  have hwrites : exportRecord c.job 4 x.keyId (cardStatement s c h x secret pub ++ sig ++ pub) t = _ := exportRecord_writes
    (by rw [hcard, hpkg]; exact hnew) (by rw [hcard, List.length_append, List.length_append, hlen]; exact hroom)
  refine ⟨sig, _, hlen, Eq.trans ?_ hwrites, ?_⟩
  · unfold exportAttested
    rw [hsign]
  · obtain ⟨hstart, -⟩ := startOp_export (s := t) c.job 4 x.keyId (cardStatement s c h x secret pub ++ sig ++ pub)
      fun p => { p with phase := .running }
    rw [hstart, hop, hcard]

/-- The checks of a CARD.EXPORT of a key. -/
theorem cardExport_attests
    (h : Passes (bodyIs c.job 12 :: check (zero? c.job.args 2 2 && zero? c.job.args 8 4) .malformed :: cardChecks s c.job false))
    (hsrc : fld c.job.args 0 1 = 4) (hzero : fld c.job.args 1 1 = 0) : cardExport c s = exportAttest c s := by
  have hpass : Passes (bodyIs c.job (if fld c.job.args 0 1 = 4 then 12 else 4) ::
      check (zero? c.job.args 2 2 && (fld c.job.args 0 1 != 4 || zero? c.job.args 8 4)) .malformed :: cardChecks s c.job false) := by
    rw [if_pos hsrc, hsrc]
    exact h
  unfold cardExport
  exact (orBad_passes hpass _).trans (if_pos ⟨hsrc, hzero⟩)

/-- A card without records of a TYPE has none of it committed. -/
theorem committed_none {k : Card} {ty : Nat} (h : ∀ r ∈ k.recs, recType r.header ≠ ty) (unit id : Nat) : k.committed? unit ty id = none := by
  unfold Card.committed?
  rw [List.find?_eq_none.2 fun r hr => by simp [h r hr]]
  rfl

end Card

/-- Settles O57: each verb answers as its body does in the state that it is asked in; an operation that starts is the port's own from
there. -/
theorem cardVerbs : Obligations.CardVerbs := by
  intro s j c k b
  refine ⟨fun hw h => ?_, fun hw h => ?_, fun hw h hsrc => ⟨fun st he => ?_, fun ty id body he => ⟨fun r hr => ?_, fun hnew hfull => ?_,
    fun hnew hroom => ?_⟩⟩, fun hw h hsrc hzero x e hcheck hx hm he hnew r hr hrandom hpan hplace hroom => ?_, fun hw h => ?_,
    fun hw h => ⟨fun hnone => ?_, fun r hr hbad => ?_, fun r hr hfits => ?_⟩⟩
  · exact answers_card hw (cardStatus_answers (s := (drawEnergy s).2) h)
  · obtain ⟨hop, hout⟩ := startOp_format (s := s) c.job ((drawNat (drawEnergy s).2).1 % 2 ^ 64) (drawNat (drawEnergy s).2).2.free
      fun p => { p with phase := .running }
    exact ⟨_, _, waits_card hw (cardFormat_starts (s := (drawEnergy s).2) h), by rw [← cmd_id hw.1]; exact hop, hout⟩
  · obtain ⟨t, ht, hcard, hend⟩ := answers_card hw (cardExport_refused (s := (drawEnergy s).2) h hsrc he)
    exact ⟨t, ht, hend, hcard⟩
  · have hfound : s.card.committed? s.pkg.fuses.unit ty id = some r.lba := congrArg (Option.map CardRec.lba) hr
    exact answers_card hw ((cardExport_records (s := (drawEnergy s).2) h hsrc he).trans (exportRecord_found hfound))
  · have hnone : s.card.committed? s.pkg.fuses.unit ty id = none := congrArg (Option.map CardRec.lba) hnew
    exact answers_card hw ((cardExport_records (s := (drawEnergy s).2) h hsrc he).trans (exportRecord_full hnone hfull))
  · have hnone : s.card.committed? s.pkg.fuses.unit ty id = none := congrArg (Option.map CardRec.lba) hnew
    obtain ⟨hcard, hout⟩ := startOp_export (s := (drawEnergy s).2) c.job ty id body fun p => { p with phase := .running }
    exact ⟨_, exportOp c.job ty id body (drawEnergy s).2, waits_card hw ((cardExport_records (s := (drawEnergy s).2) h hsrc he).trans
      (exportRecord_writes hnone hroom)), hcard, cmd_id hw.1, rfl, rfl, rfl, rfl, hout⟩
  · refine ⟨_, rfl, fun hv => ?_⟩
    have hnone : s.card.committed? s.pkg.fuses.unit 4 x.keyId = none := committed_none hnew _ _
    obtain ⟨n, hn⟩ := exportAttest_shelf (s := (drawEnergy s).2) rfl hcheck hx hr hnone hm he
    have hs : Signable { (drawEnergy s).2 with free := n } := ⟨r, hr, hrandom, hpan, hplace⟩
    obtain ⟨sig, t, hlen, ht, hcard⟩ := exportAttested_writes (s := { (drawEnergy s).2 with free := n }) hs hv hnone hroom
    have hrun := waits_card hw ((cardExport_attests (s := (drawEnergy s).2) h hsrc hzero).trans (hn.trans ht))
    rw [Host.Outcome.next.inj hrun]
    exact ⟨sig, _, hlen, hcard, cmd_id hw.1, rfl, rfl, rfl, rfl⟩
  · exact answers_card hw (cardList_answers (s := (drawEnergy s).2) h)
  · obtain ⟨t, ht, -, hend⟩ := answers_card hw (cardImportKum_none (s := (drawEnergy s).2) h hnone)
    exact ⟨t, ht, hend⟩
  · exact answers_card hw (cardImportKum_malformed (s := (drawEnergy s).2) h hr hbad)
  · refine ⟨_, waits_card hw (cardImportKum_starts (s := (drawEnergy s).2) h hr hfits), ?_⟩
    rw [← cmd_id hw.1]
    rfl

end Sys2Proof.Machine
end

section
/-! PROOFS. The queue (O2): no operation of the model reads or writes the commands that wait. Each says so of the state it gives
(`_pending`), the body of a verb from any state (`_keepsQueue`), and a row of its outcome too. The lemmas follow the order of the model,
one heading to a file; those tagged for `simp` carry the proofs of the operations that call them. -/

namespace Sys2Proof.Machine

@[simp] theorem ite_pending {p : Prop} [Decidable p] (x y : State) : (if p then x else y).pending = if p then x.pending else y.pending :=
  apply_ite State.pending p x y

@[simp] theorem foldl_pending {α : Type} {f : State → α → State} (h : ∀ s x, (f s x).pending = s.pending) (l : List α) (s : State) :
    (l.foldl f s).pending = s.pending := by
  induction l generalizing s with
  | nil => rfl
  | cons x l ih => rw [List.foldl_cons, ih, h]

/-- The body of a verb leaves the queue alone. -/
def KeepsQueue (body : Cmd → State → State × Option Res) : Prop := ∀ c s, (body c s).1.pending = s.pending

/-- An outcome is a state, with the queue of `s`. -/
def QueueKept (s : State) (o : Host.Outcome State Fault Refusal) : Prop := ∃ t, o = .next t ∧ t.pending = s.pending

@[simp] theorem queueKept_next (s t : State) : QueueKept s (.next t) ↔ t.pending = s.pending := by
  constructor
  · rintro ⟨u, hu, h⟩
    cases hu
    exact h
  · exact fun h => ⟨t, rfl, h⟩

/-- A state that a draw or a record hands on has the queue that is known of it. -/
theorem pending_of_eq {α : Type} {p : α × State} {x : α} {t : State} (h : p = (x, t)) : t.pending = p.2.pending := by rw [h]

theorem pending_of_eq_fst {α : Type} {p : State × α} {x : α} {t : State} (h : p = (t, x)) : t.pending = p.1.pending := by rw [h]

@[simp] theorem ite_fst_pending {α : Type} {p : Prop} [Decidable p] (x y : State × α) :
    (if p then x else y).1.pending = if p then x.1.pending else y.1.pending := apply_ite (fun z : State × α => z.1.pending) p x y

@[simp] theorem ite_snd_pending {α : Type} {p : Prop} [Decidable p] (x y : α × State) :
    (if p then x else y).2.pending = if p then x.2.pending else y.2.pending := apply_ite (fun z : α × State => z.2.pending) p x y

/-! ### Ops -/

@[simp] theorem raiseVector_pending (i v : Nat) (s : State) : (raiseVector i v s).pending = s.pending := by simp [raiseVector]

@[simp] theorem hostRead_pending (u : HostUse) (i addr len : Nat) (noSnoop : Bool) (s : State) :
    (hostRead u i addr len noSnoop s).pending = s.pending := by
  unfold hostRead
  split <;> simp

@[simp] theorem askPage_pending (i addr len : Nat) (s : State) : (askPage i addr len s).pending = s.pending := by
  unfold askPage
  split <;> simp

@[simp] theorem hostWrite_pending (i addr : Nat) (b : List Byte) (noSnoop : Bool) (s : State) :
    (hostWrite i addr b noSnoop s).pending = s.pending := by simp [hostWrite]

@[simp] theorem mlog_pending (ty : Nat) (content : List Byte) (s : State) : (mlog ty content s).pending = s.pending := by
  unfold mlog
  rw [emit_pending]

/-! ### Journal -/

@[simp] theorem reserveIfDue_pending (s : State) : (reserveIfDue s).pending = s.pending := by simp [reserveIfDue]

@[simp] theorem takeJseq_pending (s : State) : (takeJseq s).2.pending = s.pending := by simp [takeJseq]

@[simp] theorem mirrorEntry_pending (p : Nat) (e : JEntry) (s : State) : (mirrorEntry p e s).pending = s.pending := by simp [mirrorEntry]

@[simp] theorem appendEntry_pending (e : JEntry) (s : State) : (appendEntry e s).pending = s.pending := by simp [appendEntry]

@[simp] theorem btnEvent_pending (src ev a0 a1 : Nat) (s : State) : (btnEvent src ev a0 a1 s).pending = s.pending := by simp [btnEvent]

@[simp] theorem btnRegion_pending (r ev a0 a1 : Nat) (s : State) : (btnRegion r ev a0 a1 s).pending = s.pending := by simp [btnRegion]

@[simp] theorem journalEvent_pending (ev a0 a1 : Nat) (rgn : Option Nat) (a2 : Nat) (s : State) :
    (journalEvent ev a0 a1 rgn a2 s).pending = s.pending := by simp [journalEvent]

@[simp] theorem setMode_pending (m : Mode) (s : State) : (setMode m s).pending = s.pending := by simp [setMode]

@[simp] theorem remode_pending (s : State) : (remode s).pending = s.pending := by simp [remode]

@[simp] theorem setRegionState_pending (r : Nat) (x : RState) (fence : Bool) (s : State) : (setRegionState r x fence s).pending = s.pending := by
  simp [setRegionState]

@[simp] theorem closeCommand_pending (c : Cmd) (st : Status) (out : List Byte) (s : State) : (closeCommand c st out s).pending = s.pending := by
  simp [closeCommand]

@[simp] theorem writeBatch_pending (b : Batch) (froze : Bool) (s : State) : (writeBatch b froze s).pending = s.pending := by
  simp [writeBatch]

@[simp] theorem closeBatches_pending (p : Batch → Bool) (s : State) : (closeBatches p s).pending = s.pending := by simp [closeBatches]

@[simp] theorem countInBatch_pending (i q jseq : Nat) (image : List Byte) (s : State) : (countInBatch i q jseq image s).pending = s.pending := by
  simp [countInBatch]

@[simp] theorem enterCommit_pending (c : Cmd) (s : State) : (enterCommit c s).pending = s.pending := by simp [enterCommit]

@[simp] theorem commit_pending (j : Nat) (s : State) : (commit j s).pending = s.pending := by
  unfold commit
  split <;> simp

@[simp] theorem takeCheckpoint_pending (s : State) : (takeCheckpoint s).pending = s.pending := by simp [takeCheckpoint]

@[simp] theorem addedEvent_pending (ev : Nat) (s : State) : (addedEvent ev s).pending = s.pending := by simp [addedEvent]

@[simp] theorem freezeBtn_pending (ev : Nat) (haltCp : Option Checkpoint) (s : State) : (freezeBtn ev haltCp s).pending = s.pending := by
  unfold freezeBtn
  split <;> simp

/-! ### Faults -/

@[simp] theorem announceFault_pending (r : FaultRec) (s : State) : (announceFault r s).pending = s.pending := by
  unfold announceFault
  split <;> simp

@[simp] theorem putRecord_pending (n : Nat) (r : FaultRec) (s : State) : (putRecord n r s).pending = s.pending := by simp [putRecord]

@[simp] theorem putUnheld_pending (r : FaultRec) (s : State) : (putUnheld r s).pending = s.pending := by simp [putUnheld]

@[simp] theorem subsume_pending (p : FaultRec → Bool) (s : State) : (subsume p s).pending = s.pending := by simp [subsume]

@[simp] theorem wipeLocal_pending (r : Nat) (u : UnitKind × Nat) (s : State) : (wipeLocal r u s).pending = s.pending := by
  unfold wipeLocal
  split <;> simp

@[simp] theorem dropCryst_pending (r : Nat) (p : CrystEntry → Bool) (s : State) : (dropCryst r p s).pending = s.pending := by
  simp [dropCryst]

@[simp] theorem restPans_pending (s : State) : (restPans s).pending = s.pending := by simp [restPans]

@[simp] theorem takeWarmKind_pending (r : Nat) (k : UnitKind) (i want : Nat) (s : State) : (takeWarmKind r k i want s).pending = s.pending := by
  simp [takeWarmKind]

@[simp] theorem takeWarm_pending (r : Nat) (s : State) : (takeWarm r s).pending = s.pending := by simp [takeWarm]

@[simp] theorem countJobOn_pending (r : Nat) (k : UnitKind) (n : Nat) (s : State) : (countJobOn r k n s).pending = s.pending := by
  unfold countJobOn
  split <;> simp

@[simp] theorem countCheckFail_pending (r : Nat) (k : UnitKind) (s : State) : (countCheckFail r k s).pending = s.pending := by
  simp [countCheckFail]

@[simp] theorem finish_pending (j : Nat) (r : Res) (s : State) : (finish j r s).pending = s.pending := by simp [finish]

@[simp] theorem fail_pending (j : Nat) (st : Status) (s : State) : (fail j st s).pending = s.pending := by simp [fail]

@[simp] theorem fetchInputs_pending (j : Nat) (s : State) : (fetchInputs j s).pending = s.pending := by
  unfold fetchInputs
  split
  · rfl
  · rw [State.modCmd_pending]
    exact foldl_pending (fun s i => by split <;> simp) _ s

@[simp] theorem reissue_pending (j : Nat) (s : State) : (reissue j s).pending = s.pending := by simp [reissue]

@[simp] theorem retryJobFrom_pending (a : Option (UnitKind × Nat × Nat)) (pan : Bool) (onFail : Status) (j : Nat) (s : State) :
    (retryJobFrom a pan onFail j s).pending = s.pending := by
  unfold retryJobFrom
  split <;> simp

@[simp] theorem retryJobOff_pending (pan : Bool) (onFail : Status) (j : Nat) (s : State) : (retryJobOff pan onFail j s).pending = s.pending := by
  simp [retryJobOff]

@[simp] theorem retryJob_pending (onFail : Status) (j : Nat) (s : State) : (retryJob onFail j s).pending = s.pending := by simp [retryJob]

@[simp] theorem recheck_pending (wide : Bool) (u : FUnit) (j : Nat) (s : State) : (recheck wide u j s).pending = s.pending := by
  unfold recheck
  split <;> simp

@[simp] theorem retryJobsOf_pending (wide : Bool) (u : FUnit) (onFail : Status) (s : State) :
    (retryJobsOf wide u onFail s).pending = s.pending := by simp [retryJobsOf]

@[simp] theorem startTestOf_pending (block : Option SramBlock) (r : FaultRec) (s : State) : (startTestOf block r s).pending = s.pending := by
  unfold startTestOf
  split <;> simp

@[simp] theorem startTest_pending (r : FaultRec) (s : State) : (startTest r s).pending = s.pending := by simp [startTest]

@[simp] theorem haltMailboxes_pending (s : State) : (haltMailboxes s).pending = s.pending := by simp [haltMailboxes]

@[simp] theorem doHaltAs_pending (ev : Nat) (s : State) : (doHaltAs ev s).pending = s.pending := by simp [doHaltAs]

@[simp] theorem doHalt_pending (s : State) : (doHalt s).pending = s.pending := by simp [doHalt]

@[simp] theorem record_pending (x : Raise) (c : FClass) (s : State) : (record x c s).2.pending = s.pending := by
  unfold record
  repeat' split
  all_goals simp

@[simp] theorem raiseNote_pending (x : Raise) (s : State) : (raiseNote x s).pending = s.pending := by simp [raiseNote]

@[simp] theorem raiseHalt_pending (x : Raise) (s : State) : (raiseHalt x s).pending = s.pending := by simp [raiseHalt]

/-! ### Reactions -/

@[simp] theorem gated_pending (s : State) (i : Nat) (t : State) (ht : t.pending = s.pending) : (s.gated i t).pending = s.pending := by
  unfold State.gated
  repeat' split
  all_goals simp [ht]

@[simp] theorem gatedRead_pending (s : State) (i : Nat) (t : State) (ht : t.pending = s.pending) : (s.gatedRead i t).pending = s.pending := by
  unfold State.gatedRead
  repeat' split
  all_goals simp [ht]

@[simp] theorem loseJob_pending (j : Nat) (s : State) : (loseJob j s).pending = s.pending := by
  unfold loseJob
  split <;> simp

@[simp] theorem unsend_pending (r : Nat) (s : State) : (unsend r s).pending = s.pending := by simp [unsend]

@[simp] theorem uncheck_pending (r : Nat) (s : State) : (uncheck r s).pending = s.pending := by simp [uncheck]

@[simp] theorem dropCores_pending (r : Nat) (s : State) : (dropCores r s).pending = s.pending := by simp [dropCores]

@[simp] theorem dike_pending (r : Nat) (s : State) : (dike r s).pending = s.pending := by simp [dike]

@[simp] theorem endWaiting_pending (op r : Nat) (res : Res) (s : State) : (endWaiting op r res s).pending = s.pending := by
  simp [endWaiting]

@[simp] theorem openIfDue_pending (s : State) : (openIfDue s).pending = s.pending := by
  unfold openIfDue
  repeat' split
  all_goals simp

@[simp] theorem fenceRegion_pending (r : Nat) (s : State) : (fenceRegion r s).pending = s.pending := by simp [fenceRegion]

@[simp] theorem raiseFence_pending (x : Raise) (s : State) : (raiseFence x s).pending = s.pending := by
  unfold raiseFence
  split <;> simp

@[simp] theorem fenceIfDue_pending (u : FUnit) (cause : FCause) (s : State) : (fenceIfDue u cause s).pending = s.pending := by
  unfold fenceIfDue
  repeat' split
  all_goals simp

@[simp] theorem quarantine_pending (u : FUnit) (s : State) : (quarantine u s).pending = s.pending := rfl

@[simp] theorem raiseContain_pending (x : Raise) (s : State) : (raiseContain x s).pending = s.pending := by
  unfold raiseContain
  split
  next s1 e => exact (pending_of_eq e).trans (record_pending _ _ _)
  next rec s1 e =>
    refine Eq.trans ?_ ((pending_of_eq e).trans (record_pending _ _ _))
    split
    · rfl
    · simp

@[simp] theorem raiseRetry_pending (x : Raise) (onFail : Status) (s : State) : (raiseRetry x onFail s).pending = s.pending := by
  unfold raiseRetry
  split
  next s1 e => simp [pending_of_eq e]
  next rec s1 e =>
    refine Eq.trans ?_ ((pending_of_eq e).trans (record_pending _ _ _))
    split
    · rfl
    · simp

@[simp] theorem ackRecord_pending (q : Nat) (s : State) : (ackRecord q s).2.pending = s.pending := by
  unfold ackRecord
  split <;> simp

@[simp] theorem rerunElsewhere_pending (j : Nat) (s : State) : (rerunElsewhere j s).pending = s.pending := by
  unfold rerunElsewhere
  split <;> simp

/-! ### Path -/

theorem runVerb_pending (op j : Nat) {body : Cmd → State → State × Option Res} (hb : KeepsQueue body) (s : State) :
    (runVerb op j body s).pending = s.pending := by
  unfold runVerb
  split
  · rfl
  next c _ =>
    split
    · split
      · simp
      · dsimp only
        split
        next s1 e => exact (pending_of_eq_fst e).trans (hb c _)
        next s1 r e => simp [pending_of_eq_fst e, hb c _]
    · rfl

/-! ### KeyUse -/

@[simp] theorem countUse_pending (c : Cmd) (k : KeyRec) (n lim : Nat) (s : State) : (countUse c k n lim s).2.pending = s.pending := by
  unfold countUse
  repeat' split
  all_goals simp

@[simp] theorem ShelfKey.toCell_pending (e : ShelfKey) (order : Nat) (s : State) : (e.toCell order s).2.pending = s.pending := rfl

@[simp] theorem evictFor_pending (r i n m : Nat) (s : State) : (evictFor r i n m s).pending = s.pending := by
  induction m generalizing s with
  | zero => rfl
  | succ m ih =>
    unfold evictFor
    split
    · rfl
    · split
      · rfl
      · rw [ih, State.modRegion_pending]

@[simp] theorem fitShelf_pending (i : Nat) (s : State) : (fitShelf i s).pending = s.pending := by simp [fitShelf]

@[simp] theorem shelve_pending (r : Nat) (e : ShelfKey) (s : State) : (shelve r e s).2.pending = s.pending := by
  simp only [shelve]
  repeat' split
  all_goals simp

@[simp] theorem evictCryst_pending (all : Bool) (r i n quota : Nat) (may : CrystEntry → Bool) (m : Nat) (s : State) :
    (evictCryst all r i n quota may m s).pending = s.pending := by
  rw [(evictCryst_same all r i n quota may m s).1]

@[simp] theorem fillCryst_pending (r : Nat) (f : CrystEntry) (s : State) : (fillCryst r f s).pending = s.pending := by simp [fillCryst]

@[simp] theorem settleFills_pending (r : Nat) (s : State) : (settleFills r s).pending = s.pending := by simp [settleFills]

@[simp] theorem repin_pending (r : Nat) (k : KeyRec) (s : State) : (repin r k s).pending = s.pending := by simp [repin]

@[simp] theorem probeTag_pending (r i alg : Nat) (digest : List Byte) (start : Nat) (s0 : State) :
    (probeTag r i alg digest start s0).2.pending = s0.pending := by
  simp only [probeTag]
  repeat' split
  all_goals simp

@[simp] theorem probeCryst_pending (r i alg : Nat) (pk : List Byte) (start : Nat) (s : State) :
    (probeCryst r i alg pk start s).2.pending = s.pending := by simp [probeCryst]

@[simp] theorem leaveUnit_pending (j : Nat) (w : Wait) (s : State) : (leaveUnit j w s).pending = s.pending := by simp [leaveUnit]

@[simp] theorem needKey_pending (c : Cmd) (k : KeyRec) (s : State) : (needKey c k s).2.pending = s.pending := by
  simp only [needKey]
  repeat' split
  all_goals simp

@[simp] theorem takeRandom_pending (n : Nat) (c : Cmd) (s : State) : (takeRandom n c s).2.pending = s.pending := by
  simp only [takeRandom]
  repeat' split
  all_goals simp

@[simp] theorem toCheck_pending (j : Nat) (r : Res) (s : State) : (toCheck j r s).pending = s.pending := by simp [toCheck]

@[simp] theorem drawMask_pending (r p n : Nat) (s : State) : (drawMask r p n s).2.pending = s.pending := by simp [drawMask]

@[simp] theorem withMask_pending (n : Nat) (c : Cmd) (s : State) {k : State → State × Option Res} (hk : ∀ s, (k s).1.pending = s.pending) :
    (withMask n c s k).1.pending = s.pending := by
  unfold withMask
  split
  · exact hk s
  · dsimp only
    split
    · simp [hk]
    · simp

/-! ### Blobs -/

@[simp] theorem takeKeyId_pending (s : State) : (takeKeyId s).2.pending = s.pending := by simp [takeKeyId]

@[simp] theorem sharedOut_pending (wrap : Bool) (i : Nat) (k : Option KeyRec) (ss : List Byte) (s : State) :
    (sharedOut wrap i k ss s).2.pending = s.pending := by
  unfold sharedOut
  split <;> simp

@[simp] theorem useKey_pending (c : Cmd) (n lim : Nat) (s : State) : (useKey c n lim s).2.pending = s.pending := by
  simp only [useKey]
  repeat' split
  all_goals simp

@[simp] theorem withKey_pending (c : Cmd) (s : State) {k : List Byte → List Byte → State → State × Option Res}
    (hk : ∀ sk pub s, (k sk pub s).1.pending = s.pending) : (withKey c s k).1.pending = s.pending := by
  unfold withKey
  split
  · exact hk _ _ s
  · split
    next e s1 he => simp [hk, pending_of_eq he]
    next s1 he => simp [pending_of_eq he]
    next st s1 he => simp [pending_of_eq he]

@[simp] theorem withRandom_pending (n : Nat) (c : Cmd) (s : State) {k : List Byte → State → State × Option Res}
    (hk : ∀ b s, (k b s).1.pending = s.pending) : (withRandom n c s k).1.pending = s.pending := by
  unfold withRandom
  split
  next b s1 he => simp [hk, pending_of_eq he]
  next s1 he => simp [pending_of_eq he]

@[simp] theorem withDraw_pending (n m : Nat) (c : Cmd) (s : State) {k : List Byte → State → State × Option Res}
    (hk : ∀ b s, (k b s).1.pending = s.pending) : (withDraw n m c s k).1.pending = s.pending :=
  withRandom_pending n c s fun _ s => (hk _ _).trans (drawBytes_pending s m)

@[simp] theorem orBad_pending (l : List (Option Status)) (s : State) {k : State → State × Option Res}
    (hk : ∀ s, (k s).1.pending = s.pending) : (orBad l s k).1.pending = s.pending := by
  unfold orBad
  split
  · rfl
  · exact hk s

@[simp] theorem countThen_pending (c : Cmd) (n lim : Nat) (s : State) {k : State → State × Option Res}
    (hk : ∀ s, (k s).1.pending = s.pending) : (countThen c n lim s k).1.pending = s.pending := by
  unfold countThen
  split
  next st s1 he => simp [pending_of_eq he]
  next s1 he => simp [hk, pending_of_eq he]

/-! ### Random -/

@[simp] theorem askSeed_pending (r : Nat) (s : State) : (askSeed r s).pending = s.pending := by simp [askSeed]

@[simp] theorem rngLastingBy_pending (injected : Bool) (r : Nat) (s : State) : (rngLastingBy injected r s).pending = s.pending := by
  simp [rngLastingBy]

@[simp] theorem rngLasting_pending (r : Nat) (s : State) : (rngLasting r s).pending = s.pending := by simp [rngLasting]

@[simp] theorem healthFailed_pending (r : Nat) (s : State) : (healthFailed r s).pending = s.pending := by simp [healthFailed]

@[simp] theorem startFailed_pending (r : Nat) (s : State) : (startFailed r s).pending = s.pending := by simp [startFailed]

@[simp] theorem wakeMasked_pending (r : Nat) (s : State) : (wakeMasked r s).pending = s.pending := by simp [wakeMasked]

@[simp] theorem giveSeed_pending (r p : Nat) (s : State) : (giveSeed r p s).pending = s.pending := by simp [giveSeed]

@[simp] theorem maskFault_pending (injected : Bool) (r p : Nat) (s : State) : (maskFault injected r p s).pending = s.pending := by
  simp only [maskFault]
  repeat' split
  all_goals simp

theorem rngGenerate_keepsQueue : KeepsQueue rngGenerate := by
  intro c s
  simp [rngGenerate]

theorem rngKat_keepsQueue : KeepsQueue rngKat := fun c s =>
  orBad_pending _ _ fun s => by
    repeat' split
    all_goals simp

theorem rngRaw_keepsQueue : KeepsQueue rngRaw := fun c s =>
  orBad_pending _ _ fun s => by simp

/-! ### Symmetric -/

@[simp] theorem takeSym_pending (c : Cmd) (r : Nat) (s : State) : (takeSym c r s).pending = s.pending := by
  unfold takeSym
  repeat' split
  all_goals simp

@[simp] theorem symRun_pending (c : Cmd) (s : State) {f : List Byte → State → State × Option Res}
    (hf : ∀ sk s, (f sk s).1.pending = s.pending) : (symRun c s f).1.pending = s.pending := by
  refine orBad_pending _ _ fun s => countThen_pending c _ _ s fun s => withKey_pending c s fun sk _ s => ?_
  split
  next s1 r he => exact (pending_of_eq_fst he).trans (hf sk s)
  · exact hf sk s

theorem aeadEncrypt_keepsQueue : KeepsQueue aeadEncrypt := by
  intro c s
  simp [aeadEncrypt]

theorem aeadDecrypt_keepsQueue : KeepsQueue aeadDecrypt := fun c s =>
  symRun_pending c _ fun k s => by
    dsimp only
    split <;> simp

theorem cipher_keepsQueue (f : String) : KeepsQueue (cipher f) := by
  intro c s
  simp [cipher]

theorem symMac_keepsQueue : KeepsQueue symMac := by
  intro c s
  simp [symMac]

theorem symMacVerify_keepsQueue : KeepsQueue symMacVerify := fun c s =>
  symRun_pending c _ fun k s => by
    split <;> simp

theorem symWrap_keepsQueue : KeepsQueue symWrap := by
  intro c s
  simp [symWrap]

theorem symUnwrap_keepsQueue : KeepsQueue symUnwrap := fun c s =>
  symRun_pending c _ fun k s => by
    dsimp only
    split <;> simp

/-! ### Time -/

@[simp] theorem State.holdAt_pending (s : State) (e : Nat) : (s.holdAt e).pending = s.pending := by simp [State.holdAt]

@[simp] theorem State.rebase_pending (s : State) : (s.rebase).pending = s.pending := by simp [State.rebase]

@[simp] theorem State.ppsHeld_pending (s : State) : (s.ppsHeld).pending = s.pending := by simp [State.ppsHeld]

@[simp] theorem stepTick_pending (d : ℤ) (s : State) : (stepTick d s).pending = s.pending := by simp [stepTick]

@[simp] theorem slewTo_pending (x : TSrc) (s : State) : (slewTo x s).pending = s.pending := by simp [slewTo]

@[simp] theorem lockIfDue_pending (s : State) : (lockIfDue s).pending = s.pending := by
  unfold lockIfDue
  split <;> simp

@[simp] theorem setUtc_pending (off : Nat) (l61 l59 : Bool) (s : State) : (setUtc off l61 l59 s).pending = s.pending := by simp [setUtc]

@[simp] theorem utcOf_pending (x : TSrc) (s : State) : (utcOf x s).pending = s.pending := by
  unfold utcOf
  split <;> simp

@[simp] theorem takeSource_pending (x : TSrc) (s : State) : (takeSource x s).pending = s.pending := by
  unfold takeSource
  split <;> simp

@[simp] theorem selectSource_pending (s : State) : (selectSource s).pending = s.pending := by
  unfold selectSource
  split <;> simp

@[simp] theorem dropActive_pending (e : Nat) (s : State) : (dropActive e s).pending = s.pending := by
  simp only [dropActive]
  repeat' split
  all_goals simp

@[simp] theorem loseSource_pending (x : TSrc) (s : State) : (loseSource x s).pending = s.pending := by simp [loseSource]

@[simp] theorem measured_pending (x : TSrc) (off : ℤ) (err : Nat) (s : State) : (measured x off err s).pending = s.pending := by
  simp only [measured]
  repeat' split
  all_goals simp

@[simp] theorem utcFrom_pending (x : TSrc) (off : Nat) (l61 l59 : Bool) (s : State) : (utcFrom x off l61 l59 s).pending = s.pending := by
  simp [utcFrom]

@[simp] theorem timNowReadAt_pending (s : State) : (timNowReadAt s).pending = s.pending := by simp [timNowReadAt]

@[simp] theorem timCfgWriteAt_pending (v : Nat) (s : State) : (timCfgWriteAt v s).pending = s.pending := by simp [timCfgWriteAt]

@[simp] theorem timeCoarse_pending (s : State) : (timeCoarse s).pending = s.pending := by simp [timeCoarse]

theorem timeRead_keepsQueue : KeepsQueue timeRead := by
  intro c s
  simp [timeRead]

theorem timeSet_keepsQueue : KeepsQueue timeSet := fun c s =>
  orBad_pending _ _ fun s => by
    dsimp only
    split <;> simp

/-! ### Frames -/

@[simp] theorem State.modStream_pending (s : State) (n : Nat) (f : Stream → Stream) : (s.modStream n f).pending = s.pending := by
  simp [State.modStream]

@[simp] theorem State.modSession_pending (s : State) (n : Nat) (f : Session → Session) : (s.modSession n f).pending = s.pending := by
  simp [State.modSession]

@[simp] theorem raiseRing_pending (i n : Nat) (s : State) : (raiseRing i n s).pending = s.pending := by simp [raiseRing]

@[simp] theorem ringSignal_pending (i n l : Nat) (now : Bool) (s : State) : (ringSignal i n l now s).pending = s.pending := by
  simp [ringSignal]

@[simp] theorem putEntry_pending (i n typ flen : Nat) (body : List Byte) (now : Bool) (s : State) :
    (putEntry i n typ flen body now s).2.pending = s.pending := by
  simp only [putEntry]
  repeat' split
  all_goals simp

@[simp] theorem streamEvent_pending (n ev tick : Nat) (s : State) : (streamEvent n ev tick s).pending = s.pending := by
  unfold streamEvent
  split <;> simp

@[simp] theorem deliverTo_pending (n : Nat) (f : Judged) (hstate win : Nat) (x : Sub) (s : State) :
    (deliverTo n f hstate win x s).pending = s.pending := by simp [deliverTo]

@[simp] theorem deliverAll_pending (n : Nat) (f : Judged) (hstate win : Nat) (p : Sub → Bool) (s : State) :
    (deliverAll n f hstate win p s).pending = s.pending := by
  unfold deliverAll
  split <;> simp

@[simp] theorem rateRoll_pending (n tick : Nat) (s : State) : (rateRoll n tick s).pending = s.pending := by
  unfold rateRoll
  split <;> simp

@[simp] theorem streamPass_pending (n ingress ttl : Nat) (s : State) : (streamPass n ingress ttl s).pending = s.pending := by
  unfold streamPass
  split <;> simp

@[simp] theorem streamFail_pending (n t : Nat) (s : State) : (streamFail n t s).pending = s.pending := by
  unfold streamFail
  split <;> simp

@[simp] theorem streamRelease_pending (n : Nat) (s : State) : (streamRelease n s).pending = s.pending := by
  unfold streamRelease
  split <;> simp

@[simp] theorem frameRingEnableAt_pending (i n v : Nat) (s : State) : (frameRingEnableAt i n v s).pending = s.pending := by
  simp [frameRingEnableAt]

@[simp] theorem frameRingDoorbellAt_pending (i n v : Nat) (s : State) : (frameRingDoorbellAt i n v s).pending = s.pending := by
  simp [frameRingDoorbellAt]

@[simp] theorem ringTimer_pending (i n : Nat) (s : State) : (ringTimer i n s).pending = s.pending := by simp [ringTimer]

/-! ### Harvest -/

@[simp] theorem deliverHeld_pending (n hstate : Nat) (win : PFrame → Nat) (ps : List PFrame) (s : State) :
    (deliverHeld n hstate win ps s).pending = s.pending :=
  foldl_pending (fun s p => by split <;> simp) ps s

@[simp] theorem harvestEntry_pending (n result reason count win tq start : Nat) (s : State) :
    (harvestEntry n result reason count win tq start s).pending = s.pending := by
  unfold harvestEntry
  repeat' split
  all_goals simp

@[simp] theorem resolveEach_pending (n reason : Nat) (x : Session) (ps : List PFrame) (s : State) :
    (resolveEach n reason x ps s).pending = s.pending := by simp [resolveEach]

@[simp] theorem resolveLost_pending (n : Nat) (x : Session) (ps : List PFrame) (s : State) : (resolveLost n x ps s).pending = s.pending := by
  simp [resolveLost]

@[simp] theorem dropShards_pending (k : Nat) (s : State) : (dropShards k s).pending = s.pending := by simp [dropShards]

@[simp] theorem endSession_pending (n : Nat) (s : State) : (endSession n s).pending = s.pending := by
  unfold endSession
  split <;> simp

@[simp] theorem endSessionsOf_pending (n : Nat) (s : State) : (endSessionsOf n s).pending = s.pending := by simp [endSessionsOf]

@[simp] theorem sealFail_pending (n w r : Nat) (st : Status) (s : State) : (sealFail n w r st s).pending = s.pending := by simp [sealFail]

@[simp] theorem enqueue_pending (p : Nat) (e : Egress) (s : State) : (enqueue p e s).pending = s.pending := by simp [enqueue]

@[simp] theorem sendSealed_pending (x : Session) (y : Sealing) (obj : List Byte) (s : State) : (sendSealed x y obj s).pending = s.pending := by
  unfold sendSealed
  split <;> simp

@[simp] theorem flushSealed_pending (n m : Nat) (s : State) : (flushSealed n m s).pending = s.pending := by
  induction m generalizing s with
  | zero => rfl
  | succ m ih =>
    unfold flushSealed
    repeat' split
    all_goals simp [ih]

@[simp] theorem closeWindow_pending (n : Nat) (s : State) : (closeWindow n s).pending = s.pending := by
  unfold closeWindow
  repeat' split
  all_goals simp

@[simp] theorem foldSeal_pending (n : Nat) (bare : List Byte) (s : State) : (foldSeal n bare s).pending = s.pending := by
  unfold foldSeal
  split <;> simp

@[simp] theorem shelfSecret_pending (s : State) (k : KeyRec) (order : Nat) : (shelfSecret s k order).2.pending = s.pending := by
  unfold shelfSecret
  split <;> simp

@[simp] theorem sessionEnergy_pending (i : Nat) (nj : Option Nat) (s : State) : (sessionEnergy i nj s).pending = s.pending := by
  simp only [sessionEnergy]
  repeat' split
  all_goals simp

@[simp] theorem sessionBatch_pending (i : Nat) (s : State) : (sessionBatch i s).pending = s.pending := by simp [sessionBatch]

@[simp] theorem sealOnce_pending (x : Session) (k : KeyRec) (record : List Byte) (r p n : Nat) (at' : Nat × Nat) (s : State) :
    (sealOnce x k record r p n at' s).2.2.pending = s.pending := by
  simp only [sealOnce]
  repeat' split
  all_goals simp

@[simp] theorem sealCheckFail_pending (r p : Nat) (s : State) : (sealCheckFail r p s).pending = s.pending := by
  simp only [sealCheckFail]
  repeat' split
  all_goals simp

theorem checkedSign_pending (r n : Nat) {once : Nat → Nat × Nat → State → Except Status Bool × List Byte × State}
    (ho : ∀ p a s, (once p a s).2.2.pending = s.pending) (s : State) : ∀ x ∈ checkedSign r n once s, x.2.pending = s.pending := by
  have run {p a s x b s1} (e : once p a s = (x, b, s1)) : s1.pending = s.pending := by
    have := ho p a s
    rwa [e] at this
  unfold checkedSign
  repeat' split
  all_goals simp only [Option.mem_def, Option.some.injEq, forall_eq', reduceCtorEq, false_implies, implies_true]
  all_goals grind [sealCheckFail_pending]

theorem sealSign_pending (x : Session) (k : KeyRec) (record : List Byte) (s : State) : ∀ y ∈ sealSign x k record s, y.2.pending = s.pending := by
  unfold sealSign
  split
  · simp
  · dsimp only
    split
    · simp
    · exact checkedSign_pending _ _ (fun p a s => by simp) _

@[simp] theorem failRecord_pending (n : Nat) (rec : List Byte) (reason : Nat) (s : State) : (failRecord n rec reason s).pending = s.pending := by
  unfold failRecord
  split <;> simp

@[simp] theorem passRecord_pending (n : Nat) (rec : List Byte) (s : State) : (passRecord n rec s).pending = s.pending := by
  unfold passRecord
  split <;> simp

@[simp] theorem recordComplete_pending (n : Nat) (a : Assembly) (s : State) : (recordComplete n a s).pending = s.pending := by
  simp only [recordComplete]
  repeat' split
  all_goals simp

@[simp] theorem takeShard_pending (h : Nat) (b : List Byte) (s : State) : (takeShard h b s).pending = s.pending := by
  simp only [takeShard]
  repeat' split
  all_goals simp

@[simp] theorem foldVerify_pending (n : Nat) (bare : List Byte) (h : Held) (ingress : Nat) (deliverable : Bool) (s : State) :
    (foldVerify n bare h ingress deliverable s).2.pending = s.pending := by
  simp only [foldVerify]
  repeat' split
  all_goals simp

theorem frmHarvestSet_keepsQueue : KeepsQueue frmHarvestSet := fun c s =>
  orBad_pending _ _ fun s => by
    split
    · simp
    · split
      · exact orBad_pending _ _ fun s => by simp
      · rfl

theorem frmHarvestStatus_keepsQueue : KeepsQueue frmHarvestStatus := by
  intro c s
  simp [frmHarvestStatus]

/-! ### FramePath -/

@[simp] theorem forward_pending (p : Nat) (e : Egress) (s : State) : (forward p e s).pending = s.pending := by simp [forward]

@[simp] theorem answerPdelay_pending (p : Nat) (b : List Byte) (s : State) : (answerPdelay p b s).pending = s.pending := by
  simp [answerPdelay]

@[simp] theorem rxPtp_pending (p : Nat) (b : List Byte) (s : State) : (rxPtp p b s).pending = s.pending := by simp [rxPtp]

@[simp] theorem rxUnknown_pending (p : Nat) (b : List Byte) (s : State) : (rxUnknown p b s).pending = s.pending := by simp [rxUnknown]

@[simp] theorem notePass_pending (n kind : Nat) (bare : List Byte) (ingress : Nat) (s : State) :
    (notePass n kind bare ingress s).pending = s.pending := by simp [notePass]

@[simp] theorem rxDeliver_pending (n : Nat) (st : Stream) (f : Judged) (bare : List Byte) (folds : Bool) (s : State) :
    (rxDeliver n st f bare folds s).pending = s.pending := by
  simp only [rxDeliver]
  repeat' split
  all_goals simp

@[simp] theorem rxStream_pending (p n : Nat) (b : List Byte) (fault : Bool) (s : State) : (rxStream p n b fault s).pending = s.pending := by
  unfold rxStream
  split <;> simp

@[simp] theorem depart_pending (p : Nat) (e : Egress) (s : State) : (depart p e s).pending = s.pending := by
  unfold depart
  repeat' split
  all_goals simp

theorem frmSend_keepsQueue : KeepsQueue frmSend := fun c s =>
  orBad_pending _ _ fun s => by
    dsimp only
    repeat' split
    all_goals simp

@[simp] theorem retrain_pending (p : Nat) (s : State) : (retrain p s).pending = s.pending := by simp [retrain]

@[simp] theorem setPortMode_pending (p : Nat) (m : PortMode) (s : State) : (setPortMode p m s).pending = s.pending := by simp [setPortMode]

theorem frmPortSet_keepsQueue : KeepsQueue frmPortSet := fun c s =>
  orBad_pending _ _ fun s => by
    dsimp only
    rw [State.modPort_pending]
    repeat' split
    all_goals simp

theorem frmStreamSet_keepsQueue : KeepsQueue frmStreamSet := fun c s =>
  orBad_pending _ _ fun s => by
    dsimp only
    repeat' split
    all_goals simp

theorem frmStreamClear_keepsQueue : KeepsQueue frmStreamClear := fun c s =>
  orBad_pending _ _ fun s => by simp

theorem frmStreamRelease_keepsQueue : KeepsQueue frmStreamRelease := fun c s =>
  orBad_pending _ _ fun s => by simp

theorem frmStreamStatus_keepsQueue : KeepsQueue frmStreamStatus := fun c s =>
  orBad_pending _ _ fun s => by split <;> rfl

theorem frmKeySet_keepsQueue : KeepsQueue frmKeySet := fun c s =>
  orBad_pending _ _ fun s => by simp

theorem frmSubscribe_keepsQueue : KeepsQueue frmSubscribe := fun c s =>
  orBad_pending _ _ fun s => by simp

theorem frmUnsubscribe_keepsQueue : KeepsQueue frmUnsubscribe := fun c s =>
  orBad_pending _ _ fun s => by simp

theorem frmChecked_keepsQueue (f : Cmd → State → State × Option Res) : KeepsQueue (frmChecked f) := by
  intro c s
  simp [frmChecked]

theorem frmConfig_keepsQueue {n : Nat} {f : Cmd → State → State × Option Res} (e : frmConfig n = some f) : KeepsQueue f := by
  unfold frmConfig at e
  split at e <;> cases e
  · exact frmSubscribe_keepsQueue
  · exact frmUnsubscribe_keepsQueue
  · exact frmPortSet_keepsQueue
  · exact frmStreamSet_keepsQueue
  · exact frmStreamClear_keepsQueue
  · exact frmKeySet_keepsQueue
  · exact frmHarvestSet_keepsQueue

@[simp] theorem frmSettled_pending (c : Cmd) (r : Res) (s : State) : (frmSettled c r s).1.pending = s.pending := by
  unfold frmSettled
  split
  next f e =>
    split
    · exact frmConfig_keepsQueue e c s
    · rfl
  · rfl

@[simp] theorem framesGeneration_pending (i : Nat) (s : State) : (framesGeneration i s).pending = s.pending := by
  unfold framesGeneration
  dsimp only
  refine (foldl_pending (fun s n => endSession_pending n s) _ _).trans ?_
  exact foldl_pending (fun s e => foldl_pending (fun s h => State.modPort_pending ..) _ s) _ s

/-! ### Kertor -/

@[simp] theorem State.setCore_pending (s : State) (c : CoreId) (k : Core) : (s.setCore c k).pending = s.pending := by simp [State.setCore]

/-! ### Keys -/

@[simp] theorem newRecord_pending (j : Job) (n : NewKey) (home blobOperand lmsId : Nat) (s : State) :
    (newRecord j n home blobOperand lmsId s).2.pending = s.pending := by simp [newRecord]

@[simp] theorem shelfOf_pending (k : KeyRec) (n : NewKey) (s : State) : (shelfOf k n s).2.pending = s.pending := rfl

@[simp] theorem takeLms_pending (s : State) : (takeLms s).2.pending = s.pending := by simp [takeLms]

@[simp] theorem created_pending (c : Cmd) (n : NewKey) (outs : List (Nat × List Byte)) (s : State) :
    (created c n outs s).1.pending = s.pending := by
  simp only [created]
  repeat' split
  all_goals simp

@[simp] theorem enterKey_pending (r : Res) (s : State) : (enterKey r s).pending = s.pending := by
  unfold enterKey
  repeat' split
  all_goals simp

@[simp] theorem withSeed_pending (c : Cmd) (s : State) {k : List Byte → State → State × Option Res}
    (hk : ∀ b s, (k b s).1.pending = s.pending) : (withSeed c s k).1.pending = s.pending :=
  withMask_pending _ c _ fun _ => withDraw_pending _ _ c _ hk

@[simp] theorem mceAttempts_pending (alg : Nat) (s : State) : (mceAttempts alg s).2.pending = s.pending := by
  unfold mceAttempts
  split <;> simp

@[simp] theorem countAttempts_pending (r n : Nat) (s : State) : (countAttempts r n s).pending = s.pending := by simp [countAttempts]

@[simp] theorem attemptsFault_pending (c : Cmd) (s : State) : (attemptsFault c s).pending = s.pending := by simp [attemptsFault]

theorem keyGenerate_keepsQueue : KeepsQueue keyGenerate := by
  intro c s
  simp [keyGenerate]

theorem keyImport_keepsQueue : KeepsQueue keyImport := fun c s =>
  orBad_pending _ _ fun s => by
    dsimp only
    repeat' split
    all_goals simp

theorem keyDerive_keepsQueue : KeepsQueue keyDerive := fun c s =>
  orBad_pending _ _ fun s => countThen_pending c _ _ _ fun s => withKey_pending c _ fun sk pub s => by simp

@[simp] theorem countUnwrap_pending (r i : Nat) (s : State) : (countUnwrap r i s).pending = s.pending := by simp [countUnwrap]

@[simp] theorem unwrapped_pending (r i : Nat) (b : List Byte) (s : State) : (unwrapped r i b s).pending = s.pending := by simp [unwrapped]

@[simp] theorem countBlobFail_pending (s : State) : (countBlobFail s).pending = s.pending := by simp [countBlobFail]

theorem keyLoad_keepsQueue : KeepsQueue keyLoad := fun c s => by
  unfold keyLoad
  dsimp only
  refine orBad_pending _ _ fun s => ?_
  split
  · repeat' split
    all_goals simp
  · refine orBad_pending _ _ fun s => ?_
    repeat' split
    all_goals simp

@[simp] theorem loadShelf_pending (j : Nat) (b : List Byte) (s : State) : (loadShelf j b s).pending = s.pending := by
  unfold loadShelf
  split
  · rfl
  · split
    · rfl
    · dsimp only
      split
      · rfl
      · split
        · simp
        · split
          next s2 e =>
            refine (foldl_pending (fun s j => State.modProg_pending s j _) _ _).trans ?_
            simp [pending_of_eq e]
          next s2 e => simp [pending_of_eq e]

@[simp] theorem dropShelf_pending (j : Nat) (k : KeyRec) (s : State) : (dropShelf j k s).pending = s.pending := by simp [dropShelf]

@[simp] theorem actOnKey_pending (c : Cmd) {act : KeyRec → State → State} (ha : ∀ k s, (act k s).pending = s.pending) (s : State) :
    (actOnKey c act s).1.pending = s.pending := by
  refine orBad_pending _ _ fun s => ?_
  split
  · rfl
  · dsimp only
    split
    · rfl
    · simp [ha]

theorem keyEvict_keepsQueue : KeepsQueue keyEvict := fun c _ =>
  actOnKey_pending c (fun _ _ => rfl) _

@[simp] theorem dropPins_pending (k : KeyRec) (s : State) : (dropPins k s).pending = s.pending := by simp [dropPins]

@[simp] theorem deleteKey_pending (j : Nat) (k : KeyRec) (s : State) : (deleteKey j k s).pending = s.pending := by
  unfold deleteKey
  dsimp only
  rw [commit_pending, State.modKey_pending, dropPins_pending]

theorem keyDelete_keepsQueue : KeepsQueue keyDelete := fun c _ =>
  actOnKey_pending c (fun k s => deleteKey_pending _ k s) _

@[simp] theorem pinCryst_pending (c : Cmd) (k : KeyRec) (pk : List Byte) (s : State) : (pinCryst c k pk s).1.pending = s.pending := by
  simp only [pinCryst]
  repeat' split
  all_goals simp

@[simp] theorem streamKey_pending (c : Cmd) (k : KeyRec) (s : State) {f : List Byte → State → State × Option Res}
    (hf : ∀ b s, (f b s).1.pending = s.pending) : (streamKey c k s f).1.pending = s.pending := by
  unfold streamKey
  split
  · exact hf _ s
  · split
    · rfl
    · simp

@[simp] theorem pinPlace_pending (r : Nat) (k : KeyRec) (pub : List Byte) (s : State) : (pinPlace r k pub s).pending = s.pending := by
  simp [pinPlace]

@[simp] theorem rehome_pending (r : Nat) (k : KeyRec) (s : State) : (rehome r k s).2.pending = s.pending := by
  unfold rehome
  split <;> simp

@[simp] theorem pinMce_pending (c : Cmd) (k : KeyRec) (s : State) : (pinMce c k s).1.pending = s.pending := by
  unfold pinMce
  dsimp only
  repeat' split
  all_goals simp [streamKey_pending]

@[simp] theorem mceKey_pending (c : Cmd) (k : KeyRec) (s : State) {f : Bool → List Byte → State → State × Option Res}
    (hf : ∀ x b s, (f x b s).1.pending = s.pending) : (mceKey c k s f).1.pending = s.pending := by
  unfold mceKey
  dsimp only
  split
  · simp [hf]
  · refine (streamKey_pending c _ _ fun b s => ?_).trans (rehome_pending _ _ _)
    simp [hf]

theorem keyPinPublic_keepsQueue : KeepsQueue keyPinPublic := fun c s =>
  orBad_pending _ _ fun s => by
    split
    · rfl
    · split
      · exact pinMce_pending c _ _
      · split
        · rfl
        · exact withKey_pending c _ fun sk pub s => by simp

theorem keyList_keepsQueue : KeepsQueue keyList := by
  intro c s
  simp [keyList]

theorem keyIdentity_keepsQueue : KeepsQueue keyIdentity := by
  intro c s
  simp [keyIdentity]

theorem keyTransfer_keepsQueue : KeepsQueue keyTransfer := fun c s =>
  orBad_pending _ _ fun s => by
    split
    · rfl
    · exact withKey_pending c _ fun sk pub s => by
        split
        · exact mceKey_pending c _ _ fun _ b s => by simp
        · simp

theorem setVault_pending (t : State) (v : Vault) : ({ t with vault := v } : State).pending = t.pending := rfl

@[simp] theorem revokeAll_pending (s : State) : (revokeAll s).pending = s.pending :=
  (setVault_pending _ _).trans (foldl_pending (fun _ _ => State.modRegion_pending ..) _ s)

@[simp] theorem revokeInst_pending (i : Nat) (s : State) : (revokeInst i s).pending = s.pending := by simp [revokeInst]

@[simp] theorem dropPkgs_pending (s : State) : (dropPkgs s).pending = s.pending := by
  unfold dropPkgs
  dsimp only
  exact foldl_pending (fun s r => State.modRegion_pending ..) _ s

@[simp] theorem applyKum_pending (m : KumSlot) (s : State) : (applyKum m s).pending = s.pending := by
  unfold applyKum
  split <;> simp

@[simp] theorem reprovision_pending (m : KumSlot) (s : State) : (reprovision m s).pending = s.pending := by
  unfold reprovision
  split <;> simp

@[simp] theorem carryKum_pending (j : Option Nat) (b : List Byte) (s : State) : (carryKum j b s).pending = s.pending := by
  unfold carryKum
  split <;> simp

theorem keyUpdate_keepsQueue : KeepsQueue keyUpdate := by
  intro c s
  simp [keyUpdate]

@[simp] theorem vltHcapWriteAt_pending (v : Nat) (s : State) : (vltHcapWriteAt v s).pending = s.pending := by simp [vltHcapWriteAt]

@[simp] theorem clrCountsAt_pending (r : Nat) (shelf : Bool) (s : State) : (clrCountsAt r shelf s).pending = s.pending := by
  simp [clrCountsAt]

/-! ### Lattice -/

@[simp] theorem withMasks_pending (op : Nat) (c : Cmd) (s : State) {k : State → State × Option Res}
    (hk : ∀ s, (k s).1.pending = s.pending) : (withMasks op c s k).1.pending = s.pending := withMask_pending _ c _ hk

theorem mlkemEncaps_keepsQueue : KeepsQueue mlkemEncaps := fun c s =>
  orBad_pending _ _ fun s => countThen_pending c _ _ _ fun s => withMasks_pending _ c _ fun s =>
    withKey_pending c _ fun sk pub s => withRandom_pending _ c _ fun d s => by
    dsimp only
    split <;> simp

theorem mlkemDecaps_keepsQueue : KeepsQueue mlkemDecaps := fun c s =>
  orBad_pending _ _ fun s => countThen_pending c _ _ _ fun s => withMasks_pending _ c _ fun s =>
    withKey_pending c _ fun sk pub s => by simp

theorem hybEncaps_keepsQueue : KeepsQueue hybEncaps := fun c s =>
  orBad_pending _ _ fun s => countThen_pending c _ _ _ fun s => orBad_pending _ _ fun s => withMasks_pending _ c _ fun s =>
    withKey_pending c _ fun sk pub s => withRandom_pending _ c _ fun d s => by
    dsimp only
    split <;> simp

theorem hybDecaps_keepsQueue : KeepsQueue hybDecaps := fun c s =>
  orBad_pending _ _ fun s => countThen_pending c _ _ _ fun s => orBad_pending _ _ fun s => withMasks_pending _ c _ fun s =>
    withKey_pending c _ fun sk pub s => withRandom_pending _ c _ fun d s => by
    dsimp only
    split <;> simp

@[simp] theorem releaseSig_pending (c : Cmd) (nj : Option Nat) (sig : List Byte) (s : State) : (releaseSig c nj sig s).1.pending = s.pending := by
  simp only [releaseSig]
  repeat' split
  all_goals simp

theorem mldsaSign_keepsQueue : KeepsQueue mldsaSign := fun c s =>
  orBad_pending _ _ fun s => countThen_pending c _ _ _ fun s => orBad_pending _ _ fun s => withMasks_pending _ c _ fun s =>
    withKey_pending c _ fun sk pub s => withRandom_pending _ c _ fun d s => by
    dsimp only
    repeat' split
    all_goals simp

theorem mldsaVerify_keepsQueue : KeepsQueue mldsaVerify := fun c s =>
  orBad_pending _ _ fun s => countThen_pending c _ _ _ fun s => withKey_pending c _ fun sk pub s => by simp

theorem fndsaVerify_keepsQueue : KeepsQueue fndsaVerify := fun c s =>
  orBad_pending _ _ fun s => countThen_pending c _ _ _ fun s => withKey_pending c _ fun sk pub s => by
    dsimp only
    split <;> simp

theorem compSign_keepsQueue : KeepsQueue compSign := fun c s =>
  orBad_pending _ _ fun s => countThen_pending c _ _ _ fun s => orBad_pending _ _ fun s => by
    have signed (l : Nat) (k : List Byte → List Byte → State → State × Option Res) (hk : ∀ sk d s, (k sk d s).1.pending = s.pending)
        (s : State) : (withKey c s fun sk _ s => withRandom l c s fun d s => k sk d s).1.pending = s.pending :=
      withKey_pending c _ fun sk _ s => withRandom_pending l c _ fun d s => hk sk d s
    dsimp only
    split
    · exact withMasks_pending _ c _ fun s => signed _ _ (fun sk d s => by
        repeat' split
        all_goals simp) s
    · exact signed _ _ (fun sk d s => by
        repeat' split
        all_goals simp) s

theorem compVerify_keepsQueue : KeepsQueue compVerify := fun c s =>
  orBad_pending _ _ fun s => countThen_pending c _ _ _ fun s => orBad_pending _ _ fun s => withKey_pending c _ fun sk pub s => by
    dsimp only
    split <;> simp

/-! ### Number -/

@[simp] theorem numRun_pending (c : Cmd) (cls : List Nat) (use : Nat) (s : State) {f : State → State × Option Res}
    (hf : ∀ s, (f s).1.pending = s.pending) : (numRun c cls use s f).1.pending = s.pending := by
  refine orBad_pending _ _ fun s => countThen_pending c _ _ s fun s => orBad_pending _ _ fun s => ?_
  dsimp only
  split
  next s1 r he => exact (pending_of_eq_fst he).trans (hf _)
  · exact hf _

@[simp] theorem releaseNum_pending (c : Cmd) (sig : List Byte) (s : State) : (releaseNum c sig s).1.pending = s.pending := by
  simp [releaseNum]

theorem rsaEncrypt_keepsQueue : KeepsQueue rsaEncrypt := fun c s =>
  numRun_pending c _ _ _ fun s => withKey_pending c _ fun sk pub s => withDraw_pending _ _ c _ fun d s => by
    dsimp only
    split <;> simp

theorem rsaDecrypt_keepsQueue : KeepsQueue rsaDecrypt := fun c s =>
  numRun_pending c _ _ _ fun s => withKey_pending c _ fun sk pub s => withRandom_pending _ c _ fun d s => by
    dsimp only
    repeat' split
    all_goals simp

theorem rsaSign_keepsQueue : KeepsQueue rsaSign := fun c s =>
  numRun_pending c _ _ _ fun s => withKey_pending c _ fun sk pub s => withRandom_pending _ c _ fun d s => by simp

theorem rsaVerify_keepsQueue : KeepsQueue rsaVerify := by
  intro c s
  simp [rsaVerify]

theorem ecdsaSign_keepsQueue : KeepsQueue ecdsaSign := fun c s =>
  numRun_pending c _ _ _ fun s => withKey_pending c _ fun sk pub s => withRandom_pending _ c _ fun d s => by simp

theorem ecdsaVerify_keepsQueue : KeepsQueue ecdsaVerify := fun c s =>
  numRun_pending c _ _ _ fun s => withKey_pending c _ fun sk pub s => by
    dsimp only
    split <;> simp

theorem eddsaSign_keepsQueue : KeepsQueue eddsaSign := fun c s =>
  numRun_pending c _ _ _ fun s => withKey_pending c _ fun sk pub s => withRandom_pending _ c _ fun d s => by simp

theorem eddsaVerify_keepsQueue : KeepsQueue eddsaVerify := fun c s =>
  numRun_pending c _ _ _ fun s => withKey_pending c _ fun sk pub s => by
    dsimp only
    split <;> simp

theorem kemEcdh_keepsQueue : KeepsQueue kemEcdh := fun c s =>
  numRun_pending c _ _ _ fun s => withKey_pending c _ fun sk pub s => withDraw_pending _ _ c _ fun d s => by
    dsimp only
    repeat' split
    all_goals simp

@[simp] theorem withStream_pending (c : Cmd) (s : State) {f : List Byte → State → State × Option Res}
    (hf : ∀ b s, (f b s).1.pending = s.pending) : (withStream c s f).1.pending = s.pending := by
  unfold withStream
  dsimp only
  repeat' split
  · exact hf _ s
  · rfl
  · refine (foldl_pending (fun s i => ?_) _ _).trans rfl
    split <;> simp

theorem mceEncaps_keepsQueue : KeepsQueue mceEncaps := fun c s =>
  numRun_pending c _ _ _ fun s => by
    dsimp only
    split
    · exact withStream_pending c _ fun pk s => withDraw_pending _ _ c _ fun d s => by simp
    · exact mceKey_pending c _ _ fun x pk s => withDraw_pending _ _ c _ fun d s => by simp

theorem codeDecaps_keepsQueue (f : String) : KeepsQueue (codeDecaps f) := fun c s =>
  numRun_pending c _ _ _ fun s => withKey_pending c _ fun sk pub s => by simp

theorem hqcEncaps_keepsQueue : KeepsQueue hqcEncaps := fun c s =>
  numRun_pending c _ _ _ fun s => withKey_pending c _ fun sk pub s => withDraw_pending _ _ c _ fun d s => by simp

@[simp] theorem applySlotLen_pending (r p : Nat) (s : State) : (applySlotLen r p s).pending = s.pending := by
  unfold applySlotLen
  split <;> simp

@[simp] theorem slotLenWriteAt_pending (r p v : Nat) (s : State) : (slotLenWriteAt r p v s).pending = s.pending := by simp [slotLenWriteAt]

@[simp] theorem slotInspectReadAt_pending (r offset : Nat) (s : State) : (slotInspectReadAt r offset s).pending = s.pending := by
  simp [slotInspectReadAt]

/-! ### Places -/

@[simp] theorem yieldJob_pending (j : Nat) (s : State) : (yieldJob j s).pending = s.pending := by
  unfold yieldJob
  split <;> simp

/-! ### Custom -/

@[simp] theorem State.dropRunOn_pending (s : State) (c : CoreId) : (s.dropRunOn c).pending = s.pending := by simp [State.dropRunOn]

@[simp] theorem State.modRun_pending (s : State) (c : CoreId) (f : CustRun → CustRun) : (s.modRun c f).pending = s.pending := by
  simp [State.modRun]

@[simp] theorem dropRun_pending (j : Nat) (s : State) : (dropRun j s).pending = s.pending := by simp [dropRun]

@[simp] theorem State.modCust_pending (s : State) (r : Nat) (f : CustReg → CustReg) : (s.modCust r f).pending = s.pending := by
  simp [State.modCust]

@[simp] theorem wipeCore_pending (c : CoreId) (s : State) : (wipeCore c s).pending = s.pending := by simp [wipeCore]

@[simp] theorem endRun_pending (x : CustRun) (res : Res) (s : State) : (endRun x res s).pending = s.pending := by
  unfold endRun
  split <;> simp

@[simp] theorem abortRun_pending (x : CustRun) (wdog : Bool) (s : State) : (abortRun x wdog s).pending = s.pending := by simp [abortRun]

@[simp] theorem matchFault_pending (x : CustRun) (s : State) : (matchFault x s).pending = s.pending := by
  unfold matchFault
  split <;> simp

@[simp] theorem takeYield_pending (x : CustRun) (s : State) : (takeYield x s).pending = s.pending := by
  unfold takeYield
  split <;> simp

@[simp] theorem custPoint_pending (c : CoreId) (s : State) : (custPoint c s).pending = s.pending := by
  unfold custPoint
  split <;> simp

@[simp] theorem seqAct_pending (w : Nat) (x : CustRun) (s : State) : (seqAct w x s).pending = s.pending := by
  simp only [seqAct]
  repeat' split
  all_goals simp

@[simp] theorem stepped_pending (c : CoreId) (s : State) : (stepped c s).pending = s.pending := by simp [stepped]

@[simp] theorem seqStep_pending (n : Nat) (c : CoreId) (s : State) : (seqStep n c s).pending = s.pending := by
  unfold seqStep
  repeat' split
  all_goals simp

@[simp] theorem coreFault_pending (c : CoreId) (s : State) : (coreFault c s).pending = s.pending := by
  unfold coreFault
  repeat' split
  all_goals simp

@[simp] theorem kraise_pending (c : CoreId) (k : Core) (e v : Nat) (s : State) : (kraise c k e v s).pending = s.pending := by
  unfold kraise
  split <;> simp

@[simp] theorem kdone_pending (c : CoreId) (pc : Nat) (o : KOut) (s : State) : (kdone c pc o s).pending = s.pending := by
  unfold kdone
  split <;> simp

@[simp] theorem kexec_pending (cl : KClass) (c : CoreId) (stall : Nat) (w : U32) (s : State) (run : Reach → Nat → Nat → Core → KOut) :
    (kexec cl c stall w s run).pending = s.pending := by
  simp only [kexec]
  repeat' split
  all_goals simp

theorem custLoad_keepsQueue : KeepsQueue custLoad := fun c s =>
  by
    unfold custLoad
    dsimp only
    repeat' split
    all_goals rfl

@[simp] theorem placePkg_pending (p : CustPkg) (s : State) : (placePkg p s).pending = s.pending := by simp [placePkg]

@[simp] theorem clearPlace_pending (k : Nat) (s : State) : (clearPlace k s).pending = s.pending := by simp [clearPlace]

theorem custUnload_keepsQueue : KeepsQueue custUnload := fun c s =>
  orBad_pending _ _ fun s => by split <;> rfl

@[simp] theorem custSettled_pending (c : Cmd) (r : Res) (s : State) : (custSettled c r s).pending = s.pending := by
  unfold custSettled
  repeat' split
  all_goals simp

theorem custList_keepsQueue : KeepsQueue custList := by
  intro c s
  simp [custList]

@[simp] theorem startRun_pending (job : Option Nat) (core : CoreId) (p : CustPkg) (r : Routine) (args : List Byte) (ins : Nat → List Byte)
    (s : State) : (startRun job core p r args ins s).pending = s.pending := by simp [startRun]

theorem custRun_keepsQueue : KeepsQueue custRun := fun c s => by
  unfold custRun
  dsimp only
  split
  · rfl
  · refine orBad_pending _ _ fun s => ?_
    split
    · rfl
    · refine orBad_pending _ _ fun s => ?_
      split <;> simp

/-! ### Images -/

@[simp] theorem State.modFw_pending (s : State) (k : Nat) (f : FwKind → FwKind) : (s.modFw k f).pending = s.pending := by simp [State.modFw]

/-! ### Regions -/

@[simp] theorem failRegion_pending (r : Nat) (s : State) : (failRegion r s).pending = s.pending := by simp [failRegion]

@[simp] theorem startReturn_pending (r : Nat) (full : Bool) (s : State) : (startReturn r full s).pending = s.pending := by
  simp [startReturn]

@[simp] theorem repair_pending (r : Nat) (s : State) : (repair r s).pending = s.pending := by
  simp only [repair]
  repeat' split
  all_goals simp

theorem regnTakeOut_keepsQueue : KeepsQueue regnTakeOut := by
  intro c s
  simp [regnTakeOut]

theorem regnReturn_keepsQueue : KeepsQueue regnReturn := by
  intro c s
  simp [regnReturn]

theorem regnReserveWarm_keepsQueue : KeepsQueue regnReserveWarm := fun c s =>
  orBad_pending _ _ fun s => by
    dsimp only
    split <;> simp

@[simp] theorem dikeDrained_pending (r : Nat) (s : State) : (dikeDrained r s).pending = s.pending := by simp [dikeDrained]

@[simp] theorem dormant_pending (r p : Nat) (s : State) : (dormant r p s).pending = s.pending := by simp [dormant]

@[simp] theorem wipeSram_pending (r : Nat) (s : State) : (wipeSram r s).pending = s.pending := by simp [wipeSram]

@[simp] theorem startDeferredCp_pending (s : State) : (startDeferredCp s).pending = s.pending := by simp [startDeferredCp]

@[simp] theorem enterService_pending (r : Nat) (s : State) : (enterService r s).pending = s.pending := by simp [enterService]

@[simp] theorem journalAged_pending (r mhz : Nat) (s : State) : (journalAged r mhz s).pending = s.pending := by simp [journalAged]

@[simp] theorem lowerClock_pending (r : Nat) (s : State) : (lowerClock r s).pending = s.pending := by simp [lowerClock]

@[simp] theorem setpoint_pending (r mv slew : Nat) (ok : Bool) (s : State) : (setpoint r mv slew ok s).pending = s.pending := by
  simp [setpoint]

@[simp] theorem startSwitch_pending (r : Nat) (s : State) : (startSwitch r s).pending = s.pending := by simp [startSwitch]

@[simp] theorem pointWriteAt_pending (r v : Nat) (s : State) : (pointWriteAt r v s).pending = s.pending := by simp [pointWriteAt]

@[simp] theorem degradeLink_pending (r : Nat) (m : Bool) (s : State) : (degradeLink r m s).pending = s.pending := by simp [degradeLink]

@[simp] theorem loseEntry_pending (r n : Nat) (s : State) : (loseEntry r n s).pending = s.pending := by simp [loseEntry]

@[simp] theorem eccUncorrectable_pending (a : EccAt) (s : State) : (eccUncorrectable a s).pending = s.pending := by
  simp only [eccUncorrectable]
  repeat' split
  all_goals simp

@[simp] theorem eccCorrected_pending (a : EccAt) (s : State) : (eccCorrected a s).pending = s.pending := by
  unfold eccCorrected
  split <;> simp

/-! ### Tamper -/

@[simp] theorem disturbBy_pending (injected : Bool) (u : Nat) (s : State) : (disturbBy injected u s).pending = s.pending := by
  simp [disturbBy]

@[simp] theorem disturb_pending (u : Nat) (s : State) : (disturb u s).pending = s.pending := by simp [disturb]

@[simp] theorem eraseStores_pending (s : State) : (eraseStores s).pending = s.pending := rfl

@[simp] theorem eraseJobs_pending (s : State) : (eraseJobs s).pending = s.pending := by simp [eraseJobs]

@[simp] theorem doErase_pending (xs : List Raise) (cls : List Nat) (s : State) : (doErase xs cls s).pending = s.pending := by simp [doErase]

@[simp] theorem eraseBackup_pending (cls : List Nat) (s : State) : (eraseBackup cls s).pending = s.pending := by simp [eraseBackup]

@[simp] theorem alarms_pending (us : List Nat) (s : State) : (alarms us s).pending = s.pending := by
  unfold alarms
  split <;> simp

@[simp] theorem burnEvidence_pending (s : State) : (burnEvidence s).pending = s.pending := by
  unfold burnEvidence
  simp

@[simp] theorem stimulate_pending (u : Nat) (responds : Bool) (s : State) : (stimulate u responds s).pending = s.pending := by
  simp [stimulate]

theorem tampTest_keepsQueue (responds : Bool) : KeepsQueue (tampTest responds) := by
  intro c s
  simp [tampTest]

theorem tampErase_keepsQueue : KeepsQueue tampErase := by
  intro c s
  simp [tampErase]

/-! ### FaultRows -/

@[simp] theorem countUnitFault_pending (r : Nat) (k : UnitKind) (n : Nat) (pair : Bool) (s : State) :
    (countUnitFault r k n pair s).pending = s.pending := by simp [countUnitFault]

@[simp] theorem unitRetry_pending (r : Nat) (k : UnitKind) (n : Nat) (cause : FCause) (onFail : Status) (s : State) :
    (unitRetry r k n cause onFail s).pending = s.pending := by simp [unitRetry]

@[simp] theorem withhold_pending (t : SelfTest) (s : State) : (withhold t s).pending = s.pending := by
  unfold withhold
  split <;> simp

@[simp] theorem lasting_pending (t : SelfTest) (rec : FaultRec) (s : State) : (lasting t rec s).pending = s.pending := by
  unfold lasting
  dsimp only
  repeat' split
  all_goals simp

@[simp] theorem hostAck_keepsPending (q : Nat) (s : State) : (hostAck q s).pending = s.pending := by
  unfold hostAck
  split
  next s1 e => exact (pending_of_eq e).trans (ackRecord_pending q s)
  next s1 e => exact (noteBadAccess_pending s1).trans ((pending_of_eq e).trans (ackRecord_pending q s))

@[simp] theorem fltAckAt_pending (hi : Nat) (s : State) : (fltAckAt hi s).pending = s.pending :=
  hostAck_keepsPending _ s

@[simp] theorem countInjected_pending (u : FUnit) (cause : FCause) (s : State) : (countInjected u cause s).pending = s.pending := by
  unfold countInjected
  split <;> simp

@[simp] theorem inject_pending (u : FUnit) (cause : FCause) (s0 : State) : (inject u cause s0).pending = s0.pending := by
  simp only [inject]
  repeat' split
  all_goals simp

@[simp] theorem fltInjectAt_pending (v : Nat) (s : State) : (fltInjectAt v s).pending = s.pending := by
  unfold fltInjectAt
  repeat' split
  all_goals simp

/-! ### Sys -/

theorem sysNop_keepsQueue : KeepsQueue sysNop := by
  intro c s
  simp [sysNop]

theorem sysFeatures_keepsQueue : KeepsQueue sysFeatures := by
  intro c s
  simp [sysFeatures]

theorem sysStandby_keepsQueue : KeepsQueue sysStandby := fun c s =>
  orBad_pending _ _ fun s => by simp

@[simp] theorem identityOnce_pending (ctx : String) (b rnd : List Byte) (r n p : Nat) (a : Nat × Nat) (s : State) :
    (identityOnce ctx b rnd r n p a s).2.2.pending = s.pending := by simp [identityOnce]

theorem identitySign_pending (ctx : String) (r : Nat) (b rnd : List Byte) (s : State) :
    ∀ x ∈ identitySign ctx r b rnd s, x.2.pending = s.pending :=
  checkedSign_pending _ _ (fun p a s => by simp) _

theorem keyAttest_keepsQueue : KeepsQueue keyAttest := fun c s =>
  orBad_pending _ _ fun s => by
    split
    · rfl
    · have attested (b : List Byte) (s : State) :
          (withRandom attestDraw c s fun rnd s => match identitySign "EXM-KEY-ATTEST-1" c.rgn b rnd s with
            | none => (s, none)
            | some (.error bad, s1) => (s1, some (stRes bad))
            | some (.ok sig, s1) => (s1, some (outTo c.job 0 (b ++ sig)))).1.pending = s.pending :=
        withRandom_pending _ c _ fun rnd s => by
          have hs := identitySign_pending "EXM-KEY-ATTEST-1" c.rgn b rnd s
          split
          · rfl
          next e => exact hs _ e
          next e => exact hs _ e
      exact withKey_pending c _ fun sk pub s => by
        dsimp only
        repeat' split
        · exact mceKey_pending c _ _ fun _ pk s => by
            split
            · rfl
            · exact attested _ s
        · rfl
        · exact attested _ s

/-! ### JournalRows -/

theorem jrnlRead_keepsQueue : KeepsQueue jrnlRead := fun c s => by
  unfold jrnlRead orBad
  dsimp only
  split
  · rfl
  · repeat' split
    all_goals rfl

theorem jrnlCheckpoint_keepsQueue : KeepsQueue jrnlCheckpoint := fun c s =>
  orBad_pending _ _ fun s => by
    repeat' split
    all_goals simp

theorem jrnlMirrorSet_keepsQueue : KeepsQueue jrnlMirrorSet := fun c s =>
  orBad_pending _ _ fun s => by simp

theorem jrnlBtnRead_keepsQueue : KeepsQueue jrnlBtnRead := fun c s =>
  orBad_pending _ _ fun s => by
    repeat' split
    all_goals rfl

theorem jrnlBtnList_keepsQueue : KeepsQueue jrnlBtnList := by
  intro c s
  simp [jrnlBtnList]

theorem firmwareSign_pending (ctx : String) (b : List Byte) (s : State) : ∀ x ∈ firmwareSign ctx b s, x.2.pending = s.pending := by
  unfold firmwareSign
  split
  · simp
  · split
    · simp
    · exact identitySign_pending _ _ _ _ _

@[simp] theorem storeCheckpoint_pending (cp : Checkpoint) (s : State) : (storeCheckpoint cp s).pending = s.pending := by
  simp [storeCheckpoint]

@[simp] theorem reenter_pending (s : State) : (reenter s).pending = s.pending := by simp [reenter]

@[simp] theorem saveBittern_pending (z : Freeze) (body sig : List Byte) (s : State) : (saveBittern z body sig s).pending = s.pending := by
  unfold saveBittern
  dsimp only
  rw [journalEvent_pending, reenter_pending, emit_pending, foldl_pending fun s e => State.modBtn_pending s _, State.modBtn_pending]

/-! ### Card -/

@[simp] theorem State.modOp_pending (s : State) (f : CardOp → CardOp) : (s.modOp f).pending = s.pending := by simp [State.modOp]

@[simp] theorem endCard_pending (r : Res) (s : State) : (endCard r s).pending = s.pending := by
  unfold endCard
  split <;> simp

@[simp] theorem cardDown_pending (s : State) : (cardDown s).pending = s.pending := by
  unfold cardDown
  split <;> simp

@[simp] theorem cardEjectAt_pending (s : State) : (cardEjectAt s).pending = s.pending := by simp [cardEjectAt]

@[simp] theorem writeBlocks_pending (lba : Nat) (b : List Byte) (s : State) : (writeBlocks lba b s).pending = s.pending := by
  simp [writeBlocks]

@[simp] theorem sendPhase_pending (o : CardOp) (s : State) : (sendPhase o s).pending = s.pending := by
  unfold sendPhase
  split <;> simp

@[simp] theorem startOp_pending (o : CardOp) (s : State) : (startOp o s).pending = s.pending := by simp [startOp]

@[simp] theorem nextPhase_pending (p : CardPhase) (s : State) : (nextPhase p s).pending = s.pending := by
  unfold nextPhase
  split <;> simp

@[simp] theorem cardError_pending (s : State) : (cardError s).pending = s.pending := by
  simp only [cardError]
  repeat' split
  all_goals simp

@[simp] theorem submitKum_pending (j : Nat) (b : List Byte) (s : State) : (submitKum j b s).2.pending = s.pending := by
  unfold submitKum
  split <;> simp

theorem cardStatus_keepsQueue : KeepsQueue cardStatus := by
  intro c s
  simp [cardStatus]

theorem cardFormat_keepsQueue : KeepsQueue cardFormat := fun c s =>
  orBad_pending _ _ fun s => by simp

@[simp] theorem exportRecord_pending (j : Job) (ty id : Nat) (body : List Byte) (s : State) :
    (exportRecord j ty id body s).1.pending = s.pending := by
  simp only [exportRecord]
  repeat' split
  all_goals simp

@[simp] theorem exportKey_pending (c : Cmd) (k : KeyRec) (s : State) {f : List Byte → List Byte → State → State × Option Res}
    (hf : ∀ sk pub s, (f sk pub s).1.pending = s.pending) : (exportKey c k s f).1.pending = s.pending := by
  unfold exportKey
  repeat' split
  all_goals simp [hf]

theorem exportAttest_keepsQueue : KeepsQueue exportAttest := fun c s => by
  unfold exportAttest
  dsimp only
  split
  · rfl
  · rfl
  · rfl
  · split
    · rfl
    · refine exportKey_pending _ _ _ fun secret pub s => ?_
      have hs (b) := firmwareSign_pending "EXM-KEY-ATTEST-1" b s
      split
      · rfl
      next e => exact hs _ _ e
      next e => exact (exportRecord_pending _ _ _ _ _).trans (hs _ _ e)

theorem cardExport_keepsQueue : KeepsQueue cardExport := fun c s =>
  orBad_pending _ _ fun s => by
    split
    · exact exportAttest_keepsQueue c s
    · split <;> simp

theorem cardList_keepsQueue : KeepsQueue cardList := by
  intro c s
  simp [cardList]

theorem cardImportKum_keepsQueue : KeepsQueue cardImportKum := fun c s =>
  orBad_pending _ _ fun s => by
    repeat' split
    all_goals simp

/-! ### Hash -/

@[simp] theorem withKmacMask_pending (c : Cmd) (s : State) {k : State → State × Option Res} (hk : ∀ s, (k s).1.pending = s.pending) :
    (withKmacMask c s k).1.pending = s.pending := by
  unfold withKmacMask
  split
  · exact withMask_pending _ c s hk
  · exact hk s

theorem digHash_keepsQueue : KeepsQueue digHash := by
  intro c s
  simp [digHash]

theorem digMac_keepsQueue : KeepsQueue digMac := fun c _ =>
  orBad_pending _ _ fun _ => countThen_pending c _ _ _ fun _ => withKmacMask_pending c _ fun _ => withKey_pending c _ fun _ _ _ => rfl

theorem digMacVerify_keepsQueue : KeepsQueue digMacVerify := fun c _ =>
  orBad_pending _ _ fun _ => countThen_pending c _ _ _ fun _ => withKmacMask_pending c _ fun _ => withKey_pending c _ fun _ _ _ => rfl

theorem digKdf_keepsQueue : KeepsQueue digKdf := fun c _ =>
  orBad_pending _ _ fun _ => countThen_pending c _ _ _ fun _ => withKmacMask_pending c _ fun _ => withKey_pending c _ fun _ _ _ => rfl

theorem slhSign_keepsQueue : KeepsQueue slhSign := fun c s =>
  orBad_pending _ _ fun s => countThen_pending c _ _ _ fun s => orBad_pending _ _ fun s =>
    withKey_pending c _ fun sk pub s => withRandom_pending _ c _ fun d s => by simp

theorem slhVerify_keepsQueue : KeepsQueue slhVerify := fun c s =>
  orBad_pending _ _ fun s => countThen_pending c _ _ _ fun s => withKey_pending c _ fun sk pub s => by simp

@[simp] theorem State.modLms_pending (s : State) (id : Nat) (f : LmsRec → LmsRec) : (s.modLms id f).pending = s.pending := by
  simp [State.modLms]

@[simp] theorem raiseIfDue_pending (id : Nat) (s : State) : (raiseIfDue id s).pending = s.pending := by
  unfold raiseIfDue
  split <;> simp

@[simp] theorem takeLeaf_pending (c : Cmd) (l : LmsRec) (s : State) : (takeLeaf c l s).2.pending = s.pending := by
  simp only [takeLeaf]
  repeat' split
  all_goals simp

theorem lmsSign_keepsQueue : KeepsQueue lmsSign := fun c s =>
  orBad_pending _ _ fun s => countThen_pending c _ _ _ fun s => withKey_pending c _ fun sk _ s => by
    split
    · rfl
    next l _ =>
      have hl := takeLeaf_pending c l s
      split
      next e => exact (pending_of_eq e).trans hl
      next e => exact (pending_of_eq e).trans hl
      next e =>
        dsimp only
        split <;> simp [pending_of_eq e]

theorem statefulVerify_keepsQueue (fam : Fam) (f : String) : KeepsQueue (statefulVerify fam f) := fun c _ =>
  orBad_pending _ _ fun _ => countThen_pending c _ _ _ fun _ => withKey_pending c _ fun _ _ _ => by simp

@[simp] theorem digWinClaimAt_pending (p : DigPort) (s : State) : (digWinClaimAt p s).pending = s.pending := by
  unfold digWinClaimAt
  split <;> simp

@[simp] theorem winOwned_pending (p : DigPort) (s : State) (f : DigWin → DigWin) : (winOwned p s f).pending = s.pending := by
  simp [winOwned]

@[simp] theorem digWinDataAt_pending (p : DigPort) (part v : Nat) (s : State) : (digWinDataAt p part v s).pending = s.pending := by
  simp [digWinDataAt]

@[simp] theorem digWinLastAt_pending (p : DigPort) (valid token : Nat) (s : State) : (digWinLastAt p valid token s).pending = s.pending := by
  simp [digWinLastAt]

@[simp] theorem digWinReleaseAt_pending (p : DigPort) (token : Nat) (s : State) : (digWinReleaseAt p token s).pending = s.pending := by
  simp [digWinReleaseAt]

/-! ### Manage -/

@[simp] theorem reopen_pending (i : Nat) (s : State) : (reopen i s).pending = s.pending := by simp [reopen]

@[simp] theorem endUpdate_pending (s : State) : (endUpdate s).pending = s.pending := by
  have hopen : (s.instances.foldl (fun s i => reopen i s) s).pending = s.pending := foldl_pending (fun s i => reopen_pending i s) _ s
  unfold endUpdate
  dsimp only
  split
  · exact (setMode_pending _ _).trans hopen
  · exact hopen

@[simp] theorem logActivation_pending (k : Nat) (s : State) : (logActivation k s).pending = s.pending := by
  unfold logActivation
  simp

@[simp] theorem switchBank_pending (k : Nat) (s : State) : (switchBank k s).pending = s.pending := by
  unfold switchBank
  simp

@[simp] theorem enterUpdate_pending (j : Option Nat) (s : State) : (enterUpdate j s).pending = s.pending := by simp [enterUpdate]

@[simp] theorem activateRegions_pending (k : Nat) (roll : Bool) (s : State) : (activateRegions k roll s).pending = s.pending := by
  simp [activateRegions]

@[simp] theorem takeAgent_pending (a : Agent) (s : State) : (takeAgent a s).pending = s.pending := by simp [takeAgent]

@[simp] theorem touchAgent_pending (s : State) : (touchAgent s).pending = s.pending := by simp [touchAgent]

@[simp] theorem dropAgent_pending (s : State) : (dropAgent s).pending = s.pending := by simp [dropAgent]

@[simp] theorem writeBank_pending (k o : Nat) (d : List Byte) (s : State) : (writeBank k o d s).pending = s.pending := by simp [writeBank]

theorem mgmtFwWrite_keepsQueue : KeepsQueue mgmtFwWrite := fun c s =>
  orBad_pending _ _ fun s => by simp

theorem mgmtFwVerify_keepsQueue : KeepsQueue mgmtFwVerify := fun c s =>
  orBad_pending _ _ fun s => by simp

theorem mgmtFwActivate_keepsQueue : KeepsQueue mgmtFwActivate := by
  intro c s
  simp [mgmtFwActivate]

theorem mgmtFwCommit_keepsQueue : KeepsQueue mgmtFwCommit := fun c s =>
  orBad_pending _ _ fun s => by simp

theorem mgmtFwStatus_keepsQueue : KeepsQueue mgmtFwStatus := by
  intro c s
  simp [mgmtFwStatus]

theorem mgmtSensors_keepsQueue : KeepsQueue mgmtSensors := by
  intro c s
  simp [mgmtSensors]

@[simp] theorem answer_pending (pcie : Bool) (name : String) (parts : List (List Byte)) (s : State) :
    (answer pcie name parts s).pending = s.pending := by simp [answer]

@[simp] theorem serveSpdm_pending (doe : Bool) (x : SpdmReq) (s : State) : (serveSpdm doe x s).pending = s.pending := by
  unfold serveSpdm
  split <;> simp

@[simp] theorem serveHeld_pending (s : State) : (serveHeld s).pending = s.pending := by simp [serveHeld]

@[simp] theorem endActivating_pending (st : Status) (s : State) : (endActivating st s).pending = s.pending := by
  unfold endActivating
  split <;> simp

@[simp] theorem beatNow_pending (s : State) : (beatNow s).pending = s.pending := by simp [beatNow]

@[simp] theorem rollOut_pending (x : Roll) (ms : Nat) (s : State) : (rollOut x ms s).pending = s.pending := by
  unfold rollOut
  split <;> simp

@[simp] theorem State.modPldm_pending (s : State) (f : Pldm → Pldm) : (s.modPldm f).pending = s.pending := by simp [State.modPldm]

@[simp] theorem pldmIn_pending (pcie : Bool) (st : List PldmState) (name : String) {k : State → State} (s : State)
    (hk : ∀ s, (k s).pending = s.pending) : (pldmIn pcie st name k s).pending = s.pending := by
  unfold pldmIn
  repeat' split
  all_goals simp [hk]

@[simp] theorem askBlock_pending (pcie : Bool) (s : State) : (askBlock pcie s).pending = s.pending := by simp [askBlock]

@[simp] theorem activateApplied_pending (s : State) : (activateApplied s).pending = s.pending := by simp [activateApplied]

@[simp] theorem recoverApplied_pending (s : State) : (recoverApplied s).pending = s.pending := by simp [recoverApplied]

/-! ### Life -/

@[simp] theorem applyOwnerCfg_pending (s : State) : (applyOwnerCfg s).pending = s.pending := by simp [applyOwnerCfg]

@[simp] theorem returnHeld_pending (r : Nat) (s : State) : (returnHeld r s).pending = s.pending := by simp [returnHeld]

@[simp] theorem closeSession_pending (s : State) : (closeSession s).pending = s.pending := by simp [closeSession]

@[simp] theorem startSession_pending (job : Option Nat) (a : DebugAsk) (s : State) : (startSession job a s).pending = s.pending := by
  simp [startSession]

theorem lifeDebugOpen_keepsQueue : KeepsQueue lifeDebugOpen := by
  intro c s
  simp [lifeDebugOpen]

theorem lifeDebugClose_keepsQueue : KeepsQueue lifeDebugClose := by
  intro c s
  simp [lifeDebugClose]

theorem lifeStatus_keepsQueue : KeepsQueue lifeStatus := by
  intro c s
  simp [lifeStatus]

@[simp] theorem dikeAll_pending (s : State) : (dikeAll s).pending = s.pending := by simp [dikeAll]

@[simp] theorem clearVault_pending (s : State) : (clearVault s).pending = s.pending := by simp [clearVault]

@[simp] theorem returnAll_pending (s : State) : (returnAll s).pending = s.pending := by simp [returnAll]

@[simp] theorem clearM1_pending (s : State) : (clearM1 s).pending = s.pending := by simp [clearM1]

@[simp] theorem lifeStep_pending (op m : Nat) (s : State) : (lifeStep op m s).pending = s.pending := by
  unfold lifeStep
  split <;> simp

@[simp] theorem putSlot_pending (n v : Nat) (s : State) : (putSlot n v s).pending = s.pending := by simp [putSlot]

@[simp] theorem cancelZeroize_pending (op : Nat) (s : State) : (cancelZeroize op s).pending = s.pending := by
  unfold cancelZeroize
  split <;> simp

@[simp] theorem runSteps_pending (n op fuel m : Nat) (s : State) : (runSteps n op fuel m s).pending = s.pending := by
  induction fuel generalizing m s with
  | zero => rfl
  | succ fuel ih =>
    unfold runSteps
    split
    · simp
    · simp [ih]

@[simp] theorem afterTransition_pending (op : Nat) (s : State) : (afterTransition op s).pending = s.pending := by simp [afterTransition]

@[simp] theorem dataBurns_pending (b : List Byte) (s : State) : (dataBurns b s).pending = s.pending := by
  unfold dataBurns
  split <;> simp

@[simp] theorem partBurns_pending (b : List Byte) (s : State) : (partBurns b s).pending = s.pending := by simp [partBurns]

theorem lifeTransition_keepsQueue (cut : Nat) : KeepsQueue (lifeTransition cut) := by
  intro c s
  simp [lifeTransition]

/-! ### Queues -/

@[simp] theorem sqEnableAt_pending (i q : Nat) (s : State) : (sqEnableAt i q s).pending = s.pending := by simp [sqEnableAt]

@[simp] theorem cqEnableAt_pending (i c : Nat) (s : State) : (cqEnableAt i c s).pending = s.pending := by simp [cqEnableAt]

@[simp] theorem sqDoorbellAt_pending (i q v : Nat) (s : State) : (sqDoorbellAt i q v s).pending = s.pending := by simp [sqDoorbellAt]

@[simp] theorem cqDoorbellAt_pending (i c v : Nat) (s : State) : (cqDoorbellAt i c v s).pending = s.pending := by simp [cqDoorbellAt]

@[simp] theorem acceptEntry_pending (i q : Nat) (b : List Byte) (bad : Option Status) (s : State) :
    (acceptEntry i q b bad s).pending = s.pending := by
  simp only [acceptEntry]
  repeat' split
  all_goals simp

@[simp] theorem advance_pending (i q n : Nat) (rest : Bool) (s : State) : (advance i q n rest s).pending = s.pending := rfl

@[simp] theorem readEntries_pending (i q fuel n : Nat) (b : List Byte) (s : State) : (readEntries i q fuel n b s).pending = s.pending := by
  induction fuel generalizing n b s with
  | zero => rfl
  | succ fuel ih =>
    unfold readEntries
    dsimp only
    repeat' split
    all_goals simp [ih]

@[simp] theorem xlatFault_pending (i addr access cause : Nat) (s : State) : (xlatFault i addr access cause s).pending = s.pending := by
  simp [xlatFault]

@[simp] theorem fetchFault_pending (i q cause : Nat) (s : State) : (fetchFault i q cause s).pending = s.pending := by simp [fetchFault]

@[simp] theorem takeTurn_pending (i q : Nat) (ans : HostAns) (s : State) : (takeTurn i q ans s).pending = s.pending := by
  unfold takeTurn
  split <;> simp

@[simp] theorem enterWaiting_pending (s : State) : (enterWaiting s).pending = s.pending := by simp [enterWaiting]

@[simp] theorem raiseCq_pending (i c : Nat) (s : State) : (raiseCq i c s).pending = s.pending := by simp [raiseCq]

@[simp] theorem writeFrags_pending (i : Nat) (fs : List Frag) (b : List Byte) (s : State) : (writeFrags i fs b s).pending = s.pending := by
  induction fs generalizing b s with
  | nil => rfl
  | cons f fs ih =>
    unfold writeFrags
    split
    · rfl
    · rw [ih, hostWrite_pending]

@[simp] theorem writeOutputs_pending (j : Job) (r : Res) (s : State) : (writeOutputs j r s).pending = s.pending := by simp [writeOutputs]

@[simp] theorem addEnergy_pending (i e : Nat) (s : State) : (addEnergy i e s).pending = s.pending := by simp [addEnergy]

@[simp] theorem release_pending (c : Cmd) (r : Res) (s : State) : (release c r s).pending = s.pending := by simp [release]

@[simp] theorem endDrain_pending (i : Nat) (s : State) : (endDrain i s).pending = s.pending := by simp [endDrain]

@[simp] theorem drainIfDone_pending (i : Nat) (s : State) : (drainIfDone i s).pending = s.pending := by simp [drainIfDone]

@[simp] theorem discard_pending (c : Cmd) (s : State) : (discard c s).pending = s.pending := by simp [discard]

@[simp] theorem post_pending (c : Cmd) (r : Res) (q : Nat) (s : State) : (post c r q s).pending = s.pending := by simp [post]

@[simp] theorem cqTimer_pending (i c : Nat) (s : State) : (cqTimer i c s).pending = s.pending := by simp [cqTimer]

/-! ### Mailbox -/

@[simp] theorem offRegions_pending (s : State) : (offRegions s).pending = s.pending := by simp [offRegions]

@[simp] theorem settleLms_pending (s : State) : (settleLms s).pending = s.pending := by simp [settleLms]

@[simp] theorem enterStandby_pending (s : State) : (enterStandby s).pending = s.pending := by simp [enterStandby]

@[simp] theorem raiseMbx_pending (i : Nat) (s : State) : (raiseMbx i s).pending = s.pending := by simp [raiseMbx]

@[simp] theorem respond_pending (i : Nat) (bytes : List Byte) (s : State) : (respond i bytes s).pending = s.pending := by simp [respond]

@[simp] theorem acceptRequest_pending (i seq : Nat) (b : List Byte) (s : State) : (acceptRequest i seq b s).pending = s.pending := by
  simp only [acceptRequest]
  repeat' split
  all_goals simp

@[simp] theorem mailboxDoorbellAt_pending (i v : Nat) (s : State) : (mailboxDoorbellAt i v s).pending = s.pending := by
  simp [mailboxDoorbellAt]

@[simp] theorem mailboxBufferWriteAt_pending (i o v : Nat) (s : State) : (mailboxBufferWriteAt i o v s).pending = s.pending := by
  simp [mailboxBufferWriteAt]

@[simp] theorem answerRequest_pending (i : Nat) (c : Cmd) (r : Res) (s : State) : (answerRequest i c r s).pending = s.pending := by
  simp [answerRequest]

/-! ### HostMemory -/

@[simp] theorem fragmentDone_pending (j n : Nat) (a : HostAns) (s : State) : (fragmentDone j n a s).pending = s.pending := by
  unfold fragmentDone
  repeat' split
  all_goals simp

@[simp] theorem outputDone_pending (j n : Nat) (a : HostAns) (s : State) : (outputDone j n a s).pending = s.pending := by
  unfold outputDone
  repeat' split
  all_goals simp

@[simp] theorem sqReadDone_pending (i q : Nat) (a : HostAns) (s : State) : (sqReadDone i q a s).pending = s.pending := by simp [sqReadDone]

@[simp] theorem cqWriteDone_pending (i c : Nat) (a : HostAns) (s : State) : (cqWriteDone i c a s).pending = s.pending := by
  unfold cqWriteDone
  split <;> simp

@[simp] theorem ringWriteDone_pending (i n : Nat) (a : HostAns) (s : State) : (ringWriteDone i n a s).pending = s.pending := by
  unfold ringWriteDone
  split <;> simp

@[simp] theorem keyReadDone_pending (j : Nat) (a : HostAns) (s : State) : (keyReadDone j a s).pending = s.pending := by
  unfold keyReadDone
  repeat' split
  all_goals simp

@[simp] theorem mirrorDone_pending (addr : Nat) (a : HostAns) (s : State) : (mirrorDone addr a s).pending = s.pending := by
  unfold mirrorDone
  split <;> simp

@[simp] theorem answerUse_pending (u : HostUse) (a : HostAns) (s : State) : (answerUse u a s).pending = s.pending := by
  unfold answerUse
  split <;> simp

@[simp] theorem releaseHeld_pending (i page size : Nat) (s : State) : (releaseHeld i page size s).pending = s.pending := by
  refine foldl_pending (fun s h => ?_) _ s
  repeat' split
  all_goals simp

@[simp] theorem translationDone_pending (i page size : Nat) (a : HostAns) (s : State) :
    (translationDone i page size a s).pending = s.pending := by
  unfold translationDone
  repeat' split
  all_goals simp

@[simp] theorem settleInval_pending (s : State) : (settleInval s).pending = s.pending :=
  foldl_pending (fun s x => by rw [emit_pending]) _ _

/-! ### Insts -/

@[simp] theorem closeGone_pending (st : Status) (c : Cmd) (s : State) : (closeGone st c s).pending = s.pending := by simp [closeGone]

@[simp] theorem abortWork_pending (j : Nat) (s : State) : (abortWork j s).pending = s.pending := by simp [abortWork]

@[simp] theorem abortOld_pending (c : Cmd) (s : State) : (abortOld c s).pending = s.pending := by simp [abortOld]

@[simp] theorem dropOld_pending (c : Cmd) (s : State) : (dropOld c s).pending = s.pending := by simp [dropOld]

@[simp] theorem abandonRequest_pending (i : Nat) (s : State) : (abandonRequest i s).pending = s.pending := by
  unfold abandonRequest
  split <;> simp

@[simp] theorem dropSubs_pending (i : Nat) (s : State) : (dropSubs i s).pending = s.pending := by simp [dropSubs]

@[simp] theorem dropWarm_pending (i : Nat) (s : State) : (dropWarm i s).pending = s.pending := by simp [dropWarm]

@[simp] theorem clearHits_pending (i : Nat) (s : State) : (clearHits i s).pending = s.pending := by simp [clearHits]

@[simp] theorem startReset_pending (i : Nat) (s : State) : (startReset i s).pending = s.pending := by simp [startReset]

@[simp] theorem resetFunction_pending (i : Nat) (s : State) : (resetFunction i s).pending = s.pending := by simp [resetFunction]

@[simp] theorem resetPcie_pending (i : Nat) (s : State) : (resetPcie i s).pending = s.pending := by simp [resetPcie]

@[simp] theorem resetAll_pending (s : State) : (resetAll s).pending = s.pending := by simp [resetAll]

@[simp] theorem wipeInstance_pending (i : Nat) (s : State) : (wipeInstance i s).pending = s.pending := by simp [wipeInstance]

@[simp] theorem instAdmReassignAt_pending (i : Nat) (s : State) : (instAdmReassignAt i s).pending = s.pending := by simp [instAdmReassignAt]

@[simp] theorem instAdmClrEnergyAt_pending (i : Nat) (s : State) : (instAdmClrEnergyAt i s).pending = s.pending := by
  simp [instAdmClrEnergyAt]

@[simp] theorem refuseAdm_pending (i : Nat) (s : State) : (refuseAdm i s).pending = s.pending := by simp [refuseAdm]

@[simp] theorem trimCryst_pending (i r : Nat) (s : State) : (trimCryst i r s).pending = s.pending := by simp [trimCryst]

@[simp] theorem trimQuotas_pending (i : Nat) (s : State) : (trimQuotas i s).pending = s.pending := by simp [trimQuotas]

@[simp] theorem instAdmQuotaWriteAt_pending (i : Nat) (w : Bool) (v : Nat) (s : State) : (instAdmQuotaWriteAt i w v s).pending = s.pending := by
  simp [instAdmQuotaWriteAt]

@[simp] theorem instAdmCfgWriteAt_pending (i v : Nat) (s : State) : (instAdmCfgWriteAt i v s).pending = s.pending := by
  simp [instAdmCfgWriteAt]

@[simp] theorem instXlatClrAt_pending (i : Nat) (s : State) : (instXlatClrAt i s).pending = s.pending := by simp [instXlatClrAt]

/-! ### Jobs -/

@[simp] theorem wakeFor_pending (r p : Nat) (chk : Bool) (s : State) : (wakeFor r p chk s).pending = s.pending := by simp [wakeFor]

@[simp] theorem wakeOther_pending (c : Cmd) (r p : Nat) (s : State) : (wakeOther c r p s).pending = s.pending := by
  unfold wakeOther
  repeat' split
  all_goals simp

@[simp] theorem startOn_pending (j : Nat) (s : State) : (startOn j s).pending = s.pending := by
  simp only [startOn]
  repeat' split
  all_goals simp

@[simp] theorem startPlaced_pending (j : Nat) (s : State) : (startPlaced j s).pending = s.pending := by
  unfold startPlaced
  split <;> simp

@[simp] theorem placeOn_pending (j : Nat) (k : UnitKind) (n : Nat) (s : State) : (placeOn j k n s).pending = s.pending := by simp [placeOn]

@[simp] theorem waitFor_pending (j : Nat) (w : Wait) (s : State) : (waitFor j w s).pending = s.pending := by
  unfold waitFor
  split <;> simp

@[simp] theorem takePlace_pending (c : Cmd) (r : Nat) (k : UnitKind) (n : Nat) (s : State) : (takePlace c r k n s).pending = s.pending := by
  simp [takePlace]

@[simp] theorem dispatchJob_pending (j : Nat) (s : State) : (dispatchJob j s).pending = s.pending := by
  simp only [dispatchJob]
  repeat' split
  all_goals simp

@[simp] theorem putCheck_pending (c : Cmd) (k : UnitKind) (q p : Nat) (s : State) : (putCheck c k q p s).pending = s.pending := by
  unfold putCheck
  repeat' split
  all_goals simp

@[simp] theorem placeCheck_pending (c : Cmd) (k : UnitKind) (s : State) : (placeCheck c k s).pending = s.pending := by
  unfold placeCheck
  split <;> simp

@[simp] theorem placeChecks_pending (j : Nat) (s : State) : (placeChecks j s).pending = s.pending := by
  unfold placeChecks
  split
  · rfl
  · refine foldl_pending (fun s k => ?_) _ s
    split
    · split
      · exact placeCheck_pending _ _ _
      · rfl
    · rfl

@[simp] theorem startReserved_pending (j : Nat) (s : State) : (startReserved j s).pending = s.pending := by
  unfold startReserved
  split <;> simp

@[simp] theorem wakeSeed_pending (r p : Nat) (s : State) : (wakeSeed r p s).pending = s.pending := by simp [wakeSeed]

@[simp] theorem yieldNow_pending (c : Cmd) (s : State) : (yieldNow c s).pending = s.pending := by
  simp only [yieldNow]
  repeat' split
  all_goals simp

@[simp] theorem yieldPoint_pending (j : Nat) (may : Cmd → Nat → Bool) (s : State) : (yieldPoint j may s).pending = s.pending := by
  unfold yieldPoint
  repeat' split
  all_goals simp

@[simp] theorem restoreRun_pending (j : Nat) (s : State) : (restoreRun j s).pending = s.pending := by
  unfold restoreRun
  repeat' split
  all_goals simp

@[simp] theorem failedOn_pending (c : Cmd) (k : UnitKind) (n : Nat) (s : State) : (failedOn c k n s).pending = s.pending := by
  simp only [failedOn]
  repeat' split
  all_goals simp

@[simp] theorem failCheck_pending (c : Cmd) (s : State) : (failCheck c s).pending = s.pending := by
  unfold failCheck
  split <;> simp

@[simp] theorem failPart_pending (c : Cmd) (classical : Bool) (s : State) : (failPart c classical s).pending = s.pending := by
  simp only [failPart]
  repeat' split
  all_goals simp

@[simp] theorem passPart_pending (c : Cmd) (classical : Bool) (s : State) : (passPart c classical s).pending = s.pending := by
  simp [passPart]

@[simp] theorem endCheck_pending (c : Cmd) (k : UnitKind) (q n : Nat) (pass : Bool) (s : State) :
    (endCheck c k q n pass s).pending = s.pending := by simp [endCheck]

/-! ### Registers -/

@[simp] theorem lcsWrite_pending (o v : Nat) (s : State) : (lcsWrite o v s).pending = s.pending := by simp [lcsWrite]

@[simp] theorem utcWrite_pending (v : Nat) (s : State) : (utcWrite v s).pending = s.pending := by simp [utcWrite]

@[simp] theorem timWrite_pending (o v : Nat) (s : State) : (timWrite o v s).pending = s.pending := by
  unfold timWrite
  split
  · exact State.modTime_pending _ _
  · exact timCfgWriteAt_pending v s
  · exact State.modTime_pending _ _
  · exact utcWrite_pending v s
  · exact State.modTime_pending _ _
  · exact State.modTime_pending _ _
  · exact State.modTime_pending _ _
  · rfl

@[simp] theorem pwrWrite_pending (o v : Nat) (s : State) : (pwrWrite o v s).pending = s.pending := by simp [pwrWrite]

@[simp] theorem vltWrite_pending (o v : Nat) (s : State) : (vltWrite o v s).pending = s.pending := by
  unfold vltWrite
  split <;> simp

@[simp] theorem fltWrite_pending (o v : Nat) (s : State) : (fltWrite o v s).pending = s.pending := by
  unfold fltWrite
  split <;> simp

@[simp] theorem winSet_pending (p : DigPort) (f : DigWin → DigWin) (s : State) : (winSet p f s).pending = s.pending := by simp [winSet]

@[simp] theorem digWinWrite_pending (p : DigPort) (o v : Nat) (s : State) : (digWinWrite p o v s).pending = s.pending := by
  unfold digWinWrite
  split <;> simp

@[simp] theorem mgtWrite_pending (o v : Nat) (s : State) : (mgtWrite o v s).pending = s.pending := by simp [mgtWrite]

@[simp] theorem sqWrite_pending (i q o v : Nat) (s : State) : (sqWrite i q o v s).pending = s.pending := by
  unfold sqWrite
  split <;> simp

@[simp] theorem cqWrite_pending (i c o v : Nat) (s : State) : (cqWrite i c o v s).pending = s.pending := by
  unfold cqWrite
  split <;> simp

@[simp] theorem fringWrite_pending (i r o v : Nat) (s : State) : (fringWrite i r o v s).pending = s.pending := by
  unfold fringWrite
  repeat' split
  all_goals simp

@[simp] theorem viewWrite_pending (i o v : Nat) (s : State) : (viewWrite i o v s).pending = s.pending := by simp [viewWrite]

@[simp] theorem admWrite_pending (i o v : Nat) (s : State) : (admWrite i o v s).pending = s.pending := by
  unfold admWrite
  split <;> simp

@[simp] theorem mbxWrite_pending (i o v : Nat) (s : State) : (mbxWrite i o v s).pending = s.pending := by
  unfold mbxWrite
  split <;> simp

@[simp] theorem hvwWrite_pending (o v : Nat) (s : State) : (hvwWrite o v s).pending = s.pending := by simp [hvwWrite]

@[simp] theorem tmpWrite_pending (o v : Nat) (s : State) : (tmpWrite o v s).pending = s.pending := by
  unfold tmpWrite
  split <;> simp

@[simp] theorem crdWrite_pending (o v : Nat) (s : State) : (crdWrite o v s).pending = s.pending := by
  unfold crdWrite
  split <;> simp

@[simp] theorem regionWrite_pending (r o v : Nat) (s : State) : (regionWrite r o v s).pending = s.pending := by
  unfold regionWrite
  split <;> simp

@[simp] theorem doorbellWrite_pending (i o v : Nat) (s : State) : (doorbellWrite i o v s).pending = s.pending := by simp [doorbellWrite]

@[simp] theorem packageWrite_pending (a v : Nat) (s : State) : (packageWrite a v s).pending = s.pending := by
  unfold packageWrite
  split <;> simp

@[simp] theorem pfWrite_pending (a v : Nat) (s : State) : (pfWrite a v s).pending = s.pending := by simp [pfWrite]

@[simp] theorem vfWrite_pending (i a v : Nat) (s : State) : (vfWrite i a v s).pending = s.pending := by simp [vfWrite]

@[simp] theorem sendPending_pending (i v : Nat) (s : State) : (sendPending i v s).pending = s.pending := by simp [sendPending]

@[simp] theorem bar2Write_pending (i o v : Nat) (s : State) : (bar2Write i o v s).pending = s.pending := by
  unfold bar2Write
  repeat' split
  all_goals simp

@[simp] theorem configWrite_pending (fn o v : Nat) (s : State) : (configWrite fn o v s).pending = s.pending := by
  unfold configWrite
  split <;> simp

@[simp] theorem skanelWrite_pending (a v : Nat) (s : State) : (skanelWrite a v s).pending = s.pending := by simp [skanelWrite]

@[simp] theorem writeReg_pending (fn a v : Nat) (s : State) : (writeReg fn a v s).pending = s.pending := by simp [writeReg]

@[simp] theorem writeRegs_pending (fn a : Nat) (wide : Bool) (v : Nat) (s : State) : (writeRegs fn a wide v s).pending = s.pending := by
  simp [writeRegs]

@[simp] theorem goodRead_pending (fn a size : Nat) (s : State) : (goodRead fn a size s).pending = s.pending := by simp [goodRead]

/-! ### Tap -/

@[simp] theorem tapOn_pending (s t : State) (ht : t.pending = s.pending) : (tapOn s t).pending = s.pending := by
  unfold tapOn
  split
  · exact ht
  · rfl

@[simp] theorem tapIr_pending (n : Nat) (s : State) : (tapIr n s).pending = s.pending := by simp [tapIr]

@[simp] theorem bypassed_pending (tdi : List Byte) (s : State) : (bypassed tdi s).pending = s.pending := by simp [bypassed]

@[simp] theorem sampled_pending (pins tdi : List Byte) (s : State) : (sampled pins tdi s).pending = s.pending := by simp [sampled]

@[simp] theorem extest_pending (code : Nat) (act : State → State) (pins tdi : List Byte) (s : State)
    (ha : ∀ s, (act s).pending = s.pending) : (extest code act pins tdi s).pending = s.pending := by
  refine tapOn_pending s _ ?_
  simp [ha]

@[simp] theorem vendorOnly_pending (code : Nat) (ok : Bool) (tdi : List Byte) (act : State → State) (s : State)
    (ha : ∀ s, (act s).pending = s.pending) : (vendorOnly code ok tdi act s).pending = s.pending := by
  refine tapOn_pending s _ ?_
  simp [ha]

@[simp] theorem debugAuth_pending (b : List Byte) (s : State) : (debugAuth b s).pending = s.pending := by
  unfold debugAuth
  split <;> simp

@[simp] theorem spaceBytes_pending (x : DbgSpace) (s : State) : (spaceBytes x s).2.pending = s.pending := by
  unfold spaceBytes
  repeat' split
  all_goals simp

@[simp] theorem debugHalt_pending (c : CoreId) (o : DbgOp) (s : State) : (debugHalt c o s).pending = s.pending := by
  unfold debugHalt
  split <;> simp

@[simp] theorem debugRun_pending (c : CoreId) (n : Nat) (args : List Byte) (ins : Tbl (List Byte)) (s : State) :
    (debugRun c n args ins s).pending = s.pending := by
  unfold debugRun
  split <;> simp

@[simp] theorem fuseBurn_pending (x : FuseIn) (s : State) : (fuseBurn x s).pending = s.pending := by simp [fuseBurn]

/-! ### Hash -/

theorem execLmsReservationComplete_pending (id : Nat) (s : State) : QueueKept s (execLmsReservationComplete id s) := by
  simp only [execLmsReservationComplete, queueKept_next]
  repeat' split
  all_goals simp

/-! ### FramePath -/

theorem execFrmSendEgress_pending (j : Nat) (s : State) : QueueKept s (execFrmSendEgress j s) := by
  simp only [execFrmSendEgress, queueKept_next]
  repeat' split
  all_goals simp

/-! ### Manage -/

theorem execMgmtFirstHeartbeat_pending (s : State) : QueueKept s (execMgmtFirstHeartbeat s) := by
  simp only [execMgmtFirstHeartbeat, queueKept_next]
  repeat' split
  all_goals simp

theorem execActivationFallback_pending (bad : Bool) (s : State) : QueueKept s (execActivationFallback bad s) := by
  unfold execActivationFallback
  rw [queueKept_next]
  repeat' split
  all_goals simp

theorem execRegionRollStep_pending (ms : Nat) (full : Bool) (s : State) : QueueKept s (execRegionRollStep ms full s) := by
  simp only [execRegionRollStep, queueKept_next]
  repeat' split
  all_goals simp

theorem execUpdateAgentTimeout_pending (s : State) : QueueKept s (execUpdateAgentTimeout s) := by simp [execUpdateAgentTimeout]

theorem execPldmQueryDeviceIdentifiers_pending (pcie : Bool) (s : State) : QueueKept s (execPldmQueryDeviceIdentifiers pcie s) := by
  simp [execPldmQueryDeviceIdentifiers]

theorem execPldmGetFirmwareParameters_pending (pcie : Bool) (s : State) : QueueKept s (execPldmGetFirmwareParameters pcie s) := by
  simp [execPldmGetFirmwareParameters]

theorem execPldmRequestUpdate_pending (pcie : Bool) (s : State) : QueueKept s (execPldmRequestUpdate pcie s) := by
  simp [execPldmRequestUpdate]

theorem execPldmPassComponentTable_pending (pcie last : Bool) (s : State) : QueueKept s (execPldmPassComponentTable pcie last s) := by
  simp [execPldmPassComponentTable]

theorem execPldmUpdateComponent_pending (pcie : Bool) (kind size : Nat) (s : State) : QueueKept s (execPldmUpdateComponent pcie kind size s) := by
  simp [execPldmUpdateComponent]

theorem execPldmRequestFirmwareData_pending (pcie : Bool) (data : List Byte) (s : State) : QueueKept s
    (execPldmRequestFirmwareData pcie data s) := by simp [execPldmRequestFirmwareData]

theorem execPldmTransferComplete_pending (pcie : Bool) (s : State) : QueueKept s (execPldmTransferComplete pcie s) := by
  simp [execPldmTransferComplete]

theorem execPldmVerifyComplete_pending (pcie : Bool) (s : State) : QueueKept s (execPldmVerifyComplete pcie s) := by
  simp [execPldmVerifyComplete]

theorem execPldmApplyComplete_pending (pcie : Bool) (s : State) : QueueKept s (execPldmApplyComplete pcie s) := by
  simp [execPldmApplyComplete]

theorem execPldmActivateFirmware_pending (pcie : Bool) (s : State) : QueueKept s (execPldmActivateFirmware pcie s) := by
  simp [execPldmActivateFirmware]

theorem execPldmGetStatus_pending (pcie : Bool) (s : State) : QueueKept s (execPldmGetStatus pcie s) := by simp [execPldmGetStatus]

theorem execPldmCancelUpdateComponent_pending (pcie : Bool) (s : State) : QueueKept s (execPldmCancelUpdateComponent pcie s) := by
  simp [execPldmCancelUpdateComponent]

theorem execPldmCancelUpdate_pending (pcie : Bool) (s : State) : QueueKept s (execPldmCancelUpdate pcie s) := by simp [execPldmCancelUpdate]

theorem execSpdmRequest_pending (doe : Bool) (x : SpdmReq) (s : State) : QueueKept s (execSpdmRequest doe x s) := by simp [execSpdmRequest]

theorem execMctpControlMessage_pending (pcie : Bool) (eid : Option Nat) (msg : List Byte) (s : State) : QueueKept s
    (execMctpControlMessage pcie eid msg s) := by
  simp only [execMctpControlMessage, queueKept_next]
  repeat' split
  all_goals simp

theorem execMctpFaultAck_pending (session fseq : Nat) (s : State) : QueueKept s (execMctpFaultAck session fseq s) := by
  unfold execMctpFaultAck
  rw [queueKept_next]
  split <;> simp

/-! ### FaultRows -/

theorem execSidebandSummaryRead_pending (s : State) : QueueKept s (execSidebandSummaryRead s) := by simp [execSidebandSummaryRead]

/-! ### Life -/

theorem execDebugWindowEnd_pending (s : State) : QueueKept s (execDebugWindowEnd s) := by simp [execDebugWindowEnd]

/-! ### Custom -/

theorem execCustPartitionReload_pending (r p : Nat) (s : State) : QueueKept s (execCustPartitionReload r p s) := by
  simp [execCustPartitionReload]

/-! ### Mailbox -/

theorem execMailboxDoorbell_pending (_ v : Nat) (s : State) : QueueKept s (execMailboxDoorbell ii v s) := by simp [execMailboxDoorbell]

theorem execMailboxBufferWrite_pending (_ o v : Nat) (s : State) : QueueKept s (execMailboxBufferWrite ii o v s) := by
  simp [execMailboxBufferWrite]

theorem execMailboxRequestDone_pending (_ : Nat) (s : State) : QueueKept s (execMailboxRequestDone ii s) := by
  simp only [execMailboxRequestDone, queueKept_next]
  repeat' split
  all_goals simp

theorem execMailboxHoldRelease_pending (j : Nat) (s : State) : QueueKept s (execMailboxHoldRelease j s) := by
  simp only [execMailboxHoldRelease, queueKept_next]
  repeat' split
  all_goals simp

/-! ### Queues -/

theorem execSqEnable_pending (_ q : Nat) (s : State) : QueueKept s (execSqEnable ii q s) := by simp [execSqEnable]

theorem execCqEnable_pending (_ c : Nat) (s : State) : QueueKept s (execCqEnable ii c s) := by simp [execCqEnable]

theorem execSqDoorbell_pending (_ q v : Nat) (s : State) : QueueKept s (execSqDoorbell ii q v s) := by simp [execSqDoorbell]

theorem execCqDoorbell_pending (_ c v : Nat) (s : State) : QueueKept s (execCqDoorbell ii c v s) := by simp [execCqDoorbell]

theorem execQueueFetch_pending (ans : HostAns) (s : State) : QueueKept s (execQueueFetch ans s) := by
  simp only [execQueueFetch, queueKept_next]
  repeat' split
  all_goals simp

/-! ### JournalRows -/

theorem execJseqReserveComplete_pending (s : State) : QueueKept s (execJseqReserveComplete s) := by
  simp only [execJseqReserveComplete, queueKept_next]
  repeat' split
  all_goals simp

/-! ### Jobs -/

theorem execJobSend_pending (j : Nat) (s : State) : QueueKept s (execJobSend j s) := by
  simp only [execJobSend, queueKept_next]
  repeat' split
  all_goals simp

theorem execRegionAck_pending (j : Nat) (s : State) : QueueKept s (execRegionAck j s) := by
  simp only [execRegionAck, queueKept_next]
  repeat' split
  all_goals simp

theorem execJobDispatch_pending (j : Nat) (s : State) : QueueKept s (execJobDispatch j s) := by
  simp only [execJobDispatch, queueKept_next]
  repeat' split
  all_goals simp

theorem execPanWakeComplete_pending (r p : Nat) (s : State) : QueueKept s (execPanWakeComplete r p s) := by
  simp only [execPanWakeComplete, queueKept_next]
  repeat' split
  all_goals simp

theorem execPanAdmit_pending (r p : Nat) (s : State) : QueueKept s (execPanAdmit r p s) := by simp [execPanAdmit]

/-! ### Regions -/

theorem execPowerSample_pending (mw : Nat) (s : State) : QueueKept s (execPowerSample mw s) := by simp [execPowerSample]

/-! ### Jobs -/

theorem execResourceFreedDispatch_pending (j : Nat) (s : State) : QueueKept s (execResourceFreedDispatch j s) := by
  simp only [execResourceFreedDispatch, queueKept_next]
  repeat' split
  all_goals simp

/-! ### Keys -/

theorem execShelfMissBlobArrival_pending (j : Nat) (blob : List Byte) (s : State) : QueueKept s (execShelfMissBlobArrival j blob s) := by
  simp [execShelfMissBlobArrival]

theorem execCrystallizerFillComplete_pending (r : Nat) (s : State) : QueueKept s (execCrystallizerFillComplete r s) := by
  simp [execCrystallizerFillComplete]

/-! ### Jobs -/

theorem execJobYield_pending (j : Nat) (s : State) : QueueKept s (execJobYield j s) := by simp [execJobYield]

theorem execDigestQuantumExpiry_pending (j : Nat) (s : State) : QueueKept s (execDigestQuantumExpiry j s) := by
  simp [execDigestQuantumExpiry]

theorem execNumberQuantumExpiry_pending (j : Nat) (s : State) : QueueKept s (execNumberQuantumExpiry j s) := by
  simp [execNumberQuantumExpiry]

theorem execSymQuantumExpiry_pending (j : Nat) (s : State) : QueueKept s (execSymQuantumExpiry j s) := by simp [execSymQuantumExpiry]

theorem execJobResume_pending (j : Nat) (s : State) : QueueKept s (execJobResume j s) := by
  have changed (r : Nat) (f : Pan → Pan) (l : List (Nat × Nat)) (s : State) : (l.foldl (fun s x => s.modPan r x.1 f) s).pending = s.pending :=
    foldl_pending (fun s x => State.modPan_pending s r x.1 f) l s
  unfold execJobResume
  rw [queueKept_next]
  split
  · rfl
  · split
    · dsimp only
      repeat' split
      all_goals simp [changed]
    · rfl

theorem execReleaseCheckDone_pending (j : Nat) (pass : Bool) (s : State) : QueueKept s (execReleaseCheckDone j pass s) := by
  simp only [execReleaseCheckDone, queueKept_next]
  repeat' split
  all_goals simp

/-! ### Queues -/

theorem execJobResultReturn_pending (j : Nat) (s : State) : QueueKept s (execJobResultReturn j s) := by
  simp only [execJobResultReturn, queueKept_next]
  repeat' split
  all_goals simp

/-! ### JournalRows -/

theorem execBatchTimerExpiry_pending (s : State) : QueueKept s (execBatchTimerExpiry s) := by simp [execBatchTimerExpiry]

/-! ### Queues -/

theorem execCoalesceTimerExpiry_pending (_ : Nat) (c : RingNo) (s : State) : QueueKept s (execCoalesceTimerExpiry ii c s) := by
  simp only [execCoalesceTimerExpiry, queueKept_next]
  repeat' split
  all_goals simp

/-! ### JournalRows -/

theorem execCheckpointDue_pending (s : State) : QueueKept s (execCheckpointDue s) := by simp [execCheckpointDue]

theorem execCheckpointSigned_pending (s : State) : QueueKept s (execCheckpointSigned s) := by
  unfold execCheckpointSigned
  rw [queueKept_next]
  split
  · rfl
  next b _ =>
    have signed := firmwareSign_pending "EXM-JRNL-CP-1" (b.bytes s.pkg.fuses.unit) s
    split
    · split
      · rfl
      next s1 e => exact signed _ e
      next sig s1 e => exact (storeCheckpoint_pending _ _).trans (signed _ e)
    · rfl

/-! ### Insts -/

theorem execFlrStart_pending (_ : Nat) (s : State) : QueueKept s (execFlrStart ii s) := by simp [execFlrStart]

theorem execRegionGenerationReport_pending (_ r : Nat) (s : State) : QueueKept s (execRegionGenerationReport ii r s) := by
  simp [execRegionGenerationReport]

theorem execWrapDrainTimeout_pending (_ : Nat) (s : State) : QueueKept s (execWrapDrainTimeout ii s) := by simp [execWrapDrainTimeout]

theorem execFlrComplete_pending (_ : Nat) (s : State) : QueueKept s (execFlrComplete ii s) := by simp [execFlrComplete]

theorem execPcieHotReset_pending (s : State) : QueueKept s (execPcieHotReset s) := by simp [execPcieHotReset]

theorem execVfEnableSet_pending (n : Nat) (s : State) : QueueKept s (execVfEnableSet n s) := by simp [execVfEnableSet]

theorem execVfEnableClear_pending (s : State) : QueueKept s (execVfEnableClear s) := by simp [execVfEnableClear]

theorem execAtsInvalidationRequest_pending (_ page size : Nat) (s : State) : QueueKept s (execAtsInvalidationRequest ii page size s) := by
  simp [execAtsInvalidationRequest]

theorem execIdeStreamFailure_pending (n : Nat) (s : State) : QueueKept s (execIdeStreamFailure n s) := by
  unfold execIdeStreamFailure
  rw [queueKept_next]
  split
  · dsimp only
    rw [noteHostMemory_pending, foldl_pending fun s i => State.modInst_pending s _ _]
    rfl
  · rfl

theorem execInstAdmReassign_pending (_ : Nat) (s : State) : QueueKept s (execInstAdmReassign ii s) := by simp [execInstAdmReassign]

theorem execInstAdmClrEnergy_pending (_ : Nat) (s : State) : QueueKept s (execInstAdmClrEnergy ii s) := by simp [execInstAdmClrEnergy]

theorem execInstAdmQuotaWrite_pending (_ : Nat) (w : Bool) (v : Nat) (s : State) : QueueKept s (execInstAdmQuotaWrite ii w v s) := by
  simp [execInstAdmQuotaWrite]

theorem execInstAdmCfgWrite_pending (_ v : Nat) (s : State) : QueueKept s (execInstAdmCfgWrite ii v s) := by simp [execInstAdmCfgWrite]

theorem execInstXlatClr_pending (_ : Nat) (s : State) : QueueKept s (execInstXlatClr ii s) := by simp [execInstXlatClr]

/-! ### Keys -/

theorem execVltHcapWrite_pending (v : Nat) (s : State) : QueueKept s (execVltHcapWrite v s) := by simp [execVltHcapWrite]

/-! ### Number -/

theorem execSlotLenWrite_pending (r p v : Nat) (s : State) : QueueKept s (execSlotLenWrite r p v s) := by simp [execSlotLenWrite]

theorem execSlotLengthApply_pending (r p : Nat) (s : State) : QueueKept s (execSlotLengthApply r p s) := by simp [execSlotLengthApply]

theorem execSlotInspectRead_pending (r offset : Nat) (s : State) : QueueKept s (execSlotInspectRead r offset s) := by
  simp [execSlotInspectRead]

/-! ### Keys -/

theorem execClrCounts_pending (r : Nat) (shelf : Bool) (s : State) : QueueKept s (execClrCounts r shelf s) := by simp [execClrCounts]

/-! ### Hash -/

theorem execDigWinClaim_pending (_ : DigPort) (s : State) : QueueKept s (execDigWinClaim firmware s) := by simp [execDigWinClaim]

theorem execDigWinData_pending (_ : DigPort) (part v : Nat) (s : State) : QueueKept s (execDigWinData firmware part v s) := by
  simp [execDigWinData]

theorem execDigWinLast_pending (_ : DigPort) (valid token : Nat) (s : State) : QueueKept s (execDigWinLast firmware valid token s) := by
  simp [execDigWinLast]

theorem execDigWinRelease_pending (_ : DigPort) (token : Nat) (s : State) : QueueKept s (execDigWinRelease firmware token s) := by
  simp [execDigWinRelease]

theorem execDigWinTimeout_pending (s : State) : QueueKept s (execDigWinTimeout s) := by simp [execDigWinTimeout]

/-! ### Time -/

theorem execTimNowRead_pending (s : State) : QueueKept s (execTimNowRead s) := by simp [execTimNowRead]

theorem execTimCfgWrite_pending (v : Nat) (s : State) : QueueKept s (execTimCfgWrite v s) := by simp [execTimCfgWrite]

/-! ### Power -/

theorem restart_pending (s : State) : (restart s).pending = s.pending := rfl

theorem bootStop_pending (s : State) : (bootStop s).pending = s.pending := rfl

theorem loseBackup_pending (s : State) : (loseBackup s).pending = s.pending := rfl

theorem State.modLcs_pending (s : State) (f : Life → Life) : (s.modLcs f).pending = s.pending := rfl

theorem timePerst_pending (s : State) : (timePerst s).pending = s.pending := by
  unfold timePerst
  dsimp only
  split
  · exact (State.modTime_pending _ _).trans (State.holdAt_pending s (s.errEst.getD 0))
  · exact foldl_pending (fun s x => loseSource_pending x s) _ s

theorem resumeTransition_pending (s : State) : (resumeTransition s).pending = s.pending := by
  unfold resumeTransition
  split
  · rfl
  · exact runSteps_pending _ _ _ _ s

theorem firstFrames_pending (b : BootIn) (s : State) : (firstFrames b s).pending = s.pending := by
  unfold firstFrames
  dsimp only
  refine (foldl_pending (fun s r => ?_) _ _).trans rfl
  rfl

theorem bootBurns_pending (s : State) : (bootBurns s).pending = s.pending := by
  simp [bootBurns, State.modLcs_pending]

theorem bootKum_pending (s : State) : (bootKum s).pending = s.pending := by
  unfold bootKum
  split
  · rfl
  · simp [State.modLcs_pending]

theorem bootBittern_pending (s : State) : (bootBittern s).pending = s.pending := by
  simp [bootBittern]

theorem fromFreeze_pending (s : State) : (fromFreeze s).pending = s.pending := by
  unfold fromFreeze
  split
  · rfl
  · refine (foldl_pending (fun s b => writeBatch_pending b true s) _ _).trans ?_
    exact foldl_pending (fun s k => appendEntry_pending _ s) _ s

theorem bootJournal_pending (s : State) : (bootJournal s).pending = s.pending := by
  simp [bootJournal, fromFreeze_pending]

theorem bootImages_pending (b : BootIn) (quick : Bool) (s : State) : (bootImages b quick s).pending = s.pending := by
  have fallbacks (s : State) : ([1, 2, 3].foldl (fun s k => s.modFw k fun x => { x with fallback := b.other k && !b.none k }) s).pending =
      s.pending := rfl
  unfold bootImages
  dsimp only
  split
  · exact fallbacks s
  · refine (foldl_pending (fun s r => ?_) _ _).trans ((setMode_pending _ _).trans (fallbacks s))
    exact setRegionState_pending r _ _ _

theorem bootStims_pending (b : BootIn) (s : State) : (bootStims b s).pending = s.pending :=
  foldl_pending (fun s u => stimulate_pending u _ s) _ s

theorem iteState_pending {s : State} {p : Prop} [Decidable p] {x y : State} (hx : x.pending = s.pending) (hy : y.pending = s.pending) :
    (if p then x else y).pending = s.pending := by
  rw [ite_pending, hx, hy, ite_self]

/-- The boot ROM from the burns of step 3 on (R485). -/
def bootOn (b : BootIn) (quick : Bool) (s : State) : State :=
  if s.lcState = 0 ∨ s.lcState = 6 then bootStop s
  else if !b.pufOk || !s.life.otp.pufHelper then bootStop (s.modLcs fun l => { l with pufFail := true })
  else
    let s2 := bootStims b (bootJournal (bootBittern (bootKum (applyOwnerCfg { s with vault := { s.vault with starKey := true } }))))
    bootImages b quick (s2.modPkg fun p => { p with zeroized := s2.lcState == 3 && s2.zeroizeRecord })

theorem bootOn_pending (b : BootIn) (quick : Bool) (s : State) : (bootOn b quick s).pending = s.pending := by
  have journalled (t : State) : (bootStims b (bootJournal (bootBittern (bootKum (applyOwnerCfg t))))).pending = t.pending := by
    rw [bootStims_pending, bootJournal_pending, bootBittern_pending, bootKum_pending, applyOwnerCfg_pending]
  have imaged (u t : State) (f : Pkg → Pkg) (hu : u.pending = t.pending) : (bootImages b quick (u.modPkg f)).pending = t.pending :=
    (bootImages_pending b quick _).trans hu
  exact iteState_pending (bootStop_pending s) (iteState_pending (bootStop_pending _) (imaged _ s _ (journalled _)))

/-- The boot ROM up to the burns of step 3 (R485). -/
def bootEntered (b : BootIn) (quick : Bool) (s : State) : State :=
  (s.modPkg fun p => { p with mode := .boot, halted := false, booting := false, dbgOpen := false, zeroized := false }).modLcs
    fun l => { l with resumed := false, evidenceBurned := false, kumApplied := false, otpFail := !b.otpOk, pufFail := false,
                      bootTick := s.tick, quick := quick }

theorem bootRom_eq (wake : Bool) (b : BootIn) (s : State) : bootRom wake b s =
    let s0 := bootEntered b (wake || bit s.ownerFlags 3) s
    if !b.otpOk || s0.lcState == 0 || s0.lcState == 6 then bootStop s0
    else bootOn b (wake || bit s.ownerFlags 3) (resumeTransition (bootBurns (firstFrames b s0))) := rfl

@[simp] theorem bootRom_pending (wake : Bool) (b : BootIn) (s : State) : (bootRom wake b s).pending = s.pending := by
  have entered (quick : Bool) : (bootEntered b quick s).pending = s.pending := rfl
  rw [bootRom_eq]
  refine iteState_pending ((bootStop_pending _).trans (entered _)) ?_
  rw [bootOn_pending, resumeTransition_pending, bootBurns_pending, firstFrames_pending, entered]

theorem bootTime_pending (s : State) : (bootTime s).pending = s.pending := by
  simp [bootTime]

theorem powerDown_pending (s : State) : (powerDown s).pending = s.pending := by
  simp [powerDown, restart_pending, State.modLcs_pending]

theorem loseAon_pending (s : State) : (loseAon s).pending = s.pending := by
  simp [loseAon, loseBackup_pending]

theorem execPwrgdMainFall_pending (s : State) : QueueKept s (execPwrgdMainFall s) := (queueKept_next s _).2 (powerDown_pending s)

theorem execPwrgdAonFall_pending (s : State) : QueueKept s (execPwrgdAonFall s) := by
  simp [execPwrgdAonFall, loseAon_pending, powerDown_pending]

theorem execPerstNAssert_pending (b : BootIn) (s : State) : QueueKept s (execPerstNAssert b s) := by
  simp [execPerstNAssert, restart_pending, timePerst_pending]

theorem execTimeAlarmFire_pending (b : BootIn) (s : State) : QueueKept s (execTimeAlarmFire b s) := by simp [execTimeAlarmFire]

/-! ### Time -/

theorem execSourceQualified_pending (x : TSrc) (s : State) : QueueKept s (execSourceQualified x s) := by
  simp only [execSourceQualified, queueKept_next]
  repeat' split
  all_goals simp

theorem execSourceLost_pending (x : TSrc) (s : State) : QueueKept s (execSourceLost x s) := by simp [execSourceLost]

theorem execLockAchieved_pending (s : State) : QueueKept s (execLockAchieved s) := by simp [execLockAchieved]

theorem execHoldoverExpiry_pending (s : State) : QueueKept s (execHoldoverExpiry s) := by
  simp only [execHoldoverExpiry, queueKept_next]
  repeat' split
  all_goals simp

/-! ### FramePath -/

theorem execPtpMessageReceive_pending (p domain : Nat) (msg : PtpMsg) (interval : Nat) (off : Int) (err utc : Nat) (l61 l59 : Bool)
    (s : State) : QueueKept s (execPtpMessageReceive p domain msg interval off err utc l61 l59 s) := by
  simp only [execPtpMessageReceive, queueKept_next]
  repeat' split
  all_goals simp

/-! ### Time -/

theorem execIrigFrameReceive_pending (ok : Bool) (off : Int) (err : Nat) (utc : Nat) (l61 l59 : Bool) (s : State) : QueueKept s
    (execIrigFrameReceive ok off err utc l61 l59 s) := by simp [execIrigFrameReceive]

theorem execPpsInEdge_pending (s : State) : QueueKept s (execPpsInEdge s) := by simp [execPpsInEdge]

theorem execLeapSecondBoundary_pending (s : State) : QueueKept s (execLeapSecondBoundary s) := by simp [execLeapSecondBoundary]

theorem execPpsOutPulse_pending (s : State) : QueueKept s (execPpsOutPulse s) := by simp [execPpsOutPulse]

/-! ### FramePath -/

theorem execFrameReceive_pending (p : Nat) (b : List Byte) (fcs fault : Bool) (s : State) : QueueKept s (execFrameReceive p b fcs fault s) := by
  simp only [execFrameReceive, queueKept_next]
  repeat' split
  all_goals simp

theorem execFrameEgress_pending (p : Nat) (s : State) : QueueKept s (execFrameEgress p s) := by
  simp only [execFrameEgress, queueKept_next]
  repeat' split
  all_goals simp

/-! ### Frames -/

theorem execStreamSilenceExpiry_pending (n : Nat) (s : State) : QueueKept s (execStreamSilenceExpiry n s) := by
  simp only [execStreamSilenceExpiry, queueKept_next]
  repeat' split
  all_goals simp

theorem execRateSecondBoundary_pending (s : State) : QueueKept s (execRateSecondBoundary s) := by simp [execRateSecondBoundary]

theorem execQuarantineHoldExpiry_pending (n : Nat) (s : State) : QueueKept s (execQuarantineHoldExpiry n s) := by
  simp only [execQuarantineHoldExpiry, queueKept_next]
  repeat' split
  all_goals simp

/-! ### Harvest -/

theorem execTimeAllowedToLiveExpiry_pending (n : Nat) (s : State) : QueueKept s (execTimeAllowedToLiveExpiry n s) := by
  simp only [execTimeAllowedToLiveExpiry, queueKept_next]
  repeat' split
  all_goals simp

/-! ### Frames -/

theorem execFrameRingEnable_pending (_ n v : Nat) (s : State) : QueueKept s (execFrameRingEnable ii n v s) := by simp [execFrameRingEnable]

theorem execFrameRingDoorbell_pending (_ n v : Nat) (s : State) : QueueKept s (execFrameRingDoorbell ii n v s) := by
  simp [execFrameRingDoorbell]

/-! ### Harvest -/

theorem execHarvestWindowClose_pending (n : Nat) (s : State) : QueueKept s (execHarvestWindowClose n s) := by
  simp only [execHarvestWindowClose, queueKept_next]
  repeat' split
  all_goals simp

theorem execHarvestSealDone_pending (n w : Nat) (s : State) : QueueKept s (execHarvestSealDone n w s) := by
  unfold execHarvestSealDone
  rw [queueKept_next]
  split
  · split
    · rfl
    next x st _ _ _ y _ =>
      dsimp only
      split
      · simp
      · rfl
      next k _ _ =>
        have signed := sealSign_pending x k y.record s
        split
        · rfl
        next bad s1 e => simpa using signed _ e
        next sig s1 e => simpa using signed _ e
  · rfl

theorem execHarvestVerifyDone_pending (n : Nat) (s : State) : QueueKept s (execHarvestVerifyDone n s) := by
  simp only [execHarvestVerifyDone, queueKept_next]
  repeat' split
  all_goals simp

theorem execAssemblyTimeout_pending (n : Nat) (s : State) : QueueKept s (execAssemblyTimeout n s) := by
  simp only [execAssemblyTimeout, queueKept_next]
  repeat' split
  all_goals simp

theorem execPendingFrameTimeout_pending (n : Nat) (s : State) : QueueKept s (execPendingFrameTimeout n s) := by
  simp only [execPendingFrameTimeout, queueKept_next]
  repeat' split
  all_goals simp

/-! ### Random -/

theorem execNoiseWindowComplete_pending (r : Nat) (rct apt : Bool) (s : State) : QueueKept s (execNoiseWindowComplete r rct apt s) := by
  simp only [execNoiseWindowComplete, queueKept_next]
  repeat' split
  all_goals simp

theorem execSeedConditioned_pending (r : Nat) (s : State) : QueueKept s (execSeedConditioned r s) := by simp [execSeedConditioned]

theorem execReseedDue_pending (r : Nat) (s : State) : QueueKept s (execReseedDue r s) := by
  simp only [execReseedDue, queueKept_next]
  repeat' split
  all_goals simp

theorem execExpanderGenerate_pending (r : Nat) (s : State) : QueueKept s (execExpanderGenerate r s) := by simp [execExpanderGenerate]

theorem execRandomDrawServed_pending (r : Nat) (s : State) : QueueKept s (execRandomDrawServed r s) := by
  simp only [execRandomDrawServed, queueKept_next]
  repeat' split
  all_goals simp

theorem execRandomDrawTimeout_pending (j : Nat) (s : State) : QueueKept s (execRandomDrawTimeout j s) := by
  simp only [execRandomDrawTimeout, queueKept_next]
  repeat' split
  all_goals simp

theorem execDonorSeedWrap_pending (asker : Nat) (s : State) : QueueKept s (execDonorSeedWrap asker s) := by
  simp only [execDonorSeedWrap, queueKept_next]
  repeat' split
  all_goals simp

theorem execBorrowedSeedArrival_pending (r : Nat) (ok : Bool) (s : State) : QueueKept s (execBorrowedSeedArrival r ok s) := by
  simp only [execBorrowedSeedArrival, queueKept_next]
  repeat' split
  all_goals simp

theorem execSeedRequestRetry_pending (r : Nat) (s : State) : QueueKept s (execSeedRequestRetry r s) := by simp [execSeedRequestRetry]

theorem execBorrowAdvanceDue_pending (r : Nat) (s : State) : QueueKept s (execBorrowAdvanceDue r s) := by simp [execBorrowAdvanceDue]

theorem execSourceRestartDone_pending (r : Nat) (pass : Bool) (s : State) : QueueKept s (execSourceRestartDone r pass s) := by
  simp [execSourceRestartDone]

theorem execRngStartupComplete_pending (r : Nat) (s : State) : QueueKept s (execRngStartupComplete r s) := by
  unfold execRngStartupComplete
  rw [queueKept_next]
  dsimp only
  split
  · rw [wakeMasked_pending, foldl_pending fun s p => State.modMsg_pending s _ _ _]
    rfl
  · rfl

theorem execMaskSeedArrival_pending (r p : Nat) (s : State) : QueueKept s (execMaskSeedArrival r p s) := by simp [execMaskSeedArrival]

theorem execMaskStreamLockstepFault_pending (r p : Nat) (s : State) : QueueKept s (execMaskStreamLockstepFault r p s) := by
  simp [execMaskStreamLockstepFault]

/-! ### Keys -/

theorem execRootReady_pending (s : State) : QueueKept s (execRootReady s) := by
  simp only [execRootReady, queueKept_next]
  repeat' split
  all_goals simp

/-! ### Regions -/

theorem execEccError_pending (a : EccAt) (corrected : Bool) (s : State) : QueueKept s (execEccError a corrected s) := by simp [execEccError]

/-! ### FaultRows -/

theorem execDupMismatch_pending (r : Nat) (k : UnitKind) (n : Nat) (pair : Bool) (s : State) : QueueKept s (execDupMismatch r k n pair s) := by
  simp [execDupMismatch]

theorem execSeqCheckFault_pending (r : Nat) (k : UnitKind) (n : Nat) (s : State) : QueueKept s (execSeqCheckFault r k n s) := by
  simp [execSeqCheckFault]

theorem execPanWatchdogTrip_pending (r p : Nat) (s : State) : QueueKept s (execPanWatchdogTrip r p s) := by simp [execPanWatchdogTrip]

theorem execSelfTestResult_pending (q : Nat) (pass : Bool) (s : State) : QueueKept s (execSelfTestResult q pass s) := by
  simp only [execSelfTestResult, queueKept_next]
  repeat' split
  all_goals simp

theorem execSluiceExpiry_pending (q : Nat) (s : State) : QueueKept s (execSluiceExpiry q s) := by
  simp only [execSluiceExpiry, queueKept_next]
  repeat' split
  all_goals simp

theorem execFltAck_pending (hi : Nat) (s : State) : QueueKept s (execFltAck hi s) := by simp [execFltAck]

theorem execFltInject_pending (v : Nat) (s : State) : QueueKept s (execFltInject v s) := by simp [execFltInject]

/-! ### Tamper -/

theorem execDisturbance_pending (u : Nat) (s : State) : QueueKept s (execDisturbance u s) := by simp [execDisturbance]

theorem execDisturbanceClear_pending (u ns : Nat) (s : State) : QueueKept s (execDisturbanceClear u ns s) := by
  simp only [execDisturbanceClear, queueKept_next]
  repeat' split
  all_goals simp

theorem execTamperAlarm_pending (us : List Nat) (partner : Bool) (s : State) : QueueKept s (execTamperAlarm us partner s) := by
  simp [execTamperAlarm]

theorem execEraseEvidenceBurn_pending (s : State) : QueueKept s (execEraseEvidenceBurn s) := by
  unfold execEraseEvidenceBurn
  rw [queueKept_next]
  simp

theorem execZeroizeNAssert_pending (ns : Nat) (s : State) : QueueKept s (execZeroizeNAssert ns s) := by simp [execZeroizeNAssert]

theorem execTampInAssert_pending (n : Nat) (high : Bool) (ns : Nat) (s : State) : QueueKept s (execTampInAssert n high ns s) := by
  simp [execTampInAssert]

theorem execMonitorStimulation_pending (responds : Bool) (s : State) : QueueKept s (execMonitorStimulation responds s) := by
  simp only [execMonitorStimulation, queueKept_next]
  repeat' split
  all_goals simp

theorem execVbatLow_pending (mv : Nat) (s : State) : QueueKept s (execVbatLow mv s) := by simp [execVbatLow]

/-! ### Power -/

theorem execPwrgdMainRise_pending (straps : Nat) (b : BootIn) (s : State) : QueueKept s (execPwrgdMainRise straps b s) := by
  simp [execPwrgdMainRise, sampleStraps, bootTime_pending, restart_pending]

theorem execVbatApplied_pending (s : State) : QueueKept s (execVbatApplied s) := by simp [execVbatApplied]

theorem execVbatLost_pending (s : State) : QueueKept s (execVbatLost s) := by simp [execVbatLost, loseBackup_pending]

theorem execWakeNLow_pending (ns : Nat) (b : BootIn) (s : State) : QueueKept s (execWakeNLow ns b s) := by simp [execWakeNLow]

theorem execPcieLinkWake_pending (b : BootIn) (s : State) : QueueKept s (execPcieLinkWake b s) := by simp [execPcieLinkWake]

theorem execSelfTestComplete_pending (apex : Bool) (s : State) : QueueKept s (execSelfTestComplete apex s) := by
  simp [execSelfTestComplete, State.modLcs_pending]

/-! ### Regions -/

theorem execRegionDrained_pending (r : Nat) (s : State) : QueueKept s (execRegionDrained r s) := by simp [execRegionDrained]

theorem execDrainTimeout_pending (r : Nat) (s : State) : QueueKept s (execDrainTimeout r s) := by simp [execDrainTimeout]

theorem execRegionTestingDone_pending (r : Nat) (pass : Bool) (s : State) : QueueKept s (execRegionTestingDone r pass s) := by
  simp [execRegionTestingDone]

theorem execRegionLoadingDone_pending (r oks : Nat) (s : State) : QueueKept s (execRegionLoadingDone r oks s) := by
  simp [execRegionLoadingDone]

theorem execRegionRejoinDone_pending (r : Nat) (s : State) : QueueKept s (execRegionRejoinDone r s) := by simp [execRegionRejoinDone]

theorem execPointWrite_pending (r v : Nat) (s : State) : QueueKept s (execPointWrite r v s) := by simp [execPointWrite]

theorem execPointSwitchDone_pending (r mv : Nat) (ok : Bool) (s : State) : QueueKept s (execPointSwitchDone r mv ok s) := by
  simp [execPointSwitchDone]

theorem execPanIdleTimeout_pending (r p : Nat) (s : State) : QueueKept s (execPanIdleTimeout r p s) := by simp [execPanIdleTimeout]

theorem execPanNapTimeout_pending (r p : Nat) (s : State) : QueueKept s (execPanNapTimeout r p s) := by simp [execPanNapTimeout]

theorem execLinkRetry_pending (r : Nat) (s : State) : QueueKept s (execLinkRetry r s) := by simp [execLinkRetry]

theorem execLinkLaneFailure_pending (r : Nat) (m : Bool) (s : State) : QueueKept s (execLinkLaneFailure r m s) := by
  simp [execLinkLaneFailure]

theorem execRakePass_pending (r : Nat) (finished : Bool) (err : Option (EccAt × Bool)) (s : State) : QueueKept s
    (execRakePass r finished err s) := by
  simp only [execRakePass, queueKept_next]
  repeat' split
  all_goals simp

theorem execAgingEvaluation_pending (r target slack : Nat) (ok : Bool) (s : State) : QueueKept s (execAgingEvaluation r target slack ok s) := by
  simp [execAgingEvaluation]

theorem execThermalThreshold_pending (die level : Nat) (up : Bool) (s : State) : QueueKept s (execThermalThreshold die level up s) := by
  unfold execThermalThreshold
  rw [queueKept_next]
  repeat' split
  all_goals simp

/-! ### Manage -/

theorem execHeartbeatLapse_pending (s : State) : QueueKept s (execHeartbeatLapse s) := by simp [execHeartbeatLapse]

theorem execWatchdogReset_pending (s : State) : QueueKept s (execWatchdogReset s) := by simp [execWatchdogReset]

theorem execSkanelLockstepMismatch_pending (s : State) : QueueKept s (execSkanelLockstepMismatch s) := by simp [execSkanelLockstepMismatch]

/-! ### JournalRows -/

theorem execBitternSlotWritten_pending (s : State) : QueueKept s (execBitternSlotWritten s) := by
  have signed := firmwareSign_pending "EXM-BITTERN-1" (btnImage s) s
  unfold execBitternSlotWritten
  rw [queueKept_next]
  split
  · rfl
  · split
    · dsimp only
      split
      · rfl
      next s1 e => exact signed _ e
      next sig s1 e => exact (saveBittern_pending _ _ _ _).trans (signed _ e)
    · rfl

/-! ### Card -/

theorem execCardInsert_pending (ns blocks : Nat) (hdr : Option (Nat × Nat)) (recs : List CardRec) (init : Bool) (mode phase : Nat)
    (s : State) : QueueKept s (execCardInsert ns blocks hdr recs init mode phase s) := by simp [execCardInsert]

theorem execCardRemove_pending (ns : Nat) (s : State) : QueueKept s (execCardRemove ns s) := by simp [execCardRemove]

theorem execCardEject_pending (s : State) : QueueKept s (execCardEject s) := by simp [execCardEject]

theorem execCardBusyEnd_pending (s : State) : QueueKept s (execCardBusyEnd s) := by
  simp only [execCardBusyEnd, queueKept_next]
  repeat' split
  all_goals simp

theorem execCardBusyTimeout_pending (s : State) : QueueKept s (execCardBusyTimeout s) := by simp [execCardBusyTimeout]

/-! ### Registers -/

theorem execBadAccess_pending (fn a size : Nat) (write : Bool) (s : State) : QueueKept s (execBadAccess fn a size write s) := by
  simp [execBadAccess]

theorem execRegisterWrite_pending (fn a : Nat) (wide : Bool) (v : Nat) (s : State) : QueueKept s (execRegisterWrite fn a wide v s) := by
  simp [execRegisterWrite]

/-! ### Custom -/

theorem execKInterruptEntry_pending (c : CoreId) (n : Nat) (s : State) : QueueKept s (execKInterruptEntry c n s) := by
  simp [execKInterruptEntry]

theorem execCustYield_pending (c : CoreId) (s : State) : QueueKept s (execCustYield c s) := by
  simp only [execCustYield, queueKept_next]
  repeat' split
  all_goals simp

theorem execSafePointWatchdogTrip_pending (c : CoreId) (maxUs : Bool) (s : State) : QueueKept s (execSafePointWatchdogTrip c maxUs s) := by
  simp only [execSafePointWatchdogTrip, queueKept_next]
  repeat' split
  all_goals simp

theorem execSeqStep_pending (c : CoreId) (s : State) : QueueKept s (execSeqStep c s) := by simp [execSeqStep]

theorem execSeqBranch_pending (c : CoreId) (s : State) : QueueKept s (execSeqBranch c s) := by simp [execSeqBranch]

theorem execSeqCall_pending (c : CoreId) (s : State) : QueueKept s (execSeqCall c s) := by simp [execSeqCall]

theorem execSeqRet_pending (c : CoreId) (s : State) : QueueKept s (execSeqRet c s) := by simp [execSeqRet]

theorem execSeqRun_pending (c : CoreId) (s : State) : QueueKept s (execSeqRun c s) := by simp [execSeqRun]

theorem execSeqEnd_pending (c : CoreId) (s : State) : QueueKept s (execSeqEnd c s) := by simp [execSeqEnd]

theorem execSeqFail_pending (c : CoreId) (s : State) : QueueKept s (execSeqFail c s) := by simp [execSeqFail]

theorem execKRep_pending (c : CoreId) (stall : Nat) (w w2 : U32) (s : State) : QueueKept s (execKRep c stall w w2 s) := by simp [execKRep]

theorem execKRepi_pending (c : CoreId) (stall : Nat) (w w2 : U32) (s : State) : QueueKept s (execKRepi c stall w w2 s) := by
  simp [execKRepi]

/-! ### Tap -/

theorem execTapExtest_pending (pins tdi : List Byte) (s : State) : QueueKept s (execTapExtest pins tdi s) := by simp [execTapExtest]

theorem execTapSamplePreload_pending (pins tdi : List Byte) (s : State) : QueueKept s (execTapSamplePreload pins tdi s) := by
  simp [execTapSamplePreload]

theorem execTapIdcode_pending (s : State) : QueueKept s (execTapIdcode s) := by simp [execTapIdcode]

theorem execTapHighz_pending (pins tdi : List Byte) (s : State) : QueueKept s (execTapHighz pins tdi s) := by simp [execTapHighz]

theorem execTapClamp_pending (pins tdi : List Byte) (s : State) : QueueKept s (execTapClamp pins tdi s) := by simp [execTapClamp]

theorem execTapExtestPulse_pending (pins tdi : List Byte) (s : State) : QueueKept s (execTapExtestPulse pins tdi s) := by
  simp [execTapExtestPulse]

theorem execTapExtestTrain_pending (pins tdi : List Byte) (s : State) : QueueKept s (execTapExtestTrain pins tdi s) := by
  simp [execTapExtestTrain]

theorem execTapLcStatus_pending (s : State) : QueueKept s (execTapLcStatus s) := by simp [execTapLcStatus]

theorem execTapDbgAuth_pending (b : List Byte) (s : State) : QueueKept s (execTapDbgAuth b s) := by simp [execTapDbgAuth]

theorem execTapDbgClose_pending (s : State) : QueueKept s (execTapDbgClose s) := by simp [execTapDbgClose]

theorem execTapDbgRead_pending (x : DbgSpace) (s : State) : QueueKept s (execTapDbgRead x s) := by simp [execTapDbgRead]

theorem execTapDbgWrite_pending (fn a v : Nat) (s : State) : QueueKept s (execTapDbgWrite fn a v s) := by simp [execTapDbgWrite]

theorem execTapDbgHalt_pending (c : CoreId) (o : DbgOp) (s : State) : QueueKept s (execTapDbgHalt c o s) := by simp [execTapDbgHalt]

theorem execTapDbgRun_pending (c : CoreId) (n : Nat) (args : List Byte) (ins : Tbl (List Byte)) (s : State) : QueueKept s
    (execTapDbgRun c n args ins s) := by simp [execTapDbgRun]

theorem execTapFtScan_pending (tdi : List Byte) (s : State) : QueueKept s (execTapFtScan tdi s) :=
  (queueKept_next _ _).2 (vendorOnly_pending _ _ _ _ _ fun _ => rfl)

theorem execTapFtBist_pending (tdi : List Byte) (s : State) : QueueKept s (execTapFtBist tdi s) :=
  (queueKept_next _ _).2 (vendorOnly_pending _ _ _ _ _ fun _ => rfl)

theorem execTapFtFuse_pending (x : FuseIn) (s : State) : QueueKept s (execTapFtFuse x s) := by simp [execTapFtFuse]

theorem execTapBypass_pending (tdi : List Byte) (s : State) : QueueKept s (execTapBypass tdi s) := by simp [execTapBypass]

/-! ### Regions -/

theorem execRegionSramWiped_pending (r : Nat) (s : State) : QueueKept s (execRegionSramWiped r s) := by simp [execRegionSramWiped]

/-! ### Power -/

theorem execPerstNDeassert_pending (s : State) : QueueKept s (execPerstNDeassert s) := by simp [execPerstNDeassert]

/-! ### FramePath -/

theorem execFramePortLinkChange_pending (p : Nat) (up : Bool) (s : State) : QueueKept s (execFramePortLinkChange p up s) := by
  simp [execFramePortLinkChange]

/-! ### Time -/

theorem execTcxoToleranceChange_pending (ok : Bool) (s : State) : QueueKept s (execTcxoToleranceChange ok s) := by
  simp [execTcxoToleranceChange]

/-! ### Hash -/

theorem execLmsNextTreeReady_pending (id : Nat) (s : State) : QueueKept s (execLmsNextTreeReady id s) := by simp [execLmsNextTreeReady]

/-! ### Tamper -/

theorem execStimulationWindowEnd_pending (u : Nat) (alarm : Bool) (s : State) : QueueKept s (execStimulationWindowEnd u alarm s) := by
  simp [execStimulationWindowEnd]

/-! ### FaultRows -/

theorem execErrorPairPhaseToggle_pending (s : State) : QueueKept s (execErrorPairPhaseToggle s) := by simp [execErrorPairPhaseToggle]

/-! ### HostMemory -/

theorem execHostMemoryCompletion_pending (u : HostUse) (a : HostAns) (s : State) : QueueKept s (execHostMemoryCompletion u a s) := by
  simp only [execHostMemoryCompletion, queueKept_next]
  repeat' split
  all_goals simp

/-! ### Card -/

theorem execCardCommandResponse_pending (ok : Bool) (s : State) : QueueKept s (execCardCommandResponse ok s) := by
  simp only [execCardCommandResponse, queueKept_next]
  repeat' split
  all_goals simp

/-! ### Hash -/

theorem execDigWinCompressionDone_pending (s : State) : QueueKept s (execDigWinCompressionDone s) := by simp [execDigWinCompressionDone]

/-- A verb leaves the queue alone where its body does. -/
theorem verb_kept {op j : Nat} {body : Cmd → State → State × Option Res} {s : State} (hb : KeepsQueue body) :
    QueueKept s (.next (runVerb op j body s)) := (queueKept_next s _).2 (runVerb_pending op j hb s)

theorem kword_kept {s : State} (cl : KClass) (c : CoreId) (stall : Nat) (w : U32) (run : Reach → Nat → Nat → Core → KOut) :
    QueueKept s (.next (kexec cl c stall w s run)) := (queueKept_next s _).2 (kexec_pending cl c stall w s run)

/-- Every command of the block gives a state with the queue as it was. -/
theorem exec_queueKept (i : Instr) (s : State) : QueueKept s (exec i s) := by
  cases i with
  | sysNop _ => exact verb_kept sysNop_keepsQueue
  | sysFeatures _ => exact verb_kept sysFeatures_keepsQueue
  | sysStandby _ => exact verb_kept sysStandby_keepsQueue
  | keyGenerate _ => exact verb_kept keyGenerate_keepsQueue
  | keyImport _ => exact verb_kept keyImport_keepsQueue
  | keyDerive _ => exact verb_kept keyDerive_keepsQueue
  | keyLoad _ => exact verb_kept keyLoad_keepsQueue
  | keyEvict _ => exact verb_kept keyEvict_keepsQueue
  | keyDelete _ => exact verb_kept keyDelete_keepsQueue
  | keyPinPublic _ => exact verb_kept keyPinPublic_keepsQueue
  | keyAttest _ => exact verb_kept keyAttest_keepsQueue
  | keyList _ => exact verb_kept keyList_keepsQueue
  | keyIdentity _ => exact verb_kept keyIdentity_keepsQueue
  | keyTransfer _ => exact verb_kept keyTransfer_keepsQueue
  | keyUpdate _ => exact verb_kept keyUpdate_keepsQueue
  | kemMlkemEncaps _ => exact verb_kept mlkemEncaps_keepsQueue
  | kemMlkemDecaps _ => exact verb_kept mlkemDecaps_keepsQueue
  | kemHybEncaps _ => exact verb_kept hybEncaps_keepsQueue
  | kemHybDecaps _ => exact verb_kept hybDecaps_keepsQueue
  | kemRsaEncrypt _ => exact verb_kept rsaEncrypt_keepsQueue
  | kemRsaDecrypt _ => exact verb_kept rsaDecrypt_keepsQueue
  | kemEcdh _ => exact verb_kept kemEcdh_keepsQueue
  | kemMceEncaps _ => exact verb_kept mceEncaps_keepsQueue
  | kemMceDecaps _ => exact verb_kept (codeDecaps_keepsQueue _)
  | kemHqcEncaps _ => exact verb_kept hqcEncaps_keepsQueue
  | kemHqcDecaps _ => exact verb_kept (codeDecaps_keepsQueue _)
  | sigMldsaSign _ => exact verb_kept mldsaSign_keepsQueue
  | sigMldsaVerify _ => exact verb_kept mldsaVerify_keepsQueue
  | sigFndsaVerify _ => exact verb_kept fndsaVerify_keepsQueue
  | sigCompSign _ => exact verb_kept compSign_keepsQueue
  | sigCompVerify _ => exact verb_kept compVerify_keepsQueue
  | sigSlhdsaSign _ => exact verb_kept slhSign_keepsQueue
  | sigSlhdsaVerify _ => exact verb_kept slhVerify_keepsQueue
  | sigLmsSign _ => exact verb_kept lmsSign_keepsQueue
  | lmsReservationComplete id => exact execLmsReservationComplete_pending id s
  | sigLmsVerify _ => exact verb_kept (statefulVerify_keepsQueue _ _)
  | sigXmssVerify _ => exact verb_kept (statefulVerify_keepsQueue _ _)
  | sigRsaSign _ => exact verb_kept rsaSign_keepsQueue
  | sigRsaVerify _ => exact verb_kept rsaVerify_keepsQueue
  | sigEcdsaSign _ => exact verb_kept ecdsaSign_keepsQueue
  | sigEcdsaVerify _ => exact verb_kept ecdsaVerify_keepsQueue
  | sigEddsaSign _ => exact verb_kept eddsaSign_keepsQueue
  | sigEddsaVerify _ => exact verb_kept eddsaVerify_keepsQueue
  | digHash _ => exact verb_kept digHash_keepsQueue
  | digMac _ => exact verb_kept digMac_keepsQueue
  | digMacVerify _ => exact verb_kept digMacVerify_keepsQueue
  | digKdf _ => exact verb_kept digKdf_keepsQueue
  | symAeadEncrypt _ => exact verb_kept aeadEncrypt_keepsQueue
  | symAeadDecrypt _ => exact verb_kept aeadDecrypt_keepsQueue
  | symCipherEncrypt _ => exact verb_kept (cipher_keepsQueue _)
  | symCipherDecrypt _ => exact verb_kept (cipher_keepsQueue _)
  | symMac _ => exact verb_kept symMac_keepsQueue
  | symMacVerify _ => exact verb_kept symMacVerify_keepsQueue
  | symWrap _ => exact verb_kept symWrap_keepsQueue
  | symUnwrap _ => exact verb_kept symUnwrap_keepsQueue
  | rngGenerate _ => exact verb_kept rngGenerate_keepsQueue
  | rngKat _ => exact verb_kept rngKat_keepsQueue
  | rngRaw _ => exact verb_kept rngRaw_keepsQueue
  | frmSend _ => exact verb_kept frmSend_keepsQueue
  | frmSendEgress j => exact execFrmSendEgress_pending j s
  | frmSubscribe _ => exact verb_kept (frmChecked_keepsQueue _)
  | frmUnsubscribe _ => exact verb_kept (frmChecked_keepsQueue _)
  | frmPortSet _ => exact verb_kept (frmChecked_keepsQueue _)
  | frmStreamSet _ => exact verb_kept (frmChecked_keepsQueue _)
  | frmStreamClear _ => exact verb_kept (frmChecked_keepsQueue _)
  | frmKeySet _ => exact verb_kept (frmChecked_keepsQueue _)
  | frmStreamRelease _ => exact verb_kept frmStreamRelease_keepsQueue
  | frmStreamStatus _ => exact verb_kept frmStreamStatus_keepsQueue
  | frmHarvestSet _ => exact verb_kept (frmChecked_keepsQueue _)
  | frmHarvestStatus _ => exact verb_kept frmHarvestStatus_keepsQueue
  | timeRead _ => exact verb_kept timeRead_keepsQueue
  | timeSet _ => exact verb_kept timeSet_keepsQueue
  | jrnlRead _ => exact verb_kept jrnlRead_keepsQueue
  | jrnlCheckpoint _ => exact verb_kept jrnlCheckpoint_keepsQueue
  | jrnlMirrorSet _ => exact verb_kept jrnlMirrorSet_keepsQueue
  | jrnlBtnRead _ => exact verb_kept jrnlBtnRead_keepsQueue
  | jrnlBtnList _ => exact verb_kept jrnlBtnList_keepsQueue
  | regnTakeOut _ => exact verb_kept regnTakeOut_keepsQueue
  | regnReturn _ => exact verb_kept regnReturn_keepsQueue
  | regnReserveWarm _ => exact verb_kept regnReserveWarm_keepsQueue
  | mgmtFwWrite _ => exact verb_kept mgmtFwWrite_keepsQueue
  | mgmtFwVerify _ => exact verb_kept mgmtFwVerify_keepsQueue
  | mgmtFwActivate _ => exact verb_kept mgmtFwActivate_keepsQueue
  | mgmtFirstHeartbeat => exact execMgmtFirstHeartbeat_pending s
  | activationFallback bad => exact execActivationFallback_pending bad s
  | regionRollStep ms full => exact execRegionRollStep_pending ms full s
  | mgmtFwCommit _ => exact verb_kept mgmtFwCommit_keepsQueue
  | mgmtFwStatus _ => exact verb_kept mgmtFwStatus_keepsQueue
  | mgmtSensors _ => exact verb_kept mgmtSensors_keepsQueue
  | updateAgentTimeout => exact execUpdateAgentTimeout_pending s
  | pldmQueryDeviceIdentifiers pcie => exact execPldmQueryDeviceIdentifiers_pending pcie s
  | pldmGetFirmwareParameters pcie => exact execPldmGetFirmwareParameters_pending pcie s
  | pldmRequestUpdate pcie => exact execPldmRequestUpdate_pending pcie s
  | pldmPassComponentTable pcie last => exact execPldmPassComponentTable_pending pcie last s
  | pldmUpdateComponent pcie kind size => exact execPldmUpdateComponent_pending pcie kind size s
  | pldmRequestFirmwareData pcie data => exact execPldmRequestFirmwareData_pending pcie data s
  | pldmTransferComplete pcie => exact execPldmTransferComplete_pending pcie s
  | pldmVerifyComplete pcie => exact execPldmVerifyComplete_pending pcie s
  | pldmApplyComplete pcie => exact execPldmApplyComplete_pending pcie s
  | pldmActivateFirmware pcie => exact execPldmActivateFirmware_pending pcie s
  | pldmGetStatus pcie => exact execPldmGetStatus_pending pcie s
  | pldmCancelUpdateComponent pcie => exact execPldmCancelUpdateComponent_pending pcie s
  | pldmCancelUpdate pcie => exact execPldmCancelUpdate_pending pcie s
  | spdmRequest doe x => exact execSpdmRequest_pending doe x s
  | mctpControlMessage pcie eid msg => exact execMctpControlMessage_pending pcie eid msg s
  | mctpFaultAck session fseq => exact execMctpFaultAck_pending session fseq s
  | sidebandSummaryRead => exact execSidebandSummaryRead_pending s
  | lifeStatus _ => exact verb_kept lifeStatus_keepsQueue
  | lifeTransition _ _ => exact verb_kept (lifeTransition_keepsQueue _)
  | lifeDebugOpen _ => exact verb_kept lifeDebugOpen_keepsQueue
  | lifeDebugClose _ => exact verb_kept lifeDebugClose_keepsQueue
  | debugWindowEnd => exact execDebugWindowEnd_pending s
  | tampTest _ _ => exact verb_kept (tampTest_keepsQueue _)
  | tampErase _ => exact verb_kept tampErase_keepsQueue
  | cardStatus _ => exact verb_kept cardStatus_keepsQueue
  | cardFormat _ => exact verb_kept cardFormat_keepsQueue
  | cardExport _ => exact verb_kept cardExport_keepsQueue
  | cardList _ => exact verb_kept cardList_keepsQueue
  | cardImportKum _ => exact verb_kept cardImportKum_keepsQueue
  | custRun _ => exact verb_kept custRun_keepsQueue
  | custLoad _ => exact verb_kept custLoad_keepsQueue
  | custUnload _ => exact verb_kept custUnload_keepsQueue
  | custList _ => exact verb_kept custList_keepsQueue
  | custPartitionReload r p => exact execCustPartitionReload_pending r p s
  | mailboxDoorbell ii v => exact execMailboxDoorbell_pending ii v s
  | mailboxBufferWrite ii o v => exact execMailboxBufferWrite_pending ii o v s
  | mailboxRequestDone ii => exact execMailboxRequestDone_pending ii s
  | mailboxHoldRelease j => exact execMailboxHoldRelease_pending j s
  | sqEnable ii q => exact execSqEnable_pending ii q s
  | cqEnable ii c => exact execCqEnable_pending ii c s
  | sqDoorbell ii q v => exact execSqDoorbell_pending ii q v s
  | cqDoorbell ii c v => exact execCqDoorbell_pending ii c v s
  | queueFetch ans => exact execQueueFetch_pending ans s
  | jseqReserveComplete => exact execJseqReserveComplete_pending s
  | jobSend j => exact execJobSend_pending j s
  | regionAck j => exact execRegionAck_pending j s
  | jobDispatch j => exact execJobDispatch_pending j s
  | panWakeComplete r p => exact execPanWakeComplete_pending r p s
  | panAdmit r p => exact execPanAdmit_pending r p s
  | powerSample mw => exact execPowerSample_pending mw s
  | resourceFreedDispatch j => exact execResourceFreedDispatch_pending j s
  | shelfMissBlobArrival j blob => exact execShelfMissBlobArrival_pending j blob s
  | crystallizerFillComplete r => exact execCrystallizerFillComplete_pending r s
  | jobYield j => exact execJobYield_pending j s
  | digestQuantumExpiry j => exact execDigestQuantumExpiry_pending j s
  | numberQuantumExpiry j => exact execNumberQuantumExpiry_pending j s
  | symQuantumExpiry j => exact execSymQuantumExpiry_pending j s
  | jobResume j => exact execJobResume_pending j s
  | releaseCheckDone j pass => exact execReleaseCheckDone_pending j pass s
  | jobResultReturn j => exact execJobResultReturn_pending j s
  | batchTimerExpiry => exact execBatchTimerExpiry_pending s
  | coalesceTimerExpiry ii c => exact execCoalesceTimerExpiry_pending ii c s
  | checkpointDue => exact execCheckpointDue_pending s
  | checkpointSigned => exact execCheckpointSigned_pending s
  | flrStart ii => exact execFlrStart_pending ii s
  | regionGenerationReport ii r => exact execRegionGenerationReport_pending ii r s
  | wrapDrainTimeout ii => exact execWrapDrainTimeout_pending ii s
  | flrComplete ii => exact execFlrComplete_pending ii s
  | pcieHotReset => exact execPcieHotReset_pending s
  | vfEnableSet n => exact execVfEnableSet_pending n s
  | vfEnableClear => exact execVfEnableClear_pending s
  | atsInvalidationRequest ii page size => exact execAtsInvalidationRequest_pending ii page size s
  | ideStreamFailure n => exact execIdeStreamFailure_pending n s
  | instAdmReassign ii => exact execInstAdmReassign_pending ii s
  | instAdmClrEnergy ii => exact execInstAdmClrEnergy_pending ii s
  | instAdmQuotaWrite ii w v => exact execInstAdmQuotaWrite_pending ii w v s
  | instAdmCfgWrite ii v => exact execInstAdmCfgWrite_pending ii v s
  | instXlatClr ii => exact execInstXlatClr_pending ii s
  | vltHcapWrite v => exact execVltHcapWrite_pending v s
  | slotLenWrite r p v => exact execSlotLenWrite_pending r p v s
  | slotLengthApply r p => exact execSlotLengthApply_pending r p s
  | slotInspectRead r offset => exact execSlotInspectRead_pending r offset s
  | clrCounts r shelf => exact execClrCounts_pending r shelf s
  | digWinClaim firmware => exact execDigWinClaim_pending firmware s
  | digWinData firmware part v => exact execDigWinData_pending firmware part v s
  | digWinLast firmware valid token => exact execDigWinLast_pending firmware valid token s
  | digWinRelease firmware token => exact execDigWinRelease_pending firmware token s
  | digWinTimeout => exact execDigWinTimeout_pending s
  | timNowRead => exact execTimNowRead_pending s
  | timCfgWrite v => exact execTimCfgWrite_pending v s
  | timeAlarmFire b => exact execTimeAlarmFire_pending b s
  | sourceQualified x => exact execSourceQualified_pending x s
  | sourceLost x => exact execSourceLost_pending x s
  | lockAchieved => exact execLockAchieved_pending s
  | holdoverExpiry => exact execHoldoverExpiry_pending s
  | ptpMessageReceive p domain msg interval off err utc l61 l59 =>
      exact execPtpMessageReceive_pending p domain msg interval off err utc l61 l59 s
  | irigFrameReceive ok off err utc l61 l59 => exact execIrigFrameReceive_pending ok off err utc l61 l59 s
  | ppsInEdge => exact execPpsInEdge_pending s
  | leapSecondBoundary => exact execLeapSecondBoundary_pending s
  | ppsOutPulse => exact execPpsOutPulse_pending s
  | frameReceive p b fcs fault => exact execFrameReceive_pending p b fcs fault s
  | frameEgress p => exact execFrameEgress_pending p s
  | streamSilenceExpiry n => exact execStreamSilenceExpiry_pending n s
  | rateSecondBoundary => exact execRateSecondBoundary_pending s
  | quarantineHoldExpiry n => exact execQuarantineHoldExpiry_pending n s
  | timeAllowedToLiveExpiry n => exact execTimeAllowedToLiveExpiry_pending n s
  | frameRingEnable ii n v => exact execFrameRingEnable_pending ii n v s
  | frameRingDoorbell ii n v => exact execFrameRingDoorbell_pending ii n v s
  | harvestWindowClose n => exact execHarvestWindowClose_pending n s
  | harvestSealDone n w => exact execHarvestSealDone_pending n w s
  | harvestVerifyDone n => exact execHarvestVerifyDone_pending n s
  | assemblyTimeout n => exact execAssemblyTimeout_pending n s
  | pendingFrameTimeout n => exact execPendingFrameTimeout_pending n s
  | noiseWindowComplete r rct apt => exact execNoiseWindowComplete_pending r rct apt s
  | seedConditioned r => exact execSeedConditioned_pending r s
  | reseedDue r => exact execReseedDue_pending r s
  | expanderGenerate r => exact execExpanderGenerate_pending r s
  | randomDrawServed r => exact execRandomDrawServed_pending r s
  | randomDrawTimeout j => exact execRandomDrawTimeout_pending j s
  | donorSeedWrap asker => exact execDonorSeedWrap_pending asker s
  | borrowedSeedArrival r ok => exact execBorrowedSeedArrival_pending r ok s
  | seedRequestRetry r => exact execSeedRequestRetry_pending r s
  | borrowAdvanceDue r => exact execBorrowAdvanceDue_pending r s
  | sourceRestartDone r pass => exact execSourceRestartDone_pending r pass s
  | rngStartupComplete r => exact execRngStartupComplete_pending r s
  | maskSeedArrival r p => exact execMaskSeedArrival_pending r p s
  | maskStreamLockstepFault r p => exact execMaskStreamLockstepFault_pending r p s
  | rootReady => exact execRootReady_pending s
  | eccError a corrected => exact execEccError_pending a corrected s
  | dupMismatch r k n pair => exact execDupMismatch_pending r k n pair s
  | seqCheckFault r k n => exact execSeqCheckFault_pending r k n s
  | panWatchdogTrip r p => exact execPanWatchdogTrip_pending r p s
  | selfTestResult q pass => exact execSelfTestResult_pending q pass s
  | sluiceExpiry q => exact execSluiceExpiry_pending q s
  | fltAck n => exact execFltAck_pending n s
  | fltInject v => exact execFltInject_pending v s
  | disturbance u => exact execDisturbance_pending u s
  | disturbanceClear u ns => exact execDisturbanceClear_pending u ns s
  | tamperAlarm us partner => exact execTamperAlarm_pending us partner s
  | eraseEvidenceBurn => exact execEraseEvidenceBurn_pending s
  | zeroizeNAssert ns => exact execZeroizeNAssert_pending ns s
  | tampInAssert n high ns => exact execTampInAssert_pending n high ns s
  | monitorStimulation responds => exact execMonitorStimulation_pending responds s
  | vbatLow mv => exact execVbatLow_pending mv s
  | pwrgdMainRise straps b => exact execPwrgdMainRise_pending straps b s
  | vbatApplied => exact execVbatApplied_pending s
  | vbatLost => exact execVbatLost_pending s
  | wakeNLow ns b => exact execWakeNLow_pending ns b s
  | pcieLinkWake b => exact execPcieLinkWake_pending b s
  | selfTestComplete apex => exact execSelfTestComplete_pending apex s
  | regionDrained r => exact execRegionDrained_pending r s
  | drainTimeout r => exact execDrainTimeout_pending r s
  | regionTestingDone r pass => exact execRegionTestingDone_pending r pass s
  | regionLoadingDone r oks => exact execRegionLoadingDone_pending r oks s
  | regionRejoinDone r => exact execRegionRejoinDone_pending r s
  | pointWrite r v => exact execPointWrite_pending r v s
  | pointSwitchDone r mv ok => exact execPointSwitchDone_pending r mv ok s
  | panIdleTimeout r p => exact execPanIdleTimeout_pending r p s
  | panNapTimeout r p => exact execPanNapTimeout_pending r p s
  | linkRetry r => exact execLinkRetry_pending r s
  | linkLaneFailure r m => exact execLinkLaneFailure_pending r m s
  | rakePass r finished err => exact execRakePass_pending r finished err s
  | agingEvaluation r target slack ok => exact execAgingEvaluation_pending r target slack ok s
  | thermalThreshold die level up => exact execThermalThreshold_pending die level up s
  | heartbeatLapse => exact execHeartbeatLapse_pending s
  | watchdogReset => exact execWatchdogReset_pending s
  | skanelLockstepMismatch => exact execSkanelLockstepMismatch_pending s
  | bitternSlotWritten => exact execBitternSlotWritten_pending s
  | cardInsert ns blocks hdr recs init mode phase => exact execCardInsert_pending ns blocks hdr recs init mode phase s
  | cardRemove ns => exact execCardRemove_pending ns s
  | cardEject => exact execCardEject_pending s
  | cardBusyEnd => exact execCardBusyEnd_pending s
  | cardBusyTimeout => exact execCardBusyTimeout_pending s
  | badAccess fn a size write => exact execBadAccess_pending fn a size write s
  | registerWrite fn a wide v => exact execRegisterWrite_pending fn a wide v s
  | kInterruptEntry c n => exact execKInterruptEntry_pending c n s
  | custYield c => exact execCustYield_pending c s
  | safePointWatchdogTrip c maxUs => exact execSafePointWatchdogTrip_pending c maxUs s
  | seqStep c => exact execSeqStep_pending c s
  | seqBranch c => exact execSeqBranch_pending c s
  | seqCall c => exact execSeqCall_pending c s
  | seqRet c => exact execSeqRet_pending c s
  | seqRun c => exact execSeqRun_pending c s
  | seqEnd c => exact execSeqEnd_pending c s
  | seqFail c => exact execSeqFail_pending c s
  | kAluOp _ _ _ => exact kword_kept _ _ _ _ _
  | kMulU _ _ _ => exact kword_kept _ _ _ _ _
  | kMulS _ _ _ => exact kword_kept _ _ _ _ _
  | kMacU _ _ _ => exact kword_kept _ _ _ _ _
  | kLd _ _ _ => exact kword_kept _ _ _ _ _
  | kSt _ _ _ => exact kword_kept _ _ _ _ _
  | kLda _ _ _ => exact kword_kept _ _ _ _ _
  | kSta _ _ _ => exact kword_kept _ _ _ _ _
  | kBranch _ _ _ => exact kword_kept _ _ _ _ _
  | kJmp _ _ _ => exact kword_kept _ _ _ _ _
  | kCall _ _ _ => exact kword_kept _ _ _ _ _
  | kJmpr _ _ _ => exact kword_kept _ _ _ _ _
  | kCallr _ _ _ => exact kword_kept _ _ _ _ _
  | kRet _ _ _ => exact kword_kept _ _ _ _ _
  | kLoop _ _ _ => exact kword_kept _ _ _ _ _
  | kRep c stall w w2 => exact execKRep_pending c stall w w2 s
  | kRepi c stall w w2 => exact execKRepi_pending c stall w w2 s
  | kFpOp _ _ _ => exact kword_kept _ _ _ _ _
  | kPackedOp _ _ _ => exact kword_kept _ _ _ _ _
  | kFldD _ _ _ => exact kword_kept _ _ _ _ _
  | kFstD _ _ _ => exact kword_kept _ _ _ _ _
  | kSetvl _ _ _ => exact kword_kept _ _ _ _ _
  | kVectorArith _ _ _ => exact kword_kept _ _ _ _ _
  | kVld _ _ _ => exact kword_kept _ _ _ _ _
  | kVldFirstFault _ _ _ => exact kword_kept _ _ _ _ _
  | kVst _ _ _ => exact kword_kept _ _ _ _ _
  | kVectorMove _ _ _ => exact kword_kept _ _ _ _ _
  | kDatapathCommand _ _ _ => exact kword_kept _ _ _ _ _
  | kCtlrd _ _ _ => exact kword_kept _ _ _ _ _
  | kCtlwr _ _ _ => exact kword_kept _ _ _ _ _
  | kCtlset _ _ _ => exact kword_kept _ _ _ _ _
  | kCtlclr _ _ _ => exact kword_kept _ _ _ _ _
  | kFence _ _ _ => exact kword_kept _ _ _ _ _
  | kWfi _ _ _ => exact kword_kept _ _ _ _ _
  | kRete _ _ _ => exact kword_kept _ _ _ _ _
  | kTrap _ _ _ => exact kword_kept _ _ _ _ _
  | kBreak _ _ _ => exact kword_kept _ _ _ _ _
  | kPairedWord _ _ _ => exact kword_kept _ _ _ _ _
  | tapExtest pins tdi => exact execTapExtest_pending pins tdi s
  | tapSamplePreload pins tdi => exact execTapSamplePreload_pending pins tdi s
  | tapIdcode => exact execTapIdcode_pending s
  | tapHighz pins tdi => exact execTapHighz_pending pins tdi s
  | tapClamp pins tdi => exact execTapClamp_pending pins tdi s
  | tapExtestPulse pins tdi => exact execTapExtestPulse_pending pins tdi s
  | tapExtestTrain pins tdi => exact execTapExtestTrain_pending pins tdi s
  | tapLcStatus => exact execTapLcStatus_pending s
  | tapDbgAuth b => exact execTapDbgAuth_pending b s
  | tapDbgClose => exact execTapDbgClose_pending s
  | tapDbgRead x => exact execTapDbgRead_pending x s
  | tapDbgWrite fn a v => exact execTapDbgWrite_pending fn a v s
  | tapDbgHalt c o => exact execTapDbgHalt_pending c o s
  | tapDbgRun c n args ins => exact execTapDbgRun_pending c n args ins s
  | tapFtScan tdi => exact execTapFtScan_pending tdi s
  | tapFtBist tdi => exact execTapFtBist_pending tdi s
  | tapFtFuse x => exact execTapFtFuse_pending x s
  | tapBypass tdi => exact execTapBypass_pending tdi s
  | regionSramWiped r => exact execRegionSramWiped_pending r s
  | perstNDeassert => exact execPerstNDeassert_pending s
  | framePortLinkChange p up => exact execFramePortLinkChange_pending p up s
  | tcxoToleranceChange ok => exact execTcxoToleranceChange_pending ok s
  | lmsNextTreeReady id => exact execLmsNextTreeReady_pending id s
  | stimulationWindowEnd u alarm => exact execStimulationWindowEnd_pending u alarm s
  | errorPairPhaseToggle => exact execErrorPairPhaseToggle_pending s
  | hostMemoryCompletion u a => exact execHostMemoryCompletion_pending u a s
  | cardCommandResponse ok => exact execCardCommandResponse_pending ok s
  | digWinCompressionDone => exact execDigWinCompressionDone_pending s
  | pwrgdMainFall => exact execPwrgdMainFall_pending s
  | pwrgdAonFall => exact execPwrgdAonFall_pending s
  | perstNAssert b => exact execPerstNAssert_pending b s

/-- Settles O2: command by command, what each does gives a state whose queue is that of before. -/
theorem everyCommandLeavesTheQueue : Obligations.EveryCommandLeavesTheQueue := fun i s => exec_queueKept i s

end Sys2Proof.Machine
end
